-- ==== Sys2Proof/Word.lean ====
section
/-! DEFINITION. The machine word, the tick and the sparse store: the types every other file is written over. -/

namespace Sys2Proof

/-- A register word (R3). -/
abbrev Word := BitVec 32

/-- A tick of the 1.5 GHz timing plane: a 48-bit counter that wraps (R2, R27). -/
abbrev Tick := BitVec 48

/-- Sparse data by number, held in one canonical form: keys strictly rising, and no entry equal to what an unlisted key
reads as. The operations are in Machine/Ops.lean. -/
abbrev Store (α : Type) := List (Nat × α)

end Sys2Proof
end

