-- ==== Sys2Proof/Syntax.lean ====
section
/-! DEFINITION. The commands: one constructor per row of the operation table, with the row's instance numbers, written
values, and what the world outside the block supplies (samples, flits, descriptors, verdicts). -/

namespace Sys2Proof

/-- The commands, in the order of the operation table. -/
inductive Instr where
  /-- REGISTER_WRITE (R5): a write to a register that has no row of its own updates its fields by their access codes, or is ignored where the owning chapter says so. -/
  | registerWrite (addr : BitVec 26) (v : Word) (party : Fin 2)
  /-- TPL_TICK_LO_READ (R26): a read of TPL_TICK_LO returns TICK[31:0] and latches TICK[47:32] into TPL_TICK_HI. -/
  | tplTickLoRead
  /-- LM_DEV_MIN_READ (R39): a read of LM_DEV_MIN returns and clears the lowest lock lead margin, and re-enables LM_LOW faults from the reported lock. -/
  | lmDevMinRead
  /-- LOCK_LATE_TICK_READ (R43): a read of LOCK_LATE_TICK_LO latches the high half of the first late tick. -/
  | lockLateTickRead (l : Fin 144)
  /-- ORDER_EMIT (R30): a pilot writes an order stamped with TC into its berth's pound, once the pound has a free entry. -/
  | orderEmit (b : Fin 64)
  /-- ORDER_TAKE_IN (R30): a synthesis path takes the order at the head of the pound, frees its entry and applies the order to its tone, line or lane state. -/
  | orderTakeIn (b : Fin 64)
  /-- SYNTHESIS_TICK (R143): a synthesis path computes one tick of its timeline (envelope, interpolation, upconversion, summing, flux filter) and forms the lock entry for that tick. -/
  | synthesisTick (b : Fin 64) (p : Fin 3) (lane : Fin 5) (flaws : List (Fin 13 × Fin 4 × Bool))
  /-- LOCK_ENTRY_ARRIVE (R41): an entry formed by a synthesis path becomes present in a lock lane; an entry that arrives after its tick minus 2 is discarded. -/
  | lockEntryArrive (l : Fin 192)
  /-- BARGE_RELEASE (R15): in each tick a lock releases the barge and actions stamped with that tick to its converter. -/
  | bargeRelease (l : Fin 144)
  /-- MRK_PIN_UPDATE (R130): a marker pin changes 4 ticks after the release of its line's action or after an MRK_SEL write. -/
  | mrkPinUpdate (n : Fin 16)
  /-- MRK_PULSE_END (R130): a segment-start pulse on a marker line ends after MRK_SEL.WIDTH ticks. -/
  | mrkPulseEnd (n : Fin 16)
  /-- DECISION_READY (R47): a decision reaches the crossbar entry stage; if its entry tick has passed it enters at once and raises XBAR_LATE. -/
  | decisionReady (src : Fin 256)
  /-- XBAR_ENTRY (R46): at its entry tick the entry stage releases a decision into the crossbar queue, spaced at least 4 ticks from its source's previous entry. -/
  | xbarEntry (src : Fin 256)
  /-- XBAR_SERVE (R48): each tick the crossbar serves up to 64 queued local decisions and forms export flits for them. -/
  | xbarServe
  /-- DECISION_DELIVERY (R48): a served decision is delivered to every lock, pilot, acquisition unit and event channel 3 ticks after it is served. -/
  | decisionDelivery
  /-- BRANCH_DEFAULT (R54): a context with no valid matching decision at the end of tick TB minus 2 resolves to its default lane. -/
  | branchDefault (b : Fin 64) (c : Fin 2)
  /-- WAITD_DEADLINE (R73): a WAITD with no valid matching decision by the end of tick TC minus 2 takes its default and raises LATE_DECISION. -/
  | waitdDeadline (b : Fin 64)
  /-- CONTEXT_FREE (R56): a branch context is freed at the end of tick TB plus 63 in every lock of the berth. -/
  | contextFree (b : Fin 64) (c : Fin 2)
  /-- RUN_AHEAD_RESUME (R66): a pilot stalled by the run-ahead limit resumes once TC minus TICK no longer exceeds MAX_LEAD. -/
  | runAheadResume (b : Fin 64)
  /-- BATCH_START (R87): at the batch start tick a pilot sets its state and begins at the entry address, opening the first shot. -/
  | batchStart (b : Fin 64)
  /-- MOV (R68): copies one variable to another. -/
  | mov (b : Fin 64)
  /-- MOVI (R68): loads a sign-extended constant into a variable. -/
  | movi (b : Fin 64)
  /-- ADD (R68): adds two operands and sets Z, N and C. -/
  | add (b : Fin 64)
  /-- SUB (R68): subtracts two operands and sets Z, N and C. -/
  | sub (b : Fin 64)
  /-- AND (R68): bitwise AND of two operands. -/
  | and (b : Fin 64)
  /-- OR (R68): bitwise OR of two operands. -/
  | or (b : Fin 64)
  /-- XOR (R68): bitwise XOR of two operands. -/
  | xor (b : Fin 64)
  /-- SHL (R68): shifts a variable left. -/
  | shl (b : Fin 64)
  /-- SHR (R68): shifts a variable logically right. -/
  | shr (b : Fin 64)
  /-- SAR (R68): shifts a variable arithmetically right. -/
  | sar (b : Fin 64)
  /-- MUL (R68): writes the low 32 bits of the signed product. -/
  | mul (b : Fin 64)
  /-- MULQ (R68): forms a rounded, saturated Q1.17 product. -/
  | mulq (b : Fin 64)
  /-- CMP (R68): sets flags as SUB without writing a result. -/
  | cmp (b : Fin 64)
  /-- TST (R68): sets flags as AND without writing a result. -/
  | tst (b : Fin 64)
  /-- LDP (R68): loads a parameter memory word into a variable. -/
  | ldp (b : Fin 64)
  /-- STP (R68): stores a variable into parameter memory. -/
  | stp (b : Fin 64)
  /-- GETTC (R68): copies TC into a variable pair. -/
  | gettc (b : Fin 64)
  /-- GETTK (R68): copies TICK at execution into a variable pair. -/
  | gettk (b : Fin 64)
  /-- GETD (R86): copies the decision status into a variable. -/
  | getd (b : Fin 64)
  /-- GETSID (R68): copies SHOT_ID into a variable. -/
  | getsid (b : Fin 64)
  /-- NOP (R68): does nothing. -/
  | nop (b : Fin 64)
  /-- JMP (R69): transfers control unconditionally. -/
  | jmp (b : Fin 64)
  /-- JCC (R69): transfers control when its flag condition holds. -/
  | jcc (b : Fin 64)
  /-- CALL (R70): pushes the return address and transfers control. -/
  | call (b : Fin 64)
  /-- RET (R70): pops the return address and the repeat levels pushed since the call. -/
  | ret (b : Fin 64)
  /-- REP (R71): starts a zero-overhead repeat of a block. -/
  | rep (b : Fin 64)
  /-- WAIT (R72): advances TC by n. -/
  | wait (b : Fin 64)
  /-- AT (R72): sets TC to the shot origin plus n. -/
  | atTick (b : Fin 64)
  /-- TSYNC (R72): sets TC to the later of TC and TICK plus n. -/
  | tsync (b : Fin 64)
  /-- WAITE (R72): opens the cursor and stalls until an event channel fires at the pilot's task input. -/
  | waite (b : Fin 64)
  /-- WAITD (R73): opens the cursor and stalls until a decision resolves without arming a lock context. -/
  | waitd (b : Fin 64)
  /-- PLAY (R74): emits a tone play order on a drive tone. -/
  | play (b : Fin 64)
  /-- FREQ (R141): emits a frequency set order for a drive tone. -/
  | freq (b : Fin 64)
  /-- PHASE (R74): emits a phase shift order for a drive tone. -/
  | phase (b : Fin 64)
  /-- PROBE (R74): emits a probe play order on a berth probe tone. -/
  | probe (b : Fin 64)
  /-- FREQP (R172): emits a frequency set order for a probe and demodulation tone pair. -/
  | freqp (b : Fin 64)
  /-- PHASEP (R172): emits a phase shift order for a probe and demodulation tone pair. -/
  | phasep (b : Fin 64)
  /-- FLUX (R148): emits a flux pulse play order on the berth's flux line. -/
  | flux (b : Fin 64)
  /-- BIAS (R74): emits a bias set order for the berth's flux line. -/
  | bias (b : Fin 64)
  /-- MOPEN (R76): emits a measure window open order. -/
  | mopen (b : Fin 64)
  /-- MCLOSE (R76): emits a measure window close order. -/
  | mclose (b : Fin 64)
  /-- MARK (R74): emits a marker order setting pilot marker lines and pulsing event producer lines. -/
  | mark (b : Fin 64)
  /-- BRD (R77): arms a branch context with a branch-arm order and starts staging alternative A, waiting for a free context if needed. -/
  | brd (b : Fin 64)
  /-- JOIN (R78): ends an alternative; after alternative B the pilot stalls until the branch resolves, then sets TC to TB plus 64. -/
  | join (b : Fin 64)
  /-- SHOT (R88): emits the closing shot boundary and opens the next shot or ends the batch. -/
  | shot (b : Fin 64)
  /-- HALT (R89): emits a closing shot boundary and ends the batch. -/
  | halt (b : Fin 64)
  /-- SHOT_HOLD_RESUME (R91): a pilot held at SHOT resumes when the hold is released, setting TC to at least TICK plus RESUME_LEAD. -/
  | shotHoldResume (b : Fin 64)
  /-- PILOT_STOP (R92): a pending stop is acted on at a safe point, discarding orders and entries from tick X and ending the shot ABANDONED. -/
  | pilotStop (b : Fin 64)
  /-- STATE_SNAPSHOT (R111): at a safe point a pending snapshot request copies variables, flags, TC and PC to the shadow registers. -/
  | stateSnapshot (b : Fin 64)
  /-- PLT_CTRL_STOP (R111): writing PLT_CTRL.STOP requests an immediate stop of the pilot. -/
  | pltCtrlStop (b : Fin 64)
  /-- PLT_CTRL_STOP_BND (R92): writing PLT_CTRL.STOP_BND requests a stop at the next SHOT. -/
  | pltCtrlStopBnd (b : Fin 64)
  /-- PLT_CTRL_SNAP (R111): writing PLT_CTRL.SNAP requests a state snapshot. -/
  | pltCtrlSnap (b : Fin 64)
  /-- PLT_PM_DATA_ACCESS (R98): an access to PLT_PM_DATA reads or writes the program word at PLT_PM_ADDR and increments the address. -/
  | pltPmDataAccess (b : Fin 64) (write : Option Word)
  /-- PND_VIEW_SEL_WRITE (R105): writing PND_VIEW_SEL copies the selected pound entry into the view data registers. -/
  | pndViewSelWrite (b : Fin 64) (idx : BitVec 6)
  /-- SHL_LAST_DONE_READ (R96): a read of SHL_LAST_DONE latches a consistent snapshot of the other ledger registers. -/
  | shlLastDoneRead (b : Fin 64)
  /-- UC_SCRUB (R116): the scrubber reads and checks one control store word every PERIOD microseconds. -/
  | ucScrub (b : Fin 64) (flaw : Fin 3)
  /-- UC_RELOAD_DONE (R115): the management core completes reloading a control store from its verified image and sets UC_VALID. -/
  | ucReloadDone (b : Fin 64)
  /-- UC_PATCH_APPLY (R118): the management core rewrites an idle pilot's control store with a committed patch and clears PATCH_PEND. -/
  | ucPatchApply (b : Fin 64) (level : BitVec 8)
  /-- SEG_COMMIT (R126): sEG_CTRL.COMMIT writes SEG_DATA into a segment descriptor in one step. -/
  | segCommit (idx : BitVec 17) (read : Bool)
  /-- SEG_READ (R126): sEG_CTRL.READ copies a segment descriptor into SEG_DATA. -/
  | segRead (idx : BitVec 17)
  /-- BASIN_WINDOW_WRITE (R122): a basin window write merges its bits into each touched pair in one read-modify-write with fresh check bits. -/
  | basinWindowWrite (word : Fin 0xC00000) (v : Word) (ded : Bool)
  /-- BASIN_WINDOW_READ (R122): a basin window read returns the stored bits and raises BASIN_DED on a double-bit error. -/
  | basinWindowRead (word : Fin 0xC00000) (flaw : Fin 3)
  /-- BASIN_SCRUB (R123): the basin scrubber reads and checks one pair every PERIOD microseconds. -/
  | basinScrub (flaw : Fin 3)
  /-- BLOCK_FETCH_DONE (R133): a streamed block read from SDRAM completes into a tone's prefetch buffer. -/
  | blockFetchDone (b : Fin 64) (t : Fin 13) (chan : Fin 4) (err : Fin 3)
  /-- FETCH_DEADLINE (R132): at a block's fetch deadline an absent block is missing and starts an under-run episode. -/
  | fetchDeadline (b : Fin 64) (t : Fin 13)
  /-- SYN_JMP_GO (R137): writing SYN_JMP.GO registers a jump request for a tone. -/
  | synJmpGo (b : Fin 64) (w : Word)
  /-- SYN_ORIGIN_WRITE (R141): writing SYN_ORIGIN_HI latches the frame origin pair. -/
  | synOriginWrite (hi : BitVec 16)
  /-- MRK_SEL_WRITE (R130): a write of MRK_SEL selects a new line for a marker pin, shown 4 ticks later. -/
  | mrkSelWrite (n : Fin 16) (w : Word)
  /-- DRV_EN_SET (R147): setting DRV_CFG.EN moves the drive lock from OFF to IDLE. -/
  | drvEnSet (b : Fin 64)
  /-- DRV_EN_CLEAR (R147): clearing DRV_CFG.EN moves the drive lock to OFF and opens the series switch. -/
  | drvEnClear (b : Fin 64)
  /-- DRV_MIX_WRITE (R146): a write of DRV_CFG.MIX takes effect only if EN was 0 before the write, otherwise sets CFG_REJ. -/
  | drvMixWrite (b : Fin 64) (mix : Bool)
  /-- PRB_EN_SET (R147): setting PRB_CFG.EN moves the probe lock from OFF to IDLE. -/
  | prbEnSet (n : Fin 16)
  /-- PRB_EN_CLEAR (R147): clearing PRB_CFG.EN moves the probe lock to OFF and opens the series switch. -/
  | prbEnClear (n : Fin 16)
  /-- PRB_MIX_WRITE (R146): a write of PRB_CFG.MIX takes effect only if EN was 0 before the write, otherwise sets CFG_REJ. -/
  | prbMixWrite (n : Fin 16) (mix : Bool)
  /-- FLX_FILTER_WRITE (R156): a write to FLX_EXP, FLX_FIR or PD_EN is accepted only while the pilot is IDLE and the filter quiet. -/
  | flxFilterWrite (b : Fin 64) (which : Fin 81) (v : Word)
  /-- FLX_EN_SET (R162): setting FLX_CFG.EN moves the pulse lock to IDLE with the clamp still closed. -/
  | flxEnSet (b : Fin 64)
  /-- FLX_EN_CLEAR (R164): clearing FLX_CFG.EN turns the pulse lock OFF, clears the filter and slews the bias to 0 before clamping. -/
  | flxEnClear (b : Fin 64)
  /-- FLX_BIAS_WRITE (R158): a write to FLX_BIAS_WR sets the bias target, or is stored without effect where R158 or R165 forbid. -/
  | flxBiasWrite (b : Fin 64) (code : BitVec 18)
  /-- BIAS_STROBE (R157): at each strobe tick the bias DAC steps or jumps towards its target and the clamp opens or closes. -/
  | biasStrobe (b : Fin 64)
  /-- DEGLITCH_RELEASE (R160): at the end of the deglitch hold the output stage is released to the new bias code. -/
  | deglitchRelease (b : Fin 64)
  /-- RANGE_CHANGE_REQUEST (R165): writing FLX_RC.GO starts a range change if the berth is idle, the lock not in RUN and the clamp open. -/
  | rangeChangeRequest (b : Fin 64) (w : Word)
  /-- RANGE_CHANGE_STEP (R166): a step of an accepted range change ends and the next begins, ending with RC_BUSY cleared. -/
  | rangeChangeStep (b : Fin 64)
  /-- CURRENT_LIMIT_CHANGE (R168): the flux output stage engages or releases its 24 mA current limit. -/
  | currentLimitChange (b : Fin 64) (engaged : Bool)
  /-- SC_EPISODE_START (R168): a current limit held for 64 ticks starts a short-circuit episode and raises FLX_SC, with the SC_ACT action. -/
  | scEpisodeStart (b : Fin 64)
  /-- SC_EPISODE_END (R168): a short-circuit episode ends after 1,500 ticks without limiting. -/
  | scEpisodeEnd (b : Fin 64)
  /-- PARK_STROBE (R170): every 1,500 ticks of an emergency park the bias moves 8,192 LSB towards 0 and the clamp closes on reaching 0. -/
  | parkStrobe (b : Fin 64)
  /-- READOUT_SAMPLE_INGRESS (R177): a tick of read-out samples crosses into the interior, is stamped and is demodulated, integrated and marked valid or invalid. -/
  | readoutSampleIngress (n : Fin 16) (x0 : BitVec 18) (x1 : BitVec 18) (x2 : BitVec 18) (x3 : BitVec 18) (ovr : BitVec 4) (drop : BitVec 4) (slack : Fin 33)
  /-- RDI_ATT_WRITE (R176): a write of RDI_ATT that changes attenuation unsettles 24 pin ticks from the change tick. -/
  | rdiAttWrite (n : Fin 16) (att : BitVec 6)
  /-- RDI_EN_SET (R176): setting RDI_CFG.EN powers the cores and unsettles 24 pin ticks. -/
  | rdiEnSet (n : Fin 16)
  /-- RDI_EN_CLEAR (R176): clearing RDI_CFG.EN powers down the cores and makes pin ticks offline from the change tick. -/
  | rdiEnClear (n : Fin 16)
  /-- RDI_INJ_WRITE (R176): a change of RDI_CFG.INJ switches the injection path and unsettles 16 pin ticks. -/
  | rdiInjWrite (n : Fin 16) (inj : Bool)
  /-- RDI_MODE_WRITE (R173): a write of RDI_CFG.MODE is accepted only while EN was 0, otherwise sets CFG_REJ. -/
  | rdiModeWrite (n : Fin 16) (mode : Bool)
  /-- RDI_LOF_WRITE (R173): writing RDI_LOF_HI latches the local oscillator word if EN is 0. -/
  | rdiLofWrite (n : Fin 16) (hi : BitVec 16)
  /-- DEM_LAST_DEC_READ (R190): a read of DEM_LAST_DEC latches the point and end tick of the same window. -/
  | demLastDecRead (n : Fin 16) (k : Fin 16)
  /-- KRN_JOB_HANDOVER (R194): at END plus 14 a closed SEL=1 window places a job in its kernel engine's queue. -/
  | krnJobHandover (n : Fin 16)
  /-- PARTIAL_POINT_ENTRY (R195): a partial point enters the engine's partial-point FIFO, or is dropped when the FIFO is full. -/
  | partialPointEntry (n : Fin 16)
  /-- KRN_INTERRUPT_ACCEPT (R219): at an acceptance point the kernel engine takes the highest-priority pending interrupt and vectors to its handler. -/
  | krnInterruptAccept (n : Fin 16)
  /-- KRN_ANSWER_TIMEOUT (R198): a job with no DEC by entry tick plus TMO is answered by the device with an invalid decision. -/
  | krnAnswerTimeout (n : Fin 16)
  /-- KRN_RUN_START (R201): setting KRN_CTRL.RUN resets the engine state and starts execution at address 0. -/
  | krnRunStart (n : Fin 16)
  /-- KRN_RUN_STOP (R222): clearing KRN_CTRL.RUN stops the engine and answers every queued job. -/
  | krnRunStop (n : Fin 16)
  /-- KRN_SWAP_REQUEST (R204): writing KRN_CTRL.SWAP requests a parameter bank swap at the next acceptance point. -/
  | krnSwapRequest (n : Fin 16)
  /-- KRN_HREQ (R218): writing KRN_CTRL.HREQ raises a host-request interrupt to the engine. -/
  | krnHreq (n : Fin 16)
  /-- KRN_HOST_ACCESS (R203): a host access to kernel data or program memory is served or refused by RUN and the active bank. -/
  | krnHostAccess (n : Fin 16) (word : Fin 36864) (write : Option Word)
  /-- KRN_NOP (R211): kernel NOP. -/
  | krnNop (n : Fin 16) (par : Bool)
  /-- KRN_LD (R211): loads a data word into an operand register. -/
  | krnLd (n : Fin 16) (par : Bool)
  /-- KRN_LDD (R211): loads two data words into two operand registers. -/
  | krnLdd (n : Fin 16) (par : Bool)
  /-- KRN_ST (R209): stores a narrowed accumulator to data memory. -/
  | krnSt (n : Fin 16) (par : Bool)
  /-- KRN_STL (R211): loads a word and stores a narrowed accumulator in one instruction. -/
  | krnStl (n : Fin 16) (par : Bool)
  /-- KRN_STX (R211): stores an operand register to data memory. -/
  | krnStx (n : Fin 16) (par : Bool)
  /-- KRN_LDI (R211): loads an immediate into an operand register. -/
  | krnLdi (n : Fin 16) (par : Bool)
  /-- KRN_GETJ (R211): reads job data, PPK or a host input into an operand register. -/
  | krnGetj (n : Fin 16) (par : Bool)
  /-- KRN_PUTH (R211): writes an operand register to KRN_HOUT. -/
  | krnPuth (n : Fin 16) (par : Bool)
  /-- KRN_MVXA (R211): moves an operand register into an address register. -/
  | krnMvxa (n : Fin 16) (par : Bool)
  /-- KRN_MVAX (R209): moves a narrowed accumulator into an operand register. -/
  | krnMvax (n : Fin 16) (par : Bool)
  /-- KRN_LAX (R211): loads an address register with an immediate. -/
  | krnLax (n : Fin 16) (par : Bool)
  /-- KRN_LAXK (R211): loads an address register with an immediate plus the job's k shifted. -/
  | krnLaxk (n : Fin 16) (par : Bool)
  /-- KRN_LAML (R206): sets an address mode's modulo length and bit-reverse flag. -/
  | krnLaml (n : Fin 16) (par : Bool)
  /-- KRN_LAMS (R205): sets an address mode's step. -/
  | krnLams (n : Fin 16) (par : Bool)
  /-- KRN_MUL (R208): multiplies two operand registers into an accumulator. -/
  | krnMul (n : Fin 16) (par : Bool)
  /-- KRN_MULX (R208): multiplies an operand register by a data word into an accumulator. -/
  | krnMulx (n : Fin 16) (par : Bool)
  /-- KRN_MULM (R208): multiplies two data words into an accumulator. -/
  | krnMulm (n : Fin 16) (par : Bool)
  /-- KRN_ADDA (R210): adds a shifted accumulator to another. -/
  | krnAdda (n : Fin 16) (par : Bool)
  /-- KRN_SUBA (R210): subtracts a shifted accumulator from another. -/
  | krnSuba (n : Fin 16) (par : Bool)
  /-- KRN_ADDI (R211): adds a scaled immediate to an accumulator. -/
  | krnAddi (n : Fin 16) (par : Bool)
  /-- KRN_SHA (R209): shifts an accumulator left or right with rounding. -/
  | krnSha (n : Fin 16) (par : Bool)
  /-- KRN_CMPA (R210): sets flags from the difference of two accumulators. -/
  | krnCmpa (n : Fin 16) (par : Bool)
  /-- KRN_TMIN (R211): keeps the smaller accumulator and records its index in ST. -/
  | krnTmin (n : Fin 16) (par : Bool)
  /-- KRN_POPP (R211): pops a partial point from the FIFO into X2, X3 and PPK. -/
  | krnPopp (n : Fin 16) (par : Bool)
  /-- KRN_DEC (R197): issues the kernel decision of the job being handled. -/
  | krnDec (n : Fin 16) (par : Bool)
  /-- KRN_CLRV (R210): clears the sticky V flag. -/
  | krnClrv (n : Fin 16) (par : Bool)
  /-- KRN_BR (R214): conditional branch with two delay slots. -/
  | krnBr (n : Fin 16) (par : Bool)
  /-- KRN_CALL (R214): calls a subroutine with two delay slots. -/
  | krnCall (n : Fin 16) (par : Bool)
  /-- KRN_RET (R214): returns from a subroutine. -/
  | krnRet (n : Fin 16) (par : Bool)
  /-- KRN_RETI (R219): restores the interrupt save and ends the handler. -/
  | krnReti (n : Fin 16) (par : Bool)
  /-- KRN_REP (R216): repeats a block a fixed number of times. -/
  | krnRep (n : Fin 16) (par : Bool)
  /-- KRN_REPA (R216): repeats a block the number of times held in an address register. -/
  | krnRepa (n : Fin 16) (par : Bool)
  /-- KRN_WAITI (R219): waits for an interrupt. -/
  | krnWaiti (n : Fin 16) (par : Bool)
  /-- ACQ_COMMIT (R238): aCQ_CTRL.COMMIT submits the unit's configuration as an admission request. -/
  | acqCommit (n : Fin 16)
  /-- ACQ_ARM (R232): aCQ_CTRL.ARM arms the unit now or at ACQ_ARM_TICK and a master sends an ARM flit. -/
  | acqArm (n : Fin 16)
  /-- ACQ_STOP (R223): aCQ_CTRL.STOP moves an ARMED, FIRED or capturing unit to DONE. -/
  | acqStop (n : Fin 16)
  /-- ACQ_ARM_TICK (R232): at its arm tick the unit moves to ARMED and its trigger engine enters TRG[0]. -/
  | acqArmTick (n : Fin 16)
  /-- TRG_TIMER_EXPIRY (R228): a trigger state's HOLDOFF, WINDOW or DELAY time expires. -/
  | trgTimerExpiry (n : Fin 16)
  /-- ARM_FLIT_RELEASE (R318): a master holds its ARM flit until TICK reaches the arm tick minus 2^26 and then sends it. -/
  | armFlitRelease
  /-- ARM_FLIT_RECEIVE (R232): a received ARM flit arms a READY or DONE group unit at its arm tick, or at once if late. -/
  | armFlitReceive (p : Fin 6) (w : BitVec 64)
  /-- FIRE_FLIT_RECEIVE (R230): a received FIRE flit sets or moves earlier the unit's adopted fire tick. -/
  | fireFlitReceive (arrival : Option (Fin 6 × BitVec 64))
  /-- ACQ_FIRE_TICK (R223): at the fire tick the unit moves to CAPTURE and may pulse its fire event channel. -/
  | acqFireTick (n : Fin 16)
  /-- ACQ_RECORD_WRITE (R237): the records and averaging of a captured window are written to SDRAM after its decision's delivery. -/
  | acqRecordWrite (n : Fin 16) (bad : Bool)
  /-- ACQ_END_RECORDS (R237): after a capture ends the AVG, COUNTS and END records are written. -/
  | acqEndRecords (n : Fin 16)
  /-- ADM_LIMIT_WRITE (R238): a write of ADM_CFG.LIMIT submits an admission request. -/
  | admLimitWrite (v : BitVec 24)
  /-- MAX_PLAYS_WRITE (R238): a write of SYN_STREAM_CFG.MAX_PLAYS submits an admission request. -/
  | maxPlaysWrite (v : BitVec 8)
  /-- ADMISSION_DECIDE (R238): the device evaluates the next admission request against LIMIT and admits or rejects it. -/
  | admissionDecide
  /-- CAL_DUE_CHECK (R244): every 64 µs each converter's region temperature and age are compared to mark converters due. -/
  | calDueCheck
  /-- ROTATION_START (R245): a free spare takes the longest-waiting due converter of its group into PARALLEL. -/
  | rotationStart (c : Fin 30)
  /-- SPARE_CAL_DONE (R245): a due spare finishes its 180 µs offline calibration and becomes available. -/
  | spareCalDone (c : Fin 30) (res : Option (BitVec 512))
  /-- ROTATION_ALIGN_DONE (R246): after 1,500 ticks of parallel running the alignment is verified and a handover or hand-back may take place. -/
  | rotationAlignDone (i : Fin 240)
  /-- HANDOVER (R247): at a handover instant the spare takes over the pin and the converter goes OFFLINE. -/
  | handover (i : Fin 240)
  /-- OFFLINE_CAL_DONE (R250): a converter's 180 µs offline calibration ends, moving it to RETURN or to FAILED. -/
  | offlineCalDone (i : Fin 240) (res : Option (BitVec 512))
  /-- HAND_BACK (R247): at a handover instant the converter returns to service and records its calibration temperature. -/
  | handBack (i : Fin 240)
  /-- CAL_DEADLINE_EXPIRY (R248): when CAL_DEADLINE expires the handover or hand-back is forced at the next shot boundary or strobe. -/
  | calDeadlineExpiry (i : Fin 240)
  /-- SCAL_GO (R254): rDI_SCAL_CTRL.GO starts a ZERO or TONE system calibration step. -/
  | scalGo (n : Fin 16) (step : BitVec 2) (src : Bool)
  /-- SCAL_STEP_DONE (R255): a system calibration step ends and sets RDI_SCAL_STAT.RESULT. -/
  | scalStepDone (n : Fin 16) (level : Bool) (freq : Bool) (g0 : BitVec 18) (g1 : BitVec 18) (o0 : BitVec 18) (o1 : BitVec 18) (skew : BitVec 16)
  /-- SCAL_APPLY (R254): rDI_SCAL_CTRL.APPLY copies the new calibration values into use as a front-end change. -/
  | scalApply (n : Fin 16)
  /-- CAL_SELF (R256): cAL_CTRL.SELF starts the self-calibration command. -/
  | calSelf
  /-- SELF_CAL_DONE (R256): the self-calibration command ends after 2.4 ms and sets the deltas. -/
  | selfCalDone (res : List (Fin 270 × BitVec 512))
  /-- FUSE_COMMIT (R258): cAL_FUSE_CTRL.COMMIT with the key starts a baseline commit, or rejects it. -/
  | fuseCommit (key : BitVec 8)
  /-- FUSE_COMMIT_DONE (R259): a verified commit word makes the new generation the baseline and subtracts the snapshot deltas. -/
  | fuseCommitDone
  /-- RING_ENABLE (R263): setting RING_CFG.EN moves a ring to RUN or refuses the enable. -/
  | ringEnable (i : Fin 64) (w : Word)
  /-- RING_DOORBELL (R265): a doorbell write announces new command descriptors or releases device-produced slots. -/
  | ringDoorbell (i : Fin 64) (idx : BitVec 17)
  /-- DESCRIPTOR_FETCH (R265): the device's read of command descriptors from host memory completes and is checked for PHASE. -/
  | descriptorFetch (i : Fin 64) (descs : List (BitVec 512)) (err : Bool)
  /-- PHASE_REFETCH (R265): a descriptor with mismatched PHASE is fetched again after 250 ns. -/
  | phaseRefetch (i : Fin 64) (desc : BitVec 512) (err : Bool)
  /-- COMMAND_ISSUE (R271): a command ring issues its next descriptor once the previous one allows and completion entries are reserved. -/
  | commandIssue
  /-- LOAD_SEGMENT (R273): writes envelope data into the basin or SDRAM and optionally a segment descriptor. -/
  | loadSegment (i : Fin 64)
  /-- LOAD_PROGRAM (R274): writes program words into the program memory of the named berths. -/
  | loadProgram (i : Fin 64)
  /-- LOAD_KERNEL (R275): writes words into one space of a kernel engine and optionally swaps banks. -/
  | loadKernel (i : Fin 64)
  /-- WRITE_PARAM (R276): writes parameter memory words in the named berths. -/
  | writeParam (i : Fin 64)
  /-- STREAM_SEGMENT (R277): appends samples to a stream buffer, waiting for free space unless NOWAIT. -/
  | streamSegment (i : Fin 64)
  /-- STREAM_SEGMENT_RESUME (R277): a waiting STREAM_SEGMENT continues once the stream buffer has room. -/
  | streamSegmentResume (i : Fin 64)
  /-- START_BATCH (R278): requests a batch start at one tick on every named berth. -/
  | startBatch (i : Fin 64)
  /-- START_BATCH_ACCEPT (R278): a START_BATCH is accepted once every berth is ready, or completes START_LATE. -/
  | startBatchAccept (i : Fin 64) (mirrored : Option (BitVec 64 × BitVec 48 × BitVec 14 × Word × Word))
  /-- STOP (R279): stops the named berths and acquisition units. -/
  | stop (i : Fin 64)
  /-- READ_STATE_REGS (R280): reads register window words into host memory with normal read effects. -/
  | readStateRegs (i : Fin 64)
  /-- READ_STATE_LEDGER (R280): captures the shot ledgers of the named berths in one tick and writes them to host memory. -/
  | readStateLedger (i : Fin 64)
  /-- FENCE (R281): waits until earlier descriptors on the named rings, and optionally records, have completed. -/
  | fence (i : Fin 64)
  /-- FENCE_COMPLETE (R281): a FENCE completes when everything it waits on has completed. -/
  | fenceComplete (i : Fin 64)
  /-- CAL_REQUEST_SELF (R282): cAL_REQUEST of kind 0 requests the self-calibration command. -/
  | calRequestSelf (i : Fin 64)
  /-- CAL_REQUEST_SCAL (R282): cAL_REQUEST of kind 1 runs a system calibration step and optional APPLY. -/
  | calRequestScal (i : Fin 64)
  /-- CAL_REQUEST_DUE (R282): cAL_REQUEST of kind 2 makes a converter due now. -/
  | calRequestDue (i : Fin 64)
  /-- CAL_REQUEST_COMMIT (R282): cAL_REQUEST of kind 3 starts a baseline commit. -/
  | calRequestCommit (i : Fin 64)
  /-- BATCH_COMPLETION (R285): after a berth releases its last tick executed, its START_BATCH completion is posted with ledger values. -/
  | batchCompletion (b : Fin 64)
  /-- RESULT_DESCRIPTOR_POST (R286): the device copies acquisition records into a result ring's data area and posts a result descriptor. -/
  | resultDescriptorPost (i : Fin 64) (n : Fin 16)
  /-- IRQ_HOLDOFF_EXPIRY (R287): at the end of a ring's interrupt hold-off one message covers the descriptors written during it. -/
  | irqHoldoffExpiry (i : Fin 64)
  /-- RING_TEARDOWN (R288): rING_CTRL.TEARDOWN drains a command ring or disables a device-produced ring. -/
  | ringTeardown (i : Fin 64)
  /-- RING_DRAIN_DONE (R288): a DRAINING ring becomes DISABLED when its last issued descriptor completes. -/
  | ringDrainDone (i : Fin 64)
  /-- RING_RESUME (R267): rING_CTRL.RESUME returns a halted ring to RUN. -/
  | ringResume (i : Fin 64)
  /-- RING_STAT_READ (R268): a read of RING_STAT latches the ring's index registers from the same tick. -/
  | ringStatRead (i : Fin 64)
  /-- LANE_ENABLE_WRITE (R296): a write of TX_EN or RX_EN moves a lane to OFF or starts bring-up from CDR. -/
  | laneEnableWrite (l : Fin 32) (tx : Bool) (rx : Bool)
  /-- LANE_RESTART (R296): lANE_CTRL.RESTART restarts bring-up from CDR. -/
  | laneRestart (l : Fin 32)
  /-- LANE_LOOP_WRITE (R306): a write of LANE_CTRL.LOOP enters or leaves a loopback. -/
  | laneLoopWrite (l : Fin 32) (v : BitVec 3)
  /-- PRBS_GEN_WRITE (R307): a write of PRBS_GEN starts or stops the pattern generator where allowed. -/
  | prbsGenWrite (l : Fin 32) (v : BitVec 2)
  /-- PRBS_CHK_WRITE (R307): a write of PRBS_CHK starts or stops the pattern checker where allowed. -/
  | prbsChkWrite (l : Fin 32) (v : BitVec 2)
  /-- TXEQ_WRITE (R305): a write of LANE_TXEQ takes effect at the next block boundary. -/
  | txeqWrite (l : Fin 32) (w : BitVec 16)
  /-- RXEQ_WRITE (R305): a write changing ADAPT, CTLE or FREEZE takes effect at once. -/
  | rxeqWrite (l : Fin 32) (w : BitVec 6)
  /-- CDR_LOCK (R296): the receiver acquires its clock and the lane moves to HUNT. -/
  | cdrLock (l : Fin 32)
  /-- BLOCK_LOCK (R297): 64 consecutive valid headers declare block lock and move the lane to LOCKED. -/
  | blockLock (l : Fin 32) (inv : Bool)
  /-- BLOCK_LOCK_LOSS (R297): 16 invalid headers within 64 lose block lock and move the lane to HUNT. -/
  | blockLockLoss (l : Fin 32) (bad : BitVec 32)
  /-- ALIVE_SEND (R295): every 1,024 blocks each transmitter sends an ALIVE set. -/
  | aliveSend (l : Fin 32)
  /-- ALIVE_RECEIVE (R294): a received ALIVE updates the partner identity and with SEEN moves a LOCKED lane to UP. -/
  | aliveReceive (l : Fin 32) (w : BitVec 64) (behind : BitVec 8)
  /-- ALIVE_TIMEOUT (R296): an UP lane without ALIVE for 8,192 blocks returns to LOCKED. -/
  | aliveTimeout (l : Fin 32)
  /-- PARTNER_ABSENT_ENTRY (R296): a lane 100 ms without UP enters PARTNER_ABSENT. -/
  | partnerAbsentEntry (l : Fin 32)
  /-- PARTNER_RETRY (R298): every 10 ms a PARTNER_ABSENT lane reacquires the clock and hunts for up to 2 ms. -/
  | partnerRetry (l : Fin 32) (gained : Bool)
  /-- LANE_LOSS_TIMEOUT (R299): 10 ms without regaining a previously held block lock raises LANE_LOST. -/
  | laneLossTimeout (l : Fin 32)
  /-- CONTROL_BLOCK_RECEIVE (R293): a control block of an undefined type is discarded and counted. -/
  | controlBlockReceive (l : Fin 32) (type : BitVec 8)
  /-- EIDLE_REQUEST (R303): setting LANE_CTRL.EIDLE requests electrical idle for the port. -/
  | eidleRequest (l : Fin 32)
  /-- EIDLE_ENTRY_SEND (R303): once the port's transmit queue is empty each lane sends four EIDLE_ENTER blocks and stops driving. -/
  | eidleEntrySend (p : Fin 8)
  /-- EIDLE_ENTER_RECEIVE (R303): four consecutive EIDLE_ENTER blocks move a partner lane to EIDLE. -/
  | eidleEnterReceive (l : Fin 32)
  /-- KEEPALIVE_SEND (R303): every 1 ms a lane in EIDLE sends a keep-alive burst. -/
  | keepaliveSend (l : Fin 32)
  /-- KEEPALIVE_TIMEOUT (R303): a receiver in EIDLE with no keep-alive for 4 ms moves to HUNT. -/
  | keepaliveTimeout (l : Fin 32)
  /-- EIDLE_EXIT_REQUEST (R304): a local exit cause starts a training burst on every lane of the port. -/
  | eidleExitRequest (p : Fin 8) (clear : Bool)
  /-- PARTNER_EXIT (R304): a training burst followed by another block makes the port exit electrical idle. -/
  | partnerExit (p : Fin 8)
  /-- EIDLE_EXIT_COMPLETE (R304): after the training burst 16 valid headers move the lane to UP, or an invalid one to HUNT. -/
  | eidleExitComplete (l : Fin 32) (ok : Bool)
  /-- EYE_SCAN_GO (R308): lANE_EYE_CTRL.GO starts an eye-scan point. -/
  | eyeScanGo (l : Fin 32) (w : Word)
  /-- EYE_SCAN_DONE (R308): an eye-scan point completes its comparison and sets DONE. -/
  | eyeScanDone (l : Fin 32) (errs : Word)
  /-- FLIT_SEND (R316): a port starts the next flit of its queue in class order. -/
  | flitSend (p : Fin 6)
  /-- DECISION_FLIT_RECEIVE (R314): a DECISION flit is forwarded or delivered through its port's crossbar slot at its fixed tick. -/
  | decisionFlitReceive (p : Fin 6) (w : BitVec 64)
  /-- MAILBOX_MESSAGE_SEND (R320): a remote mailbox message is sent on a port once it holds a credit. -/
  | mailboxMessageSend (p : Fin 6)
  /-- MAILBOX_MESSAGE_RECEIVE (R320): a whole remote mailbox message is checked, forwarded or written to its destination mailbox. -/
  | mailboxMessageReceive (p : Fin 6) (head : BitVec 64) (data : List Word) (crcOk : Bool)
  /-- CREDIT_FLIT_RECEIVE (R320): a CREDIT flit returns mailbox message buffers to the sending port. -/
  | creditFlitReceive (p : Fin 6) (n : Fin 3)
  /-- PORT_HOLD_EXPIRY (R323): a port UP for MESH_HOLD microseconds returns to routing use. -/
  | portHoldExpiry (p : Fin 6)
  /-- TIME_EXCHANGE (R327): every 64 µs a child sends a timed REQ to its parent. -/
  | timeExchange (p : Fin 8) (t1 : BitVec 56)
  /-- TIME_REQ_RECEIVE (R327): a parent stamps a received REQ and answers with a RESP. -/
  | timeReqReceive (p : Fin 8) (block : BitVec 64) (t2 : BitVec 56) (t3 : BitVec 56)
  /-- TIME_RESP_RECEIVE (R329): a child computes delay and offset from a RESP and updates its trim or free-run correction. -/
  | timeRespReceive (p : Fin 8) (block : BitVec 64) (t3 : BitVec 56) (ns : Word) (frac : BitVec 24) (t2 : BitVec 56) (t4 : BitVec 56)
  /-- EXCHANGE_TIMEOUT (R327): a REQ with no RESP within 16 µs counts as a missed exchange. -/
  | exchangeTimeout
  /-- TIME_NORMAL_SWITCH (R331): at a tick with TICK[11:0] = 0 after the conditions hold the device steps TICK by D and enters normal mode. -/
  | timeNormalSwitch
  /-- TIME_NORMAL_REQUEST (R331): tIME_CTRL.NORMAL requests a switch to normal mode. -/
  | timeNormalRequest
  /-- TIME_FREE (R332): tIME_CTRL.FREE moves the device to free-run mode. -/
  | timeFree
  /-- TIME_SET (R324): tIME_CTRL.SET on the master loads TIME from TIME_SET. -/
  | timeSet
  /-- TIME_NS_READ (R334): a read of TIME_NS latches TIME_FRAC, TICK and the raw counter from the same tick. -/
  | timeNsRead
  /-- TIME_WRAP (R334): tIME_NS passing from 0xFFFF_FFFF to 0 pulses the TIME_WRAP producer line. -/
  | timeWrap
  /-- HEARTBEAT_SEND (R344): each twin sends a HEARTBEAT at every twin strobe. -/
  | heartbeatSend
  /-- HEARTBEAT_RECEIVE (R344): a received HEARTBEAT updates the partner role and with YIELD makes a standby detect. -/
  | heartbeatReceive (w : BitVec 64)
  /-- HEARTBEAT_MISS (R344): a heartbeat absent at its strobe plus 64 ticks is missed; the fourth makes a standby detect. -/
  | heartbeatMiss
  /-- MIRROR_RECEIVE (R339): a received MIRROR run is checked and applied to the standby's memories and registers. -/
  | mirrorReceive (space : Fin 6) (addr : BitVec 28) (data : List Word) (crcOk : Bool)
  /-- LOG_RECEIVE (R342): a LOG entry supplies a standby pilot's timing or data result and releases its stall. -/
  | logReceive (w : BitVec 64)
  /-- BIAS_FLIT_RECEIVE (R343): a BIAS flit schedules the standby's bias code for its strobe. -/
  | biasFlitReceive (w : BitVec 64)
  /-- TWIN_TAKE (R344): tWIN_CTRL.TAKE makes a STANDBY twin detect a failure. -/
  | twinTake
  /-- TWIN_YIELD (R345): tWIN_CTRL.YIELD makes an ACTIVE twin yield. -/
  | twinYield
  /-- TWIN_RESYNC (R350): tWIN_CTRL.RESYNC starts a resynchronisation of an OUT partner. -/
  | twinResync
  /-- TAKEOVER_SWITCH_CLOSE (R346): at the first twin strobe at or after D plus 2 the taking twin closes its bias switches. -/
  | takeoverSwitchClose
  /-- TAKEOVER_ACTIVE (R346): at the first twin strobe after RF_SETTLE the taking twin becomes ACTIVE. -/
  | takeoverActive
  /-- PARTNER_TAKE_SENSE (R347): an ACTIVE or yielding twin sensing the partner's TAKE_N low mutes, releases TAKE_N and stops its pilots. -/
  | partnerTakeSense (low : Bool)
  /-- YIELD_SWITCH_OPEN (R347): at the second twin strobe after sensing the yielding twin opens its bias switches and becomes OUT. -/
  | yieldSwitchOpen
  /-- YIELD_PARK (R345): a yielding twin parks its lines once the partner's TAKE_N is low or 50 µs have passed. -/
  | yieldPark
  /-- TWIN_PRIMARY_CLAIM (R337): a PRIMARY twin becomes ACTIVE after start-up when the partner's TAKE_N is high. -/
  | twinPrimaryClaim
  /-- RESYNC_COPY_DONE (R350): the COPY phase of a resynchronisation completes and CHECK begins. -/
  | resyncCopyDone
  /-- RESYNC_CHECK_DONE (R350): the CHECK phase completes, moving to JOIN or repeating COPY. -/
  | resyncCheckDone (same : Bool)
  /-- MBX_POST (R354): a write of MBX_CTRL.GO posts a message, sets FULL and pulses the FULL line. -/
  | mbxPost (m : Fin 32) (len : BitVec 4) (party : Fin 2)
  /-- MBX_ACK (R355): a consumer write of MBX_CTRL.ACK clears FULL and pulses the EMPTY line. -/
  | mbxAck (m : Fin 32) (party : Fin 2)
  /-- MBX_DATA_READ (R355): a read of a mailbox data register, which clears FULL when the consumer reads the last word. -/
  | mbxDataRead (m : Fin 32) (i : Fin 16) (party : Fin 2)
  /-- MBX_DATA_WRITE (R356): a producer write of a mailbox data register, setting COLLISION when FULL. -/
  | mbxDataWrite (m : Fin 32) (i : Fin 16) (v : Word) (party : Fin 2)
  /-- EVT_SWFIRE (R362): a write of EVT_SWFIRE pulses the named channel. -/
  | evtSwfire (ch : BitVec 8)
  /-- EVT_IN_EDGE (R361): an edge on an EVT_IN pin pulses its routed channel. -/
  | evtInEdge (i : Fin 8) (level : Bool)
  /-- EVT_TIMER (R361): an always-on timer reaching its compare tick pulses its channel and adds its period. -/
  | evtTimer (i : Fin 4)
  /-- EVT_TMR_WRITE (R361): a write of an EVT_TMR compare high half latches the compare pair. -/
  | evtTmrWrite (i : Fin 4) (hi : BitVec 16)
  /-- EVENT_PULSE (R363): a pulse reaching a channel fires it if free or becomes pending if held. -/
  | eventPulse
  /-- CHANNEL_HOLD_END (R363): a channel's hold ends and any pending pulse fires it. -/
  | channelHoldEnd (c : Fin 256)
  /-- EVENT_DELIVERY (R364): a firing reaches each subscribed task input, which acknowledges it and acts or overruns. -/
  | eventDelivery (q : Fin 221)
  /-- GROUP_TASK_APPLY (R368): a group enable or disable activation takes effect in the tick after its delivery. -/
  | groupTaskApply
  /-- EVT_OUT_PULSE_END (R365): an EVT_OUT pin pulse ends after WIDTH ticks. -/
  | evtOutPulseEnd (i : Fin 8)
  /-- LOOP_GUARD_WINDOW (R369): every 15,000 ticks the per-channel pulse counts restart. -/
  | loopGuardWindow
  /-- THERMAL_SAMPLE (R372): every 1 µs the sensors and model are read and region and junction temperatures formed. -/
  | thermalSample (sens : BitVec 384) (model : BitVec 384)
  /-- SENSOR_BROKEN (R373): a sensor far from its model for 1 ms is declared broken and raises THERM_SENSOR. -/
  | sensorBroken (r : Fin 32)
  /-- SENSOR_READMIT (R373): writing 1 to a TH_SENS_BROKEN bit re-admits the sensor. -/
  | sensorReadmit (mask : Word)
  /-- THERM_LEVEL_ENTER (R374): tJ at or above a threshold for 64 values enters WARN, THROTTLE or SHUTDOWN. -/
  | thermLevelEnter (lv : Fin 3)
  /-- THERM_LEVEL_LEAVE (R374): tJ below a threshold minus 4 °C for 64 values leaves WARN or THROTTLE. -/
  | thermLevelLeave (lv : Fin 2)
  /-- SHUTDOWN_ISOLATE (R376): 1 µs after clamping, the converters, analogue and core domains are powered down. -/
  | shutdownIsolate
  /-- SHUTDOWN_MGMT_OFF (R376): the management domain writes the SHUTDOWN record and powers down within 5 ms. -/
  | shutdownMgmtOff
  /-- GOV_RAISE (R379): while a request persists the governor raises VCORE by 10 mV every UP_INT microseconds. -/
  | govRaise
  /-- GOV_LOWER (R379): after DOWN_HOLD without a request the governor lowers VCORE by 5 mV every 10 ms. -/
  | govLower
  /-- PMBUS_TRANSACTION (R380): a PMBus transaction completes, is retried on NACK or PEC failure, or raises GOV_PMBUS. -/
  | pmbusTransaction (ok : Bool)
  /-- VOUT_POLL (R380): every 1 ms the governor reads READ_VOUT and raises GOV_VOUT on a large difference. -/
  | voutPoll (mv : BitVec 10)
  /-- PWR_TARGET_WRITE (R382): a write of PWR_CTRL.TARGET requests a power state. -/
  | pwrTargetWrite (t : BitVec 2)
  /-- POWER_STATE_ENTRY (R382): the device enters a lower power state once its conditions hold. -/
  | powerStateEntry
  /-- POWER_STATE_EXIT (R381): the device completes its return to ACTIVE. -/
  | powerStateExit
  /-- DEEP_SLEEP_WAKE (R383): a wake request starts the return from DEEP_SLEEP. -/
  | deepSleepWake
  /-- HOST_EIDLE_RETURN (R383): in DEEP_SLEEP the HOST port returns to electrical idle after 1 ms without traffic. -/
  | hostEidleReturn
  /-- MON_CONVERSION (R385): the monitor ADC converts one sample every 1 µs and writes a slot result when its sum is complete. -/
  | monConversion (code : BitVec 16)
  /-- MON_URGENT_REQUEST (R385): mON_URG.GO inserts one urgent conversion request. -/
  | monUrgentRequest (w : Word)
  /-- FAULT_RAISE (R391): a fault is stamped, logged, ordered among coincident faults and may set FLT_FIRST and queue a record. -/
  | faultRaise
  /-- FAULT_REACTION (R391): two ticks after a fault its reaction set acts on its target. -/
  | faultReaction
  /-- RESET_SCOPE_APPLY (R417): when every flux line is clamped the reset scope is reset. -/
  | resetScopeApply
  /-- ERR_N_RELEASE (R393): eRR_N rises at the later of its 3,000-tick low time and the clearing of ERR_HOLD. -/
  | errNRelease
  /-- ERR_HOLD_WRITE (R393): a write of FLT_CTRL.ERR_HOLD holds or releases ERR_N. -/
  | errHoldWrite (v : Bool)
  /-- FAULT_INJECT (R396): fLT_INJ.GO in factory test mode raises an injected fault in the next tick. -/
  | faultInject (source : BitVec 8)
  /-- FLT_LOG_SEL_WRITE (R394): writing FLT_LOG_SEL copies a fault log entry into the data registers. -/
  | fltLogSelWrite (idx : BitVec 6)
  /-- FLT_FIRST_READ (R395): a read of FLT_FIRST latches its tick pair. -/
  | fltFirstRead
  /-- FLT_FIRST_CLEAR (R395): clearing FLT_FIRST.VALID re-arms the first-fault capture. -/
  | fltFirstClear
  /-- RECORD_WRITE (R401): the recorder completes writing a queued record to flash in two phases. -/
  | recordWrite (ok : Bool)
  /-- SECTOR_ERASE_DONE (R401): the erase of the next circle sector completes and writing resumes. -/
  | sectorEraseDone (ok : Bool)
  /-- REC_SEL_WRITE (R403): a write of REC_SEL starts copying the record with that SEQ into REC_DATA. -/
  | recSelWrite (seq : Word)
  /-- REC_COPY_DONE (R403): the record window copy completes and sets or clears FOUND. -/
  | recCopyDone
  /-- REC_FLUSH (R405): rEC_CTRL.FLUSH writes an ORDERLY record and saves the lifetime set. -/
  | recFlush
  /-- LIFETIME_SAVE (R405): every 10 minutes the lifetime set is saved to the next lifetime sector. -/
  | lifetimeSave
  /-- LIFETIME_COUNT_UPDATE (R404): each second the lifetime temperature, voltage and operating time counters advance. -/
  | lifetimeCountUpdate
  /-- LIF_SNAP (R404): lIF_CTRL.SNAP copies the live lifetime set into the shadow. -/
  | lifSnap
  /-- LIF_DATA_READ (R404): a read of LIF_DATA returns a shadow word and increments LIF_SEL. -/
  | lifDataRead
  /-- POWER_ON (R416): vAON rising resets everything and starts the start-up sequence. -/
  | powerOn (challenge : BitVec 64)
  /-- SUPPLY_DIP (R408): a supply dip below its limit raises SUPPLY_FAULT, or resets as a power-on for VAON. -/
  | supplyDip (rail : Fin 6)
  /-- RESET_N_ASSERT (R417): sensing RESET_N low starts muting, stopping and parking before the reset takes effect. -/
  | resetNAssert
  /-- RESET_N_RELEASE (R413): the rise of RESET_N starts the start-up stages. -/
  | resetNRelease
  /-- BOOT_STAGE_DONE (R413): a start-up stage completes and the next begins, up to READY or RECOVERY. -/
  | bootStageDone (i0 : Option (BitVec 24)) (i1 : Option (BitVec 24)) (i2 : Option (BitVec 24)) (i3 : Option (BitVec 24)) (cfg : Option (BitVec 130)) (cal : List (Fin 270 × BitVec 512))
  /-- PLL_UNLOCK (R417): loss of lock of the timing PLL in service raises PLL_UNLOCK. -/
  | pllUnlock
  /-- BOOT_REBOOT (R416): bOOT_CTRL.REBOOT with its key acts as RESET_N. -/
  | bootReboot (key : BitVec 8)
  /-- FLASH_WINDOW_WRITE (R411): a write of BOOT_FLW_DATA programs a flash word in an allowed range. -/
  | flashWindowWrite (v : Word)
  /-- FLASH_WINDOW_READ (R411): a read of BOOT_FLW_DATA returns a flash word and increments the address. -/
  | flashWindowRead
  /-- FLASH_WINDOW_ERASE (R411): bOOT_FLW_CTRL.ERASE erases the 4 KiB sector at the window address. -/
  | flashWindowErase
  /-- FLASH_OP_DONE (R411): a flash window program or erase completes and clears BUSY. -/
  | flashOpDone (ok : Bool)
  /-- TAP_RESET (R422): tRST_N low holds the test access port in Test-Logic-Reset. -/
  | tapReset (low : Bool)
  /-- TAP_BYPASS (R422): the BYPASS instruction selects the one-bit bypass register. -/
  | tapBypass (tdi : List Bool)
  /-- TAP_IDCODE (R422): the IDCODE instruction shifts out the device identification code. -/
  | tapIdcode
  /-- TAP_SAMPLE_PRELOAD (R422): the SAMPLE/PRELOAD instruction captures and preloads the boundary register. -/
  | tapSamplePreload (pins : List Bool) (load : List Bool)
  /-- TAP_EXTEST (R422): the EXTEST instruction drives the pins from the boundary register in factory test mode. -/
  | tapExtest
  /-- DBG_REQ_UPDATE (R423): an Update-DR of DBG_REQ with the magic value sets KEY_VOID and starts zeroising the keys. -/
  | dbgReqUpdate (v : Word)
  /-- KEY_ZEROISE_DONE (R423): once the key stores are zeroised debug access opens and DBG_OPEN is raised. -/
  | keyZeroiseDone
  /-- DBG_ACC_ACCESS (R423): a DBG_ACC access reads or writes the register window as an ordinary register access. -/
  | dbgAccAccess (addr : BitVec 26) (write : Option Word)
  /-- FT_TOKEN_UPDATE (R424): a token shifted into FT_TOKEN enters factory test mode or raises DBG_TOKEN_BAD. -/
  | ftTokenUpdate (token : BitVec 96) (good : Bool)
  /-- LIFETIME_SAVE_DONE (R405): the erase and programming of a lifetime copy into its sector completes, and the saved generation becomes the one in force and is shown in LIF_GEN. -/
  | lifetimeSaveDone (ok : Bool)
  /-- HOST_DATA_ACCESS (R284): the host adapter answers a device read or write of host memory for command data with the data or with an error, which continues the command or ends it with HOST_FAULT. -/
  | hostDataAccess (i : Fin 64) (data : List Word) (err : Bool)
  /-- TIME_PARENT_RELOAD (R329): at the next tick with TICK[11:0] = 0 after a TIME difference of more than 1 ns was found, the device reloads TIME from the parent. -/
  | timeParentReload
  /-- ALWAYS_COUNT_COMPLETE (R228): a trigger state whose condition is ALWAYS completes its count TRG_COUNT ticks after it was entered, and it then detects or enters its next state. -/
  | alwaysCountComplete (n : Fin 16)
  deriving DecidableEq, Repr

end Sys2Proof
end

