-- ==== Sys2Proof/Decode.lean ====
section
/-! DEFINITION. The commands that a word spells. The operation table gives no row any bits, so no word spells a command. -/

namespace Sys2Proof

/-- The command of a word whose bits the operation table numbers: none, for the table gives bits to no row. -/
def decodeTableWord (_nbits _w : Nat) : Option Instr := none

end Sys2Proof
end

