-- ==== Sys2Proof/Config.lean ====
section
/-! DEFINITION. What an implementation fixes and what the spec leaves open. An opaque constant has no body: nothing can
evaluate it or prove a value of it. -/

namespace Sys2Proof

/-- A value the spec leaves open, picked by the model's counter of free values (log 2). -/
opaque Config.free : Nat → Nat

/-- An output sample of the ×8 interpolation filter, I in [17:0] and Q in [35:18]: its taps are not given (R143 step 2,
log 4). -/
opaque Config.interpolated : Nat → BitVec 36

/-- The serial number that GLB_SERIAL shows: each device has its own (R445). -/
opaque Config.serial : BitVec 64

end Sys2Proof
end

