-- ==== Sys2Proof/Machine/State.lean ====
section
/-! DEFINITION. The state of the block as plain data: the register window, every queue, buffer and engine the spec gives the
device, and the queue of commands that wait. -/

namespace Sys2Proof.Machine

/-! ## Outcomes -/

/-- Why a command stops the machine. -/
inductive Fault where
  /-- an operand outside what the command can carry (WellFormed refuses it too); raised by `exec` of a command whose list
  operand has a wrong length: no event of the hardware looks so. Safe: nothing is claimed of such a command -/
  | illFormed
  deriving DecidableEq, Repr

/-- Why the model gives a command no meaning. -/
inductive Refusal where
  /-- the command has no meaning yet, by its mnemonic in the operation table. Safe: no next state is claimed -/
  | notModelled (mnemonic : String)
  deriving DecidableEq, Repr

/-! ## Faults on their way -/

/-- A fault at the collector's input or in its log (R391, R394): source, raise tick, payload slots, injected. -/
structure FaultIn where
  src : Nat
  tick : Tick
  slots : List Nat
  injected : Bool
  deriving DecidableEq, Repr

/-! ## Register map -/

/-- Access codes of R5. -/
inductive Acc where
  | rw | ro | wo | w1c | w1s | rc
  deriving DecidableEq, Repr

/-- Reset domains of R446 (the PWR domain's three registers are named where they are reset, R447). -/
inductive Dom where
  | sys | chip
  deriving DecidableEq, Repr

/-- One field of a register: lowest bit, width, access code, reset value, and whether a read copies the top bit
upwards (R3). -/
structure FieldRow where
  lo : Nat
  len : Nat
  acc : Acc
  reset : Nat
  sext : Bool
  deriving DecidableEq, Repr

/-- One register or array of registers of a block: offset, stride and count, reset domain and fields. -/
structure RegRow where
  name : String
  off : Nat
  stride : Nat
  count : Nat
  dom : Dom
  fields : List FieldRow
  deriving DecidableEq, Repr

/-- A register field: the register's window address, its lowest bit and its width. -/
structure Rf where
  addr : Nat
  lo : Nat
  len : Nat
  deriving DecidableEq, Repr

/-! ## Orders, pounds and pilots -/

/-- Order types with their payloads (R106). A tone number counts within the berth's own set (R19). -/
inductive OrdKind where
  | tonePlay (seg : BitVec 17) (tone : BitVec 3) (amp : BitVec 18) (ph : Word)
  | freqSet (tone : BitVec 3) (probe : Bool) (f : BitVec 48)
  | phaseShift (tone : BitVec 3) (probe : Bool) (dph : Word)
  | fluxPulse (seg : BitVec 17) (amp : BitVec 18)
  | biasSet (code : BitVec 18)
  | probePlay (seg : BitVec 17) (tone : BitVec 2) (amp : BitVec 18) (ph : Word)
  | measure (close : Bool) (mask : BitVec 4) (wset : BitVec 2)
  | marker (m : BitVec 4) (e : BitVec 2)
  | shotBoundary (shot : Word) (last halt : Bool)
  | branchArm (e : Tick) (src : BitVec 8) (dev : BitVec 12) (rem : Bool) (mask : BitVec 4) (dflt : Bool)
  deriving DecidableEq, Repr

/-- One pound entry (R105): start tick, type with payload, lane (0 main, 1 first lane of the context, 2 second), context
and branch identifier. -/
structure Order where
  tick : Tick
  kind : OrdKind
  lane : BitVec 2
  ctx : BitVec 1
  bid : BitVec 8
  /-- the play exceeds MAX_PLAYS and plays zero envelope (R134) -/
  excess : Bool
  /-- the order lead, measured as it enters the pound (R40) -/
  lead : Int
  deriving DecidableEq, Repr

/-- A second operand, an amplitude, a phase or a count: a variable or a constant held in the instruction (R68, R74). -/
inductive Opnd where
  | var (v : BitVec 4)
  | imm (w : Word)
  deriving DecidableEq, Repr

/-- The n of WAIT, AT and TSYNC, and the frequency of FREQ and FREQP: a constant, one variable, or a pair (R101). -/
inductive WideOpnd where
  | imm (w : BitVec 48)
  | var (v : BitVec 4)
  | pair (v : BitVec 4)
  deriving DecidableEq, Repr

/-- The three-operand computations of R68. -/
inductive AluOp where
  | add | sub | and | or | xor | shl | shr | sar | mul | mulq
  deriving DecidableEq, Repr

/-- The decision operands of WAITD and BRD (format FDEC with its extension word). -/
structure DecOpnd where
  bid : BitVec 8
  mask : BitVec 4
  dflt : Bool
  rem : Bool
  loff : BitVec 10
  de : BitVec 16
  src : BitVec 8
  deriving DecidableEq, Repr

/-- A pilot instruction as decoded (R99 to R104). -/
inductive PInstr where
  | nop | mov (d s : BitVec 4) | movi (d : BitVec 4) (w : Word)
  | alu (op : AluOp) (d a : BitVec 4) (b : Opnd)
  | cmp (a : BitVec 4) (b : Opnd) | tst (a : BitVec 4) (b : Opnd)
  | ldp (d a : BitVec 4) (off : Word) | stp (v a : BitVec 4) (off : Word)
  | gettc (d : BitVec 4) | gettk (d : BitVec 4) | getd (d : BitVec 4) | getsid (d : BitVec 4)
  | jmp (t : BitVec 14) | jcc (cond : BitVec 3) (t : BitVec 14) | call (t : BitVec 14) | ret
  | rep (n : Opnd) (l : BitVec 14)
  | wait (n : WideOpnd) | atOrigin (n : WideOpnd) | tsync (n : WideOpnd)
  | waite (ch : BitVec 8) (lead : BitVec 16) | waitd (o : DecOpnd)
  | play (t : BitVec 3) (seg : BitVec 17) (amp ph : Opnd)
  | probe (t : BitVec 2) (seg : BitVec 17) (amp ph : Opnd)
  | freq (t : BitVec 3) (f : WideOpnd) | freqp (t : BitVec 2) (f : WideOpnd)
  | phase (t : BitVec 3) (dph : Opnd) | phasep (t : BitVec 2) (dph : Opnd)
  | flux (seg : BitVec 17) (amp : Opnd) | bias (code : Opnd)
  | mopen (mask : BitVec 4) (w : BitVec 2) | mclose (mask : BitVec 4) | mark (m : BitVec 4) (e : BitVec 2)
  | brd (o : DecOpnd) | join | shot (l : BitVec 14) | halt
  deriving DecidableEq, Repr

/-- One level of the repeat stack (R61, R71): start address, end address and remaining passes. -/
structure RepLevel where
  first : BitVec 14
  last : BitVec 14
  left : Word
  deriving DecidableEq, Repr

/-- Where an alternative of a staged branch stands for the pilot (R78, R84). -/
inductive AltPhase where
  | a | b | wait
  deriving DecidableEq, Repr

/-- A branch the pilot is staging (R77, R78, R84): its context, branch tick, the address range of the alternative being
staged (R79), the address of alternative B, the continuation, and which alternative holds a boundary or a nested BRD. -/
structure Stage where
  ctx : Nat
  tb : Tick
  bid : BitVec 8
  altB : BitVec 14
  phase : AltPhase
  lo : BitVec 14
  hi : BitVec 14
  cont : Option (BitVec 14)
  shotA : Option (BitVec 14)
  shotB : Option (BitVec 14)
  /-- an alternative of this branch already holds a nested BRD: `some true` alternative B -/
  inner : Option Bool
  /-- alternative A holds a BRD that did not branch (R57) -/
  heldA : Bool
  deriving DecidableEq, Repr

/-- What a pilot waits for, beside the run-ahead limit and a full pound (PLT_STAT.STATE, R111). -/
inductive PilotWait where
  | none
  | event (ch : BitVec 8) (lead : BitVec 16)
  | decision (src : BitVec 8) (dev : BitVec 12) (rem : Bool) (e : Tick) (mask : BitVec 4) (dflt : Bool)
    (got : Option (BitVec 2))
  | context
  | join
  | held (cont : BitVec 14)
  deriving DecidableEq, Repr

/-- One pilot (R61) with its program counter, stacks, staging state and pending conditions. -/
structure Pilot where
  vars : Store Word
  z : Bool
  n : Bool
  c : Bool
  d : Bool
  dstat : Word
  tc : Tick
  origin : Tick
  pc : BitVec 14
  calls : List (BitVec 14 × Nat)
  reps : List RepLevel
  shotId : Word
  left : Word
  endless : Bool
  /-- a batch runs on this pilot -/
  busy : Bool
  /-- an accepted START_BATCH waits for its start tick: tick, entry, first SHOT_ID, count (R278) -/
  start : Option (Tick × BitVec 14 × Word × Word)
  /-- the order an EMIT microword holds until the pound has a free entry (R30, R108) -/
  latch : Option Order
  wait : PilotWait
  stages : List Stage
  /-- the context armed by the berth's last BRD (R56) -/
  lastCtx : Option Nat
  /-- per demodulation tone, the tick at which the program opened a window, and whether it closed it too soon, so that it closes four
  ticks after it opened (R76) -/
  wins : Store (Option (Tick × Bool))
  /-- the cursor is open (R65) -/
  opened : Bool
  /-- a stopping condition waits for a safe point, with its SHL cause (R111, R112) -/
  trap : Option Nat
  /-- the channel of the last WAITE (R365) -/
  lastCh : Option (BitVec 8)
  deriving DecidableEq, Repr

/-- A pilot after reset: idle, with its cursor open (R93). -/
def Pilot.init : Pilot :=
  { vars := [], z := false, n := false, c := false, d := false, dstat := 0, tc := 0, origin := 0, pc := 0, calls := [],
    reps := [], shotId := 0, left := 0, endless := false, busy := false, start := none, latch := none, wait := .none,
    stages := [], lastCtx := none, wins := [], opened := true, trap := none, lastCh := none }

/-- The live shot ledger of a berth (R94); the SHL_ registers hold the copy latched by the last read (R96). -/
structure Ledger where
  lastDone : Word
  inflight : Word
  state : BitVec 3
  lastStatus : BitVec 2
  cause : BitVec 4
  lastCause : BitVec 4
  lastTick : Tick
  seq : Word
  /-- the tick and SHOT_ID of an opening boundary not yet released -/
  opening : Option (Tick × Word)
  /-- shots of the batch ended FULL, PARTIAL and ABANDONED (R283) -/
  full : Nat
  part : Nat
  aband : Nat
  /-- a stop acts at this tick, with its cause (R92) -/
  stopAt : Option (Tick × Nat)
  /-- the batch has ended: the shot that would open next does not -/
  cancel : Option Word
  /-- the START_BATCH command that owes this berth's completion: ring and number (R285) -/
  batch : Option (Nat × Nat)
  /-- how the batch ends, as END of R283 codes it; whether a fault reaction ends it; and whether its last tick is released -/
  endCode : Nat
  cutBy : Bool
  ended : Bool
  deriving DecidableEq, Repr

/-- The ledger's reset values (R94 tables). -/
def Ledger.init : Ledger :=
  { lastDone := 0xFFFFFFFF, inflight := 0xFFFFFFFF, state := 0, lastStatus := 3, cause := 0, lastCause := 0,
    lastTick := 0, seq := 0, opening := none, full := 0, part := 0, aband := 0, stopAt := none,
    cancel := none, batch := none, endCode := 0, cutBy := false, ended := false }

/-! ## Locks -/

/-- Lock states of R32. -/
inductive LockSt where
  | off | idle | run
  deriving DecidableEq, Repr

/-- What an entry covers its ticks with (R31): one tick's samples, a run of zero, or zero until the next entry. -/
inductive Cover where
  | sample (v : List Int)
  | idle (len : Nat)
  | openIdle
  deriving DecidableEq, Repr

/-- An action carried by a drive-lock entry (R29), or the segment-start marks of a sample entry (R129). -/
inductive Action where
  | order (k : OrdKind)
  | segStart (lines : BitVec 4)
  deriving DecidableEq, Repr

/-- A lock entry: first tick covered, coverage, actions, and the tick in which it became present in the lane (R36). -/
structure Entry where
  first : Tick
  cover : Cover
  acts : List Action
  present : Tick
  /-- a step of R143 saturated in this tick -/
  sat : Bool
  deriving DecidableEq, Repr

/-- A tick in which a tone plays zero for want of data, in one lane of a berth: when it is released, it is counted and the shot in
flight becomes PARTIAL (R125, R134, R136). -/
structure Muted where
  tick : Tick
  lane : Nat
  tone : Nat
  /-- the tick counts in SYN_UNDER_CNT -/
  counts : Bool
  deriving DecidableEq, Repr

/-- A late episode in progress (R43): first tick and ticks zeroed. -/
structure Episode where
  first : Tick
  count : Nat
  deriving DecidableEq, Repr

/-- One lock lane set: the drive lock of a berth, its flux pulse lock, or its lane of the probe lock (R33, R34): main
lane, four stage lanes (1 to 4: A, B, C, D) and the entries formed by synthesis but not yet present. -/
structure LockLane where
  st : LockSt
  main : List Entry
  stage : Store (List Entry)
  /-- lane number (0 main, 1 to 4) and entry, in the order formed -/
  formed : List (Nat × Entry)
  /-- entries discarded on arrival that cover ticks not yet released (R43) -/
  missed : List Entry
  /-- in RUN, the first tick that coverage is expected for -/
  since : Tick
  episode : Option Episode
  /-- LM_LOW suppressed until LM_DEV_MIN is read (R39) -/
  noticed : Bool
  /-- a stop makes the lock IDLE from this tick (R92) -/
  idleAt : Option Tick
  deriving DecidableEq, Repr

/-- A lock lane after reset: OFF and empty (R147, R162). -/
def LockLane.init : LockLane :=
  { st := .off, main := [], stage := [], formed := [], missed := [], since := 0, episode := none, noticed := false,
    idleAt := none }

/-- A branch context, held once per berth because every lock of the berth arms it with identical values (R50) and frees it
in the same tick (R56). -/
structure Ctx where
  /-- the pilot counts the context as taken, from its BRD on -/
  claimed : Bool
  /-- armed in the locks -/
  busy : Bool
  src : BitVec 8
  dev : BitVec 12
  rem : Bool
  e : Tick
  mask : BitVec 4
  tb : Tick
  dflt : Bool
  bid : BitVec 8
  /-- nested: the context and lane that hold it (R57) -/
  outer : Option (Nat × Bool)
  /-- state, valid bit and delivery tick of the first matching decision (R51, R58) -/
  kept : Option (BitVec 2 × Bool × Tick)
  /-- the lane chosen: `some true` is lane B -/
  res : Option Bool
  late : Bool
  /-- a shot boundary that ends lane A, and lane B (R59) -/
  boundA : Option Order
  boundB : Option Order
  /-- a stop takes the context away at this tick (R92) -/
  cut : Option Tick
  deriving DecidableEq, Repr

/-- A free context. -/
def Ctx.init : Ctx :=
  { claimed := false, busy := false, src := 0, dev := 0, rem := false, e := 0, mask := 0, tb := 0, dflt := false, bid := 0, outer := none,
    kept := none, res := none, late := false, boundA := none, boundB := none, cut := none }

/-- A decision (R20, R190): where it comes from, its state, valid bit and end tick, its window's status byte. -/
structure Decision where
  dev : BitVec 12
  remote : Bool
  src : BitVec 8
  state : BitVec 2
  valid : Bool
  kern : Bool
  status : BitVec 8
  endTick : Tick
  /-- a DEC instruction made it -/
  byDec : Bool
  deriving DecidableEq, Repr

/-- A decision on its way through the crossbar: its entry tick (R46) and, once served, its delivery tick (R48). -/
structure XbarItem where
  dec : Decision
  /-- the tick in which it reached the entry stage (R36) -/
  ready : Tick
  entry : Tick
  deliver : Tick
  deriving DecidableEq, Repr

/-- A decision that a default resolution still waits for, to report its margin missed (R54, R73): berth, branch
identifier, the source and end tick expected, and TB (or TC). -/
structure Owed where
  berth : Nat
  bid : BitVec 8
  src : BitVec 8
  dev : BitVec 12
  rem : Bool
  e : Tick
  tb : Tick
  deriving DecidableEq, Repr

/-! ## Synthesis -/

/-- A play (R127): the segment and its descriptor as walked, amplitude and phase operand, position in the pass, passes
left (`none`: repeats until the play ends), and whether it is muted to the next boundary (R136) or dead (R125, R134). -/
structure Play where
  seg : BitVec 17
  /-- the lane and the tick of the order that started the play, and the first tick of this segment -/
  lane : Nat
  start : Tick
  begun : Tick
  desc : BitVec 128
  amp : BitVec 18
  ph : Word
  pos : Nat
  pass : Nat
  loops : Option Nat
  muted : Bool
  dead : Bool
  /-- the basin block of the next sample has been read, and with a double-bit error (R123) -/
  block : Option Bool
  /-- a play started by an alternative is cut at this tick (R80) -/
  cutAt : Option Tick
  deriving DecidableEq, Repr

/-- A tone or flux pulse path of a synthesis path lane (R140, R141). -/
structure Tone where
  freq : BitVec 48
  phase : Word
  origin : Tick
  play : Option Play
  /-- a registered jump: target segment and registration tick (R137) -/
  jump : Option (BitVec 17 × Tick)
  deriving DecidableEq, Repr

/-- A tone after reset (R141). -/
def Tone.init : Tone := { freq := 0, phase := 0, origin := 0, play := none, jump := none }

/-- The predistortion filter of a flux path lane (R150, R151): the eight stage states and the last 63 FIR inputs, newest
first. -/
structure Filt where
  stages : List Int
  hist : List Int
  deriving DecidableEq, Repr

/-- A quiet filter (R152). -/
def Filt.quiet : Filt := { stages := [], hist := [] }

/-- One lane (main, or A to D) of one of a berth's three synthesis paths: the next tick to compute, the orders taken in
and not yet acting, the tones, and for the flux path its filter. -/
structure PathLane where
  /-- the lane is being formed; in the main lane, false while the open idle entry stands (R65) -/
  live : Bool
  cur : Tick
  sched : List Order
  tones : Store Tone
  filt : Filt
  /-- actions of the tick being computed, of orders already applied to it -/
  acts : List Action
  /-- for orders that acted in a tick not yet released: the tick, and the tones before them (R92, R141) -/
  past : List (Tick × Store Tone)
  /-- where the cursor opens, and the tick of the first order emitted afterwards, earliest first (R65, R72) -/
  opens : List (Tick × Option Tick)
  /-- while the lane is not formed, the first tick of the open idle entry that stands -/
  idleFrom : Option Tick
  /-- a stop ends every play and the tail at this tick (R92, R155) -/
  cutAt : Option Tick
  /-- a stage lane has taken its state from the lane that holds the branch (R81, R154) -/
  begun : Bool
  /-- a stage lane ends before this tick (R50, R57, R59) -/
  lim : Option Tick
  deriving DecidableEq, Repr

/-- A path lane after reset. -/
def PathLane.init : PathLane :=
  { live := false, cur := 0, sched := [], tones := [], filt := .quiet, acts := [], past := [],
    opens := [], idleFrom := none, cutAt := none, begun := false, lim := none }

/-- One segment that the prefetcher of a tone has walked (R131): the lane and the start tick of its play, its number, first tick and
descriptor, the next block to arrive, the blocks arrived, each with its 288 bits or missing (R132), and how many of
its passes have ended. Blocks are numbered pass × blocks-per-pass + block. -/
structure Fetch where
  lane : Nat
  start : Tick
  seg : BitVec 17
  begun : Tick
  /-- the target of a jump that has not taken effect: where it begins is not known (R139) -/
  jump : Bool
  desc : BitVec 128
  next : Nat
  blocks : Store (Option (BitVec 288))
  done : Nat
  deriving DecidableEq, Repr

/-- Something a marker pin will show (R130): a pilot marker line's level, a segment-start pulse, or a new selection with
the level its line has. -/
inductive MrkEv where
  | level (v : Bool)
  | pulse
  | sel (w : Word) (v : Bool)
  deriving DecidableEq, Repr

/-- A marker pin: the selection it shows, its line's level, the end of a segment-start pulse, and what is due. -/
structure MrkPin where
  sel : Word
  line : Bool
  pulseEnd : Option Tick
  due : List (Tick × MrkEv)
  deriving DecidableEq, Repr

/-- A marker pin after reset: MRK_SEL at its reset value, low. -/
def MrkPin.init : MrkPin := { sel := 0x10000, line := false, pulseEnd := none, due := [] }

/-! ## Flux lines -/

/-- Steps of a range change (R166). -/
inductive RcStep where
  | toZero | clampClose | switch | clampOpen | toCode
  deriving DecidableEq, Repr

/-- The live state of a flux line that no register holds: target set since EN (R162), earliest slew strobe, the code at
the stage with its deglitch hold (R160), current limit timing (R168), range change (R166), held action (R165), emergency
park (R170). -/
structure FluxLine where
  /-- a target has been set since EN was set (R162) -/
  armed : Bool
  /-- tick in which EN was last cleared, while the line slews to zero (R164) -/
  closing : Option Tick
  slewFrom : Option Tick
  stage : BitVec 18
  hold : Option (Tick × BitVec 18)
  limSince : Option Tick
  freeSince : Option Tick
  inSc : Bool
  rc : Option (RcStep × Tick)
  rcFrom : Tick
  held : Option (BitVec 18)
  park : Option Tick
  pulse : BitVec 18
  /-- the tick of the last write, and of the last released action, that set the target (R158) -/
  wrTick : Option Tick
  actTick : Option Tick
  deriving DecidableEq, Repr

/-- A flux line after reset: clamped, code 0 (R162). -/
def FluxLine.init : FluxLine :=
  { armed := false, closing := none, slewFrom := none, stage := 0, hold := none, limSince := none, freeSince := none,
    inSc := false, rc := none, rcFrom := 0, held := none, park := none, pulse := 0, wrTick := none, actTick := none }

/-! ## Read-out inputs -/

/-- A measure window (R76, R181 to R186): the pin ticks it covers, what it latched when it opened, and its sums and flags. -/
structure Win where
  o : Tick
  /-- the tick after its last, once its close is released -/
  close : Option Tick
  cut : Bool
  base : Nat
  length : Nat
  shift : Nat
  sub : Nat
  sel : Bool
  cal : Word
  nstate : Bool
  leakEn : Bool
  leakState : Bool
  lines : List (Int × Int × Int)
  accI : Int
  accQ : Int
  /-- the partial point in progress, its ticks, and the number formed -/
  parI : Int
  parQ : Int
  parN : Nat
  settling : Bool
  lost : Bool
  freq : Bool
  off : Bool
  ovr : Bool
  shot : Word
  captured : Bool
  trace : List (Int × Int × Bool)
  deriving DecidableEq, Repr

/-- A closed window as its acquisition unit and kernel engine receive it (R189, R191). -/
structure WinRes where
  src : Nat
  o : Tick
  endTick : Tick
  status : BitVec 8
  i : Int
  q : Int
  state : BitVec 2
  shot : Word
  slot : Nat
  captured : Bool
  /-- closed sooner than PERIOD after the previous captured window (R236) -/
  early : Bool
  /-- number of partial points formed -/
  sub : Nat
  trace : List (Int × Int × Bool)
  deriving DecidableEq, Repr

/-- A demodulator: its tone in force, orders not yet at their pin tick (with the context and lane that staged them, and the frame
origin its probe tone latched), the mixed samples of the last pin tick, its windows in order, and its last decision (R190). -/
structure Demod where
  freq : BitVec 48
  phase : Word
  origin : Tick
  sched : List (Tick × Option (Nat × Bool) × OrdKind × Tick)
  prev : List (Int × Int × Bool)
  wins : List Win
  lastI : Int
  lastQ : Int
  lastEnd : Tick
  deriving DecidableEq, Repr

/-- A demodulator after reset. -/
def Demod.init : Demod :=
  { freq := 0, phase := 0, origin := 0, sched := [], prev := [], wins := [], lastI := 0, lastQ := 0, lastEnd := 0 }

/-- A read-out input's front end: the last pin tick processed, unsettled spans (R176), the tick from which it is offline or
enabled again, runs in progress, and the oscillator word as latched (R173). -/
structure Input where
  pin : Option Tick
  spans : List (Tick × Tick)
  /-- offline pin ticks (R176), newest span last: from the first, `none` since ever, until the second when known -/
  offs : List (Option Tick × Option Tick)
  ovrRun : Bool
  dropRun : Option (Tick × Nat)
  lof : BitVec 48
  /-- a system calibration step in progress: step, internal short, start, and whether a window or an overrange met it (R254) -/
  scal : Option (Nat × Bool × Tick × Bool × Bool)
  /-- a ZERO step has succeeded since the last APPLY or reset (R255) -/
  zeroOk : Bool
  deriving DecidableEq, Repr

/-- An input after reset: disabled, every pin tick offline. -/
def Input.init : Input :=
  { pin := none, spans := [], offs := [(none, none)], ovrRun := false, dropRun := none, lof := 0,
    scal := none, zeroOk := false }

/-! ## Triggers and acquisition -/

/-- Coverage of one berth's shots by a capture (R224, R225). -/
structure Cov where
  shots : Nat
  inside : Bool
  ended : Bool
  /-- the last covered shot -/
  shot : Word
  deriving DecidableEq, Repr

/-- An acquisition unit: the configuration in force (the registers as they stood at the accepted COMMIT, by address), the
trigger engine (R228), the capture (R223 to R225), its records and buffers (R236 to R240). -/
structure Acq where
  cfg : Store Word
  armAt : Option Tick
  /-- arm ticks of ARM flits received while ARMED (R227) -/
  armSeen : List Tick
  idx : Nat
  since : Tick
  count : Nat
  lastCount : Option Tick
  running : Bool
  levelArmed : Bool
  fire : Option Tick
  late : Bool
  /-- the fire tick has been reached since the last arm -/
  captured : Bool
  avgErr : Bool
  cov : Store Cov
  slots : Store (Word × Nat)
  lastClose : Store (Option Tick)
  /-- by demodulator × 64 + slot: counts of states 0 to 3 and of VALID 0, and N (R235, R240) -/
  counts : Store (List Nat)
  done : List (WinRes × Decision)
  /-- position in the record buffer of the next record -/
  bufPos : Nat
  /-- records not yet handed over: buffer base and size in bytes, position in the buffer, length in bytes (R240) -/
  recs : List (Nat × Nat × Nat × Nat)
  lostRun : Bool
  lost : Nat
  /-- records handed to a result ring so far (R281) -/
  handed : Nat
  /-- records lost since the unit's previous result descriptor (R286) -/
  lostSince : Nat
  notRec : Nat
  /-- END records are due: the tick in which the capture ended and the cause (R237) -/
  ending : Option (Tick × Nat)
  /-- corrected samples with VALID of the latest pin ticks, newest first (R235) -/
  hist : List (Tick × List (Int × Bool))
  deriving DecidableEq, Repr

/-- A unit after reset: IDLE, nothing admitted. -/
def Acq.init : Acq :=
  { cfg := [], armAt := none, armSeen := [], idx := 0, since := 0, count := 0, lastCount := none,
    running := false, levelArmed := false, fire := none, late := false, captured := false, avgErr := false, cov := [], slots := [],
    lastClose := [], counts := [], done := [], bufPos := 0, recs := [], lostRun := false, lost := 0, handed := 0, lostSince := 0,
    notRec := 0, ending := none, hist := [] }

/-- An admission request in the order accepted (R238): a unit's COMMIT, a MAX_PLAYS value, or a LIMIT value. -/
inductive AdmReq where
  | unit (n : Nat)
  | plays (v : Nat)
  | limit (v : Nat)
  deriving DecidableEq, Repr

/-- A group flit that an acquisition unit of this device makes (R318): an ARM or FIRE of a group. -/
inductive FlitBody where
  | arm (group : BitVec 8) (t : Tick)
  | fire (group : BitVec 8) (t : Tick)
  deriving DecidableEq, Repr

/-! ## Kernel engines -/

/-- A kernel job (R194): the window's data, its entry tick, whether it carries PPLOST, and whether it has been answered. -/
structure Job where
  res : WinRes
  entry : Tick
  lostPp : Bool
  answered : Bool
  deriving DecidableEq, Repr

/-- The registers of an engine that its pipeline writes in stage A (R201, R213). -/
structure KRegs where
  x : Store (BitVec 18)
  acc : Store (BitVec 48)
  z : Bool
  n : Bool
  v : Bool
  st : BitVec 2
  ppk : BitVec 5
  deriving DecidableEq, Repr

/-- A kernel engine (R201): the registers as stage E of the next instruction sees them and as stage A does (R213), address
registers and modes, program counter, stacks, delay slots left with the target they lead to (R214), handler (0 none, 1 swap,
2 window ready, 3 host request) with its save, jobs, the partial-point FIFO and what its windows lost. -/
structure Kern where
  vis : KRegs
  full : KRegs
  ax : Store (BitVec 15)
  am : Store (BitVec 32)
  pc : BitVec 12
  calls : List (BitVec 12)
  reps : List (BitVec 12 × BitVec 12 × Nat)
  slots : Nat
  dest : Option (BitVec 12)
  handler : Nat
  /-- RETI has been executed: the handler ends after its delay slots -/
  leaving : Bool
  save : BitVec 12 × Bool × Bool × BitVec 2
  waiting : Bool
  job : Option Job
  queue : List Job
  /-- I, Q, k and LAST -/
  fifo : List (BitVec 18 × BitVec 18 × Nat × Bool)
  ppLost : Store Bool
  /-- KRN_NODEC has been raised since the stop (R198) -/
  told : Bool
  /-- by demodulator, the entry tick of its last kernel decision (R199) -/
  lastEntry : Store (Option Tick)
  lastPc : BitVec 12
  deriving DecidableEq, Repr

/-- Zeroed engine registers. -/
def KRegs.init : KRegs := { x := [], acc := [], z := false, n := false, v := false, st := 0, ppk := 0 }

/-- An engine after reset: stopped, everything zero. -/
def Kern.init : Kern :=
  { vis := .init, full := .init, ax := [], am := [], pc := 0, calls := [], reps := [], slots := 0, dest := none, handler := 0,
    leaving := false, save := (0, false, false, 0), waiting := false, job := none, queue := [], fifo := [], ppLost := [],
    told := false, lastEntry := [], lastPc := 0 }

/-! ## Converters (R241 to R260) -/

/-- A converter: the tick in which it entered its state or became due, alignment verified, deadline expired, tick of its last
calibration, its run-time delta by word; for a spare, whether it is due and when its own calibration ends. -/
structure Conv where
  at_ : Tick
  aligned : Bool
  forced : Bool
  lastCal : Tick
  delta : Store Word
  spareDue : Bool
  calEnd : Option Tick
  deriving DecidableEq, Repr

/-- A converter after reset: its delta is zero (R243). -/
def Conv.init : Conv :=
  { at_ := 0, aligned := false, forced := false, lastCal := 0, delta := [], spareDue := false, calEnd := none }

/-- A generation slot of the fuse array (R242): programmed at all, generation number, trim words by converter × 16 + word, commit
word present, and CRC right. -/
structure FuseGen where
  used : Bool
  gen : Nat
  trims : Store Word
  sealed_ : Bool
  good : Bool
  deriving DecidableEq, Repr

/-- A blank slot, and the factory generation. -/
def FuseGen.blank : FuseGen := { used := false, gen := 0, trims := [], sealed_ := false, good := false }
def FuseGen.factory : FuseGen := { used := true, gen := 0, trims := [], sealed_ := true, good := true }

/-- A baseline commit in progress: its slot, the deltas of its snapshot, and the trims being programmed (R258). -/
structure FuseJob where
  slot : Nat
  deltas : Store Word
  trims : Store Word
  deriving DecidableEq, Repr

/-! ## System time (R324 to R334) -/

/-- What a neighbour advertised in its last time frame (R325): HOPS, NORMAL, LOCKED. -/
structure TimeNb where
  hops : BitVec 5
  normal : Bool
  locked : Bool
  deriving DecidableEq, Repr

/-- A time frame sent on a port: its TIME block and the TDATA flits 1, 2 and 3 (R325). -/
structure TimeFrame where
  port : Nat
  block : BitVec 64
  data1 : BitVec 64
  data2 : BitVec 64
  data3 : BitVec 64
  deriving DecidableEq, Repr

/-- The time servo: the count C, C₀ of R330, the integral in 0.25 ps steps, exchange history, parent and neighbours. -/
structure TimeSt where
  c : BitVec 64
  c0 : BitVec 64
  integral : Int
  /-- normal mode entered by the switch of R331 (the master and a single device are always in normal mode) -/
  normal : Bool
  good : Nat
  bad : Nat
  far : Nat
  /-- the last 16 offsets, newest first, in 0.25 ps steps -/
  hist : List Int
  /-- what the last exchange found: D, to be added to TICK, and the phase in 0.25 ps steps -/
  ticks : Int
  phase : Int
  /-- OFF of the last exchange and C at it (R330) -/
  last : Option (BitVec 64 × BitVec 64)
  parent : Option Nat
  nbs : Store TimeNb
  /-- a REQ without its RESP: exchange number, port, t₁ -/
  waiting : Option (BitVec 8 × Nat × BitVec 56)
  seq : BitVec 8
  lastReq : Option Tick
  sent : Option TimeFrame
  /-- TIME is reloaded from the parent at the next tick with TICK [11:0] = 0: the value to add (R329) -/
  reload : Option (BitVec 64)
  /-- TIME_WRAP has pulsed for the wrap in progress (R331, R334) -/
  wrapDone : Bool
  /-- TIME_NS at the last whole microsecond (R334) -/
  usNs : Word
  deriving DecidableEq, Repr

/-- The time servo at start-up: TIME and TICK at 0, no parent (R324). -/
def TimeSt.init : TimeSt :=
  { c := 0, c0 := 0, integral := 0, normal := false, good := 0, bad := 0, far := 0, hist := [], ticks := 0, phase := 0,
    last := none, parent := none, nbs := [], waiting := none, seq := 0, lastReq := none, sent := none, reload := none,
    wrapDone := false, usNs := 0 }

/-! ## Mesh (R309 to R323) -/

/-- A flit in a port queue (R317): its word, the tick in which it joined, and the port it came from (6 local). -/
structure Flit where
  word : BitVec 64
  joined : Tick
  origin : Nat
  deriving DecidableEq, Repr

/-- A remote mailbox message (R320): destination, hops left, route-around bit, sender, mailbox, words; the port it came in
on, and the local mailbox whose FULL it holds (R359). -/
structure MeshMsg where
  dst : BitVec 12
  ttl : BitVec 5
  ra : Bool
  orig : BitVec 12
  mbx : BitVec 5
  words : List Word
  origin : Option Nat
  source : Option Nat
  deriving DecidableEq, Repr

/-- A mesh port: its flit queue, whether a run of discards and a late flit have been told (R316, R317), the tick in which it last
started a flit and that flit, messages and credits (R320), since when it is UP and its hold runs (R323), the last partner
address. -/
structure MeshPort where
  queue : List Flit
  dropRun : Bool
  lateTold : Bool
  lastSent : Option (Tick × BitVec 64)
  msgs : List MeshMsg
  credits : Nat
  /-- the message last sent, and the credits returned to the neighbour so far -/
  sentMsg : Option MeshMsg
  returned : Nat
  holdFrom : Option Tick
  partner : BitVec 12
  deriving DecidableEq, Repr

/-- A mesh port after reset: nothing queued, two message buffers at the neighbour (R320). -/
def MeshPort.init : MeshPort :=
  { queue := [], dropRun := false, lateTold := false, lastSent := none, msgs := [], credits := 2, sentMsg := none, returned := 0,
    holdFrom := none, partner := 0 }

/-! ## Descriptor rings (R263 to R290) -/

/-- A descriptor: eight 64-bit words, word 0 first. -/
abbrev Descriptor := List (BitVec 64)

/-- A command issued and not completed (R271): its number in order of issue, its index and descriptor, how far it has come (0 issued,
1 requested or applied, 2 accepted or answered), host data received, words or samples done, berths whose START_BATCH completion is
owed, and for a FENCE with RESULTS the records each unit must have handed over. -/
structure Cmd where
  seq : Nat
  index : Nat
  desc : Descriptor
  stage : Nat
  buf : List Word
  detail : Nat
  left : BitVec 64
  marks : List Nat
  deriving DecidableEq, Repr

/-- A ring: producer and consumer index, the index at the last halt, descriptors fetched
and not issued, attempts at a descriptor whose PHASE does not match, commands in flight, descriptors held back while halted or full,
entries reserved, descriptors written and not released by the host, its last interrupt message and whether another is owed, the
shadow word last written, and the position and use of its data area. -/
structure Ring where
  pidx : Nat
  cidx : Nat
  errIdx : Nat
  fetched : List Descriptor
  refetch : Option Nat
  cmds : List Cmd
  held : List Descriptor
  reserved : Nat
  slots : List Descriptor
  lastIrq : Option Tick
  irqDue : Bool
  shadow : BitVec 64
  dataPos : Nat
  /-- bytes taken from the data area by each result descriptor not released, oldest first -/
  areas : List Nat
  deriving DecidableEq, Repr

/-- A disabled ring. -/
def Ring.init : Ring :=
  { pidx := 0, cidx := 0, errIdx := 0, fetched := [], refetch := none, cmds := [], held := [], reserved := 0, slots := [],
    lastIrq := none, irqDue := false, shadow := 0, dataPos := 0, areas := [] }

/-! ## Serial lanes (R291 to R308) -/

/-- A lane: since when it has been without UP (R296), since when without block lock after having held it (R299), whether the loss
and the absence have been told, the tick of the last ALIVE received, of its retry, of its last keep-alive sent and received, ALIVE
sequence and the ALIVE last sent, how far its ALIVE lies behind the port's earliest lane in blocks, and the eye scan's start. -/
structure Lane where
  noUp : Option Tick
  noLock : Option Tick
  lostTold : Bool
  absentTold : Bool
  lastAlive : Option Tick
  lastRetry : Option Tick
  keepSent : Option Tick
  keepSeen : Option Tick
  seq : BitVec 16
  sent : BitVec 64
  behind : Nat
  exit : Option Tick
  eye : Option Tick
  /-- the transmit equaliser in use (R305) -/
  txeq : BitVec 16
  deriving DecidableEq, Repr

/-- A lane after reset: OFF. -/
def Lane.init : Lane :=
  { noUp := none, noLock := none, lostTold := false, absentTold := false, lastAlive := none, lastRetry := none, keepSent := none,
    keepSeen := none, seq := 0, sent := 0, behind := 0, exit := none, eye := none, txeq := 0x2302 }

/-! ## Mailboxes and events (R352 to R370) -/

/-- What a post in tick `tick` found (R357): the COLLISION bit and count before it, when it fell on a full mailbox. -/
structure MbxPost where
  tick : Tick
  hit : Option (Bool × Nat)
  deriving DecidableEq, Repr

/-- An event channel (R363, R369): the tick of its last firing while held, whether that firing was made by a pending pulse, the
stamp of the pending pulse, and the pulses counted in a guard window. -/
structure EvtCh where
  fired : Option Tick
  fromPend : Bool
  pend : Option Tick
  window : Nat
  count : Nat
  deriving DecidableEq, Repr

/-- A free channel. -/
def EvtCh.init : EvtCh := { fired := none, fromPend := false, pend := none, window := 0, count := 0 }

/-- A firing on its way to the task inputs (R364): channel, stamp, firing tick, and the inputs it has reached. -/
structure Firing where
  ch : Nat
  stamp : Tick
  tick : Tick
  seen : List Nat
  deriving DecidableEq, Repr

/-! ## Twin (R335 to R351) -/

/-- The twin machine: heartbeats (the strobe last answered for, consecutive misses, whether the loss has been told, SEQ, SYNC_OK and
YIELD sent), the takeover (tick of detection, fall of TAKE_N, whether the switches are closed), yielding (since when, when the
partner's TAKE_N was sensed, whether lines were parked), resynchronisation attempts, a pending TAKE, the partner's TAKE_N as last
sensed, and the level this device drives on TAKE_N (true low). -/
structure TwinSt where
  strobe : Option Tick
  misses : Nat
  lostTold : Bool
  seq : BitVec 16
  sent : BitVec 64
  detect : Option Tick
  takeLow : Bool
  fall : Option Tick
  closed : Bool
  yieldAt : Option Tick
  sensed : Option Tick
  parked : Bool
  tries : Nat
  claimed : Bool
  deriving DecidableEq, Repr

/-- A device after reset: SOLO, TAKE_N low while it runs (R337). -/
def TwinSt.init : TwinSt :=
  { strobe := none, misses := 0, lostTold := false, seq := 0, sent := 0, detect := none, takeLow := false, fall := none, closed := false,
    yieldAt := none, sensed := none, parked := false, tries := 0, claimed := false }

/-! ## Temperature, governor, monitor (R371 to R385) -/

/-- Readings of the sensors (last 8 of each, newest first), runs of readings off the model, and per level (WARN, THROTTLE, SHUTDOWN)
consecutive values at or above its threshold, below it by 4 °C, and the tick of its last change. -/
structure ThermSt where
  hist : Store (List Int)
  off : Store Nat
  above : List Nat
  below : List Nat
  changed : List (Option Tick)
  modelTold : Bool
  deriving DecidableEq, Repr

def ThermSt.init : ThermSt :=
  { hist := [], off := [], above := [0, 0, 0], below := [0, 0, 0], changed := [none, none, none], modelTold := false }

/-- The governor: when the request last rose or fell, its last step, since when a request has stood at VMAX and whether that has been
told, a transaction under way (code and tries), the failure being retried, and the last poll. -/
structure GovSt where
  reqAt : Tick
  lastStep : Option Tick
  maxSince : Option Tick
  maxTold : Bool
  busy : Option (Nat × Nat)
  failedAt : Option Tick
  lastPoll : Option Tick
  started : Bool
  deriving DecidableEq, Repr

def GovSt.init : GovSt :=
  { reqAt := 0, lastStep := none, maxSince := none, maxTold := false, busy := none, failedAt := none, lastPoll := none, started := false }

/-- The monitor ADC: slot, conversions made and their sum; the urgent request waiting or running with its conversions and sum. -/
structure MonSt where
  slot : Nat
  n : Nat
  sum : Nat
  urgent : Option (Nat × Nat)
  deriving DecidableEq, Repr

/-! ## Fault log, recorder, lifetime set (R386 to R405) -/

/-- An entry of the fault log (R394); `react` in the order INT, TRAP, BLOCK_RESET, CHIP_RESET, ERR_PIN. -/
structure LogEntry where
  src : Nat
  sev : Nat
  coincident : Bool
  injected : Bool
  first : Bool
  react : BitVec 5
  lseq : Word
  tick : Tick
  slots : List Nat
  timeNs : Word
  deriving DecidableEq, Repr

/-- A record (R398): words 0 to 6, word 7 being formed from them; in flash, whether its COMMIT and CRC match. -/
structure Rec where
  seq : Word
  words : List (BitVec 64)
  good : Bool
  deriving DecidableEq, Repr

/-- The recorder: records queued, the write under way in two phases, a record run dropped and its count, the next SEQ, the next circle
slot, the sector being erased, records held in DEEP_SLEEP, and a window copy under way. -/
structure RecSt where
  queue : List Rec
  dropRun : Bool
  dropped : Nat
  next : Word
  pos : Nat
  erasing : Option Nat
  asleep : List (Nat × List (BitVec 64))
  copy : Option Word
  /-- SEQ of the ORDERLY record of a FLUSH under way, and whether its lifetime save is done -/
  flush : Option (Word × Bool)
  deriving DecidableEq, Repr

def RecSt.init : RecSt :=
  { queue := [], dropRun := false, dropped := 0, next := 0, pos := 0, erasing := none, asleep := [], copy := none, flush := none }

/-! ## Reset, start-up and the test port (R406 to R424) -/

/-- Resets and shutdown in progress: the cause of a running R417 sequence and its start tick, whether the PLL is to relock, RESET_N
held low, tick of SHUTDOWN and its step (1 parking, 2 isolated, 3 only the always-on domain), the image versions in force, tick
count of the start-up, and a running flash window operation. -/
structure SysSt where
  resetting : Option (Nat × Tick)
  relock : Bool
  pinLow : Bool
  shut : Option Tick
  shutStep : Nat
  /-- every line was clamped at this tick in a SHUTDOWN or reset -/
  clampedAt : Option Tick
  fwVer : BitVec 24
  ucVer : BitVec 24
  rose : Tick
  wake : Bool
  sleepIdle : Option Tick
  flash : Option (Bool × Nat)
  /-- zeroising of the key stores since this tick -/
  zeroing : Option Tick
  badTokens : Nat
  challenge : BitVec 64
  deriving DecidableEq, Repr

def SysSt.init : SysSt :=
  { resetting := none, relock := false, pinLow := true, shut := none, shutStep := 0, clampedAt := none, fwVer := 0, ucVer := 0, rose := 0,
    wake := false, sleepIdle := none, flash := none, zeroing := none, badTokens := 0, challenge := 0 }

/-- The test access port (R422): Test-Logic-Reset, the instruction in force, the data last shifted out, and the boundary register as
captured and as preloaded. -/
structure Tap where
  held : Bool
  instr : BitVec 8
  out : List Bool
  captured : List Bool
  preload : List Bool
  /-- EXTEST drives the pins from the boundary register -/
  driving : Bool
  deriving DecidableEq, Repr

/-- A port held in Test-Logic-Reset with IDCODE selected. -/
def Tap.init : Tap := { held := true, instr := 0x01, out := [], captured := [], preload := [], driving := false }
/-! ## The state -/

/-- The device. A `Store` field is sparse: a number it does not list holds the reset value of its kind. -/
structure State where
  /-- commands waiting, first in first out -/
  pending : List Instr
  /-- TICK, the timing plane (R26, R27) -/
  tick : Tick
  /-- the MODEL'S OWN counter of free values: not the spec's; no statement rests on it -/
  freeCtr : Nat
  /-- the register window: an unlisted address reads its reset word (R445 to R447) -/
  regs : Store Word
  /-- live values behind latched LO/HI pairs, by LO address -/
  wide : Store (BitVec 48)
  /-- faults at the collector's input, in the order raised (R391) -/
  raised : List FaultIn
  /-- the fault log, oldest first (R394) -/
  faultLog : List LogEntry
  /-- event producer pulses not yet at their channels (R361): producer line, tick -/
  pulses : List (Nat × Tick)
  /-- the shot-boundary hold is asserted (R13, R91, R375) -/
  holdOn : Bool
  /-- data answered to the last register read -/
  answered : Option Word
  /-- next control store address each scrubber reads (R116) -/
  ucScrub : Store Nat
  /-- margin monitors below LM_CFG.GOV_TH (R38) -/
  govMon : Store Bool
  /-- pilots by berth (R61) -/
  pilots : Store Pilot
  /-- pounds by berth, oldest order first (R30, R33) -/
  pounds : Store (List Order)
  /-- pilot program memories: berth × 16384 + address (R98) -/
  pm : Store Word
  /-- live shot ledgers by berth (R94) -/
  ledgers : Store Ledger
  /-- lock lanes: drive b, flux 64 + b, probe lane 128 + b (R33, R34) -/
  locks : Store LockLane
  /-- branch contexts: berth × 2 + context (R50) -/
  ctxs : Store Ctx
  /-- samples last released by lock ℓ, empty for zero (R15) -/
  outs : Store (List Int)
  /-- decisions at the entry stage (R46, R47) -/
  xbarWait : List XbarItem
  /-- decisions entered and not yet served (R48) -/
  xbarQueue : List XbarItem
  /-- decisions served or from the mesh, with their delivery tick (R48) -/
  xbarServed : List XbarItem
  /-- late default resolutions whose margin missed is not yet known (R54) -/
  owed : List Owed
  /-- last entry tick of each local source (R49) -/
  lastEntry : Store (Option Tick)
  /-- synthesis path lanes: berth × 15 + path × 5 + lane (path 0 drive, 1 probe, 2 flux; lane 0 main) -/
  paths : Store PathLane
  /-- ticks formed and not yet released in which tones of a berth play zero for want of data (R136) -/
  muteds : Store (List Muted)
  /-- prefetchers, the walked segments in the order walked: berth × 13 + tone, numbered as in R125 (R131) -/
  fetches : Store (List Fetch)
  /-- the frame origin pair as latched by the last write of SYN_ORIGIN_HI (R141) -/
  synOrigin : BitVec 48
  /-- SYN_STREAM_CFG.MAX_PLAYS in force: the last admitted value (R134, R238) -/
  maxPlays : Nat
  /-- JESD79-4 SDRAM bytes; an unlisted byte reads 0 -/
  sdram : List Host.Cell
  /-- next pair the basin scrubber reads (R123) -/
  basinNext : Nat
  /-- samples written and played of each stream buffer, W and R, unwrapped (R277) -/
  sbufs : Store (Nat × Nat)
  /-- the segment table (R124) -/
  segs : Store (BitVec 128)
  /-- marker pins MRK[0] to MRK[15] (R130) -/
  mrkPins : Store MrkPin
  /-- pilot marker lines by berth (R74) -/
  mrkLines : Store (BitVec 4)
  /-- flux lines by berth (R157 to R170) -/
  fluxes : Store FluxLine
  /-- demodulators: input × 16 + k (R179) -/
  demods : Store Demod
  /-- read-out front ends by input (R176) -/
  inputs : Store Input
  /-- decisions formed and not yet at the crossbar entry stage, with their entry tick (R46) -/
  decMade : List (Decision × Tick)
  /-- closed windows whose decision has not been delivered (R191) -/
  winResults : List WinRes
  /-- closed SEL = 1 windows not yet handed to their kernel engine (R194) -/
  jobsDue : List WinRes
  /-- partial points not yet at their engine: input, demodulator, end tick, LAST as 1, I, Q (R183) -/
  partials : List (Nat × Nat × Tick × Nat × Int × Int)
  /-- acquisition units by input (R223) -/
  acqs : Store Acq
  /-- admission requests in the order accepted (R238) -/
  admQueue : List AdmReq
  /-- group flits made by this device and not yet in a port queue, with the tick in which they join it (R313, R318) -/
  flitsOut : List (FlitBody × Tick)
  /-- FIREs for the other units of a group on this device: group, fire tick, tick of receipt (R229) -/
  localFires : List (BitVec 8 × Tick × Tick)
  /-- ARM flits a master holds: unit and arm tick (R318) -/
  armHeld : List (Nat × Tick)
  /-- kernel engines by input (R201) -/
  kerns : Store Kern
  /-- converters by the numbers of R241 -/
  convs : Store Conv
  /-- fuse array: generation slots 0 to 15 (R242) -/
  fuses : List FuseGen
  /-- baseline commit in progress (R258) -/
  fuseJob : Option FuseJob
  /-- self-calibration in progress: its last tick, and the converters it covers (R256) -/
  selfCal : Option (Tick × List Nat)
  /-- berths whose outputs wait for their unmute tick, or are muted while yielding (R346, R347) -/
  twWait : BitVec 64
  /-- the time servo (R324 to R334) -/
  time : TimeSt
  /-- mesh ports XP to ZN by number (R317) -/
  meshPorts : Store MeshPort
  /-- group flits received, by their identity bits, with the tick of receipt (R319) -/
  groupSeen : List (BitVec 64 × Tick)
  /-- descriptor rings (R263) -/
  rings : Store Ring
  /-- commands issued so far (R271, R281) -/
  cmdSeq : Nat
  /-- the command ring served last (R271) -/
  ringTurn : Nat
  /-- notices dropped since the last NOTICE_LOST notice (R287) -/
  noticesLost : Nat
  /-- the last block of 32-bit words written to host memory by READ_STATE or a result ring, with its address (R280, R286) -/
  hostWrite : Option (BitVec 64 × List Word)
  /-- serial lanes (R296) -/
  lanes : Store Lane
  /-- the last post of each mailbox (R357) -/
  mbxs : Store (Option MbxPost)
  /-- event channels (R363) -/
  evtChs : Store EvtCh
  /-- firings not yet at every task input (R364) -/
  firings : List Firing
  /-- group activations delivered and not in effect: group, enable, tick (R368) -/
  groupTasks : List (Nat × Bool × Tick)
  /-- EVT_OUT pins: assertion and end of the pulse (R365) -/
  evtOuts : Store (Option (Tick × Tick))
  /-- EVT_IN pins as last sampled (R361) -/
  evtIns : Store (Option Bool)
  /-- timers: latched compare value, and the tick of the write it compares after (R361) -/
  tmrs : Store (BitVec 48 × Tick)
  /-- management core interrupts pending: 0 fault, 1 + m mailbox m, 216 to 219 event interrupts (R354, R365, R389) -/
  mcoreIrq : List Nat
  /-- the twin machine (R337 to R351) -/
  twin : TwinSt
  /-- LOG entries not yet taken, by berth: kind and result (R342) -/
  logs : Store (List (BitVec 3 × BitVec 48))
  /-- since when a standby pilot waits for its LOG entry (R342) -/
  logWait : Store (Option Tick)
  /-- bias codes of BIAS flits: line, code, strobe tick (R343) -/
  twinBias : List (Nat × BitVec 18 × Tick)
  /-- shot ledger registers mirrored from the active twin, by berth (R341) -/
  mirrored : Store (List Word)
  /-- temperature (R372 to R376) -/
  therm : ThermSt
  /-- the margin governor (R378 to R380) -/
  gov : GovSt
  /-- the monitor ADC (R385) -/
  mon : MonSt
  /-- since when the power state's own timer runs (R381) -/
  idleSince : Tick
  /-- faults whose reactions are due two ticks after their tick (R391) -/
  reacts : List LogEntry
  /-- LSEQ of the next fault log entry (R394) -/
  logSeq : Word
  /-- ERR_N is low at least to this tick (R393) -/
  errUntil : Option Tick
  /-- ERR_N is low (R393) -/
  errPin : Bool
  /-- the event recorder (R397 to R403) -/
  recorder : RecSt
  /-- records in flash: permanent slots 0 to 1023, circle slots from 1024 (R397) -/
  recSlots : Store (Option Rec)
  /-- the live lifetime set, words 1 to 363 (R404); a margin word reads 0x7FFF per lock where none has been seen -/
  life : Store Word
  /-- the lifetime shadow (R404) -/
  lifeShadow : Store Word
  /-- lifetime copies in flash by sector: generation and set (R405) -/
  lifeCopies : Store (Option (Nat × Store Word))
  /-- lifetime save under way: sector, generation, set (R405) -/
  lifeSave : Option (Nat × Nat × Store Word)
  /-- the next lifetime sector (R405) -/
  lifeNext : Nat
  /-- tick of the last lifetime save (R405) -/
  lastSave : Tick
  /-- flash bytes outside the recorder and lifetime regions; an unlisted byte is erased (R409) -/
  flash : Store (BitVec 8)
  /-- resets, start-up and shutdown (R376, R413, R417) -/
  sys : SysSt
  /-- the test access port (R422) -/
  tap : Tap
  deriving DecidableEq, Repr

/-- The device right after power-on: every register at its reset value, every store unlisted, nothing waiting. -/
def State.reset : State :=
  { pending := [],
    tick := 0,
    freeCtr := 0,
    regs := [],
    wide := [],
    raised := [],
    faultLog := [],
    pulses := [],
    holdOn := false,
    answered := none,
    ucScrub := [],
    govMon := [],
    pilots := [],
    pounds := [],
    pm := [],
    ledgers := [],
    locks := [],
    ctxs := [],
    outs := [],
    xbarWait := [],
    xbarQueue := [],
    xbarServed := [],
    owed := [],
    lastEntry := [],
    paths := [],
    muteds := [],
    fetches := [],
    synOrigin := 0,
    maxPlays := 0,
    sdram := [],
    basinNext := 0,
    sbufs := [],
    segs := [],
    mrkPins := [],
    mrkLines := [],
    fluxes := [],
    demods := [],
    inputs := [],
    decMade := [],
    winResults := [],
    jobsDue := [],
    partials := [],
    acqs := [],
    admQueue := [],
    flitsOut := [],
    localFires := [],
    armHeld := [],
    kerns := [],
    convs := [],
    fuses := FuseGen.factory :: List.replicate 15 FuseGen.blank,
    fuseJob := none,
    selfCal := none,
    twWait := 0,
    time := TimeSt.init,
    meshPorts := [],
    groupSeen := [],
    rings := [],
    cmdSeq := 0,
    ringTurn := 0,
    noticesLost := 0,
    hostWrite := none,
    lanes := [],
    mbxs := [],
    evtChs := [],
    firings := [],
    groupTasks := [],
    evtOuts := [],
    evtIns := [],
    tmrs := [],
    mcoreIrq := [],
    twin := TwinSt.init,
    logs := [],
    logWait := [],
    twinBias := [],
    mirrored := [],
    therm := ThermSt.init,
    gov := GovSt.init,
    mon := { slot := 0, n := 0, sum := 0, urgent := none },
    idleSince := 0,
    reacts := [],
    logSeq := 0,
    errUntil := none,
    errPin := false,
    recorder := RecSt.init,
    recSlots := [],
    life := [],
    lifeShadow := [],
    lifeCopies := [],
    lifeSave := none,
    lifeNext := 0,
    lastSave := 0,
    flash := [],
    sys := SysSt.init,
    tap := Tap.init }

end Sys2Proof.Machine
end

