-- ==== Sys2Proof/Machine/Store.lean ====
section
/-! DEFINITION. The sparse store's operations, small list tools, and a reader and writer for each kind of record the state
holds by number. -/

namespace Sys2Proof.Machine

/-! ## The sparse store -/

/-- What key `k` holds: its entry, or the default. -/
def Store.read {α : Type} (d : Nat → α) : Store α → Nat → α
  | [], k => d k
  | (j, v) :: t, k => if j = k then v else Store.read d t k

/-- Puts an entry before the first one with a greater or equal key. -/
def Store.insert {α : Type} : Store α → Nat → α → Store α
  | [], k, v => [(k, v)]
  | (j, w) :: t, k, v => if j < k then (j, w) :: Store.insert t k v else (k, v) :: (j, w) :: t

/-- Drops every entry of a key. -/
def Store.drop {α : Type} (m : Store α) (k : Nat) : Store α := m.filter (fun p => p.1 != k)

/-- Writes key `k`, keeping the canonical form: keys rising, no entry equal to its default. -/
def Store.write {α : Type} [DecidableEq α] (d : Nat → α) (m : Store α) (k : Nat) (v : α) : Store α :=
  if v = d k then Store.drop m k else Store.insert (Store.drop m k) k v

/-- The canonical form: keys strictly rising and no entry equal to what an unlisted key reads as. -/
def Store.wf {α : Type} [DecidableEq α] (d : Nat → α) : Store α → Bool
  | [] => true
  | (k, v) :: t => decide (v ≠ d k) && (match t with | [] => true | (j, _) :: _ => decide (k < j)) && Store.wf d t

/-- Reads `len` consecutive keys from `k`, lowest first. -/
def Store.readList {α : Type} (d : Nat → α) (m : Store α) (k : Nat) : Nat → List α
  | 0 => []
  | n + 1 => Store.read d m k :: Store.readList d m (k + 1) n

/-- Writes consecutive keys from `k`, lowest first. -/
def Store.writeList {α : Type} [DecidableEq α] (d : Nat → α) : Store α → Nat → List α → Store α
  | m, _, [] => m
  | m, k, v :: vs => Store.writeList d (Store.write d m k v) (k + 1) vs

/-! ## Small tools -/

/-- Applies `f` when the condition holds. -/
def State.when (s : State) (c : Bool) (f : State → State) : State := if c then f s else s

/-- Folds an effect over a list, first element first. -/
def State.each {α : Type} (s : State) (l : List α) (f : State → α → State) : State := l.foldl f s

/-- Replaces the element at an index of a list, if it has one. -/
def listSet {α : Type} : List α → Nat → α → List α
  | [], _, _ => []
  | _ :: t, 0, v => v :: t
  | a :: t, n + 1, v => a :: listSet t n v

/-- Inserts into a list after every element that is not greater, so that equals keep their order of arrival. -/
def insertBy {α : Type} (le : α → α → Bool) (x : α) : List α → List α
  | [] => [x]
  | y :: t => if le y x then y :: insertBy le x t else x :: y :: t

/-- Removes the first element that satisfies `p`. -/
def takeFirst {α : Type} (p : α → Bool) : List α → Option (α × List α)
  | [] => none
  | a :: t => if p a then some (a, t) else (takeFirst p t).map (fun (x, r) => (x, a :: r))

/-! ## Records by number -/

/-- Reads and writes live values behind latched LO/HI pairs, by LO address. -/
def State.wideVal (s : State) (k : Nat) : BitVec 48 := Store.read (fun _ => 0) s.wide k
def State.setWideVal (s : State) (k : Nat) (v : BitVec 48) : State :=
  { s with wide := Store.write (fun _ => 0) s.wide k v }
def State.modWideVal (s : State) (k : Nat) (f : BitVec 48 → BitVec 48) : State := s.setWideVal k (f (s.wideVal k))
/-- Reads and writes pilots by berth (R61). -/
def State.pilot (s : State) (k : Nat) : Pilot := Store.read (fun _ => Pilot.init) s.pilots k
def State.setPilot (s : State) (k : Nat) (v : Pilot) : State :=
  { s with pilots := Store.write (fun _ => Pilot.init) s.pilots k v }
def State.modPilot (s : State) (k : Nat) (f : Pilot → Pilot) : State := s.setPilot k (f (s.pilot k))
/-- Reads and writes pounds by berth, oldest order first (R30, R33). -/
def State.pound (s : State) (k : Nat) : List Order := Store.read (fun _ => []) s.pounds k
def State.setPound (s : State) (k : Nat) (v : List Order) : State :=
  { s with pounds := Store.write (fun _ => []) s.pounds k v }
def State.modPound (s : State) (k : Nat) (f : List Order → List Order) : State := s.setPound k (f (s.pound k))
/-- Reads and writes pilot program memories: berth × 16384 + address (R98). -/
def State.progWord (s : State) (k : Nat) : Word := Store.read (fun _ => 0) s.pm k
def State.setProgWord (s : State) (k : Nat) (v : Word) : State :=
  { s with pm := Store.write (fun _ => 0) s.pm k v }
def State.modProgWord (s : State) (k : Nat) (f : Word → Word) : State := s.setProgWord k (f (s.progWord k))
/-- Reads and writes live shot ledgers by berth (R94). -/
def State.ledger (s : State) (k : Nat) : Ledger := Store.read (fun _ => Ledger.init) s.ledgers k
def State.setLedger (s : State) (k : Nat) (v : Ledger) : State :=
  { s with ledgers := Store.write (fun _ => Ledger.init) s.ledgers k v }
def State.modLedger (s : State) (k : Nat) (f : Ledger → Ledger) : State := s.setLedger k (f (s.ledger k))
/-- Reads and writes lock lanes: drive b, flux 64 + b, probe lane 128 + b (R33, R34). -/
def State.lockLane (s : State) (k : Nat) : LockLane := Store.read (fun _ => LockLane.init) s.locks k
def State.setLockLane (s : State) (k : Nat) (v : LockLane) : State :=
  { s with locks := Store.write (fun _ => LockLane.init) s.locks k v }
def State.modLockLane (s : State) (k : Nat) (f : LockLane → LockLane) : State := s.setLockLane k (f (s.lockLane k))
/-- Reads and writes branch contexts: berth × 2 + context (R50). -/
def State.ctx (s : State) (k : Nat) : Ctx := Store.read (fun _ => Ctx.init) s.ctxs k
def State.setCtx (s : State) (k : Nat) (v : Ctx) : State :=
  { s with ctxs := Store.write (fun _ => Ctx.init) s.ctxs k v }
def State.modCtx (s : State) (k : Nat) (f : Ctx → Ctx) : State := s.setCtx k (f (s.ctx k))
/-- Reads and writes samples last released by lock ℓ, empty for zero (R15). -/
def State.outPin (s : State) (k : Nat) : List Int := Store.read (fun _ => []) s.outs k
def State.setOutPin (s : State) (k : Nat) (v : List Int) : State :=
  { s with outs := Store.write (fun _ => []) s.outs k v }
def State.modOutPin (s : State) (k : Nat) (f : List Int → List Int) : State := s.setOutPin k (f (s.outPin k))
/-- Reads and writes last entry tick of each local source (R49). -/
def State.lastEntryOf (s : State) (k : Nat) : Option Tick := Store.read (fun _ => none) s.lastEntry k
def State.setLastEntryOf (s : State) (k : Nat) (v : Option Tick) : State :=
  { s with lastEntry := Store.write (fun _ => none) s.lastEntry k v }
def State.modLastEntryOf (s : State) (k : Nat) (f : Option Tick → Option Tick) : State := s.setLastEntryOf k (f (s.lastEntryOf k))
/-- Reads and writes synthesis path lanes: berth × 15 + path × 5 + lane (path 0 drive, 1 probe, 2 flux; lane 0 main). -/
def State.path (s : State) (k : Nat) : PathLane := Store.read (fun _ => PathLane.init) s.paths k
def State.setPath (s : State) (k : Nat) (v : PathLane) : State :=
  { s with paths := Store.write (fun _ => PathLane.init) s.paths k v }
def State.modPath (s : State) (k : Nat) (f : PathLane → PathLane) : State := s.setPath k (f (s.path k))
/-- Reads and writes ticks formed and not yet released in which tones of a berth play zero for want of data (R136). -/
def State.muted (s : State) (k : Nat) : List Muted := Store.read (fun _ => []) s.muteds k
def State.setMuted (s : State) (k : Nat) (v : List Muted) : State :=
  { s with muteds := Store.write (fun _ => []) s.muteds k v }
def State.modMuted (s : State) (k : Nat) (f : List Muted → List Muted) : State := s.setMuted k (f (s.muted k))
/-- Reads and writes prefetchers, the walked segments in the order walked: berth × 13 + tone, numbered as in R125 (R131). -/
def State.prefetch (s : State) (k : Nat) : List Fetch := Store.read (fun _ => []) s.fetches k
def State.setPrefetch (s : State) (k : Nat) (v : List Fetch) : State :=
  { s with fetches := Store.write (fun _ => []) s.fetches k v }
def State.modPrefetch (s : State) (k : Nat) (f : List Fetch → List Fetch) : State := s.setPrefetch k (f (s.prefetch k))
/-- Reads and writes samples written and played of each stream buffer, W and R, unwrapped (R277). -/
def State.sbufCnt (s : State) (k : Nat) : Nat × Nat := Store.read (fun _ => (0, 0)) s.sbufs k
def State.setSbufCnt (s : State) (k : Nat) (v : Nat × Nat) : State :=
  { s with sbufs := Store.write (fun _ => (0, 0)) s.sbufs k v }
def State.modSbufCnt (s : State) (k : Nat) (f : Nat × Nat → Nat × Nat) : State := s.setSbufCnt k (f (s.sbufCnt k))
/-- Reads and writes the segment table (R124). -/
def State.seg (s : State) (k : Nat) : BitVec 128 := Store.read (fun _ => 0) s.segs k
def State.setSeg (s : State) (k : Nat) (v : BitVec 128) : State :=
  { s with segs := Store.write (fun _ => 0) s.segs k v }
def State.modSeg (s : State) (k : Nat) (f : BitVec 128 → BitVec 128) : State := s.setSeg k (f (s.seg k))
/-- Reads and writes marker pins MRK[0] to MRK[15] (R130). -/
def State.mrkPin (s : State) (k : Nat) : MrkPin := Store.read (fun _ => MrkPin.init) s.mrkPins k
def State.setMrkPin (s : State) (k : Nat) (v : MrkPin) : State :=
  { s with mrkPins := Store.write (fun _ => MrkPin.init) s.mrkPins k v }
def State.modMrkPin (s : State) (k : Nat) (f : MrkPin → MrkPin) : State := s.setMrkPin k (f (s.mrkPin k))
/-- Reads and writes pilot marker lines by berth (R74). -/
def State.mrkLine (s : State) (k : Nat) : BitVec 4 := Store.read (fun _ => 0) s.mrkLines k
def State.setMrkLine (s : State) (k : Nat) (v : BitVec 4) : State :=
  { s with mrkLines := Store.write (fun _ => 0) s.mrkLines k v }
def State.modMrkLine (s : State) (k : Nat) (f : BitVec 4 → BitVec 4) : State := s.setMrkLine k (f (s.mrkLine k))
/-- Reads and writes flux lines by berth (R157 to R170). -/
def State.fluxLine (s : State) (k : Nat) : FluxLine := Store.read (fun _ => FluxLine.init) s.fluxes k
def State.setFluxLine (s : State) (k : Nat) (v : FluxLine) : State :=
  { s with fluxes := Store.write (fun _ => FluxLine.init) s.fluxes k v }
def State.modFluxLine (s : State) (k : Nat) (f : FluxLine → FluxLine) : State := s.setFluxLine k (f (s.fluxLine k))
/-- Reads and writes demodulators: input × 16 + k (R179). -/
def State.demod (s : State) (k : Nat) : Demod := Store.read (fun _ => Demod.init) s.demods k
def State.setDemod (s : State) (k : Nat) (v : Demod) : State :=
  { s with demods := Store.write (fun _ => Demod.init) s.demods k v }
def State.modDemod (s : State) (k : Nat) (f : Demod → Demod) : State := s.setDemod k (f (s.demod k))
/-- Reads and writes read-out front ends by input (R176). -/
def State.inp (s : State) (k : Nat) : Input := Store.read (fun _ => Input.init) s.inputs k
def State.setInp (s : State) (k : Nat) (v : Input) : State :=
  { s with inputs := Store.write (fun _ => Input.init) s.inputs k v }
def State.modInp (s : State) (k : Nat) (f : Input → Input) : State := s.setInp k (f (s.inp k))
/-- Reads and writes acquisition units by input (R223). -/
def State.acq (s : State) (k : Nat) : Acq := Store.read (fun _ => Acq.init) s.acqs k
def State.setAcq (s : State) (k : Nat) (v : Acq) : State :=
  { s with acqs := Store.write (fun _ => Acq.init) s.acqs k v }
def State.modAcq (s : State) (k : Nat) (f : Acq → Acq) : State := s.setAcq k (f (s.acq k))
/-- Reads and writes kernel engines by input (R201). -/
def State.kern (s : State) (k : Nat) : Kern := Store.read (fun _ => Kern.init) s.kerns k
def State.setKern (s : State) (k : Nat) (v : Kern) : State :=
  { s with kerns := Store.write (fun _ => Kern.init) s.kerns k v }
def State.modKern (s : State) (k : Nat) (f : Kern → Kern) : State := s.setKern k (f (s.kern k))
/-- Reads and writes converters by the numbers of R241. -/
def State.conv (s : State) (k : Nat) : Conv := Store.read (fun _ => Conv.init) s.convs k
def State.setConv (s : State) (k : Nat) (v : Conv) : State :=
  { s with convs := Store.write (fun _ => Conv.init) s.convs k v }
def State.modConv (s : State) (k : Nat) (f : Conv → Conv) : State := s.setConv k (f (s.conv k))
/-- Reads and writes mesh ports XP to ZN by number (R317). -/
def State.meshPort (s : State) (k : Nat) : MeshPort := Store.read (fun _ => MeshPort.init) s.meshPorts k
def State.setMeshPort (s : State) (k : Nat) (v : MeshPort) : State :=
  { s with meshPorts := Store.write (fun _ => MeshPort.init) s.meshPorts k v }
def State.modMeshPort (s : State) (k : Nat) (f : MeshPort → MeshPort) : State := s.setMeshPort k (f (s.meshPort k))
/-- Reads and writes descriptor rings (R263). -/
def State.ring (s : State) (k : Nat) : Ring := Store.read (fun _ => Ring.init) s.rings k
def State.setRing (s : State) (k : Nat) (v : Ring) : State :=
  { s with rings := Store.write (fun _ => Ring.init) s.rings k v }
def State.modRing (s : State) (k : Nat) (f : Ring → Ring) : State := s.setRing k (f (s.ring k))
/-- Reads and writes serial lanes (R296). -/
def State.lane (s : State) (k : Nat) : Lane := Store.read (fun _ => Lane.init) s.lanes k
def State.setLane (s : State) (k : Nat) (v : Lane) : State :=
  { s with lanes := Store.write (fun _ => Lane.init) s.lanes k v }
def State.modLane (s : State) (k : Nat) (f : Lane → Lane) : State := s.setLane k (f (s.lane k))
/-- Reads and writes the last post of each mailbox (R357). -/
def State.mbx (s : State) (k : Nat) : Option MbxPost := Store.read (fun _ => none) s.mbxs k
def State.setMbx (s : State) (k : Nat) (v : Option MbxPost) : State :=
  { s with mbxs := Store.write (fun _ => none) s.mbxs k v }
def State.modMbx (s : State) (k : Nat) (f : Option MbxPost → Option MbxPost) : State := s.setMbx k (f (s.mbx k))
/-- Reads and writes event channels (R363). -/
def State.evtCh (s : State) (k : Nat) : EvtCh := Store.read (fun _ => EvtCh.init) s.evtChs k
def State.setEvtCh (s : State) (k : Nat) (v : EvtCh) : State :=
  { s with evtChs := Store.write (fun _ => EvtCh.init) s.evtChs k v }
def State.modEvtCh (s : State) (k : Nat) (f : EvtCh → EvtCh) : State := s.setEvtCh k (f (s.evtCh k))
/-- Reads and writes EVT_OUT pins: assertion and end of the pulse (R365). -/
def State.evtOut (s : State) (k : Nat) : Option (Tick × Tick) := Store.read (fun _ => none) s.evtOuts k
def State.setEvtOut (s : State) (k : Nat) (v : Option (Tick × Tick)) : State :=
  { s with evtOuts := Store.write (fun _ => none) s.evtOuts k v }
def State.modEvtOut (s : State) (k : Nat) (f : Option (Tick × Tick) → Option (Tick × Tick)) : State := s.setEvtOut k (f (s.evtOut k))
/-- Reads and writes EVT_IN pins as last sampled (R361). -/
def State.evtIn (s : State) (k : Nat) : Option Bool := Store.read (fun _ => none) s.evtIns k
def State.setEvtIn (s : State) (k : Nat) (v : Option Bool) : State :=
  { s with evtIns := Store.write (fun _ => none) s.evtIns k v }
def State.modEvtIn (s : State) (k : Nat) (f : Option Bool → Option Bool) : State := s.setEvtIn k (f (s.evtIn k))
/-- Reads and writes timers: latched compare value, and the tick of the write it compares after (R361). -/
def State.tmr (s : State) (k : Nat) : BitVec 48 × Tick := Store.read (fun _ => (0, 0)) s.tmrs k
def State.setTmr (s : State) (k : Nat) (v : BitVec 48 × Tick) : State :=
  { s with tmrs := Store.write (fun _ => (0, 0)) s.tmrs k v }
def State.modTmr (s : State) (k : Nat) (f : BitVec 48 × Tick → BitVec 48 × Tick) : State := s.setTmr k (f (s.tmr k))
/-- Reads and writes LOG entries not yet taken, by berth: kind and result (R342). -/
def State.log (s : State) (k : Nat) : List (BitVec 3 × BitVec 48) := Store.read (fun _ => []) s.logs k
def State.setLog (s : State) (k : Nat) (v : List (BitVec 3 × BitVec 48)) : State :=
  { s with logs := Store.write (fun _ => []) s.logs k v }
def State.modLog (s : State) (k : Nat) (f : List (BitVec 3 × BitVec 48) → List (BitVec 3 × BitVec 48)) : State := s.setLog k (f (s.log k))
/-- Reads and writes since when a standby pilot waits for its LOG entry (R342). -/
def State.logStall (s : State) (k : Nat) : Option Tick := Store.read (fun _ => none) s.logWait k
def State.setLogStall (s : State) (k : Nat) (v : Option Tick) : State :=
  { s with logWait := Store.write (fun _ => none) s.logWait k v }
def State.modLogStall (s : State) (k : Nat) (f : Option Tick → Option Tick) : State := s.setLogStall k (f (s.logStall k))
/-- Reads and writes shot ledger registers mirrored from the active twin, by berth (R341). -/
def State.mirrorLedger (s : State) (k : Nat) : List Word := Store.read (fun _ => []) s.mirrored k
def State.setMirrorLedger (s : State) (k : Nat) (v : List Word) : State :=
  { s with mirrored := Store.write (fun _ => []) s.mirrored k v }
def State.modMirrorLedger (s : State) (k : Nat) (f : List Word → List Word) : State := s.setMirrorLedger k (f (s.mirrorLedger k))
/-- Reads and writes records in flash: permanent slots 0 to 1023, circle slots from 1024 (R397). -/
def State.recSlot (s : State) (k : Nat) : Option Rec := Store.read (fun _ => none) s.recSlots k
def State.setRecSlot (s : State) (k : Nat) (v : Option Rec) : State :=
  { s with recSlots := Store.write (fun _ => none) s.recSlots k v }
def State.modRecSlot (s : State) (k : Nat) (f : Option Rec → Option Rec) : State := s.setRecSlot k (f (s.recSlot k))
/-- Reads and writes the live lifetime set, words 1 to 363 (R404); a margin word reads 0x7FFF per lock where none has been seen. -/
def State.lifeWord (s : State) (k : Nat) : Word := Store.read (fun k => if 64 ≤ k ∧ k < 136 then 0x7FFF7FFF else 0) s.life k
def State.setLifeWord (s : State) (k : Nat) (v : Word) : State :=
  { s with life := Store.write (fun k => if 64 ≤ k ∧ k < 136 then 0x7FFF7FFF else 0) s.life k v }
def State.modLifeWord (s : State) (k : Nat) (f : Word → Word) : State := s.setLifeWord k (f (s.lifeWord k))
/-- Reads and writes the lifetime shadow (R404). -/
def State.shadowWord (s : State) (k : Nat) : Word := Store.read (fun k => if 64 ≤ k ∧ k < 136 then 0x7FFF7FFF else 0) s.lifeShadow k
def State.setShadowWord (s : State) (k : Nat) (v : Word) : State :=
  { s with lifeShadow := Store.write (fun k => if 64 ≤ k ∧ k < 136 then 0x7FFF7FFF else 0) s.lifeShadow k v }
def State.modShadowWord (s : State) (k : Nat) (f : Word → Word) : State := s.setShadowWord k (f (s.shadowWord k))
/-- Reads and writes lifetime copies in flash by sector: generation and set (R405). -/
def State.lifeCopy (s : State) (k : Nat) : Option (Nat × Store Word) := Store.read (fun _ => none) s.lifeCopies k
def State.setLifeCopy (s : State) (k : Nat) (v : Option (Nat × Store Word)) : State :=
  { s with lifeCopies := Store.write (fun _ => none) s.lifeCopies k v }
def State.modLifeCopy (s : State) (k : Nat) (f : Option (Nat × Store Word) → Option (Nat × Store Word)) : State := s.setLifeCopy k (f (s.lifeCopy k))
/-- Reads and writes flash bytes outside the recorder and lifetime regions; an unlisted byte is erased (R409). -/
def State.flashByte (s : State) (k : Nat) : BitVec 8 := Store.read (fun _ => 0xFF) s.flash k
def State.setFlashByte (s : State) (k : Nat) (v : BitVec 8) : State :=
  { s with flash := Store.write (fun _ => 0xFF) s.flash k v }
def State.modFlashByte (s : State) (k : Nat) (f : BitVec 8 → BitVec 8) : State := s.setFlashByte k (f (s.flashByte k))

end Sys2Proof.Machine
end

