-- ==== Sys2Proof/Machine/Regs.lean ====
section
/-! DEFINITION. The register map of "Register map" (R445 to R447) and the field tables of every owning chapter (R1),
in one table per block: address, reset domain, and every field's bits, access code (R5) and reset value. A field
has an accessor of its own name, so that the meanings name a register as the spec does. -/

namespace Sys2Proof.Machine

/-- Base of the register set of lock `ℓ` (R445, R451): the drive locks 0 to 63 at 0x4100 and the flux pulse locks 64 to
127 at 0x4180 of their berth block, the probe locks 128 to 143 at 0x400 of their probe output block. -/
def lockBase (ℓ : Nat) : Nat :=
  if ℓ < 64 then 0x100000 + 0x10000 * ℓ + 0x4100
  else if ℓ < 128 then 0x100000 + 0x10000 * (ℓ - 64) + 0x4180
  else 0x900000 + 0x1000 * (ℓ - 128) + 0x400

/-- The registers of the global block, by offset. -/
def globalRows : List RegRow := [
  ⟨"GLB_ID", 0x0, 0, 1, .sys, [⟨0, 16, .ro, 0x6416, false⟩, ⟨16, 4, .ro, 0x0, false⟩]⟩,
  ⟨"GLB_SERIAL_LO", 0x4, 0, 1, .sys, [⟨0, 32, .ro, 0x0, false⟩]⟩,
  ⟨"GLB_SERIAL_HI", 0x8, 0, 1, .sys, [⟨0, 32, .ro, 0x0, false⟩]⟩,
  ⟨"TPL_TICK_LO", 0x100, 0, 1, .sys, [⟨0, 32, .ro, 0x0, false⟩]⟩,
  ⟨"TPL_TICK_HI", 0x104, 0, 1, .sys, [⟨0, 16, .ro, 0x0, false⟩]⟩,
  ⟨"LM_CFG", 0x110, 0, 1, .chip, [⟨0, 8, .rw, 0x8, false⟩, ⟨8, 8, .rw, 0x10, false⟩]⟩,
  ⟨"LM_DEV_MIN", 0x114, 0, 1, .chip, [⟨0, 16, .rc, 0x7FFF, false⟩, ⟨16, 8, .rc, 0xFF, false⟩]⟩,
  ⟨"XBAR_STAT", 0x120, 0, 1, .chip, [⟨0, 2, .rc, 0x0, false⟩]⟩,
  ⟨"XBAR_LEAD_MIN", 0x124, 0, 1, .chip, [⟨0, 16, .rc, 0x7FFF, false⟩]⟩,
  ⟨"XBAR_LATE_CNT", 0x128, 0, 1, .chip, [⟨0, 32, .rc, 0x0, false⟩]⟩,
  ⟨"XBAR_BURST_CNT", 0x12C, 0, 1, .chip, [⟨0, 32, .rc, 0x0, false⟩]⟩,
  ⟨"SEG_DATA", 0x1000, 4, 4, .sys, [⟨0, 32, .rw, 0x0, false⟩]⟩,
  ⟨"SEG_CTRL", 0x1010, 0, 1, .sys, [⟨0, 17, .rw, 0x0, false⟩, ⟨30, 1, .w1s, 0x0, false⟩, ⟨31, 1, .w1s, 0x0, false⟩]⟩,
  ⟨"SYN_ORIGIN_LO", 0x1020, 0, 1, .chip, [⟨0, 32, .rw, 0x0, false⟩]⟩,
  ⟨"SYN_ORIGIN_HI", 0x1024, 0, 1, .chip, [⟨0, 16, .rw, 0x0, false⟩]⟩,
  ⟨"SYN_STREAM_CFG", 0x1030, 0, 1, .chip, [⟨0, 8, .rw, 0x0, false⟩]⟩,
  ⟨"BASIN_ECC_STAT", 0x1040, 0, 1, .chip, [⟨0, 23, .ro, 0x0, false⟩, ⟨23, 1, .w1c, 0x0, false⟩, ⟨24, 1, .w1c, 0x0, false⟩]⟩,
  ⟨"BASIN_CE_CNT", 0x1044, 0, 1, .chip, [⟨0, 32, .rc, 0x0, false⟩]⟩,
  ⟨"BASIN_SCRUB_CFG", 0x1048, 0, 1, .chip, [⟨0, 8, .rw, 0x1, false⟩]⟩,
  ⟨"MRK_SEL", 0x1100, 4, 16, .chip, [⟨0, 2, .rw, 0x0, false⟩, ⟨2, 6, .rw, 0x0, false⟩, ⟨8, 2, .rw, 0x0, false⟩, ⟨10, 1, .rw, 0x0, false⟩, ⟨16, 8, .rw, 0x1, false⟩]⟩,
  ⟨"SBUF_BASE", 0x2000, 16, 64, .chip, [⟨0, 30, .rw, 0x0, false⟩]⟩,
  ⟨"SBUF_SIZE", 0x2004, 16, 64, .chip, [⟨0, 24, .rw, 0x0, false⟩]⟩,
  ⟨"SBUF_WPTR", 0x2008, 16, 64, .chip, [⟨0, 32, .ro, 0x0, false⟩]⟩,
  ⟨"SBUF_RPTR", 0x200C, 16, 64, .chip, [⟨0, 32, .ro, 0x0, false⟩]⟩,
  ⟨"ADM_CFG", 0x1200, 0, 1, .chip, [⟨0, 24, .rw, 0x15F90, false⟩]⟩,
  ⟨"ADM_STAT", 0x1204, 0, 1, .chip, [⟨0, 24, .ro, 0x0, false⟩]⟩,
  ⟨"ADM_REJ", 0x1208, 0, 1, .chip, [⟨0, 24, .rc, 0x0, false⟩, ⟨24, 3, .rc, 0x0, false⟩, ⟨27, 5, .rc, 0x0, false⟩]⟩]

/-- The registers of the berth block, by offset. -/
def berthRows : List RegRow := [
  ⟨"PND_STAT", 0x4000, 0, 1, .chip, [⟨0, 7, .ro, 0x0, false⟩, ⟨7, 1, .ro, 0x0, false⟩]⟩,
  ⟨"PND_LEAD_MIN", 0x4004, 0, 1, .chip, [⟨0, 16, .rc, 0x7FFF, false⟩]⟩,
  ⟨"PND_SHORT_CNT", 0x4008, 0, 1, .chip, [⟨0, 32, .rc, 0x0, false⟩]⟩,
  ⟨"PND_STALL_CNT", 0x400C, 0, 1, .chip, [⟨0, 32, .rc, 0x0, false⟩]⟩,
  ⟨"SHL_LAST_DONE", 0x4200, 0, 1, .sys, [⟨0, 32, .ro, 0xFFFFFFFF, false⟩]⟩,
  ⟨"SHL_INFLIGHT", 0x4204, 0, 1, .sys, [⟨0, 32, .ro, 0xFFFFFFFF, false⟩]⟩,
  ⟨"SHL_STATE", 0x4208, 0, 1, .sys, [⟨0, 3, .ro, 0x0, false⟩, ⟨4, 2, .ro, 0x3, false⟩, ⟨8, 4, .ro, 0x0, false⟩, ⟨12, 4, .ro, 0x0, false⟩]⟩,
  ⟨"SHL_TICK_LO", 0x420C, 0, 1, .sys, [⟨0, 32, .ro, 0x0, false⟩]⟩,
  ⟨"SHL_TICK_HI", 0x4210, 0, 1, .sys, [⟨0, 16, .ro, 0x0, false⟩]⟩,
  ⟨"SHL_SEQ", 0x4214, 0, 1, .sys, [⟨0, 32, .ro, 0x0, false⟩]⟩,
  ⟨"PLT_TIME_CFG", 0x4220, 0, 1, .chip, [⟨0, 24, .rw, 0x10000, false⟩, ⟨24, 8, .rw, 0x40, false⟩]⟩,
  ⟨"PLT_CTRL", 0x0, 0, 1, .chip, [⟨0, 1, .w1s, 0x0, false⟩, ⟨1, 1, .w1s, 0x0, false⟩, ⟨2, 1, .w1s, 0x0, false⟩]⟩,
  ⟨"PLT_STAT", 0x4, 0, 1, .chip, [⟨0, 4, .ro, 0x0, false⟩, ⟨4, 1, .ro, 0x0, false⟩, ⟨5, 1, .ro, 0x0, false⟩, ⟨6, 1, .ro, 0x0, false⟩]⟩,
  ⟨"PLT_PC", 0x8, 0, 1, .chip, [⟨0, 14, .ro, 0x0, false⟩]⟩,
  ⟨"PLT_FLAGS", 0xC, 0, 1, .chip, [⟨0, 1, .ro, 0x0, false⟩, ⟨1, 1, .ro, 0x0, false⟩, ⟨2, 1, .ro, 0x0, false⟩, ⟨3, 1, .ro, 0x0, false⟩]⟩,
  ⟨"PLT_TC_LO", 0x10, 0, 1, .chip, [⟨0, 32, .ro, 0x0, false⟩]⟩,
  ⟨"PLT_TC_HI", 0x14, 0, 1, .chip, [⟨0, 16, .ro, 0x0, false⟩]⟩,
  ⟨"PLT_VAR", 0x40, 4, 16, .chip, [⟨0, 32, .ro, 0x0, false⟩]⟩,
  ⟨"PLT_RSRC", 0x80, 4, 16, .chip, [⟨0, 12, .rw, 0x0, false⟩, ⟨12, 8, .rw, 0x0, false⟩, ⟨31, 1, .rw, 0x0, false⟩]⟩,
  ⟨"PLT_PM_ADDR", 0xC0, 0, 1, .sys, [⟨0, 14, .rw, 0x0, false⟩]⟩,
  ⟨"PLT_PM_DATA", 0xC4, 0, 1, .sys, [⟨0, 32, .rw, 0x0, false⟩]⟩,
  ⟨"UC_VER", 0x100, 0, 1, .chip, [⟨0, 16, .ro, 0x0, false⟩, ⟨16, 8, .ro, 0x0, false⟩, ⟨31, 1, .ro, 0x0, false⟩]⟩,
  ⟨"UC_ECC_STAT", 0x104, 0, 1, .chip, [⟨0, 13, .ro, 0x0, false⟩, ⟨16, 1, .w1c, 0x0, false⟩, ⟨17, 1, .w1c, 0x0, false⟩]⟩,
  ⟨"UC_CE_CNT", 0x108, 0, 1, .chip, [⟨0, 32, .rc, 0x0, false⟩]⟩,
  ⟨"UC_SCRUB_CFG", 0x10C, 0, 1, .chip, [⟨0, 8, .rw, 0x1, false⟩]⟩,
  ⟨"PND_VIEW_SEL", 0x4010, 0, 1, .chip, [⟨0, 6, .rw, 0x0, false⟩, ⟨8, 1, .ro, 0x0, false⟩]⟩,
  ⟨"PND_VIEW_DATA", 0x4014, 4, 5, .chip, [⟨0, 32, .ro, 0x0, false⟩]⟩,
  ⟨"DRV_CFG", 0x2000, 0, 1, .chip, [⟨0, 1, .rw, 0x0, false⟩, ⟨1, 1, .rw, 0x0, false⟩, ⟨4, 1, .ro, 0x0, false⟩]⟩,
  ⟨"DRV_STAT", 0x2004, 0, 1, .chip, [⟨0, 1, .w1c, 0x0, false⟩, ⟨1, 1, .w1c, 0x0, false⟩]⟩,
  ⟨"DRV_SAT_CNT", 0x2008, 0, 1, .chip, [⟨0, 32, .rc, 0x0, false⟩]⟩,
  ⟨"SYN_STAT", 0x2010, 0, 1, .chip, [⟨0, 1, .w1c, 0x0, false⟩, ⟨1, 1, .w1c, 0x0, false⟩]⟩,
  ⟨"SYN_UNDER_CNT", 0x2014, 0, 1, .chip, [⟨0, 32, .rc, 0x0, false⟩]⟩,
  ⟨"SYN_JUMP_LATE_CNT", 0x2018, 0, 1, .chip, [⟨0, 32, .rc, 0x0, false⟩]⟩,
  ⟨"SYN_JUMP_DROP_CNT", 0x201C, 0, 1, .chip, [⟨0, 32, .rc, 0x0, false⟩]⟩,
  ⟨"SYN_UNDER_TICK_LO", 0x2020, 0, 1, .chip, [⟨0, 32, .ro, 0x0, false⟩]⟩,
  ⟨"SYN_UNDER_TICK_HI", 0x2024, 0, 1, .chip, [⟨0, 16, .ro, 0x0, false⟩]⟩,
  ⟨"SYN_JMP", 0x2040, 0, 1, .chip, [⟨0, 17, .rw, 0x0, false⟩, ⟨17, 3, .rw, 0x0, false⟩, ⟨20, 1, .rw, 0x0, false⟩, ⟨21, 1, .rw, 0x0, false⟩, ⟨31, 1, .w1s, 0x0, false⟩]⟩,
  ⟨"SYN_JMP_AT_LO", 0x2044, 0, 1, .chip, [⟨0, 32, .rw, 0x0, false⟩]⟩,
  ⟨"SYN_JMP_AT_HI", 0x2048, 0, 1, .chip, [⟨0, 16, .rw, 0x0, false⟩]⟩,
  ⟨"SYN_TONE_FREQ_LO", 0x2100, 16, 12, .chip, [⟨0, 32, .ro, 0x0, false⟩]⟩,
  ⟨"SYN_TONE_FREQ_HI", 0x2104, 16, 12, .chip, [⟨0, 16, .ro, 0x0, false⟩]⟩,
  ⟨"SYN_TONE_PHASE", 0x2108, 16, 12, .chip, [⟨0, 32, .ro, 0x0, false⟩]⟩,
  ⟨"SYN_TONE_SEG", 0x210C, 16, 12, .chip, [⟨0, 17, .ro, 0x0, false⟩, ⟨31, 1, .ro, 0x0, false⟩]⟩,
  ⟨"FLX_CFG", 0x3000, 0, 1, .chip, [⟨0, 1, .rw, 0x0, false⟩, ⟨1, 2, .ro, 0x0, false⟩, ⟨3, 1, .rw, 0x1, false⟩, ⟨4, 1, .rw, 0x1, false⟩, ⟨8, 1, .ro, 0x1, false⟩, ⟨9, 1, .ro, 0x0, false⟩]⟩,
  ⟨"FLX_STAT", 0x3004, 0, 1, .chip, [⟨0, 1, .w1c, 0x0, false⟩, ⟨1, 1, .w1c, 0x0, false⟩, ⟨2, 1, .w1c, 0x0, false⟩, ⟨3, 1, .ro, 0x0, false⟩, ⟨4, 1, .w1c, 0x0, false⟩, ⟨5, 1, .w1c, 0x0, false⟩, ⟨6, 1, .w1c, 0x0, false⟩, ⟨7, 1, .ro, 0x1, false⟩]⟩,
  ⟨"FLX_SLEW", 0x3008, 0, 1, .chip, [⟨0, 1, .rw, 0x1, false⟩, ⟨16, 16, .rw, 0x40, false⟩]⟩,
  ⟨"FLX_BIAS_CFG", 0x300C, 0, 1, .chip, [⟨0, 24, .rw, 0x5DC, false⟩]⟩,
  ⟨"FLX_DGL", 0x3010, 0, 1, .chip, [⟨0, 8, .rw, 0x30, false⟩]⟩,
  ⟨"FLX_BIAS_WR", 0x3014, 0, 1, .chip, [⟨0, 18, .rw, 0x0, true⟩]⟩,
  ⟨"FLX_BIAS_CUR", 0x3018, 0, 1, .chip, [⟨0, 18, .ro, 0x0, true⟩, ⟨31, 1, .ro, 0x0, false⟩]⟩,
  ⟨"FLX_BIAS_TGT", 0x301C, 0, 1, .chip, [⟨0, 18, .ro, 0x0, true⟩]⟩,
  ⟨"FLX_RC", 0x3020, 0, 1, .chip, [⟨0, 18, .rw, 0x0, false⟩, ⟨20, 2, .rw, 0x0, false⟩, ⟨31, 1, .w1s, 0x0, false⟩]⟩,
  ⟨"FLX_SAT_CNT", 0x3024, 0, 1, .chip, [⟨0, 32, .rc, 0x0, false⟩]⟩,
  ⟨"FLX_OVR_CNT", 0x3028, 0, 1, .chip, [⟨0, 32, .rc, 0x0, false⟩]⟩,
  ⟨"FLX_SC_CNT", 0x302C, 0, 1, .chip, [⟨0, 32, .rc, 0x0, false⟩]⟩,
  ⟨"FLX_EXP_A", 0x3100, 8, 8, .chip, [⟨0, 18, .rw, 0x0, true⟩]⟩,
  ⟨"FLX_EXP_B", 0x3104, 8, 8, .chip, [⟨0, 24, .rw, 0x0, false⟩, ⟨31, 1, .rw, 0x0, false⟩]⟩,
  ⟨"FLX_FIR", 0x3200, 4, 64, .chip, [⟨0, 18, .rw, 0x0, true⟩]⟩,
  ⟨"PARAM", 0x8000, 4, 1024, .chip, [⟨0, 32, .rw, 0x0, false⟩]⟩]

/-- The registers of the input block, by offset. -/
def inputRows : List RegRow := [
  ⟨"ING_STAT", 0x3F000, 0, 1, .chip, [⟨0, 6, .rc, 0x20, false⟩, ⟨6, 1, .w1c, 0x0, false⟩]⟩,
  ⟨"ING_LOST_CNT", 0x3F004, 0, 1, .chip, [⟨0, 32, .rc, 0x0, false⟩]⟩,
  ⟨"RDI_CFG", 0x0, 0, 1, .chip, [⟨0, 1, .rw, 0x0, false⟩, ⟨1, 1, .rw, 0x0, false⟩, ⟨2, 1, .rw, 0x0, false⟩, ⟨3, 1, .rw, 0x0, false⟩]⟩,
  ⟨"RDI_ATT", 0x4, 0, 1, .chip, [⟨0, 6, .rw, 0x3F, false⟩]⟩,
  ⟨"RDI_STAT", 0x8, 0, 1, .chip, [⟨0, 1, .ro, 0x0, false⟩, ⟨1, 1, .w1c, 0x0, false⟩, ⟨2, 1, .w1c, 0x0, false⟩]⟩,
  ⟨"RDI_CHG_TICK_LO", 0xC, 0, 1, .chip, [⟨0, 32, .ro, 0x0, false⟩]⟩,
  ⟨"RDI_CHG_TICK_HI", 0x10, 0, 1, .chip, [⟨0, 16, .ro, 0x0, false⟩]⟩,
  ⟨"RDI_LOF_LO", 0x14, 0, 1, .chip, [⟨0, 32, .rw, 0x0, false⟩]⟩,
  ⟨"RDI_LOF_HI", 0x18, 0, 1, .chip, [⟨0, 16, .rw, 0x0, false⟩]⟩,
  ⟨"RDI_OVR_CNT", 0x1C, 0, 1, .chip, [⟨0, 32, .rc, 0x0, false⟩]⟩,
  ⟨"RDI_INV_CNT", 0x20, 0, 1, .chip, [⟨0, 32, .rc, 0x0, false⟩]⟩,
  ⟨"WEIGHT", 0x8000, 4, 8192, .sys, [⟨0, 16, .rw, 0x0, false⟩, ⟨16, 16, .rw, 0x0, false⟩]⟩,
  ⟨"KRN_DMEM", 0x10000, 4, 32768, .sys, [⟨0, 18, .rw, 0x0, true⟩]⟩,
  ⟨"KRN_PMEM", 0x30000, 4, 4096, .sys, [⟨0, 32, .rw, 0x0, false⟩]⟩,
  ⟨"KRN_CTRL", 0x34000, 0, 1, .chip, [⟨0, 1, .rw, 0x0, false⟩, ⟨1, 1, .w1s, 0x0, false⟩, ⟨2, 1, .w1s, 0x0, false⟩]⟩,
  ⟨"KRN_CFG", 0x34004, 0, 1, .chip, [⟨0, 10, .rw, 0x30, false⟩, ⟨10, 1, .rw, 0x0, false⟩, ⟨11, 1, .rw, 0x0, false⟩, ⟨16, 16, .rw, 0x400, false⟩]⟩,
  ⟨"KRN_STAT", 0x34008, 0, 1, .chip, [⟨0, 2, .ro, 0x0, false⟩, ⟨2, 1, .ro, 0x0, false⟩, ⟨3, 1, .ro, 0x0, false⟩, ⟨4, 1, .w1c, 0x0, false⟩, ⟨5, 1, .w1c, 0x0, false⟩, ⟨6, 1, .w1c, 0x0, false⟩, ⟨8, 2, .ro, 0x0, false⟩, ⟨16, 12, .ro, 0x0, false⟩]⟩,
  ⟨"KRN_Q_STAT", 0x3400C, 0, 1, .chip, [⟨0, 6, .ro, 0x0, false⟩, ⟨16, 10, .ro, 0x0, false⟩]⟩,
  ⟨"KRN_HIN", 0x34020, 4, 4, .chip, [⟨0, 18, .rw, 0x0, true⟩]⟩,
  ⟨"KRN_HOUT", 0x34030, 4, 4, .chip, [⟨0, 18, .ro, 0x0, true⟩]⟩,
  ⟨"KRN_DROP_CNT", 0x34040, 0, 1, .chip, [⟨0, 32, .rc, 0x0, false⟩]⟩,
  ⟨"KRN_NODEC_CNT", 0x34044, 0, 1, .chip, [⟨0, 32, .rc, 0x0, false⟩]⟩,
  ⟨"KRN_DEC_CNT", 0x34048, 0, 1, .chip, [⟨0, 32, .rc, 0x0, false⟩]⟩,
  ⟨"KRN_HOLD_MAX", 0x3404C, 0, 1, .chip, [⟨0, 16, .rc, 0x0, false⟩]⟩,
  ⟨"KRN_READY_MAX", 0x34050, 0, 1, .chip, [⟨0, 16, .rc, 0x0, false⟩]⟩,
  ⟨"ACQ_CTRL", 0x38000, 0, 1, .chip, [⟨0, 1, .w1s, 0x0, false⟩, ⟨1, 1, .w1s, 0x0, false⟩, ⟨2, 1, .w1s, 0x0, false⟩]⟩,
  ⟨"ACQ_STAT", 0x38004, 0, 1, .chip, [⟨0, 3, .ro, 0x0, false⟩, ⟨3, 1, .w1c, 0x0, false⟩, ⟨4, 1, .w1c, 0x0, false⟩, ⟨5, 1, .w1c, 0x0, false⟩, ⟨6, 1, .w1c, 0x0, false⟩, ⟨7, 1, .w1c, 0x0, false⟩, ⟨8, 1, .w1c, 0x0, false⟩, ⟨9, 3, .ro, 0x0, false⟩]⟩,
  ⟨"ACQ_CFG", 0x38008, 0, 1, .chip, [⟨0, 1, .rw, 0x0, false⟩, ⟨1, 1, .rw, 0x0, false⟩, ⟨2, 1, .rw, 0x0, false⟩, ⟨3, 1, .rw, 0x0, false⟩, ⟨4, 1, .rw, 0x0, false⟩, ⟨5, 4, .rw, 0x3, false⟩, ⟨12, 20, .rw, 0x4, false⟩]⟩,
  ⟨"ACQ_TONES", 0x3800C, 0, 1, .chip, [⟨0, 16, .rw, 0x0, false⟩]⟩,
  ⟨"ACQ_CAP", 0x38010, 0, 1, .chip, [⟨0, 25, .rw, 0x1, false⟩, ⟨25, 7, .rw, 0x1, false⟩]⟩,
  ⟨"ACQ_RAW", 0x38014, 0, 1, .chip, [⟨0, 4, .rw, 0x0, false⟩, ⟨4, 15, .rw, 0x1, false⟩, ⟨19, 13, .rw, 0x0, false⟩]⟩,
  ⟨"ACQ_BUF_BASE", 0x38018, 0, 1, .chip, [⟨0, 26, .rw, 0x0, false⟩]⟩,
  ⟨"ACQ_BUF_SIZE", 0x3801C, 0, 1, .chip, [⟨0, 24, .rw, 0x0, false⟩]⟩,
  ⟨"ACQ_AVG_BASE", 0x38020, 0, 1, .chip, [⟨0, 26, .rw, 0x0, false⟩]⟩,
  ⟨"ACQ_RES", 0x38024, 0, 1, .chip, [⟨0, 6, .rw, 0x0, false⟩]⟩,
  ⟨"ACQ_TRG_CFG", 0x38028, 0, 1, .chip, [⟨0, 16, .rw, 0x200, false⟩, ⟨16, 8, .rw, 0x0, false⟩, ⟨24, 1, .rw, 0x0, false⟩]⟩,
  ⟨"ACQ_GRP", 0x3802C, 0, 1, .chip, [⟨0, 1, .rw, 0x0, false⟩, ⟨1, 1, .rw, 0x0, false⟩, ⟨2, 1, .rw, 0x0, false⟩, ⟨8, 8, .rw, 0x0, false⟩]⟩,
  ⟨"ACQ_ARM_TICK_LO", 0x38030, 0, 1, .chip, [⟨0, 32, .rw, 0x0, false⟩]⟩,
  ⟨"ACQ_ARM_TICK_HI", 0x38034, 0, 1, .chip, [⟨0, 16, .rw, 0x0, false⟩]⟩,
  ⟨"ACQ_FIRE_TICK_LO", 0x38038, 0, 1, .chip, [⟨0, 32, .ro, 0x0, false⟩]⟩,
  ⟨"ACQ_FIRE_TICK_HI", 0x3803C, 0, 1, .chip, [⟨0, 16, .ro, 0x0, false⟩]⟩,
  ⟨"ACQ_LEVEL", 0x38040, 0, 1, .chip, [⟨0, 18, .rw, 0x0, false⟩, ⟨18, 14, .rw, 0x0, false⟩]⟩,
  ⟨"ACQ_LOST_CNT", 0x38044, 0, 1, .chip, [⟨0, 32, .rc, 0x0, false⟩]⟩,
  ⟨"ACQ_PERIOD_CNT", 0x38048, 0, 1, .chip, [⟨0, 32, .rc, 0x0, false⟩]⟩,
  ⟨"ACQ_REC_CNT", 0x3804C, 0, 1, .chip, [⟨0, 32, .rc, 0x0, false⟩]⟩,
  ⟨"ACQ_ADM", 0x38050, 0, 1, .chip, [⟨0, 24, .ro, 0x0, false⟩]⟩,
  ⟨"TRG_COND", 0x38100, 16, 8, .chip, [⟨0, 3, .rw, 0x0, false⟩, ⟨3, 1, .rw, 0x0, false⟩, ⟨4, 4, .rw, 0x0, false⟩, ⟨8, 1, .rw, 0x0, false⟩, ⟨9, 3, .rw, 0x0, false⟩, ⟨12, 1, .rw, 0x1, false⟩, ⟨16, 16, .rw, 0x0, false⟩]⟩,
  ⟨"TRG_COUNT", 0x38104, 16, 8, .chip, [⟨0, 32, .rw, 0x1, false⟩]⟩,
  ⟨"TRG_TIMER", 0x38108, 16, 8, .chip, [⟨0, 24, .rw, 0x0, false⟩, ⟨24, 2, .rw, 0x0, false⟩]⟩,
  ⟨"RDI_SCAL_CTRL", 0x3C000, 0, 1, .chip, [⟨0, 2, .rw, 0x0, false⟩, ⟨2, 1, .rw, 0x0, false⟩, ⟨30, 1, .w1s, 0x0, false⟩, ⟨31, 1, .w1s, 0x0, false⟩]⟩,
  ⟨"RDI_SCAL_STAT", 0x3C004, 0, 1, .chip, [⟨0, 3, .ro, 0x0, false⟩, ⟨3, 1, .ro, 0x0, false⟩]⟩,
  ⟨"RDI_SCAL_FREQ_LO", 0x3C008, 0, 1, .chip, [⟨0, 32, .rw, 0x0, false⟩]⟩,
  ⟨"RDI_SCAL_FREQ_HI", 0x3C00C, 0, 1, .chip, [⟨0, 16, .rw, 0x0, false⟩]⟩,
  ⟨"RDI_SCAL_GAIN", 0x3C010, 4, 2, .chip, [⟨0, 18, .ro, 0x10000, true⟩]⟩,
  ⟨"RDI_SCAL_OFF", 0x3C018, 4, 2, .chip, [⟨0, 18, .ro, 0x0, true⟩]⟩,
  ⟨"RDI_SCAL_SKEW", 0x3C020, 0, 1, .chip, [⟨0, 16, .ro, 0x0, true⟩]⟩,
  ⟨"RDI_SCAL_NEW_GAIN", 0x3C030, 4, 2, .chip, [⟨0, 18, .ro, 0x10000, true⟩]⟩,
  ⟨"RDI_SCAL_NEW_OFF", 0x3C038, 4, 2, .chip, [⟨0, 18, .ro, 0x0, true⟩]⟩,
  ⟨"RDI_SCAL_NEW_SKEW", 0x3C040, 0, 1, .chip, [⟨0, 16, .ro, 0x0, true⟩]⟩]

/-- The registers of the probe block, by offset. -/
def probeRows : List RegRow := [
  ⟨"PRB_CFG", 0x0, 0, 1, .chip, [⟨0, 1, .rw, 0x0, false⟩, ⟨1, 1, .rw, 0x0, false⟩, ⟨4, 1, .ro, 0x0, false⟩]⟩,
  ⟨"PRB_STAT", 0x4, 0, 1, .chip, [⟨0, 1, .w1c, 0x0, false⟩, ⟨1, 1, .w1c, 0x0, false⟩]⟩,
  ⟨"PRB_SAT_CNT", 0x8, 0, 1, .chip, [⟨0, 32, .rc, 0x0, false⟩]⟩]

/-- The registers of the lane block, by offset. -/
def laneRows : List RegRow := [
  ⟨"LANE_CTRL", 0x0, 0, 1, .sys, [⟨0, 1, .rw, 0x1, false⟩, ⟨1, 1, .rw, 0x1, false⟩, ⟨2, 1, .w1s, 0x0, false⟩, ⟨3, 1, .rw, 0x0, false⟩, ⟨4, 3, .rw, 0x0, false⟩, ⟨8, 2, .rw, 0x0, false⟩, ⟨10, 2, .rw, 0x0, false⟩]⟩,
  ⟨"LANE_STAT", 0x4, 0, 1, .sys, [⟨0, 4, .ro, 0x0, false⟩, ⟨4, 1, .ro, 0x0, false⟩, ⟨5, 1, .ro, 0x0, false⟩, ⟨6, 1, .ro, 0x0, false⟩, ⟨7, 1, .w1c, 0x0, false⟩, ⟨8, 1, .w1c, 0x0, false⟩, ⟨9, 1, .w1c, 0x0, false⟩]⟩,
  ⟨"LANE_PARTNER", 0x8, 0, 1, .sys, [⟨0, 12, .ro, 0x0, false⟩, ⟨16, 3, .ro, 0x0, false⟩, ⟨20, 2, .ro, 0x0, false⟩, ⟨31, 1, .ro, 0x0, false⟩]⟩,
  ⟨"LANE_TXEQ", 0xC, 0, 1, .sys, [⟨0, 4, .rw, 0x2, false⟩, ⟨4, 6, .rw, 0x30, false⟩, ⟨10, 6, .rw, 0x8, false⟩]⟩,
  ⟨"LANE_RXEQ", 0x10, 0, 1, .sys, [⟨0, 4, .rw, 0x8, false⟩, ⟨4, 1, .rw, 0x1, false⟩, ⟨5, 1, .rw, 0x0, false⟩]⟩,
  ⟨"LANE_HDR_ERR_CNT", 0x20, 0, 1, .sys, [⟨0, 32, .rc, 0x0, false⟩]⟩,
  ⟨"LANE_BLK_ERR_CNT", 0x24, 0, 1, .sys, [⟨0, 32, .rc, 0x0, false⟩]⟩,
  ⟨"LANE_LOCK_LOSS_CNT", 0x28, 0, 1, .sys, [⟨0, 32, .rc, 0x0, false⟩]⟩,
  ⟨"LANE_PRBS_ERR_CNT", 0x2C, 0, 1, .sys, [⟨0, 32, .rc, 0x0, false⟩]⟩,
  ⟨"LANE_PRBS_BITS", 0x30, 0, 1, .sys, [⟨0, 32, .rc, 0x0, false⟩]⟩,
  ⟨"LANE_EYE_CTRL", 0x40, 0, 1, .sys, [⟨0, 6, .rw, 0x0, false⟩, ⟨8, 7, .rw, 0x0, false⟩, ⟨16, 4, .rw, 0x4, false⟩, ⟨31, 1, .w1s, 0x0, false⟩]⟩,
  ⟨"LANE_EYE_STAT", 0x44, 0, 1, .sys, [⟨0, 1, .ro, 0x0, false⟩, ⟨1, 1, .ro, 0x0, false⟩]⟩,
  ⟨"LANE_EYE_ERR", 0x48, 0, 1, .sys, [⟨0, 32, .ro, 0x0, false⟩]⟩]

/-- The registers of the port block, by offset. -/
def portRows : List RegRow := [
  ⟨"PORT_STAT", 0x400, 0, 1, .sys, [⟨0, 1, .ro, 0x0, false⟩, ⟨1, 1, .ro, 0x0, false⟩, ⟨2, 1, .w1c, 0x0, false⟩, ⟨3, 1, .w1c, 0x0, false⟩]⟩,
  ⟨"PORT_SKEW", 0x404, 0, 1, .sys, [⟨0, 8, .ro, 0x0, false⟩, ⟨8, 8, .ro, 0x0, false⟩, ⟨16, 8, .ro, 0x0, false⟩, ⟨24, 8, .ro, 0x0, false⟩]⟩,
  ⟨"PORT_DOWN_CNT", 0x408, 0, 1, .sys, [⟨0, 32, .rc, 0x0, false⟩]⟩]

/-- The registers of the mesh block, by offset. -/
def meshRows : List RegRow := [
  ⟨"MESH_CFG", 0x0, 0, 1, .sys, [⟨0, 12, .rw, 0x0, false⟩, ⟨12, 4, .rw, 0x0, false⟩, ⟨16, 4, .rw, 0x0, false⟩, ⟨20, 4, .rw, 0x0, false⟩, ⟨31, 1, .rw, 0x0, false⟩]⟩,
  ⟨"MESH_STAT", 0x4, 0, 1, .sys, [⟨0, 6, .ro, 0x0, false⟩, ⟨8, 6, .ro, 0x0, false⟩, ⟨16, 6, .ro, 0x0, false⟩]⟩,
  ⟨"MESH_HOLD", 0x8, 0, 1, .sys, [⟨0, 16, .rw, 0x3E8, false⟩]⟩,
  ⟨"MESH_UNREACH_CNT", 0xC, 0, 1, .sys, [⟨0, 32, .rc, 0x0, false⟩]⟩,
  ⟨"MESH_BAD_CNT", 0x10, 0, 1, .sys, [⟨0, 32, .rc, 0x0, false⟩]⟩,
  ⟨"MESH_MBX_LOST_CNT", 0x14, 0, 1, .sys, [⟨0, 32, .rc, 0x0, false⟩]⟩,
  ⟨"MESH_STALE_CNT", 0x18, 0, 1, .sys, [⟨0, 32, .rc, 0x0, false⟩]⟩,
  ⟨"MESH_RA", 0x20, 4, 6, .sys, [⟨0, 1, .rw, 0x0, false⟩]⟩,
  ⟨"MESH_PQ", 0x100, 32, 6, .sys, [⟨0, 7, .ro, 0x0, false⟩, ⟨8, 7, .rc, 0x0, false⟩]⟩,
  ⟨"MESH_PHOP", 0x104, 32, 6, .sys, [⟨0, 16, .ro, 0x0, false⟩]⟩,
  ⟨"MESH_PASYM", 0x108, 32, 6, .sys, [⟨0, 16, .rw, 0x0, true⟩]⟩,
  ⟨"MESH_PDROP_CNT", 0x10C, 32, 6, .sys, [⟨0, 32, .rc, 0x0, false⟩]⟩,
  ⟨"MESH_PLATE_CNT", 0x110, 32, 6, .sys, [⟨0, 32, .rc, 0x0, false⟩]⟩,
  ⟨"MESH_LANE_LAT", 0x400, 4, 32, .sys, [⟨0, 16, .rw, 0x0, false⟩, ⟨16, 16, .rw, 0x0, false⟩]⟩,
  ⟨"MESH_EXP", 0x1000, 4, 1024, .sys, [⟨0, 8, .rw, 0x0, false⟩, ⟨8, 12, .rw, 0x0, false⟩, ⟨31, 1, .rw, 0x0, false⟩]⟩,
  ⟨"TIME_NS", 0x8000, 0, 1, .sys, [⟨0, 32, .ro, 0x0, false⟩]⟩,
  ⟨"TIME_FRAC", 0x8004, 0, 1, .sys, [⟨0, 32, .ro, 0x0, false⟩]⟩,
  ⟨"TIME_TICK_LO", 0x8008, 0, 1, .sys, [⟨0, 32, .ro, 0x0, false⟩]⟩,
  ⟨"TIME_TICK_HI", 0x800C, 0, 1, .sys, [⟨0, 16, .ro, 0x0, false⟩]⟩,
  ⟨"TIME_RAW_NS", 0x8010, 0, 1, .sys, [⟨0, 32, .ro, 0x0, false⟩]⟩,
  ⟨"TIME_RAW_FRAC", 0x8014, 0, 1, .sys, [⟨0, 32, .ro, 0x0, false⟩]⟩,
  ⟨"TIME_CFG", 0x8020, 0, 1, .sys, [⟨0, 1, .rw, 0x0, false⟩, ⟨1, 1, .rw, 0x1, false⟩, ⟨2, 1, .rw, 0x0, false⟩, ⟨4, 4, .rw, 0x2, false⟩, ⟨8, 4, .rw, 0x6, false⟩, ⟨16, 8, .rw, 0x10, false⟩]⟩,
  ⟨"TIME_CTRL", 0x8024, 0, 1, .sys, [⟨0, 1, .w1s, 0x0, false⟩, ⟨1, 1, .w1s, 0x0, false⟩, ⟨2, 1, .w1s, 0x0, false⟩]⟩,
  ⟨"TIME_SET_NS", 0x8028, 0, 1, .sys, [⟨0, 32, .rw, 0x0, false⟩]⟩,
  ⟨"TIME_SET_FRAC", 0x802C, 0, 1, .sys, [⟨0, 32, .rw, 0x0, false⟩]⟩,
  ⟨"TIME_STAT", 0x8030, 0, 1, .sys, [⟨0, 1, .ro, 0x0, false⟩, ⟨1, 1, .ro, 0x0, false⟩, ⟨2, 1, .ro, 0x0, false⟩, ⟨3, 1, .ro, 0x0, false⟩, ⟨4, 3, .ro, 0x7, false⟩, ⟨8, 5, .ro, 0x1F, false⟩]⟩,
  ⟨"TIME_ERR", 0x8034, 0, 1, .sys, [⟨0, 20, .ro, 0x0, true⟩]⟩,
  ⟨"TIME_TRIM", 0x8038, 0, 1, .sys, [⟨0, 13, .ro, 0x0, true⟩]⟩,
  ⟨"TIME_RATE", 0x803C, 0, 1, .sys, [⟨0, 32, .ro, 0x0, false⟩]⟩,
  ⟨"TIME_OFF_NS", 0x8040, 0, 1, .sys, [⟨0, 32, .ro, 0x0, false⟩]⟩,
  ⟨"TIME_OFF_FRAC", 0x8044, 0, 1, .sys, [⟨0, 32, .ro, 0x0, false⟩]⟩,
  ⟨"TIME_EXCH_CNT", 0x8048, 0, 1, .sys, [⟨0, 32, .rc, 0x0, false⟩]⟩,
  ⟨"TWIN_CFG", 0xC000, 0, 1, .sys, [⟨0, 1, .rw, 0x0, false⟩, ⟨1, 1, .rw, 0x0, false⟩, ⟨2, 3, .rw, 0x7, false⟩, ⟨8, 12, .rw, 0x0, false⟩, ⟨20, 6, .rw, 0x14, false⟩]⟩,
  ⟨"TWIN_CTRL", 0xC004, 0, 1, .sys, [⟨0, 1, .w1s, 0x0, false⟩, ⟨1, 1, .w1s, 0x0, false⟩, ⟨2, 1, .w1s, 0x0, false⟩]⟩,
  ⟨"TWIN_STAT", 0xC008, 0, 1, .sys, [⟨0, 3, .ro, 0x0, false⟩, ⟨3, 2, .ro, 0x0, false⟩, ⟨5, 3, .ro, 0x0, false⟩, ⟨8, 1, .ro, 0x0, false⟩, ⟨9, 1, .ro, 0x0, false⟩]⟩,
  ⟨"TWIN_LOCKSTEP_LO", 0xC00C, 0, 1, .sys, [⟨0, 32, .ro, 0x0, false⟩]⟩,
  ⟨"TWIN_LOCKSTEP_HI", 0xC010, 0, 1, .sys, [⟨0, 32, .ro, 0x0, false⟩]⟩,
  ⟨"TWIN_TAKE_TICK_LO", 0xC014, 0, 1, .sys, [⟨0, 32, .ro, 0x0, false⟩]⟩,
  ⟨"TWIN_TAKE_TICK_HI", 0xC018, 0, 1, .sys, [⟨0, 16, .ro, 0x0, false⟩]⟩,
  ⟨"TWIN_HB_MISS_CNT", 0xC01C, 0, 1, .sys, [⟨0, 32, .rc, 0x0, false⟩]⟩,
  ⟨"TWIN_TAKE_CNT", 0xC020, 0, 1, .sys, [⟨0, 32, .rc, 0x0, false⟩]⟩,
  ⟨"TWIN_LOG_LAG", 0xC024, 0, 1, .sys, [⟨0, 32, .rc, 0x0, false⟩]⟩]

/-- The registers of the ring block, by offset. -/
def ringRows : List RegRow := [
  ⟨"RING_BASE_LO", 0x0, 0, 1, .sys, [⟨12, 20, .rw, 0x0, false⟩]⟩,
  ⟨"RING_BASE_HI", 0x4, 0, 1, .sys, [⟨0, 32, .rw, 0x0, false⟩]⟩,
  ⟨"RING_CFG", 0x8, 0, 1, .sys, [⟨0, 2, .rw, 0x0, false⟩, ⟨2, 1, .rw, 0x0, false⟩, ⟨4, 5, .rw, 0x4, false⟩, ⟨9, 6, .rw, 0x0, false⟩, ⟨15, 1, .rw, 0x0, false⟩, ⟨16, 8, .rw, 0x0, false⟩]⟩,
  ⟨"RING_STAT", 0xC, 0, 1, .sys, [⟨0, 2, .ro, 0x0, false⟩, ⟨2, 1, .w1c, 0x0, false⟩, ⟨3, 1, .w1c, 0x0, false⟩, ⟨4, 4, .ro, 0x0, false⟩]⟩,
  ⟨"RING_PIDX", 0x10, 0, 1, .sys, [⟨0, 17, .ro, 0x0, false⟩]⟩,
  ⟨"RING_CIDX", 0x14, 0, 1, .sys, [⟨0, 17, .ro, 0x0, false⟩]⟩,
  ⟨"RING_INFL", 0x18, 0, 1, .sys, [⟨0, 17, .ro, 0x0, false⟩]⟩,
  ⟨"RING_ERR_IDX", 0x1C, 0, 1, .sys, [⟨0, 17, .ro, 0x0, false⟩]⟩,
  ⟨"RING_SHADOW_LO", 0x20, 0, 1, .sys, [⟨0, 32, .rw, 0x0, false⟩]⟩,
  ⟨"RING_SHADOW_HI", 0x24, 0, 1, .sys, [⟨0, 32, .rw, 0x0, false⟩]⟩,
  ⟨"RING_DATA_LO", 0x28, 0, 1, .sys, [⟨0, 32, .rw, 0x0, false⟩]⟩,
  ⟨"RING_DATA_HI", 0x2C, 0, 1, .sys, [⟨0, 32, .rw, 0x0, false⟩]⟩,
  ⟨"RING_DATA_SIZE", 0x30, 0, 1, .sys, [⟨0, 24, .rw, 0x0, false⟩]⟩,
  ⟨"RING_IRQ", 0x34, 0, 1, .sys, [⟨0, 16, .rw, 0xA, false⟩]⟩,
  ⟨"RING_CTRL", 0x38, 0, 1, .sys, [⟨0, 1, .w1s, 0x0, false⟩, ⟨1, 1, .w1s, 0x0, false⟩]⟩,
  ⟨"RING_DOORBELL", 0x3C, 0, 1, .sys, [⟨0, 17, .wo, 0x0, false⟩]⟩]

/-- The registers of the hif block, by offset. -/
def hifRows : List RegRow := [
  ⟨"HIF_STAT", 0xF000, 0, 1, .sys, [⟨0, 1, .ro, 0x0, false⟩, ⟨1, 1, .w1c, 0x0, false⟩, ⟨2, 1, .w1c, 0x0, false⟩]⟩,
  ⟨"HIF_WR_DROP_CNT", 0xF004, 0, 1, .sys, [⟨0, 32, .rc, 0x0, false⟩]⟩,
  ⟨"HIF_NOTICE_LOST", 0xF008, 0, 1, .sys, [⟨0, 32, .rc, 0x0, false⟩]⟩]

/-- The registers of the mailbox block, by offset. -/
def mailboxRows : List RegRow := [
  ⟨"MBX_DATA", 0x0, 4, 16, .sys, [⟨0, 32, .rw, 0x0, false⟩]⟩,
  ⟨"MBX_CTRL", 0x40, 0, 1, .sys, [⟨0, 1, .w1s, 0x0, false⟩, ⟨1, 1, .w1s, 0x0, false⟩, ⟨2, 1, .ro, 0x0, false⟩, ⟨3, 1, .w1c, 0x0, false⟩, ⟨4, 1, .ro, 0x0, false⟩, ⟨5, 1, .w1c, 0x0, false⟩, ⟨8, 4, .rw, 0xF, false⟩]⟩,
  ⟨"MBX_CFG", 0x44, 0, 1, .sys, [⟨0, 2, .rw, 0x0, false⟩, ⟨2, 2, .rw, 0x0, false⟩, ⟨4, 1, .rw, 0x1, false⟩]⟩,
  ⟨"MBX_SEQ", 0x48, 0, 1, .sys, [⟨0, 32, .ro, 0x0, false⟩]⟩,
  ⟨"MBX_FWD", 0x4C, 0, 1, .sys, [⟨0, 12, .rw, 0x0, false⟩, ⟨12, 5, .rw, 0x0, false⟩]⟩,
  ⟨"MBX_LOST_ON_RESET", 0x50, 0, 1, .sys, [⟨0, 32, .rc, 0x0, false⟩]⟩,
  ⟨"MBX_COLL_CNT", 0x54, 0, 1, .sys, [⟨0, 32, .rc, 0x0, false⟩]⟩,
  ⟨"MBX_REM_DROP_CNT", 0x58, 0, 1, .sys, [⟨0, 32, .rc, 0x0, false⟩]⟩]

/-- The registers of the events block, by offset. -/
def eventsRows : List RegRow := [
  ⟨"EVT_CH_CFG", 0x0, 4, 256, .sys, [⟨0, 1, .rw, 0x1, false⟩, ⟨1, 1, .w1c, 0x0, false⟩, ⟨2, 1, .ro, 0x0, false⟩]⟩,
  ⟨"EVT_MERGE_CNT", 0x400, 4, 256, .sys, [⟨0, 32, .rc, 0x0, false⟩]⟩,
  ⟨"EVT_GRP_EN", 0x800, 0, 1, .sys, [⟨0, 32, .rw, 0xFFFFFFFF, false⟩]⟩,
  ⟨"EVT_SWFIRE", 0x804, 0, 1, .sys, [⟨0, 8, .wo, 0x0, false⟩]⟩,
  ⟨"EVT_LOOP_CNT", 0x808, 0, 1, .sys, [⟨0, 32, .rc, 0x0, false⟩]⟩,
  ⟨"EVT_PROD", 0x1000, 4, 461, .sys, [⟨0, 8, .rw, 0x0, false⟩, ⟨8, 2, .rw, 0x0, false⟩, ⟨31, 1, .rw, 0x0, false⟩]⟩,
  ⟨"EVT_TASK", 0x2000, 4, 221, .sys, [⟨0, 8, .rw, 0x0, false⟩, ⟨8, 8, .rw, 0x0, false⟩, ⟨16, 8, .rw, 0x1, false⟩, ⟨30, 1, .rw, 0x0, false⟩, ⟨31, 1, .rw, 0x0, false⟩]⟩,
  ⟨"EVT_TSTAT", 0x2400, 4, 221, .sys, [⟨0, 1, .w1c, 0x0, false⟩, ⟨1, 1, .w1c, 0x0, false⟩]⟩,
  ⟨"EVT_COAL_CNT", 0x2800, 4, 221, .sys, [⟨0, 32, .rc, 0x0, false⟩]⟩,
  ⟨"EVT_OVR_CNT", 0x2C00, 4, 221, .sys, [⟨0, 32, .rc, 0x0, false⟩]⟩,
  ⟨"EVT_TMR_CMP_LO", 0x3000, 16, 4, .sys, [⟨0, 32, .rw, 0x0, false⟩]⟩,
  ⟨"EVT_TMR_CMP_HI", 0x3004, 16, 4, .sys, [⟨0, 16, .rw, 0x0, false⟩]⟩,
  ⟨"EVT_TMR_PER", 0x3008, 16, 4, .sys, [⟨0, 32, .rw, 0x0, false⟩]⟩,
  ⟨"EVT_TMR_EN", 0x300C, 16, 4, .sys, [⟨0, 1, .rw, 0x0, false⟩]⟩]

/-- The registers of the mgmt block, by offset. -/
def mgmtRows : List RegRow := [
  ⟨"CAL_CFG", 0x2000, 0, 1, .chip, [⟨0, 1, .rw, 0x1, false⟩, ⟨4, 7, .rw, 0x19, false⟩, ⟨16, 16, .rw, 0x0, false⟩]⟩,
  ⟨"CAL_DEADLINE", 0x2004, 0, 1, .chip, [⟨0, 16, .rw, 0x32, false⟩]⟩,
  ⟨"CAL_CTRL", 0x2008, 0, 1, .chip, [⟨0, 1, .w1s, 0x0, false⟩, ⟨1, 1, .rw, 0x0, false⟩]⟩,
  ⟨"CAL_STAT", 0x200C, 0, 1, .chip, [⟨0, 1, .ro, 0x0, false⟩, ⟨1, 1, .ro, 0x0, false⟩, ⟨8, 9, .ro, 0x0, false⟩]⟩,
  ⟨"CAL_ROT_CNT", 0x2010, 0, 1, .chip, [⟨0, 32, .rc, 0x0, false⟩]⟩,
  ⟨"CAL_LATE_CNT", 0x2014, 0, 1, .chip, [⟨0, 32, .rc, 0x0, false⟩]⟩,
  ⟨"CAL_FUSE_CTRL", 0x2020, 0, 1, .chip, [⟨0, 8, .wo, 0x0, false⟩, ⟨31, 1, .w1s, 0x0, false⟩]⟩,
  ⟨"CAL_FUSE_STAT", 0x2024, 0, 1, .sys, [⟨0, 4, .ro, 0x0, false⟩, ⟨4, 16, .ro, 0x0, false⟩, ⟨20, 1, .ro, 0x0, false⟩, ⟨21, 3, .ro, 0x0, false⟩]⟩,
  ⟨"CAL_TRIM_SEL", 0x2030, 0, 1, .chip, [⟨0, 9, .rw, 0x0, false⟩, ⟨9, 4, .rw, 0x0, false⟩]⟩,
  ⟨"CAL_TRIM_BASE", 0x2034, 0, 1, .chip, [⟨0, 32, .ro, 0x0, false⟩]⟩,
  ⟨"CAL_TRIM_DELTA", 0x2038, 0, 1, .chip, [⟨0, 32, .ro, 0x0, false⟩]⟩,
  ⟨"CAL_CONV", 0x2400, 4, 270, .chip, [⟨0, 3, .ro, 0x0, false⟩, ⟨8, 12, .ro, 0x0, false⟩, ⟨20, 9, .ro, 0x1FF, false⟩]⟩,
  ⟨"TH_TJ", 0x4000, 0, 1, .sys, [⟨0, 12, .ro, 0x0, false⟩, ⟨16, 5, .ro, 0x0, false⟩, ⟨24, 2, .ro, 0x0, false⟩]⟩,
  ⟨"TH_STAT", 0x4004, 0, 1, .sys, [⟨0, 1, .ro, 0x0, false⟩, ⟨1, 1, .ro, 0x0, false⟩, ⟨2, 1, .w1c, 0x0, false⟩]⟩,
  ⟨"TH_TRANS_CNT", 0x4008, 0, 1, .sys, [⟨0, 32, .rc, 0x0, false⟩]⟩,
  ⟨"TH_HOLD_TIME", 0x400C, 0, 1, .sys, [⟨0, 32, .rc, 0x0, false⟩]⟩,
  ⟨"TH_SENS_BROKEN", 0x4010, 0, 1, .sys, [⟨0, 32, .w1c, 0x0, false⟩]⟩,
  ⟨"TH_REGION", 0x4100, 4, 32, .sys, [⟨0, 12, .ro, 0x0, false⟩, ⟨16, 12, .ro, 0x0, false⟩]⟩,
  ⟨"GOV_CFG", 0x4200, 0, 1, .sys, [⟨0, 1, .rw, 0x1, false⟩, ⟨1, 5, .rw, 0x0, false⟩, ⟨6, 5, .rw, 0x1E, false⟩, ⟨11, 5, .rw, 0x14, false⟩, ⟨16, 8, .rw, 0xC8, false⟩, ⟨24, 8, .rw, 0x64, false⟩]⟩,
  ⟨"GOV_STAT", 0x4204, 0, 1, .sys, [⟨0, 5, .ro, 0x14, false⟩, ⟨5, 1, .ro, 0x0, false⟩, ⟨6, 1, .w1c, 0x0, false⟩, ⟨7, 1, .w1c, 0x0, false⟩, ⟨16, 10, .ro, 0x0, false⟩]⟩,
  ⟨"GOV_PMB", 0x4208, 0, 1, .sys, [⟨0, 7, .rw, 0x40, false⟩]⟩,
  ⟨"PWR_CTRL", 0x4300, 0, 1, .sys, [⟨0, 2, .rw, 0x0, false⟩]⟩,
  ⟨"PWR_STAT", 0x4304, 0, 1, .sys, [⟨0, 2, .ro, 0x0, false⟩, ⟨2, 1, .ro, 0x0, false⟩]⟩,
  ⟨"MON_CFG", 0x4400, 0, 1, .sys, [⟨0, 4, .rw, 0x0, false⟩, ⟨4, 1, .rw, 0x0, false⟩]⟩,
  ⟨"MON_BSEL", 0x4404, 0, 1, .sys, [⟨0, 32, .rw, 0x0, false⟩]⟩,
  ⟨"MON_SEQ", 0x4410, 4, 16, .sys, [⟨0, 6, .rw, 0x0, false⟩, ⟨8, 4, .rw, 0x1, false⟩, ⟨12, 4, .rw, 0x1, false⟩]⟩,
  ⟨"MON_URG", 0x4450, 0, 1, .sys, [⟨0, 6, .rw, 0x0, false⟩, ⟨8, 4, .rw, 0x1, false⟩, ⟨12, 4, .rw, 0x1, false⟩, ⟨30, 1, .w1c, 0x0, false⟩, ⟨31, 1, .w1s, 0x0, false⟩]⟩,
  ⟨"MON_RES", 0x4460, 4, 16, .sys, [⟨0, 24, .ro, 0x0, false⟩, ⟨24, 6, .ro, 0x0, false⟩, ⟨31, 1, .rc, 0x0, false⟩]⟩,
  ⟨"MON_URG_RES", 0x44A0, 0, 1, .sys, [⟨0, 24, .ro, 0x0, false⟩, ⟨24, 6, .ro, 0x0, false⟩, ⟨31, 1, .rc, 0x0, false⟩]⟩,
  ⟨"FLT_CFG", 0x5000, 0, 1, .sys, [⟨0, 1, .rw, 0x1, false⟩]⟩,
  ⟨"FLT_CTRL", 0x5004, 0, 1, .sys, [⟨0, 1, .rw, 0x0, false⟩, ⟨1, 1, .ro, 0x0, false⟩, ⟨2, 1, .w1c, 0x0, false⟩]⟩,
  ⟨"FLT_REACT", 0x5100, 4, 192, .sys, [⟨0, 2, .rw, 0x0, false⟩, ⟨2, 1, .rw, 0x0, false⟩, ⟨3, 1, .rw, 0x0, false⟩, ⟨4, 1, .rw, 0x0, false⟩, ⟨5, 1, .rw, 0x0, false⟩, ⟨6, 1, .rw, 0x0, false⟩, ⟨31, 1, .ro, 0x0, false⟩]⟩,
  ⟨"FLT_PEND", 0x5400, 4, 6, .sys, [⟨0, 32, .w1c, 0x0, false⟩]⟩,
  ⟨"FLT_FIRST", 0x5420, 0, 1, .sys, [⟨0, 8, .ro, 0x0, false⟩, ⟨8, 2, .ro, 0x0, false⟩, ⟨10, 1, .ro, 0x0, false⟩, ⟨11, 1, .ro, 0x0, false⟩, ⟨31, 1, .w1c, 0x0, false⟩]⟩,
  ⟨"FLT_FIRST_TICK_LO", 0x5424, 0, 1, .sys, [⟨0, 32, .ro, 0x0, false⟩]⟩,
  ⟨"FLT_FIRST_TICK_HI", 0x5428, 0, 1, .sys, [⟨0, 16, .ro, 0x0, false⟩]⟩,
  ⟨"FLT_LOG_SEL", 0x5440, 0, 1, .sys, [⟨0, 6, .rw, 0x0, false⟩, ⟨8, 1, .ro, 0x0, false⟩]⟩,
  ⟨"FLT_LOG_DATA", 0x5444, 4, 10, .sys, [⟨0, 32, .ro, 0x0, false⟩]⟩,
  ⟨"FLT_LOG_OVR", 0x546C, 0, 1, .sys, [⟨0, 32, .rc, 0x0, false⟩]⟩,
  ⟨"FLT_INJ", 0x5480, 0, 1, .sys, [⟨0, 8, .rw, 0x0, false⟩, ⟨31, 1, .w1s, 0x0, false⟩]⟩,
  ⟨"FLT_INJ_PAY", 0x5484, 4, 4, .sys, [⟨0, 32, .rw, 0x0, false⟩]⟩,
  ⟨"REC_CFG", 0x6000, 0, 1, .sys, [⟨0, 2, .rw, 0x1, false⟩]⟩,
  ⟨"REC_CTRL", 0x6004, 0, 1, .sys, [⟨0, 1, .w1s, 0x0, false⟩]⟩,
  ⟨"REC_STAT", 0x6008, 0, 1, .sys, [⟨0, 1, .ro, 0x0, false⟩, ⟨1, 1, .ro, 0x0, false⟩, ⟨2, 9, .ro, 0x0, false⟩]⟩,
  ⟨"REC_HEAD", 0x600C, 0, 1, .sys, [⟨0, 32, .ro, 0x0, false⟩]⟩,
  ⟨"REC_TAIL", 0x6010, 0, 1, .sys, [⟨0, 32, .ro, 0x0, false⟩]⟩,
  ⟨"REC_SEL", 0x6018, 0, 1, .sys, [⟨0, 32, .rw, 0x0, false⟩]⟩,
  ⟨"REC_DROP_CNT", 0x601C, 0, 1, .sys, [⟨0, 32, .rc, 0x0, false⟩]⟩,
  ⟨"REC_HOURS", 0x6020, 0, 1, .sys, [⟨0, 24, .ro, 0x0, false⟩]⟩,
  ⟨"REC_SECS", 0x6024, 0, 1, .sys, [⟨0, 12, .ro, 0x0, false⟩]⟩,
  ⟨"REC_PCYC", 0x6028, 0, 1, .sys, [⟨0, 24, .ro, 0x0, false⟩]⟩,
  ⟨"REC_DATA", 0x6040, 4, 16, .sys, [⟨0, 32, .ro, 0x0, false⟩]⟩,
  ⟨"LIF_CTRL", 0x7000, 0, 1, .sys, [⟨0, 1, .w1s, 0x0, false⟩]⟩,
  ⟨"LIF_GEN", 0x7004, 0, 1, .sys, [⟨0, 32, .ro, 0x0, false⟩]⟩,
  ⟨"LIF_SEL", 0x7008, 0, 1, .sys, [⟨0, 9, .rw, 0x0, false⟩]⟩,
  ⟨"LIF_DATA", 0x700C, 0, 1, .sys, [⟨0, 32, .ro, 0x0, false⟩]⟩,
  ⟨"BOOT_STAT", 0x8000, 0, 1, .sys, [⟨0, 4, .ro, 0x0, false⟩, ⟨4, 3, .ro, 0x0, false⟩, ⟨7, 1, .ro, 0x0, false⟩, ⟨8, 1, .ro, 0x0, false⟩, ⟨9, 1, .ro, 0x0, false⟩, ⟨16, 16, .ro, 0x0, false⟩]⟩,
  ⟨"BOOT_CTRL", 0x8004, 0, 1, .sys, [⟨0, 1, .w1s, 0x0, false⟩, ⟨8, 8, .wo, 0x0, false⟩]⟩,
  ⟨"BOOT_FLW_ADDR", 0x8010, 0, 1, .sys, [⟨0, 26, .rw, 0x0, false⟩]⟩,
  ⟨"BOOT_FLW_DATA", 0x8014, 0, 1, .sys, [⟨0, 32, .rw, 0x0, false⟩]⟩,
  ⟨"BOOT_FLW_CTRL", 0x8018, 0, 1, .sys, [⟨0, 1, .w1s, 0x0, false⟩, ⟨1, 1, .ro, 0x0, false⟩, ⟨2, 1, .w1c, 0x0, false⟩]⟩,
  ⟨"SEC_STAT", 0x8020, 0, 1, .sys, [⟨0, 1, .ro, 0x0, false⟩, ⟨1, 1, .ro, 0x0, false⟩, ⟨2, 1, .ro, 0x0, false⟩, ⟨3, 1, .ro, 0x0, false⟩]⟩,
  ⟨"SEC_CHAL_LO", 0x8024, 0, 1, .sys, [⟨0, 32, .ro, 0x0, false⟩]⟩,
  ⟨"SEC_CHAL_HI", 0x8028, 0, 1, .sys, [⟨0, 32, .ro, 0x0, false⟩]⟩]

/-- The registers of the lock block, by offset. -/
def lockRows : List RegRow := [
  ⟨"LOCK_STAT", 0x0, 0, 1, .chip, [⟨0, 2, .ro, 0x0, false⟩, ⟨2, 1, .ro, 0x0, false⟩, ⟨3, 1, .ro, 0x0, false⟩, ⟨4, 1, .w1c, 0x0, false⟩, ⟨5, 1, .w1c, 0x0, false⟩, ⟨8, 4, .w1c, 0x0, false⟩, ⟨16, 8, .ro, 0x0, false⟩]⟩,
  ⟨"LOCK_LM_MIN", 0x4, 0, 1, .chip, [⟨0, 16, .rc, 0x7FFF, false⟩]⟩,
  ⟨"LOCK_LATE_CNT", 0x8, 0, 1, .chip, [⟨0, 32, .rc, 0x0, false⟩]⟩,
  ⟨"LOCK_LATE_TICK_LO", 0xC, 0, 1, .chip, [⟨0, 32, .ro, 0x0, false⟩]⟩,
  ⟨"LOCK_LATE_TICK_HI", 0x10, 0, 1, .chip, [⟨0, 16, .ro, 0x0, false⟩]⟩,
  ⟨"LOCK_BR_CNT", 0x14, 0, 1, .chip, [⟨0, 32, .rc, 0x0, false⟩]⟩,
  ⟨"LOCK_BR_LATE_CNT", 0x18, 0, 1, .chip, [⟨0, 32, .rc, 0x0, false⟩]⟩,
  ⟨"LOCK_BR_MISS_CNT", 0x1C, 0, 1, .chip, [⟨0, 32, .rc, 0x0, false⟩]⟩]

/-- The registers of the demod block, by offset. -/
def demodRows : List RegRow := [
  ⟨"DEM_CFG", 0x0, 0, 1, .chip, [⟨0, 4, .rw, 0x0, false⟩, ⟨4, 3, .rw, 0x0, false⟩, ⟨7, 1, .rw, 0x0, false⟩]⟩,
  ⟨"DEM_PHASE_CAL", 0x4, 0, 1, .chip, [⟨0, 32, .rw, 0x0, false⟩]⟩,
  ⟨"DEM_WSET", 0x8, 4, 4, .chip, [⟨0, 13, .rw, 0x0, false⟩, ⟨16, 13, .rw, 0x0, false⟩]⟩,
  ⟨"DISC_CFG", 0x18, 0, 1, .chip, [⟨0, 1, .rw, 0x0, false⟩, ⟨1, 1, .rw, 0x0, false⟩, ⟨2, 1, .rw, 0x0, false⟩]⟩,
  ⟨"DISC_A", 0x1C, 12, 3, .chip, [⟨0, 18, .rw, 0x0, true⟩]⟩,
  ⟨"DISC_B", 0x20, 12, 3, .chip, [⟨0, 18, .rw, 0x0, true⟩]⟩,
  ⟨"DISC_T", 0x24, 12, 3, .chip, [⟨0, 32, .rw, 0x0, false⟩]⟩,
  ⟨"DEC_EVT", 0x40, 0, 1, .chip, [⟨0, 8, .rw, 0x0, false⟩, ⟨8, 4, .rw, 0x0, false⟩, ⟨12, 1, .rw, 0x1, false⟩, ⟨31, 1, .rw, 0x0, false⟩]⟩,
  ⟨"DEM_STAT", 0x44, 0, 1, .chip, [⟨0, 1, .ro, 0x0, false⟩, ⟨1, 1, .w1c, 0x0, false⟩]⟩,
  ⟨"DEM_FREQ_LO", 0x48, 0, 1, .chip, [⟨0, 32, .ro, 0x0, false⟩]⟩,
  ⟨"DEM_FREQ_HI", 0x4C, 0, 1, .chip, [⟨0, 16, .ro, 0x0, false⟩]⟩,
  ⟨"DEM_PHASE", 0x50, 0, 1, .chip, [⟨0, 32, .ro, 0x0, false⟩]⟩,
  ⟨"DEM_LAST_DEC", 0x54, 0, 1, .chip, [⟨0, 2, .ro, 0x0, false⟩, ⟨2, 1, .ro, 0x0, false⟩, ⟨3, 1, .ro, 0x0, false⟩, ⟨8, 8, .ro, 0x0, false⟩]⟩,
  ⟨"DEM_LAST_I", 0x58, 0, 1, .chip, [⟨0, 18, .ro, 0x0, true⟩]⟩,
  ⟨"DEM_LAST_Q", 0x5C, 0, 1, .chip, [⟨0, 18, .ro, 0x0, true⟩]⟩,
  ⟨"DEM_LAST_END_LO", 0x60, 0, 1, .chip, [⟨0, 32, .ro, 0x0, false⟩]⟩,
  ⟨"DEM_LAST_END_HI", 0x64, 0, 1, .chip, [⟨0, 16, .ro, 0x0, false⟩]⟩,
  ⟨"DEM_WIN_CNT", 0x68, 0, 1, .chip, [⟨0, 32, .rc, 0x0, false⟩]⟩,
  ⟨"DEM_INVAL_CNT", 0x6C, 0, 1, .chip, [⟨0, 32, .rc, 0x0, false⟩]⟩]

/-- Address of GLB_ID (R445). -/
def R.GLB_ID : Nat := 0
/-- GLB_ID.PART, bits [15:0] (R445). -/
def GLB_ID.PART : Rf := ⟨R.GLB_ID, 0, 16⟩
/-- GLB_ID.REV, bits [19:16] (R445). -/
def GLB_ID.REV : Rf := ⟨R.GLB_ID, 16, 4⟩
/-- Address of GLB_SERIAL_LO (R445). -/
def R.GLB_SERIAL_LO : Nat := 0x4
/-- GLB_SERIAL_LO.SERIAL, bits [31:0] (R445). -/
def GLB_SERIAL_LO.SERIAL : Rf := ⟨R.GLB_SERIAL_LO, 0, 32⟩
/-- Address of GLB_SERIAL_HI (R445). -/
def R.GLB_SERIAL_HI : Nat := 0x8
/-- GLB_SERIAL_HI.SERIAL, bits [31:0] (R445). -/
def GLB_SERIAL_HI.SERIAL : Rf := ⟨R.GLB_SERIAL_HI, 0, 32⟩
/-- Address of TPL_TICK_LO (R26). -/
def R.TPL_TICK_LO : Nat := 0x100
/-- TPL_TICK_LO.TICK_LO, bits [31:0] (R26). -/
def TPL_TICK_LO.TICK_LO : Rf := ⟨R.TPL_TICK_LO, 0, 32⟩
/-- Address of TPL_TICK_HI (R26). -/
def R.TPL_TICK_HI : Nat := 0x104
/-- TPL_TICK_HI.TICK_HI, bits [15:0] (R26). -/
def TPL_TICK_HI.TICK_HI : Rf := ⟨R.TPL_TICK_HI, 0, 16⟩
/-- Address of LM_CFG (R39). -/
def R.LM_CFG : Nat := 0x110
/-- LM_CFG.NOTICE_TH, bits [7:0] (R39). -/
def LM_CFG.NOTICE_TH : Rf := ⟨R.LM_CFG, 0, 8⟩
/-- LM_CFG.GOV_TH, bits [15:8] (R39). -/
def LM_CFG.GOV_TH : Rf := ⟨R.LM_CFG, 8, 8⟩
/-- Address of LM_DEV_MIN (R39). -/
def R.LM_DEV_MIN : Nat := 0x114
/-- LM_DEV_MIN.MIN, bits [15:0] (R39). -/
def LM_DEV_MIN.MIN : Rf := ⟨R.LM_DEV_MIN, 0, 16⟩
/-- LM_DEV_MIN.LOCK_ID, bits [23:16] (R39). -/
def LM_DEV_MIN.LOCK_ID : Rf := ⟨R.LM_DEV_MIN, 16, 8⟩
/-- Address of XBAR_STAT (R48). -/
def R.XBAR_STAT : Nat := 0x120
/-- XBAR_STAT.MAX_ADD, bits [1:0] (R48). -/
def XBAR_STAT.MAX_ADD : Rf := ⟨R.XBAR_STAT, 0, 2⟩
/-- Address of XBAR_LEAD_MIN (R36). -/
def R.XBAR_LEAD_MIN : Nat := 0x124
/-- XBAR_LEAD_MIN.MIN, bits [15:0] (R36). -/
def XBAR_LEAD_MIN.MIN : Rf := ⟨R.XBAR_LEAD_MIN, 0, 16⟩
/-- Address of XBAR_LATE_CNT (R47). -/
def R.XBAR_LATE_CNT : Nat := 0x128
/-- XBAR_LATE_CNT.COUNT, bits [31:0] (R47). -/
def XBAR_LATE_CNT.COUNT : Rf := ⟨R.XBAR_LATE_CNT, 0, 32⟩
/-- Address of XBAR_BURST_CNT (R48). -/
def R.XBAR_BURST_CNT : Nat := 0x12C
/-- XBAR_BURST_CNT.COUNT, bits [31:0] (R48). -/
def XBAR_BURST_CNT.COUNT : Rf := ⟨R.XBAR_BURST_CNT, 0, 32⟩
/-- Address of PND_STAT (R33). -/
def R.PND_STAT (b : Nat) : Nat := 0x100000 + 0x10000 * b + 0x4000
/-- PND_STAT.OCC, bits [6:0] (R33). -/
def PND_STAT.OCC (b : Nat) : Rf := ⟨R.PND_STAT b, 0, 7⟩
/-- PND_STAT.FULL, bits [7:7] (R33). -/
def PND_STAT.FULL (b : Nat) : Rf := ⟨R.PND_STAT b, 7, 1⟩
/-- Address of PND_LEAD_MIN (R36). -/
def R.PND_LEAD_MIN (b : Nat) : Nat := 0x100000 + 0x10000 * b + 0x4004
/-- PND_LEAD_MIN.MIN, bits [15:0] (R36). -/
def PND_LEAD_MIN.MIN (b : Nat) : Rf := ⟨R.PND_LEAD_MIN b, 0, 16⟩
/-- Address of PND_SHORT_CNT (R40). -/
def R.PND_SHORT_CNT (b : Nat) : Nat := 0x100000 + 0x10000 * b + 0x4008
/-- PND_SHORT_CNT.COUNT, bits [31:0] (R40). -/
def PND_SHORT_CNT.COUNT (b : Nat) : Rf := ⟨R.PND_SHORT_CNT b, 0, 32⟩
/-- Address of PND_STALL_CNT (R30). -/
def R.PND_STALL_CNT (b : Nat) : Nat := 0x100000 + 0x10000 * b + 0x400C
/-- PND_STALL_CNT.COUNT, bits [31:0] (R30). -/
def PND_STALL_CNT.COUNT (b : Nat) : Rf := ⟨R.PND_STALL_CNT b, 0, 32⟩
/-- Address of LOCK_STAT (R32). -/
def R.LOCK_STAT (ℓ : Nat) : Nat := lockBase ℓ
/-- LOCK_STAT.STATE, bits [1:0] (R32). -/
def LOCK_STAT.STATE (ℓ : Nat) : Rf := ⟨R.LOCK_STAT ℓ, 0, 2⟩
/-- LOCK_STAT.CTX0_BUSY, bits [2:2] (R32). -/
def LOCK_STAT.CTX0_BUSY (ℓ : Nat) : Rf := ⟨R.LOCK_STAT ℓ, 2, 1⟩
/-- LOCK_STAT.CTX1_BUSY, bits [3:3] (R32). -/
def LOCK_STAT.CTX1_BUSY (ℓ : Nat) : Rf := ⟨R.LOCK_STAT ℓ, 3, 1⟩
/-- LOCK_STAT.LATE, bits [4:4] (R32). -/
def LOCK_STAT.LATE (ℓ : Nat) : Rf := ⟨R.LOCK_STAT ℓ, 4, 1⟩
/-- LOCK_STAT.BR_LATE, bits [5:5] (R32). -/
def LOCK_STAT.BR_LATE (ℓ : Nat) : Rf := ⟨R.LOCK_STAT ℓ, 5, 1⟩
/-- LOCK_STAT.LANE_LATE, bits [11:8] (R32). -/
def LOCK_STAT.LANE_LATE (ℓ : Nat) : Rf := ⟨R.LOCK_STAT ℓ, 8, 4⟩
/-- LOCK_STAT.LOCK_ID, bits [23:16] (R32). -/
def LOCK_STAT.LOCK_ID (ℓ : Nat) : Rf := ⟨R.LOCK_STAT ℓ, 16, 8⟩
/-- Address of LOCK_LM_MIN (R36). -/
def R.LOCK_LM_MIN (ℓ : Nat) : Nat := lockBase ℓ + 0x4
/-- LOCK_LM_MIN.MIN, bits [15:0] (R36). -/
def LOCK_LM_MIN.MIN (ℓ : Nat) : Rf := ⟨R.LOCK_LM_MIN ℓ, 0, 16⟩
/-- Address of LOCK_LATE_CNT (R43). -/
def R.LOCK_LATE_CNT (ℓ : Nat) : Nat := lockBase ℓ + 0x8
/-- LOCK_LATE_CNT.COUNT, bits [31:0] (R43). -/
def LOCK_LATE_CNT.COUNT (ℓ : Nat) : Rf := ⟨R.LOCK_LATE_CNT ℓ, 0, 32⟩
/-- Address of LOCK_LATE_TICK_LO (R43). -/
def R.LOCK_LATE_TICK_LO (ℓ : Nat) : Nat := lockBase ℓ + 0xC
/-- LOCK_LATE_TICK_LO.TICK, bits [31:0] (R43). -/
def LOCK_LATE_TICK_LO.TICK (ℓ : Nat) : Rf := ⟨R.LOCK_LATE_TICK_LO ℓ, 0, 32⟩
/-- Address of LOCK_LATE_TICK_HI (R43). -/
def R.LOCK_LATE_TICK_HI (ℓ : Nat) : Nat := lockBase ℓ + 0x10
/-- LOCK_LATE_TICK_HI.TICK, bits [15:0] (R43). -/
def LOCK_LATE_TICK_HI.TICK (ℓ : Nat) : Rf := ⟨R.LOCK_LATE_TICK_HI ℓ, 0, 16⟩
/-- Address of LOCK_BR_CNT (R51). -/
def R.LOCK_BR_CNT (ℓ : Nat) : Nat := lockBase ℓ + 0x14
/-- LOCK_BR_CNT.COUNT, bits [31:0] (R51). -/
def LOCK_BR_CNT.COUNT (ℓ : Nat) : Rf := ⟨R.LOCK_BR_CNT ℓ, 0, 32⟩
/-- Address of LOCK_BR_LATE_CNT (R54). -/
def R.LOCK_BR_LATE_CNT (ℓ : Nat) : Nat := lockBase ℓ + 0x18
/-- LOCK_BR_LATE_CNT.COUNT, bits [31:0] (R54). -/
def LOCK_BR_LATE_CNT.COUNT (ℓ : Nat) : Rf := ⟨R.LOCK_BR_LATE_CNT ℓ, 0, 32⟩
/-- Address of LOCK_BR_MISS_CNT (R53). -/
def R.LOCK_BR_MISS_CNT (ℓ : Nat) : Nat := lockBase ℓ + 0x1C
/-- LOCK_BR_MISS_CNT.COUNT, bits [31:0] (R53). -/
def LOCK_BR_MISS_CNT.COUNT (ℓ : Nat) : Rf := ⟨R.LOCK_BR_MISS_CNT ℓ, 0, 32⟩
/-- Address of ING_STAT (R45). -/
def R.ING_STAT (n : Nat) : Nat := 0x500000 + 0x40000 * n + 0x3F000
/-- ING_STAT.SLACK_MIN, bits [5:0] (R45). -/
def ING_STAT.SLACK_MIN (n : Nat) : Rf := ⟨R.ING_STAT n, 0, 6⟩
/-- ING_STAT.LOST, bits [6:6] (R45). -/
def ING_STAT.LOST (n : Nat) : Rf := ⟨R.ING_STAT n, 6, 1⟩
/-- Address of ING_LOST_CNT (R45). -/
def R.ING_LOST_CNT (n : Nat) : Nat := 0x500000 + 0x40000 * n + 0x3F004
/-- ING_LOST_CNT.COUNT, bits [31:0] (R45). -/
def ING_LOST_CNT.COUNT (n : Nat) : Rf := ⟨R.ING_LOST_CNT n, 0, 32⟩
/-- Address of SHL_LAST_DONE (R94). -/
def R.SHL_LAST_DONE (b : Nat) : Nat := 0x100000 + 0x10000 * b + 0x4200
/-- SHL_LAST_DONE.LAST_DONE_SHOT, bits [31:0] (R94). -/
def SHL_LAST_DONE.LAST_DONE_SHOT (b : Nat) : Rf := ⟨R.SHL_LAST_DONE b, 0, 32⟩
/-- Address of SHL_INFLIGHT (R94). -/
def R.SHL_INFLIGHT (b : Nat) : Nat := 0x100000 + 0x10000 * b + 0x4204
/-- SHL_INFLIGHT.INFLIGHT_SHOT, bits [31:0] (R94). -/
def SHL_INFLIGHT.INFLIGHT_SHOT (b : Nat) : Rf := ⟨R.SHL_INFLIGHT b, 0, 32⟩
/-- Address of SHL_STATE (R94). -/
def R.SHL_STATE (b : Nat) : Nat := 0x100000 + 0x10000 * b + 0x4208
/-- SHL_STATE.INFLIGHT_STATE, bits [2:0] (R94). -/
def SHL_STATE.INFLIGHT_STATE (b : Nat) : Rf := ⟨R.SHL_STATE b, 0, 3⟩
/-- SHL_STATE.LAST_STATUS, bits [5:4] (R94). -/
def SHL_STATE.LAST_STATUS (b : Nat) : Rf := ⟨R.SHL_STATE b, 4, 2⟩
/-- SHL_STATE.INFLIGHT_CAUSE, bits [11:8] (R94). -/
def SHL_STATE.INFLIGHT_CAUSE (b : Nat) : Rf := ⟨R.SHL_STATE b, 8, 4⟩
/-- SHL_STATE.LAST_CAUSE, bits [15:12] (R94). -/
def SHL_STATE.LAST_CAUSE (b : Nat) : Rf := ⟨R.SHL_STATE b, 12, 4⟩
/-- Address of SHL_TICK_LO (R94). -/
def R.SHL_TICK_LO (b : Nat) : Nat := 0x100000 + 0x10000 * b + 0x420C
/-- SHL_TICK_LO.TICK, bits [31:0] (R94). -/
def SHL_TICK_LO.TICK (b : Nat) : Rf := ⟨R.SHL_TICK_LO b, 0, 32⟩
/-- Address of SHL_TICK_HI (R94). -/
def R.SHL_TICK_HI (b : Nat) : Nat := 0x100000 + 0x10000 * b + 0x4210
/-- SHL_TICK_HI.TICK, bits [15:0] (R94). -/
def SHL_TICK_HI.TICK (b : Nat) : Rf := ⟨R.SHL_TICK_HI b, 0, 16⟩
/-- Address of SHL_SEQ (R94). -/
def R.SHL_SEQ (b : Nat) : Nat := 0x100000 + 0x10000 * b + 0x4214
/-- SHL_SEQ.SEQ, bits [31:0] (R94). -/
def SHL_SEQ.SEQ (b : Nat) : Rf := ⟨R.SHL_SEQ b, 0, 32⟩
/-- Address of PLT_TIME_CFG (R66). -/
def R.PLT_TIME_CFG (b : Nat) : Nat := 0x100000 + 0x10000 * b + 0x4220
/-- PLT_TIME_CFG.MAX_LEAD, bits [23:0] (R66). -/
def PLT_TIME_CFG.MAX_LEAD (b : Nat) : Rf := ⟨R.PLT_TIME_CFG b, 0, 24⟩
/-- PLT_TIME_CFG.RESUME_LEAD, bits [31:24] (R66). -/
def PLT_TIME_CFG.RESUME_LEAD (b : Nat) : Rf := ⟨R.PLT_TIME_CFG b, 24, 8⟩
/-- Address of PLT_CTRL (R111). -/
def R.PLT_CTRL (b : Nat) : Nat := 0x100000 + 0x10000 * b
/-- PLT_CTRL.STOP, bits [0:0] (R111). -/
def PLT_CTRL.STOP (b : Nat) : Rf := ⟨R.PLT_CTRL b, 0, 1⟩
/-- PLT_CTRL.STOP_BND, bits [1:1] (R111). -/
def PLT_CTRL.STOP_BND (b : Nat) : Rf := ⟨R.PLT_CTRL b, 1, 1⟩
/-- PLT_CTRL.SNAP, bits [2:2] (R111). -/
def PLT_CTRL.SNAP (b : Nat) : Rf := ⟨R.PLT_CTRL b, 2, 1⟩
/-- Address of PLT_STAT (R111). -/
def R.PLT_STAT (b : Nat) : Nat := 0x100000 + 0x10000 * b + 0x4
/-- PLT_STAT.STATE, bits [3:0] (R111). -/
def PLT_STAT.STATE (b : Nat) : Rf := ⟨R.PLT_STAT b, 0, 4⟩
/-- PLT_STAT.UC_VALID, bits [4:4] (R111). -/
def PLT_STAT.UC_VALID (b : Nat) : Rf := ⟨R.PLT_STAT b, 4, 1⟩
/-- PLT_STAT.PATCH_PEND, bits [5:5] (R111). -/
def PLT_STAT.PATCH_PEND (b : Nat) : Rf := ⟨R.PLT_STAT b, 5, 1⟩
/-- PLT_STAT.SNAP_VALID, bits [6:6] (R111). -/
def PLT_STAT.SNAP_VALID (b : Nat) : Rf := ⟨R.PLT_STAT b, 6, 1⟩
/-- Address of PLT_PC (R111). -/
def R.PLT_PC (b : Nat) : Nat := 0x100000 + 0x10000 * b + 0x8
/-- PLT_PC.PC, bits [13:0] (R111). -/
def PLT_PC.PC (b : Nat) : Rf := ⟨R.PLT_PC b, 0, 14⟩
/-- Address of PLT_FLAGS (R111). -/
def R.PLT_FLAGS (b : Nat) : Nat := 0x100000 + 0x10000 * b + 0xC
/-- PLT_FLAGS.Z, bits [0:0] (R111). -/
def PLT_FLAGS.Z (b : Nat) : Rf := ⟨R.PLT_FLAGS b, 0, 1⟩
/-- PLT_FLAGS.N, bits [1:1] (R111). -/
def PLT_FLAGS.N (b : Nat) : Rf := ⟨R.PLT_FLAGS b, 1, 1⟩
/-- PLT_FLAGS.C, bits [2:2] (R111). -/
def PLT_FLAGS.C (b : Nat) : Rf := ⟨R.PLT_FLAGS b, 2, 1⟩
/-- PLT_FLAGS.D, bits [3:3] (R111). -/
def PLT_FLAGS.D (b : Nat) : Rf := ⟨R.PLT_FLAGS b, 3, 1⟩
/-- Address of PLT_TC_LO (R111). -/
def R.PLT_TC_LO (b : Nat) : Nat := 0x100000 + 0x10000 * b + 0x10
/-- PLT_TC_LO.TC, bits [31:0] (R111). -/
def PLT_TC_LO.TC (b : Nat) : Rf := ⟨R.PLT_TC_LO b, 0, 32⟩
/-- Address of PLT_TC_HI (R111). -/
def R.PLT_TC_HI (b : Nat) : Nat := 0x100000 + 0x10000 * b + 0x14
/-- PLT_TC_HI.TC, bits [15:0] (R111). -/
def PLT_TC_HI.TC (b : Nat) : Rf := ⟨R.PLT_TC_HI b, 0, 16⟩
/-- Address of PLT_VAR (R111). -/
def R.PLT_VAR (b i : Nat) : Nat := 0x100000 + 0x10000 * b + 0x40 + 4 * i
/-- PLT_VAR.VALUE, bits [31:0] (R111). -/
def PLT_VAR.VALUE (b i : Nat) : Rf := ⟨R.PLT_VAR b i, 0, 32⟩
/-- Address of PLT_RSRC (R99). -/
def R.PLT_RSRC (b i : Nat) : Nat := 0x100000 + 0x10000 * b + 0x80 + 4 * i
/-- PLT_RSRC.DEV, bits [11:0] (R99). -/
def PLT_RSRC.DEV (b i : Nat) : Rf := ⟨R.PLT_RSRC b i, 0, 12⟩
/-- PLT_RSRC.SRC, bits [19:12] (R99). -/
def PLT_RSRC.SRC (b i : Nat) : Rf := ⟨R.PLT_RSRC b i, 12, 8⟩
/-- PLT_RSRC.VALID, bits [31:31] (R99). -/
def PLT_RSRC.VALID (b i : Nat) : Rf := ⟨R.PLT_RSRC b i, 31, 1⟩
/-- Address of PLT_PM_ADDR (R98). -/
def R.PLT_PM_ADDR (b : Nat) : Nat := 0x100000 + 0x10000 * b + 0xC0
/-- PLT_PM_ADDR.ADDR, bits [13:0] (R98). -/
def PLT_PM_ADDR.ADDR (b : Nat) : Rf := ⟨R.PLT_PM_ADDR b, 0, 14⟩
/-- Address of PLT_PM_DATA (R98). -/
def R.PLT_PM_DATA (b : Nat) : Nat := 0x100000 + 0x10000 * b + 0xC4
/-- PLT_PM_DATA.DATA, bits [31:0] (R98). -/
def PLT_PM_DATA.DATA (b : Nat) : Rf := ⟨R.PLT_PM_DATA b, 0, 32⟩
/-- Address of UC_VER (R117). -/
def R.UC_VER (b : Nat) : Nat := 0x100000 + 0x10000 * b + 0x100
/-- UC_VER.IMAGE, bits [15:0] (R117). -/
def UC_VER.IMAGE (b : Nat) : Rf := ⟨R.UC_VER b, 0, 16⟩
/-- UC_VER.PATCH, bits [23:16] (R117). -/
def UC_VER.PATCH (b : Nat) : Rf := ⟨R.UC_VER b, 16, 8⟩
/-- UC_VER.VALID, bits [31:31] (R117). -/
def UC_VER.VALID (b : Nat) : Rf := ⟨R.UC_VER b, 31, 1⟩
/-- Address of UC_ECC_STAT (R114). -/
def R.UC_ECC_STAT (b : Nat) : Nat := 0x100000 + 0x10000 * b + 0x104
/-- UC_ECC_STAT.ADDR, bits [12:0] (R114). -/
def UC_ECC_STAT.ADDR (b : Nat) : Rf := ⟨R.UC_ECC_STAT b, 0, 13⟩
/-- UC_ECC_STAT.CE, bits [16:16] (R114). -/
def UC_ECC_STAT.CE (b : Nat) : Rf := ⟨R.UC_ECC_STAT b, 16, 1⟩
/-- UC_ECC_STAT.DED, bits [17:17] (R114). -/
def UC_ECC_STAT.DED (b : Nat) : Rf := ⟨R.UC_ECC_STAT b, 17, 1⟩
/-- Address of UC_CE_CNT (R114). -/
def R.UC_CE_CNT (b : Nat) : Nat := 0x100000 + 0x10000 * b + 0x108
/-- UC_CE_CNT.COUNT, bits [31:0] (R114). -/
def UC_CE_CNT.COUNT (b : Nat) : Rf := ⟨R.UC_CE_CNT b, 0, 32⟩
/-- Address of UC_SCRUB_CFG (R116). -/
def R.UC_SCRUB_CFG (b : Nat) : Nat := 0x100000 + 0x10000 * b + 0x10C
/-- UC_SCRUB_CFG.PERIOD, bits [7:0] (R116). -/
def UC_SCRUB_CFG.PERIOD (b : Nat) : Rf := ⟨R.UC_SCRUB_CFG b, 0, 8⟩
/-- Address of PND_VIEW_SEL (R105). -/
def R.PND_VIEW_SEL (b : Nat) : Nat := 0x100000 + 0x10000 * b + 0x4010
/-- PND_VIEW_SEL.IDX, bits [5:0] (R105). -/
def PND_VIEW_SEL.IDX (b : Nat) : Rf := ⟨R.PND_VIEW_SEL b, 0, 6⟩
/-- PND_VIEW_SEL.VALID, bits [8:8] (R105). -/
def PND_VIEW_SEL.VALID (b : Nat) : Rf := ⟨R.PND_VIEW_SEL b, 8, 1⟩
/-- Address of PND_VIEW_DATA (R105). -/
def R.PND_VIEW_DATA (b i : Nat) : Nat := 0x100000 + 0x10000 * b + 0x4014 + 4 * i
/-- PND_VIEW_DATA.DATA, bits [31:0] (R105). -/
def PND_VIEW_DATA.DATA (b i : Nat) : Rf := ⟨R.PND_VIEW_DATA b i, 0, 32⟩
/-- Address of SEG_DATA (R126). -/
def R.SEG_DATA (i : Nat) : Nat := 0x1000 + 4 * i
/-- SEG_DATA.DATA, bits [31:0] (R126). -/
def SEG_DATA.DATA (i : Nat) : Rf := ⟨R.SEG_DATA i, 0, 32⟩
/-- Address of SEG_CTRL (R126). -/
def R.SEG_CTRL : Nat := 0x1010
/-- SEG_CTRL.IDX, bits [16:0] (R126). -/
def SEG_CTRL.IDX : Rf := ⟨R.SEG_CTRL, 0, 17⟩
/-- SEG_CTRL.READ, bits [30:30] (R126). -/
def SEG_CTRL.READ : Rf := ⟨R.SEG_CTRL, 30, 1⟩
/-- SEG_CTRL.COMMIT, bits [31:31] (R126). -/
def SEG_CTRL.COMMIT : Rf := ⟨R.SEG_CTRL, 31, 1⟩
/-- Address of SYN_ORIGIN_LO (R141). -/
def R.SYN_ORIGIN_LO : Nat := 0x1020
/-- SYN_ORIGIN_LO.ORIGIN, bits [31:0] (R141). -/
def SYN_ORIGIN_LO.ORIGIN : Rf := ⟨R.SYN_ORIGIN_LO, 0, 32⟩
/-- Address of SYN_ORIGIN_HI (R141). -/
def R.SYN_ORIGIN_HI : Nat := 0x1024
/-- SYN_ORIGIN_HI.ORIGIN, bits [15:0] (R141). -/
def SYN_ORIGIN_HI.ORIGIN : Rf := ⟨R.SYN_ORIGIN_HI, 0, 16⟩
/-- Address of SYN_STREAM_CFG (R134). -/
def R.SYN_STREAM_CFG : Nat := 0x1030
/-- SYN_STREAM_CFG.MAX_PLAYS, bits [7:0] (R134). -/
def SYN_STREAM_CFG.MAX_PLAYS : Rf := ⟨R.SYN_STREAM_CFG, 0, 8⟩
/-- Address of BASIN_ECC_STAT (R123). -/
def R.BASIN_ECC_STAT : Nat := 0x1040
/-- BASIN_ECC_STAT.PAIR, bits [22:0] (R123). -/
def BASIN_ECC_STAT.PAIR : Rf := ⟨R.BASIN_ECC_STAT, 0, 23⟩
/-- BASIN_ECC_STAT.CE, bits [23:23] (R123). -/
def BASIN_ECC_STAT.CE : Rf := ⟨R.BASIN_ECC_STAT, 23, 1⟩
/-- BASIN_ECC_STAT.DED, bits [24:24] (R123). -/
def BASIN_ECC_STAT.DED : Rf := ⟨R.BASIN_ECC_STAT, 24, 1⟩
/-- Address of BASIN_CE_CNT (R123). -/
def R.BASIN_CE_CNT : Nat := 0x1044
/-- BASIN_CE_CNT.COUNT, bits [31:0] (R123). -/
def BASIN_CE_CNT.COUNT : Rf := ⟨R.BASIN_CE_CNT, 0, 32⟩
/-- Address of BASIN_SCRUB_CFG (R123). -/
def R.BASIN_SCRUB_CFG : Nat := 0x1048
/-- BASIN_SCRUB_CFG.PERIOD, bits [7:0] (R123). -/
def BASIN_SCRUB_CFG.PERIOD : Rf := ⟨R.BASIN_SCRUB_CFG, 0, 8⟩
/-- Address of MRK_SEL (R130). -/
def R.MRK_SEL (i : Nat) : Nat := 0x1100 + 4 * i
/-- MRK_SEL.KIND, bits [1:0] (R130). -/
def MRK_SEL.KIND (i : Nat) : Rf := ⟨R.MRK_SEL i, 0, 2⟩
/-- MRK_SEL.BERTH, bits [7:2] (R130). -/
def MRK_SEL.BERTH (i : Nat) : Rf := ⟨R.MRK_SEL i, 2, 6⟩
/-- MRK_SEL.LINE, bits [9:8] (R130). -/
def MRK_SEL.LINE (i : Nat) : Rf := ⟨R.MRK_SEL i, 8, 2⟩
/-- MRK_SEL.INV, bits [10:10] (R130). -/
def MRK_SEL.INV (i : Nat) : Rf := ⟨R.MRK_SEL i, 10, 1⟩
/-- MRK_SEL.WIDTH, bits [23:16] (R130). -/
def MRK_SEL.WIDTH (i : Nat) : Rf := ⟨R.MRK_SEL i, 16, 8⟩
/-- Address of SBUF_BASE (R135). -/
def R.SBUF_BASE (i : Nat) : Nat := 0x2000 + 16 * i
/-- SBUF_BASE.BASE, bits [29:0] (R135). -/
def SBUF_BASE.BASE (i : Nat) : Rf := ⟨R.SBUF_BASE i, 0, 30⟩
/-- Address of SBUF_SIZE (R135). -/
def R.SBUF_SIZE (i : Nat) : Nat := 0x2004 + 16 * i
/-- SBUF_SIZE.SIZE, bits [23:0] (R135). -/
def SBUF_SIZE.SIZE (i : Nat) : Rf := ⟨R.SBUF_SIZE i, 0, 24⟩
/-- Address of SBUF_WPTR (R135). -/
def R.SBUF_WPTR (i : Nat) : Nat := 0x2008 + 16 * i
/-- SBUF_WPTR.WPTR, bits [31:0] (R135). -/
def SBUF_WPTR.WPTR (i : Nat) : Rf := ⟨R.SBUF_WPTR i, 0, 32⟩
/-- Address of SBUF_RPTR (R135). -/
def R.SBUF_RPTR (i : Nat) : Nat := 0x200C + 16 * i
/-- SBUF_RPTR.RPTR, bits [31:0] (R135). -/
def SBUF_RPTR.RPTR (i : Nat) : Rf := ⟨R.SBUF_RPTR i, 0, 32⟩
/-- Address of DRV_CFG (R147). -/
def R.DRV_CFG (b : Nat) : Nat := 0x100000 + 0x10000 * b + 0x2000
/-- DRV_CFG.EN, bits [0:0] (R147). -/
def DRV_CFG.EN (b : Nat) : Rf := ⟨R.DRV_CFG b, 0, 1⟩
/-- DRV_CFG.MIX, bits [1:1] (R147). -/
def DRV_CFG.MIX (b : Nat) : Rf := ⟨R.DRV_CFG b, 1, 1⟩
/-- DRV_CFG.SW_CLOSED, bits [4:4] (R147). -/
def DRV_CFG.SW_CLOSED (b : Nat) : Rf := ⟨R.DRV_CFG b, 4, 1⟩
/-- Address of DRV_STAT (R143). -/
def R.DRV_STAT (b : Nat) : Nat := 0x100000 + 0x10000 * b + 0x2004
/-- DRV_STAT.SAT, bits [0:0] (R143). -/
def DRV_STAT.SAT (b : Nat) : Rf := ⟨R.DRV_STAT b, 0, 1⟩
/-- DRV_STAT.CFG_REJ, bits [1:1] (R143). -/
def DRV_STAT.CFG_REJ (b : Nat) : Rf := ⟨R.DRV_STAT b, 1, 1⟩
/-- Address of DRV_SAT_CNT (R143). -/
def R.DRV_SAT_CNT (b : Nat) : Nat := 0x100000 + 0x10000 * b + 0x2008
/-- DRV_SAT_CNT.COUNT, bits [31:0] (R143). -/
def DRV_SAT_CNT.COUNT (b : Nat) : Rf := ⟨R.DRV_SAT_CNT b, 0, 32⟩
/-- Address of SYN_STAT (R136). -/
def R.SYN_STAT (b : Nat) : Nat := 0x100000 + 0x10000 * b + 0x2010
/-- SYN_STAT.UNDER, bits [0:0] (R136). -/
def SYN_STAT.UNDER (b : Nat) : Rf := ⟨R.SYN_STAT b, 0, 1⟩
/-- SYN_STAT.JMP_IDLE, bits [1:1] (R136). -/
def SYN_STAT.JMP_IDLE (b : Nat) : Rf := ⟨R.SYN_STAT b, 1, 1⟩
/-- Address of SYN_UNDER_CNT (R136). -/
def R.SYN_UNDER_CNT (b : Nat) : Nat := 0x100000 + 0x10000 * b + 0x2014
/-- SYN_UNDER_CNT.COUNT, bits [31:0] (R136). -/
def SYN_UNDER_CNT.COUNT (b : Nat) : Rf := ⟨R.SYN_UNDER_CNT b, 0, 32⟩
/-- Address of SYN_JUMP_LATE_CNT (R137). -/
def R.SYN_JUMP_LATE_CNT (b : Nat) : Nat := 0x100000 + 0x10000 * b + 0x2018
/-- SYN_JUMP_LATE_CNT.COUNT, bits [31:0] (R137). -/
def SYN_JUMP_LATE_CNT.COUNT (b : Nat) : Rf := ⟨R.SYN_JUMP_LATE_CNT b, 0, 32⟩
/-- Address of SYN_JUMP_DROP_CNT (R139). -/
def R.SYN_JUMP_DROP_CNT (b : Nat) : Nat := 0x100000 + 0x10000 * b + 0x201C
/-- SYN_JUMP_DROP_CNT.COUNT, bits [31:0] (R139). -/
def SYN_JUMP_DROP_CNT.COUNT (b : Nat) : Rf := ⟨R.SYN_JUMP_DROP_CNT b, 0, 32⟩
/-- Address of SYN_UNDER_TICK_LO (R136). -/
def R.SYN_UNDER_TICK_LO (b : Nat) : Nat := 0x100000 + 0x10000 * b + 0x2020
/-- SYN_UNDER_TICK_LO.TICK, bits [31:0] (R136). -/
def SYN_UNDER_TICK_LO.TICK (b : Nat) : Rf := ⟨R.SYN_UNDER_TICK_LO b, 0, 32⟩
/-- Address of SYN_UNDER_TICK_HI (R136). -/
def R.SYN_UNDER_TICK_HI (b : Nat) : Nat := 0x100000 + 0x10000 * b + 0x2024
/-- SYN_UNDER_TICK_HI.TICK, bits [15:0] (R136). -/
def SYN_UNDER_TICK_HI.TICK (b : Nat) : Rf := ⟨R.SYN_UNDER_TICK_HI b, 0, 16⟩
/-- Address of SYN_JMP (R137). -/
def R.SYN_JMP (b : Nat) : Nat := 0x100000 + 0x10000 * b + 0x2040
/-- SYN_JMP.SEG, bits [16:0] (R137). -/
def SYN_JMP.SEG (b : Nat) : Rf := ⟨R.SYN_JMP b, 0, 17⟩
/-- SYN_JMP.TONE, bits [19:17] (R137). -/
def SYN_JMP.TONE (b : Nat) : Rf := ⟨R.SYN_JMP b, 17, 3⟩
/-- SYN_JMP.PRB, bits [20:20] (R137). -/
def SYN_JMP.PRB (b : Nat) : Rf := ⟨R.SYN_JMP b, 20, 1⟩
/-- SYN_JMP.AT, bits [21:21] (R137). -/
def SYN_JMP.AT (b : Nat) : Rf := ⟨R.SYN_JMP b, 21, 1⟩
/-- SYN_JMP.GO, bits [31:31] (R137). -/
def SYN_JMP.GO (b : Nat) : Rf := ⟨R.SYN_JMP b, 31, 1⟩
/-- Address of SYN_JMP_AT_LO (R137). -/
def R.SYN_JMP_AT_LO (b : Nat) : Nat := 0x100000 + 0x10000 * b + 0x2044
/-- SYN_JMP_AT_LO.TICK, bits [31:0] (R137). -/
def SYN_JMP_AT_LO.TICK (b : Nat) : Rf := ⟨R.SYN_JMP_AT_LO b, 0, 32⟩
/-- Address of SYN_JMP_AT_HI (R137). -/
def R.SYN_JMP_AT_HI (b : Nat) : Nat := 0x100000 + 0x10000 * b + 0x2048
/-- SYN_JMP_AT_HI.TICK, bits [15:0] (R137). -/
def SYN_JMP_AT_HI.TICK (b : Nat) : Rf := ⟨R.SYN_JMP_AT_HI b, 0, 16⟩
/-- Address of SYN_TONE_FREQ_LO (R141). -/
def R.SYN_TONE_FREQ_LO (b i : Nat) : Nat := 0x100000 + 0x10000 * b + 0x2100 + 16 * i
/-- SYN_TONE_FREQ_LO.FREQ_LO, bits [31:0] (R141). -/
def SYN_TONE_FREQ_LO.FREQ_LO (b i : Nat) : Rf := ⟨R.SYN_TONE_FREQ_LO b i, 0, 32⟩
/-- Address of SYN_TONE_FREQ_HI (R141). -/
def R.SYN_TONE_FREQ_HI (b i : Nat) : Nat := 0x100000 + 0x10000 * b + 0x2104 + 16 * i
/-- SYN_TONE_FREQ_HI.FREQ_HI, bits [15:0] (R141). -/
def SYN_TONE_FREQ_HI.FREQ_HI (b i : Nat) : Rf := ⟨R.SYN_TONE_FREQ_HI b i, 0, 16⟩
/-- Address of SYN_TONE_PHASE (R141). -/
def R.SYN_TONE_PHASE (b i : Nat) : Nat := 0x100000 + 0x10000 * b + 0x2108 + 16 * i
/-- SYN_TONE_PHASE.PHASE, bits [31:0] (R141). -/
def SYN_TONE_PHASE.PHASE (b i : Nat) : Rf := ⟨R.SYN_TONE_PHASE b i, 0, 32⟩
/-- Address of SYN_TONE_SEG (R127). -/
def R.SYN_TONE_SEG (b i : Nat) : Nat := 0x100000 + 0x10000 * b + 0x210C + 16 * i
/-- SYN_TONE_SEG.SEG, bits [16:0] (R127). -/
def SYN_TONE_SEG.SEG (b i : Nat) : Rf := ⟨R.SYN_TONE_SEG b i, 0, 17⟩
/-- SYN_TONE_SEG.PLAYING, bits [31:31] (R127). -/
def SYN_TONE_SEG.PLAYING (b i : Nat) : Rf := ⟨R.SYN_TONE_SEG b i, 31, 1⟩
/-- Address of PRB_CFG (R147). -/
def R.PRB_CFG (n : Nat) : Nat := 0x900000 + 0x1000 * n
/-- PRB_CFG.EN, bits [0:0] (R147). -/
def PRB_CFG.EN (n : Nat) : Rf := ⟨R.PRB_CFG n, 0, 1⟩
/-- PRB_CFG.MIX, bits [1:1] (R147). -/
def PRB_CFG.MIX (n : Nat) : Rf := ⟨R.PRB_CFG n, 1, 1⟩
/-- PRB_CFG.SW_CLOSED, bits [4:4] (R147). -/
def PRB_CFG.SW_CLOSED (n : Nat) : Rf := ⟨R.PRB_CFG n, 4, 1⟩
/-- Address of PRB_STAT (R144). -/
def R.PRB_STAT (n : Nat) : Nat := 0x900000 + 0x1000 * n + 0x4
/-- PRB_STAT.SAT, bits [0:0] (R144). -/
def PRB_STAT.SAT (n : Nat) : Rf := ⟨R.PRB_STAT n, 0, 1⟩
/-- PRB_STAT.CFG_REJ, bits [1:1] (R144). -/
def PRB_STAT.CFG_REJ (n : Nat) : Rf := ⟨R.PRB_STAT n, 1, 1⟩
/-- Address of PRB_SAT_CNT (R144). -/
def R.PRB_SAT_CNT (n : Nat) : Nat := 0x900000 + 0x1000 * n + 0x8
/-- PRB_SAT_CNT.COUNT, bits [31:0] (R144). -/
def PRB_SAT_CNT.COUNT (n : Nat) : Rf := ⟨R.PRB_SAT_CNT n, 0, 32⟩
/-- Address of FLX_CFG (R162). -/
def R.FLX_CFG (b : Nat) : Nat := 0x100000 + 0x10000 * b + 0x3000
/-- FLX_CFG.EN, bits [0:0] (R162). -/
def FLX_CFG.EN (b : Nat) : Rf := ⟨R.FLX_CFG b, 0, 1⟩
/-- FLX_CFG.RANGE, bits [2:1] (R162). -/
def FLX_CFG.RANGE (b : Nat) : Rf := ⟨R.FLX_CFG b, 1, 2⟩
/-- FLX_CFG.PD_EN, bits [3:3] (R162). -/
def FLX_CFG.PD_EN (b : Nat) : Rf := ⟨R.FLX_CFG b, 3, 1⟩
/-- FLX_CFG.SC_ACT, bits [4:4] (R162). -/
def FLX_CFG.SC_ACT (b : Nat) : Rf := ⟨R.FLX_CFG b, 4, 1⟩
/-- FLX_CFG.CLAMPED, bits [8:8] (R162). -/
def FLX_CFG.CLAMPED (b : Nat) : Rf := ⟨R.FLX_CFG b, 8, 1⟩
/-- FLX_CFG.RC_BUSY, bits [9:9] (R162). -/
def FLX_CFG.RC_BUSY (b : Nat) : Rf := ⟨R.FLX_CFG b, 9, 1⟩
/-- Address of FLX_STAT (R161). -/
def R.FLX_STAT (b : Nat) : Nat := 0x100000 + 0x10000 * b + 0x3004
/-- FLX_STAT.SAT, bits [0:0] (R161). -/
def FLX_STAT.SAT (b : Nat) : Rf := ⟨R.FLX_STAT b, 0, 1⟩
/-- FLX_STAT.OVR, bits [1:1] (R161). -/
def FLX_STAT.OVR (b : Nat) : Rf := ⟨R.FLX_STAT b, 1, 1⟩
/-- FLX_STAT.SC, bits [2:2] (R161). -/
def FLX_STAT.SC (b : Nat) : Rf := ⟨R.FLX_STAT b, 2, 1⟩
/-- FLX_STAT.SC_LIVE, bits [3:3] (R161). -/
def FLX_STAT.SC_LIVE (b : Nat) : Rf := ⟨R.FLX_STAT b, 3, 1⟩
/-- FLX_STAT.CFG_REJ, bits [4:4] (R161). -/
def FLX_STAT.CFG_REJ (b : Nat) : Rf := ⟨R.FLX_STAT b, 4, 1⟩
/-- FLX_STAT.PULSE_CLAMPED, bits [5:5] (R161). -/
def FLX_STAT.PULSE_CLAMPED (b : Nat) : Rf := ⟨R.FLX_STAT b, 5, 1⟩
/-- FLX_STAT.WR_OVR, bits [6:6] (R161). -/
def FLX_STAT.WR_OVR (b : Nat) : Rf := ⟨R.FLX_STAT b, 6, 1⟩
/-- FLX_STAT.QUIET, bits [7:7] (R161). -/
def FLX_STAT.QUIET (b : Nat) : Rf := ⟨R.FLX_STAT b, 7, 1⟩
/-- Address of FLX_SLEW (R159). -/
def R.FLX_SLEW (b : Nat) : Nat := 0x100000 + 0x10000 * b + 0x3008
/-- FLX_SLEW.EN, bits [0:0] (R159). -/
def FLX_SLEW.EN (b : Nat) : Rf := ⟨R.FLX_SLEW b, 0, 1⟩
/-- FLX_SLEW.STEP, bits [31:16] (R159). -/
def FLX_SLEW.STEP (b : Nat) : Rf := ⟨R.FLX_SLEW b, 16, 16⟩
/-- Address of FLX_BIAS_CFG (R157). -/
def R.FLX_BIAS_CFG (b : Nat) : Nat := 0x100000 + 0x10000 * b + 0x300C
/-- FLX_BIAS_CFG.INTERVAL, bits [23:0] (R157). -/
def FLX_BIAS_CFG.INTERVAL (b : Nat) : Rf := ⟨R.FLX_BIAS_CFG b, 0, 24⟩
/-- Address of FLX_DGL (R160). -/
def R.FLX_DGL (b : Nat) : Nat := 0x100000 + 0x10000 * b + 0x3010
/-- FLX_DGL.HOLD, bits [7:0] (R160). -/
def FLX_DGL.HOLD (b : Nat) : Rf := ⟨R.FLX_DGL b, 0, 8⟩
/-- Address of FLX_BIAS_WR (R158). -/
def R.FLX_BIAS_WR (b : Nat) : Nat := 0x100000 + 0x10000 * b + 0x3014
/-- FLX_BIAS_WR.CODE, bits [17:0] (R158). -/
def FLX_BIAS_WR.CODE (b : Nat) : Rf := ⟨R.FLX_BIAS_WR b, 0, 18⟩
/-- Address of FLX_BIAS_CUR (R159). -/
def R.FLX_BIAS_CUR (b : Nat) : Nat := 0x100000 + 0x10000 * b + 0x3018
/-- FLX_BIAS_CUR.CODE, bits [17:0] (R159). -/
def FLX_BIAS_CUR.CODE (b : Nat) : Rf := ⟨R.FLX_BIAS_CUR b, 0, 18⟩
/-- FLX_BIAS_CUR.MOVING, bits [31:31] (R159). -/
def FLX_BIAS_CUR.MOVING (b : Nat) : Rf := ⟨R.FLX_BIAS_CUR b, 31, 1⟩
/-- Address of FLX_BIAS_TGT (R158). -/
def R.FLX_BIAS_TGT (b : Nat) : Nat := 0x100000 + 0x10000 * b + 0x301C
/-- FLX_BIAS_TGT.CODE, bits [17:0] (R158). -/
def FLX_BIAS_TGT.CODE (b : Nat) : Rf := ⟨R.FLX_BIAS_TGT b, 0, 18⟩
/-- Address of FLX_RC (R165). -/
def R.FLX_RC (b : Nat) : Nat := 0x100000 + 0x10000 * b + 0x3020
/-- FLX_RC.CODE, bits [17:0] (R165). -/
def FLX_RC.CODE (b : Nat) : Rf := ⟨R.FLX_RC b, 0, 18⟩
/-- FLX_RC.RANGE, bits [21:20] (R165). -/
def FLX_RC.RANGE (b : Nat) : Rf := ⟨R.FLX_RC b, 20, 2⟩
/-- FLX_RC.GO, bits [31:31] (R165). -/
def FLX_RC.GO (b : Nat) : Rf := ⟨R.FLX_RC b, 31, 1⟩
/-- Address of FLX_SAT_CNT (R151). -/
def R.FLX_SAT_CNT (b : Nat) : Nat := 0x100000 + 0x10000 * b + 0x3024
/-- FLX_SAT_CNT.COUNT, bits [31:0] (R151). -/
def FLX_SAT_CNT.COUNT (b : Nat) : Rf := ⟨R.FLX_SAT_CNT b, 0, 32⟩
/-- Address of FLX_OVR_CNT (R161). -/
def R.FLX_OVR_CNT (b : Nat) : Nat := 0x100000 + 0x10000 * b + 0x3028
/-- FLX_OVR_CNT.COUNT, bits [31:0] (R161). -/
def FLX_OVR_CNT.COUNT (b : Nat) : Rf := ⟨R.FLX_OVR_CNT b, 0, 32⟩
/-- Address of FLX_SC_CNT (R168). -/
def R.FLX_SC_CNT (b : Nat) : Nat := 0x100000 + 0x10000 * b + 0x302C
/-- FLX_SC_CNT.COUNT, bits [31:0] (R168). -/
def FLX_SC_CNT.COUNT (b : Nat) : Rf := ⟨R.FLX_SC_CNT b, 0, 32⟩
/-- Address of FLX_EXP_A (R150). -/
def R.FLX_EXP_A (b i : Nat) : Nat := 0x100000 + 0x10000 * b + 0x3100 + 8 * i
/-- FLX_EXP_A.AMP, bits [17:0] (R150). -/
def FLX_EXP_A.AMP (b i : Nat) : Rf := ⟨R.FLX_EXP_A b i, 0, 18⟩
/-- Address of FLX_EXP_B (R150). -/
def R.FLX_EXP_B (b i : Nat) : Nat := 0x100000 + 0x10000 * b + 0x3104 + 8 * i
/-- FLX_EXP_B.BETA, bits [23:0] (R150). -/
def FLX_EXP_B.BETA (b i : Nat) : Rf := ⟨R.FLX_EXP_B b i, 0, 24⟩
/-- FLX_EXP_B.EN, bits [31:31] (R150). -/
def FLX_EXP_B.EN (b i : Nat) : Rf := ⟨R.FLX_EXP_B b i, 31, 1⟩
/-- Address of FLX_FIR (R151). -/
def R.FLX_FIR (b i : Nat) : Nat := 0x100000 + 0x10000 * b + 0x3200 + 4 * i
/-- FLX_FIR.COEF, bits [17:0] (R151). -/
def FLX_FIR.COEF (b i : Nat) : Rf := ⟨R.FLX_FIR b i, 0, 18⟩
/-- Address of PARAM (R62). -/
def R.PARAM (b i : Nat) : Nat := 0x100000 + 0x10000 * b + 0x8000 + 4 * i
/-- PARAM.WORD, bits [31:0] (R62). -/
def PARAM.WORD (b i : Nat) : Rf := ⟨R.PARAM b i, 0, 32⟩
/-- Address of RDI_CFG (R176). -/
def R.RDI_CFG (n : Nat) : Nat := 0x500000 + 0x40000 * n
/-- RDI_CFG.EN, bits [0:0] (R176). -/
def RDI_CFG.EN (n : Nat) : Rf := ⟨R.RDI_CFG n, 0, 1⟩
/-- RDI_CFG.MODE, bits [1:1] (R176). -/
def RDI_CFG.MODE (n : Nat) : Rf := ⟨R.RDI_CFG n, 1, 1⟩
/-- RDI_CFG.INJ, bits [2:2] (R176). -/
def RDI_CFG.INJ (n : Nat) : Rf := ⟨R.RDI_CFG n, 2, 1⟩
/-- RDI_CFG.OVR_INV, bits [3:3] (R176). -/
def RDI_CFG.OVR_INV (n : Nat) : Rf := ⟨R.RDI_CFG n, 3, 1⟩
/-- Address of RDI_ATT (R176). -/
def R.RDI_ATT (n : Nat) : Nat := 0x500000 + 0x40000 * n + 0x4
/-- RDI_ATT.ATT, bits [5:0] (R176). -/
def RDI_ATT.ATT (n : Nat) : Rf := ⟨R.RDI_ATT n, 0, 6⟩
/-- Address of RDI_STAT (R176). -/
def R.RDI_STAT (n : Nat) : Nat := 0x500000 + 0x40000 * n + 0x8
/-- RDI_STAT.SETTLING, bits [0:0] (R176). -/
def RDI_STAT.SETTLING (n : Nat) : Rf := ⟨R.RDI_STAT n, 0, 1⟩
/-- RDI_STAT.OVR, bits [1:1] (R176). -/
def RDI_STAT.OVR (n : Nat) : Rf := ⟨R.RDI_STAT n, 1, 1⟩
/-- RDI_STAT.CFG_REJ, bits [2:2] (R176). -/
def RDI_STAT.CFG_REJ (n : Nat) : Rf := ⟨R.RDI_STAT n, 2, 1⟩
/-- Address of RDI_CHG_TICK_LO (R176). -/
def R.RDI_CHG_TICK_LO (n : Nat) : Nat := 0x500000 + 0x40000 * n + 0xC
/-- RDI_CHG_TICK_LO.TICK, bits [31:0] (R176). -/
def RDI_CHG_TICK_LO.TICK (n : Nat) : Rf := ⟨R.RDI_CHG_TICK_LO n, 0, 32⟩
/-- Address of RDI_CHG_TICK_HI (R176). -/
def R.RDI_CHG_TICK_HI (n : Nat) : Nat := 0x500000 + 0x40000 * n + 0x10
/-- RDI_CHG_TICK_HI.TICK, bits [15:0] (R176). -/
def RDI_CHG_TICK_HI.TICK (n : Nat) : Rf := ⟨R.RDI_CHG_TICK_HI n, 0, 16⟩
/-- Address of RDI_LOF_LO (R173). -/
def R.RDI_LOF_LO (n : Nat) : Nat := 0x500000 + 0x40000 * n + 0x14
/-- RDI_LOF_LO.LOF, bits [31:0] (R173). -/
def RDI_LOF_LO.LOF (n : Nat) : Rf := ⟨R.RDI_LOF_LO n, 0, 32⟩
/-- Address of RDI_LOF_HI (R173). -/
def R.RDI_LOF_HI (n : Nat) : Nat := 0x500000 + 0x40000 * n + 0x18
/-- RDI_LOF_HI.LOF, bits [15:0] (R173). -/
def RDI_LOF_HI.LOF (n : Nat) : Rf := ⟨R.RDI_LOF_HI n, 0, 16⟩
/-- Address of RDI_OVR_CNT (R175). -/
def R.RDI_OVR_CNT (n : Nat) : Nat := 0x500000 + 0x40000 * n + 0x1C
/-- RDI_OVR_CNT.COUNT, bits [31:0] (R175). -/
def RDI_OVR_CNT.COUNT (n : Nat) : Rf := ⟨R.RDI_OVR_CNT n, 0, 32⟩
/-- Address of RDI_INV_CNT (R178). -/
def R.RDI_INV_CNT (n : Nat) : Nat := 0x500000 + 0x40000 * n + 0x20
/-- RDI_INV_CNT.COUNT, bits [31:0] (R178). -/
def RDI_INV_CNT.COUNT (n : Nat) : Rf := ⟨R.RDI_INV_CNT n, 0, 32⟩
/-- Address of DEM_CFG (R184). -/
def R.DEM_CFG (n k : Nat) : Nat := 0x500000 + 0x40000 * n + 0x100 + 0x80 * k
/-- DEM_CFG.SHIFT, bits [3:0] (R184). -/
def DEM_CFG.SHIFT (n k : Nat) : Rf := ⟨R.DEM_CFG n k, 0, 4⟩
/-- DEM_CFG.SUB, bits [6:4] (R184). -/
def DEM_CFG.SUB (n k : Nat) : Rf := ⟨R.DEM_CFG n k, 4, 3⟩
/-- DEM_CFG.SEL, bits [7:7] (R184). -/
def DEM_CFG.SEL (n k : Nat) : Rf := ⟨R.DEM_CFG n k, 7, 1⟩
/-- Address of DEM_PHASE_CAL (R179). -/
def R.DEM_PHASE_CAL (n k : Nat) : Nat := 0x500000 + 0x40000 * n + 0x100 + 0x80 * k + 0x4
/-- DEM_PHASE_CAL.CAL, bits [31:0] (R179). -/
def DEM_PHASE_CAL.CAL (n k : Nat) : Rf := ⟨R.DEM_PHASE_CAL n k, 0, 32⟩
/-- Address of DEM_WSET (R181). -/
def R.DEM_WSET (n k i : Nat) : Nat := 0x500000 + 0x40000 * n + 0x100 + 0x80 * k + 0x8 + 4 * i
/-- DEM_WSET.BASE, bits [12:0] (R181). -/
def DEM_WSET.BASE (n k i : Nat) : Rf := ⟨R.DEM_WSET n k i, 0, 13⟩
/-- DEM_WSET.LENGTH, bits [28:16] (R181). -/
def DEM_WSET.LENGTH (n k i : Nat) : Rf := ⟨R.DEM_WSET n k i, 16, 13⟩
/-- Address of DISC_CFG (R187). -/
def R.DISC_CFG (n k : Nat) : Nat := 0x500000 + 0x40000 * n + 0x100 + 0x80 * k + 0x18
/-- DISC_CFG.NSTATE, bits [0:0] (R187). -/
def DISC_CFG.NSTATE (n k : Nat) : Rf := ⟨R.DISC_CFG n k, 0, 1⟩
/-- DISC_CFG.LEAK_EN, bits [1:1] (R187). -/
def DISC_CFG.LEAK_EN (n k : Nat) : Rf := ⟨R.DISC_CFG n k, 1, 1⟩
/-- DISC_CFG.LEAK_STATE, bits [2:2] (R187). -/
def DISC_CFG.LEAK_STATE (n k : Nat) : Rf := ⟨R.DISC_CFG n k, 2, 1⟩
/-- Address of DISC_A (R187). -/
def R.DISC_A (n k i : Nat) : Nat := 0x500000 + 0x40000 * n + 0x100 + 0x80 * k + 0x1C + 12 * i
/-- DISC_A.COEF, bits [17:0] (R187). -/
def DISC_A.COEF (n k i : Nat) : Rf := ⟨R.DISC_A n k i, 0, 18⟩
/-- Address of DISC_B (R187). -/
def R.DISC_B (n k i : Nat) : Nat := 0x500000 + 0x40000 * n + 0x100 + 0x80 * k + 0x20 + 12 * i
/-- DISC_B.COEF, bits [17:0] (R187). -/
def DISC_B.COEF (n k i : Nat) : Rf := ⟨R.DISC_B n k i, 0, 18⟩
/-- Address of DISC_T (R187). -/
def R.DISC_T (n k i : Nat) : Nat := 0x500000 + 0x40000 * n + 0x100 + 0x80 * k + 0x24 + 12 * i
/-- DISC_T.THR, bits [31:0] (R187). -/
def DISC_T.THR (n k i : Nat) : Rf := ⟨R.DISC_T n k i, 0, 32⟩
/-- Address of DEC_EVT (R192). -/
def R.DEC_EVT (n k : Nat) : Nat := 0x500000 + 0x40000 * n + 0x100 + 0x80 * k + 0x40
/-- DEC_EVT.CH, bits [7:0] (R192). -/
def DEC_EVT.CH (n k : Nat) : Rf := ⟨R.DEC_EVT n k, 0, 8⟩
/-- DEC_EVT.MASK, bits [11:8] (R192). -/
def DEC_EVT.MASK (n k : Nat) : Rf := ⟨R.DEC_EVT n k, 8, 4⟩
/-- DEC_EVT.VALID_ONLY, bits [12:12] (R192). -/
def DEC_EVT.VALID_ONLY (n k : Nat) : Rf := ⟨R.DEC_EVT n k, 12, 1⟩
/-- DEC_EVT.EN, bits [31:31] (R192). -/
def DEC_EVT.EN (n k : Nat) : Rf := ⟨R.DEC_EVT n k, 31, 1⟩
/-- Address of DEM_STAT (R182). -/
def R.DEM_STAT (n k : Nat) : Nat := 0x500000 + 0x40000 * n + 0x100 + 0x80 * k + 0x44
/-- DEM_STAT.OPEN, bits [0:0] (R182). -/
def DEM_STAT.OPEN (n k : Nat) : Rf := ⟨R.DEM_STAT n k, 0, 1⟩
/-- DEM_STAT.SAT, bits [1:1] (R182). -/
def DEM_STAT.SAT (n k : Nat) : Rf := ⟨R.DEM_STAT n k, 1, 1⟩
/-- Address of DEM_FREQ_LO (R179). -/
def R.DEM_FREQ_LO (n k : Nat) : Nat := 0x500000 + 0x40000 * n + 0x100 + 0x80 * k + 0x48
/-- DEM_FREQ_LO.FREQ_LO, bits [31:0] (R179). -/
def DEM_FREQ_LO.FREQ_LO (n k : Nat) : Rf := ⟨R.DEM_FREQ_LO n k, 0, 32⟩
/-- Address of DEM_FREQ_HI (R179). -/
def R.DEM_FREQ_HI (n k : Nat) : Nat := 0x500000 + 0x40000 * n + 0x100 + 0x80 * k + 0x4C
/-- DEM_FREQ_HI.FREQ_HI, bits [15:0] (R179). -/
def DEM_FREQ_HI.FREQ_HI (n k : Nat) : Rf := ⟨R.DEM_FREQ_HI n k, 0, 16⟩
/-- Address of DEM_PHASE (R179). -/
def R.DEM_PHASE (n k : Nat) : Nat := 0x500000 + 0x40000 * n + 0x100 + 0x80 * k + 0x50
/-- DEM_PHASE.PHASE, bits [31:0] (R179). -/
def DEM_PHASE.PHASE (n k : Nat) : Rf := ⟨R.DEM_PHASE n k, 0, 32⟩
/-- Address of DEM_LAST_DEC (R190). -/
def R.DEM_LAST_DEC (n k : Nat) : Nat := 0x500000 + 0x40000 * n + 0x100 + 0x80 * k + 0x54
/-- DEM_LAST_DEC.STATE, bits [1:0] (R190). -/
def DEM_LAST_DEC.STATE (n k : Nat) : Rf := ⟨R.DEM_LAST_DEC n k, 0, 2⟩
/-- DEM_LAST_DEC.VALID, bits [2:2] (R190). -/
def DEM_LAST_DEC.VALID (n k : Nat) : Rf := ⟨R.DEM_LAST_DEC n k, 2, 1⟩
/-- DEM_LAST_DEC.KERN, bits [3:3] (R190). -/
def DEM_LAST_DEC.KERN (n k : Nat) : Rf := ⟨R.DEM_LAST_DEC n k, 3, 1⟩
/-- DEM_LAST_DEC.STATUS, bits [15:8] (R190). -/
def DEM_LAST_DEC.STATUS (n k : Nat) : Rf := ⟨R.DEM_LAST_DEC n k, 8, 8⟩
/-- Address of DEM_LAST_I (R190). -/
def R.DEM_LAST_I (n k : Nat) : Nat := 0x500000 + 0x40000 * n + 0x100 + 0x80 * k + 0x58
/-- DEM_LAST_I.VALUE, bits [17:0] (R190). -/
def DEM_LAST_I.VALUE (n k : Nat) : Rf := ⟨R.DEM_LAST_I n k, 0, 18⟩
/-- Address of DEM_LAST_Q (R190). -/
def R.DEM_LAST_Q (n k : Nat) : Nat := 0x500000 + 0x40000 * n + 0x100 + 0x80 * k + 0x5C
/-- DEM_LAST_Q.VALUE, bits [17:0] (R190). -/
def DEM_LAST_Q.VALUE (n k : Nat) : Rf := ⟨R.DEM_LAST_Q n k, 0, 18⟩
/-- Address of DEM_LAST_END_LO (R190). -/
def R.DEM_LAST_END_LO (n k : Nat) : Nat := 0x500000 + 0x40000 * n + 0x100 + 0x80 * k + 0x60
/-- DEM_LAST_END_LO.END, bits [31:0] (R190). -/
def DEM_LAST_END_LO.END (n k : Nat) : Rf := ⟨R.DEM_LAST_END_LO n k, 0, 32⟩
/-- Address of DEM_LAST_END_HI (R190). -/
def R.DEM_LAST_END_HI (n k : Nat) : Nat := 0x500000 + 0x40000 * n + 0x100 + 0x80 * k + 0x64
/-- DEM_LAST_END_HI.END, bits [15:0] (R190). -/
def DEM_LAST_END_HI.END (n k : Nat) : Rf := ⟨R.DEM_LAST_END_HI n k, 0, 16⟩
/-- Address of DEM_WIN_CNT (R185). -/
def R.DEM_WIN_CNT (n k : Nat) : Nat := 0x500000 + 0x40000 * n + 0x100 + 0x80 * k + 0x68
/-- DEM_WIN_CNT.COUNT, bits [31:0] (R185). -/
def DEM_WIN_CNT.COUNT (n k : Nat) : Rf := ⟨R.DEM_WIN_CNT n k, 0, 32⟩
/-- Address of DEM_INVAL_CNT (R186). -/
def R.DEM_INVAL_CNT (n k : Nat) : Nat := 0x500000 + 0x40000 * n + 0x100 + 0x80 * k + 0x6C
/-- DEM_INVAL_CNT.COUNT, bits [31:0] (R186). -/
def DEM_INVAL_CNT.COUNT (n k : Nat) : Rf := ⟨R.DEM_INVAL_CNT n k, 0, 32⟩
/-- Address of WEIGHT (R181). -/
def R.WEIGHT (n i : Nat) : Nat := 0x500000 + 0x40000 * n + 0x8000 + 4 * i
/-- WEIGHT.W_I, bits [15:0] (R181). -/
def WEIGHT.W_I (n i : Nat) : Rf := ⟨R.WEIGHT n i, 0, 16⟩
/-- WEIGHT.W_Q, bits [31:16] (R181). -/
def WEIGHT.W_Q (n i : Nat) : Rf := ⟨R.WEIGHT n i, 16, 16⟩
/-- Address of KRN_DMEM (R202). -/
def R.KRN_DMEM (n i : Nat) : Nat := 0x500000 + 0x40000 * n + 0x10000 + 4 * i
/-- KRN_DMEM.WORD, bits [17:0] (R202). -/
def KRN_DMEM.WORD (n i : Nat) : Rf := ⟨R.KRN_DMEM n i, 0, 18⟩
/-- Address of KRN_PMEM (R212). -/
def R.KRN_PMEM (n i : Nat) : Nat := 0x500000 + 0x40000 * n + 0x30000 + 4 * i
/-- KRN_PMEM.WORD, bits [31:0] (R212). -/
def KRN_PMEM.WORD (n i : Nat) : Rf := ⟨R.KRN_PMEM n i, 0, 32⟩
/-- Address of KRN_CTRL (R201). -/
def R.KRN_CTRL (n : Nat) : Nat := 0x500000 + 0x40000 * n + 0x34000
/-- KRN_CTRL.RUN, bits [0:0] (R201). -/
def KRN_CTRL.RUN (n : Nat) : Rf := ⟨R.KRN_CTRL n, 0, 1⟩
/-- KRN_CTRL.SWAP, bits [1:1] (R201). -/
def KRN_CTRL.SWAP (n : Nat) : Rf := ⟨R.KRN_CTRL n, 1, 1⟩
/-- KRN_CTRL.HREQ, bits [2:2] (R201). -/
def KRN_CTRL.HREQ (n : Nat) : Rf := ⟨R.KRN_CTRL n, 2, 1⟩
/-- Address of KRN_CFG (R196). -/
def R.KRN_CFG (n : Nat) : Nat := 0x500000 + 0x40000 * n + 0x34004
/-- KRN_CFG.LAT, bits [9:0] (R196). -/
def KRN_CFG.LAT (n : Nat) : Rf := ⟨R.KRN_CFG n, 0, 10⟩
/-- KRN_CFG.SWAP_VEC, bits [10:10] (R196). -/
def KRN_CFG.SWAP_VEC (n : Nat) : Rf := ⟨R.KRN_CFG n, 10, 1⟩
/-- KRN_CFG.HREQ_EN, bits [11:11] (R196). -/
def KRN_CFG.HREQ_EN (n : Nat) : Rf := ⟨R.KRN_CFG n, 11, 1⟩
/-- KRN_CFG.TMO, bits [31:16] (R196). -/
def KRN_CFG.TMO (n : Nat) : Rf := ⟨R.KRN_CFG n, 16, 16⟩
/-- Address of KRN_STAT (R222). -/
def R.KRN_STAT (n : Nat) : Nat := 0x500000 + 0x40000 * n + 0x34008
/-- KRN_STAT.STATE, bits [1:0] (R222). -/
def KRN_STAT.STATE (n : Nat) : Rf := ⟨R.KRN_STAT n, 0, 2⟩
/-- KRN_STAT.BANK, bits [2:2] (R222). -/
def KRN_STAT.BANK (n : Nat) : Rf := ⟨R.KRN_STAT n, 2, 1⟩
/-- KRN_STAT.V, bits [3:3] (R222). -/
def KRN_STAT.V (n : Nat) : Rf := ⟨R.KRN_STAT n, 3, 1⟩
/-- KRN_STAT.HREJ, bits [4:4] (R222). -/
def KRN_STAT.HREJ (n : Nat) : Rf := ⟨R.KRN_STAT n, 4, 1⟩
/-- KRN_STAT.DEC_DUP, bits [5:5] (R222). -/
def KRN_STAT.DEC_DUP (n : Nat) : Rf := ⟨R.KRN_STAT n, 5, 1⟩
/-- KRN_STAT.DEC_NOJOB, bits [6:6] (R222). -/
def KRN_STAT.DEC_NOJOB (n : Nat) : Rf := ⟨R.KRN_STAT n, 6, 1⟩
/-- KRN_STAT.CAUSE, bits [9:8] (R222). -/
def KRN_STAT.CAUSE (n : Nat) : Rf := ⟨R.KRN_STAT n, 8, 2⟩
/-- KRN_STAT.PC, bits [27:16] (R222). -/
def KRN_STAT.PC (n : Nat) : Rf := ⟨R.KRN_STAT n, 16, 12⟩
/-- Address of KRN_Q_STAT (R194). -/
def R.KRN_Q_STAT (n : Nat) : Nat := 0x500000 + 0x40000 * n + 0x3400C
/-- KRN_Q_STAT.JOBS, bits [5:0] (R194). -/
def KRN_Q_STAT.JOBS (n : Nat) : Rf := ⟨R.KRN_Q_STAT n, 0, 6⟩
/-- KRN_Q_STAT.PPS, bits [25:16] (R194). -/
def KRN_Q_STAT.PPS (n : Nat) : Rf := ⟨R.KRN_Q_STAT n, 16, 10⟩
/-- Address of KRN_HIN (R211). -/
def R.KRN_HIN (n i : Nat) : Nat := 0x500000 + 0x40000 * n + 0x34020 + 4 * i
/-- KRN_HIN.VALUE, bits [17:0] (R211). -/
def KRN_HIN.VALUE (n i : Nat) : Rf := ⟨R.KRN_HIN n i, 0, 18⟩
/-- Address of KRN_HOUT (R211). -/
def R.KRN_HOUT (n i : Nat) : Nat := 0x500000 + 0x40000 * n + 0x34030 + 4 * i
/-- KRN_HOUT.VALUE, bits [17:0] (R211). -/
def KRN_HOUT.VALUE (n i : Nat) : Rf := ⟨R.KRN_HOUT n i, 0, 18⟩
/-- Address of KRN_DROP_CNT (R194). -/
def R.KRN_DROP_CNT (n : Nat) : Nat := 0x500000 + 0x40000 * n + 0x34040
/-- KRN_DROP_CNT.COUNT, bits [31:0] (R194). -/
def KRN_DROP_CNT.COUNT (n : Nat) : Rf := ⟨R.KRN_DROP_CNT n, 0, 32⟩
/-- Address of KRN_NODEC_CNT (R198). -/
def R.KRN_NODEC_CNT (n : Nat) : Nat := 0x500000 + 0x40000 * n + 0x34044
/-- KRN_NODEC_CNT.COUNT, bits [31:0] (R198). -/
def KRN_NODEC_CNT.COUNT (n : Nat) : Rf := ⟨R.KRN_NODEC_CNT n, 0, 32⟩
/-- Address of KRN_DEC_CNT (R197). -/
def R.KRN_DEC_CNT (n : Nat) : Nat := 0x500000 + 0x40000 * n + 0x34048
/-- KRN_DEC_CNT.COUNT, bits [31:0] (R197). -/
def KRN_DEC_CNT.COUNT (n : Nat) : Rf := ⟨R.KRN_DEC_CNT n, 0, 32⟩
/-- Address of KRN_HOLD_MAX (R220). -/
def R.KRN_HOLD_MAX (n : Nat) : Nat := 0x500000 + 0x40000 * n + 0x3404C
/-- KRN_HOLD_MAX.TICKS, bits [15:0] (R220). -/
def KRN_HOLD_MAX.TICKS (n : Nat) : Rf := ⟨R.KRN_HOLD_MAX n, 0, 16⟩
/-- Address of KRN_READY_MAX (R221). -/
def R.KRN_READY_MAX (n : Nat) : Nat := 0x500000 + 0x40000 * n + 0x34050
/-- KRN_READY_MAX.TICKS, bits [15:0] (R221). -/
def KRN_READY_MAX.TICKS (n : Nat) : Rf := ⟨R.KRN_READY_MAX n, 0, 16⟩
/-- Address of ADM_CFG (R238). -/
def R.ADM_CFG : Nat := 0x1200
/-- ADM_CFG.LIMIT, bits [23:0] (R238). -/
def ADM_CFG.LIMIT : Rf := ⟨R.ADM_CFG, 0, 24⟩
/-- Address of ADM_STAT (R238). -/
def R.ADM_STAT : Nat := 0x1204
/-- ADM_STAT.TOTAL, bits [23:0] (R238). -/
def ADM_STAT.TOTAL : Rf := ⟨R.ADM_STAT, 0, 24⟩
/-- Address of ADM_REJ (R239). -/
def R.ADM_REJ : Nat := 0x1208
/-- ADM_REJ.EXCESS, bits [23:0] (R239). -/
def ADM_REJ.EXCESS : Rf := ⟨R.ADM_REJ, 0, 24⟩
/-- ADM_REJ.CAUSE, bits [26:24] (R239). -/
def ADM_REJ.CAUSE : Rf := ⟨R.ADM_REJ, 24, 3⟩
/-- ADM_REJ.UNIT, bits [31:27] (R239). -/
def ADM_REJ.UNIT : Rf := ⟨R.ADM_REJ, 27, 5⟩
/-- Address of ACQ_CTRL (R223). -/
def R.ACQ_CTRL (n : Nat) : Nat := 0x500000 + 0x40000 * n + 0x38000
/-- ACQ_CTRL.COMMIT, bits [0:0] (R223). -/
def ACQ_CTRL.COMMIT (n : Nat) : Rf := ⟨R.ACQ_CTRL n, 0, 1⟩
/-- ACQ_CTRL.ARM, bits [1:1] (R223). -/
def ACQ_CTRL.ARM (n : Nat) : Rf := ⟨R.ACQ_CTRL n, 1, 1⟩
/-- ACQ_CTRL.STOP, bits [2:2] (R223). -/
def ACQ_CTRL.STOP (n : Nat) : Rf := ⟨R.ACQ_CTRL n, 2, 1⟩
/-- Address of ACQ_STAT (R223). -/
def R.ACQ_STAT (n : Nat) : Nat := 0x500000 + 0x40000 * n + 0x38004
/-- ACQ_STAT.STATE, bits [2:0] (R223). -/
def ACQ_STAT.STATE (n : Nat) : Rf := ⟨R.ACQ_STAT n, 0, 3⟩
/-- ACQ_STAT.CFG_REJ, bits [3:3] (R223). -/
def ACQ_STAT.CFG_REJ (n : Nat) : Rf := ⟨R.ACQ_STAT n, 3, 1⟩
/-- ACQ_STAT.LOST, bits [4:4] (R223). -/
def ACQ_STAT.LOST (n : Nat) : Rf := ⟨R.ACQ_STAT n, 4, 1⟩
/-- ACQ_STAT.FIRE_LATE, bits [5:5] (R223). -/
def ACQ_STAT.FIRE_LATE (n : Nat) : Rf := ⟨R.ACQ_STAT n, 5, 1⟩
/-- ACQ_STAT.ARM_LATE, bits [6:6] (R223). -/
def ACQ_STAT.ARM_LATE (n : Nat) : Rf := ⟨R.ACQ_STAT n, 6, 1⟩
/-- ACQ_STAT.PERIOD, bits [7:7] (R223). -/
def ACQ_STAT.PERIOD (n : Nat) : Rf := ⟨R.ACQ_STAT n, 7, 1⟩
/-- ACQ_STAT.AVG_ERR, bits [8:8] (R223). -/
def ACQ_STAT.AVG_ERR (n : Nat) : Rf := ⟨R.ACQ_STAT n, 8, 1⟩
/-- ACQ_STAT.TSTATE, bits [11:9] (R223). -/
def ACQ_STAT.TSTATE (n : Nat) : Rf := ⟨R.ACQ_STAT n, 9, 3⟩
/-- Address of ACQ_CFG (R238). -/
def R.ACQ_CFG (n : Nat) : Nat := 0x500000 + 0x40000 * n + 0x38008
/-- ACQ_CFG.PT, bits [0:0] (R238). -/
def ACQ_CFG.PT (n : Nat) : Rf := ⟨R.ACQ_CFG n, 0, 1⟩
/-- ACQ_CFG.ST, bits [1:1] (R238). -/
def ACQ_CFG.ST (n : Nat) : Rf := ⟨R.ACQ_CFG n, 1, 1⟩
/-- ACQ_CFG.AV, bits [2:2] (R238). -/
def ACQ_CFG.AV (n : Nat) : Rf := ⟨R.ACQ_CFG n, 2, 1⟩
/-- ACQ_CFG.DT, bits [3:3] (R238). -/
def ACQ_CFG.DT (n : Nat) : Rf := ⟨R.ACQ_CFG n, 3, 1⟩
/-- ACQ_CFG.RAW, bits [4:4] (R238). -/
def ACQ_CFG.RAW (n : Nat) : Rf := ⟨R.ACQ_CFG n, 4, 1⟩
/-- ACQ_CFG.DECL, bits [8:5] (R238). -/
def ACQ_CFG.DECL (n : Nat) : Rf := ⟨R.ACQ_CFG n, 5, 4⟩
/-- ACQ_CFG.PERIOD, bits [31:12] (R238). -/
def ACQ_CFG.PERIOD (n : Nat) : Rf := ⟨R.ACQ_CFG n, 12, 20⟩
/-- Address of ACQ_TONES (R224). -/
def R.ACQ_TONES (n : Nat) : Nat := 0x500000 + 0x40000 * n + 0x3800C
/-- ACQ_TONES.MASK, bits [15:0] (R224). -/
def ACQ_TONES.MASK (n : Nat) : Rf := ⟨R.ACQ_TONES n, 0, 16⟩
/-- Address of ACQ_CAP (R224). -/
def R.ACQ_CAP (n : Nat) : Nat := 0x500000 + 0x40000 * n + 0x38010
/-- ACQ_CAP.SHOTS, bits [24:0] (R224). -/
def ACQ_CAP.SHOTS (n : Nat) : Rf := ⟨R.ACQ_CAP n, 0, 25⟩
/-- ACQ_CAP.SLOTS, bits [31:25] (R224). -/
def ACQ_CAP.SLOTS (n : Nat) : Rf := ⟨R.ACQ_CAP n, 25, 7⟩
/-- Address of ACQ_RAW (R235). -/
def R.ACQ_RAW (n : Nat) : Nat := 0x500000 + 0x40000 * n + 0x38014
/-- ACQ_RAW.TONE, bits [3:0] (R235). -/
def ACQ_RAW.TONE (n : Nat) : Rf := ⟨R.ACQ_RAW n, 0, 4⟩
/-- ACQ_RAW.RLEN, bits [18:4] (R235). -/
def ACQ_RAW.RLEN (n : Nat) : Rf := ⟨R.ACQ_RAW n, 4, 15⟩
/-- ACQ_RAW.OFF, bits [31:19] (R235). -/
def ACQ_RAW.OFF (n : Nat) : Rf := ⟨R.ACQ_RAW n, 19, 13⟩
/-- Address of ACQ_BUF_BASE (R240). -/
def R.ACQ_BUF_BASE (n : Nat) : Nat := 0x500000 + 0x40000 * n + 0x38018
/-- ACQ_BUF_BASE.VALUE, bits [25:0] (R240). -/
def ACQ_BUF_BASE.VALUE (n : Nat) : Rf := ⟨R.ACQ_BUF_BASE n, 0, 26⟩
/-- Address of ACQ_BUF_SIZE (R240). -/
def R.ACQ_BUF_SIZE (n : Nat) : Nat := 0x500000 + 0x40000 * n + 0x3801C
/-- ACQ_BUF_SIZE.VALUE, bits [23:0] (R240). -/
def ACQ_BUF_SIZE.VALUE (n : Nat) : Rf := ⟨R.ACQ_BUF_SIZE n, 0, 24⟩
/-- Address of ACQ_AVG_BASE (R240). -/
def R.ACQ_AVG_BASE (n : Nat) : Nat := 0x500000 + 0x40000 * n + 0x38020
/-- ACQ_AVG_BASE.VALUE, bits [25:0] (R240). -/
def ACQ_AVG_BASE.VALUE (n : Nat) : Rf := ⟨R.ACQ_AVG_BASE n, 0, 26⟩
/-- Address of ACQ_RES (R240). -/
def R.ACQ_RES (n : Nat) : Nat := 0x500000 + 0x40000 * n + 0x38024
/-- ACQ_RES.RING, bits [5:0] (R240). -/
def ACQ_RES.RING (n : Nat) : Rf := ⟨R.ACQ_RES n, 0, 6⟩
/-- Address of ACQ_TRG_CFG (R229). -/
def R.ACQ_TRG_CFG (n : Nat) : Nat := 0x500000 + 0x40000 * n + 0x38028
/-- ACQ_TRG_CFG.FIRE_DELAY, bits [15:0] (R229). -/
def ACQ_TRG_CFG.FIRE_DELAY (n : Nat) : Rf := ⟨R.ACQ_TRG_CFG n, 0, 16⟩
/-- ACQ_TRG_CFG.FIRE_CH, bits [23:16] (R229). -/
def ACQ_TRG_CFG.FIRE_CH (n : Nat) : Rf := ⟨R.ACQ_TRG_CFG n, 16, 8⟩
/-- ACQ_TRG_CFG.FIRE_EVT, bits [24:24] (R229). -/
def ACQ_TRG_CFG.FIRE_EVT (n : Nat) : Rf := ⟨R.ACQ_TRG_CFG n, 24, 1⟩
/-- Address of ACQ_GRP (R232). -/
def R.ACQ_GRP (n : Nat) : Nat := 0x500000 + 0x40000 * n + 0x3802C
/-- ACQ_GRP.EN, bits [0:0] (R232). -/
def ACQ_GRP.EN (n : Nat) : Rf := ⟨R.ACQ_GRP n, 0, 1⟩
/-- ACQ_GRP.MASTER, bits [1:1] (R232). -/
def ACQ_GRP.MASTER (n : Nat) : Rf := ⟨R.ACQ_GRP n, 1, 1⟩
/-- ACQ_GRP.ARM_AT, bits [2:2] (R232). -/
def ACQ_GRP.ARM_AT (n : Nat) : Rf := ⟨R.ACQ_GRP n, 2, 1⟩
/-- ACQ_GRP.ID, bits [15:8] (R232). -/
def ACQ_GRP.ID (n : Nat) : Rf := ⟨R.ACQ_GRP n, 8, 8⟩
/-- Address of ACQ_ARM_TICK_LO (R232). -/
def R.ACQ_ARM_TICK_LO (n : Nat) : Nat := 0x500000 + 0x40000 * n + 0x38030
/-- ACQ_ARM_TICK_LO.TICK, bits [31:0] (R232). -/
def ACQ_ARM_TICK_LO.TICK (n : Nat) : Rf := ⟨R.ACQ_ARM_TICK_LO n, 0, 32⟩
/-- Address of ACQ_ARM_TICK_HI (R232). -/
def R.ACQ_ARM_TICK_HI (n : Nat) : Nat := 0x500000 + 0x40000 * n + 0x38034
/-- ACQ_ARM_TICK_HI.TICK, bits [15:0] (R232). -/
def ACQ_ARM_TICK_HI.TICK (n : Nat) : Rf := ⟨R.ACQ_ARM_TICK_HI n, 0, 16⟩
/-- Address of ACQ_FIRE_TICK_LO (R229). -/
def R.ACQ_FIRE_TICK_LO (n : Nat) : Nat := 0x500000 + 0x40000 * n + 0x38038
/-- ACQ_FIRE_TICK_LO.TICK, bits [31:0] (R229). -/
def ACQ_FIRE_TICK_LO.TICK (n : Nat) : Rf := ⟨R.ACQ_FIRE_TICK_LO n, 0, 32⟩
/-- Address of ACQ_FIRE_TICK_HI (R229). -/
def R.ACQ_FIRE_TICK_HI (n : Nat) : Nat := 0x500000 + 0x40000 * n + 0x3803C
/-- ACQ_FIRE_TICK_HI.TICK, bits [15:0] (R229). -/
def ACQ_FIRE_TICK_HI.TICK (n : Nat) : Rf := ⟨R.ACQ_FIRE_TICK_HI n, 0, 16⟩
/-- Address of ACQ_LEVEL (R227). -/
def R.ACQ_LEVEL (n : Nat) : Nat := 0x500000 + 0x40000 * n + 0x38040
/-- ACQ_LEVEL.LEVEL, bits [17:0] (R227). -/
def ACQ_LEVEL.LEVEL (n : Nat) : Rf := ⟨R.ACQ_LEVEL n, 0, 18⟩
/-- ACQ_LEVEL.HYST, bits [31:18] (R227). -/
def ACQ_LEVEL.HYST (n : Nat) : Rf := ⟨R.ACQ_LEVEL n, 18, 14⟩
/-- Address of ACQ_LOST_CNT (R240). -/
def R.ACQ_LOST_CNT (n : Nat) : Nat := 0x500000 + 0x40000 * n + 0x38044
/-- ACQ_LOST_CNT.COUNT, bits [31:0] (R240). -/
def ACQ_LOST_CNT.COUNT (n : Nat) : Rf := ⟨R.ACQ_LOST_CNT n, 0, 32⟩
/-- Address of ACQ_PERIOD_CNT (R236). -/
def R.ACQ_PERIOD_CNT (n : Nat) : Nat := 0x500000 + 0x40000 * n + 0x38048
/-- ACQ_PERIOD_CNT.COUNT, bits [31:0] (R236). -/
def ACQ_PERIOD_CNT.COUNT (n : Nat) : Rf := ⟨R.ACQ_PERIOD_CNT n, 0, 32⟩
/-- Address of ACQ_REC_CNT (R237). -/
def R.ACQ_REC_CNT (n : Nat) : Nat := 0x500000 + 0x40000 * n + 0x3804C
/-- ACQ_REC_CNT.COUNT, bits [31:0] (R237). -/
def ACQ_REC_CNT.COUNT (n : Nat) : Rf := ⟨R.ACQ_REC_CNT n, 0, 32⟩
/-- Address of ACQ_ADM (R238). -/
def R.ACQ_ADM (n : Nat) : Nat := 0x500000 + 0x40000 * n + 0x38050
/-- ACQ_ADM.MBPS, bits [23:0] (R238). -/
def ACQ_ADM.MBPS (n : Nat) : Rf := ⟨R.ACQ_ADM n, 0, 24⟩
/-- Address of TRG_COND (R227). -/
def R.TRG_COND (n i : Nat) : Nat := 0x500000 + 0x40000 * n + 0x38100 + 16 * i
/-- TRG_COND.SRC, bits [2:0] (R227). -/
def TRG_COND.SRC (n i : Nat) : Rf := ⟨R.TRG_COND n i, 0, 3⟩
/-- TRG_COND.VALID_ONLY, bits [3:3] (R227). -/
def TRG_COND.VALID_ONLY (n i : Nat) : Rf := ⟨R.TRG_COND n i, 3, 1⟩
/-- TRG_COND.MASK, bits [7:4] (R227). -/
def TRG_COND.MASK (n i : Nat) : Rf := ⟨R.TRG_COND n i, 4, 4⟩
/-- TRG_COND.EDGE, bits [8:8] (R227). -/
def TRG_COND.EDGE (n i : Nat) : Rf := ⟨R.TRG_COND n i, 8, 1⟩
/-- TRG_COND.NEXT, bits [11:9] (R227). -/
def TRG_COND.NEXT (n i : Nat) : Rf := ⟨R.TRG_COND n i, 9, 3⟩
/-- TRG_COND.LAST, bits [12:12] (R227). -/
def TRG_COND.LAST (n i : Nat) : Rf := ⟨R.TRG_COND n i, 12, 1⟩
/-- TRG_COND.SEL, bits [31:16] (R227). -/
def TRG_COND.SEL (n i : Nat) : Rf := ⟨R.TRG_COND n i, 16, 16⟩
/-- Address of TRG_COUNT (R228). -/
def R.TRG_COUNT (n i : Nat) : Nat := 0x500000 + 0x40000 * n + 0x38104 + 16 * i
/-- TRG_COUNT.COUNT, bits [31:0] (R228). -/
def TRG_COUNT.COUNT (n i : Nat) : Rf := ⟨R.TRG_COUNT n i, 0, 32⟩
/-- Address of TRG_TIMER (R228). -/
def R.TRG_TIMER (n i : Nat) : Nat := 0x500000 + 0x40000 * n + 0x38108 + 16 * i
/-- TRG_TIMER.TIME, bits [23:0] (R228). -/
def TRG_TIMER.TIME (n i : Nat) : Rf := ⟨R.TRG_TIMER n i, 0, 24⟩
/-- TRG_TIMER.MODE, bits [25:24] (R228). -/
def TRG_TIMER.MODE (n i : Nat) : Rf := ⟨R.TRG_TIMER n i, 24, 2⟩
/-- Address of CAL_CFG (R244). -/
def R.CAL_CFG : Nat := 0xF00000 + 0x2000
/-- CAL_CFG.EN, bits [0:0] (R244). -/
def CAL_CFG.EN : Rf := ⟨R.CAL_CFG, 0, 1⟩
/-- CAL_CFG.DELTA, bits [10:4] (R244). -/
def CAL_CFG.DELTA : Rf := ⟨R.CAL_CFG, 4, 7⟩
/-- CAL_CFG.MAXAGE, bits [31:16] (R244). -/
def CAL_CFG.MAXAGE : Rf := ⟨R.CAL_CFG, 16, 16⟩
/-- Address of CAL_DEADLINE (R248). -/
def R.CAL_DEADLINE : Nat := 0xF00000 + 0x2004
/-- CAL_DEADLINE.MS, bits [15:0] (R248). -/
def CAL_DEADLINE.MS : Rf := ⟨R.CAL_DEADLINE, 0, 16⟩
/-- Address of CAL_CTRL (R256). -/
def R.CAL_CTRL : Nat := 0xF00000 + 0x2008
/-- CAL_CTRL.SELF, bits [0:0] (R256). -/
def CAL_CTRL.SELF : Rf := ⟨R.CAL_CTRL, 0, 1⟩
/-- CAL_CTRL.PAUSE, bits [1:1] (R256). -/
def CAL_CTRL.PAUSE : Rf := ⟨R.CAL_CTRL, 1, 1⟩
/-- Address of CAL_STAT (R257). -/
def R.CAL_STAT : Nat := 0xF00000 + 0x200C
/-- CAL_STAT.SELF_BUSY, bits [0:0] (R257). -/
def CAL_STAT.SELF_BUSY : Rf := ⟨R.CAL_STAT, 0, 1⟩
/-- CAL_STAT.STARVED, bits [1:1] (R257). -/
def CAL_STAT.STARVED : Rf := ⟨R.CAL_STAT, 1, 1⟩
/-- CAL_STAT.SELF_SKIP, bits [16:8] (R257). -/
def CAL_STAT.SELF_SKIP : Rf := ⟨R.CAL_STAT, 8, 9⟩
/-- Address of CAL_ROT_CNT (R248). -/
def R.CAL_ROT_CNT : Nat := 0xF00000 + 0x2010
/-- CAL_ROT_CNT.COUNT, bits [31:0] (R248). -/
def CAL_ROT_CNT.COUNT : Rf := ⟨R.CAL_ROT_CNT, 0, 32⟩
/-- Address of CAL_LATE_CNT (R248). -/
def R.CAL_LATE_CNT : Nat := 0xF00000 + 0x2014
/-- CAL_LATE_CNT.COUNT, bits [31:0] (R248). -/
def CAL_LATE_CNT.COUNT : Rf := ⟨R.CAL_LATE_CNT, 0, 32⟩
/-- Address of CAL_FUSE_CTRL (R258). -/
def R.CAL_FUSE_CTRL : Nat := 0xF00000 + 0x2020
/-- CAL_FUSE_CTRL.KEY, bits [7:0] (R258). -/
def CAL_FUSE_CTRL.KEY : Rf := ⟨R.CAL_FUSE_CTRL, 0, 8⟩
/-- CAL_FUSE_CTRL.COMMIT, bits [31:31] (R258). -/
def CAL_FUSE_CTRL.COMMIT : Rf := ⟨R.CAL_FUSE_CTRL, 31, 1⟩
/-- Address of CAL_FUSE_STAT (R258). -/
def R.CAL_FUSE_STAT : Nat := 0xF00000 + 0x2024
/-- CAL_FUSE_STAT.ACTIVE_GEN, bits [3:0] (R258). -/
def CAL_FUSE_STAT.ACTIVE_GEN : Rf := ⟨R.CAL_FUSE_STAT, 0, 4⟩
/-- CAL_FUSE_STAT.USED, bits [19:4] (R258). -/
def CAL_FUSE_STAT.USED : Rf := ⟨R.CAL_FUSE_STAT, 4, 16⟩
/-- CAL_FUSE_STAT.BUSY, bits [20:20] (R258). -/
def CAL_FUSE_STAT.BUSY : Rf := ⟨R.CAL_FUSE_STAT, 20, 1⟩
/-- CAL_FUSE_STAT.RESULT, bits [23:21] (R258). -/
def CAL_FUSE_STAT.RESULT : Rf := ⟨R.CAL_FUSE_STAT, 21, 3⟩
/-- Address of CAL_TRIM_SEL (R243). -/
def R.CAL_TRIM_SEL : Nat := 0xF00000 + 0x2030
/-- CAL_TRIM_SEL.CONV, bits [8:0] (R243). -/
def CAL_TRIM_SEL.CONV : Rf := ⟨R.CAL_TRIM_SEL, 0, 9⟩
/-- CAL_TRIM_SEL.WORD, bits [12:9] (R243). -/
def CAL_TRIM_SEL.WORD : Rf := ⟨R.CAL_TRIM_SEL, 9, 4⟩
/-- Address of CAL_TRIM_BASE (R243). -/
def R.CAL_TRIM_BASE : Nat := 0xF00000 + 0x2034
/-- CAL_TRIM_BASE.VALUE, bits [31:0] (R243). -/
def CAL_TRIM_BASE.VALUE : Rf := ⟨R.CAL_TRIM_BASE, 0, 32⟩
/-- Address of CAL_TRIM_DELTA (R243). -/
def R.CAL_TRIM_DELTA : Nat := 0xF00000 + 0x2038
/-- CAL_TRIM_DELTA.VALUE, bits [31:0] (R243). -/
def CAL_TRIM_DELTA.VALUE : Rf := ⟨R.CAL_TRIM_DELTA, 0, 32⟩
/-- Address of CAL_CONV (R246). -/
def R.CAL_CONV (i : Nat) : Nat := 0xF00000 + 0x2400 + 4 * i
/-- CAL_CONV.STATE, bits [2:0] (R246). -/
def CAL_CONV.STATE (i : Nat) : Rf := ⟨R.CAL_CONV i, 0, 3⟩
/-- CAL_CONV.LAST_T, bits [19:8] (R246). -/
def CAL_CONV.LAST_T (i : Nat) : Rf := ⟨R.CAL_CONV i, 8, 12⟩
/-- CAL_CONV.PARTNER, bits [28:20] (R246). -/
def CAL_CONV.PARTNER (i : Nat) : Rf := ⟨R.CAL_CONV i, 20, 9⟩
/-- Address of RDI_SCAL_CTRL (R254). -/
def R.RDI_SCAL_CTRL (n : Nat) : Nat := 0x500000 + 0x40000 * n + 0x3C000
/-- RDI_SCAL_CTRL.STEP, bits [1:0] (R254). -/
def RDI_SCAL_CTRL.STEP (n : Nat) : Rf := ⟨R.RDI_SCAL_CTRL n, 0, 2⟩
/-- RDI_SCAL_CTRL.SRC, bits [2:2] (R254). -/
def RDI_SCAL_CTRL.SRC (n : Nat) : Rf := ⟨R.RDI_SCAL_CTRL n, 2, 1⟩
/-- RDI_SCAL_CTRL.APPLY, bits [30:30] (R254). -/
def RDI_SCAL_CTRL.APPLY (n : Nat) : Rf := ⟨R.RDI_SCAL_CTRL n, 30, 1⟩
/-- RDI_SCAL_CTRL.GO, bits [31:31] (R254). -/
def RDI_SCAL_CTRL.GO (n : Nat) : Rf := ⟨R.RDI_SCAL_CTRL n, 31, 1⟩
/-- Address of RDI_SCAL_STAT (R255). -/
def R.RDI_SCAL_STAT (n : Nat) : Nat := 0x500000 + 0x40000 * n + 0x3C004
/-- RDI_SCAL_STAT.RESULT, bits [2:0] (R255). -/
def RDI_SCAL_STAT.RESULT (n : Nat) : Rf := ⟨R.RDI_SCAL_STAT n, 0, 3⟩
/-- RDI_SCAL_STAT.BUSY, bits [3:3] (R255). -/
def RDI_SCAL_STAT.BUSY (n : Nat) : Rf := ⟨R.RDI_SCAL_STAT n, 3, 1⟩
/-- Address of RDI_SCAL_FREQ_LO (R254). -/
def R.RDI_SCAL_FREQ_LO (n : Nat) : Nat := 0x500000 + 0x40000 * n + 0x3C008
/-- RDI_SCAL_FREQ_LO.FREQ, bits [31:0] (R254). -/
def RDI_SCAL_FREQ_LO.FREQ (n : Nat) : Rf := ⟨R.RDI_SCAL_FREQ_LO n, 0, 32⟩
/-- Address of RDI_SCAL_FREQ_HI (R254). -/
def R.RDI_SCAL_FREQ_HI (n : Nat) : Nat := 0x500000 + 0x40000 * n + 0x3C00C
/-- RDI_SCAL_FREQ_HI.FREQ, bits [15:0] (R254). -/
def RDI_SCAL_FREQ_HI.FREQ (n : Nat) : Rf := ⟨R.RDI_SCAL_FREQ_HI n, 0, 16⟩
/-- Address of RDI_SCAL_GAIN (R254). -/
def R.RDI_SCAL_GAIN (n i : Nat) : Nat := 0x500000 + 0x40000 * n + 0x3C010 + 4 * i
/-- RDI_SCAL_GAIN.GAIN, bits [17:0] (R254). -/
def RDI_SCAL_GAIN.GAIN (n i : Nat) : Rf := ⟨R.RDI_SCAL_GAIN n i, 0, 18⟩
/-- Address of RDI_SCAL_OFF (R254). -/
def R.RDI_SCAL_OFF (n i : Nat) : Nat := 0x500000 + 0x40000 * n + 0x3C018 + 4 * i
/-- RDI_SCAL_OFF.OFF, bits [17:0] (R254). -/
def RDI_SCAL_OFF.OFF (n i : Nat) : Rf := ⟨R.RDI_SCAL_OFF n i, 0, 18⟩
/-- Address of RDI_SCAL_SKEW (R254). -/
def R.RDI_SCAL_SKEW (n : Nat) : Nat := 0x500000 + 0x40000 * n + 0x3C020
/-- RDI_SCAL_SKEW.SKEW, bits [15:0] (R254). -/
def RDI_SCAL_SKEW.SKEW (n : Nat) : Rf := ⟨R.RDI_SCAL_SKEW n, 0, 16⟩
/-- Address of RDI_SCAL_NEW_GAIN (R254). -/
def R.RDI_SCAL_NEW_GAIN (n i : Nat) : Nat := 0x500000 + 0x40000 * n + 0x3C030 + 4 * i
/-- RDI_SCAL_NEW_GAIN.GAIN, bits [17:0] (R254). -/
def RDI_SCAL_NEW_GAIN.GAIN (n i : Nat) : Rf := ⟨R.RDI_SCAL_NEW_GAIN n i, 0, 18⟩
/-- Address of RDI_SCAL_NEW_OFF (R254). -/
def R.RDI_SCAL_NEW_OFF (n i : Nat) : Nat := 0x500000 + 0x40000 * n + 0x3C038 + 4 * i
/-- RDI_SCAL_NEW_OFF.OFF, bits [17:0] (R254). -/
def RDI_SCAL_NEW_OFF.OFF (n i : Nat) : Rf := ⟨R.RDI_SCAL_NEW_OFF n i, 0, 18⟩
/-- Address of RDI_SCAL_NEW_SKEW (R254). -/
def R.RDI_SCAL_NEW_SKEW (n : Nat) : Nat := 0x500000 + 0x40000 * n + 0x3C040
/-- RDI_SCAL_NEW_SKEW.SKEW, bits [15:0] (R254). -/
def RDI_SCAL_NEW_SKEW.SKEW (n : Nat) : Rf := ⟨R.RDI_SCAL_NEW_SKEW n, 0, 16⟩
/-- Address of RING_BASE_LO (R263). -/
def R.RING_BASE_LO (i : Nat) : Nat := 0xC00000 + 0x40 * i
/-- RING_BASE_LO.BASE, bits [31:12] (R263). -/
def RING_BASE_LO.BASE (i : Nat) : Rf := ⟨R.RING_BASE_LO i, 12, 20⟩
/-- Address of RING_BASE_HI (R263). -/
def R.RING_BASE_HI (i : Nat) : Nat := 0xC00000 + 0x40 * i + 0x4
/-- RING_BASE_HI.BASE, bits [31:0] (R263). -/
def RING_BASE_HI.BASE (i : Nat) : Rf := ⟨R.RING_BASE_HI i, 0, 32⟩
/-- Address of RING_CFG (R263). -/
def R.RING_CFG (i : Nat) : Nat := 0xC00000 + 0x40 * i + 0x8
/-- RING_CFG.KIND, bits [1:0] (R263). -/
def RING_CFG.KIND (i : Nat) : Rf := ⟨R.RING_CFG i, 0, 2⟩
/-- RING_CFG.EN, bits [2:2] (R263). -/
def RING_CFG.EN (i : Nat) : Rf := ⟨R.RING_CFG i, 2, 1⟩
/-- RING_CFG.LOG2SIZE, bits [8:4] (R263). -/
def RING_CFG.LOG2SIZE (i : Nat) : Rf := ⟨R.RING_CFG i, 4, 5⟩
/-- RING_CFG.CRING, bits [14:9] (R263). -/
def RING_CFG.CRING (i : Nat) : Rf := ⟨R.RING_CFG i, 9, 6⟩
/-- RING_CFG.IRQ_EN, bits [15:15] (R263). -/
def RING_CFG.IRQ_EN (i : Nat) : Rf := ⟨R.RING_CFG i, 15, 1⟩
/-- RING_CFG.VECTOR, bits [23:16] (R263). -/
def RING_CFG.VECTOR (i : Nat) : Rf := ⟨R.RING_CFG i, 16, 8⟩
/-- Address of RING_STAT (R267). -/
def R.RING_STAT (i : Nat) : Nat := 0xC00000 + 0x40 * i + 0xC
/-- RING_STAT.STATE, bits [1:0] (R267). -/
def RING_STAT.STATE (i : Nat) : Rf := ⟨R.RING_STAT i, 0, 2⟩
/-- RING_STAT.CFG_REJ, bits [2:2] (R267). -/
def RING_STAT.CFG_REJ (i : Nat) : Rf := ⟨R.RING_STAT i, 2, 1⟩
/-- RING_STAT.TD_REJ, bits [3:3] (R267). -/
def RING_STAT.TD_REJ (i : Nat) : Rf := ⟨R.RING_STAT i, 3, 1⟩
/-- RING_STAT.ERR, bits [7:4] (R267). -/
def RING_STAT.ERR (i : Nat) : Rf := ⟨R.RING_STAT i, 4, 4⟩
/-- Address of RING_PIDX (R264). -/
def R.RING_PIDX (i : Nat) : Nat := 0xC00000 + 0x40 * i + 0x10
/-- RING_PIDX.INDEX, bits [16:0] (R264). -/
def RING_PIDX.INDEX (i : Nat) : Rf := ⟨R.RING_PIDX i, 0, 17⟩
/-- Address of RING_CIDX (R264). -/
def R.RING_CIDX (i : Nat) : Nat := 0xC00000 + 0x40 * i + 0x14
/-- RING_CIDX.INDEX, bits [16:0] (R264). -/
def RING_CIDX.INDEX (i : Nat) : Rf := ⟨R.RING_CIDX i, 0, 17⟩
/-- Address of RING_INFL (R271). -/
def R.RING_INFL (i : Nat) : Nat := 0xC00000 + 0x40 * i + 0x18
/-- RING_INFL.INDEX, bits [16:0] (R271). -/
def RING_INFL.INDEX (i : Nat) : Rf := ⟨R.RING_INFL i, 0, 17⟩
/-- Address of RING_ERR_IDX (R267). -/
def R.RING_ERR_IDX (i : Nat) : Nat := 0xC00000 + 0x40 * i + 0x1C
/-- RING_ERR_IDX.INDEX, bits [16:0] (R267). -/
def RING_ERR_IDX.INDEX (i : Nat) : Rf := ⟨R.RING_ERR_IDX i, 0, 17⟩
/-- Address of RING_SHADOW_LO (R268). -/
def R.RING_SHADOW_LO (i : Nat) : Nat := 0xC00000 + 0x40 * i + 0x20
/-- RING_SHADOW_LO.ADDR, bits [31:0] (R268). -/
def RING_SHADOW_LO.ADDR (i : Nat) : Rf := ⟨R.RING_SHADOW_LO i, 0, 32⟩
/-- Address of RING_SHADOW_HI (R268). -/
def R.RING_SHADOW_HI (i : Nat) : Nat := 0xC00000 + 0x40 * i + 0x24
/-- RING_SHADOW_HI.ADDR, bits [31:0] (R268). -/
def RING_SHADOW_HI.ADDR (i : Nat) : Rf := ⟨R.RING_SHADOW_HI i, 0, 32⟩
/-- Address of RING_DATA_LO (R286). -/
def R.RING_DATA_LO (i : Nat) : Nat := 0xC00000 + 0x40 * i + 0x28
/-- RING_DATA_LO.ADDR, bits [31:0] (R286). -/
def RING_DATA_LO.ADDR (i : Nat) : Rf := ⟨R.RING_DATA_LO i, 0, 32⟩
/-- Address of RING_DATA_HI (R286). -/
def R.RING_DATA_HI (i : Nat) : Nat := 0xC00000 + 0x40 * i + 0x2C
/-- RING_DATA_HI.ADDR, bits [31:0] (R286). -/
def RING_DATA_HI.ADDR (i : Nat) : Rf := ⟨R.RING_DATA_HI i, 0, 32⟩
/-- Address of RING_DATA_SIZE (R286). -/
def R.RING_DATA_SIZE (i : Nat) : Nat := 0xC00000 + 0x40 * i + 0x30
/-- RING_DATA_SIZE.SIZE, bits [23:0] (R286). -/
def RING_DATA_SIZE.SIZE (i : Nat) : Rf := ⟨R.RING_DATA_SIZE i, 0, 24⟩
/-- Address of RING_IRQ (R287). -/
def R.RING_IRQ (i : Nat) : Nat := 0xC00000 + 0x40 * i + 0x34
/-- RING_IRQ.HOLDOFF, bits [15:0] (R287). -/
def RING_IRQ.HOLDOFF (i : Nat) : Rf := ⟨R.RING_IRQ i, 0, 16⟩
/-- Address of RING_CTRL (R288). -/
def R.RING_CTRL (i : Nat) : Nat := 0xC00000 + 0x40 * i + 0x38
/-- RING_CTRL.TEARDOWN, bits [0:0] (R288). -/
def RING_CTRL.TEARDOWN (i : Nat) : Rf := ⟨R.RING_CTRL i, 0, 1⟩
/-- RING_CTRL.RESUME, bits [1:1] (R288). -/
def RING_CTRL.RESUME (i : Nat) : Rf := ⟨R.RING_CTRL i, 1, 1⟩
/-- Address of RING_DOORBELL (R265). -/
def R.RING_DOORBELL (i : Nat) : Nat := 0xC00000 + 0x40 * i + 0x3C
/-- RING_DOORBELL.INDEX, bits [16:0] (R265). -/
def RING_DOORBELL.INDEX (i : Nat) : Rf := ⟨R.RING_DOORBELL i, 0, 17⟩
/-- Address of HIF_STAT (R302). -/
def R.HIF_STAT : Nat := 0xC00000 + 0xF000
/-- HIF_STAT.LINK_UP, bits [0:0] (R302). -/
def HIF_STAT.LINK_UP : Rf := ⟨R.HIF_STAT, 0, 1⟩
/-- HIF_STAT.HOST_ERR, bits [1:1] (R302). -/
def HIF_STAT.HOST_ERR : Rf := ⟨R.HIF_STAT, 1, 1⟩
/-- HIF_STAT.WR_DROP, bits [2:2] (R302). -/
def HIF_STAT.WR_DROP : Rf := ⟨R.HIF_STAT, 2, 1⟩
/-- Address of HIF_WR_DROP_CNT (R262). -/
def R.HIF_WR_DROP_CNT : Nat := 0xC00000 + 0xF004
/-- HIF_WR_DROP_CNT.COUNT, bits [31:0] (R262). -/
def HIF_WR_DROP_CNT.COUNT : Rf := ⟨R.HIF_WR_DROP_CNT, 0, 32⟩
/-- Address of HIF_NOTICE_LOST (R287). -/
def R.HIF_NOTICE_LOST : Nat := 0xC00000 + 0xF008
/-- HIF_NOTICE_LOST.COUNT, bits [31:0] (R287). -/
def HIF_NOTICE_LOST.COUNT : Rf := ⟨R.HIF_NOTICE_LOST, 0, 32⟩
/-- Address of LANE_CTRL (R296). -/
def R.LANE_CTRL (l : Nat) : Nat := 0xA00000 + 0x800 * l
/-- LANE_CTRL.TX_EN, bits [0:0] (R296). -/
def LANE_CTRL.TX_EN (l : Nat) : Rf := ⟨R.LANE_CTRL l, 0, 1⟩
/-- LANE_CTRL.RX_EN, bits [1:1] (R296). -/
def LANE_CTRL.RX_EN (l : Nat) : Rf := ⟨R.LANE_CTRL l, 1, 1⟩
/-- LANE_CTRL.RESTART, bits [2:2] (R296). -/
def LANE_CTRL.RESTART (l : Nat) : Rf := ⟨R.LANE_CTRL l, 2, 1⟩
/-- LANE_CTRL.EIDLE, bits [3:3] (R296). -/
def LANE_CTRL.EIDLE (l : Nat) : Rf := ⟨R.LANE_CTRL l, 3, 1⟩
/-- LANE_CTRL.LOOP, bits [6:4] (R296). -/
def LANE_CTRL.LOOP (l : Nat) : Rf := ⟨R.LANE_CTRL l, 4, 3⟩
/-- LANE_CTRL.PRBS_GEN, bits [9:8] (R296). -/
def LANE_CTRL.PRBS_GEN (l : Nat) : Rf := ⟨R.LANE_CTRL l, 8, 2⟩
/-- LANE_CTRL.PRBS_CHK, bits [11:10] (R296). -/
def LANE_CTRL.PRBS_CHK (l : Nat) : Rf := ⟨R.LANE_CTRL l, 10, 2⟩
/-- Address of LANE_STAT (R296). -/
def R.LANE_STAT (l : Nat) : Nat := 0xA00000 + 0x800 * l + 0x4
/-- LANE_STAT.STATE, bits [3:0] (R296). -/
def LANE_STAT.STATE (l : Nat) : Rf := ⟨R.LANE_STAT l, 0, 4⟩
/-- LANE_STAT.BLOCK_LOCK, bits [4:4] (R296). -/
def LANE_STAT.BLOCK_LOCK (l : Nat) : Rf := ⟨R.LANE_STAT l, 4, 1⟩
/-- LANE_STAT.INV, bits [5:5] (R296). -/
def LANE_STAT.INV (l : Nat) : Rf := ⟨R.LANE_STAT l, 5, 1⟩
/-- LANE_STAT.SEEN, bits [6:6] (R296). -/
def LANE_STAT.SEEN (l : Nat) : Rf := ⟨R.LANE_STAT l, 6, 1⟩
/-- LANE_STAT.CFG_REJ, bits [7:7] (R296). -/
def LANE_STAT.CFG_REJ (l : Nat) : Rf := ⟨R.LANE_STAT l, 7, 1⟩
/-- LANE_STAT.LOST, bits [8:8] (R296). -/
def LANE_STAT.LOST (l : Nat) : Rf := ⟨R.LANE_STAT l, 8, 1⟩
/-- LANE_STAT.ABSENT, bits [9:9] (R296). -/
def LANE_STAT.ABSENT (l : Nat) : Rf := ⟨R.LANE_STAT l, 9, 1⟩
/-- Address of LANE_PARTNER (R294). -/
def R.LANE_PARTNER (l : Nat) : Nat := 0xA00000 + 0x800 * l + 0x8
/-- LANE_PARTNER.DEV, bits [11:0] (R294). -/
def LANE_PARTNER.DEV (l : Nat) : Rf := ⟨R.LANE_PARTNER l, 0, 12⟩
/-- LANE_PARTNER.PORT, bits [18:16] (R294). -/
def LANE_PARTNER.PORT (l : Nat) : Rf := ⟨R.LANE_PARTNER l, 16, 3⟩
/-- LANE_PARTNER.LANE, bits [21:20] (R294). -/
def LANE_PARTNER.LANE (l : Nat) : Rf := ⟨R.LANE_PARTNER l, 20, 2⟩
/-- LANE_PARTNER.VALID, bits [31:31] (R294). -/
def LANE_PARTNER.VALID (l : Nat) : Rf := ⟨R.LANE_PARTNER l, 31, 1⟩
/-- Address of LANE_TXEQ (R305). -/
def R.LANE_TXEQ (l : Nat) : Nat := 0xA00000 + 0x800 * l + 0xC
/-- LANE_TXEQ.PRE, bits [3:0] (R305). -/
def LANE_TXEQ.PRE (l : Nat) : Rf := ⟨R.LANE_TXEQ l, 0, 4⟩
/-- LANE_TXEQ.MAIN, bits [9:4] (R305). -/
def LANE_TXEQ.MAIN (l : Nat) : Rf := ⟨R.LANE_TXEQ l, 4, 6⟩
/-- LANE_TXEQ.POST, bits [15:10] (R305). -/
def LANE_TXEQ.POST (l : Nat) : Rf := ⟨R.LANE_TXEQ l, 10, 6⟩
/-- Address of LANE_RXEQ (R305). -/
def R.LANE_RXEQ (l : Nat) : Nat := 0xA00000 + 0x800 * l + 0x10
/-- LANE_RXEQ.CTLE, bits [3:0] (R305). -/
def LANE_RXEQ.CTLE (l : Nat) : Rf := ⟨R.LANE_RXEQ l, 0, 4⟩
/-- LANE_RXEQ.ADAPT, bits [4:4] (R305). -/
def LANE_RXEQ.ADAPT (l : Nat) : Rf := ⟨R.LANE_RXEQ l, 4, 1⟩
/-- LANE_RXEQ.FREEZE, bits [5:5] (R305). -/
def LANE_RXEQ.FREEZE (l : Nat) : Rf := ⟨R.LANE_RXEQ l, 5, 1⟩
/-- Address of LANE_HDR_ERR_CNT (R297). -/
def R.LANE_HDR_ERR_CNT (l : Nat) : Nat := 0xA00000 + 0x800 * l + 0x20
/-- LANE_HDR_ERR_CNT.COUNT, bits [31:0] (R297). -/
def LANE_HDR_ERR_CNT.COUNT (l : Nat) : Rf := ⟨R.LANE_HDR_ERR_CNT l, 0, 32⟩
/-- Address of LANE_BLK_ERR_CNT (R293). -/
def R.LANE_BLK_ERR_CNT (l : Nat) : Nat := 0xA00000 + 0x800 * l + 0x24
/-- LANE_BLK_ERR_CNT.COUNT, bits [31:0] (R293). -/
def LANE_BLK_ERR_CNT.COUNT (l : Nat) : Rf := ⟨R.LANE_BLK_ERR_CNT l, 0, 32⟩
/-- Address of LANE_LOCK_LOSS_CNT (R299). -/
def R.LANE_LOCK_LOSS_CNT (l : Nat) : Nat := 0xA00000 + 0x800 * l + 0x28
/-- LANE_LOCK_LOSS_CNT.COUNT, bits [31:0] (R299). -/
def LANE_LOCK_LOSS_CNT.COUNT (l : Nat) : Rf := ⟨R.LANE_LOCK_LOSS_CNT l, 0, 32⟩
/-- Address of LANE_PRBS_ERR_CNT (R307). -/
def R.LANE_PRBS_ERR_CNT (l : Nat) : Nat := 0xA00000 + 0x800 * l + 0x2C
/-- LANE_PRBS_ERR_CNT.COUNT, bits [31:0] (R307). -/
def LANE_PRBS_ERR_CNT.COUNT (l : Nat) : Rf := ⟨R.LANE_PRBS_ERR_CNT l, 0, 32⟩
/-- Address of LANE_PRBS_BITS (R307). -/
def R.LANE_PRBS_BITS (l : Nat) : Nat := 0xA00000 + 0x800 * l + 0x30
/-- LANE_PRBS_BITS.COUNT, bits [31:0] (R307). -/
def LANE_PRBS_BITS.COUNT (l : Nat) : Rf := ⟨R.LANE_PRBS_BITS l, 0, 32⟩
/-- Address of LANE_EYE_CTRL (R308). -/
def R.LANE_EYE_CTRL (l : Nat) : Nat := 0xA00000 + 0x800 * l + 0x40
/-- LANE_EYE_CTRL.PHASE, bits [5:0] (R308). -/
def LANE_EYE_CTRL.PHASE (l : Nat) : Rf := ⟨R.LANE_EYE_CTRL l, 0, 6⟩
/-- LANE_EYE_CTRL.VOFF, bits [14:8] (R308). -/
def LANE_EYE_CTRL.VOFF (l : Nat) : Rf := ⟨R.LANE_EYE_CTRL l, 8, 7⟩
/-- LANE_EYE_CTRL.DWELL, bits [19:16] (R308). -/
def LANE_EYE_CTRL.DWELL (l : Nat) : Rf := ⟨R.LANE_EYE_CTRL l, 16, 4⟩
/-- LANE_EYE_CTRL.GO, bits [31:31] (R308). -/
def LANE_EYE_CTRL.GO (l : Nat) : Rf := ⟨R.LANE_EYE_CTRL l, 31, 1⟩
/-- Address of LANE_EYE_STAT (R308). -/
def R.LANE_EYE_STAT (l : Nat) : Nat := 0xA00000 + 0x800 * l + 0x44
/-- LANE_EYE_STAT.DONE, bits [0:0] (R308). -/
def LANE_EYE_STAT.DONE (l : Nat) : Rf := ⟨R.LANE_EYE_STAT l, 0, 1⟩
/-- LANE_EYE_STAT.ABORT, bits [1:1] (R308). -/
def LANE_EYE_STAT.ABORT (l : Nat) : Rf := ⟨R.LANE_EYE_STAT l, 1, 1⟩
/-- Address of LANE_EYE_ERR (R308). -/
def R.LANE_EYE_ERR (l : Nat) : Nat := 0xA00000 + 0x800 * l + 0x48
/-- LANE_EYE_ERR.COUNT, bits [31:0] (R308). -/
def LANE_EYE_ERR.COUNT (l : Nat) : Rf := ⟨R.LANE_EYE_ERR l, 0, 32⟩
/-- Address of PORT_STAT (R300). -/
def R.PORT_STAT (p : Nat) : Nat := 0xA00000 + 0x2000 * p + 0x400
/-- PORT_STAT.UP, bits [0:0] (R300). -/
def PORT_STAT.UP (p : Nat) : Rf := ⟨R.PORT_STAT p, 0, 1⟩
/-- PORT_STAT.EIDLE, bits [1:1] (R300). -/
def PORT_STAT.EIDLE (p : Nat) : Rf := ⟨R.PORT_STAT p, 1, 1⟩
/-- PORT_STAT.SKEW, bits [2:2] (R300). -/
def PORT_STAT.SKEW (p : Nat) : Rf := ⟨R.PORT_STAT p, 2, 1⟩
/-- PORT_STAT.MISWIRE, bits [3:3] (R300). -/
def PORT_STAT.MISWIRE (p : Nat) : Rf := ⟨R.PORT_STAT p, 3, 1⟩
/-- Address of PORT_SKEW (R300). -/
def R.PORT_SKEW (p : Nat) : Nat := 0xA00000 + 0x2000 * p + 0x404
/-- PORT_SKEW.DLY0, bits [7:0] (R300). -/
def PORT_SKEW.DLY0 (p : Nat) : Rf := ⟨R.PORT_SKEW p, 0, 8⟩
/-- PORT_SKEW.DLY1, bits [15:8] (R300). -/
def PORT_SKEW.DLY1 (p : Nat) : Rf := ⟨R.PORT_SKEW p, 8, 8⟩
/-- PORT_SKEW.DLY2, bits [23:16] (R300). -/
def PORT_SKEW.DLY2 (p : Nat) : Rf := ⟨R.PORT_SKEW p, 16, 8⟩
/-- PORT_SKEW.DLY3, bits [31:24] (R300). -/
def PORT_SKEW.DLY3 (p : Nat) : Rf := ⟨R.PORT_SKEW p, 24, 8⟩
/-- Address of PORT_DOWN_CNT (R300). -/
def R.PORT_DOWN_CNT (p : Nat) : Nat := 0xA00000 + 0x2000 * p + 0x408
/-- PORT_DOWN_CNT.COUNT, bits [31:0] (R300). -/
def PORT_DOWN_CNT.COUNT (p : Nat) : Rf := ⟨R.PORT_DOWN_CNT p, 0, 32⟩
/-- Address of MESH_CFG (R309). -/
def R.MESH_CFG : Nat := 0xB00000
/-- MESH_CFG.ADDR, bits [11:0] (R309). -/
def MESH_CFG.ADDR : Rf := ⟨R.MESH_CFG, 0, 12⟩
/-- MESH_CFG.NXM1, bits [15:12] (R309). -/
def MESH_CFG.NXM1 : Rf := ⟨R.MESH_CFG, 12, 4⟩
/-- MESH_CFG.NYM1, bits [19:16] (R309). -/
def MESH_CFG.NYM1 : Rf := ⟨R.MESH_CFG, 16, 4⟩
/-- MESH_CFG.NZM1, bits [23:20] (R309). -/
def MESH_CFG.NZM1 : Rf := ⟨R.MESH_CFG, 20, 4⟩
/-- MESH_CFG.EN, bits [31:31] (R309). -/
def MESH_CFG.EN : Rf := ⟨R.MESH_CFG, 31, 1⟩
/-- Address of MESH_STAT (R310). -/
def R.MESH_STAT : Nat := 0xB00000 + 0x4
/-- MESH_STAT.USE, bits [5:0] (R310). -/
def MESH_STAT.USE : Rf := ⟨R.MESH_STAT, 0, 6⟩
/-- MESH_STAT.TOPO, bits [13:8] (R310). -/
def MESH_STAT.TOPO : Rf := ⟨R.MESH_STAT, 8, 6⟩
/-- MESH_STAT.HOLD, bits [21:16] (R310). -/
def MESH_STAT.HOLD : Rf := ⟨R.MESH_STAT, 16, 6⟩
/-- Address of MESH_HOLD (R323). -/
def R.MESH_HOLD : Nat := 0xB00000 + 0x8
/-- MESH_HOLD.US, bits [15:0] (R323). -/
def MESH_HOLD.US : Rf := ⟨R.MESH_HOLD, 0, 16⟩
/-- Address of MESH_UNREACH_CNT (R311). -/
def R.MESH_UNREACH_CNT : Nat := 0xB00000 + 0xC
/-- MESH_UNREACH_CNT.COUNT, bits [31:0] (R311). -/
def MESH_UNREACH_CNT.COUNT : Rf := ⟨R.MESH_UNREACH_CNT, 0, 32⟩
/-- Address of MESH_BAD_CNT (R313). -/
def R.MESH_BAD_CNT : Nat := 0xB00000 + 0x10
/-- MESH_BAD_CNT.COUNT, bits [31:0] (R313). -/
def MESH_BAD_CNT.COUNT : Rf := ⟨R.MESH_BAD_CNT, 0, 32⟩
/-- Address of MESH_MBX_LOST_CNT (R320). -/
def R.MESH_MBX_LOST_CNT : Nat := 0xB00000 + 0x14
/-- MESH_MBX_LOST_CNT.COUNT, bits [31:0] (R320). -/
def MESH_MBX_LOST_CNT.COUNT : Rf := ⟨R.MESH_MBX_LOST_CNT, 0, 32⟩
/-- Address of MESH_STALE_CNT (R315). -/
def R.MESH_STALE_CNT : Nat := 0xB00000 + 0x18
/-- MESH_STALE_CNT.COUNT, bits [31:0] (R315). -/
def MESH_STALE_CNT.COUNT : Rf := ⟨R.MESH_STALE_CNT, 0, 32⟩
/-- Address of MESH_RA (R312). -/
def R.MESH_RA (i : Nat) : Nat := 0xB00000 + 0x20 + 4 * i
/-- MESH_RA.DROP, bits [0:0] (R312). -/
def MESH_RA.DROP (i : Nat) : Rf := ⟨R.MESH_RA i, 0, 1⟩
/-- Address of MESH_PQ (R317). -/
def R.MESH_PQ (i : Nat) : Nat := 0xB00000 + 0x100 + 32 * i
/-- MESH_PQ.OCC, bits [6:0] (R317). -/
def MESH_PQ.OCC (i : Nat) : Rf := ⟨R.MESH_PQ i, 0, 7⟩
/-- MESH_PQ.MAX, bits [14:8] (R317). -/
def MESH_PQ.MAX (i : Nat) : Rf := ⟨R.MESH_PQ i, 8, 7⟩
/-- Address of MESH_PHOP (R327). -/
def R.MESH_PHOP (i : Nat) : Nat := 0xB00000 + 0x104 + 32 * i
/-- MESH_PHOP.DLY, bits [15:0] (R327). -/
def MESH_PHOP.DLY (i : Nat) : Rf := ⟨R.MESH_PHOP i, 0, 16⟩
/-- Address of MESH_PASYM (R326). -/
def R.MESH_PASYM (i : Nat) : Nat := 0xB00000 + 0x108 + 32 * i
/-- MESH_PASYM.ASYM, bits [15:0] (R326). -/
def MESH_PASYM.ASYM (i : Nat) : Rf := ⟨R.MESH_PASYM i, 0, 16⟩
/-- Address of MESH_PDROP_CNT (R317). -/
def R.MESH_PDROP_CNT (i : Nat) : Nat := 0xB00000 + 0x10C + 32 * i
/-- MESH_PDROP_CNT.COUNT, bits [31:0] (R317). -/
def MESH_PDROP_CNT.COUNT (i : Nat) : Rf := ⟨R.MESH_PDROP_CNT i, 0, 32⟩
/-- Address of MESH_PLATE_CNT (R316). -/
def R.MESH_PLATE_CNT (i : Nat) : Nat := 0xB00000 + 0x110 + 32 * i
/-- MESH_PLATE_CNT.COUNT, bits [31:0] (R316). -/
def MESH_PLATE_CNT.COUNT (i : Nat) : Rf := ⟨R.MESH_PLATE_CNT i, 0, 32⟩
/-- Address of MESH_LANE_LAT (R326). -/
def R.MESH_LANE_LAT (i : Nat) : Nat := 0xB00000 + 0x400 + 4 * i
/-- MESH_LANE_LAT.TX_LAT, bits [15:0] (R326). -/
def MESH_LANE_LAT.TX_LAT (i : Nat) : Rf := ⟨R.MESH_LANE_LAT i, 0, 16⟩
/-- MESH_LANE_LAT.RX_LAT, bits [31:16] (R326). -/
def MESH_LANE_LAT.RX_LAT (i : Nat) : Rf := ⟨R.MESH_LANE_LAT i, 16, 16⟩
/-- Address of MESH_EXP (R315). -/
def R.MESH_EXP (i : Nat) : Nat := 0xB00000 + 0x1000 + 4 * i
/-- MESH_EXP.SRC, bits [7:0] (R315). -/
def MESH_EXP.SRC (i : Nat) : Rf := ⟨R.MESH_EXP i, 0, 8⟩
/-- MESH_EXP.DEV, bits [19:8] (R315). -/
def MESH_EXP.DEV (i : Nat) : Rf := ⟨R.MESH_EXP i, 8, 12⟩
/-- MESH_EXP.EN, bits [31:31] (R315). -/
def MESH_EXP.EN (i : Nat) : Rf := ⟨R.MESH_EXP i, 31, 1⟩
/-- Address of TIME_NS (R324). -/
def R.TIME_NS : Nat := 0xB00000 + 0x8000
/-- TIME_NS.VALUE, bits [31:0] (R324). -/
def TIME_NS.VALUE : Rf := ⟨R.TIME_NS, 0, 32⟩
/-- Address of TIME_FRAC (R324). -/
def R.TIME_FRAC : Nat := 0xB00000 + 0x8004
/-- TIME_FRAC.VALUE, bits [31:0] (R324). -/
def TIME_FRAC.VALUE : Rf := ⟨R.TIME_FRAC, 0, 32⟩
/-- Address of TIME_TICK_LO (R324). -/
def R.TIME_TICK_LO : Nat := 0xB00000 + 0x8008
/-- TIME_TICK_LO.VALUE, bits [31:0] (R324). -/
def TIME_TICK_LO.VALUE : Rf := ⟨R.TIME_TICK_LO, 0, 32⟩
/-- Address of TIME_TICK_HI (R324). -/
def R.TIME_TICK_HI : Nat := 0xB00000 + 0x800C
/-- TIME_TICK_HI.VALUE, bits [15:0] (R324). -/
def TIME_TICK_HI.VALUE : Rf := ⟨R.TIME_TICK_HI, 0, 16⟩
/-- Address of TIME_RAW_NS (R330). -/
def R.TIME_RAW_NS : Nat := 0xB00000 + 0x8010
/-- TIME_RAW_NS.VALUE, bits [31:0] (R330). -/
def TIME_RAW_NS.VALUE : Rf := ⟨R.TIME_RAW_NS, 0, 32⟩
/-- Address of TIME_RAW_FRAC (R330). -/
def R.TIME_RAW_FRAC : Nat := 0xB00000 + 0x8014
/-- TIME_RAW_FRAC.VALUE, bits [31:0] (R330). -/
def TIME_RAW_FRAC.VALUE : Rf := ⟨R.TIME_RAW_FRAC, 0, 32⟩
/-- Address of TIME_CFG (R329). -/
def R.TIME_CFG : Nat := 0xB00000 + 0x8020
/-- TIME_CFG.MASTER, bits [0:0] (R329). -/
def TIME_CFG.MASTER : Rf := ⟨R.TIME_CFG, 0, 1⟩
/-- TIME_CFG.AUTO, bits [1:1] (R329). -/
def TIME_CFG.AUTO : Rf := ⟨R.TIME_CFG, 1, 1⟩
/-- TIME_CFG.FREQ_EN, bits [2:2] (R329). -/
def TIME_CFG.FREQ_EN : Rf := ⟨R.TIME_CFG, 2, 1⟩
/-- TIME_CFG.KPS, bits [7:4] (R329). -/
def TIME_CFG.KPS : Rf := ⟨R.TIME_CFG, 4, 4⟩
/-- TIME_CFG.KIS, bits [11:8] (R329). -/
def TIME_CFG.KIS : Rf := ⟨R.TIME_CFG, 8, 4⟩
/-- TIME_CFG.SLEW, bits [23:16] (R329). -/
def TIME_CFG.SLEW : Rf := ⟨R.TIME_CFG, 16, 8⟩
/-- Address of TIME_CTRL (R331). -/
def R.TIME_CTRL : Nat := 0xB00000 + 0x8024
/-- TIME_CTRL.NORMAL, bits [0:0] (R331). -/
def TIME_CTRL.NORMAL : Rf := ⟨R.TIME_CTRL, 0, 1⟩
/-- TIME_CTRL.FREE, bits [1:1] (R331). -/
def TIME_CTRL.FREE : Rf := ⟨R.TIME_CTRL, 1, 1⟩
/-- TIME_CTRL.SET, bits [2:2] (R331). -/
def TIME_CTRL.SET : Rf := ⟨R.TIME_CTRL, 2, 1⟩
/-- Address of TIME_SET_NS (R324). -/
def R.TIME_SET_NS : Nat := 0xB00000 + 0x8028
/-- TIME_SET_NS.VALUE, bits [31:0] (R324). -/
def TIME_SET_NS.VALUE : Rf := ⟨R.TIME_SET_NS, 0, 32⟩
/-- Address of TIME_SET_FRAC (R324). -/
def R.TIME_SET_FRAC : Nat := 0xB00000 + 0x802C
/-- TIME_SET_FRAC.VALUE, bits [31:0] (R324). -/
def TIME_SET_FRAC.VALUE : Rf := ⟨R.TIME_SET_FRAC, 0, 32⟩
/-- Address of TIME_STAT (R328). -/
def R.TIME_STAT : Nat := 0xB00000 + 0x8030
/-- TIME_STAT.MODE, bits [0:0] (R328). -/
def TIME_STAT.MODE : Rf := ⟨R.TIME_STAT, 0, 1⟩
/-- TIME_STAT.LOCKED, bits [1:1] (R328). -/
def TIME_STAT.LOCKED : Rf := ⟨R.TIME_STAT, 1, 1⟩
/-- TIME_STAT.HOLDOVER, bits [2:2] (R328). -/
def TIME_STAT.HOLDOVER : Rf := ⟨R.TIME_STAT, 2, 1⟩
/-- TIME_STAT.STEP_WAIT, bits [3:3] (R328). -/
def TIME_STAT.STEP_WAIT : Rf := ⟨R.TIME_STAT, 3, 1⟩
/-- TIME_STAT.PARENT, bits [6:4] (R328). -/
def TIME_STAT.PARENT : Rf := ⟨R.TIME_STAT, 4, 3⟩
/-- TIME_STAT.HOPS, bits [12:8] (R328). -/
def TIME_STAT.HOPS : Rf := ⟨R.TIME_STAT, 8, 5⟩
/-- Address of TIME_ERR (R329). -/
def R.TIME_ERR : Nat := 0xB00000 + 0x8034
/-- TIME_ERR.E, bits [19:0] (R329). -/
def TIME_ERR.E : Rf := ⟨R.TIME_ERR, 0, 20⟩
/-- Address of TIME_TRIM (R329). -/
def R.TIME_TRIM : Nat := 0xB00000 + 0x8038
/-- TIME_TRIM.TRIM, bits [12:0] (R329). -/
def TIME_TRIM.TRIM : Rf := ⟨R.TIME_TRIM, 0, 13⟩
/-- Address of TIME_RATE (R330). -/
def R.TIME_RATE : Nat := 0xB00000 + 0x803C
/-- TIME_RATE.RATE, bits [31:0] (R330). -/
def TIME_RATE.RATE : Rf := ⟨R.TIME_RATE, 0, 32⟩
/-- Address of TIME_OFF_NS (R330). -/
def R.TIME_OFF_NS : Nat := 0xB00000 + 0x8040
/-- TIME_OFF_NS.VALUE, bits [31:0] (R330). -/
def TIME_OFF_NS.VALUE : Rf := ⟨R.TIME_OFF_NS, 0, 32⟩
/-- Address of TIME_OFF_FRAC (R330). -/
def R.TIME_OFF_FRAC : Nat := 0xB00000 + 0x8044
/-- TIME_OFF_FRAC.VALUE, bits [31:0] (R330). -/
def TIME_OFF_FRAC.VALUE : Rf := ⟨R.TIME_OFF_FRAC, 0, 32⟩
/-- Address of TIME_EXCH_CNT (R327). -/
def R.TIME_EXCH_CNT : Nat := 0xB00000 + 0x8048
/-- TIME_EXCH_CNT.COUNT, bits [31:0] (R327). -/
def TIME_EXCH_CNT.COUNT : Rf := ⟨R.TIME_EXCH_CNT, 0, 32⟩
/-- Address of TWIN_CFG (R337). -/
def R.TWIN_CFG : Nat := 0xB00000 + 0xC000
/-- TWIN_CFG.EN, bits [0:0] (R337). -/
def TWIN_CFG.EN : Rf := ⟨R.TWIN_CFG, 0, 1⟩
/-- TWIN_CFG.PRIMARY, bits [1:1] (R337). -/
def TWIN_CFG.PRIMARY : Rf := ⟨R.TWIN_CFG, 1, 1⟩
/-- TWIN_CFG.SENSE, bits [4:2] (R337). -/
def TWIN_CFG.SENSE : Rf := ⟨R.TWIN_CFG, 2, 3⟩
/-- TWIN_CFG.SVC, bits [19:8] (R337). -/
def TWIN_CFG.SVC : Rf := ⟨R.TWIN_CFG, 8, 12⟩
/-- TWIN_CFG.RF_SETTLE, bits [25:20] (R337). -/
def TWIN_CFG.RF_SETTLE : Rf := ⟨R.TWIN_CFG, 20, 6⟩
/-- Address of TWIN_CTRL (R344). -/
def R.TWIN_CTRL : Nat := 0xB00000 + 0xC004
/-- TWIN_CTRL.TAKE, bits [0:0] (R344). -/
def TWIN_CTRL.TAKE : Rf := ⟨R.TWIN_CTRL, 0, 1⟩
/-- TWIN_CTRL.YIELD, bits [1:1] (R344). -/
def TWIN_CTRL.YIELD : Rf := ⟨R.TWIN_CTRL, 1, 1⟩
/-- TWIN_CTRL.RESYNC, bits [2:2] (R344). -/
def TWIN_CTRL.RESYNC : Rf := ⟨R.TWIN_CTRL, 2, 1⟩
/-- Address of TWIN_STAT (R337). -/
def R.TWIN_STAT : Nat := 0xB00000 + 0xC008
/-- TWIN_STAT.ROLE, bits [2:0] (R337). -/
def TWIN_STAT.ROLE : Rf := ⟨R.TWIN_STAT, 0, 3⟩
/-- TWIN_STAT.PHASE, bits [4:3] (R337). -/
def TWIN_STAT.PHASE : Rf := ⟨R.TWIN_STAT, 3, 2⟩
/-- TWIN_STAT.PROLE, bits [7:5] (R337). -/
def TWIN_STAT.PROLE : Rf := ⟨R.TWIN_STAT, 5, 3⟩
/-- TWIN_STAT.HB_OK, bits [8:8] (R337). -/
def TWIN_STAT.HB_OK : Rf := ⟨R.TWIN_STAT, 8, 1⟩
/-- TWIN_STAT.PARTNER_TAKE, bits [9:9] (R337). -/
def TWIN_STAT.PARTNER_TAKE : Rf := ⟨R.TWIN_STAT, 9, 1⟩
/-- Address of TWIN_LOCKSTEP_LO (R350). -/
def R.TWIN_LOCKSTEP_LO : Nat := 0xB00000 + 0xC00C
/-- TWIN_LOCKSTEP_LO.MASK, bits [31:0] (R350). -/
def TWIN_LOCKSTEP_LO.MASK : Rf := ⟨R.TWIN_LOCKSTEP_LO, 0, 32⟩
/-- Address of TWIN_LOCKSTEP_HI (R350). -/
def R.TWIN_LOCKSTEP_HI : Nat := 0xB00000 + 0xC010
/-- TWIN_LOCKSTEP_HI.MASK, bits [31:0] (R350). -/
def TWIN_LOCKSTEP_HI.MASK : Rf := ⟨R.TWIN_LOCKSTEP_HI, 0, 32⟩
/-- Address of TWIN_TAKE_TICK_LO (R346). -/
def R.TWIN_TAKE_TICK_LO : Nat := 0xB00000 + 0xC014
/-- TWIN_TAKE_TICK_LO.TICK, bits [31:0] (R346). -/
def TWIN_TAKE_TICK_LO.TICK : Rf := ⟨R.TWIN_TAKE_TICK_LO, 0, 32⟩
/-- Address of TWIN_TAKE_TICK_HI (R346). -/
def R.TWIN_TAKE_TICK_HI : Nat := 0xB00000 + 0xC018
/-- TWIN_TAKE_TICK_HI.TICK, bits [15:0] (R346). -/
def TWIN_TAKE_TICK_HI.TICK : Rf := ⟨R.TWIN_TAKE_TICK_HI, 0, 16⟩
/-- Address of TWIN_HB_MISS_CNT (R344). -/
def R.TWIN_HB_MISS_CNT : Nat := 0xB00000 + 0xC01C
/-- TWIN_HB_MISS_CNT.COUNT, bits [31:0] (R344). -/
def TWIN_HB_MISS_CNT.COUNT : Rf := ⟨R.TWIN_HB_MISS_CNT, 0, 32⟩
/-- Address of TWIN_TAKE_CNT (R346). -/
def R.TWIN_TAKE_CNT : Nat := 0xB00000 + 0xC020
/-- TWIN_TAKE_CNT.COUNT, bits [31:0] (R346). -/
def TWIN_TAKE_CNT.COUNT : Rf := ⟨R.TWIN_TAKE_CNT, 0, 32⟩
/-- Address of TWIN_LOG_LAG (R342). -/
def R.TWIN_LOG_LAG : Nat := 0xB00000 + 0xC024
/-- TWIN_LOG_LAG.COUNT, bits [31:0] (R342). -/
def TWIN_LOG_LAG.COUNT : Rf := ⟨R.TWIN_LOG_LAG, 0, 32⟩
/-- Address of MBX_DATA (R353). -/
def R.MBX_DATA (m i : Nat) : Nat := 0xD00000 + 0x100 * m + 4 * i
/-- MBX_DATA.DATA, bits [31:0] (R353). -/
def MBX_DATA.DATA (m i : Nat) : Rf := ⟨R.MBX_DATA m i, 0, 32⟩
/-- Address of MBX_CTRL (R354). -/
def R.MBX_CTRL (m : Nat) : Nat := 0xD00000 + 0x100 * m + 0x40
/-- MBX_CTRL.GO, bits [0:0] (R354). -/
def MBX_CTRL.GO (m : Nat) : Rf := ⟨R.MBX_CTRL m, 0, 1⟩
/-- MBX_CTRL.ACK, bits [1:1] (R354). -/
def MBX_CTRL.ACK (m : Nat) : Rf := ⟨R.MBX_CTRL m, 1, 1⟩
/-- MBX_CTRL.FULL, bits [2:2] (R354). -/
def MBX_CTRL.FULL (m : Nat) : Rf := ⟨R.MBX_CTRL m, 2, 1⟩
/-- MBX_CTRL.COLLISION, bits [3:3] (R354). -/
def MBX_CTRL.COLLISION (m : Nat) : Rf := ⟨R.MBX_CTRL m, 3, 1⟩
/-- MBX_CTRL.DOMAIN_DOWN, bits [4:4] (R354). -/
def MBX_CTRL.DOMAIN_DOWN (m : Nat) : Rf := ⟨R.MBX_CTRL m, 4, 1⟩
/-- MBX_CTRL.FWD_ERR, bits [5:5] (R354). -/
def MBX_CTRL.FWD_ERR (m : Nat) : Rf := ⟨R.MBX_CTRL m, 5, 1⟩
/-- MBX_CTRL.LEN, bits [11:8] (R354). -/
def MBX_CTRL.LEN (m : Nat) : Rf := ⟨R.MBX_CTRL m, 8, 4⟩
/-- Address of MBX_CFG (R352). -/
def R.MBX_CFG (m : Nat) : Nat := 0xD00000 + 0x100 * m + 0x44
/-- MBX_CFG.PROD, bits [1:0] (R352). -/
def MBX_CFG.PROD (m : Nat) : Rf := ⟨R.MBX_CFG m, 0, 2⟩
/-- MBX_CFG.CONS, bits [3:2] (R352). -/
def MBX_CFG.CONS (m : Nat) : Rf := ⟨R.MBX_CFG m, 2, 2⟩
/-- MBX_CFG.NOTIFY, bits [4:4] (R352). -/
def MBX_CFG.NOTIFY (m : Nat) : Rf := ⟨R.MBX_CFG m, 4, 1⟩
/-- Address of MBX_SEQ (R354). -/
def R.MBX_SEQ (m : Nat) : Nat := 0xD00000 + 0x100 * m + 0x48
/-- MBX_SEQ.SEQ, bits [31:0] (R354). -/
def MBX_SEQ.SEQ (m : Nat) : Rf := ⟨R.MBX_SEQ m, 0, 32⟩
/-- Address of MBX_FWD (R359). -/
def R.MBX_FWD (m : Nat) : Nat := 0xD00000 + 0x100 * m + 0x4C
/-- MBX_FWD.DEV, bits [11:0] (R359). -/
def MBX_FWD.DEV (m : Nat) : Rf := ⟨R.MBX_FWD m, 0, 12⟩
/-- MBX_FWD.MBX, bits [16:12] (R359). -/
def MBX_FWD.MBX (m : Nat) : Rf := ⟨R.MBX_FWD m, 12, 5⟩
/-- Address of MBX_LOST_ON_RESET (R358). -/
def R.MBX_LOST_ON_RESET (m : Nat) : Nat := 0xD00000 + 0x100 * m + 0x50
/-- MBX_LOST_ON_RESET.COUNT, bits [31:0] (R358). -/
def MBX_LOST_ON_RESET.COUNT (m : Nat) : Rf := ⟨R.MBX_LOST_ON_RESET m, 0, 32⟩
/-- Address of MBX_COLL_CNT (R356). -/
def R.MBX_COLL_CNT (m : Nat) : Nat := 0xD00000 + 0x100 * m + 0x54
/-- MBX_COLL_CNT.COUNT, bits [31:0] (R356). -/
def MBX_COLL_CNT.COUNT (m : Nat) : Rf := ⟨R.MBX_COLL_CNT m, 0, 32⟩
/-- Address of MBX_REM_DROP_CNT (R359). -/
def R.MBX_REM_DROP_CNT (m : Nat) : Nat := 0xD00000 + 0x100 * m + 0x58
/-- MBX_REM_DROP_CNT.COUNT, bits [31:0] (R359). -/
def MBX_REM_DROP_CNT.COUNT (m : Nat) : Rf := ⟨R.MBX_REM_DROP_CNT m, 0, 32⟩
/-- Address of EVT_CH_CFG (R369). -/
def R.EVT_CH_CFG (i : Nat) : Nat := 0xE00000 + 4 * i
/-- EVT_CH_CFG.EN, bits [0:0] (R369). -/
def EVT_CH_CFG.EN (i : Nat) : Rf := ⟨R.EVT_CH_CFG i, 0, 1⟩
/-- EVT_CH_CFG.LOOP, bits [1:1] (R369). -/
def EVT_CH_CFG.LOOP (i : Nat) : Rf := ⟨R.EVT_CH_CFG i, 1, 1⟩
/-- EVT_CH_CFG.PEND, bits [2:2] (R369). -/
def EVT_CH_CFG.PEND (i : Nat) : Rf := ⟨R.EVT_CH_CFG i, 2, 1⟩
/-- Address of EVT_MERGE_CNT (R363). -/
def R.EVT_MERGE_CNT (i : Nat) : Nat := 0xE00000 + 0x400 + 4 * i
/-- EVT_MERGE_CNT.COUNT, bits [31:0] (R363). -/
def EVT_MERGE_CNT.COUNT (i : Nat) : Rf := ⟨R.EVT_MERGE_CNT i, 0, 32⟩
/-- Address of EVT_GRP_EN (R368). -/
def R.EVT_GRP_EN : Nat := 0xE00000 + 0x800
/-- EVT_GRP_EN.EN, bits [31:0] (R368). -/
def EVT_GRP_EN.EN : Rf := ⟨R.EVT_GRP_EN, 0, 32⟩
/-- Address of EVT_SWFIRE (R362). -/
def R.EVT_SWFIRE : Nat := 0xE00000 + 0x804
/-- EVT_SWFIRE.CH, bits [7:0] (R362). -/
def EVT_SWFIRE.CH : Rf := ⟨R.EVT_SWFIRE, 0, 8⟩
/-- Address of EVT_LOOP_CNT (R369). -/
def R.EVT_LOOP_CNT : Nat := 0xE00000 + 0x808
/-- EVT_LOOP_CNT.COUNT, bits [31:0] (R369). -/
def EVT_LOOP_CNT.COUNT : Rf := ⟨R.EVT_LOOP_CNT, 0, 32⟩
/-- Address of EVT_PROD (R361). -/
def R.EVT_PROD (i : Nat) : Nat := 0xE00000 + 0x1000 + 4 * i
/-- EVT_PROD.CH, bits [7:0] (R361). -/
def EVT_PROD.CH (i : Nat) : Rf := ⟨R.EVT_PROD i, 0, 8⟩
/-- EVT_PROD.EDGE, bits [9:8] (R361). -/
def EVT_PROD.EDGE (i : Nat) : Rf := ⟨R.EVT_PROD i, 8, 2⟩
/-- EVT_PROD.EN, bits [31:31] (R361). -/
def EVT_PROD.EN (i : Nat) : Rf := ⟨R.EVT_PROD i, 31, 1⟩
/-- Address of EVT_TASK (R365). -/
def R.EVT_TASK (i : Nat) : Nat := 0xE00000 + 0x2000 + 4 * i
/-- EVT_TASK.CH_A, bits [7:0] (R365). -/
def EVT_TASK.CH_A (i : Nat) : Rf := ⟨R.EVT_TASK i, 0, 8⟩
/-- EVT_TASK.CH_B, bits [15:8] (R365). -/
def EVT_TASK.CH_B (i : Nat) : Rf := ⟨R.EVT_TASK i, 8, 8⟩
/-- EVT_TASK.WIDTH, bits [23:16] (R365). -/
def EVT_TASK.WIDTH (i : Nat) : Rf := ⟨R.EVT_TASK i, 16, 8⟩
/-- EVT_TASK.EN_B, bits [30:30] (R365). -/
def EVT_TASK.EN_B (i : Nat) : Rf := ⟨R.EVT_TASK i, 30, 1⟩
/-- EVT_TASK.EN_A, bits [31:31] (R365). -/
def EVT_TASK.EN_A (i : Nat) : Rf := ⟨R.EVT_TASK i, 31, 1⟩
/-- Address of EVT_TSTAT (R367). -/
def R.EVT_TSTAT (i : Nat) : Nat := 0xE00000 + 0x2400 + 4 * i
/-- EVT_TSTAT.OVERRUN, bits [0:0] (R367). -/
def EVT_TSTAT.OVERRUN (i : Nat) : Rf := ⟨R.EVT_TSTAT i, 0, 1⟩
/-- EVT_TSTAT.DOWN, bits [1:1] (R367). -/
def EVT_TSTAT.DOWN (i : Nat) : Rf := ⟨R.EVT_TSTAT i, 1, 1⟩
/-- Address of EVT_COAL_CNT (R366). -/
def R.EVT_COAL_CNT (i : Nat) : Nat := 0xE00000 + 0x2800 + 4 * i
/-- EVT_COAL_CNT.COUNT, bits [31:0] (R366). -/
def EVT_COAL_CNT.COUNT (i : Nat) : Rf := ⟨R.EVT_COAL_CNT i, 0, 32⟩
/-- Address of EVT_OVR_CNT (R367). -/
def R.EVT_OVR_CNT (i : Nat) : Nat := 0xE00000 + 0x2C00 + 4 * i
/-- EVT_OVR_CNT.COUNT, bits [31:0] (R367). -/
def EVT_OVR_CNT.COUNT (i : Nat) : Rf := ⟨R.EVT_OVR_CNT i, 0, 32⟩
/-- Address of EVT_TMR_CMP_LO (R361). -/
def R.EVT_TMR_CMP_LO (i : Nat) : Nat := 0xE00000 + 0x3000 + 16 * i
/-- EVT_TMR_CMP_LO.CMP_LO, bits [31:0] (R361). -/
def EVT_TMR_CMP_LO.CMP_LO (i : Nat) : Rf := ⟨R.EVT_TMR_CMP_LO i, 0, 32⟩
/-- Address of EVT_TMR_CMP_HI (R361). -/
def R.EVT_TMR_CMP_HI (i : Nat) : Nat := 0xE00000 + 0x3004 + 16 * i
/-- EVT_TMR_CMP_HI.CMP_HI, bits [15:0] (R361). -/
def EVT_TMR_CMP_HI.CMP_HI (i : Nat) : Rf := ⟨R.EVT_TMR_CMP_HI i, 0, 16⟩
/-- Address of EVT_TMR_PER (R361). -/
def R.EVT_TMR_PER (i : Nat) : Nat := 0xE00000 + 0x3008 + 16 * i
/-- EVT_TMR_PER.PER, bits [31:0] (R361). -/
def EVT_TMR_PER.PER (i : Nat) : Rf := ⟨R.EVT_TMR_PER i, 0, 32⟩
/-- Address of EVT_TMR_EN (R361). -/
def R.EVT_TMR_EN (i : Nat) : Nat := 0xE00000 + 0x300C + 16 * i
/-- EVT_TMR_EN.EN, bits [0:0] (R361). -/
def EVT_TMR_EN.EN (i : Nat) : Rf := ⟨R.EVT_TMR_EN i, 0, 1⟩
/-- Address of TH_TJ (R372). -/
def R.TH_TJ : Nat := 0xF00000 + 0x4000
/-- TH_TJ.TJ, bits [11:0] (R372). -/
def TH_TJ.TJ : Rf := ⟨R.TH_TJ, 0, 12⟩
/-- TH_TJ.REGION, bits [20:16] (R372). -/
def TH_TJ.REGION : Rf := ⟨R.TH_TJ, 16, 5⟩
/-- TH_TJ.LEVEL, bits [25:24] (R372). -/
def TH_TJ.LEVEL : Rf := ⟨R.TH_TJ, 24, 2⟩
/-- Address of TH_STAT (R374). -/
def R.TH_STAT : Nat := 0xF00000 + 0x4004
/-- TH_STAT.WARN, bits [0:0] (R374). -/
def TH_STAT.WARN : Rf := ⟨R.TH_STAT, 0, 1⟩
/-- TH_STAT.THROTTLE, bits [1:1] (R374). -/
def TH_STAT.THROTTLE : Rf := ⟨R.TH_STAT, 1, 1⟩
/-- TH_STAT.SHUT_FLAG, bits [2:2] (R374). -/
def TH_STAT.SHUT_FLAG : Rf := ⟨R.TH_STAT, 2, 1⟩
/-- Address of TH_TRANS_CNT (R374). -/
def R.TH_TRANS_CNT : Nat := 0xF00000 + 0x4008
/-- TH_TRANS_CNT.COUNT, bits [31:0] (R374). -/
def TH_TRANS_CNT.COUNT : Rf := ⟨R.TH_TRANS_CNT, 0, 32⟩
/-- Address of TH_HOLD_TIME (R375). -/
def R.TH_HOLD_TIME : Nat := 0xF00000 + 0x400C
/-- TH_HOLD_TIME.COUNT, bits [31:0] (R375). -/
def TH_HOLD_TIME.COUNT : Rf := ⟨R.TH_HOLD_TIME, 0, 32⟩
/-- Address of TH_SENS_BROKEN (R373). -/
def R.TH_SENS_BROKEN : Nat := 0xF00000 + 0x4010
/-- TH_SENS_BROKEN.BROKEN, bits [31:0] (R373). -/
def TH_SENS_BROKEN.BROKEN : Rf := ⟨R.TH_SENS_BROKEN, 0, 32⟩
/-- Address of TH_REGION (R372). -/
def R.TH_REGION (i : Nat) : Nat := 0xF00000 + 0x4100 + 4 * i
/-- TH_REGION.TEMP, bits [11:0] (R372). -/
def TH_REGION.TEMP (i : Nat) : Rf := ⟨R.TH_REGION i, 0, 12⟩
/-- TH_REGION.MODEL, bits [27:16] (R372). -/
def TH_REGION.MODEL (i : Nat) : Rf := ⟨R.TH_REGION i, 16, 12⟩
/-- Address of GOV_CFG (R379). -/
def R.GOV_CFG : Nat := 0xF00000 + 0x4200
/-- GOV_CFG.EN, bits [0:0] (R379). -/
def GOV_CFG.EN : Rf := ⟨R.GOV_CFG, 0, 1⟩
/-- GOV_CFG.VMIN, bits [5:1] (R379). -/
def GOV_CFG.VMIN : Rf := ⟨R.GOV_CFG, 1, 5⟩
/-- GOV_CFG.VMAX, bits [10:6] (R379). -/
def GOV_CFG.VMAX : Rf := ⟨R.GOV_CFG, 6, 5⟩
/-- GOV_CFG.VSTART, bits [15:11] (R379). -/
def GOV_CFG.VSTART : Rf := ⟨R.GOV_CFG, 11, 5⟩
/-- GOV_CFG.UP_INT, bits [23:16] (R379). -/
def GOV_CFG.UP_INT : Rf := ⟨R.GOV_CFG, 16, 8⟩
/-- GOV_CFG.DOWN_HOLD, bits [31:24] (R379). -/
def GOV_CFG.DOWN_HOLD : Rf := ⟨R.GOV_CFG, 24, 8⟩
/-- Address of GOV_STAT (R379). -/
def R.GOV_STAT : Nat := 0xF00000 + 0x4204
/-- GOV_STAT.VSET, bits [4:0] (R379). -/
def GOV_STAT.VSET : Rf := ⟨R.GOV_STAT, 0, 5⟩
/-- GOV_STAT.REQ, bits [5:5] (R379). -/
def GOV_STAT.REQ : Rf := ⟨R.GOV_STAT, 5, 1⟩
/-- GOV_STAT.CEILING, bits [6:6] (R379). -/
def GOV_STAT.CEILING : Rf := ⟨R.GOV_STAT, 6, 1⟩
/-- GOV_STAT.PMB_ERR, bits [7:7] (R379). -/
def GOV_STAT.PMB_ERR : Rf := ⟨R.GOV_STAT, 7, 1⟩
/-- GOV_STAT.VOUT, bits [25:16] (R379). -/
def GOV_STAT.VOUT : Rf := ⟨R.GOV_STAT, 16, 10⟩
/-- Address of GOV_PMB (R378). -/
def R.GOV_PMB : Nat := 0xF00000 + 0x4208
/-- GOV_PMB.ADDR, bits [6:0] (R378). -/
def GOV_PMB.ADDR : Rf := ⟨R.GOV_PMB, 0, 7⟩
/-- Address of PWR_CTRL (R382). -/
def R.PWR_CTRL : Nat := 0xF00000 + 0x4300
/-- PWR_CTRL.TARGET, bits [1:0] (R382). -/
def PWR_CTRL.TARGET : Rf := ⟨R.PWR_CTRL, 0, 2⟩
/-- Address of PWR_STAT (R382). -/
def R.PWR_STAT : Nat := 0xF00000 + 0x4304
/-- PWR_STAT.STATE, bits [1:0] (R382). -/
def PWR_STAT.STATE : Rf := ⟨R.PWR_STAT, 0, 2⟩
/-- PWR_STAT.WAIT, bits [2:2] (R382). -/
def PWR_STAT.WAIT : Rf := ⟨R.PWR_STAT, 2, 1⟩
/-- Address of MON_CFG (R385). -/
def R.MON_CFG : Nat := 0xF00000 + 0x4400
/-- MON_CFG.NSLOT, bits [3:0] (R385). -/
def MON_CFG.NSLOT : Rf := ⟨R.MON_CFG, 0, 4⟩
/-- MON_CFG.EN, bits [4:4] (R385). -/
def MON_CFG.EN : Rf := ⟨R.MON_CFG, 4, 1⟩
/-- Address of MON_BSEL (R384). -/
def R.MON_BSEL : Nat := 0xF00000 + 0x4404
/-- MON_BSEL.BSEL, bits [31:0] (R384). -/
def MON_BSEL.BSEL : Rf := ⟨R.MON_BSEL, 0, 32⟩
/-- Address of MON_SEQ (R385). -/
def R.MON_SEQ (i : Nat) : Nat := 0xF00000 + 0x4410 + 4 * i
/-- MON_SEQ.INPUT, bits [5:0] (R385). -/
def MON_SEQ.INPUT (i : Nat) : Rf := ⟨R.MON_SEQ i, 0, 6⟩
/-- MON_SEQ.AVG, bits [11:8] (R385). -/
def MON_SEQ.AVG (i : Nat) : Rf := ⟨R.MON_SEQ i, 8, 4⟩
/-- MON_SEQ.SHIFT, bits [15:12] (R385). -/
def MON_SEQ.SHIFT (i : Nat) : Rf := ⟨R.MON_SEQ i, 12, 4⟩
/-- Address of MON_URG (R385). -/
def R.MON_URG : Nat := 0xF00000 + 0x4450
/-- MON_URG.INPUT, bits [5:0] (R385). -/
def MON_URG.INPUT : Rf := ⟨R.MON_URG, 0, 6⟩
/-- MON_URG.AVG, bits [11:8] (R385). -/
def MON_URG.AVG : Rf := ⟨R.MON_URG, 8, 4⟩
/-- MON_URG.SHIFT, bits [15:12] (R385). -/
def MON_URG.SHIFT : Rf := ⟨R.MON_URG, 12, 4⟩
/-- MON_URG.REJ, bits [30:30] (R385). -/
def MON_URG.REJ : Rf := ⟨R.MON_URG, 30, 1⟩
/-- MON_URG.GO, bits [31:31] (R385). -/
def MON_URG.GO : Rf := ⟨R.MON_URG, 31, 1⟩
/-- Address of MON_RES (R385). -/
def R.MON_RES (i : Nat) : Nat := 0xF00000 + 0x4460 + 4 * i
/-- MON_RES.VALUE, bits [23:0] (R385). -/
def MON_RES.VALUE (i : Nat) : Rf := ⟨R.MON_RES i, 0, 24⟩
/-- MON_RES.INPUT, bits [29:24] (R385). -/
def MON_RES.INPUT (i : Nat) : Rf := ⟨R.MON_RES i, 24, 6⟩
/-- MON_RES.NEW, bits [31:31] (R385). -/
def MON_RES.NEW (i : Nat) : Rf := ⟨R.MON_RES i, 31, 1⟩
/-- Address of MON_URG_RES (R385). -/
def R.MON_URG_RES : Nat := 0xF00000 + 0x44A0
/-- MON_URG_RES.VALUE, bits [23:0] (R385). -/
def MON_URG_RES.VALUE : Rf := ⟨R.MON_URG_RES, 0, 24⟩
/-- MON_URG_RES.INPUT, bits [29:24] (R385). -/
def MON_URG_RES.INPUT : Rf := ⟨R.MON_URG_RES, 24, 6⟩
/-- MON_URG_RES.NEW, bits [31:31] (R385). -/
def MON_URG_RES.NEW : Rf := ⟨R.MON_URG_RES, 31, 1⟩
/-- Address of FLT_CFG (R393). -/
def R.FLT_CFG : Nat := 0xF00000 + 0x5000
/-- FLT_CFG.ERR_LATCH, bits [0:0] (R393). -/
def FLT_CFG.ERR_LATCH : Rf := ⟨R.FLT_CFG, 0, 1⟩
/-- Address of FLT_CTRL (R393). -/
def R.FLT_CTRL : Nat := 0xF00000 + 0x5004
/-- FLT_CTRL.ERR_HOLD, bits [0:0] (R393). -/
def FLT_CTRL.ERR_HOLD : Rf := ⟨R.FLT_CTRL, 0, 1⟩
/-- FLT_CTRL.ERR_LIVE, bits [1:1] (R393). -/
def FLT_CTRL.ERR_LIVE : Rf := ⟨R.FLT_CTRL, 1, 1⟩
/-- FLT_CTRL.INJ_REJ, bits [2:2] (R393). -/
def FLT_CTRL.INJ_REJ : Rf := ⟨R.FLT_CTRL, 2, 1⟩
/-- Address of FLT_REACT (R389). -/
def R.FLT_REACT (i : Nat) : Nat := 0xF00000 + 0x5100 + 4 * i
/-- FLT_REACT.SEV, bits [1:0] (R389). -/
def FLT_REACT.SEV (i : Nat) : Rf := ⟨R.FLT_REACT i, 0, 2⟩
/-- FLT_REACT.INT, bits [2:2] (R389). -/
def FLT_REACT.INT (i : Nat) : Rf := ⟨R.FLT_REACT i, 2, 1⟩
/-- FLT_REACT.TRAP, bits [3:3] (R389). -/
def FLT_REACT.TRAP (i : Nat) : Rf := ⟨R.FLT_REACT i, 3, 1⟩
/-- FLT_REACT.BLOCK_RESET, bits [4:4] (R389). -/
def FLT_REACT.BLOCK_RESET (i : Nat) : Rf := ⟨R.FLT_REACT i, 4, 1⟩
/-- FLT_REACT.CHIP_RESET, bits [5:5] (R389). -/
def FLT_REACT.CHIP_RESET (i : Nat) : Rf := ⟨R.FLT_REACT i, 5, 1⟩
/-- FLT_REACT.ERR_PIN, bits [6:6] (R389). -/
def FLT_REACT.ERR_PIN (i : Nat) : Rf := ⟨R.FLT_REACT i, 6, 1⟩
/-- FLT_REACT.ASSIGNED, bits [31:31] (R389). -/
def FLT_REACT.ASSIGNED (i : Nat) : Rf := ⟨R.FLT_REACT i, 31, 1⟩
/-- Address of FLT_PEND (R389). -/
def R.FLT_PEND (i : Nat) : Nat := 0xF00000 + 0x5400 + 4 * i
/-- FLT_PEND.PEND, bits [31:0] (R389). -/
def FLT_PEND.PEND (i : Nat) : Rf := ⟨R.FLT_PEND i, 0, 32⟩
/-- Address of FLT_FIRST (R395). -/
def R.FLT_FIRST : Nat := 0xF00000 + 0x5420
/-- FLT_FIRST.SOURCE, bits [7:0] (R395). -/
def FLT_FIRST.SOURCE : Rf := ⟨R.FLT_FIRST, 0, 8⟩
/-- FLT_FIRST.SEV, bits [9:8] (R395). -/
def FLT_FIRST.SEV : Rf := ⟨R.FLT_FIRST, 8, 2⟩
/-- FLT_FIRST.INJECTED, bits [10:10] (R395). -/
def FLT_FIRST.INJECTED : Rf := ⟨R.FLT_FIRST, 10, 1⟩
/-- FLT_FIRST.COINCIDENT, bits [11:11] (R395). -/
def FLT_FIRST.COINCIDENT : Rf := ⟨R.FLT_FIRST, 11, 1⟩
/-- FLT_FIRST.VALID, bits [31:31] (R395). -/
def FLT_FIRST.VALID : Rf := ⟨R.FLT_FIRST, 31, 1⟩
/-- Address of FLT_FIRST_TICK_LO (R395). -/
def R.FLT_FIRST_TICK_LO : Nat := 0xF00000 + 0x5424
/-- FLT_FIRST_TICK_LO.TICK, bits [31:0] (R395). -/
def FLT_FIRST_TICK_LO.TICK : Rf := ⟨R.FLT_FIRST_TICK_LO, 0, 32⟩
/-- Address of FLT_FIRST_TICK_HI (R395). -/
def R.FLT_FIRST_TICK_HI : Nat := 0xF00000 + 0x5428
/-- FLT_FIRST_TICK_HI.TICK, bits [15:0] (R395). -/
def FLT_FIRST_TICK_HI.TICK : Rf := ⟨R.FLT_FIRST_TICK_HI, 0, 16⟩
/-- Address of FLT_LOG_SEL (R394). -/
def R.FLT_LOG_SEL : Nat := 0xF00000 + 0x5440
/-- FLT_LOG_SEL.IDX, bits [5:0] (R394). -/
def FLT_LOG_SEL.IDX : Rf := ⟨R.FLT_LOG_SEL, 0, 6⟩
/-- FLT_LOG_SEL.VALID, bits [8:8] (R394). -/
def FLT_LOG_SEL.VALID : Rf := ⟨R.FLT_LOG_SEL, 8, 1⟩
/-- Address of FLT_LOG_DATA (R394). -/
def R.FLT_LOG_DATA (i : Nat) : Nat := 0xF00000 + 0x5444 + 4 * i
/-- FLT_LOG_DATA.DATA, bits [31:0] (R394). -/
def FLT_LOG_DATA.DATA (i : Nat) : Rf := ⟨R.FLT_LOG_DATA i, 0, 32⟩
/-- Address of FLT_LOG_OVR (R394). -/
def R.FLT_LOG_OVR : Nat := 0xF00000 + 0x546C
/-- FLT_LOG_OVR.COUNT, bits [31:0] (R394). -/
def FLT_LOG_OVR.COUNT : Rf := ⟨R.FLT_LOG_OVR, 0, 32⟩
/-- Address of FLT_INJ (R396). -/
def R.FLT_INJ : Nat := 0xF00000 + 0x5480
/-- FLT_INJ.SOURCE, bits [7:0] (R396). -/
def FLT_INJ.SOURCE : Rf := ⟨R.FLT_INJ, 0, 8⟩
/-- FLT_INJ.GO, bits [31:31] (R396). -/
def FLT_INJ.GO : Rf := ⟨R.FLT_INJ, 31, 1⟩
/-- Address of FLT_INJ_PAY (R396). -/
def R.FLT_INJ_PAY (i : Nat) : Nat := 0xF00000 + 0x5484 + 4 * i
/-- FLT_INJ_PAY.SLOTS, bits [31:0] (R396). -/
def FLT_INJ_PAY.SLOTS (i : Nat) : Rf := ⟨R.FLT_INJ_PAY i, 0, 32⟩
/-- Address of REC_CFG (R399). -/
def R.REC_CFG : Nat := 0xF00000 + 0x6000
/-- REC_CFG.MIN_SEV, bits [1:0] (R399). -/
def REC_CFG.MIN_SEV : Rf := ⟨R.REC_CFG, 0, 2⟩
/-- Address of REC_CTRL (R405). -/
def R.REC_CTRL : Nat := 0xF00000 + 0x6004
/-- REC_CTRL.FLUSH, bits [0:0] (R405). -/
def REC_CTRL.FLUSH : Rf := ⟨R.REC_CTRL, 0, 1⟩
/-- Address of REC_STAT (R403). -/
def R.REC_STAT : Nat := 0xF00000 + 0x6008
/-- REC_STAT.BUSY, bits [0:0] (R403). -/
def REC_STAT.BUSY : Rf := ⟨R.REC_STAT, 0, 1⟩
/-- REC_STAT.FOUND, bits [1:1] (R403). -/
def REC_STAT.FOUND : Rf := ⟨R.REC_STAT, 1, 1⟩
/-- REC_STAT.QUEUED, bits [10:2] (R403). -/
def REC_STAT.QUEUED : Rf := ⟨R.REC_STAT, 2, 9⟩
/-- Address of REC_HEAD (R403). -/
def R.REC_HEAD : Nat := 0xF00000 + 0x600C
/-- REC_HEAD.SEQ, bits [31:0] (R403). -/
def REC_HEAD.SEQ : Rf := ⟨R.REC_HEAD, 0, 32⟩
/-- Address of REC_TAIL (R403). -/
def R.REC_TAIL : Nat := 0xF00000 + 0x6010
/-- REC_TAIL.SEQ, bits [31:0] (R403). -/
def REC_TAIL.SEQ : Rf := ⟨R.REC_TAIL, 0, 32⟩
/-- Address of REC_SEL (R403). -/
def R.REC_SEL : Nat := 0xF00000 + 0x6018
/-- REC_SEL.SEQ, bits [31:0] (R403). -/
def REC_SEL.SEQ : Rf := ⟨R.REC_SEL, 0, 32⟩
/-- Address of REC_DROP_CNT (R400). -/
def R.REC_DROP_CNT : Nat := 0xF00000 + 0x601C
/-- REC_DROP_CNT.COUNT, bits [31:0] (R400). -/
def REC_DROP_CNT.COUNT : Rf := ⟨R.REC_DROP_CNT, 0, 32⟩
/-- Address of REC_HOURS (R399). -/
def R.REC_HOURS : Nat := 0xF00000 + 0x6020
/-- REC_HOURS.HOURS, bits [23:0] (R399). -/
def REC_HOURS.HOURS : Rf := ⟨R.REC_HOURS, 0, 24⟩
/-- Address of REC_SECS (R399). -/
def R.REC_SECS : Nat := 0xF00000 + 0x6024
/-- REC_SECS.SECS, bits [11:0] (R399). -/
def REC_SECS.SECS : Rf := ⟨R.REC_SECS, 0, 12⟩
/-- Address of REC_PCYC (R399). -/
def R.REC_PCYC : Nat := 0xF00000 + 0x6028
/-- REC_PCYC.PCYC, bits [23:0] (R399). -/
def REC_PCYC.PCYC : Rf := ⟨R.REC_PCYC, 0, 24⟩
/-- Address of REC_DATA (R403). -/
def R.REC_DATA (i : Nat) : Nat := 0xF00000 + 0x6040 + 4 * i
/-- REC_DATA.DATA, bits [31:0] (R403). -/
def REC_DATA.DATA (i : Nat) : Rf := ⟨R.REC_DATA i, 0, 32⟩
/-- Address of LIF_CTRL (R404). -/
def R.LIF_CTRL : Nat := 0xF00000 + 0x7000
/-- LIF_CTRL.SNAP, bits [0:0] (R404). -/
def LIF_CTRL.SNAP : Rf := ⟨R.LIF_CTRL, 0, 1⟩
/-- Address of LIF_GEN (R405). -/
def R.LIF_GEN : Nat := 0xF00000 + 0x7004
/-- LIF_GEN.GEN, bits [31:0] (R405). -/
def LIF_GEN.GEN : Rf := ⟨R.LIF_GEN, 0, 32⟩
/-- Address of LIF_SEL (R404). -/
def R.LIF_SEL : Nat := 0xF00000 + 0x7008
/-- LIF_SEL.IDX, bits [8:0] (R404). -/
def LIF_SEL.IDX : Rf := ⟨R.LIF_SEL, 0, 9⟩
/-- Address of LIF_DATA (R404). -/
def R.LIF_DATA : Nat := 0xF00000 + 0x700C
/-- LIF_DATA.DATA, bits [31:0] (R404). -/
def LIF_DATA.DATA : Rf := ⟨R.LIF_DATA, 0, 32⟩
/-- Address of BOOT_STAT (R413). -/
def R.BOOT_STAT : Nat := 0xF00000 + 0x8000
/-- BOOT_STAT.STAGE, bits [3:0] (R413). -/
def BOOT_STAT.STAGE : Rf := ⟨R.BOOT_STAT, 0, 4⟩
/-- BOOT_STAT.CAUSE, bits [6:4] (R413). -/
def BOOT_STAT.CAUSE : Rf := ⟨R.BOOT_STAT, 4, 3⟩
/-- BOOT_STAT.CFG_OK, bits [7:7] (R413). -/
def BOOT_STAT.CFG_OK : Rf := ⟨R.BOOT_STAT, 7, 1⟩
/-- BOOT_STAT.FW_SLOT, bits [8:8] (R413). -/
def BOOT_STAT.FW_SLOT : Rf := ⟨R.BOOT_STAT, 8, 1⟩
/-- BOOT_STAT.UC_SLOT, bits [9:9] (R413). -/
def BOOT_STAT.UC_SLOT : Rf := ⟨R.BOOT_STAT, 9, 1⟩
/-- BOOT_STAT.TIME, bits [31:16] (R413). -/
def BOOT_STAT.TIME : Rf := ⟨R.BOOT_STAT, 16, 16⟩
/-- Address of BOOT_CTRL (R416). -/
def R.BOOT_CTRL : Nat := 0xF00000 + 0x8004
/-- BOOT_CTRL.REBOOT, bits [0:0] (R416). -/
def BOOT_CTRL.REBOOT : Rf := ⟨R.BOOT_CTRL, 0, 1⟩
/-- BOOT_CTRL.KEY, bits [15:8] (R416). -/
def BOOT_CTRL.KEY : Rf := ⟨R.BOOT_CTRL, 8, 8⟩
/-- Address of BOOT_FLW_ADDR (R411). -/
def R.BOOT_FLW_ADDR : Nat := 0xF00000 + 0x8010
/-- BOOT_FLW_ADDR.ADDR, bits [25:0] (R411). -/
def BOOT_FLW_ADDR.ADDR : Rf := ⟨R.BOOT_FLW_ADDR, 0, 26⟩
/-- Address of BOOT_FLW_DATA (R411). -/
def R.BOOT_FLW_DATA : Nat := 0xF00000 + 0x8014
/-- BOOT_FLW_DATA.DATA, bits [31:0] (R411). -/
def BOOT_FLW_DATA.DATA : Rf := ⟨R.BOOT_FLW_DATA, 0, 32⟩
/-- Address of BOOT_FLW_CTRL (R411). -/
def R.BOOT_FLW_CTRL : Nat := 0xF00000 + 0x8018
/-- BOOT_FLW_CTRL.ERASE, bits [0:0] (R411). -/
def BOOT_FLW_CTRL.ERASE : Rf := ⟨R.BOOT_FLW_CTRL, 0, 1⟩
/-- BOOT_FLW_CTRL.BUSY, bits [1:1] (R411). -/
def BOOT_FLW_CTRL.BUSY : Rf := ⟨R.BOOT_FLW_CTRL, 1, 1⟩
/-- BOOT_FLW_CTRL.REJ, bits [2:2] (R411). -/
def BOOT_FLW_CTRL.REJ : Rf := ⟨R.BOOT_FLW_CTRL, 2, 1⟩
/-- Address of SEC_STAT (R423). -/
def R.SEC_STAT : Nat := 0xF00000 + 0x8020
/-- SEC_STAT.KEY_VOID, bits [0:0] (R423). -/
def SEC_STAT.KEY_VOID : Rf := ⟨R.SEC_STAT, 0, 1⟩
/-- SEC_STAT.DBG_OPEN, bits [1:1] (R423). -/
def SEC_STAT.DBG_OPEN : Rf := ⟨R.SEC_STAT, 1, 1⟩
/-- SEC_STAT.FACTORY, bits [2:2] (R423). -/
def SEC_STAT.FACTORY : Rf := ⟨R.SEC_STAT, 2, 1⟩
/-- SEC_STAT.KEYS_READY, bits [3:3] (R423). -/
def SEC_STAT.KEYS_READY : Rf := ⟨R.SEC_STAT, 3, 1⟩
/-- Address of SEC_CHAL_LO (R424). -/
def R.SEC_CHAL_LO : Nat := 0xF00000 + 0x8024
/-- SEC_CHAL_LO.CHAL, bits [31:0] (R424). -/
def SEC_CHAL_LO.CHAL : Rf := ⟨R.SEC_CHAL_LO, 0, 32⟩
/-- Address of SEC_CHAL_HI (R424). -/
def R.SEC_CHAL_HI : Nat := 0xF00000 + 0x8028
/-- SEC_CHAL_HI.CHAL, bits [31:0] (R424). -/
def SEC_CHAL_HI.CHAL : Rf := ⟨R.SEC_CHAL_HI, 0, 32⟩

/-! Fault source numbers (R386, R387 and the fault tables of the owning chapters). -/

def Src.LM_LOW : Nat := 0
def Src.ORDER_SHORT : Nat := 1
def Src.LATE_BARGE : Nat := 2
def Src.INGRESS_LATE : Nat := 3
def Src.XBAR_LATE : Nat := 4
def Src.LATE_DECISION : Nat := 5
def Src.BRANCH_NEST : Nat := 6
def Src.TC_BACKWARD : Nat := 7
def Src.BRANCH_FORM : Nat := 8
def Src.WINDOW_FORM : Nat := 9
def Src.PLT_PARAM : Nat := 10
def Src.PLT_STACK : Nat := 11
def Src.PLT_ILLEGAL : Nat := 12
def Src.UC_CE : Nat := 13
def Src.UC_DED : Nat := 14
def Src.SEG_INVALID : Nat := 16
def Src.STREAM_OVER : Nat := 17
def Src.UNDERRUN : Nat := 18
def Src.BASIN_CE : Nat := 19
def Src.BASIN_DED : Nat := 20
def Src.FLX_SC : Nat := 21
def Src.RDI_OVR : Nat := 22
def Src.KRN_ILLEGAL : Nat := 32
def Src.KRN_STACK : Nat := 33
def Src.KRN_PM_PAR : Nat := 34
def Src.KRN_DROP : Nat := 35
def Src.KRN_NODEC : Nat := 36
def Src.ACQ_PERIOD : Nat := 37
def Src.ACQ_BUF_FULL : Nat := 38
def Src.ACQ_FIRE_LATE : Nat := 39
def Src.ACQ_ARM_LATE : Nat := 40
def Src.ACQ_AVG_ERR : Nat := 41
def Src.CAL_LATE : Nat := 48
def Src.CAL_FAIL : Nat := 49
def Src.FUSE_GEN_BAD : Nat := 50
def Src.HIF_RING : Nat := 51
def Src.HIF_HOST : Nat := 52
def Src.LANE_ABSENT : Nat := 64
def Src.LANE_LOST : Nat := 65
def Src.PORT_DOWN : Nat := 66
def Src.PORT_SKEW : Nat := 67
def Src.PORT_MISWIRE : Nat := 68
def Src.MESH_TOPO : Nat := 69
def Src.MESH_UNREACH : Nat := 70
def Src.MESH_HOP_LATE : Nat := 71
def Src.MESH_DROP : Nat := 72
def Src.MESH_MBX_LOST : Nat := 73
def Src.MESH_NEIGHBOUR_LOST : Nat := 74
def Src.TIME_HOLDOVER : Nat := 75
def Src.TIME_UNLOCK : Nat := 76
def Src.TWIN_HB_LOST : Nat := 80
def Src.TWIN_TAKEOVER : Nat := 81
def Src.TWIN_TAKE_REFUSED : Nat := 82
def Src.TWIN_SYNC_FAIL : Nat := 83
def Src.EVT_LOOP : Nat := 84
def Src.MBX_REM_DROP : Nat := 85
def Src.THERM_WARN : Nat := 96
def Src.THERM_THROTTLE : Nat := 97
def Src.THERM_SHUTDOWN : Nat := 98
def Src.THERM_SENSOR : Nat := 99
def Src.THERM_MODEL_ONLY : Nat := 100
def Src.GOV_CEILING : Nat := 101
def Src.GOV_PMBUS : Nat := 102
def Src.GOV_VOUT : Nat := 103
def Src.REC_FLASH : Nat := 112
def Src.REC_DROP : Nat := 113
def Src.LIF_BAD : Nat := 114
def Src.DRAM_CE : Nat := 115
def Src.DRAM_UE : Nat := 116
def Src.BOOT_IMAGE_BAD : Nat := 128
def Src.BOOT_CFG_BAD : Nat := 129
def Src.BOOT_RECOVERY : Nat := 130
def Src.SUPPLY_FAULT : Nat := 131
def Src.PLL_UNLOCK : Nat := 132
def Src.DBG_OPEN : Nat := 133
def Src.DBG_FACTORY : Nat := 134
def Src.DBG_TOKEN_BAD : Nat := 135

/-- The assigned sources of R386 with their default severities, as the owning chapters give them. -/
def faultTable : List (Nat × Nat) := [
  (0, 0), (1, 0), (2, 2), (3, 2), (4, 1), (5, 1), (6, 1), (7, 1), (8, 1), (9, 1), (10, 1), (11, 2),
  (12, 2), (13, 0), (14, 2), (16, 1), (17, 1), (18, 1), (19, 0), (20, 2), (21, 2), (22, 0), (32, 2), (33, 2),
  (34, 2), (35, 1), (36, 1), (37, 1), (38, 1), (39, 2), (40, 0), (41, 2), (48, 0), (49, 2), (50, 1), (51, 1),
  (52, 2), (64, 0), (65, 1), (66, 1), (67, 1), (68, 2), (69, 2), (70, 1), (71, 1), (72, 1), (73, 1), (74, 1),
  (75, 0), (76, 2), (80, 1), (81, 2), (82, 1), (83, 2), (84, 2), (85, 1), (96, 0), (97, 1), (98, 3), (99, 1),
  (100, 2), (101, 2), (102, 2), (103, 2), (112, 2), (113, 1), (114, 1), (115, 0), (116, 2), (128, 1), (129, 2), (130, 2),
  (131, 3), (132, 3), (133, 2), (134, 2), (135, 1)]


end Sys2Proof.Machine
end

