-- ==== Sys2Proof/Machine/Ops.lean ====
section
/-! DEFINITION. The named operations the meanings are written over: the sparse store, ticks, the register file with its
access codes, counters, the shot ledger's marks, fault raising, event producers, lifetime counters and the governor's monitors. -/

namespace Sys2Proof.Machine

/-! ## Ticks -/

/-- Ticks from `a` to `b`, signed: positive when `b` is in the future of `a` under R27 (1 to 2^47 ticks ahead). -/
def Tick.diff (a b : Tick) : Int :=
  let d := (b - a).toNat
  if d ≤ 2 ^ 47 then (d : Int) else (d : Int) - 2 ^ 48

/-- `b` lies in the future of `a` (R27). -/
def Tick.before (a b : Tick) : Bool := 0 < Tick.diff a b

/-- `b` does not lie in the past of `a`. -/
def Tick.le (a b : Tick) : Bool := 0 ≤ Tick.diff a b

/-- The later and the earlier of two ticks (R27). -/
def Tick.max (a b : Tick) : Tick := if Tick.before a b then b else a
def Tick.min (a b : Tick) : Tick := if Tick.before a b then a else b

/-- Ticks in a microsecond (R2). -/
def usTicks : Nat := 1500

/-! ## Registers -/

/-- The rows and block base that an address falls under (R445), with the offset within the block. -/
def regBlock (a : Nat) : List (List RegRow × Nat) :=
  if a < 0x100000 then [(globalRows, a)]
  else if a < 0x500000 then
    let o := (a - 0x100000) % 0x10000
    if 0x4100 ≤ o ∧ o < 0x4180 then [(lockRows, o - 0x4100)]
    else if 0x4180 ≤ o ∧ o < 0x4200 then [(lockRows, o - 0x4180)]
    else [(berthRows, o)]
  else if a < 0x900000 then
    let o := (a - 0x500000) % 0x40000
    if 0x100 ≤ o ∧ o < 0x900 then [(demodRows, (o - 0x100) % 0x80)] else [(inputRows, o)]
  else if 0x900000 ≤ a ∧ a < 0x910000 then
    let o := (a - 0x900000) % 0x1000
    if 0x400 ≤ o then [(lockRows, o - 0x400)] else [(probeRows, o)]
  else if 0xA00000 ≤ a ∧ a < 0xA10000 then
    let o := (a - 0xA00000) % 0x2000
    if 0x400 ≤ o ∧ o < 0x800 then [(portRows, o)] else [(laneRows, (a - 0xA00000) % 0x800)]
  else if 0xB00000 ≤ a ∧ a < 0xC00000 then [(meshRows, a - 0xB00000)]
  else if 0xC00000 ≤ a ∧ a < 0xC01000 then [(ringRows, (a - 0xC00000) % 0x40)]
  else if 0xC01000 ≤ a ∧ a < 0xD00000 then [(hifRows, a - 0xC00000)]
  else if 0xD00000 ≤ a ∧ a < 0xD02000 then [(mailboxRows, (a - 0xD00000) % 0x100)]
  else if 0xE00000 ≤ a ∧ a < 0xF00000 then [(eventsRows, a - 0xE00000)]
  else if 0xF00000 ≤ a ∧ a < 0x1000000 then [(mgmtRows, a - 0xF00000)]
  else []

/-- The row covers the offset. -/
def RegRow.covers (r : RegRow) (o : Nat) : Bool :=
  if r.count ≤ 1 then o == r.off
  else decide (r.off ≤ o) && ((o - r.off) % r.stride == 0) && decide ((o - r.off) / r.stride < r.count)

/-- The row of a register address, and the index within the row's array. -/
def regRow (a : Nat) : Option (RegRow × Nat) :=
  match regBlock a with
  | (rows, o) :: _ => (rows.find? (·.covers o)).map (fun r => (r, if r.count ≤ 1 then 0 else (o - r.off) / r.stride))
  | [] => none

/-- An address of the basin window (R122). -/
def isBasin (a : Nat) : Bool := decide (0x1000000 ≤ a) && decide (a < 0x4000000)

/-- The reset domain of a register (R446, R447). -/
def regDom (a : Nat) : Dom := match regRow a with | some (r, _) => r.dom | none => .sys

/-- Assigned fault sources (R386). -/
def faultAssigned (n : Nat) : Bool := faultTable.any (fun p => p.1 == n)

/-- The default severity of a source (R386). -/
def faultSev (n : Nat) : Nat := match faultTable.find? (fun p => p.1 == n) with | some p => p.2 | none => 0

/-- The reset word of FLT_REACT[n] (R389): severity, the severity's default set, ASSIGNED; THERM_SHUTDOWN (source 98) has
INT and ERR_PIN only. -/
def reactReset (n : Nat) : Nat :=
  if !faultAssigned n then 0
  else
    let sev := faultSev n
    let set := if sev = 0 then 0 else if sev = 1 then 4 else if sev = 2 then 0x44 else if n = 98 then 0x44 else 0x64
    0x80000000 + set + sev

/-- The reset word of the register at an address: its fields' reset values, and the rows whose reset value depends on
the instance (LOCK_ID, the probe set's too; CAL_CONV of the spares; MBX_CFG; FLX_FIR[0]; FLT_REACT). -/
def regReset (a : Nat) : Word :=
  match regRow a with
  | none => 0
  | some (r, i) =>
    if r.name = "LOCK_STAT" then
      BitVec.ofNat 32 ((if a < 0x500000 then (a - 0x100000) / 0x10000 + (if (a - 0x100000) % 0x10000 = 0x4100 then 0 else 64)
        else 128 + (a - 0x900000) / 0x1000) <<< 16)
    else if r.name = "CAL_CONV" then (if 240 ≤ i then 5 + (0x1FF <<< 20) else 0x1FF <<< 20)
    else if r.name = "MBX_CFG" then (if a < 0xD01000 then 0x14 else 0x11)
    else if r.name = "FLX_FIR" then (if i = 0 then 0x10000 else 0)
    else if r.name = "FLT_REACT" then BitVec.ofNat 32 (reactReset i)
    else BitVec.ofNat 32 ((r.fields.map (fun f => (f.reset % 2 ^ f.len) <<< f.lo)).foldl (· + ·) 0)

/-- The word stored at a register address. -/
def State.rd (s : State) (a : Nat) : Word := Store.read regReset s.regs a

/-- Stores a word at a register address. -/
def State.wr (s : State) (a : Nat) (w : Word) : State := { s with regs := Store.write regReset s.regs a w }

/-- The value of a field of a word. -/
def fieldOf (w : Word) (lo len : Nat) : Nat := (w.toNat >>> lo) % 2 ^ len

/-- A word with one field replaced. -/
def fieldSet (w : Word) (lo len v : Nat) : Word :=
  let m : Word := BitVec.ofNat 32 ((2 ^ len - 1) <<< lo)
  (w &&& ~~~m) ||| (BitVec.ofNat 32 (v <<< lo) &&& m)

/-- The value of a register field. -/
def State.get (s : State) (f : Rf) : Nat := fieldOf (s.rd f.addr) f.lo f.len

/-- Sets a register field. -/
def State.set (s : State) (f : Rf) (v : Nat) : State := s.wr f.addr (fieldSet (s.rd f.addr) f.lo f.len v)

/-- Tests and sets single-bit fields. -/
def State.bit (s : State) (f : Rf) : Bool := s.get f != 0
def State.setBit (s : State) (f : Rf) (b : Bool) : State := s.set f (if b then 1 else 0)

/-- The value of a field held in two's complement. -/
def State.getInt (s : State) (f : Rf) : Int := (BitVec.ofNat f.len (s.get f)).toInt

/-- Adds to a field that counts and saturates. -/
def State.bump (s : State) (f : Rf) (n : Nat := 1) : State := s.set f (Nat.min (s.get f + n) (2 ^ f.len - 1))

/-- Lowers a signed 16-bit minimum field whose all-but-sign pattern 0x7FFF means none (R36): the value saturates at
−32,768 and +32,766. -/
def State.lower (s : State) (f : Rf) (v : Int) : State :=
  let v := max (-32768) (min 32766 v)
  if v < s.getInt f then s.set f (BitVec.ofInt 16 v).toNat else s

/-- Captures a 48-bit value in a pair: LO shows it at once, HI latches it when LO is read. -/
def State.capture (s : State) (loAddr : Nat) (v : BitVec 48) : State :=
  (s.setWideVal loAddr v).wr loAddr (v.setWidth 32)

/-- A read of the LO register of a captured pair latches its HI register. -/
def State.latchHi (s : State) (loAddr : Nat) : State :=
  s.wr (loAddr + 4) (((s.wideVal loAddr).extractLsb' 32 16).setWidth 32)

/-- A 48-bit value written as a pair of registers, LO at `a` and HI at `a + 4`. -/
def State.pair (s : State) (a : Nat) : BitVec 48 := ((s.rd (a + 4)).setWidth 16) ++ s.rd a

/-- Stores a 48-bit value in a pair of registers. -/
def State.setPair (s : State) (a : Nat) (v : BitVec 48) : State :=
  (s.wr a (v.setWidth 32)).wr (a + 4) ((v.extractLsb' 32 16).setWidth 32)

/-! ## Free values -/

/-- A value the spec leaves open, fresh at every use: the counter that picks it, advanced. -/
def State.fresh (s : State) : State := { s with freeCtr := s.freeCtr + 1 }

/-! ## Faults -/

/-- An unsigned payload item (R388). -/
def slot (n : Nat) : List Nat := [Nat.min n 65535]

/-- A signed payload item (R388). -/
def slotInt (v : Int) : List Nat := [(BitVec.ofInt 16 (max (-32768) (min 32767 v))).toNat]

/-- A tick as three slots, low half first (R388). -/
def slotTick (t : Tick) : List Nat := [t.toNat % 65536, t.toNat / 65536 % 65536, t.toNat / 2 ^ 32]

/-- A segment number or SHOT_ID as two slots (R388). -/
def slotWide (n : Nat) : List Nat := [n % 65536, n / 65536 % 65536]

/-- The twin's role (R337). -/
def State.twinRole (s : State) : Nat := s.get TWIN_STAT.ROLE

/-- A standby twin counts lead-margin, late-decision, under-run and window faults and does not raise them (R341). -/
def State.standbyMute (s : State) (src : Nat) : Bool :=
  s.twinRole == 3 && [Src.LM_LOW, Src.ORDER_SHORT, Src.LATE_BARGE, Src.LATE_DECISION, Src.UNDERRUN, Src.WINDOW_FORM].contains src

/-- Raises a fault in the current tick (R391): it waits at the collector's input until FAULT_RAISE. -/
def State.raise (s : State) (src : Nat) (slots : List Nat) : State :=
  if s.standbyMute src then s else { s with raised := s.raised ++ [{ src := src, tick := s.tick, slots := slots, injected := false }] }

/-! ## The shot ledger -/

/-- Marks the shot in flight of berth `b` PARTIAL, with its first cause (R90, R94); a standby twin marks none (R341). -/
def State.markPartial (s : State) (b cause : Nat) : State :=
  let g := s.ledger b
  if g.state = 2 ∧ s.twinRole ≠ 3 then s.setLedger b { g with state := 3, cause := if g.cause = 0 then BitVec.ofNat 4 cause else g.cause }
  else s

/-- Ends the shot in flight (R94): its values move to the LAST_ fields and SHL_SEQ increments. -/
def Ledger.finish (g : Ledger) (shot : Word) (status : BitVec 2) (cause : BitVec 4) (last : Tick) : Ledger :=
  { g with lastDone := shot, lastStatus := status, lastCause := cause, lastTick := last, seq := g.seq + 1, cause := 0 }

/-- Ends the shot of berth `b` ABANDONED with its last tick executed (R92, R93, R95), when one is in flight or about to
open. -/
def State.abandon (s : State) (b cause : Nat) (last : Tick) : State :=
  let g := s.ledger b
  if g.state = 0 then s
  else
    s.setLedger b { (g.finish g.inflight 2 (if g.cause = 0 then BitVec.ofNat 4 cause else g.cause) last) with
      state := 0, opening := none, aband := g.aband + 1 }

/-! ## Event producers, lifetime counters and the governor -/

/-- A pulse of an event producer line in the current tick (R361). -/
def State.pulse (s : State) (producer : Nat) : State :=
  { s with pulses := s.pulses ++ [(producer, s.tick)] }

/-- Answers a register read with a word. -/
def State.answer (s : State) (w : Word) : State := { s with answered := some w }

/-- A margin monitor (lock 0 to 143, the crossbar 144, ingress 160 + n) reports whether it is below LM_CFG.GOV_TH: the
request to the governor lasts while any monitor is below (R38). -/
def State.monitor (s : State) (id : Nat) (below : Bool) : State :=
  let m := Store.write (fun _ => false) s.govMon id below
  let s := if s.bit GOV_STAT.REQ == !m.isEmpty then s else { s with gov := { s.gov with reqAt := s.tick } }
  { s with govMon := m }.setBit GOV_STAT.REQ (!m.isEmpty)

/-- Counts in word `i` of the live lifetime set, saturating (R404). -/
def State.lifeBump (s : State) (i : Nat) (n : Nat := 1) : State :=
  s.modLifeWord i (fun w => BitVec.ofNat 32 (Nat.min (w.toNat + n) 0xFFFFFFFF))

/-- The lowest lead margin of lock `ℓ` ever seen, 16 bits each in words 64 to 135 (R404). -/
def State.lifeMargin (s : State) (ℓ : Nat) (v : Int) : State :=
  let i := 64 + ℓ / 2
  let lo := 16 * (ℓ % 2)
  if v < (BitVec.ofNat 16 (fieldOf (s.lifeWord i) lo 16)).toInt then
    s.modLifeWord i (fun w => fieldSet w lo 16 (BitVec.ofInt 16 (max (-32768) v)).toNat)
  else s

/-- The margin below which LM_LOW is raised: LM_CFG.NOTICE_TH, where values below 3 act as 3 (R39). -/
def State.noticeTh (s : State) : Nat := Nat.max 3 (s.get LM_CFG.NOTICE_TH)

/-- The margin below which the governor is asked: LM_CFG.GOV_TH, at least NOTICE_TH (R38). -/
def State.govTh (s : State) : Nat := Nat.max s.noticeTh (s.get LM_CFG.GOV_TH)

end Sys2Proof.Machine
end

