-- ==== Sys2Proof/Machine/Flags.lean ====
section
/-! DEFINITION. Flag and narrowing arithmetic: the pilot's computation flags (R63, R68), rounding and saturation (R9), and the
device's sine table (R142). -/

namespace Sys2Proof.Machine

/-! ## Rounding and saturation (R9) -/

/-- Drops `n` low bits, rounding half up: one half of the new least significant bit is added, then an arithmetic shift. -/
def roundShift (x : Int) (n : Nat) : Int := if n = 0 then x else (x + 2 ^ (n - 1)) / 2 ^ n

/-- The nearest value of an `n`-bit two's-complement range. -/
def satInt (n : Nat) (x : Int) : Int := max (-(2 ^ (n - 1))) (min (2 ^ (n - 1) - 1) x)

/-- The value lies outside the range, so that the narrowing saturates. -/
def satFlag (n : Nat) (x : Int) : Bool := decide (satInt n x ≠ x)

/-- A Q1.17 product: rounded half up, then saturated (R9, R128); the flag tells of a saturation. -/
def mulQ17 (a b : BitVec 18) : BitVec 18 × Bool :=
  let r := roundShift (a.toInt * b.toInt) 17
  (BitVec.ofInt 18 (satInt 18 r), satFlag 18 r)

/-! ## Computation flags (R63, R68) -/

/-- A computation result: the word written, and carry. -/
structure Alu where
  val : Word
  c : Bool
  deriving DecidableEq, Repr

/-- Z and N follow the result; C is the computation's own (R63). -/
def Pilot.flags (p : Pilot) (r : Alu) : Pilot := { p with z := r.val == 0, n := r.val.msb, c := r.c }

/-- ADD: C is the carry out of bit 31. -/
def aluAdd (a b : Word) : Alu := ⟨a + b, decide (2 ^ 32 ≤ a.toNat + b.toNat)⟩
/-- SUB and CMP: C is 1 on borrow. -/
def aluSub (a b : Word) : Alu := ⟨a - b, decide (a.toNat < b.toNat)⟩
/-- AND and TST, OR, XOR: C is 0. -/
def aluAnd (a b : Word) : Alu := ⟨a &&& b, false⟩
def aluOr (a b : Word) : Alu := ⟨a ||| b, false⟩
def aluXor (a b : Word) : Alu := ⟨a ^^^ b, false⟩
/-- SHL: shift by operand[4:0]; C is the last bit shifted out, 0 for a shift of 0. -/
def aluShl (a b : Word) : Alu :=
  let k := b.toNat % 32
  ⟨a <<< k, k != 0 && a.getLsbD (32 - k)⟩
/-- SHR and SAR: as SHL, to the right. -/
def aluShr (a b : Word) : Alu :=
  let k := b.toNat % 32
  ⟨a >>> k, k != 0 && a.getLsbD (k - 1)⟩
def aluSar (a b : Word) : Alu :=
  let k := b.toNat % 32
  ⟨a.sshiftRight k, k != 0 && a.getLsbD (k - 1)⟩
/-- MUL: low 32 bits of the signed product; C is 0. -/
def aluMul (a b : Word) : Alu := ⟨a * b, false⟩
/-- MULQ: the Q1.17 product of bits [17:0], written sign-extended; C is 1 on saturation. -/
def aluMulq (a b : Word) : Alu :=
  let r := mulQ17 (a.setWidth 18) (b.setWidth 18)
  ⟨r.1.signExtend 32, r.2⟩

/-! ## The sine table (R142)

The first quarter of the table, entries 0 to 1,024, as sin(2πi/4,096) × 2^17 rounded half up, before saturation, packed
18 bits an entry and 205 entries a number. No entry of the table is an exact half, so the other three quarters follow by
symmetry. -/

def sineChunk0 : Nat :=
  0x9D9E2737C9C2026D809AA12678499212618497A125B8496212558494A024F80931F2497C919E24374901C23D6C8E9A237648D18231588B9522B508A1222540888F21F34870B21924858721314840220D00827E206EC80F9200D87F731FAC47DEE1F4AC7C681EE947AE21E878795B1E26077D41DC44764D1D62874C61D008733E1C9E871B61C3C8702E1BDA86EA61B7846D1D1B1606B941AB3C6A0B1A518688119EF066F7198C8656D192A063E318C7862581864C60CE180205F43179F45DB7173C85C2C16D985AA016768591416138578815B0855FC154D8546F14EA452E31487051561423C4FC913C084E3B135D44CAE12F9C4B201296449921232C480411CF44676116BC44E811084435910A4841CB1040C403C0FDD03EAD0F7943D1D0F1583B8E0EB1839FF0E4DC386F0DE9C36DF0D85C354F0D21C33BF0CBDC322F0C59C309F0BF5C2F0F0B9182D7E0B2D82BEE0AC942A5D0A65428CC0A010273B099CC25AA09388241908D442288086FC20F7080B81F6507A741DD40742C1C4306DE81AB1067A0191F0615C178E05B1415FC054CC146A04E8412D80483C1147041F80FB503BB00E23035680C9102F200AFF028D8096D0229007DB01C440648015FC04B600FB403240096C0192003240000

def sineChunk1 : Nat :=
  0x12C914AFB92B4B4AA9D2A044A58128BD4A065277549B41262C4961D24E2490F5239848BCD224D486A12102481711FB547C3D1E68477091D1B471D11BCC46C951A7D46759192E4621917DD45CD5168C4578D153A4524513E844CFD1295447AD11414425D0FED43D090E98437B50D424325D0BEC42D010A95427A5093D4224507E541CE1068C4177D05324121503D840CAD027D407410122401D0FFC63FC60FE693F6ECFD0C3F174FBAE3EBFCFA503E680F8F13E104F7913DB84F6313D600F4D03D07CF36E3CAF4F20C3C56CF0AA3BFE0EF463BA50EDE33B4C0EC7E3AF30EB193A99CE9B43A404E84E39E68E6E7398CCE58039330E41838D90E2B0387ECE14738248DFDE37CA4DE74376F8DD0937150DB9E36BA4DA33365F4D8C736040D75A35A90D5ED354D8D47F34F20D31134968D1A3343ACD03433DF0CEC433830CD5433270CBE332CACCA72326E4C9003211CC78E31B54C61C31588C4A930FBCC335309ECC1C13041CC04D2FE48BED82F874BD632F2A0BBED2ECC8BA762E6ECB9002E110B7892DB34B6112D554B4992CF74B3202C990B1A72C3ACB02E2BDC4AEB42B7DCAD3A2B1F4ABBF2AC08AA442A61CA8C92A02CA74D29A3CA5D12944CA45428E58A2D728864A15A2826C9FDC27C749E5E

def sineChunk2 : Nat :=
  0x19E08676499D1B672919C2D66ED99B3E66B199A4E66759995D66391986B65FC9977865BF9968465829958F6545194996507993A264C9992AA648B991B1644D590B8640E98FBD63CFD8EC16390D8DC4635198CC76311D8BC862D218AC86292189C86251D88C66211587C461D0986C1618FD85BC614E984B7610D183B160CB582AA6089981A2604758099600517F8F5FC297E845F7F97D785F3C97C6C5EF957B5E5EB5D7A4F5E72179405E2E178305DE9D771E5DA59760C5D60D74F95D1BD73E55CD6D72D15C91971BB5C4C170A45C0656F8D5BC056E745B7A16D5B5B3396C415AECD6B265AA616A0A5A5F168ED5A17967CF59D0166B159885659259409647158F85635058AFD622E58675610B581E95FE857D595EC3578C55D9E5742D5C7856F915B5156AF55A29566555900561AD57D755D0556AC5585D5581553AD545554EFD532854A4551FB5458D50CC540D54F9D53C154E6D537514D3C5328D4C0A52DC54AD8528F949A452429487051F59473B51A854606515AD44CF510D1439850BF14260507114127502293FEE4FD453EB34F8593D784F3693C3C4EE793B004E98539C24E48D38844DF9537454DA9536064D59534C54D09533844CB8D32424C68530FF4C1792FBC4BC692E784B7592D33

def sineChunk3 : Nat :=
  0x1E6E479A99E667798A5E5E9796A9E56A794A9E4EA792A5E4687909DE3E578E8DE36178C7DE2DC78A65E25678849E1CE78629E14678405E0BC781D9E03177FADDFA577D79DF1777B41DE8977905DDF9776C5DD6977481DCD777235DC4476FE9DBB076D95DB1A76B3DDA84768E1D9EC76681D9547641DD8BA761B1D81F75F45D78275CD1D6E575A59D647757DDD5A77555DD506752D9D4657504DD3C274DC1D31E74B2DD27874895D1D2745F9D12B74359D082740B5CFD873E0DCF2E73B61CE82738ADCDD5735F9CD267333DCC777307DCBC772DB9CB1572AF1CA6372825C9AF72555C8FA7227DC84471FA5C78D71CC5C6D5719E5C61C716FDC56271411C4A671121C3EA70E2DC32C70B35C26E70839C1AE70539C0ED70231C02B6FF29BF686FC19BEA46F909BDDF6F5F1BD196F2D5BC526EFB5BB896EC95BAC06E96DB9F56E641B92A6E311B85D6DFD9B78F6DCA1B6C16D965B5F16D625B5206D2DDB44E6CF95B37B6CC45B2A76C8F5B1D26C59DB0FC6C245B0256BEE5AF4D6BB81AE746B81DAD996B4B1ACBE6B141ABE26ADCDAB046AA55AA266A6D9A9476A359A86669FD9A78569C51A6A2698C5A5BF69535A4DA691A1A3F568E09A30E68A69A227686C9A13E68325A05467F7D9F6A67BD19E7E

def sineChunk4 : Nat :=
  0x2000080001FFFF7FFFDFFFE7FFF1FFFA7FFE1FFF67FFD1FFF17FFB5FFEA7FF99FFE27FF75FFD97FF4DFFCE7FF21FFC27FEF1FFB57FEB9FFA77FE81FF987FE41FF877FDF9FF757FDB1FF627FD61FF4E7FD0DFF387FCB5FF217FC59FF097FBF5FEF07FB8DFED67FB21FEBA7FAADFE9D7FA39FE7F7F9BDFE5F7F93DFE3F7F8B9FE1D7F82DFDFA7F7A1FDD57F70DFDB07F671FD897F5D5FD617F531FD387F489FD0D7F3DDFCE17F32DFCB47F279FC867F1BDFC577F0FDFC267F039FBF47EF6DFBC17EE9DFB8D7EDC9FB587ECF1FB217EC15FAE97EB31FAB07EA4DFA757E961FA3A7E86DF9FD7E779F9BF7E67DF9807E57DF93F7E479F8FD7E371F8BA7E265F8767E151F8317E039F7EA7DF1DF7A37DDF9F75A7DCD5F70F7DBA9F6C47DA79F6777D945F6297D809F5DA7D6C9F58A7D589F5397D441F4E67D2F1F4927D1A1F43D7D049F3E77CEEDF38F7CD8DF3377CC29F2DD7CABDF2817C94DF2257C7DDF1C87C661F1697C4E5F1097C365F0A87C1DDF0467C051EFE27BEC1EF7D7BD2DEF187BB91EEB07B9F1EE487B851EDDF7B6A9ED747B4F9ED087B349EC9B7B191EC2D7AFD5EBBE7AE15EB4D7AC51EADB7AA89EA687A8B9E9F47A6E9E97F7A511E9087A335E8917A151E81879F6DE79E79D81E722

/-- Entry `i` of the first quarter, before saturation. -/
def sineQuarter (i : Nat) : Int :=
  let n := match i / 205 with | 0 => sineChunk0 | 1 => sineChunk1 | 2 => sineChunk2 | 3 => sineChunk3 | _ => sineChunk4
  ((n >>> (18 * (i % 205))) % 2 ^ 18 : Nat)

/-- Entry `i` of the table of one turn: 0x1_FFFF at 1,024 and −1.0 at 3,072. -/
def sineEntry (i : Nat) : Int :=
  let j := i % 4096
  if j ≤ 1024 then satInt 18 (sineQuarter j)
  else if j ≤ 2048 then satInt 18 (sineQuarter (2048 - j))
  else if j < 3072 then -sineQuarter (j - 2048)
  else -sineQuarter (4096 - j)

/-- sin φ: linear interpolation between the entries at φ[31:20] and the next by φ[19:10], rounded half up to 18 bits. -/
def sinPhi (φ : Word) : Int :=
  let i := φ.toNat >>> 20
  let a := sineEntry i
  let b := sineEntry (i + 1)
  roundShift (a * 1024 + (b - a) * ((φ.toNat >>> 10) % 1024 : Nat)) 10

/-- cos φ is sin of a quarter turn more. -/
def cosPhi (φ : Word) : Int := sinPhi (φ + 0x40000000)

/-- The phase of tone sample `j` of tick `t` (R140): the oscillator's 48-bit phase rounded half up to 32 bits. -/
def oscPhase (f : BitVec 48) (origin t : Tick) (per : Nat) (j : Nat) : Word :=
  let φ48 := (f.toNat * (per * (t - origin).toNat + j)) % 2 ^ 48
  BitVec.ofNat 32 ((φ48 + 2 ^ 15) >>> 16)

end Sys2Proof.Machine
end

