-- ==== Sys2Proof/Machine/Operands.lean ====
section
/-! DEFINITION. The pilot's instruction words: decoding (R98 to R104), the encoder written from the same tables, and the
value of every operand form (R101 to R103). -/

namespace Sys2Proof.Machine

/-- A field of an instruction word. -/
def fld (w : Word) (lo len : Nat) : BitVec len := BitVec.ofNat len (w.toNat / 2 ^ lo)

/-- Second operand of format FR: `none` for I = 0 with an extension word (R99). -/
def decOpnd (w : Word) (x : Option Word) : Option Opnd :=
  if fld w 15 1 = 1 then
    some (.imm (match x with | some e => e | none => (fld w 0 15).signExtend 32))
  else match x with
    | some _ => none
    | none => some (.var (fld w 0 4))

/-- The n of format FT: `none` for an odd pair (R99). -/
def decTime (w : Word) (x : Option Word) : Option WideOpnd :=
  if fld w 23 1 = 0 then
    match x with
    | none => some (.imm ((fld w 0 23).setWidth 48))
    | some e => some (.imm (fld w 0 16 ++ e))
  else if fld w 22 1 = 0 then some (.var (fld w 0 4))
  else if fld w 0 1 = 0 then some (.pair (fld w 0 4)) else none

/-- The frequency of format FF: S = 0 needs the extension word, S = 1 an even variable (R99). -/
def decFreq (w : Word) (x : Option Word) : Option WideOpnd :=
  if fld w 20 1 = 0 then x.map (fun e => .imm (fld w 0 16 ++ e))
  else if fld w 16 1 = 0 then some (.pair (fld w 16 4)) else none

/-- The phase operand of format FPH. -/
def decDph (w : Word) (x : Option Word) : Opnd :=
  if fld w 20 1 = 1 then .var (fld w 16 4)
  else match x with
    | none => .imm (fld w 0 20 ++ (0 : BitVec 12))
    | some e => .imm e

/-- Amplitude and phase of PLAY and PROBE, by the mode in the extension word's bits [31:30] (R103). -/
def decAmp (w : Word) (x : Option Word) : Opnd × Opnd :=
  match x with
  | none => (.var (fld w 17 4), .imm 0)
  | some e =>
    let m := fld e 30 2
    if m = 0 then (.var (fld w 17 4), .imm (fld e 0 30 ++ (0 : BitVec 2)))
    else if m = 1 then (.var (fld w 17 4), .var (fld e 0 4))
    else if m = 2 then (.imm ((fld e 0 18).setWidth 32), .imm (fld e 18 12 ++ (0 : BitVec 20)))
    else (.imm ((fld e 0 18).setWidth 32), .var (fld e 18 4))

/-- The operands of format FDEC with its extension word. -/
def decDec (w e : Word) : DecOpnd :=
  { bid := fld w 16 8, mask := fld w 12 4, dflt := fld w 11 1 == 1, rem := fld w 10 1 == 1, loff := fld w 0 10,
    de := fld e 16 16, src := fld e 8 8 }

/-- Instructions whose format takes no extension word, by opcode (R104). -/
def decPlain (op : Nat) (w : Word) : Option PInstr :=
  let d := fld w 20 4
  match op with
  | 0x00 => some .nop
  | 0x01 => if fld w 15 1 = 0 then some (.mov d (fld w 16 4)) else none
  | 0x14 => if fld w 20 1 = 0 then some (.gettc d) else none
  | 0x15 => if fld w 20 1 = 0 then some (.gettk d) else none
  | 0x16 => some (.getd d)
  | 0x17 => some (.getsid d)
  | 0x20 => some (.jmp (fld w 0 14))
  | 0x21 => if fld w 23 1 = 0 then some (.jcc (fld w 20 3) (fld w 0 14)) else none
  | 0x22 => some (.call (fld w 0 14))
  | 0x23 => some .ret
  | 0x34 => some (.waite (fld w 16 8) (fld w 0 16))
  | 0x49 => some (.bias (if fld w 23 1 = 0 then .imm ((fld w 0 18).setWidth 32) else .var (fld w 0 4)))
  | 0x4C => some (.mopen d (fld w 18 2))
  | 0x4D => some (.mclose d)
  | 0x4E => some (.mark d (fld w 18 2))
  | 0x51 => some .join
  | 0x60 => some (.shot (fld w 0 14))
  | 0x61 => some .halt
  | _ => none

/-- The computation of an opcode (R104). -/
def decAluOp (op : Nat) : Option AluOp :=
  match op with
  | 0x04 => some .add | 0x05 => some .sub | 0x06 => some .and | 0x07 => some .or | 0x08 => some .xor
  | 0x09 => some .shl | 0x0A => some .shr | 0x0B => some .sar | 0x0C => some .mul | 0x0D => some .mulq
  | _ => none

/-- Instructions whose format takes an extension word, optional or required, by opcode (R104). -/
def decExt (op : Nat) (w : Word) (x : Option Word) : Option PInstr :=
  let d := fld w 20 4
  let a := fld w 16 4
  match op with
  | 0x02 => some (.movi d (match x with | some e => e | none => (fld w 0 20).signExtend 32))
  | 0x0E => (decOpnd w x).map (.cmp a)
  | 0x0F => (decOpnd w x).map (.tst a)
  | 0x10 => match decOpnd w x with | some (.imm o) => some (.ldp d a o) | _ => none
  | 0x11 => match decOpnd w x with | some (.imm o) => some (.stp d a o) | _ => none
  | 0x24 => some (.rep (if fld w 23 1 = 1 then .var (fld w 19 4)
      else match x with | some e => .imm e | none => .imm ((fld w 14 9).setWidth 32)) (fld w 0 14))
  | 0x30 => (decTime w x).map .wait
  | 0x31 => (decTime w x).map .atOrigin
  | 0x32 => (decTime w x).map .tsync
  | 0x35 => x.map (fun e => .waitd (decDec w e))
  | 0x40 => some (.play (fld w 21 3) (fld w 0 17) (decAmp w x).1 (decAmp w x).2)
  | 0x41 => (decFreq w x).map (.freq (fld w 21 3))
  | 0x42 => some (.phase (fld w 21 3) (decDph w x))
  | 0x44 => some (.probe (fld w 21 2) (fld w 0 17) (decAmp w x).1 (decAmp w x).2)
  | 0x45 => (decFreq w x).map (.freqp (fld w 21 2))
  | 0x46 => some (.phasep (fld w 21 2) (decDph w x))
  | 0x48 => some (.flux (fld w 0 17) (match x with | some e => .imm ((fld e 0 18).setWidth 32) | none => .var (fld w 17 4)))
  | 0x50 => x.bind (fun e => if (fld w 0 10).toNat < 2 then none else some (.brd (decDec w e)))
  | _ => match decAluOp op with
    | some o => (decOpnd w x).map (.alu o d a)
    | none => none

/-- Decodes an instruction word with the word that follows it: the instruction and its length in words; `none` for an
encoding that R99 makes illegal. -/
def decodePilot (w next : Word) : Option (PInstr × Nat) :=
  let op := w.toNat / 2 ^ 25
  if fld w 24 1 = 1 then (decExt op w (some next)).map (fun i => (i, 2))
  else match decPlain op w with
    | some i => some (i, 1)
    | none => (decExt op w none).map (fun i => (i, 1))

/-! ## The encoder -/

/-- The word of opcode `op`, extension bit `x` and operand bits `n`. -/
def encWord (op x n : Nat) : Word := BitVec.ofNat 32 (op * 2 ^ 25 + x * 2 ^ 24 + n)

/-- The opcode of a computation (R104). -/
def AluOp.op : AluOp → Nat
  | .add => 4 | .sub => 5 | .and => 6 | .or => 7 | .xor => 8 | .shl => 9 | .shr => 10 | .sar => 11 | .mul => 12
  | .mulq => 13

/-- Format FR: a variable needs one word, a constant takes the extension word. -/
def encFR (op d a : Nat) : Opnd → Word × Option Word
  | .var v => (encWord op 0 (d * 2 ^ 20 + a * 2 ^ 16 + v.toNat), none)
  | .imm w => (encWord op 1 (d * 2 ^ 20 + a * 2 ^ 16 + 2 ^ 15), some w)

/-- Format FT. -/
def encFT (op : Nat) : WideOpnd → Word × Option Word
  | .imm w => (encWord op 1 (w.toNat / 2 ^ 32), some (w.setWidth 32))
  | .var v => (encWord op 0 (2 ^ 23 + v.toNat), none)
  | .pair v => (encWord op 0 (2 ^ 23 + 2 ^ 22 + v.toNat), none)

/-- Format FF; `.var` is no form of it. -/
def encFF (op t : Nat) : WideOpnd → Word × Option Word
  | .imm w => (encWord op 1 (t + w.toNat / 2 ^ 32), some (w.setWidth 32))
  | .var v => (encWord op 0 (t + 2 ^ 20 + v.toNat * 2 ^ 16), none)
  | .pair v => (encWord op 0 (t + 2 ^ 20 + v.toNat * 2 ^ 16), none)

/-- Format FPH. -/
def encFPH (op t : Nat) : Opnd → Word × Option Word
  | .var v => (encWord op 0 (t + 2 ^ 20 + v.toNat * 2 ^ 16), none)
  | .imm w => (encWord op 1 t, some w)

/-- Format FP of PLAY and PROBE, by the modes of R103. -/
def encFP (op t seg : Nat) (amp ph : Opnd) : Word × Option Word :=
  match amp, ph with
  | .var v, .imm p => (encWord op 1 (t + v.toNat * 2 ^ 17 + seg), some (BitVec.ofNat 32 (p.toNat / 4)))
  | .var v, .var p => (encWord op 1 (t + v.toNat * 2 ^ 17 + seg), some (BitVec.ofNat 32 (2 ^ 30 + p.toNat)))
  | .imm a, .imm p => (encWord op 1 (t + seg), some (BitVec.ofNat 32 (2 ^ 31 + p.toNat / 2 ^ 20 * 2 ^ 18 + a.toNat)))
  | .imm a, .var p => (encWord op 1 (t + seg), some (BitVec.ofNat 32 (2 ^ 31 + 2 ^ 30 + p.toNat * 2 ^ 18 + a.toNat)))

/-- Format FDEC. -/
def encDec (op : Nat) (o : DecOpnd) : Word × Option Word :=
  (encWord op 1 (o.bid.toNat * 2 ^ 16 + o.mask.toNat * 2 ^ 12 + o.dflt.toNat * 2 ^ 11 + o.rem.toNat * 2 ^ 10
      + o.loff.toNat),
   some (BitVec.ofNat 32 (o.de.toNat * 2 ^ 16 + o.src.toNat * 2 ^ 8)))

/-- The words of an instruction: the first word, and its extension word where the form takes one. -/
def encodePilot : PInstr → Word × Option Word
  | .nop => (encWord 0 0 0, none)
  | .mov d v => (encWord 1 0 (d.toNat * 2 ^ 20 + v.toNat * 2 ^ 16), none)
  | .movi d w => (encWord 2 1 (d.toNat * 2 ^ 20), some w)
  | .alu op d a b => encFR op.op d.toNat a.toNat b
  | .cmp a b => encFR 0x0E 0 a.toNat b
  | .tst a b => encFR 0x0F 0 a.toNat b
  | .ldp d a o => encFR 0x10 d.toNat a.toNat (.imm o)
  | .stp v a o => encFR 0x11 v.toNat a.toNat (.imm o)
  | .gettc d => (encWord 0x14 0 (d.toNat * 2 ^ 20), none)
  | .gettk d => (encWord 0x15 0 (d.toNat * 2 ^ 20), none)
  | .getd d => (encWord 0x16 0 (d.toNat * 2 ^ 20), none)
  | .getsid d => (encWord 0x17 0 (d.toNat * 2 ^ 20), none)
  | .jmp t => (encWord 0x20 0 t.toNat, none)
  | .jcc c t => (encWord 0x21 0 (c.toNat * 2 ^ 20 + t.toNat), none)
  | .call t => (encWord 0x22 0 t.toNat, none)
  | .ret => (encWord 0x23 0 0, none)
  | .rep (.var v) l => (encWord 0x24 0 (2 ^ 23 + v.toNat * 2 ^ 19 + l.toNat), none)
  | .rep (.imm n) l => (encWord 0x24 1 l.toNat, some n)
  | .wait n => encFT 0x30 n
  | .atOrigin n => encFT 0x31 n
  | .tsync n => encFT 0x32 n
  | .waite ch lead => (encWord 0x34 0 (ch.toNat * 2 ^ 16 + lead.toNat), none)
  | .waitd o => encDec 0x35 o
  | .play t seg amp ph => encFP 0x40 (t.toNat * 2 ^ 21) seg.toNat amp ph
  | .probe t seg amp ph => encFP 0x44 (t.toNat * 2 ^ 21) seg.toNat amp ph
  | .freq t f => encFF 0x41 (t.toNat * 2 ^ 21) f
  | .freqp t f => encFF 0x45 (t.toNat * 2 ^ 21) f
  | .phase t p => encFPH 0x42 (t.toNat * 2 ^ 21) p
  | .phasep t p => encFPH 0x46 (t.toNat * 2 ^ 21) p
  | .flux seg (.var v) => (encWord 0x48 0 (v.toNat * 2 ^ 17 + seg.toNat), none)
  | .flux seg (.imm a) => (encWord 0x48 1 seg.toNat, some a)
  | .bias (.imm c) => (encWord 0x49 0 c.toNat, none)
  | .bias (.var v) => (encWord 0x49 0 (2 ^ 23 + v.toNat), none)
  | .mopen m w => (encWord 0x4C 0 (m.toNat * 2 ^ 20 + w.toNat * 2 ^ 18), none)
  | .mclose m => (encWord 0x4D 0 (m.toNat * 2 ^ 20), none)
  | .mark m e => (encWord 0x4E 0 (m.toNat * 2 ^ 20 + e.toNat * 2 ^ 18), none)
  | .brd o => encDec 0x50 o
  | .join => (encWord 0x51 0 0, none)
  | .shot l => (encWord 0x60 0 l.toNat, none)
  | .halt => (encWord 0x61 0 0, none)

/-- An operand of 18 bits: a constant has nothing above them. -/
def Opnd.fits18 : Opnd → Bool
  | .var _ => true
  | .imm w => decide (w.toNat < 2 ^ 18)

/-- The phase of PLAY and PROBE that the mode of its amplitude can hold (R103). -/
def phaseFits (amp ph : Opnd) : Bool :=
  match amp, ph with
  | .var _, .imm p => decide (p.toNat % 4 = 0)
  | .imm _, .imm p => decide (p.toNat % 2 ^ 20 = 0)
  | _, .var _ => true

/-- A pair starts at an even variable (R99). -/
def WideOpnd.evenPair : WideOpnd → Bool
  | .pair v => decide (v.toNat % 2 = 0)
  | _ => true

/-- The instructions that an encoding can hold (R99 to R103). -/
def PInstr.encodable : PInstr → Bool
  | .gettc d => decide (d.toNat % 2 = 0)
  | .gettk d => decide (d.toNat % 2 = 0)
  | .wait n => n.evenPair
  | .atOrigin n => n.evenPair
  | .tsync n => n.evenPair
  | .freq _ f => f.evenPair && (match f with | .var _ => false | _ => true)
  | .freqp _ f => f.evenPair && (match f with | .var _ => false | _ => true)
  | .play _ _ amp ph => amp.fits18 && phaseFits amp ph
  | .probe _ _ amp ph => amp.fits18 && phaseFits amp ph
  | .flux _ amp => amp.fits18
  | .bias c => c.fits18
  | .brd o => decide (2 ≤ o.loff.toNat)
  | _ => true

/-! ## Operand values -/

/-- A general variable. -/
def Pilot.v (p : Pilot) (i : BitVec 4) : Word := Store.read (fun _ => 0) p.vars i.toNat

/-- Writes a general variable. -/
def Pilot.setV (p : Pilot) (i : BitVec 4) (w : Word) : Pilot :=
  { p with vars := Store.write (fun _ => 0) p.vars i.toNat w }

/-- The value of a 32-bit operand. -/
def Pilot.val (p : Pilot) : Opnd → Word
  | .var v => p.v v
  | .imm w => w

/-- The value of a 48-bit operand: one variable is zero-extended, a pair is {V(s+1)[15:0], VS} (R101). -/
def Pilot.wide (p : Pilot) : WideOpnd → BitVec 48
  | .imm w => w
  | .var v => (p.v v).setWidth 48
  | .pair v => (p.v (v + 1)).setWidth 16 ++ p.v v

/-- A computation's result by its operation (R68). -/
def AluOp.eval : AluOp → Word → Word → Alu
  | .add => aluAdd | .sub => aluSub | .and => aluAnd | .or => aluOr | .xor => aluXor
  | .shl => aluShl | .shr => aluShr | .sar => aluSar | .mul => aluMul | .mulq => aluMulq

end Sys2Proof.Machine
end

