-- ==== Sys2Proof/Machine/Locks.lean ====
section
/-! DEFINITION. Lock lanes, branch contexts and synthesis path lanes as the other blocks use them: numbering, states, what a
stop or a reset takes away, and the opening and resuming of the cursor (R32, R56, R59, R65, R92). -/

namespace Sys2Proof.Machine

/-- Lock lanes of berth `b`: drive, flux and its lane of the probe lock. -/
def laneDrive (b : Nat) : Nat := b
def laneFlux (b : Nat) : Nat := 64 + b
def laneProbe (b : Nat) : Nat := 128 + b

/-- The lock of a lock lane: four berth lanes share a probe lock (R34). -/
def lockOfLane (l : Nat) : Nat := if l < 128 then l else 128 + (l - 128) / 4

/-- The berth of a lock lane. -/
def berthOfLane (l : Nat) : Nat := l % 64

/-- LOCK_STAT.STATE of a lock, from its lanes: a probe lock is in RUN if any berth lane is (R32). -/
def State.showLock (s : State) (ℓ : Nat) : State :=
  let code : LockSt → Nat := fun | .off => 0 | .idle => 1 | .run => 2
  if ℓ < 128 then s.set (LOCK_STAT.STATE ℓ) (code (s.lockLane ℓ).st)
  else
    let ls := (List.range 4).map (fun i => code (s.lockLane (128 + 4 * (ℓ - 128) + i)).st)
    s.set (LOCK_STAT.STATE ℓ) (ls.foldl Nat.max 0)

/-- Sets a lock lane's state. -/
def State.setLockSt (s : State) (l : Nat) (st : LockSt) : State :=
  (s.modLockLane l (fun k => { k with st := st })).showLock (lockOfLane l)

/-- LOCK_STAT.CTX0_BUSY and CTX1_BUSY of the berth's three locks (R56): in a probe lock, of any of its four berths. -/
def State.showCtx (s : State) (b : Nat) : State :=
  let b0 := (s.ctx (2 * b)).busy
  let b1 := (s.ctx (2 * b + 1)).busy
  let p := b / 4
  let any (c : Nat) : Bool := (List.range 4).any (fun i => (s.ctx (2 * (4 * p + i) + c)).busy)
  let s := (s.setBit (LOCK_STAT.CTX0_BUSY b) b0).setBit (LOCK_STAT.CTX1_BUSY b) b1
  let s := (s.setBit (LOCK_STAT.CTX0_BUSY (64 + b)) b0).setBit (LOCK_STAT.CTX1_BUSY (64 + b)) b1
  (s.setBit (LOCK_STAT.CTX0_BUSY (128 + p)) (any 0)).setBit (LOCK_STAT.CTX1_BUSY (128 + p)) (any 1)

/-- The stage lanes of a context: first lane (A) and second lane (B) (R33). -/
def stageLane (c : Nat) (second : Bool) : Nat := 1 + 2 * c + second.toNat

/-- The record number of a synthesis path lane: path 0 drive, 1 probe, 2 flux. -/
def pathKey (b p lane : Nat) : Nat := b * 15 + p * 5 + lane

/-- Frees a context: its lanes and its stage path lanes are empty, CTXn_BUSY is clear (R56, R59). Its outcome stays for a
pilot that has not yet reached JOIN. -/
def State.freeCtx (s : State) (b c : Nat) : State :=
  let clear (k : LockLane) : LockLane :=
    { k with
      stage := Store.write (fun _ => []) (Store.write (fun _ => []) k.stage (stageLane c false) []) (stageLane c true) [],
      formed := k.formed.filter (fun e => e.1 ≠ stageLane c false ∧ e.1 ≠ stageLane c true) }
  let s := s.modCtx (2 * b + c) (fun k => { k with claimed := false, busy := false, cut := none, outer := none })
  let s := s.each [laneDrive b, laneFlux b, laneProbe b] (fun s l => s.modLockLane l clear)
  let s := s.each [0, 1, 2] (fun s p =>
    (s.setPath (pathKey b p (stageLane c false)) .init).setPath (pathKey b p (stageLane c true)) .init)
  let other (lane : Nat) : Bool := lane != stageLane c false && lane != stageLane c true
  let s := s.modMuted b (·.filter (fun m => other m.lane))
  let s := s.each (List.range 13) (fun s t => s.modPrefetch (b * 13 + t) (·.filter (fun f => other f.lane)))
  s.showCtx b

/-- What becomes of an order staged in a context's lane as far as the contexts have resolved: `none`, it was in the other
lane; else the lane that still holds it, if any (R50, R57). -/
def State.laneTag (s : State) (b : Nat) : Nat → Option (Nat × Bool) → Option (Option (Nat × Bool))
  | _, none => some none
  | 0, some t => some (some t)
  | fuel + 1, some (c, l) =>
    let k := s.ctx (2 * b + c)
    match k.res with
    | none => some (some (c, l))
    | some r => if r = l then s.laneTag b fuel k.outer else none

/-- The probe orders of a berth's demodulators follow their contexts: the lane not chosen is dropped (R81, R172). -/
def State.settleDemods (s : State) (b : Nat) : State :=
  s.each [4 * b, 4 * b + 1, 4 * b + 2, 4 * b + 3] (fun s i => s.modDemod i (fun d => { d with
    sched := d.sched.filterMap (fun e => (s.laneTag b 3 e.2.1).map (fun t => (e.1, t, e.2.2)))  }))

/-! ## Entries -/

/-- The entry covers tick `t` (R31). -/
def Entry.covers (e : Entry) (t : Tick) : Bool :=
  match e.cover with
  | .sample _ => e.first == t
  | .idle n => decide (0 ≤ Tick.diff e.first t) && decide (Tick.diff e.first t < n)
  | .openIdle => Tick.le e.first t

/-- The entry without the ticks from `x` on; `none` when nothing is left. -/
def Entry.before (x : Tick) (e : Entry) : Option Entry :=
  if Tick.le x e.first then none
  else match e.cover with
    | .idle n => some { e with cover := .idle (Nat.min n (Tick.diff e.first x).toNat) }
    | _ => some e

/-- A lock lane that discards every entry for tick `x` and later, and becomes IDLE from `x` (R92). -/
def LockLane.cut (x : Tick) (k : LockLane) : LockLane :=
  { k with
    main := k.main.filterMap (Entry.before x),
    stage := k.stage.filterMap (fun (i, l) => let l' := l.filterMap (Entry.before x); if l' = [] then none else some (i, l')),
    formed := k.formed.filterMap (fun (i, e) => (Entry.before x e).map (fun e => (i, e))),
    idleAt := some x }

/-- Tones without their plays and jumps, in canonical form. -/
def endTones (m : Store Tone) : Store Tone :=
  (m.map (fun (i, t) => (i, { t with play := none, jump := none }))).filter (fun p => p.2 ≠ Tone.init)

/-- The tones (R125) of a path: path 0 tones 0 to 7, path 1 tones 8 to 11, path 2 tone 12. -/
def pathTones (p : Nat) : List Nat := if p = 0 then List.range 8 else if p = 1 then [8, 9, 10, 11] else [12]

/-- Tone `t` of a path lane. -/
def PathLane.tone (k : PathLane) (t : Nat) : Tone := Store.read (fun _ => Tone.init) k.tones t
def PathLane.setTone (k : PathLane) (t : Nat) (v : Tone) : PathLane :=
  { k with tones := Store.write (fun _ => Tone.init) k.tones t v }

/-- The tones of the main lane in the SYN_TONE registers. -/
def State.showTones (s : State) (b : Nat) (p : Nat) (k : PathLane) : State :=
  s.each (if p = 2 then [] else pathTones p) (fun s t =>
    let tn := k.tone t
    let s := (s.capture (R.SYN_TONE_FREQ_LO b t) tn.freq).wr (R.SYN_TONE_PHASE b t) tn.phase
    match tn.play with
    | some pl => (s.set (SYN_TONE_SEG.SEG b t) pl.seg.toNat).setBit (SYN_TONE_SEG.PLAYING b t) true
    | none => s.setBit (SYN_TONE_SEG.PLAYING b t) false)

/-- The tones of a lane before the orders of tick `x` and later (R92, R141). -/
def PathLane.tonesBefore (x : Tick) (k : PathLane) : Store Tone :=
  match k.past.find? (fun e => Tick.le x e.1) with
  | some e => e.2
  | none => k.tones

/-- A path lane whose plays, jumps, orders and tail have ended at tick `x` (R92, R155), with the tones given. -/
def PathLane.finish (x : Tick) (tones : Store Tone) (k : PathLane) : PathLane :=
  { k with live := false, cur := x, sched := [], acts := [], past := [], tones := endTones tones, filt := .quiet, opens := [],
           idleFrom := none, cutAt := none }

/-- The plays of path `p` end at tick `x`: their prefetchers stop. -/
def State.endFetches (s : State) (b p : Nat) (x : Tick) : State :=
  s.each (pathTones p) (fun s t => s.modPrefetch (b * 13 + t) (·.filter (fun f => Tick.le x f.start)))

/-- A stop at tick `x` reaches a lane of path `p` (R92): at once when the lane has been formed up to `x`, else as it comes to `x`. -/
def State.cutPath (s : State) (b p lane : Nat) (x : Tick) : State :=
  let key := pathKey b p lane
  let k := s.path key
  if k.live && Tick.before k.cur x then
    s.setPath key { k with
      sched := k.sched.filter (fun o => Tick.before o.tick x), cutAt := some x,
      opens := (k.opens.filter (fun o => Tick.before o.1 x)).map (fun o => (o.1, o.2.filter (fun r => Tick.before r x))) }
  else
    let k := k.finish x (k.tonesBefore x)
    (s.setPath key k).when (lane == 0) (fun s => (s.showTones b p k).endFetches b p x)

/-- A main path lane that a stop has not yet reached is ended at its tick `x`, in the tone state of the lane released before (R92). -/
def State.finishPath (s : State) (b p lane : Nat) (x : Tick) : State :=
  let m := s.path (pathKey b p 0)
  if m.cutAt = some x then
    let m := m.finish x (if lane = 0 then m.tones else (s.path (pathKey b p lane)).tones)
    ((s.setPath (pathKey b p 0) m).showTones b p m).endFetches b p x
  else s

/-- The pound and the berth's locks and paths discard everything for tick `x` and later; contexts whose window reaches
`x` are taken away at `x` (R92). -/
def State.cutBerth (s : State) (b : Nat) (x : Tick) : State :=
  let s := s.modPound b (·.filter (fun o => Tick.before o.tick x))
  let s := s.each [laneDrive b, laneFlux b, laneProbe b] (fun s l => s.modLockLane l (·.cut x))
  let s := s.each (List.range 13) (fun s t => s.modPrefetch (b * 13 + t) (·.filter (fun f => Tick.before f.start x)))
  let s := s.each [0, 1, 2] (fun s p => s.each [0, 1, 2, 3, 4] (fun s i => s.cutPath b p i x))
  let s := s.each [0, 1] (fun s c => s.modCtx (2 * b + c) (fun k =>
    if k.busy && Tick.before x (k.tb + 64) then { k with cut := some x } else k))
  let s := s.each [4 * b, 4 * b + 1, 4 * b + 2, 4 * b + 3] (fun s i => s.modDemod i (fun d => { d with
    sched := d.sched.filter (fun e => Tick.before e.1 x) }))
  s.modMuted b (·.filter (fun m => Tick.before m.tick x))

/-! ## The cursor -/

/-- The pilot's cursor opens at tick `t` (R65): each main path lane forms an open idle entry from there. -/
def State.openPaths (s : State) (b : Nat) (t : Tick) : State :=
  s.each [0, 1, 2] (fun s p => s.modPath (pathKey b p 0) (fun k =>
    match k.opens.getLast? with
    | some (_, none) => k
    | _ => if k.live || !k.opens.isEmpty then { k with opens := k.opens ++ [(t, none)] } else k))

/-- Coverage resumes at tick `t` with the first order emitted after the cursor opened, or at a batch start (R32, R72). A tick already
formed when the cursor opened is not formed again. -/
def State.resumePaths (s : State) (b : Nat) (t : Tick) : State :=
  s.each [0, 1, 2] (fun s p => s.modPath (pathKey b p 0) (fun k =>
    match k.opens.reverse with
    | (o, none) :: l => { k with opens := l.reverse ++ [(o, some t)] }
    | l =>
      if !k.live && l.isEmpty then
        { k with live := true, cur := if k.idleFrom = some (t + 1) then t + 1 else t, idleFrom := none, cutAt := none }
      else match k.cutAt with
        | some x => if l.any (fun o => o.1 == x) then k else { k with opens := k.opens ++ [(x, some t)] }
        | none => k))

/-! ## PLT_STAT -/

/-- Pilot states of PLT_STAT.STATE (R111). -/
def plt.idle : Nat := 0
def plt.run : Nat := 1
def plt.poundFull : Nat := 2
def plt.runAhead : Nat := 3
def plt.waitEvent : Nat := 4
def plt.waitDecision : Nat := 5
def plt.join : Nat := 6
def plt.held : Nat := 7
def plt.stopped : Nat := 8

/-- The pilot of berth `b` is IDLE. -/
def State.pltIdle (s : State) (b : Nat) : Bool := s.get (PLT_STAT.STATE b) == plt.idle

/-- A batch is accepted or running on berth `b`: its pilot has not ended it, or its last tick is still to be released. -/
def State.pilotActive (s : State) (b : Nat) : Bool :=
  let st := s.get (PLT_STAT.STATE b)
  let g := s.ledger b
  (s.pilot b).start.isSome || (st != plt.idle && st != plt.stopped) || (st == plt.idle && g.state != 0 && !g.ended)

/-- Orders held, in PND_STAT (R33). -/
def State.showPound (s : State) (b : Nat) : State :=
  let n := (s.pound b).length
  (s.set (PND_STAT.OCC b) n).setBit (PND_STAT.FULL b) (decide (64 ≤ n))

/-- Ends the batch of a pilot (R88, R92): idle, cursor open, no stack, latch or stage left. -/
def Pilot.ended (p : Pilot) : Pilot :=
  { p with busy := false, wait := .none, stages := [], wins := [], opened := true, trap := none }

/-- Stops the pilot of berth `b` (R92) at tick X = min(TC, TICK + 48): everything from X on is discarded; at X the shot
ends ABANDONED with the cause given. The pilot shows STOPPED until X. -/
def State.stopPilot (s : State) (b cause : Nat) : State :=
  let p := s.pilot b
  let x := Tick.min p.tc (s.tick + 48)
  let s := s.setPilot b { p.ended with latch := none, lastCtx := none, start := none }
  let s := s.cutBerth b x
  let s := s.modLedger b (fun g => { g with stopAt := some (x, cause) })
  let s := (s.setBit (PLT_CTRL.STOP b) false).setBit (PLT_CTRL.STOP_BND b) false
  (s.set (PLT_STAT.STATE b) plt.stopped).showPound b

/-- A pilot fault: its payload is the berth and the PC of the instruction in progress (R97, R113). -/
def State.pilotFault (s : State) (b src : Nat) : State := s.raise src (slot b ++ slot (s.pilot b).pc.toNat)

/-- SHL causes (R94). -/
def cause.lateBarge : Nat := 1
def cause.ingressLate : Nat := 2
def cause.lateDecision : Nat := 3
def cause.underrun : Nat := 4
def cause.lostBoundary : Nat := 5
def cause.stop : Nat := 6
def cause.pilotFault : Nat := 7
def cause.berthReset : Nat := 8
def cause.chipReset : Nat := 9
def cause.takeover : Nat := 10

/-- A stopping pilot fault (R97): PLT_STACK and PLT_ILLEGAL stop the pilot at the microword that detects them (R113). -/
def State.pilotAbort (s : State) (b src : Nat) : State := (s.pilotFault b src).stopPilot b cause.pilotFault

end Sys2Proof.Machine
end

