-- ==== Sys2Proof/Machine/Pilot.lean ====
section
/-! DEFINITION. The pilots: every instruction's meaning (R61 to R93), safe points (R111), snapshots, and the control store's
events (R114 to R119). An instruction command names the pilot; what runs is the instruction at the pilot's PC. -/

namespace Sys2Proof.Machine

/-! ## Fetching -/

/-- The instruction word of program memory address `a`. -/
def State.pword (s : State) (b : Nat) (a : BitVec 14) : Word := s.progWord (b * 16384 + a.toNat)

/-- The instruction at an address, with its length; `none` where R99 makes it illegal, which includes an extension word
beyond address 16,383. -/
def State.pinstr (s : State) (b : Nat) (a : BitVec 14) : Option (PInstr × Nat) :=
  match decodePilot (s.pword b a) (s.pword b (a + 1)) with
  | some (i, n) => if 16384 < a.toNat + n then none else some (i, n)
  | none => none

/-- The length of the instruction at an address by its EXT bit (R98). -/
def State.plen (s : State) (b : Nat) (a : BitVec 14) : Nat := 1 + (fld (s.pword b a) 24 1).toNat

/-- The first JOIN or BRD at address `a` or after it: where an alternative's addresses end (R79). -/
def State.altEnd (s : State) (b : Nat) : Nat → BitVec 14 → BitVec 14
  | 0, a => a
  | n + 1, a =>
    let op := (s.pword b a).toNat / 2 ^ 25
    if op = 0x50 ∨ op = 0x51 then a
    else if 16384 ≤ a.toNat + s.plen b a then a
    else s.altEnd b n (a + BitVec.ofNat 14 (s.plen b a))

/-! ## Moving the PC -/

/-- Reaching the end of the instruction at `a` (R71): the innermost block that ends there loops or is popped, and the next
enclosing one is asked. -/
def repEnd : List RepLevel → BitVec 14 → List RepLevel × Option (BitVec 14)
  | [], _ => ([], none)
  | l :: t, a =>
    if l.last = a then
      if 1 < l.left.toNat then ({ l with left := l.left - 1 } :: t, some l.first) else repEnd t a
    else (l :: t, none)

/-- The pilot after the instruction at its PC, of `n` words; `none` when PC advances beyond 16,383. -/
def Pilot.past (p : Pilot) (a : BitVec 14) (n : Nat) : Option Pilot :=
  match repEnd p.reps a with
  | (r, some f) => some { p with reps := r, pc := f }
  | (r, none) => if a.toNat + n < 16384 then some { p with reps := r, pc := a + BitVec.ofNat 14 n } else none

/-- Stores pilot `p` advanced past its instruction, or stops it under R99. -/
def State.advance (s : State) (b : Nat) (p : Pilot) (n : Nat) : State :=
  match p.past p.pc n with
  | some p' => s.setPilot b p'
  | none => (s.setPilot b p).pilotAbort b Src.PLT_ILLEGAL

/-- A repeat block holds an address (R71). -/
def RepLevel.holds (l : RepLevel) (a : BitVec 14) : Bool := l.first.ule a && a.ule l.last

/-- A taken jump to `t` pops the levels whose block does not hold it, innermost first (R71). -/
def Pilot.jumpTo (p : Pilot) (t : BitVec 14) : Pilot :=
  { p with pc := t, reps := p.reps.dropWhile (fun l => !l.holds t) }

/-! ## Running one instruction -/

/-- The tick difference TC − TICK exceeds MAX_LEAD, where values below 256 act as 256 (R66). -/
def State.aheadLimit (s : State) (b : Nat) (p : Pilot) : Bool :=
  decide (Tick.diff s.tick p.tc > Nat.max 256 (s.get (PLT_TIME_CFG.MAX_LEAD b)))

/-- The pilot executes: in RUN, nothing waited for, no order held by EMIT. -/
def State.pltReady (s : State) (b : Nat) (p : Pilot) : Bool :=
  s.get (PLT_STAT.STATE b) == plt.run && p.wait == .none && p.latch == none

/-- A target lies inside the alternative being staged (R79). -/
def Stage.holds (g : Stage) (a : BitVec 14) : Bool := g.lo.ule a && a.ule g.hi

/-- The instructions an alternative executes (R79); every other one is a NOP and raises BRANCH_FORM. -/
def Stage.allows (g : Stage) (pc : BitVec 14) : PInstr → Bool
  | .play .. | .probe .. | .flux .. | .phase .. | .phasep .. | .mark .. => true
  | .wait _ | .nop | .brd _ | .shot _ | .join => true
  | .rep _ l => g.holds l && pc.ult l
  | .jmp t => g.holds t
  | .jcc _ t => g.holds t
  | _ => false

/-- One instruction of pilot `b`: `body` gives the effect of the instruction it is a command for, and `none` for any other,
which leaves the state unchanged. An illegal word stops the pilot (R99); the run-ahead limit stalls it (R66); a form an
alternative does not execute is a NOP (R79). -/
def State.pilotDo (s : State) (b : Nat) (body : PInstr → Option (Pilot → Nat → State → State)) : State :=
  let p := s.pilot b
  if !s.pltReady b p then s
  else match s.pinstr b p.pc with
    | none => s.pilotAbort b Src.PLT_ILLEGAL
    | some (i, n) =>
      match body i with
      | none => s
      | some f =>
        if s.aheadLimit b p then s.set (PLT_STAT.STATE b) plt.runAhead
        else match p.stages with
          | g :: _ => if g.allows p.pc i then f p n s else (s.pilotFault b Src.BRANCH_FORM).advance b p n
          | [] => f p n s

/-! ## Lockstep (R342) -/

/-- A berth of a standby twin that runs in lockstep with the active twin. -/
def State.lockstep (s : State) (b : Nat) : Bool :=
  s.twinRole == 3 && (if b < 32 then (s.get TWIN_LOCKSTEP_LO.MASK).testBit b else (s.get TWIN_LOCKSTEP_HI.MASK).testBit (b - 32))

/-- The first LOG entry of a kind for berth `b`, taken; TWIN_LOG_LAG keeps the longest wait. -/
def State.takeLog (s : State) (b kind : Nat) : Option (BitVec 48 × State) :=
  match takeFirst (fun (e : BitVec 3 × BitVec 48) => e.1.toNat == kind) (s.log b) with
  | none => none
  | some (e, rest) =>
    let lag := match s.logStall b with | some t => (Tick.diff t s.tick).toNat | none => 0
    let s := (s.setLog b rest).setLogStall b none
    some (e.2, s.set TWIN_LOG_LAG.COUNT (Nat.max lag (s.get TWIN_LOG_LAG.COUNT)))

/-- An instruction whose result depends on timing or on outside data: in lockstep it takes the result from its LOG entry, or stalls
until one arrives; else it computes it. Kinds: 0 TSYNC, 1 GETTK, 2 WAITE, 3 WAITD, 4 BRD, 5 LDP. -/
def State.logged (s : State) (b kind : Nat) (use : BitVec 48 → State → State) (own : State → State) : State :=
  if !s.lockstep b then own s
  else match s.takeLog b kind with
    | some (r, s) => use r s
    | none => if (s.logStall b).isSome then s else s.setLogStall b (some s.tick)

/-! ## Computation (R68) -/

/-- A computation writes Vd and the flags. -/
def State.pilotAlu (s : State) (b : Nat) (op : AluOp) : State :=
  s.pilotDo b (fun
    | .alu o d a r => if o = op then some (fun p n s =>
        let x := op.eval (p.v a) (p.val r)
        s.advance b ((p.setV d x.val).flags x) n) else none
    | _ => none)

def execMov (b : Fin 64) (s : State) : Host.Outcome State Fault Refusal := .next <| s.pilotDo b (fun
  | .mov d v => some (fun p n s => s.advance b (p.setV d (p.v v)) n)
  | _ => none)

def execMovi (b : Fin 64) (s : State) : Host.Outcome State Fault Refusal := .next <| s.pilotDo b (fun
  | .movi d w => some (fun p n s => s.advance b (p.setV d w) n)
  | _ => none)

def execAdd (b : Fin 64) (s : State) : Host.Outcome State Fault Refusal := .next (s.pilotAlu b .add)
def execSub (b : Fin 64) (s : State) : Host.Outcome State Fault Refusal := .next (s.pilotAlu b .sub)
def execAnd (b : Fin 64) (s : State) : Host.Outcome State Fault Refusal := .next (s.pilotAlu b .and)
def execOr (b : Fin 64) (s : State) : Host.Outcome State Fault Refusal := .next (s.pilotAlu b .or)
def execXor (b : Fin 64) (s : State) : Host.Outcome State Fault Refusal := .next (s.pilotAlu b .xor)
def execShl (b : Fin 64) (s : State) : Host.Outcome State Fault Refusal := .next (s.pilotAlu b .shl)
def execShr (b : Fin 64) (s : State) : Host.Outcome State Fault Refusal := .next (s.pilotAlu b .shr)
def execSar (b : Fin 64) (s : State) : Host.Outcome State Fault Refusal := .next (s.pilotAlu b .sar)
def execMul (b : Fin 64) (s : State) : Host.Outcome State Fault Refusal := .next (s.pilotAlu b .mul)
def execMulq (b : Fin 64) (s : State) : Host.Outcome State Fault Refusal := .next (s.pilotAlu b .mulq)

def execCmp (b : Fin 64) (s : State) : Host.Outcome State Fault Refusal := .next <| s.pilotDo b (fun
  | .cmp a r => some (fun p n s => s.advance b (p.flags (aluSub (p.v a) (p.val r))) n)
  | _ => none)

def execTst (b : Fin 64) (s : State) : Host.Outcome State Fault Refusal := .next <| s.pilotDo b (fun
  | .tst a r => some (fun p n s => s.advance b (p.flags (aluAnd (p.v a) (p.val r))) n)
  | _ => none)

/-- LDP: Z and N follow the word loaded; an address outside 0 to 1,023 loads 0 and raises PLT_PARAM. -/
def execLdp (b : Fin 64) (s : State) : Host.Outcome State Fault Refusal := .next <| s.pilotDo b (fun
  | .ldp d a o => some (fun p n s =>
      let k := (p.v a + o).toNat
      let w := if k < 1024 then s.rd (R.PARAM b k) else 0
      let put (w : Word) (s : State) : State := s.advance b ((p.setV d w).flags ⟨w, p.c⟩) n
      s.logged b 5 (fun r s => put (r.setWidth 32) s) (fun s => put w (s.when (1024 ≤ k) (·.pilotFault b Src.PLT_PARAM))))
  | _ => none)

/-- STP: a store outside 0 to 1,023 is ignored and raises PLT_PARAM. -/
def execStp (b : Fin 64) (s : State) : Host.Outcome State Fault Refusal := .next <| s.pilotDo b (fun
  | .stp v a o => some (fun p n s =>
      let k := (p.v a + o).toNat
      (if k < 1024 then s.wr (R.PARAM b k) (p.v v) else s.pilotFault b Src.PLT_PARAM).advance b p n)
  | _ => none)

/-- A tick into Vd (low half) and V(d+1). -/
def Pilot.setTick (p : Pilot) (d : BitVec 4) (t : Tick) : Pilot :=
  (p.setV d (t.setWidth 32)).setV (d + 1) ((t.extractLsb' 32 16).setWidth 32)

def execGettc (b : Fin 64) (s : State) : Host.Outcome State Fault Refusal := .next <| s.pilotDo b (fun
  | .gettc d => some (fun p n s => s.advance b (p.setTick d p.tc) n)
  | _ => none)

def execGettk (b : Fin 64) (s : State) : Host.Outcome State Fault Refusal := .next <| s.pilotDo b (fun
  | .gettk d => some (fun p n s => s.logged b 1 (fun r s => s.advance b (p.setTick d r) n)
      (fun s => s.advance b (p.setTick d s.tick) n))
  | _ => none)

def execGetd (b : Fin 64) (s : State) : Host.Outcome State Fault Refusal := .next <| s.pilotDo b (fun
  | .getd d => some (fun p n s => s.advance b (p.setV d p.dstat) n)
  | _ => none)

def execGetsid (b : Fin 64) (s : State) : Host.Outcome State Fault Refusal := .next <| s.pilotDo b (fun
  | .getsid d => some (fun p n s => s.advance b (p.setV d p.shotId) n)
  | _ => none)

def execNop (b : Fin 64) (s : State) : Host.Outcome State Fault Refusal := .next <| s.pilotDo b (fun
  | .nop => some (fun p n s => s.advance b p n)
  | _ => none)

/-! ## Control flow (R69 to R71) -/

def execJmp (b : Fin 64) (s : State) : Host.Outcome State Fault Refusal := .next <| s.pilotDo b (fun
  | .jmp t => some (fun p _ s => s.setPilot b (p.jumpTo t))
  | _ => none)

/-- The conditions of Jcc, by COND (R69). -/
def Pilot.cond (p : Pilot) (c : BitVec 3) : Bool :=
  match c.toNat with
  | 0 => p.z | 1 => !p.z | 2 => p.n | 3 => !p.n | 4 => p.c | 5 => !p.c | 6 => p.d | _ => !p.d

def execJcc (b : Fin 64) (s : State) : Host.Outcome State Fault Refusal := .next <| s.pilotDo b (fun
  | .jcc c t => some (fun p n s => if p.cond c then s.setPilot b (p.jumpTo t) else s.advance b p n)
  | _ => none)

def execCall (b : Fin 64) (s : State) : Host.Outcome State Fault Refusal := .next <| s.pilotDo b (fun
  | .call t => some (fun p n s =>
      if 8 ≤ p.calls.length then s.pilotAbort b Src.PLT_STACK
      else s.setPilot b { p with pc := t, calls := (p.pc + BitVec.ofNat 14 n, p.reps.length) :: p.calls })
  | _ => none)

/-- RET pops the return address and every repeat level pushed since the matching CALL. -/
def execRet (b : Fin 64) (s : State) : Host.Outcome State Fault Refusal := .next <| s.pilotDo b (fun
  | .ret => some (fun p _ s =>
      match p.calls with
      | [] => s.pilotAbort b Src.PLT_STACK
      | (r, k) :: t => s.setPilot b { p with pc := r, calls := t, reps := p.reps.drop (p.reps.length - k) })
  | _ => none)

/-- REP: a count of 0 skips the block, and counts as reaching its last instruction for the enclosing blocks. -/
def execRep (b : Fin 64) (s : State) : Host.Outcome State Fault Refusal := .next <| s.pilotDo b (fun
  | .rep c l => some (fun p n s =>
      if !p.pc.ult l then s.pilotAbort b Src.PLT_ILLEGAL
      else if p.val c = 0 then
        match p.past l (s.plen b l) with
        | some p' => s.setPilot b p'
        | none => s.pilotAbort b Src.PLT_ILLEGAL
      else if 4 ≤ p.reps.length then s.pilotAbort b Src.PLT_STACK
      else
        let f := p.pc + BitVec.ofNat 14 n
        s.setPilot b { p with pc := f, reps := { first := f, last := l, left := p.val c } :: p.reps })
  | _ => none)

/-! ## Time (R64, R72) -/

/-- Sets TC unless that moves it back, which raises TC_BACKWARD and leaves it. -/
def State.setTc (s : State) (b : Nat) (p : Pilot) (t : Tick) : State × Pilot :=
  if Tick.before t p.tc then (s.pilotFault b Src.TC_BACKWARD, p) else (s, { p with tc := t })

def execWait (b : Fin 64) (s : State) : Host.Outcome State Fault Refusal := .next <| s.pilotDo b (fun
  | .wait w => some (fun p n s => let (s, p) := s.setTc b p (p.tc + p.wide w); s.advance b p n)
  | _ => none)

def execAtTick (b : Fin 64) (s : State) : Host.Outcome State Fault Refusal := .next <| s.pilotDo b (fun
  | .atOrigin w => some (fun p n s => let (s, p) := s.setTc b p (p.origin + p.wide w); s.advance b p n)
  | _ => none)

def execTsync (b : Fin 64) (s : State) : Host.Outcome State Fault Refusal := .next <| s.pilotDo b (fun
  | .tsync w => some (fun p n s => s.logged b 0 (fun r s => s.advance b { p with tc := r } n)
      (fun s => s.advance b { p with tc := Tick.max p.tc (s.tick + p.wide w) } n))
  | _ => none)

/-- Opens the cursor at TC (R65). -/
def State.openCursor (s : State) (b : Nat) (p : Pilot) : State := (s.setPilot b { p with opened := true }).openPaths b p.tc

def execWaite (b : Fin 64) (s : State) : Host.Outcome State Fault Refusal := .next <| s.pilotDo b (fun
  | .waite ch lead => some (fun p _ s =>
      s.logged b 2 (fun r s => s.advance b { p with tc := Tick.max p.tc r, lastCh := some ch } (s.plen b p.pc))
        (fun s => (s.openCursor b { p with wait := .event ch lead, lastCh := some ch }).set (PLT_STAT.STATE b) plt.waitEvent))
  | _ => none)

/-- The source named by a decision operand: local, or the PLT_RSRC entry; `none` for an entry not VALID (R99). -/
def State.decSource (s : State) (b : Nat) (o : DecOpnd) : Option (BitVec 8 × BitVec 12 × Bool) :=
  if !o.rem then some (o.src, 0, false)
  else
    let i := o.src.toNat % 16
    if s.bit (PLT_RSRC.VALID b i) then
      some (BitVec.ofNat 8 (s.get (PLT_RSRC.SRC b i)), BitVec.ofNat 12 (s.get (PLT_RSRC.DEV b i)), true)
    else none

def execWaitd (b : Fin 64) (s : State) : Host.Outcome State Fault Refusal := .next <| s.pilotDo b (fun
  | .waitd o => some (fun p _ s =>
      match s.decSource b o with
      | none => s.pilotAbort b Src.PLT_ILLEGAL
      | some (src, dev, rem) =>
        s.logged b 3 (fun r s => s.advance b { p with d := r.getLsbD 32, dstat := r.setWidth 32 } (s.plen b p.pc))
          (fun s => (s.openCursor b { p with wait := .decision src dev rem (p.tc - o.de.setWidth 48) o.mask o.dflt none }).set
            (PLT_STAT.STATE b) plt.waitDecision))
  | _ => none)

/-- Resumes a waiting pilot past its instruction with TC raised to `t`. -/
def State.pilotResume (s : State) (b : Nat) (p : Pilot) (t : Tick) : State :=
  let p := { p with wait := .none, opened := false, tc := Tick.max p.tc t }
  (s.set (PLT_STAT.STATE b) plt.run).advance b p (s.plen b p.pc)

/-- The decision status (R86). -/
def decStatus (state : BitVec 2) (valid late lane : Bool) (bid : BitVec 8) (slack : Nat) : Word :=
  BitVec.ofNat 32 (state.toNat + valid.toNat * 4 + late.toNat * 8 + lane.toNat * 16 + bid.toNat * 256
    + (if late then 0 else Nat.min slack 65535) * 65536)

/-- A WAITD resolves (R73): D, the decision status with BID 0xFF, and on. -/
def State.resolveWaitd (s : State) (b : Nat) (state : BitVec 2) (valid late d : Bool) (slack : Nat) : State :=
  let p := s.pilot b
  s.pilotResume b { p with d := d, dstat := decStatus state valid late d 0xFF slack } p.tc

/-! ## Orders (R74) -/

/-- Emits an order at TC: it waits at the EMIT microword for the pound. The first one after the cursor opened resumes coverage at its tick
(R72). Inside an alternative it goes to that lane, and at TB + 64 or later it is discarded with BRANCH_FORM (R78, R80). -/
def State.emit (s : State) (b : Nat) (p : Pilot) (k : OrdKind) : State × Pilot :=
  match p.stages with
  | [] =>
    (s.resumePaths b p.tc,
      { p with latch := some { tick := p.tc, kind := k, lane := 0, ctx := 0, bid := 0xFF, excess := false, lead := 0 } })
  | g :: _ =>
    if Tick.le (g.tb + 64) p.tc then (s.pilotFault b Src.BRANCH_FORM, p)
    else (s, { p with latch := some { tick := p.tc, kind := k, lane := if g.phase = .a then 1 else 2,
                                      ctx := BitVec.ofNat 1 g.ctx, bid := g.bid, excess := false, lead := 0 } })

/-- An instruction that emits one order. -/
def State.pilotEmit (s : State) (b : Nat) (body : PInstr → Option (Pilot → OrdKind)) : State :=
  s.pilotDo b (fun i => (body i).map (fun k p n s => let (s, p) := s.emit b p (k p); s.advance b p n))

def execPlay (b : Fin 64) (s : State) : Host.Outcome State Fault Refusal := .next <| s.pilotEmit b (fun
  | .play t seg amp ph => some (fun p => .tonePlay seg t ((p.val amp).setWidth 18) (p.val ph))
  | _ => none)

def execFreq (b : Fin 64) (s : State) : Host.Outcome State Fault Refusal := .next <| s.pilotEmit b (fun
  | .freq t f => some (fun p => .freqSet t false (p.wide f))
  | _ => none)

def execPhase (b : Fin 64) (s : State) : Host.Outcome State Fault Refusal := .next <| s.pilotEmit b (fun
  | .phase t d => some (fun p => .phaseShift t false (p.val d))
  | _ => none)

def execProbe (b : Fin 64) (s : State) : Host.Outcome State Fault Refusal := .next <| s.pilotEmit b (fun
  | .probe t seg amp ph => some (fun p => .probePlay seg t ((p.val amp).setWidth 18) (p.val ph))
  | _ => none)

def execFreqp (b : Fin 64) (s : State) : Host.Outcome State Fault Refusal := .next <| s.pilotEmit b (fun
  | .freqp t f => some (fun p => .freqSet (t.setWidth 3) true (p.wide f))
  | _ => none)

def execPhasep (b : Fin 64) (s : State) : Host.Outcome State Fault Refusal := .next <| s.pilotEmit b (fun
  | .phasep t d => some (fun p => .phaseShift (t.setWidth 3) true (p.val d))
  | _ => none)

def execFlux (b : Fin 64) (s : State) : Host.Outcome State Fault Refusal := .next <| s.pilotEmit b (fun
  | .flux seg amp => some (fun p => .fluxPulse seg ((p.val amp).setWidth 18))
  | _ => none)

def execBias (b : Fin 64) (s : State) : Host.Outcome State Fault Refusal := .next <| s.pilotEmit b (fun
  | .bias c => some (fun p => .biasSet ((p.val c).setWidth 18))
  | _ => none)

def execMark (b : Fin 64) (s : State) : Host.Outcome State Fault Refusal := .next <| s.pilotEmit b (fun
  | .mark m e => some (fun _ => .marker m e)
  | _ => none)

/-! ### Measure windows (R76) -/

/-- The program's window of demodulation tone `k`. -/
def Pilot.win (p : Pilot) (k : Nat) : Option (Tick × Bool) := Store.read (fun _ => none) p.wins k
def Pilot.setWin (p : Pilot) (k : Nat) (o : Option (Tick × Bool)) : Pilot :=
  { p with wins := Store.write (fun _ => none) p.wins k o }

/-- The tick at which a window opened that is still open at tick `t`: one closed too soon stays open for four ticks. -/
def winOpen (t : Tick) : Option (Tick × Bool) → Option Tick
  | some (o, short) => if short ∧ 4 ≤ Tick.diff o t then none else some o
  | none => none

/-- One tone of an MOPEN: a window still open is ignored for the tone, one open for 4,096 ticks has closed; each rule
applied raises WINDOW_FORM. The mask keeps the tones that open. -/
def openTone (b : Nat) (mask : BitVec 4) (a : State × Pilot × BitVec 4) (k : Nat) : State × Pilot × BitVec 4 :=
  let (s, p, m) := a
  if !mask.getLsbD k then a
  else match winOpen p.tc (p.win k) with
    | none => (s, p.setWin k (some (p.tc, false)), m ||| (1#4 <<< k))
    | some o =>
      if Tick.diff o p.tc < 4096 then (s.pilotFault b Src.WINDOW_FORM, p, m)
      else (s.pilotFault b Src.WINDOW_FORM, p.setWin k (some (p.tc, false)), m ||| (1#4 <<< k))

def execMopen (b : Fin 64) (s : State) : Host.Outcome State Fault Refusal := .next <| s.pilotDo b (fun
  | .mopen mask w => some (fun p n s =>
      let (s, p, m) := (List.range 4).foldl (openTone b mask) (s, p, 0)
      let (s, p) := s.emit b p (.measure false m w)
      s.advance b p n)
  | _ => none)

/-- One tone of an MCLOSE: a window that is not open is ignored for the tone, a short one ends at its fourth tick, one
open for more than 4,096 ticks has closed. -/
def closeTone (b : Nat) (mask : BitVec 4) (a : State × Pilot × BitVec 4) (k : Nat) : State × Pilot × BitVec 4 :=
  let (s, p, m) := a
  if !mask.getLsbD k then a
  else match winOpen p.tc (p.win k) with
    | none => (s.pilotFault b Src.WINDOW_FORM, p.setWin k none, m)
    | some o =>
      let d := Tick.diff o p.tc
      if 4096 < d then ((s.pilotFault b Src.WINDOW_FORM).pilotFault b Src.WINDOW_FORM, p.setWin k none, m)
      else (s.when (d < 4) (·.pilotFault b Src.WINDOW_FORM), p.setWin k (if d < 4 then some (o, true) else none),
        m ||| (1#4 <<< k))

def execMclose (b : Fin 64) (s : State) : Host.Outcome State Fault Refusal := .next <| s.pilotDo b (fun
  | .mclose mask => some (fun p n s =>
      let (s, p, m) := (List.range 4).foldl (closeTone b mask) (s, p, 0)
      let (s, p) := s.emit b p (.measure true m 0)
      s.advance b p n)
  | _ => none)

/-- A shot boundary closes every window still open; each is one rule applied. -/
def State.boundaryWins (s : State) (b : Nat) (p : Pilot) : State × Pilot :=
  (s.each (p.wins.filter (fun w => (winOpen p.tc w.2).isSome)) (fun s _ => s.pilotFault b Src.WINDOW_FORM), { p with wins := [] })

/-! ## Branches (R77 to R85) -/

/-- A context of berth `b` is free. -/
def State.ctxFree (s : State) (b c : Nat) : Bool := !(s.ctx (2 * b + c)).busy && !(s.ctx (2 * b + c)).claimed

/-- The context a BRD outside any alternative arms (R56): when both are free, the one the last BRD did not arm. -/
def State.pickCtx (s : State) (b : Nat) (p : Pilot) : Option Nat :=
  match s.ctxFree b 0, s.ctxFree b 1 with
  | true, true => some (match p.lastCtx with | some 0 => 1 | _ => 0)
  | true, false => some 0
  | false, true => some 1
  | false, false => none

/-- The addresses of the alternative that starts at `a` (R79). -/
def State.altRange (s : State) (b : Nat) (a : BitVec 14) : BitVec 14 × BitVec 14 := (a, s.altEnd b 16384 a)

/-- Arms a branch at TC in context `c` and starts staging alternative A: the branch-arm order carries the values, in the
main lane, or in the lane of the alternative that holds a nested branch (R77, R78, R107). -/
def State.armBranch (s : State) (b : Nat) (p : Pilot) (n c : Nat) (o : DecOpnd)
    (src : BitVec 8) (dev : BitVec 12) (rem : Bool) : State :=
  let (lane, octx) : BitVec 2 × BitVec 1 :=
    match p.stages with
    | [] => (0, 0)
    | g :: _ => (if g.phase = .a then 1 else 2, BitVec.ofNat 1 g.ctx)
  let ord : Order :=
    { tick := p.tc, kind := .branchArm (p.tc - o.de.setWidth 48) src dev rem o.mask o.dflt, lane := lane, ctx := octx,
      bid := o.bid, excess := false, lead := 0 }
  let a := p.pc + BitVec.ofNat 14 n
  let (lo, hi) := s.altRange b a
  let g : Stage :=
    { ctx := c, tb := p.tc, bid := o.bid, altB := p.pc + o.loff.setWidth 14, phase := .a, lo := lo, hi := hi,
      cont := none, shotA := none, shotB := none, inner := none, heldA := false }
  let outer := p.stages.map (fun h => if h.inner = none then { h with inner := some (h.phase = .b) } else h)
  -- the context counts as taken from here on (R56)
  let s := s.modCtx (2 * b + c) (fun k => { k with claimed := true, res := none, kept := none })
  (s.when (lane == 0) (·.resumePaths b p.tc)).setPilot b
    { p with latch := some ord, stages := g :: outer, lastCtx := some c, pc := a }

/-- A BRD that does not branch (R57): only its default alternative is staged, as part of the enclosing alternative. -/
def State.stageDefault (s : State) (b : Nat) (p : Pilot) (n : Nat) (o : DecOpnd) : State :=
  let a := if o.dflt then p.pc + o.loff.setWidth 14 else p.pc + BitVec.ofNat 14 n
  let (lo, hi) := s.altRange b a
  match p.stages with
  | g :: t =>
    (s.raise Src.BRANCH_NEST (slot b ++ slot g.bid.toNat ++ slot o.bid.toNat)).setPilot b
      { p with pc := a, stages := { g with lo := lo, hi := hi, heldA := g.heldA || g.phase = .a } :: t }
  | [] => s

/-- From the pilot `p` on, alternative `g` of a branch comes to a BRD whose branch tick lies inside the window (R57): what it executes
changes no variable and no flag (R79), so its course is settled. -/
def State.altMeetsBrd (s : State) (b : Nat) (g : Stage) : Nat → Pilot → Bool
  | 0, _ => false
  | fuel + 1, p =>
    if Tick.le (g.tb + 64) p.tc then false
    else match s.pinstr b p.pc with
      | none => false
      | some (i, n) =>
        let go (o : Option Pilot) : Bool := match o with | some p' => s.altMeetsBrd b g fuel p' | none => false
        if !g.allows p.pc i then go (p.past p.pc n)
        else match i with
          | .brd _ => true
          | .join => false
          | .shot _ => false
          | .wait w => go ({ p with tc := Tick.max p.tc (p.tc + p.wide w) }.past p.pc n)
          | .jmp t => go (some (p.jumpTo t))
          | .jcc c t => if p.cond c then go (some (p.jumpTo t)) else go (p.past p.pc n)
          | .rep c l =>
            if p.val c = 0 then go (p.past l (s.plen b l))
            else if 4 ≤ p.reps.length then false
            else
              let f := p.pc + BitVec.ofNat 14 n
              go (some { p with pc := f, reps := { first := f, last := l, left := p.val c } :: p.reps })
          | _ => go (p.past p.pc n)

/-- The alternative that `p` is not staging holds no BRD with a branch tick inside the window (R57). -/
def State.othersFree (s : State) (b : Nat) (p : Pilot) (g : Stage) : Bool :=
  if g.phase = .b then g.inner == none && !g.heldA
  else
    let (lo, hi) := s.altRange b g.altB
    let gb : Stage := { g with phase := .b, lo := lo, hi := hi }
    !s.altMeetsBrd b gb 65536 { p with tc := g.tb, pc := g.altB, reps := p.reps.filter (fun l => !g.holds l.first) }

def execBrd (b : Fin 64) (s : State) : Host.Outcome State Fault Refusal := .next <| s.pilotDo b (fun
  | .brd o => some (fun p n s =>
      match s.decSource b o with
      | none => s.pilotAbort b Src.PLT_ILLEGAL
      | some (src, dev, rem) =>
        match p.stages with
        | [] =>
          match s.pickCtx b p with
          | none => s
          | some c => s.armBranch b p n c o src dev rem
        | [g] =>
          if Tick.le (g.tb + 64) p.tc then (s.pilotFault b Src.BRANCH_FORM).advance b p n
          else if Tick.before g.tb p.tc && s.othersFree b p g && s.ctxFree b (1 - g.ctx) then
            s.armBranch b p n (1 - g.ctx) o src dev rem
          else s.stageDefault b p n o
        | g :: _ =>
          if Tick.le (g.tb + 64) p.tc then (s.pilotFault b Src.BRANCH_FORM).advance b p n
          else s.stageDefault b p n o)
  | _ => none)

/-- The pilot goes from alternative A to alternative B of the branch it is staging. -/
def State.toAltB (s : State) (b : Nat) (g : Stage) : Stage × BitVec 14 :=
  let (lo, hi) := s.altRange b g.altB
  ({ g with phase := .b, lo := lo, hi := hi }, g.altB)

/-- An alternative has ended at its JOIN or its shot boundary (R78, R84, R85): `c` is the instruction after the
JOIN (after a boundary, the continuation follows the alternative's last address). The end
of alternative A starts B at TB; the end of an inner alternative B ends the outer alternative that holds the branch; the
end of the outermost alternative B leaves the pilot stalled at JOIN. -/
def State.endAlt (s : State) (b : Nat) (p : Pilot) (c : Option (BitVec 14)) : State :=
  match p.stages with
  | [] => s
  | g :: t =>
    if g.phase = .a then
      let (g, pc) := s.toAltB b { g with cont := some (c.getD (g.hi + 1)) }
      s.setPilot b { p with stages := g :: t, tc := g.tb, pc := pc }
    else match t with
      | h :: u =>
        if h.phase = .a then
          -- the continuation of the nest follows the JOIN that ends the inner alternative A
          let (h, pc) := s.toAltB b { h with cont := g.cont }
          s.setPilot b { p with stages := { g with phase := .wait } :: h :: u, tc := h.tb, pc := pc }
        else
          (s.setPilot b { p with stages := { g with phase := .wait } :: { h with phase := .wait } :: u,
                                 wait := .join }).set (PLT_STAT.STATE b) plt.join
      | [] =>
        (s.setPilot b { p with stages := [{ g with phase := .wait }], wait := .join }).set (PLT_STAT.STATE b) plt.join

/-- The stage record an instruction of an alternative belongs to comes first; a finished inner branch goes behind it. -/
def frontStage (l : List Stage) : List Stage :=
  match l with
  | g :: h :: t => if g.phase = .wait ∧ h.phase ≠ .wait then h :: g :: t else l
  | _ => l

/-! ## Shots (R87 to R91) -/

/-- No shot follows: the count is used up, or a stop at boundary is pending. -/
def Pilot.lastShot (p : Pilot) : Bool := !p.endless && decide (p.left.toNat ≤ 1)

/-- Ends the batch at a boundary: idle, with the cursor open (R88, R89). -/
def State.endBatch (s : State) (b : Nat) (p : Pilot) (code : Nat) : State :=
  let s := (s.openCursor b p).modPilot b (·.ended)
  let s := s.modLedger b (fun g => { g with cancel := some (p.shotId + 1), endCode := code })
  (s.set (PLT_STAT.STATE b) plt.idle).setBit (PLT_CTRL.STOP_BND b) false

/-- What follows the closing boundary emitted by SHOT L (R88, R91, R92). -/
def State.afterShot (s : State) (b : Nat) (p : Pilot) (l : BitVec 14) : State :=
  let p := { p with left := if p.endless then p.left else p.left - 1 }
  if !p.endless && p.left == 0 then s.endBatch b p 0
  else if s.holdOn then
    let p := { p with shotId := p.shotId + 1, origin := p.tc, wait := .held l }
    (s.openCursor b p).set (PLT_STAT.STATE b) plt.held
  else if s.bit (PLT_CTRL.STOP_BND b) then s.endBatch b p 3
  else s.setPilot b { p with shotId := p.shotId + 1, origin := p.tc, pc := l }

/-- The boundary order of a SHOT or HALT: its LAST bit is set when the batch ends with it. -/
def State.boundaryOrder (s : State) (b : Nat) (p : Pilot) (halt : Bool) : OrdKind :=
  .shotBoundary p.shotId (halt || p.lastShot || (s.bit (PLT_CTRL.STOP_BND b) && !s.holdOn)) halt

def execShot (b : Fin 64) (s : State) : Host.Outcome State Fault Refusal := .next <| s.pilotDo b (fun
  | .shot l => some (fun p n s =>
      match p.stages with
      | [] =>
        let (s, p) := s.boundaryWins b p
        let (s, p) := s.emit b p (s.boundaryOrder b p false)
        s.afterShot b p l
      | g :: t =>
        if Tick.le (g.tb + 64) p.tc then (s.pilotFault b Src.BRANCH_FORM).advance b p n
        else
          let (s, p) := s.emit b p (s.boundaryOrder b p false)
          let g := if g.phase = .a then { g with shotA := some l } else { g with shotB := some l }
          s.endAlt b { p with stages := g :: t } none)
  | _ => none)

def execHalt (b : Fin 64) (s : State) : Host.Outcome State Fault Refusal := .next <| s.pilotDo b (fun
  | .halt => some (fun p _ s =>
      let (s, p) := s.boundaryWins b p
      let (s, p) := s.emit b p (s.boundaryOrder b p true)
      s.endBatch b p 1)
  | _ => none)

/-! ## Resolution at JOIN (R82, R84, R85) -/

/-- The context's decision status and D (R82, R86). -/
def Ctx.report (k : Ctx) (p : Pilot) : Pilot :=
  let lane := k.res.getD k.dflt
  let (st, v, t) := k.kept.getD (0, false, 0)
  { p with d := lane, dstat := decStatus st v k.late lane k.bid (Tick.diff t (k.tb - 2)).toNat }

/-- Goes on after a branch resolved to an alternative: the continuation at TB + 64, or what follows its SHOT with TC at the
boundary tick. -/
def State.leaveBranch (s : State) (b : Nat) (p : Pilot) (g : Stage) (lane : Bool) (k : Ctx) (cont : Option (BitVec 14)) :
    State :=
  let s := s.set (PLT_STAT.STATE b) plt.run
  let p := { p with wait := .none, stages := [] }
  match (if lane then g.shotB else g.shotA), (if lane then k.boundB else k.boundA) with
  | some l, some o =>
    let (s, p) := s.boundaryWins b { p with tc := o.tick }
    s.afterShot b p l
  | _, _ => s.setPilot b { p with tc := g.tb + 64, pc := cont.getD (p.pc + 1) }

/-- A pilot stalled at JOIN takes the outcome of its branches as far as they have resolved. -/
def State.pilotJoin (s : State) (b : Nat) : State :=
  let p := s.pilot b
  if p.wait ≠ .join then s
  else match p.stages with
    | [g] =>
      let k := s.ctx (2 * b + g.ctx)
      match k.res with
      | some lane => s.leaveBranch b (k.report p) g lane k g.cont
      | none => s
    | [g, h] =>
      let (g, h) := if g.inner.isSome then (h, g) else (g, h)
      let ko := s.ctx (2 * b + h.ctx)
      match ko.res with
      | none => s
      | some lane =>
        if h.inner = some lane then
          let ki := s.ctx (2 * b + g.ctx)
          match ki.res with
          | some li => s.leaveBranch b (ki.report p) g li ki h.cont
          | none => s
        else s.leaveBranch b (ko.report p) h lane ko h.cont
    | _ => s

/-- JOIN ends an alternative; outside one it is a NOP. -/
def execJoin (b : Fin 64) (s : State) : Host.Outcome State Fault Refusal := .next <| s.pilotDo b (fun
  | .join => some (fun p n s =>
      match p.stages with
      | [] => s.advance b p n
      | _ => ((s.endAlt b p (some (p.pc + 1))).modPilot b (fun p => { p with stages := frontStage p.stages })).pilotJoin b)
  | _ => none)

/-! ## Batch start, hold, run-ahead and stops -/

/-- The pilot sets every item of R61 and begins at the entry address; the first shot opens at the batch start tick. It runs from
the acceptance of the batch on, ahead of that tick. -/
def State.batchStart (s : State) (b : Nat) : State :=
  let p := s.pilot b
  match p.start with
  | none => s
  | some (t, entry, shot, n) =>
    let s := s.setPilot b { Pilot.init with
      tc := t, origin := t, pc := entry, shotId := shot, left := n, endless := n == 0, busy := true, opened := false,
      lastCh := p.lastCh }
    let s := (s.set (PLT_STAT.STATE b) plt.run).setBit (PLT_STAT.SNAP_VALID b) false
    let s := s.modLedger b (fun g => { g with
      inflight := shot, state := 1, cause := 0, opening := some (t, shot), full := 0, part := 0, aband := 0,
      cancel := none, endCode := 0, ended := false })
    s.resumePaths b t

/-- BATCH_START. -/
def execBatchStart (b : Fin 64) (s : State) : Host.Outcome State Fault Refusal := .next (s.batchStart b)

/-- RUN_AHEAD_RESUME: a pilot stalled by the run-ahead limit resumes (R66). -/
def execRunAheadResume (b : Fin 64) (s : State) : Host.Outcome State Fault Refusal :=
  .next (s.when (s.get (PLT_STAT.STATE b) == plt.runAhead && !s.aheadLimit b (s.pilot b))
    (·.set (PLT_STAT.STATE b) plt.run))

/-- SHOT_HOLD_RESUME: with the hold released, TC and the shot origin move to at least TICK + RESUME_LEAD (values below 64
act as 64) and the pilot continues at L (R91); a stop at boundary pending then ends the batch. -/
def execShotHoldResume (b : Fin 64) (s : State) : Host.Outcome State Fault Refusal :=
  let p := s.pilot b
  match p.wait with
  | .held l =>
    if s.holdOn || p.latch.isSome then .next s
    else if s.bit (PLT_CTRL.STOP_BND b) then
      .next ((((s.setPilot b p.ended).set (PLT_STAT.STATE b) plt.idle).setBit (PLT_CTRL.STOP_BND b) false).modLedger b
        (fun g => { g with state := if g.state = 4 then 0 else g.state, cancel := some p.shotId, endCode := 3, ended := g.ended || g.state == 4 }))
    else
      let t := Tick.max p.tc (s.tick + BitVec.ofNat 48 (Nat.max 64 (s.get (PLT_TIME_CFG.RESUME_LEAD b))))
      let s := s.setPilot b { p with wait := .none, opened := false, tc := t, origin := t, pc := l }
      let s := s.modLedger b (fun g => { g with opening := some (t, p.shotId) })
      .next (s.set (PLT_STAT.STATE b) plt.run)
  | _ => .next s

/-- PILOT_STOP: a pending stop acts at a safe point: a fault reaction before an immediate STOP (R111). -/
def execPilotStop (b : Fin 64) (s : State) : Host.Outcome State Fault Refusal :=
  -- a batch accepted and not begun ends with its first shot ABANDONED (R279)
  let s := s.when ((s.pilot b).trap.isSome || s.bit (PLT_CTRL.STOP b)) (·.batchStart b)
  let p := s.pilot b
  if !s.pilotActive b then
    .next ((s.setBit (PLT_CTRL.STOP b) false).modPilot b (fun p => { p with trap := none }))
  else match p.trap with
    | some c => .next (s.stopPilot b c)
    | none => .next (s.when (s.bit (PLT_CTRL.STOP b)) (·.stopPilot b cause.stop))

/-- STATE_SNAPSHOT: at a safe point a pending request copies variables, flags, TC and PC to the shadow registers (R111). -/
def execStateSnapshot (b : Fin 64) (s : State) : Host.Outcome State Fault Refusal :=
  let p := s.pilot b
  if !s.bit (PLT_CTRL.SNAP b) || p.trap.isSome || s.bit (PLT_CTRL.STOP b) then .next s
  else
    let s := s.each (List.range 16) (fun s i => s.wr (R.PLT_VAR b i) (p.v (BitVec.ofNat 4 i)))
    let s := (s.set (PLT_PC.PC b) p.pc.toNat).wr (R.PLT_FLAGS b)
      (BitVec.ofNat 32 (p.z.toNat + 2 * p.n.toNat + 4 * p.c.toNat + 8 * p.d.toNat))
    let s := s.setPair (R.PLT_TC_LO b) p.tc
    .next ((s.setBit (PLT_STAT.SNAP_VALID b) true).setBit (PLT_CTRL.SNAP b) false)

def execPltCtrlStop (b : Fin 64) (s : State) : Host.Outcome State Fault Refusal := .next (s.setBit (PLT_CTRL.STOP b) true)
def execPltCtrlStopBnd (b : Fin 64) (s : State) : Host.Outcome State Fault Refusal :=
  .next (s.setBit (PLT_CTRL.STOP_BND b) true)
def execPltCtrlSnap (b : Fin 64) (s : State) : Host.Outcome State Fault Refusal := .next (s.setBit (PLT_CTRL.SNAP b) true)

/-- PLT_PM_DATA_ACCESS: reads or writes the program word at PLT_PM_ADDR; the address increments after each access and wraps
at 16,383. A write is ignored while the pilot is not IDLE. -/
def execPltPmDataAccess (b : Fin 64) (write : Option Word) (s : State) : Host.Outcome State Fault Refusal :=
  let a := s.get (PLT_PM_ADDR.ADDR b)
  let key := b.val * 16384 + a
  let inc (s : State) : State := s.set (PLT_PM_ADDR.ADDR b) ((a + 1) % 16384)
  match write with
  | none => .next ((inc s).answer (s.progWord key))
  | some w => .next (if s.pltIdle b then inc ((s.setProgWord key w).wr (R.PLT_PM_DATA b) w) else s)

/-- The 144 bits of a pound entry (R105, R106). -/
def Order.bits (o : Order) : Nat :=
  let (ty, pay) : Nat × Nat := match o.kind with
    | .tonePlay seg t amp ph => (0, seg.toNat + t.toNat * 2 ^ 17 + amp.toNat * 2 ^ 20 + ph.toNat * 2 ^ 38)
    | .freqSet t pr f => (1, t.toNat + pr.toNat * 8 + f.toNat * 16)
    | .phaseShift t pr d => (2, t.toNat + pr.toNat * 8 + d.toNat * 16)
    | .fluxPulse seg amp => (3, seg.toNat + amp.toNat * 2 ^ 20)
    | .biasSet c => (4, c.toNat)
    | .probePlay seg t amp ph => (5, seg.toNat + t.toNat * 2 ^ 17 + amp.toNat * 2 ^ 20 + ph.toNat * 2 ^ 38)
    | .measure cl m w => (6, cl.toNat + m.toNat * 2 + w.toNat * 32)
    | .marker m e => (7, m.toNat + e.toNat * 16)
    | .shotBoundary id last halt => (8, id.toNat + last.toNat * 2 ^ 32 + halt.toNat * 2 ^ 33)
    | .branchArm e src dev rem mask d =>
      (9, e.toNat + src.toNat * 2 ^ 48 + dev.toNat * 2 ^ 56 + rem.toNat * 2 ^ 68 + mask.toNat * 2 ^ 69 + d.toNat * 2 ^ 73)
  o.tick.toNat + ty * 2 ^ 48 + o.lane.toNat * 2 ^ 52 + o.ctx.toNat * 2 ^ 54 + o.bid.toNat * 2 ^ 56 + pay * 2 ^ 64

/-- PND_VIEW_SEL_WRITE: copies the selected pound entry, 0 the oldest, into the view registers in one tick. -/
def execPndViewSelWrite (b : Fin 64) (idx : BitVec 6) (s : State) : Host.Outcome State Fault Refusal :=
  let s := s.set (PND_VIEW_SEL.IDX b) idx.toNat
  match (s.pound b)[idx.toNat]? with
  | none => .next (s.setBit (PND_VIEW_SEL.VALID b) false)
  | some o =>
    let s := s.setBit (PND_VIEW_SEL.VALID b) true
    .next (s.each (List.range 5) (fun s i => s.wr (R.PND_VIEW_DATA b i) (BitVec.ofNat 32 (o.bits >>> (32 * i)))))

/-- The six ledger registers of a berth, LAST_DONE first: on a standby twin the values mirrored from the active one (R94, R341). -/
def State.ledgerView (s : State) (b : Nat) : List Word :=
  let g := s.ledger b
  let seen := s.mirrorLedger b
  if s.twinRole = 3 ∧ seen.length = 6 then seen
  else [g.lastDone, g.inflight,
    BitVec.ofNat 32 (g.state.toNat + g.lastStatus.toNat * 16 + g.cause.toNat * 256 + g.lastCause.toNat * 4096),
    g.lastTick.setWidth 32, (g.lastTick.extractLsb' 32 16).setWidth 32, g.seq]

/-- SHL_LAST_DONE_READ: latches the other ledger registers from the same tick (R96). -/
def execShlLastDoneRead (b : Fin 64) (s : State) : Host.Outcome State Fault Refusal :=
  let v := s.ledgerView b
  let s := s.each [0, 1, 2, 3, 4, 5] (fun s i => s.wr (R.SHL_LAST_DONE b + 4 * i) (v.getD i 0))
  .next (s.answer (v.getD 0 0))

/-! ## The control store (R114 to R119) -/

/-- UC_DED (R115): the pilot stops at once, UC_VALID falls, and the management core reloads the store. -/
def State.ucDed (s : State) (b addr : Nat) : State :=
  let s := (s.set (UC_ECC_STAT.ADDR b) addr).setBit (UC_ECC_STAT.DED b) true
  let s := s.raise Src.UC_DED (slot b ++ slot addr)
  let s := (s.setBit (PLT_STAT.UC_VALID b) false).setBit (UC_VER.VALID b) false
  s.when (s.pilotActive b) (fun s => (s.batchStart b).stopPilot b cause.pilotFault)

/-- UC_SCRUB: one control store word is read and checked. `flaw` is what the check bits show: 0 none, 1 a single-bit error,
corrected in the word and in the store, 2 a double-bit error or a reserved CLASS. -/
def execUcScrub (b : Fin 64) (flaw : Fin 3) (s : State) : Host.Outcome State Fault Refusal :=
  let a := Store.read (fun _ => 0) s.ucScrub b
  let s := { s with ucScrub := Store.write (fun _ => 0) s.ucScrub b ((a + 1) % 8192) }
  if flaw = 0 then .next s
  else if flaw = 1 then
    let s := ((s.set (UC_ECC_STAT.ADDR b) a).setBit (UC_ECC_STAT.CE b) true).bump (UC_CE_CNT.COUNT b)
    .next (s.raise Src.UC_CE (slot b ++ slot a))
  else .next (s.ucDed b a)

/-- UC_RELOAD_DONE: the control store again holds its verified image (R115). -/
def execUcReloadDone (b : Fin 64) (s : State) : Host.Outcome State Fault Refusal :=
  .next ((s.setBit (PLT_STAT.UC_VALID b) true).setBit (UC_VER.VALID b) true)

/-- UC_PATCH_APPLY: a control store is rewritten with the committed patch, of level `level`, when its pilot is idle; a pilot whose batch
runs has the patch pending (R118). -/
def execUcPatchApply (b : Fin 64) (level : BitVec 8) (s : State) : Host.Outcome State Fault Refusal :=
  if level.toNat ≤ s.get (UC_VER.PATCH b) then .next s
  else if s.pltIdle b && !(s.pilot b).busy then .next ((s.set (UC_VER.PATCH b) level.toNat).setBit (PLT_STAT.PATCH_PEND b) false)
  else .next (s.setBit (PLT_STAT.PATCH_PEND b) true)

end Sys2Proof.Machine
end

