-- ==== Sys2Proof/Machine/Synth.lean ====
section
/-! DEFINITION. The basin, segments and tone synthesis (R120 to R147), the predistortion filter (R148 to R156), and the way of
an order from the pilot into its synthesis path (R30). -/

namespace Sys2Proof.Machine

/-! ## Memories -/

/-- Bytes of installed SDRAM: four channels of 64 GiB. -/
def sdramBytes : Nat := 2 ^ 38

/-- A byte of SDRAM. -/
def State.dramByte (s : State) (a : Nat) : BitVec 8 := Store.read (fun _ => 0) s.sdram a

/-- Stores bytes in SDRAM from address `a`. -/
def State.dramWrite (s : State) (a : Nat) (bs : List (BitVec 8)) : State :=
  { s with sdram := Store.writeList (fun _ => 0) s.sdram a bs }

/-- The 36-bit sample at a sample address of SDRAM: 4.5 bytes a sample (R124). -/
def State.dramSample (s : State) (n : Nat) : BitVec 36 :=
  let a := n * 9 / 2
  let w := (List.range 5).foldl (fun acc i => acc + (s.dramByte (a + i)).toNat * 256 ^ i) 0
  BitVec.ofNat 36 (w >>> (4 * (n % 2)))

/-- Address of the first window word of basin block `m` (R122). -/
def basinBlock (m : Nat) : Nat := 0x1000000 + 36 * m

/-- The sample at a basin address (R121): bits [36k+35:36k] of its block, k the address modulo 8. -/
def State.basinSample (s : State) (n : Nat) : BitVec 36 :=
  let bit := 36 * (n % 8)
  let a := basinBlock (n / 8) + 4 * (bit / 32)
  let w := (s.rd a).toNat + (s.rd (a + 4)).toNat * 2 ^ 32 + (if bit % 32 + 36 > 64 then (s.rd (a + 8)).toNat * 2 ^ 64 else 0)
  BitVec.ofNat 36 (w >>> (bit % 32))

/-- The I and Q halves of an envelope sample (R120). -/
def envI (v : BitVec 36) : BitVec 18 := v.extractLsb' 0 18
def envQ (v : BitVec 36) : BitVec 18 := v.extractLsb' 18 18

/-! ## Segment descriptors (R124, R125) -/

/-- Fields of a descriptor. -/
def desc.addr (d : BitVec 128) : Nat := (d.extractLsb' 0 36).toNat
def desc.length (d : BitVec 128) : Nat := (d.extractLsb' 36 20).toNat
def desc.loops (d : BitVec 128) : Nat := (d.extractLsb' 56 16).toNat
def desc.next (d : BitVec 128) : BitVec 17 := d.extractLsb' 72 17
def desc.link (d : BitVec 128) : Bool := d.getLsbD 89
def desc.smark (d : BitVec 128) : BitVec 4 := d.extractLsb' 90 4
def desc.smarkLoop (d : BitVec 128) : Bool := d.getLsbD 94
def desc.src (d : BitVec 128) : Nat := (d.extractLsb' 96 2).toNat
def desc.valid (d : BitVec 128) : Bool := d.getLsbD 127

/-- SBUF_WPTR and SBUF_RPTR: samples written and next sample to be played, modulo the ring size (R135). -/
def State.showSbuf (s : State) (i : Nat) : State :=
  let ring := s.get (SBUF_SIZE.SIZE i) * 64
  (s.set (SBUF_WPTR.WPTR i) ((s.sbufCnt i).1 % ring)).set (SBUF_RPTR.RPTR i) ((s.sbufCnt i).2 % ring)

/-- The descriptor is usable (R125). -/
def State.descOk (s : State) (d : BitVec 128) : Bool :=
  desc.valid d && desc.length d != 0 &&
  (match desc.src d with
   | 0 => decide (desc.addr d % 2 ^ 24 + desc.length d ≤ 0xAAAAA8)
   | 1 => decide (desc.addr d % 8 = 0) && decide ((desc.addr d + desc.length d) * 9 / 2 ≤ sdramBytes)
   | 2 => s.get (SBUF_SIZE.SIZE (desc.addr d % 64)) != 0
   | _ => false)

/-! ## Jumps, plays and boundaries (R127, R137 to R139) -/

/-! ### Prefetchers (R131) -/

/-- A streamed segment: from SDRAM or from a stream buffer. -/
def desc.streamed (d : BitVec 128) : Bool := desc.src d == 1 || desc.src d == 2

/-- Passes of a walked segment; `none` repeats until the play ends (R124). -/
def Fetch.passes (f : Fetch) : Option Nat := if desc.loops f.desc = 0xFFFF then none else some (desc.loops f.desc + 1)

/-- A segment of up to 512 ticks is fetched once and replayed from the buffer. -/
def Fetch.whole (f : Fetch) : Bool := decide (desc.length f.desc ≤ 512)

/-- Blocks of one pass. -/
def Fetch.perPass (f : Fetch) : Nat := (desc.length f.desc + 7) / 8

/-- Blocks that are still to arrive. -/
def Fetch.open_ (f : Fetch) : Bool :=
  desc.streamed f.desc && (if f.whole then decide (f.next < f.perPass) else match f.passes with
    | some n => decide (f.next < n * f.perPass)
    | none => true)

/-- The tick that follows the last pass. -/
def Fetch.endTick (f : Fetch) : Option Tick := f.passes.map (fun n => f.begun + BitVec.ofNat 48 (n * desc.length f.desc))

/-- Samples from the segment's start to the first one of block `n`, its pass, and its place in the pass. -/
def Fetch.blockPass (f : Fetch) (n : Nat) : Nat := if f.whole then 0 else n / f.perPass
def Fetch.blockPos (f : Fetch) (n : Nat) : Nat := (if f.whole then n else n % f.perPass) * 8

/-- The tick of the first sample of block `n` (R132). -/
def Fetch.blockTick (f : Fetch) (n : Nat) : Tick :=
  f.begun + BitVec.ofNat 48 (f.blockPass n * desc.length f.desc + f.blockPos n)

/-- The walked segment that a play reads. -/
def State.fetchOf (s : State) (b t : Nat) (pl : Play) : Option Fetch :=
  (s.prefetch (b * 13 + t)).find? (fun f =>
    !f.jump && f.lane == pl.lane && f.start == pl.start && f.begun == pl.begun && f.seg == pl.seg)

/-- The prefetcher of a tone walks a segment (R126, R131). -/
def State.startFetch (s : State) (b t : Nat) (f : Fetch) : State := s.modPrefetch (b * 13 + t) (· ++ [f])

/-- A segment just walked: nothing of it has arrived. -/
def Fetch.new (lane : Nat) (start : Tick) (seg : BitVec 17) (begun : Tick) (jump : Bool) (d : BitVec 128) : Fetch :=
  { lane := lane, start := start, seg := seg, begun := begun, jump := jump, desc := d, next := 0, blocks := [], done := 0 }

/-- Streamed plays that run: from the entry of their order until they end (R134). -/
def State.streamedPlays (s : State) : Nat :=
  (s.fetches.map (fun e => ((e.2.map (fun f => (f.lane, f.start))).dedup).length)).sum

/-- Stream buffer `i` is being read by a play that starts before tick `t` and not ended by then, other than the one named (R135). -/
def State.sbufRead (s : State) (i : Nat) (t : Tick) (key lane : Nat) : Bool :=
  s.fetches.any (fun e => e.1 != key && e.2.any (fun f => !f.jump && desc.src f.desc == 2 && desc.addr f.desc % 64 == i &&
    (f.lane == 0 || f.lane == lane) && Tick.le f.begun t && (match f.endTick with | some x => Tick.before t x | none => true)))

/-- A stream buffer has a play (R135). -/
def State.sbufBusy (s : State) (i : Nat) : Bool :=
  s.fetches.any (fun e => e.2.any (fun f => desc.src f.desc == 2 && desc.addr f.desc % 64 == i))

/-- What the main lane of a tone has come past leaves its prefetcher: the plays that have ended, the segments and blocks played. -/
def State.trimFetch (s : State) (b t : Nat) (k : PathLane) : State :=
  if (s.prefetch (b * 13 + t)).isEmpty then s
  else s.modPrefetch (b * 13 + t) (fun l => (l.filter (fun f => f.lane != 0 || !Tick.before f.start k.cur ||
    (match (k.tone t).play with
     | some pl => pl.start == f.start && pl.lane == f.lane && (f.jump || Tick.le pl.begun f.begun)
     | none => false))).map (fun f => match (k.tone t).play with
      | some pl =>
        if f.lane = 0 ∧ pl.lane = f.lane ∧ pl.start = f.start ∧ pl.begun = f.begun ∧ !f.jump ∧ !f.whole then
          { f with blocks := f.blocks.filter (fun e => decide (pl.pass * f.perPass + pl.pos / 8 ≤ e.1)) }
        else f
      | none => f))

/-! ### Plays -/

/-- A play of segment `seg`, with the descriptor its prefetcher walked, or else walked now (R126). -/
def State.walk (s : State) (b t : Nat) (seg : BitVec 17) (lane : Nat) (start begun : Tick) (amp : BitVec 18) (ph : Word)
    (cut : Option Tick) : Play :=
  let pl (d : BitVec 128) : Play :=
    { seg := seg, lane := lane, start := start, begun := begun, desc := d, amp := amp, ph := ph, pos := 0, pass := 0,
      loops := if desc.loops d = 0xFFFF then none else some (desc.loops d), muted := false, dead := !s.descOk d, block := none,
      cutAt := cut }
  let now := pl (s.seg seg.toNat)
  match s.fetchOf b t now with
  | some f => pl f.desc
  | none => now

/-- Tone `t` plays zero for want of data in tick `x` of a lane: once the tick is released the shot in flight is PARTIAL (R125, R134,
R136). -/
def State.mutedTick (s : State) (b t lane : Nat) (x : Tick) (counts : Bool) : State :=
  s.modMuted b (· ++ [{ tick := x, lane := lane, tone := t, counts := counts }])

/-- The other lane of a branch has come to the same zero play in tick `x` (R81). -/
def State.mutedTwice (s : State) (b t lane : Nat) (x : Tick) : Bool :=
  (s.muted b).any (fun m => m.tick == x && m.tone == t && m.lane != lane)

/-- A play that reaches an invalid descriptor in tick `x` raises SEG_INVALID and marks the shot PARTIAL (R125). -/
def State.segInvalid (s : State) (b t lane : Nat) (x : Tick) (seg : BitVec 17) : State :=
  (s.when (!s.mutedTwice b t lane x) (·.raise Src.SEG_INVALID (slot b ++ slot t ++ slotWide seg.toNat))).mutedTick b t lane x false

/-- A play goes on with the segment `seg` from the boundary at tick `β`: a descriptor that is invalid, or names a stream buffer that
another play reads (R135), plays zero. -/
def State.beginPlay (s : State) (b t lane : Nat) (k : PathLane) (pl : Play) (seg : BitVec 17) (β : Tick) : State × PathLane :=
  let new := s.walk b t seg pl.lane pl.start β pl.amp pl.ph pl.cutAt
  let busy := desc.src new.desc == 2 && s.sbufRead (desc.addr new.desc % 64) β (b * 13 + t) pl.lane
  let new := { new with dead := new.dead || busy }
  let s := s.when new.dead (·.segInvalid b t lane β seg)
  let s := s.when (!new.dead && desc.streamed new.desc && (s.fetchOf b t new).isNone)
    (·.startFetch b t (.new pl.lane pl.start seg β false new.desc))
  (s, k.setTone t { k.tone t with play := some new })

/-- A stream buffer's read pointer moves on at the end of a pass, once for both lanes of a branch (R135). -/
def State.passEnd (s : State) (b t : Nat) (pl : Play) : State :=
  if desc.src pl.desc ≠ 2 ∨ pl.dead then s
  else match s.fetchOf b t pl with
    | none => s
    | some f =>
      if pl.pass < f.done then s
      else
        let i := desc.addr pl.desc % 64
        let s := s.modPrefetch (b * 13 + t) (·.map (fun g => if g = f then { f with done := pl.pass + 1 } else g))
        (s.modSbufCnt i (fun c => (c.1, c.2 + desc.length pl.desc))).showSbuf i

/-- The boundary at tick `β` that ends a pass (R127, R138): a jump registered two ticks before it or more starts its target;
one registered a tick before waits for the next boundary; else loops, then the link, then the end. -/
def State.boundary (s : State) (b t lane : Nat) (k : PathLane) (pl : Play) (β : Tick) : State × PathLane :=
  let tn := k.tone t
  let jumps := match tn.jump with | some (_, r) => decide (2 ≤ Tick.diff r β) | none => false
  let s := s.when (match tn.jump with | some (_, r) => decide (Tick.diff r β = 1) | none => false)
    (·.bump (SYN_JUMP_LATE_CNT.COUNT b))
  let s := s.passEnd b t pl
  match jumps, tn.jump with
  | true, some (seg, _) =>
    -- the target has been fetched from registration (R139); the dropped link has not
    let s := s.modPrefetch (b * 13 + t) (fun l =>
      (l.filter (fun f => f.jump || f.lane != pl.lane || f.start != pl.start || lane != 0)).map (fun f =>
        if f.jump ∧ f.lane = pl.lane ∧ f.start = pl.start then { f with jump := false, begun := β } else f))
    s.beginPlay b t lane (k.setTone t { tn with jump := none }) pl seg β
  | _, _ =>
    if pl.loops ≠ some 0 then
      (s, k.setTone t { tn with play := some { pl with pos := 0, pass := pl.pass + 1, muted := false, block := none,
                                                        loops := pl.loops.map (· - 1) } })
    else if desc.link pl.desc then s.beginPlay b t lane k pl (desc.next pl.desc) β
    else (s, k.setTone t { tn with play := none })

/-- Tone `t` after one more tick of its play; `β` is the tick that follows. -/
def State.stepTone (s : State) (b lane : Nat) (β : Tick) (k : PathLane) (t : Nat) : State × PathLane :=
  match (k.tone t).play with
  | none => (s, k)
  | some pl =>
    if pl.cutAt = some β then (s, k.setTone t { k.tone t with play := none })
    else if pl.dead then (s, k)
    else if pl.pos + 1 < desc.length pl.desc then
      let fresh := decide ((desc.addr pl.desc + pl.pos + 1) % 8 = 0)
      (s, k.setTone t { k.tone t with play := some { pl with pos := pl.pos + 1, block := if fresh then none else pl.block } })
    else s.boundary b t lane k pl β

/-- Repeats `stepTone` for the ticks a play's start lies behind the tick being computed. -/
def State.skipTone (s : State) (b t lane : Nat) (k : PathLane) (start : Tick) : Nat → State × PathLane
  | 0 => (s, k)
  | n + 1 => let (s, k) := s.stepTone b lane (start + 1) k t; s.skipTone b t lane k (start + 1) n

/-! ## Applying an order at its tick (R29, R67, R75, R141) -/

/-- A flux pulse with a short lead that starts at or before a tail tick already placed loses the samples of those ticks (R153): `n`
ticks from `first` are a late episode of the flux lock. -/
def State.tailLate (s : State) (b : Nat) (first : Tick) (n : Nat) (lead : Int) : State :=
  let ℓ := laneFlux b
  if n = 0 ∨ (s.lockLane ℓ).st = .off then s
  else
    let s := s.bump (LOCK_LATE_CNT.COUNT ℓ) n
    let s := s.when (!s.bit (LOCK_STAT.LATE ℓ)) (·.capture (R.LOCK_LATE_TICK_LO ℓ) first)
    let s := s.setBit (LOCK_STAT.LATE ℓ) true
    (s.raise Src.LATE_BARGE (slot ℓ ++ slotTick first ++ slot n ++ slot (Nat.min 0xFFFE (Nat.max 1 (48 - lead).toNat)))).markPartial
      b cause.lateBarge

/-- Ticks of a play up to its end, at most `n`. -/
def Play.ticks (pl : Play) (n : Nat) : Nat :=
  if pl.dead then 0
  else match pl.loops with
    | some m => if desc.link pl.desc then n else Nat.min n ((m + 1) * desc.length pl.desc)
    | none => n

/-- The lane of a path that an order goes to. -/
def Order.laneNo (o : Order) : Nat := if o.lane = 0 then 0 else stageLane o.ctx.toNat (o.lane == 2)

/-- A play order starts its play in the tick being computed. -/
def State.startPlay (s : State) (b p : Nat) (k : PathLane) (o : Order) (t : Nat) (seg : BitVec 17) (amp : BitVec 18) (ph : Word) :
    State × PathLane :=
  let lane := o.laneNo
  let s := s.when (k.tone t).jump.isSome (·.bump (SYN_JUMP_DROP_CNT.COUNT b))
  let cut := if o.lane = 0 then none else some ((s.ctx (2 * b + o.ctx.toNat)).tb + 64)
  let pl := s.walk b t seg lane o.tick o.tick amp ph cut
  let busy := desc.src pl.desc == 2 && s.sbufRead (desc.addr pl.desc % 64) o.tick (b * 13 + t) lane
  let invalid := !o.excess && (pl.dead || busy)
  let pl := { pl with dead := pl.dead || o.excess || busy }
  let s := s.when invalid (·.segInvalid b t lane k.cur seg)
  let s := s.when (o.excess) (·.mutedTick b t lane k.cur false)
  let s := s.when (!pl.dead && desc.streamed pl.desc && (s.fetchOf b t pl).isNone)
    (·.startFetch b t (.new lane o.tick seg o.tick false pl.desc))
  let late := (Tick.diff o.tick k.cur).toNat
  let s := s.when (p == 2 && lane == 0) (·.tailLate b o.tick (pl.ticks late) o.lead)
  s.skipTone b t lane (k.setTone t { k.tone t with play := some pl, jump := none }) o.tick late

/-- The effect of an order on the tones of a path lane, in the tick being computed; the actions of a drive path. -/
def State.applyOrder (s : State) (b p : Nat) (k : PathLane) (acts : List Action) (o : Order) :
    State × PathLane × List Action :=
  let play (t : Nat) (seg : BitVec 17) (amp : BitVec 18) (ph : Word) : State × PathLane × List Action :=
    let (s, k) := s.startPlay b p k o t seg amp ph
    (s, k, acts)
  -- a probe tone's frequency or phase is its demodulator's too (R172)
  let pair (s : State) (t : BitVec 3) : State :=
    match s.laneTag b 3 (if o.lane = 0 then none else some (o.ctx.toNat, o.lane == 2)) with
    | some tag => s.modDemod (4 * b + t.toNat % 4) (fun d => { d with sched := d.sched ++ [(o.tick, tag, o.kind, s.synOrigin)] })
    | none => s
  -- what a stop before this tick takes back (R92, R141)
  let past : List (Tick × Store Tone) := k.past.filter (fun e => Tick.le s.tick e.1) ++ [(k.cur, k.tones)]
  match o.kind with
  | .tonePlay seg t amp ph => play t.toNat seg amp ph
  | .probePlay seg t amp ph => play (8 + t.toNat) seg amp ph
  | .fluxPulse seg amp => play 12 seg amp 0
  | .freqSet t pr f =>
    let i := (if pr then 8 else 0) + t.toNat
    (s.when pr (pair · t), { k.setTone i { k.tone i with freq := f, origin := s.synOrigin } with past := past }, acts)
  | .phaseShift t pr d =>
    let i := (if pr then 8 else 0) + t.toNat
    (s.when pr (pair · t), { k.setTone i { k.tone i with phase := (k.tone i).phase + d } with past := past }, acts)
  | .branchArm .. => (s, k, acts)
  | kd => if p = 0 then (s, k, acts ++ [.order kd]) else (s, k, acts)

/-! ## Samples -/

/-- What the envelope of a play is in this tick: a sample, zero, a block not yet present, or a missing block. -/
inductive EnvRead where
  | value (v : BitVec 36)
  | zero
  | absent
  | missing
  deriving DecidableEq, Repr

/-- Block number of a streamed play's position: one block per 8 ticks, and a longer segment's blocks anew for each pass
(R131). -/
def Play.fetchBlock (pl : Play) : Nat :=
  (if desc.length pl.desc ≤ 512 then 0 else pl.pass * ((desc.length pl.desc + 7) / 8)) + pl.pos / 8

/-- The envelope of a play (R120, R132). A basin block with a double-bit error is missing. -/
def State.readEnv (s : State) (b t : Nat) (pl : Play) : EnvRead :=
  if pl.dead || pl.muted then .zero
  else if desc.src pl.desc = 0 then
    if pl.block = some true then .missing else .value (s.basinSample (desc.addr pl.desc % 2 ^ 24 + pl.pos))
  else match s.fetchOf b t pl with
    | none => .missing
    | some f =>
      match f.blocks.find? (fun e => e.1 == pl.fetchBlock) with
      | none => if pl.fetchBlock < f.next then .missing else .absent
      | some (_, none) => .missing
      | some (_, some v) => .value (BitVec.ofNat 36 (v.toNat >>> (36 * (pl.pos % 8))))

/-- An under-run episode begins (R136): the tone is muted to the next boundary. -/
def State.underrun (s : State) (b t : Nat) (seg : BitVec 17) (first : Tick) : State :=
  let s := s.when (!s.bit (SYN_STAT.UNDER b)) (·.capture (R.SYN_UNDER_TICK_LO b) first)
  let s := s.setBit (SYN_STAT.UNDER b) true
  (s.raise Src.UNDERRUN (slot b ++ slot t ++ slotWide seg.toNat ++ slotTick first)).lifeBump 360

/-- The upconverted samples of a drive or probe tone in a tick, with the tick's saturation (R143 steps 1 to 3). The
interpolation filter's taps are not given, so its output is a free value (log 4); a muted tone gives zero. -/
def State.toneSamples (s : State) (t : Nat) (tn : Tone) (pl : Play) (v : BitVec 36) (k : Tick) : List Int × Bool :=
  let i := mulQ17 (envI v) pl.amp
  let q := mulQ17 (envQ v) pl.amp
  (List.range 8).foldl (fun (acc, sat) j =>
    let fv := Config.interpolated (s.freeCtr + 8 * t + j)
    let φ := oscPhase tn.freq tn.origin k 8 j + tn.phase + pl.ph
    let r := roundShift ((envI fv).toInt * cosPhi φ - (envQ fv).toInt * sinPhi φ) 17
    (acc ++ [satInt 18 r], sat || satFlag 18 r)) ([], i.2 || q.2)

/-- Adds samples position by position. -/
def addSamples : List Int → List Int → List Int
  | a :: s, b :: t => (a + b) :: addSamples s t
  | [], t => t
  | s, [] => s

/-! ## The predistortion filter (R150 to R152) -/

/-- One exponential stage: its new state and output, with a saturation. -/
def expStage (amp beta u st : Int) : Int × Int × Bool :=
  -- the state has 14 fraction bits below the 2^-17 of the input
  let d := u * 2 ^ 14 - st
  let st := st + roundShift (beta * d) 24
  let corr := roundShift (amp * (u * 2 ^ 14 - st)) 31
  let y := u + corr
  let st := if u = 0 ∧ corr = 0 then 0 else st
  (st, satInt 18 y, satFlag 18 y)

/-- The filter's output for one input (R149): EXP[0] to EXP[7], then the FIR; PD_EN = 0 bypasses it and clears it. -/
def State.filter (s : State) (b : Nat) (f : Filt) (u : Int) : Filt × Int × Bool :=
  if !s.bit (FLX_CFG.PD_EN b) then (.quiet, u, false)
  else
    let (sts, x, sat) := (List.range 8).foldl (fun (acc : List Int × Int × Bool) i =>
      let (sts, x, sat) := acc
      if s.bit (FLX_EXP_B.EN b i) then
        let (st, y, sa) := expStage (s.getInt (FLX_EXP_A.AMP b i)) (s.get (FLX_EXP_B.BETA b i)) x (f.stages.getD i 0)
        (sts ++ [st], y, sat || sa)
      else (sts ++ [0], x, sat)) ([], u, false)
    let xs := x :: f.hist
    let sum := (List.range 64).foldl (fun acc j => acc + s.getInt (FLX_FIR.COEF b j) * xs.getD j 0) 0
    let r := roundShift sum 16
    ({ stages := sts, hist := xs.take 63 }, satInt 18 r, sat || satFlag 18 r)

/-- Quiet: every stage state is zero and the last 63 FIR inputs are zero (R152). -/
def Filt.isQuiet (f : Filt) : Bool := f.stages.all (· == 0) && f.hist.all (· == 0)

/-! ## Coverage: what a path lane may form -/

/-- The lane of the pilot's staging that a stage lane belongs to is still being issued: `some true` it is, at TC;
`some false` not yet begun; `none` it is finished. -/
def Pilot.issuing (p : Pilot) (c : Nat) (second : Bool) : Option Bool :=
  match p.stages.find? (fun g => g.ctx == c) with
  | none => none
  | some g =>
    match g.phase, second with
    | .a, false => some true
    | .a, true => some false
    | .b, true => some true
    | _, _ => none

/-- The armed contexts that a lane (main: `none`) holds, the earlier branch tick first. -/
def State.holders (s : State) (b : Nat) (of : Option (Nat × Bool)) : List (Nat × Ctx) :=
  let l := ([0, 1].map (fun c => (c, s.ctx (2 * b + c)))).filter (fun (_, k) => k.busy && k.outer == of)
  match l with
  | [x, y] => if Tick.before y.2.tb x.2.tb then [y, x] else [x, y]
  | _ => l

/-- The context whose branch tick stops a lane that has come to tick `cur`. -/
def State.holder (s : State) (b : Nat) (of : Option (Nat × Bool)) (cur : Tick) : Option (Nat × Ctx) :=
  (s.holders b of).find? (fun (_, k) => Tick.le cur k.tb)

/-- The tick before which a lane's ticks may be formed: everything before the published TC, or with the cursor open before the open
idle entry, and before the branch tick or the lane's end (R50, R57, R65). -/
def State.formLimit (s : State) (b lane : Nat) (k : PathLane) : Option Tick :=
  let p := s.pilot b
  if lane = 0 then
    let pub := match k.opens with
      | (t, _) :: _ => t
      | [] => match p.stages.getLast? with | some g => g.tb | none => p.tc
    match s.holder b none k.cur with
    | some (_, c) => some (Tick.min c.tb pub)
    | none => some pub
  else
    let c := (lane - 1) / 2
    let second := (lane - 1) % 2 == 1
    match k.lim, p.issuing c second with
    | none, _ => none
    | some _, some false => none
    | some l, some true => some (Tick.min l p.tc)
    | some l, none => some l

/-- The path that an order goes to. -/
def OrdKind.path : OrdKind → Nat
  | .probePlay .. => 1
  | .fluxPulse .. => 2
  | .freqSet _ pr _ => if pr then 1 else 0
  | .phaseShift _ pr _ => if pr then 1 else 0
  | _ => 0

/-- Path `p` waits for the order: it is for that path, or may end a lane of every path (R57, R59). -/
def OrdKind.concerns (k : OrdKind) (p : Nat) : Bool :=
  k.path == p || (match k with | .branchArm .. => true | .shotBoundary .. => true | _ => false)

/-- The orders for the lane of path `p` that still wait in the pound or at EMIT. -/
def State.waiting (s : State) (b p lane : Nat) : List Order :=
  (s.pound b ++ (s.pilot b).latch.toList).filter (fun o => o.laneNo == lane && o.kind.concerns p)

/-- None of them is for tick `t` or earlier. -/
def State.takenUpTo (s : State) (b p lane : Nat) (t : Tick) : Bool :=
  (s.waiting b p lane).all (fun o => Tick.before t o.tick)

/-- The lock lane that a path feeds. -/
def pathLock (b p : Nat) : Nat := if p = 0 then laneDrive b else if p = 1 then laneProbe b else laneFlux b

/-- A full lane stalls its path (R30, R33). -/
def State.laneRoom (s : State) (l lane : Nat) : Bool :=
  let k := s.lockLane l
  let waiting := (k.formed.filter (fun e => e.1 == lane)).length
  if lane = 0 then decide (k.main.length + waiting < 128)
  else decide ((Store.read (fun _ => []) k.stage lane).length + waiting < 64)

/-- Hands a formed entry to the lock lane's input. -/
def State.form (s : State) (l lane : Nat) (e : Entry) : State :=
  s.modLockLane l (fun k => { k with formed := k.formed ++ [(lane, e)] })

/-- After resolution the main lane continues in the tone and filter state of the chosen lane: at TB + 64, or at the boundary
tick with the boundary order (R50, R59, R81, R154). Nothing happens before the chosen lane is formed, unless forced. -/
def State.settlePath (s : State) (b p : Nat) (force : Bool) : State :=
  let m := s.path (pathKey b p 0)
  match s.holder b none m.cur with
  | none => s
  | some (c, k) =>
    match k.res with
    | none => s
    | some lane =>
      let (c, k, lane, ok) : Nat × Ctx × Bool × Bool :=
        match s.holders b (some (c, lane)) with
        | [] => (c, k, lane, true)
        | (c2, k2) :: _ => match k2.res with | some l2 => (c2, k2, l2, true) | none => (c2, k2, false, false)
      let st := s.path (pathKey b p (stageLane c lane))
      let bound := if lane then k.boundB else k.boundA
      if !ok || !m.live then s
      else if !force && st.lim ≠ some st.cur then s
      else
        let ended : Store Tone := (st.tones.map (fun (i, t) =>
          (i, match t.play with | some pl => if pl.cutAt.isSome then { t with play := none } else t | none => t))).filter
            (fun p => p.2 ≠ Tone.init)
        let sched := match bound with | some o => if p = 0 then { o with lane := 0, ctx := 0, bid := 0xFF } :: m.sched else m.sched
                                      | none => m.sched
        s.setPath (pathKey b p 0) { m with
          tones := ended, filt := st.filt, sched := sched, past := m.past ++ st.past, cur := (match bound with | some o => o.tick | none => k.tb + 64) }

/-! ## One tick of a path (R143, R149) -/

/-- The segment-start lines pulsed in this tick by the plays of a path (R129). -/
def PathLane.starts (k : PathLane) (ts : List Nat) : BitVec 4 :=
  ts.foldl (fun m t => match (k.tone t).play with
    | some pl => if pl.pos = 0 ∧ !pl.dead ∧ (pl.pass = 0 ∨ desc.smarkLoop pl.desc) then m ||| desc.smark pl.desc else m
    | none => m) 0

/-- Mutes the tone when its block is missing in this tick (R136). -/
def State.muteTone (s : State) (b lane : Nat) (k : PathLane) (t : Nat) : State × PathLane :=
  match (k.tone t).play with
  | none => (s, k)
  | some pl =>
    let gone := s.readEnv b t pl == .missing
    let pl' := { pl with muted := pl.muted || gone }
    let s := s.when (gone && !s.mutedTwice b t lane k.cur) (·.underrun b t pl.seg k.cur)
    (s.when (pl'.muted && !pl.dead) (·.mutedTick b t lane k.cur true), k.setTone t { k.tone t with play := some pl' })

/-- A basin read error of the tones in this tick (R123): reader 0, the pair of the sample read. -/
def State.basinError (s : State) (pair reader : Nat) (ded : Bool) : State :=
  let s := s.set BASIN_ECC_STAT.PAIR pair
  let pay := slotWide pair ++ slot reader
  if ded then (s.setBit BASIN_ECC_STAT.DED true).raise Src.BASIN_DED pay
  else ((s.setBit BASIN_ECC_STAT.CE true).bump BASIN_CE_CNT.COUNT).raise Src.BASIN_CE pay

/-- A basin play reads a whole block as it comes to its first sample there (R121, R123): `flaws` are the errors that these reads find, each
with the tone, the pair within the block and whether it is a double-bit error. -/
def State.readBlock (s : State) (flaws : List (Fin 13 × Fin 4 × Bool)) (k : PathLane) (t : Nat) : State × PathLane :=
  match (k.tone t).play with
  | none => (s, k)
  | some pl =>
    if pl.dead || pl.muted || desc.src pl.desc != 0 || pl.block.isSome then (s, k)
    else
      let mine := flaws.filter (fun f => f.1.val == t)
      let first := 4 * ((desc.addr pl.desc % 2 ^ 24 + pl.pos) / 8)
      (s.each mine (fun s f => s.basinError (first + f.2.1.val) 0 f.2.2),
        k.setTone t { k.tone t with play := some { pl with block := some (mine.any (·.2.2)) } })

/-- A tone's data for the tick being computed is still awaited: its block has not arrived, or has a double-bit error and the fetch
deadline has not come (R123, R132). -/
def State.dataAwaited (s : State) (b : Nat) (k : PathLane) (t : Nat) : Bool :=
  match (k.tone t).play with
  | none => false
  | some pl => match s.readEnv b t pl with
    | .absent => true
    | .missing => desc.src pl.desc == 0 && decide (48 < Tick.diff s.tick k.cur)
    | _ => false

/-- What a path lane puts into the tick being computed: the samples added, and whether a step saturated (R143 steps 3 and 4). -/
def State.tickSum (s : State) (b : Nat) (k : PathLane) (ts : List Nat) : List Int × Bool :=
  let (sum, sat) := ts.foldl (fun (acc : List Int × Bool) t =>
    match (k.tone t).play with
    | some pl => match s.readEnv b t pl with
      | .value v => let (xs, sa) := s.toneSamples t (k.tone t) pl v k.cur; (addSamples acc.1 xs, acc.2 || sa)
      | _ => acc
    | none => acc) (List.replicate 8 0, false)
  (sum.map (satInt 18), sat || sum.any (satFlag 18))

/-- The entry of one tick, or of a run of idle ticks before `limit`, of a lane whose tones hold their data. -/
def State.formEntry (s : State) (b p lane : Nat) (k : PathLane) (limit : Tick) : State :=
  let key := pathKey b p lane
  let l := pathLock b p
  let ts := pathTones p
  let marks := k.starts ts
  let acts := if p = 2 ∨ marks = 0 then k.acts else k.acts ++ [.segStart marks]
  let k := { k with acts := [] }
  let playing := ts.any (fun t => (k.tone t).play.isSome)
  let next := k.cur + 1
  let nextOrd := (k.sched ++ s.waiting b p lane).foldl (fun m o => Tick.min m o.tick) limit
  let idle := Nat.min 65535 (Tick.diff k.cur nextOrd).toNat
  let trim (s : State) (k : PathLane) : State := s.when (lane == 0) (fun s => s.each ts (fun s t => s.trimFetch b t k))
  if p = 2 then
    -- flux pulse path: envelope I half times amplitude, through the filter (R148, R149)
    let (u, sat0) : Int × Bool := match (k.tone 12).play with
      | some pl => match s.readEnv b 12 pl with
        | .value v => let m := mulQ17 (envI v) pl.amp; (m.1.toInt, m.2)
        | _ => (0, false)
      | none => (0, false)
    let (f, y, sat1) := s.filter b k.filt u
    let quietRun := !playing && k.filt.isQuiet
    let s := s.when (sat0 || sat1) (fun s => (s.setBit (FLX_STAT.SAT b) true).bump (FLX_SAT_CNT.COUNT b))
    let k := { k with filt := f }
    let s := s.when (lane == 0) (·.setBit (FLX_STAT.QUIET b) f.isQuiet)
    if quietRun then
      (s.form l lane { first := k.cur, cover := .idle idle, acts := [], present := 0, sat := false }).setPath key
        { k with cur := k.cur + BitVec.ofNat 48 idle }
    else
      let e : Entry := { first := k.cur, cover := .sample [y], acts := [], present := 0, sat := false }
      let (s, k) := s.stepTone b lane next k 12
      let k := { k with cur := next }
      trim ((s.form l lane e).setPath key k) k
  else if !playing && acts.isEmpty then
    let s := s.form l lane { first := k.cur, cover := .idle idle, acts := [], present := 0, sat := false }
    let k := { k with cur := k.cur + BitVec.ofNat 48 idle }
    (s.when (lane == 0) (·.showTones b p k)).setPath key k
  else
    let (sum, sat) := s.tickSum b k ts
    -- step 5, drive only: 18 bits to 14
    let (out, sat) := if p = 0 then
        (sum.map (fun x => satInt 14 (roundShift x 4)), sat || sum.any (fun x => satFlag 14 (roundShift x 4)))
      else (sum, sat)
    let e : Entry := { first := k.cur, cover := .sample out, acts := acts, present := 0, sat := sat }
    let s := { s with freeCtr := s.freeCtr + 104 }
    let s := s.when (lane == 0) (·.showTones b p k)
    let (s, k) := ts.foldl (fun (s, k) t => s.stepTone b lane next k t) (s, k)
    let k := { k with cur := next }
    trim ((s.form l lane e).setPath key k) k

/-- The path lane computes its next tick, before `limit`: it applies the orders of the tick, reads the blocks its tones come to, and forms
the entry as soon as no tone awaits data. -/
def State.formTick (s : State) (b p lane : Nat) (k : PathLane) (limit : Tick) (flaws : List (Fin 13 × Fin 4 × Bool)) : State :=
  if !Tick.before k.cur limit || !s.takenUpTo b p lane k.cur then s
  else
    let ts := pathTones p
    let due := k.sched.filter (fun o => Tick.le o.tick k.cur)
    let (s, k, acts) := due.foldl (fun (s, k, a) o => s.applyOrder b p k a o)
      (s, { k with sched := k.sched.filter (fun o => Tick.before k.cur o.tick) }, k.acts)
    let (s, k) := ts.foldl (fun (s, k) t => s.readBlock flaws k t) (s, { k with acts := acts })
    if ts.any (fun t => s.dataAwaited b k t) then s.setPath (pathKey b p lane) k
    else
      let (s, k) := ts.foldl (fun (s, k) t => s.muteTone b lane k t) (s, k)
      s.formEntry b p lane k limit

/-- A stop reaches the lane: nothing from here on, up to a batch that starts later (R92, R155). -/
def State.stopLane (s : State) (b p lane : Nat) (k : PathLane) : State :=
  let f := k.finish k.cur k.tones
  (((match k.opens.find? (fun (o : Tick × Option Tick) => o.1 == k.cur) with
    | some (_, some r) => s.setPath (pathKey b p lane) { f with
        live := true, cur := r, opens := k.opens.filter (fun (o : Tick × Option Tick) => Tick.before k.cur o.1) }
    | _ => s.setPath (pathKey b p lane) f)).when (lane == 0) (·.showTones b p f)).endFetches b p k.cur

/-- The cursor is open at the tick that the main lane has come to (R65, R153): orders of that tick still act in it, once the cursor has
moved on or 48 ticks before the tick; the flux path computes its tail with zero input, at most 32 ticks ahead of TICK; then an open idle
entry covers the ticks up to the first order emitted afterwards. -/
def State.openTick (s : State) (b p : Nat) (k : PathLane) (o : Option Tick) (rest : List (Tick × Option Tick))
    (flaws : List (Fin 13 × Fin 4 × Bool)) : State :=
  let key := pathKey b p 0
  let due := k.sched.any (fun o => Tick.le o.tick k.cur) || !k.acts.isEmpty
  if !s.takenUpTo b p 0 k.cur then s
  else if due then
    if o.isNone && decide (48 < Tick.diff s.tick k.cur) then s
    else
      let s := s.formTick b p 0 k (k.cur + 1) flaws
      let k' := s.path key
      if k'.cur = k.cur then s
      else (s.setPath key { k' with tones := endTones k'.tones, opens := (k'.cur, o) :: rest }).endFetches b p k'.cur
  else if p = 2 ∧ !k.filt.isQuiet then
    if 32 < Tick.diff s.tick k.cur then s
    else (s.endFetches b p k.cur).formTick b p 0 { k with tones := endTones k.tones, opens := (k.cur + 1, o) :: rest } (k.cur + 1) flaws
  else
    let e : Entry := { first := k.cur, cover := .openIdle, acts := [], present := 0, sat := false }
    let k := { k with tones := endTones k.tones, opens := rest, idleFrom := some k.cur }
    let k := match o with
      | some r => { k with cur := r, idleFrom := none,
                           cutAt := k.cutAt.filter (fun x => Tick.before r x) }
      | none => { k with live := false, cutAt := none }
    (((s.form (pathLock b p) 0 e).setPath key k).showTones b p k).endFetches b p e.first

/-- The lane without the places where the cursor opened and closed again at the same tick. -/
def PathLane.skipOpens (k : PathLane) : PathLane :=
  { k with opens := k.opens.dropWhile (fun (o : Tick × Option Tick) => k.cutAt != some o.1 && (match o.2 with | some r => Tick.le r o.1 | none => false)) }

/-- A stage lane starts from the state of the lane that holds the branch (R81, R154); `none` before that has come to the branch. -/
def State.beginStage (s : State) (b p lane : Nat) (k : PathLane) : Option PathLane :=
  if lane = 0 ∨ k.begun then some k
  else
    let cx := s.ctx (2 * b + (lane - 1) / 2)
    let from_ := s.path (match cx.outer with | none => pathKey b p 0 | some (oc, ol) => pathKey b p (stageLane oc ol))
    if from_.cur = cx.tb then some { k with tones := from_.tones, filt := from_.filt, begun := true } else none

/-- SYNTHESIS_TICK: path `p` (0 drive, 1 probe, 2 flux) of berth `b` computes the next tick of one of its lanes (0 main,
1 to 4 A to D) and forms its lock entry. `flaws` are the errors its basin reads find. Nothing happens while the tick is not yet
published, its data not present, or the lock lane full. -/
def execSynthesisTick (b : Fin 64) (p : Fin 3) (lane : Fin 5) (flaws : List (Fin 13 × Fin 4 × Bool)) (s : State) :
    Host.Outcome State Fault Refusal :=
  let s := s.when (lane.val == 0) (·.settlePath b p false)
  let k := (s.path (pathKey b p lane)).skipOpens
  if !k.live || !s.laneRoom (pathLock b p) lane then .next s
  else if k.cutAt = some k.cur then .next (s.stopLane b p lane k)
  else match s.beginStage b p lane k with
    | none => .next s
    | some k =>
      match k.opens with
      | (t, o) :: rest =>
        if Tick.le t k.cur then .next (s.openTick b p k o rest flaws)
        else .next (match s.formLimit b lane k with | some limit => s.formTick b p lane k limit flaws | none => s)
      | [] => .next (match s.formLimit b lane k with | some limit => s.formTick b p lane k limit flaws | none => s)

/-! ## From the pilot to the path (R30, R36, R40, R131, R134) -/

/-- The tone number of a play order (R125). -/
def OrdKind.playTone : OrdKind → Option (Nat × BitVec 17)
  | .tonePlay seg t _ _ => some (t.toNat, seg)
  | .probePlay seg t _ _ => some (8 + t.toNat, seg)
  | .fluxPulse seg _ => some (12, seg)
  | _ => none

/-- A play order walks its segment as it enters the pound (R126, R131): a streamed one starts its prefetcher, in place of an earlier order
for the tone at the same tick (R75). -/
def State.orderFetch (s : State) (b : Nat) (o : Order) (start : Bool) : State :=
  match o.kind.playTone with
  | none => s
  | some (t, seg) =>
    let s := s.modPrefetch (b * 13 + t) (·.filter (fun f => !(f.lane == o.laneNo && f.start == o.tick)))
    s.when start (·.startFetch b t (.new o.laneNo o.tick seg o.tick false (s.seg seg.toNat)))

/-- A play order of a streamed segment whose descriptor is usable. -/
def State.orderStreams (s : State) (o : Order) : Bool :=
  match o.kind.playTone with
  | some (_, seg) => s.descOk (s.seg seg.toNat) && desc.streamed (s.seg seg.toNat)
  | none => false

/-- ORDER_EMIT: the order at the EMIT microword enters the pound, once the pound has a free entry; a full pound stalls the
pilot. A short lead raises ORDER_SHORT (R40); a streamed play starts its prefetcher, or raises STREAM_OVER (R131, R134). -/
def execOrderEmit (b : Fin 64) (s : State) : Host.Outcome State Fault Refusal :=
  let p := s.pilot b
  match p.latch with
  | none => .next s
  | some o =>
    if 64 ≤ (s.pound b).length then
      .next (s.when (s.get (PLT_STAT.STATE b) == plt.run) (·.set (PLT_STAT.STATE b) plt.poundFull))
    else
      let lead := Tick.diff s.tick o.tick
      let s := s.setPilot b { p with latch := none }
      let s := s.when (s.get (PLT_STAT.STATE b) == plt.poundFull) (·.set (PLT_STAT.STATE b) plt.run)
      let s := s.lower (PND_LEAD_MIN.MIN b) lead
      let s := s.when (lead < 48) (fun s =>
        (s.bump (PND_SHORT_CNT.COUNT b)).raise Src.ORDER_SHORT (slot b ++ slotInt lead))
      let stream := s.orderStreams o
      let excess := stream && decide (s.maxPlays ≤ s.streamedPlays)
      let s := s.when excess (·.raise Src.STREAM_OVER (slot b))
      let s := s.orderFetch b o (stream && !excess)
      .next ((s.modPound b (· ++ [{ o with excess := excess, lead := lead }])).showPound b)

/-- A branch-arm order arms the claimed context in every lock of the berth and starts its stage lanes (R50, R57, R107). -/
def State.armCtx (s : State) (b : Nat) (o : Order) (e : Tick) (src : BitVec 8) (dev : BitVec 12) (rem : Bool)
    (mask : BitVec 4) (dflt : Bool) : State :=
  let free (c : Nat) : Bool := let k := s.ctx (2 * b + c); k.claimed && !k.busy
  let c := if free 0 then 0 else 1
  let outer : Option (Nat × Bool) := if o.lane = 0 then none else some (o.ctx.toNat, o.lane == 2)
  let s := s.setCtx (2 * b + c) { Ctx.init with
    claimed := true, busy := true, src := src, dev := dev, rem := rem, e := e, mask := mask, tb := o.tick, dflt := dflt,
    bid := o.bid, outer := outer }
  let start : PathLane := { PathLane.init with live := true, cur := o.tick, lim := some (o.tick + 64) }
  let s := s.each [0, 1, 2] (fun s p =>
    (s.setPath (pathKey b p (stageLane c false)) start).setPath (pathKey b p (stageLane c true)) start)
  let s := match outer with
    | none => s
    | some (oc, ol) => s.each [0, 1, 2] (fun s p => s.modPath (pathKey b p (stageLane oc ol)) (fun k =>
        { k with lim := some o.tick }))
  -- an outer branch that has already taken its other alternative discards the nested one (R58)
  match outer with
  | some (oc, ol) => if (s.ctx (2 * b + oc)).res.any (· != ol) then s.freeCtx b c else s.showCtx b
  | none => s.showCtx b

/-- The path has reached the order: it has computed every tick of its lane before the order's tick (R30). -/
def State.reached (s : State) (b : Nat) (o : Order) : Bool :=
  let k := s.path (pathKey b o.kind.path o.laneNo)
  !k.live || Tick.le o.tick k.cur

/-- ORDER_TAKE_IN: the path that has reached the order at the head of the pound takes it in and applies it to its lane; the entry
frees. -/
def execOrderTakeIn (b : Fin 64) (s : State) : Host.Outcome State Fault Refusal :=
  match s.pound b with
  | [] => .next s
  | o :: rest =>
    if !s.reached b o then .next s
    else
      let s := (s.setPound b rest).showPound b
      match o.kind with
      | .branchArm e src dev rem mask dflt => .next (s.armCtx b o e src dev rem mask dflt)
      | .shotBoundary .. =>
        if o.lane = 0 then .next (s.modPath (pathKey b 0 0) (fun k => { k with sched := k.sched ++ [o] }))
        else
          -- a boundary in an alternative ends its lane; the context holds the order (R59)
          let s := s.modCtx (2 * b + o.ctx.toNat) (fun k =>
            if o.lane = 1 then { k with boundA := some o } else { k with boundB := some o })
          .next (s.each [0, 1, 2] (fun s p => s.modPath (pathKey b p o.laneNo) (fun k => { k with lim := some o.tick })))
      | k => .next (s.modPath (pathKey b k.path o.laneNo) (fun l => { l with sched := l.sched ++ [o] }))

/-! ## Streaming (R131 to R136) -/

/-- Samples of stream buffer `i` that its plays read before segment `f` (R135): of the segments walked that begin earlier, what their
passes have not yet read. -/
def State.sbufBefore (s : State) (i : Nat) (f : Fetch) : Nat :=
  (s.fetches.map (fun e => (e.2.map (fun g =>
    if !g.jump ∧ desc.src g.desc = 2 ∧ desc.addr g.desc % 64 = i ∧ Tick.before g.begun f.begun then
      (g.passes.getD 0 - g.done) * desc.length g.desc
    else 0)).sum)).sum

/-- The first sample of the next block, in SDRAM, and for a stream buffer its number in the buffer's stream. -/
def State.blockSample (s : State) (f : Fetch) (k : Nat) : Nat × Nat :=
  let pos := f.blockPos f.next + k
  if desc.src f.desc = 1 then (desc.addr f.desc + pos, 0)
  else
    let n := desc.addr f.desc % 64
    let ring := s.get (SBUF_SIZE.SIZE n) * 64
    let i := (s.sbufCnt n).2 + s.sbufBefore n f + (f.blockPass f.next - f.done) * desc.length f.desc + pos
    (s.get (SBUF_BASE.BASE n) * 64 + i % Nat.max 1 ring, i)

/-- The 288 bits of the next block of a prefetched segment, or `none` where a stream buffer holds no data for it. -/
def State.streamBlock (s : State) (f : Fetch) : Option (BitVec 288) :=
  (List.range 8).foldl (fun acc k =>
    let (a, i) := s.blockSample f k
    let held := desc.src f.desc == 1 || decide (i < (s.sbufCnt (desc.addr f.desc % 64)).1)
    match acc with
    | some v => if held ∨ desc.length f.desc ≤ f.blockPos f.next + k then
        some (v + BitVec.ofNat 288 ((s.dramSample a).toNat <<< (36 * k))) else none
    | none => none) (some 0)

/-- The prefetcher walks on (R126, R131): past the blocks of a segment whose end lies within 512 ticks, to the segment it links to. -/
def State.walkOn (s : State) (b t : Nat) : State :=
  let l := s.prefetch (b * 13 + t)
  let more : List Fetch := l.filterMap (fun f => match f.endTick with
    | some x =>
      let d := s.seg (desc.next f.desc).toNat
      if !f.jump ∧ desc.link f.desc ∧ !f.open_ ∧ Tick.diff s.tick x ≤ 512 ∧ s.descOk d ∧
          !l.any (fun g => g.lane == f.lane && g.start == f.start && !g.jump && Tick.le x g.begun) then
        some (.new f.lane f.start (desc.next f.desc) x false d)
      else none
    | none => none)
  s.modPrefetch (b * 13 + t) (· ++ more)

/-- An SDRAM read error (R387): channel and address bits [35:0]. -/
def State.dramError (s : State) (chan addr : Nat) (ue : Bool) : State :=
  s.raise (if ue then Src.DRAM_UE else Src.DRAM_CE)
    (slot chan ++ [addr % 65536, addr / 65536 % 65536, addr / 2 ^ 32 % 16])

/-- A segment of the list goes on with its next block. -/
def Fetch.arrived (f : Fetch) (v : Option (BitVec 288)) : Fetch := { f with next := f.next + 1, blocks := f.blocks ++ [(f.next, v)] }

/-- BLOCK_FETCH_DONE: the next streamed block of tone `t` arrives from SDRAM channel `chan`; `err` is 0 none, 1 corrected,
2 uncorrectable. A block with an uncorrectable error, or beyond a stream buffer's data, is missing. The buffer holds 64
blocks. -/
def execBlockFetchDone (b : Fin 64) (t : Fin 13) (chan : Fin 4) (err : Fin 3) (s : State) :
    Host.Outcome State Fault Refusal :=
  let s := s.walkOn b t
  let l := s.prefetch (b * 13 + t)
  match l.find? (·.open_) with
  | none => .next s
  | some f =>
    if 64 ≤ (l.map (·.blocks.length)).sum then .next s
    else
      let s := s.when (err != 0) (·.dramError chan ((s.blockSample f 0).1 * 9 / 2) (err == 2))
      let v := if err = 2 then none else s.streamBlock f
      .next (s.setPrefetch (b * 13 + t) (l.map (fun g => if g = f then f.arrived v else g)))

/-- FETCH_DEADLINE: at TICK = k − 48 the next block to arrive, whose first sample is for tick k, is missing (R132). -/
def execFetchDeadline (b : Fin 64) (t : Fin 13) (s : State) : Host.Outcome State Fault Refusal :=
  let s := s.walkOn b t
  let l := s.prefetch (b * 13 + t)
  match l.find? (fun f => f.open_ && !f.jump && Tick.le (f.blockTick f.next) (s.tick + 48)) with
  | none => .next s
  | some f => .next (s.setPrefetch (b * 13 + t) (l.map (fun g => if g = f then f.arrived none else g)))

/-! ## Segment table, basin window and scrubber (R122, R123, R126) -/

/-- SEG_COMMIT: SEG_DATA replaces descriptor `idx` in one step; `read` when the same write sets READ, which acts after. -/
def State.segRead (s : State) (idx : Nat) : State :=
  let d := s.seg idx
  s.each (List.range 4) (fun s i => s.wr (R.SEG_DATA i) (d.extractLsb' (32 * i) 32))

def execSegCommit (idx : BitVec 17) (read : Bool) (s : State) : Host.Outcome State Fault Refusal :=
  let s := s.set SEG_CTRL.IDX idx.toNat
  let d := (s.rd (R.SEG_DATA 3)) ++ (s.rd (R.SEG_DATA 2)) ++ (s.rd (R.SEG_DATA 1)) ++ (s.rd (R.SEG_DATA 0))
  let s := s.setSeg idx.toNat d
  .next (s.when read (·.segRead idx.toNat))

def execSegRead (idx : BitVec 17) (s : State) : Host.Outcome State Fault Refusal :=
  .next ((s.set SEG_CTRL.IDX idx.toNat).segRead idx.toNat)

/-- The pairs a basin window word touches (R121): one or two, at 72 bits a pair. -/
def windowPairs (off : Nat) : List Nat :=
  let bit := off * 8
  [bit / 72, (bit + 31) / 72].dedup

/-- BASIN_WINDOW_WRITE of the word at window offset 4 × `word`: the bits are merged into each pair it touches, with fresh
check bits; `ded` when the read of a touched pair finds a double-bit error. The last twelve bytes hold no block. -/
def execBasinWindowWrite (word : Fin 0xC00000) (v : Word) (ded : Bool) (s : State) : Host.Outcome State Fault Refusal :=
  if 0x2FFFFF4 ≤ 4 * word.val then .next s
  else
    let s := s.when ded (·.basinError ((windowPairs (4 * word)).headD 0) 2 true)
    .next (s.wr (0x1000000 + 4 * word) v)

/-- BASIN_WINDOW_READ: the stored bits, uncorrected where a pair has a double-bit error; `flaw` 0 none, 1 corrected, 2
double-bit. -/
def execBasinWindowRead (word : Fin 0xC00000) (flaw : Fin 3) (s : State) : Host.Outcome State Fault Refusal :=
  if 0x2FFFFF4 ≤ 4 * word.val then .next (s.answer 0)
  else
    let s := s.when (flaw != 0) (·.basinError ((windowPairs (4 * word)).headD 0) 2 (flaw == 2))
    .next (s.answer (s.rd (0x1000000 + 4 * word)))

/-- BASIN_SCRUB: the scrubber reads and checks the next of the 5,592,404 pairs. -/
def execBasinScrub (flaw : Fin 3) (s : State) : Host.Outcome State Fault Refusal :=
  let s' := { s with basinNext := (s.basinNext + 1) % 5592404 }
  .next (s'.when (flaw != 0) (·.basinError s.basinNext 1 (flaw == 2)))

/-! ## Jumps, origin, enables (R137, R139, R141, R146, R147) -/

/-- A jump request for tone `i` of a path lane (R137, R139): registered at the tick the lane is computing, or at the AT tick when that is
still to come. A second request replaces the first. A streamed target is fetched from registration. -/
def State.jumpLane (s : State) (b p lane i : Nat) (seg : BitVec 17) (at_ : Option Tick) : State :=
  let k := s.path (pathKey b p lane)
  let tn := k.tone i
  match tn.play with
  | none => s
  | some pl =>
    let r := match at_ with | some x => if Tick.le k.cur x then x else k.cur | none => k.cur
    let s := s.when tn.jump.isSome (·.bump (SYN_JUMP_DROP_CNT.COUNT b))
    let s := s.setPath (pathKey b p lane) (k.setTone i { tn with jump := some (seg, r) })
    let d := s.seg seg.toNat
    let s := s.modPrefetch (b * 13 + i) (·.filter (fun f => !(f.jump && f.lane == pl.lane && f.start == pl.start)))
    s.when (s.descOk d && desc.streamed d) (·.startFetch b i (.new pl.lane pl.start seg r true d))

/-- A jump request with the fields held in SYN_JMP (R137), for the play as the path computes it: in the main lane, or once a branch is
being staged in the lanes that hold the play (R81). -/
def State.jumpRequest (s : State) (b : Nat) : State :=
  let t := s.get (SYN_JMP.TONE b)
  let pr := s.bit (SYN_JMP.PRB b)
  let i := if pr then 8 + t % 4 else t
  let p := if pr then 1 else 0
  let plays (lane : Nat) : Bool :=
    let k := s.path (pathKey b p lane)
    (lane == 0 || k.live && k.begun) && (k.tone i).play.isSome
  let lanes := [1, 2, 3, 4].filter plays
  let lanes := if lanes.isEmpty then [0].filter plays else lanes
  if lanes.isEmpty then s.setBit (SYN_STAT.JMP_IDLE b) true
  else
    let at_ := if s.bit (SYN_JMP.AT b) then some (s.pair (R.SYN_JMP_AT_LO b)) else none
    s.each lanes (fun s lane => s.jumpLane b p lane i (BitVec.ofNat 17 (s.get (SYN_JMP.SEG b))) at_)

/-- SYN_JMP_GO: the write's fields are stored, and the request is made. -/
def execSynJmpGo (b : Fin 64) (w : Word) (s : State) : Host.Outcome State Fault Refusal :=
  .next ((s.wr (R.SYN_JMP b) (w &&& 0x003FFFFF)).jumpRequest b)

/-- SYN_ORIGIN_WRITE: writing the high half latches the pair. -/
def execSynOriginWrite (hi : BitVec 16) (s : State) : Host.Outcome State Fault Refusal :=
  let s := s.set SYN_ORIGIN_HI.ORIGIN hi.toNat
  .next { s with synOrigin := s.pair R.SYN_ORIGIN_LO }

/-- DRV_EN_SET: the drive lock goes from OFF to IDLE. -/
def execDrvEnSet (b : Fin 64) (s : State) : Host.Outcome State Fault Refusal :=
  if s.bit (DRV_CFG.EN b) then .next s
  else .next ((s.setBit (DRV_CFG.EN b) true).setLockSt (laneDrive b) .idle)

/-- The samples of a lane's entries are discarded; their actions stay to be released (R32, R147). -/
def LockLane.mute (k : LockLane) : LockLane :=
  let strip (e : Entry) : Option Entry := if e.acts.isEmpty then none else some { e with cover := .sample [] }
  { k with main := k.main.filterMap strip, episode := none, missed := [] }

/-- DRV_EN_CLEAR: the drive lock goes to OFF, the samples of its entries are discarded and the series switch opens. -/
def execDrvEnClear (b : Fin 64) (s : State) : Host.Outcome State Fault Refusal :=
  let s := (s.setBit (DRV_CFG.EN b) false).setBit (DRV_CFG.SW_CLOSED b) false
  .next (((s.modLockLane (laneDrive b) (·.mute)).setLockSt (laneDrive b) .off).setOutPin b [])

/-- DRV_MIX_WRITE: MIX takes effect only where EN was 0 before the write (R146). -/
def execDrvMixWrite (b : Fin 64) (mix : Bool) (s : State) : Host.Outcome State Fault Refusal :=
  .next (if s.bit (DRV_CFG.EN b) then s.setBit (DRV_STAT.CFG_REJ b) true else s.setBit (DRV_CFG.MIX b) mix)

/-- The berths of a probe output. -/
def probeBerths (n : Nat) : List Nat := [4 * n, 4 * n + 1, 4 * n + 2, 4 * n + 3]

def execPrbEnSet (n : Fin 16) (s : State) : Host.Outcome State Fault Refusal :=
  if s.bit (PRB_CFG.EN n) then .next s
  else .next ((probeBerths n).foldl (fun s b => s.setLockSt (laneProbe b) .idle) (s.setBit (PRB_CFG.EN n) true))

def execPrbEnClear (n : Fin 16) (s : State) : Host.Outcome State Fault Refusal :=
  let s := (s.setBit (PRB_CFG.EN n) false).setBit (PRB_CFG.SW_CLOSED n) false
  .next ((s.each (probeBerths n) (fun s b => (s.modLockLane (laneProbe b) (·.mute)).setLockSt (laneProbe b) .off)).setOutPin
    (128 + n) [])

def execPrbMixWrite (n : Fin 16) (mix : Bool) (s : State) : Host.Outcome State Fault Refusal :=
  .next (if s.bit (PRB_CFG.EN n) then s.setBit (PRB_STAT.CFG_REJ n) true else s.setBit (PRB_CFG.MIX n) mix)

end Sys2Proof.Machine
end

