-- ==== Sys2Proof/Machine/Trigger.lean ====
section
/-! DEFINITION. Acquisition units: admission, arming, the trigger engine, capture coverage and records (R223 to R240). -/

namespace Sys2Proof.Machine

/-! ## The configuration in force -/

/-- Unit states of R223. -/
def acqSt.idle : Nat := 0
def acqSt.ready : Nat := 1
def acqSt.armed : Nat := 2
def acqSt.fired : Nat := 3
def acqSt.capture : Nat := 4
def acqSt.done : Nat := 5

/-- The state of unit `n`. -/
def State.acqState (s : State) (n : Nat) : Nat := s.get (ACQ_STAT.STATE n)

/-- The unit is ARMED, FIRED or in CAPTURE. -/
def State.acqBusy (s : State) (n : Nat) : Bool :=
  let st := s.acqState n
  st == acqSt.armed || st == acqSt.fired || st == acqSt.capture

/-- A field of the configuration in force: the registers as they stood at the accepted COMMIT. -/
def State.acqGet (s : State) (n : Nat) (f : Rf) : Nat := fieldOf (Store.read regReset (s.acq n).cfg f.addr) f.lo f.len

/-- A flag of the configuration in force. -/
def State.acqBit (s : State) (n : Nat) (f : Rf) : Bool := s.acqGet n f != 0

/-- Tone `k` is enabled (R224). -/
def State.acqTone (s : State) (n k : Nat) : Bool := (s.acqGet n (ACQ_TONES.MASK n)).testBit k

/-- Berth `b` owns an enabled tone of its unit. -/
def State.acqOwns (s : State) (b : Nat) : Bool := (List.range 4).any (fun p => s.acqTone (b / 4) (4 * (b % 4) + p))

/-- The registers that a COMMIT puts in force. -/
def acqConfigRegs (n : Nat) : List Nat :=
  [R.ACQ_CFG n, R.ACQ_TONES n, R.ACQ_CAP n, R.ACQ_RAW n, R.ACQ_BUF_BASE n, R.ACQ_BUF_SIZE n, R.ACQ_AVG_BASE n, R.ACQ_RES n,
    R.ACQ_TRG_CFG n, R.ACQ_GRP n, R.ACQ_LEVEL n] ++
  (List.range 8).flatMap (fun i => [R.TRG_COND n i, R.TRG_COUNT n i, R.TRG_TIMER n i])

/-! ## Admission (R238, R239) -/

/-- 1 for a flag that is set. -/
def flagNat (b : Bool) : Nat := if b then 1 else 0

/-- Words after the header of a RAW record of `rlen` ticks, three samples a word. -/
def rawWords (rlen : Nat) : Nat := (4 * rlen + 2) / 3

/-- The figure of unit `n` in MB/s with its registers as they stand: ceil(1500 r). -/
def State.acqFigure (s : State) (n : Nat) : Nat :=
  let f (x : Rf) : Nat := flagNat (s.bit x)
  let nt := ((List.range 16).filter (fun k => (s.get (ACQ_TONES.MASK n)).testBit k)).length
  let period := Nat.max 4 (s.get (ACQ_CFG.PERIOD n))
  let dec := 2 ^ s.get (ACQ_CFG.DECL n)
  let a := nt * (24 * f (ACQ_CFG.PT n) + 16 * f (ACQ_CFG.ST n) + 32 * f (ACQ_CFG.AV n) + 24 * f (ACQ_CFG.DT n))
    + f (ACQ_CFG.RAW n) * (16 + 8 * rawWords (s.get (ACQ_RAW.RLEN n)))
  let b := nt * f (ACQ_CFG.DT n) * 8
  let den := period * dec
  (1500 * (a * dec + b * period) + den - 1) / den

/-- The slots of a tone: 0 acts as 1, above 64 as 64. -/
def clampSlots (v : Nat) : Nat := Nat.max 1 (Nat.min 64 v)

/-- The largest record in bytes that the registers as they stand can write. -/
def State.acqLargest (s : State) (n : Nat) : Nat :=
  let opt (x : Rf) (v : Nat) : Nat := if s.bit x then v else 0
  let avg := 8 * (2 + 3 * clampSlots (s.get (ACQ_CAP.SLOTS n)))
  [32, opt (ACQ_CFG.PT n) 24, opt (ACQ_CFG.ST n) 16, opt (ACQ_CFG.AV n) avg,
    opt (ACQ_CFG.DT n) (8 * (2 + 4096 / 2 ^ s.get (ACQ_CFG.DECL n))),
    opt (ACQ_CFG.RAW n) (8 * (2 + rawWords (s.get (ACQ_RAW.RLEN n))))].foldl Nat.max 0

/-- Cause CONFIG of R239, over the registers as they stand. -/
def State.acqBadConfig (s : State) (n : Nat) : Bool :=
  let any := s.bit (ACQ_CFG.PT n) || s.bit (ACQ_CFG.ST n) || s.bit (ACQ_CFG.AV n) || s.bit (ACQ_CFG.DT n) || s.bit (ACQ_CFG.RAW n)
  let mask := s.get (ACQ_TONES.MASK n)
  let decl := s.get (ACQ_CFG.DECL n)
  let rlen := s.get (ACQ_RAW.RLEN n)
  (any && mask == 0) || (s.bit (ACQ_CFG.AV n) && s.get (ACQ_CAP.SHOTS n) == 0) || decide (2 ^ 24 < s.get (ACQ_CAP.SHOTS n))
    || decide (decl < 3) || decide (10 < decl) || (s.bit (ACQ_CFG.RAW n) && !mask.testBit (s.get (ACQ_RAW.TONE n)))
    || decide (s.getInt (ACQ_RAW.OFF n) < -256) || decide (rlen < 1) || decide (16384 < rlen)
    || (List.range 8).any (fun i => s.get (TRG_COND.SRC n i) == 7)
    || decide (s.get (ACQ_BUF_SIZE.VALUE n) % 2 ^ 24 * 4096 < s.acqLargest n)

/-- The limit in force: values above 90,000 act as 90,000. -/
def State.admLimit (s : State) : Nat := Nat.min 90000 (s.get ADM_CFG.LIMIT)

/-- The total for a given number of plays and given figures (R238). -/
def admTotal (plays : Nat) (figures : List Nat) : Nat := 6750 * plays + figures.sum

/-- The admitted figures of the 16 units. -/
def State.admFigures (s : State) : List Nat := (List.range 16).map (fun n => s.get (ACQ_ADM.MBPS n))

/-- Shows the admitted total. -/
def State.showTotal (s : State) : State := s.set ADM_STAT.TOTAL (admTotal s.maxPlays s.admFigures)

/-- A rejected request: its cause and requester, and for BANDWIDTH the excess (R239). -/
def State.admReject (s : State) (cause unit : Nat) (excess : Option Nat) : State :=
  let s := (s.set ADM_REJ.CAUSE cause).set ADM_REJ.UNIT unit
  match excess with
  | some x => s.set ADM_REJ.EXCESS (Nat.min x 0xFFFFFF)
  | none => s

/-- An accepted COMMIT of unit `n` (R223): its registers are put in force; a record buffer that moved starts over. -/
def State.acqAccept (s : State) (n figure : Nat) : State :=
  let cfg := (acqConfigRegs n).foldl (fun m a => Store.write regReset m a (s.rd a)) []
  let a := s.acq n
  let moved := decide (Store.read regReset a.cfg (R.ACQ_BUF_BASE n) ≠ s.rd (R.ACQ_BUF_BASE n)) ||
    decide (Store.read regReset a.cfg (R.ACQ_BUF_SIZE n) ≠ s.rd (R.ACQ_BUF_SIZE n))
  let s := s.setAcq n { a with cfg := cfg, bufPos := if moved then 0 else a.bufPos }
  ((s.set (ACQ_ADM.MBPS n) figure).set (ACQ_STAT.STATE n) acqSt.ready).showTotal

/-- Decides the COMMIT of unit `n`. -/
def State.decideUnit (s : State) (n : Nat) : State :=
  let s := s.setBit (ACQ_CTRL.COMMIT n) false
  if s.acqBusy n then (s.admReject 2 n none).setBit (ACQ_STAT.CFG_REJ n) true
  else if s.acqBadConfig n then s.admReject 3 n none
  else
    let fig := s.acqFigure n
    let total := admTotal s.maxPlays (listSet s.admFigures n fig)
    if s.admLimit < total then s.admReject 1 n (some (total - s.admLimit)) else s.acqAccept n fig

/-- ADMISSION_DECIDE: the oldest admission request is evaluated. -/
def execAdmissionDecide (s : State) : Host.Outcome State Fault Refusal :=
  match s.admQueue with
  | [] => .next s
  | r :: rest =>
    let s := { s with admQueue := rest }
    match r with
    | .unit n => .next (s.decideUnit n)
    | .plays v =>
      let total := admTotal v s.admFigures
      if s.admLimit < total then .next (s.admReject 1 16 (some (total - s.admLimit)))
      else .next ({ s with maxPlays := v }.set SYN_STREAM_CFG.MAX_PLAYS v).showTotal
    | .limit v =>
      if Nat.min 90000 v < admTotal s.maxPlays s.admFigures then .next (s.admReject 4 17 none)
      else .next (s.set ADM_CFG.LIMIT v).showTotal

/-- Appends an admission request (R238). -/
def State.request (s : State) (r : AdmReq) : State := { s with admQueue := s.admQueue ++ [r] }

/-- ACQ_COMMIT: in IDLE, READY or DONE an admission request; in any other state it is ignored with CFG_REJ and rejected as
BUSY (R223, R239). -/
def execAcqCommit (n : Fin 16) (s : State) : Host.Outcome State Fault Refusal :=
  if s.acqBusy n then .next ((s.admReject 2 n none).setBit (ACQ_STAT.CFG_REJ n) true)
  else .next ((s.setBit (ACQ_CTRL.COMMIT n) true).request (.unit n))

def execAdmLimitWrite (v : BitVec 24) (s : State) : Host.Outcome State Fault Refusal := .next (s.request (.limit v.toNat))
def execMaxPlaysWrite (v : BitVec 8) (s : State) : Host.Outcome State Fault Refusal := .next (s.request (.plays v.toNat))

/-! ## Arming (R232) -/

/-- The arm tick has come too late: the flag and the notice. -/
def State.armLate (s : State) (n : Nat) : State := (s.setBit (ACQ_STAT.ARM_LATE n) true).raise Src.ACQ_ARM_LATE (slot n)

/-- The acquisition units of a twin that is not SOLO or ACTIVE are held in READY (R341). -/
def State.acqHeld (s : State) : Bool := !(s.twinRole == 0 || s.twinRole == 5)

/-- ACQ_ARM: READY or DONE arms at ACQ_ARM_TICK, or in the tick after the write; an arm tick not ahead arms in the next tick
and is late. A group master holds an ARM flit with the same tick. -/
def execAcqArm (n : Fin 16) (s : State) : Host.Outcome State Fault Refusal :=
  let st := s.acqState n
  if !(st == acqSt.ready || st == acqSt.done) || s.acqHeld then .next (s.setBit (ACQ_STAT.CFG_REJ n) true)
  else
    let timed := s.acqBit n (ACQ_GRP.ARM_AT n)
    let at_ := s.pair (R.ACQ_ARM_TICK_LO n)
    let t := if timed && Tick.before s.tick at_ then at_ else s.tick + 1
    let s := s.when (timed && !Tick.before s.tick at_) (·.armLate n)
    let s := (s.setBit (ACQ_CTRL.ARM n) true).modAcq n (fun a => { a with armAt := some t })
    .next (s.when (s.acqBit n (ACQ_GRP.EN n) && s.acqBit n (ACQ_GRP.MASTER n)) (fun s =>
      { s with armHeld := s.armHeld ++ [(n.val, if timed then at_ else t)] }))

/-- The engine enters state `i` in tick `t` (R228). -/
def State.trgEnter (s : State) (n i : Nat) (t : Tick) : State :=
  (s.modAcq n (fun a => { a with idx := i, since := t, count := 0, lastCount := none, levelArmed := false })).set
    (ACQ_STAT.TSTATE n) i

/-- The unit moves to ARMED and its trigger engine enters TRG[0] in tick `t`; everything a capture gathers starts anew. -/
def State.acqArmNow (s : State) (n : Nat) (t : Tick) : State :=
  let s := s.modAcq n (fun a => { a with
    armAt := none, armSeen := [], running := true, fire := none, late := false, captured := false, avgErr := false, cov := [],
    slots := [], lastClose := [], counts := [], done := [], lost := 0, notRec := 0, ending := none })
  let s := (s.setBit (ACQ_CTRL.ARM n) false).set (ACQ_STAT.STATE n) acqSt.armed
  s.trgEnter n 0 t

/-! ## Firing (R229 to R231) -/

/-- Adopts fire tick `f`: FIRED, and the trigger engine stops. -/
def State.adoptFire (s : State) (n : Nat) (f : Tick) : State :=
  let s := s.modAcq n (fun a => { a with fire := some f, running := false })
  (s.set (ACQ_STAT.STATE n) acqSt.fired).capture (R.ACQ_FIRE_TICK_LO n) f

/-- A detection in tick `d` (R229): a group unit also sends a FIRE to the group. -/
def State.detect (s : State) (n : Nat) (d : Tick) : State :=
  let f := d + BitVec.ofNat 48 (s.acqGet n (ACQ_TRG_CFG.FIRE_DELAY n))
  let g := BitVec.ofNat 8 (s.acqGet n (ACQ_GRP.ID n))
  let s := s.when (s.acqBit n (ACQ_GRP.EN n)) (fun s =>
    { s with flitsOut := s.flitsOut ++ [(FlitBody.fire g f, d + 4)], localFires := s.localFires ++ [(g, f, d + 4)] })
  s.adoptFire n f

/-- A received FIRE with fire tick `f` (R230, R231). -/
def State.fireReceive (s : State) (n : Nat) (f : Tick) : State :=
  let ahead := decide (2 ≤ Tick.diff s.tick f)
  let a := s.acq n
  let st := s.acqState n
  let late (s : State) : State := (s.setBit (ACQ_STAT.FIRE_LATE n) true).raise Src.ACQ_FIRE_LATE (slot n)
  if st = acqSt.armed then
    if ahead then s.adoptFire n f
    else
      let s := (late s).modAcq n (fun a => { a with fire := some f, running := false, ending := some (s.tick, 2) })
      s.set (ACQ_STAT.STATE n) acqSt.done
  else if st = acqSt.fired then
    match a.fire with
    | some f0 =>
      if !Tick.before f f0 then s
      else if ahead then s.adoptFire n f
      else (late s).modAcq n (fun a => { a with late := true })
    | none => s
  else s

/-- Unit `n` is a member of group `g`. -/
def State.acqInGroup (s : State) (n : Nat) (g : BitVec 8) : Bool :=
  s.acqBit n (ACQ_GRP.EN n) && s.acqGet n (ACQ_GRP.ID n) == g.toNat

/-! ## The trigger engine (R227, R228) -/

/-- The state in force completes in tick `d`: it detects, or enters NEXT. -/
def State.trgComplete (s : State) (n : Nat) (d : Tick) : State :=
  let i := (s.acq n).idx
  if s.acqBit n (TRG_COND.LAST n i) then s.detect n d else s.trgEnter n (s.acqGet n (TRG_COND.NEXT n i)) d

/-- The engine runs, and its state has condition `src`. -/
def State.trgOn (s : State) (n src : Nat) : Bool :=
  s.acqState n == acqSt.armed && (s.acq n).running && s.acqGet n (TRG_COND.SRC n (s.acq n).idx) == src

/-- The first tick in which the state's condition counts, and the tick from which it no longer does (WINDOW). -/
def State.trgSpan (s : State) (n : Nat) : Tick × Option Tick :=
  let a := s.acq n
  let time := BitVec.ofNat 48 (s.acqGet n (TRG_TIMER.TIME n a.idx))
  match s.acqGet n (TRG_TIMER.MODE n a.idx) with
  | 1 => (Tick.max (a.since + 1) (a.since + time), none)
  | 2 => (a.since + 1, some (a.since + time))
  | _ => (a.since + 1, none)

/-- An occurrence of condition `src` with count tick `d`: it counts at most once a tick, and completing the count completes
the state. -/
def State.trgOccur (s : State) (n src : Nat) (d : Tick) : State :=
  let a := s.acq n
  let (from_, until_) := s.trgSpan n
  let inside := Tick.le from_ d && (match until_ with | some u => Tick.before d u | none => true)
  if !s.trgOn n src || s.acqGet n (TRG_TIMER.MODE n a.idx) == 3 || !inside || a.lastCount == some d then s
  else
    let s := s.modAcq n (fun a => { a with count := a.count + 1, lastCount := some d })
    if Nat.max 1 (s.acqGet n (TRG_COUNT.COUNT n a.idx)) ≤ a.count + 1 then s.trgComplete n d else s

/-- A measure window opens on demodulator `k` (condition MEASURE). -/
def State.trgMeasure (s : State) (n k : Nat) : State :=
  s.when ((s.acqGet n (TRG_COND.SEL n (s.acq n).idx)).testBit k) (·.trgOccur n 1 s.tick)

/-- A decision of this device is delivered (condition DECISION). -/
def State.trgDecision (s : State) (n : Nat) (d : Decision) : State :=
  let i := (s.acq n).idx
  let hit := !d.remote && s.acqGet n (TRG_COND.SEL n i) % 256 == d.src.toNat &&
    (s.acqGet n (TRG_COND.MASK n i)).testBit d.state.toNat && (d.valid || !s.acqBit n (TRG_COND.VALID_ONLY n i))
  s.when hit (·.trgOccur n 2 s.tick)

/-- The samples of one pin tick pass the level test (condition LEVEL), with count tick `d`. -/
def State.trgLevel (s : State) (n : Nat) (xs : List Int) (d : Tick) : State :=
  if !s.trgOn n 3 then s
  else
    let i := (s.acq n).idx
    let lev : Int := (BitVec.ofNat 18 (s.acqGet n (ACQ_LEVEL.LEVEL n))).toInt
    let hys : Int := s.acqGet n (ACQ_LEVEL.HYST n)
    let fall := s.acqBit n (TRG_COND.EDGE n i)
    let (armed, hit) := xs.foldl (fun (acc : Bool × Bool) x =>
      let (armed, hit) := acc
      let reach := if fall then decide (x ≤ lev) else decide (lev ≤ x)
      let re := if fall then decide (lev + hys < x) else decide (x < lev - hys)
      if armed && reach then (false, true) else (armed || re, hit)) ((s.acq n).levelArmed, false)
    let s := s.modAcq n (fun a => { a with levelArmed := armed })
    s.when hit (·.trgOccur n 3 d)

/-- TRG_TIMER_EXPIRY: a WINDOW whose count is not complete sends the engine to TRG[0]; a DELAY completes its state. At the
end of a HOLDOFF the condition begins to count. -/
def execTrgTimerExpiry (n : Fin 16) (s : State) : Host.Outcome State Fault Refusal :=
  let a := s.acq n
  let t := a.since + BitVec.ofNat 48 (s.acqGet n (TRG_TIMER.TIME n a.idx))
  if !(s.acqState n == acqSt.armed && a.running) || Tick.before s.tick t then .next s
  else match s.acqGet n (TRG_TIMER.MODE n a.idx) with
    | 2 => .next (s.trgEnter n 0 t)
    | 3 => .next (s.trgComplete n t)
    | _ => .next s

/-- ALWAYS_COUNT_COMPLETE: a state on ALWAYS counts every tick, and completes when TRG_COUNT of them have counted. -/
def execAlwaysCountComplete (n : Fin 16) (s : State) : Host.Outcome State Fault Refusal :=
  let a := s.acq n
  let (from_, until_) := s.trgSpan n
  let d := from_ + BitVec.ofNat 48 (Nat.max 1 (s.acqGet n (TRG_COUNT.COUNT n a.idx)) - 1)
  let inside := match until_ with | some u => Tick.before d u | none => true
  if !s.trgOn n 0 || s.acqGet n (TRG_TIMER.MODE n a.idx) == 3 || !inside || Tick.before s.tick d then .next s
  else .next (s.trgComplete n d)

/-- ACQ_ARM_TICK: at its arm tick a READY or DONE unit moves to ARMED; an ARMED unit counts the ARM flits that carry this
tick (condition ARM_FLIT). -/
def execAcqArmTick (n : Fin 16) (s : State) : Host.Outcome State Fault Refusal :=
  let a := s.acq n
  let st := s.acqState n
  match a.armAt with
  | some t =>
    if (st == acqSt.ready || st == acqSt.done) && Tick.le t s.tick then .next (s.acqArmNow n t)
    else .next s
  | none =>
    match takeFirst (fun t => Tick.le t s.tick) a.armSeen with
    | some (t, rest) => .next ((s.modAcq n (fun a => { a with armSeen := rest })).trgOccur n 6 t)
    | none => .next s

/-- A received ARM flit with arm tick `t` (R232, R227). -/
def State.armReceive (s : State) (n : Nat) (t : Tick) : State :=
  let st := s.acqState n
  if s.acqHeld then s
  else if st = acqSt.ready ∨ st = acqSt.done then
    if Tick.before t s.tick then (s.armLate n).acqArmNow n s.tick else s.modAcq n (fun a => { a with armAt := some t })
  else if st = acqSt.armed then s.modAcq n (fun a => { a with armSeen := a.armSeen ++ [t] })
  else s

/-- ARM_FLIT_RELEASE: once TICK has reached the arm tick minus 2^26, a master's oldest held ARM flit goes to the group: to the
mesh, and to the other units of the group on this device (R232, R318). -/
def execArmFlitRelease (s : State) : Host.Outcome State Fault Refusal :=
  match takeFirst (fun (e : Nat × Tick) => decide (Tick.diff s.tick e.2 ≤ 2 ^ 26)) s.armHeld with
  | none => .next s
  | some ((n, t), rest) =>
    let g := BitVec.ofNat 8 (s.acqGet n (ACQ_GRP.ID n))
    let s := { s with armHeld := rest, flitsOut := s.flitsOut ++ [(FlitBody.arm g t, s.tick)] }
    .next (s.each (List.range 16) (fun s m => if m ≠ n ∧ s.acqInGroup m g then s.armReceive m t else s))

/-- A pulse of an event channel named by the block itself (R192, R233): producer numbers from 1,000 up stand for channels. -/
def State.pulseChannel (s : State) (ch : Nat) : State := s.pulse (1000 + ch)

/-- ACQ_FIRE_TICK: at the fire tick the unit moves to CAPTURE and may pulse its fire event channel (R223, R233). -/
def execAcqFireTick (n : Fin 16) (s : State) : Host.Outcome State Fault Refusal :=
  match (s.acq n).fire with
  | some f =>
    if s.acqState n == acqSt.fired && Tick.le f s.tick then
      let s := s.modAcq n (fun a => { a with captured := true, cov := [] })
      let s := s.set (ACQ_STAT.STATE n) acqSt.capture
      .next (s.when (s.acqBit n (ACQ_TRG_CFG.FIRE_EVT n)) (·.pulseChannel (s.acqGet n (ACQ_TRG_CFG.FIRE_CH n))))
    else .next s
  | none => .next s

/-! ## The capture (R224, R225) -/

/-- The capture ends in this tick, with its END cause. -/
def State.acqEnd (s : State) (n cause : Nat) : State :=
  (s.modAcq n (fun a => { a with running := false, ending := some (s.tick, cause) })).set (ACQ_STAT.STATE n) acqSt.done

/-- Ends the capture once every berth that owns an enabled tone has had its last covered shot or ended its batch. -/
def State.acqEndCheck (s : State) (n : Nat) : State :=
  let a := s.acq n
  let owners := [4 * n, 4 * n + 1, 4 * n + 2, 4 * n + 3].filter (fun b => s.acqOwns b)
  let ended (b : Nat) : Bool := (Store.read (fun _ => (⟨0, false, false, 0⟩ : Cov)) a.cov b).ended
  if s.acqState n == acqSt.capture && s.acqGet n (ACQ_CAP.SHOTS n) != 0 && owners.all ended then s.acqEnd n 0 else s

/-- Coverage of berth `b` in its unit. -/
def State.acqCov (s : State) (b : Nat) : Cov := Store.read (fun _ => ⟨0, false, false, 0⟩) (s.acq (b / 4)).cov b

def State.setAcqCov (s : State) (b : Nat) (c : Cov) : State :=
  s.modAcq (b / 4) (fun a => { a with cov := Store.write (fun _ => ⟨0, false, false, 0⟩) a.cov b c })

/-- A shot of berth `b` closes in this tick: its last covered shot ends the berth's part of the capture. -/
def State.acqShotClose (s : State) (b : Nat) : State :=
  let c := s.acqCov b
  if s.acqState (b / 4) == acqSt.capture && s.acqOwns b && c.inside then
    let shots := s.acqGet (b / 4) (ACQ_CAP.SHOTS (b / 4))
    (s.setAcqCov b { c with inside := false, ended := shots != 0 && decide (shots ≤ c.shots) }).acqEndCheck (b / 4)
  else s

/-- A shot of berth `b` opens in this tick: the first SHOTS opened at or after the fire tick are covered. -/
def State.acqShotOpen (s : State) (b : Nat) (shot : Word) : State :=
  let c := s.acqCov b
  let shots := s.acqGet (b / 4) (ACQ_CAP.SHOTS (b / 4))
  if s.acqState (b / 4) == acqSt.capture && s.acqOwns b && !c.ended && (shots == 0 || decide (c.shots < shots)) then
    s.setAcqCov b { c with inside := true, shots := c.shots + 1, shot := shot }
  else s

/-- Berth `b` has ended its batch, at its last SHOT, at HALT or by a stop. -/
def State.acqBatchEnd (s : State) (b : Nat) : State :=
  if s.acqState (b / 4) == acqSt.capture && s.acqOwns b then
    (s.setAcqCov b { s.acqCov b with inside := false, ended := true }).acqEndCheck (b / 4)
  else s

/-- STOP of R223: ARMED, FIRED or CAPTURE moves to DONE. -/
def State.acqStop (s : State) (n : Nat) : State := if s.acqBusy n then s.acqEnd n 1 else s

def execAcqStop (n : Fin 16) (s : State) : Host.Outcome State Fault Refusal := .next (s.acqStop n)

/-- A block reset of the unit, a chip reset or RESET_N: IDLE, its figure withdrawn, without end records (R226). -/
def State.acqReset (s : State) (n : Nat) : State :=
  let s := s.setAcq n .init
  let s := { s with admQueue := s.admQueue.filter (fun r => r ≠ AdmReq.unit n), armHeld := s.armHeld.filter (fun e => e.1 ≠ n) }
  let s := ((s.set (ACQ_ADM.MBPS n) 0).set (ACQ_STAT.STATE n) acqSt.idle).set (ACQ_STAT.TSTATE n) 0
  ((s.setBit (ACQ_CTRL.COMMIT n) false).setBit (ACQ_CTRL.ARM n) false).showTotal

/-! ## Records (R234 to R240) -/

/-- The bytes of 64-bit words, little-endian. -/
def wordBytes (ws : List (BitVec 64)) : List (BitVec 8) :=
  ws.flatMap (fun w => (List.range 8).map (fun i => w.extractLsb' (8 * i) 8))

/-- The two header words of a record of `len` words (R234). -/
def recHeader (type n k : Nat) (state : BitVec 2) (valid kern : Bool) (status : BitVec 8) (slot : Nat) (shot : Word) (e : Tick)
    (len : Nat) : List (BitVec 64) :=
  [BitVec.ofNat 64 (type + n * 2 ^ 4 + k * 2 ^ 8 + state.toNat * 2 ^ 12 + flagNat valid * 2 ^ 14 + flagNat kern * 2 ^ 15
      + status.toNat * 2 ^ 16 + slot * 2 ^ 24 + shot.toNat * 2 ^ 32),
    BitVec.ofNat 64 (e.toNat + len * 2 ^ 48)]

/-- Space for a record beside those not handed over, with the END record's 32 bytes kept (R240). -/
def State.acqRoom (s : State) (n bytes : Nat) (isEnd : Bool) : Bool :=
  let size := s.acqGet n (ACQ_BUF_SIZE.VALUE n) % 2 ^ 24 * 4096
  let base := s.acqGet n (ACQ_BUF_BASE.VALUE n) * 4096
  let held := (((s.acq n).recs.filter (fun r => r.1 == base)).map (fun r => r.2.2.2)).sum
  decide (held + bytes + (if isEnd then 0 else 32) ≤ size)

/-- Writes a record at the buffer's position, wrapping at its end, or loses it. -/
def State.acqRecord (s : State) (n : Nat) (ws : List (BitVec 64)) (isEnd : Bool) : State :=
  let bytes := 8 * ws.length
  let a := s.acq n
  if !s.acqRoom n bytes isEnd then
    let s := s.when (!a.lostRun) (·.raise Src.ACQ_BUF_FULL (slot n))
    let s := s.modAcq n (fun a => { a with lostRun := true, lost := a.lost + 1, lostSince := a.lostSince + 1 })
    (s.setBit (ACQ_STAT.LOST n) true).bump (ACQ_LOST_CNT.COUNT n)
  else
    let base := s.acqGet n (ACQ_BUF_BASE.VALUE n) * 4096
    let size := s.acqGet n (ACQ_BUF_SIZE.VALUE n) % 2 ^ 24 * 4096
    let bs := wordBytes ws
    let fit := size - a.bufPos
    let s := s.dramWrite (base + a.bufPos) (bs.take fit)
    let s := s.when (decide (fit < bytes)) (·.dramWrite base (bs.drop fit))
    let s := s.modAcq n (fun a => { a with
      lostRun := false, bufPos := (a.bufPos + bytes) % size, recs := a.recs ++ [(base, size, a.bufPos, bytes)] })
    s.bump (ACQ_REC_CNT.COUNT n)

/-- Slots per tone in force. -/
def State.acqSlots (s : State) (n : Nat) : Nat := clampSlots (s.acqGet n (ACQ_CAP.SLOTS n))

/-- The points of a DEMOD record: sums of 2^decl values divided by 2^decl, rounded half up (R235). -/
def demodPoints (decl : Nat) : List (Int × Int × Bool) → Nat → List (BitVec 64)
  | _, 0 => []
  | [], _ => []
  | t :: ts, fuel + 1 =>
    let c := (t :: ts).take (2 ^ decl)
    let i := BitVec.ofInt 18 (roundShift (c.map (·.1)).sum decl)
    let q := BitVec.ofInt 18 (roundShift (c.map (·.2.1)).sum decl)
    BitVec.ofNat 64 (i.toNat + q.toNat * 2 ^ 18 + flagNat (c.all (·.2.2)) * 2 ^ 36) ::
      demodPoints decl ((t :: ts).drop (2 ^ decl)) fuel

/-- Packs samples three to a word. -/
def rawPack : List (BitVec 19) → Nat → List (BitVec 64)
  | _, 0 => []
  | [], _ => []
  | [a], _ => [a.setWidth 64]
  | [a, b], _ => [BitVec.ofNat 64 (a.toNat + b.toNat * 2 ^ 19)]
  | a :: b :: c :: t, fuel + 1 => BitVec.ofNat 64 (a.toNat + b.toNat * 2 ^ 19 + c.toNat * 2 ^ 38) :: rawPack t fuel

/-- The corrected samples of pin tick `t`, zero and not valid where the history does not reach. -/
def Acq.samples (a : Acq) (t : Tick) : List (Int × Bool) :=
  match a.hist.find? (fun e => e.1 == t) with
  | some e => e.2
  | none => List.replicate 4 (0, false)

/-- The words of a RAW record's samples. -/
def Acq.rawTrace (a : Acq) (first : Tick) (rlen : Nat) : List (BitVec 64) :=
  let xs := (List.range rlen).flatMap (fun i => a.samples (first + BitVec.ofNat 48 i))
  rawPack (xs.map (fun x => BitVec.ofNat 19 ((BitVec.ofInt 18 x.1).toNat + flagNat x.2 * 2 ^ 18))) (2 * rlen + 1)

/-- The counts of a slot: states 0 to 3, VALID 0, and N. -/
def Acq.slotCount (a : Acq) (k slot : Nat) : List Nat := Store.read (fun _ => [0, 0, 0, 0, 0, 0]) a.counts (k * 64 + slot)

def Acq.setCount (a : Acq) (k slot : Nat) (v : List Nat) : Acq :=
  { a with counts := Store.write (fun _ => [0, 0, 0, 0, 0, 0]) a.counts (k * 64 + slot) v }

/-- A 64-bit word of SDRAM. -/
def State.dramWord (s : State) (a : Nat) : BitVec 64 :=
  BitVec.ofNat 64 ((List.range 8).foldl (fun acc i => acc + (s.dramByte (a + i)).toNat * 256 ^ i) 0)

/-- Counting and averaging of a window in a slot below SLOTS (R237, R239, R240). A slot with no window summed starts from the
window alone. -/
def State.acqAverage (s : State) (n : Nat) (r : WinRes) (d : Decision) (bad : Bool) : State :=
  let k := r.src % 16
  let c := (s.acq n).slotCount k r.slot
  let c := listSet c d.state.toNat (c.getD d.state.toNat 0 + 1)
  let c := if d.valid then c else listSet c 4 (c.getD 4 0 + 1)
  let restart := bad && d.valid && decide (c.getD 5 0 ≠ 0)
  let s := s.when restart (fun s =>
    ((s.modAcq n (fun a => { a with avgErr := true })).setBit (ACQ_STAT.AVG_ERR n) true).raise Src.ACQ_AVG_ERR (slot n))
  if d.valid then
    let at_ := s.acqGet n (ACQ_AVG_BASE.VALUE n) * 4096 + 1024 * k + 16 * r.slot
    let fresh := restart || c.getD 5 0 == 0
    let i := (if fresh then 0 else s.dramWord at_) + BitVec.ofInt 64 r.i
    let q := (if fresh then 0 else s.dramWord (at_ + 8)) + BitVec.ofInt 64 r.q
    let s := s.dramWrite at_ (wordBytes [i, q])
    s.modAcq n (fun a => a.setCount k r.slot (listSet c 5 (if fresh then 1 else c.getD 5 0 + 1)))
  else s.modAcq n (fun a => a.setCount k r.slot c)

/-- ACQ_RECORD_WRITE: the next delivered captured window is recorded: RAW, DEMOD, POINT, STATE, then its averaging. A window
closed sooner than PERIOD after the previous one writes nothing (R236). `bad`: the averaging read finds an uncorrectable
error. A RAW trace waits for its last sample. -/
def execAcqRecordWrite (n : Fin 16) (bad : Bool) (s : State) : Host.Outcome State Fault Refusal :=
  match (s.acq n).done with
  | [] => .next s
  | (r, d) :: rest =>
    let k := r.src % 16
    let raw := s.acqBit n (ACQ_CFG.RAW n) && s.acqGet n (ACQ_RAW.TONE n) == k
    let first := r.o + BitVec.ofInt 48 (BitVec.ofNat 13 (s.acqGet n (ACQ_RAW.OFF n))).toInt
    let rlen := s.acqGet n (ACQ_RAW.RLEN n)
    if raw && !r.early && !Tick.le (first + BitVec.ofNat 48 rlen + 8) s.tick then .next s
    else
      let s := s.modAcq n (fun a => { a with done := rest })
      if r.early then
        let s := s.modAcq n (fun a => { a with notRec := a.notRec + 1 })
        .next (((s.setBit (ACQ_STAT.PERIOD n) true).bump (ACQ_PERIOD_CNT.COUNT n)).raise Src.ACQ_PERIOD (slot n))
      else
        let sl := if r.slot < s.acqSlots n then r.slot else 0xFF
        let rec1 (s : State) (type : Nat) (ws : List (BitVec 64)) : State :=
          s.acqRecord n (recHeader type n k d.state d.valid d.kern r.status sl r.shot d.endTick (2 + ws.length) ++ ws) false
        let s := s.when raw (fun s => rec1 s 1 ((s.acq n).rawTrace first rlen))
        let s := s.when (s.acqBit n (ACQ_CFG.DT n)) (fun s =>
          rec1 s 2 (demodPoints (s.acqGet n (ACQ_CFG.DECL n)) r.trace 4096))
        let s := s.when (s.acqBit n (ACQ_CFG.PT n)) (fun s =>
          rec1 s 3 [BitVec.ofNat 64 ((BitVec.ofInt 18 r.i).toNat + (BitVec.ofInt 18 r.q).toNat * 2 ^ 32)])
        let s := s.when (s.acqBit n (ACQ_CFG.ST n)) (fun s => rec1 s 4 [])
        .next (s.when (s.acqBit n (ACQ_CFG.AV n) && decide (r.slot < s.acqSlots n)) (·.acqAverage n r d bad))

/-- The AVG and COUNTS records of tone `k` at the end of a capture (R235). -/
def State.acqToneEnd (s : State) (n k : Nat) (e : Tick) : State :=
  let a := s.acq n
  let slots := s.acqSlots n
  let shot := (s.acqCov (4 * n + k / 4)).shot
  let head (type : Nat) : List (BitVec 64) := recHeader type n k 0 false false 0 slots shot e (2 + 3 * slots)
  let base := s.acqGet n (ACQ_AVG_BASE.VALUE n) * 4096 + 1024 * k
  let avg := (List.range slots).flatMap (fun j =>
    let c := a.slotCount k j
    if c.getD 5 0 = 0 then [0, 0, 0] else [s.dramWord (base + 16 * j), s.dramWord (base + 16 * j + 8), BitVec.ofNat 64 (c.getD 5 0)])
  let cnt := (List.range slots).flatMap (fun j =>
    let c := a.slotCount k j
    [BitVec.ofNat 64 (c.getD 0 0 + c.getD 1 0 * 2 ^ 32), BitVec.ofNat 64 (c.getD 2 0 + c.getD 3 0 * 2 ^ 32),
      BitVec.ofNat 64 (c.getD 4 0)])
  (s.acqRecord n (head 5 ++ avg) false).acqRecord n (head 6 ++ cnt) false

/-- ACQ_END_RECORDS: after a capture has ended and the windows delivered before are recorded, its AVG, COUNTS and END records
are written (R235, R237). -/
def execAcqEndRecords (n : Fin 16) (s : State) : Host.Outcome State Fault Refusal :=
  let a := s.acq n
  match a.ending, a.done with
  | some (e, cause), [] =>
    let s := s.when (s.acqBit n (ACQ_CFG.AV n) && a.captured) (fun s =>
      s.each ((List.range 16).filter (fun k => s.acqTone n k)) (fun s k => s.acqToneEnd n k e))
    let a := s.acq n
    let w3 := ((a.fire.getD 0).toNat) + cause * 2 ^ 48 + flagNat a.late * 2 ^ 51 + flagNat a.avgErr * 2 ^ 52
    let ws := recHeader 7 n 0 0 false false 0 0 0 e 4 ++
      [BitVec.ofNat 64 (a.lost % 2 ^ 32 + (a.notRec % 2 ^ 32) * 2 ^ 32), BitVec.ofNat 64 w3]
    .next ((s.acqRecord n ws true).modAcq n (fun a => { a with ending := none }))
  | _, _ => .next s

end Sys2Proof.Machine
end

