-- ==== Sys2Proof/Machine/Readout.lean ====
section
/-! DEFINITION. The read-out chain: front-end changes, one tick of samples from stamp to integration, measure windows and
linear discrimination (R172 to R193), and the making of decisions. -/

namespace Sys2Proof.Machine

/-! ## Front-end changes (R173, R176) -/

/-- A change accepted now acts on pin ticks from C = TICK + 2, and unsettles `n` of them. -/
def State.frontChange (s : State) (n : Nat) (ticks : Nat) : State :=
  let c := s.tick + 2
  (s.modInp n (fun i => { i with spans := i.spans ++ [(c, c + BitVec.ofNat 48 (ticks - 1))] })).capture
    (R.RDI_CHG_TICK_LO n) c

/-- RDI_ATT_WRITE: a value that changes the attenuation. -/
def execRdiAttWrite (n : Fin 16) (att : BitVec 6) (s : State) : Host.Outcome State Fault Refusal :=
  .next (if s.get (RDI_ATT.ATT n) = att.toNat then s else (s.set (RDI_ATT.ATT n) att.toNat).frontChange n 24)

/-- RDI_INJ_WRITE: the injection switch, in either direction. -/
def execRdiInjWrite (n : Fin 16) (inj : Bool) (s : State) : Host.Outcome State Fault Refusal :=
  .next (if s.bit (RDI_CFG.INJ n) = inj then s else (s.setBit (RDI_CFG.INJ n) inj).frontChange n 16)

/-- RDI_EN_SET: the input is enabled: pin ticks are offline until C. -/
def execRdiEnSet (n : Fin 16) (s : State) : Host.Outcome State Fault Refusal :=
  if s.bit (RDI_CFG.EN n) then .next s
  else
    let s := s.setBit (RDI_CFG.EN n) true
    let close (l : List (Option Tick × Option Tick)) : List (Option Tick × Option Tick) :=
      l.map (fun p => match p.2 with | none => (p.1, some (s.tick + 2)) | some _ => p)
    .next ((s.modInp n (fun i => { i with offs := close i.offs })).frontChange n 24)

/-- RDI_EN_CLEAR: every pin tick from C on is offline. -/
def execRdiEnClear (n : Fin 16) (s : State) : Host.Outcome State Fault Refusal :=
  if !s.bit (RDI_CFG.EN n) then .next s
  else
    let s := s.setBit (RDI_CFG.EN n) false
    .next (s.modInp n (fun i => { i with offs := i.offs ++ [(some (s.tick + 2), none)] }))

/-- RDI_MODE_WRITE: accepted only while EN was 0. -/
def execRdiModeWrite (n : Fin 16) (mode : Bool) (s : State) : Host.Outcome State Fault Refusal :=
  .next (if s.bit (RDI_CFG.EN n) then s.setBit (RDI_STAT.CFG_REJ n) true else s.setBit (RDI_CFG.MODE n) mode)

/-- RDI_LOF_WRITE: writing the high half latches the pair, only while EN is 0. -/
def execRdiLofWrite (n : Fin 16) (hi : BitVec 16) (s : State) : Host.Outcome State Fault Refusal :=
  if s.bit (RDI_CFG.EN n) then .next (s.setBit (RDI_STAT.CFG_REJ n) true)
  else
    let s := s.set (RDI_LOF_HI.LOF n) hi.toNat
    .next (s.modInp n (fun i => { i with lof := s.pair (R.RDI_LOF_LO n) }))

/-- Pin tick `t` is unsettled, and offline. -/
def Input.unsettled (i : Input) (t : Tick) : Bool := i.spans.any (fun p => Tick.le p.1 t && Tick.le t p.2)
def Input.offline (i : Input) (t : Tick) : Bool :=
  i.offs.any (fun p => (match p.1 with | none => true | some f => Tick.le f t) &&
    (match p.2 with | none => true | some g => Tick.before t g))

/-! ## Windows (R76, R181 to R184) -/

/-- A window on demodulator `src` opens at the current tick with weight set `w`, and latches its set-up (R184). A window already
open keeps. -/
def State.openWindow (s : State) (src w : Nat) (shot : Word) : State :=
  let n := src / 16
  let k := src % 16
  if (s.demod src).wins.any (fun w => w.close.isNone) then s
  else
    let line (j : Nat) : Int × Int × Int :=
      (s.getInt (DISC_A.COEF n k j), s.getInt (DISC_B.COEF n k j), (BitVec.ofNat 32 (s.get (DISC_T.THR n k j))).toInt)
    let cov := s.acqCov (src / 4)
    let win : Win := {
      o := s.tick, close := none, cut := false,
      base := s.get (DEM_WSET.BASE n k w), length := s.get (DEM_WSET.LENGTH n k w),
      shift := s.get (DEM_CFG.SHIFT n k), sub := s.get (DEM_CFG.SUB n k), sel := s.bit (DEM_CFG.SEL n k),
      cal := s.rd (R.DEM_PHASE_CAL n k), nstate := s.bit (DISC_CFG.NSTATE n k), leakEn := s.bit (DISC_CFG.LEAK_EN n k),
      leakState := s.bit (DISC_CFG.LEAK_STATE n k), lines := [line 0, line 1, line 2],
      accI := 0, accQ := 0, parI := 0, parQ := 0, parN := 0, settling := false, lost := false, freq := false, off := false,
      ovr := false, shot := shot, captured := s.acqState n == acqSt.capture && s.acqTone n k && cov.inside, trace := [] }
    let s := (s.modDemod src (fun d => { d with wins := d.wins ++ [win] })).setBit (DEM_STAT.OPEN n k) true
    -- a window meets a system calibration step in progress (R255)
    let s := s.modInp n (fun i => { i with scal := i.scal.map (fun c => (c.1, c.2.1, c.2.2.1, true, c.2.2.2.2)) })
    s.trgMeasure n k

/-- How a window is closed. -/
inductive CloseBy where
  | mclose | boundary | lost | stop
  deriving DecidableEq, Repr

/-- The open window of demodulator `src` closes at tick `c`: MCLOSE at o + 4 at the earliest; a boundary sooner than that, a
lost close and a stop cut it (R42, R76, R92, R185). -/
def State.closeWindow (s : State) (src : Nat) (c : Tick) (how : CloseBy) : State :=
  let n := src / 16
  let k := src % 16
  let shut (w : Win) : Win :=
    if w.close.isSome then w
    else
      let short := decide (Tick.diff w.o c < 4)
      match how with
      | .mclose => { w with close := some (if short then w.o + 4 else c) }
      | .boundary => { w with close := some c, cut := w.cut || short }
      | _ => { w with close := some c, cut := true }
  let s := s.modDemod src (fun d => { d with wins := d.wins.map shut })
  s.setBit (DEM_STAT.OPEN n k) ((s.demod src).wins.any (fun w => match w.close with
    | none => true | some c => Tick.before s.tick c))

/-! ## Discrimination (R187, R188) -/

/-- Line `j` at a point: a Q1.17 pair and a Q1.31 threshold, at 34 fraction bits. -/
def lineValue (l : Int × Int × Int) (i q : Int) : Int := l.1 * i + l.2.1 * q - l.2.2 * 8

/-- The linear state and the leakage test of a window at its point. -/
def Win.classify (w : Win) (i q : Int) : BitVec 2 × Bool :=
  let v (j : Nat) : Int := lineValue (w.lines.getD j (0, 0, 0)) i q
  let leak := w.leakEn && decide (0 ≤ v 2)
  let st : BitVec 2 :=
    if !w.nstate then (if 0 ≤ v 0 then 1 else 0)
    else if v 0 < 0 then 0
    else if v 1 < 0 then 1 else 2
  (if leak && w.leakState then 3 else st, leak)

/-- The status byte of R185. -/
def Win.status (w : Win) (sat leak : Bool) : BitVec 8 :=
  BitVec.ofNat 8 (flagNat w.settling + flagNat w.lost * 2 + flagNat w.cut * 4 + flagNat w.freq * 8 + flagNat w.off * 16
    + flagNat w.ovr * 32 + flagNat sat * 64 + flagNat leak * 128)

/-- VALID of a window's decision (R186): SETTLING, LOST, CUT, FREQ and OFF all 0, and OVR too where OVR_INV is 1. -/
def statusValid (st : BitVec 8) (ovrInv : Bool) : Bool := (st &&& 0x1F) == 0 && !(ovrInv && st.getLsbD 5)

/-- A sum scaled to a point: ACC × 2^-SHIFT rounded to Q1.17 and saturated (R182). -/
def scalePoint (acc : Int) (shift : Nat) : Int × Bool :=
  let r := roundShift acc (15 + shift)
  (satInt 18 r, satFlag 18 r)

/-! ## The end of a window (R182, R185, R189, R191, R224, R236) -/

/-- The slot of a captured window: its position in order of closing among those of its tone in its shot. -/
def State.takeSlot (s : State) (n k : Nat) (shot : Word) : State × Nat :=
  let (sh, i) := Store.read (fun _ => ((0 : Word), 0)) (s.acq n).slots k
  let i := if sh = shot then i else 0
  (s.modAcq n (fun a => { a with slots := Store.write (fun _ => ((0 : Word), 0)) a.slots k (shot, i + 1) }), i)

/-- WINDOW_INTEGRATION_END: the point, the status and the linear state are formed. A linear decision is due at END + 17; a SEL = 1
window goes to the kernel engine. -/
def State.windowEnd (s : State) (src : Nat) (w : Win) (c : Tick) : State :=
  let n := src / 16
  let k := src % 16
  let (i, sat1) := scalePoint w.accI w.shift
  let (q, sat2) := scalePoint w.accQ w.shift
  let sat := sat1 || sat2
  let (st, leak) := w.classify i q
  -- the LEAK flag of a SEL = 1 window is the result of DEC (R197)
  let status := w.status sat (leak && !w.sel)
  let e := c - 1
  let s := s.bump (DEM_WIN_CNT.COUNT n k)
  let s := s.when sat (·.setBit (DEM_STAT.SAT n k) true)
  let prev := Store.read (fun _ => (none : Option Tick)) (s.acq n).lastClose k
  let period : Int := (Nat.max 4 (s.acqGet n (ACQ_CFG.PERIOD n)) : Nat)
  let early := match prev with | some p => decide (Tick.diff p c < period) | none => false
  let (s, slot) := if w.captured then
      let s := s.modAcq n (fun a => { a with lastClose := Store.write (fun _ => none) a.lastClose k (some c) })
      s.takeSlot n k w.shot
    else (s, 0)
  let r : WinRes := { src := src, o := w.o, endTick := e, status := status, i := i, q := q, state := st, shot := w.shot,
                      slot := slot, captured := w.captured, early := early, sub := w.parN, trace := w.trace }
  let s := { s with winResults := s.winResults ++ [r] }
  if w.sel then { s with jobsDue := s.jobsDue ++ [r] }
  else
    let d : Decision := { dev := 0, remote := false, src := BitVec.ofNat 8 src, state := st,
                          valid := statusValid status (s.bit (RDI_CFG.OVR_INV n)), kern := false, status := status, endTick := e, byDec := false }
    { s with decMade := s.decMade ++ [(d, e + 17)] }

/-! ## One pin tick of a demodulator (R179 to R183) -/

/-- A mixed sample: x (cos φ − i sin φ), each product rounded half up to 18 bits. -/
def mixSample (x : Int) (φ : Word) : Int × Int :=
  (satInt 18 (roundShift (x * cosPhi φ) 17), satInt 18 (roundShift (-(x * sinPhi φ)) 17))

/-- The decimating filter over the eight mixed samples of two pin ticks. -/
def decimate (xs : List (Int × Int × Bool)) : Int × Int × Bool :=
  let taps : List Int := [1, 3, 5, 7, 7, 5, 3, 1]
  let z := List.zip taps xs
  (roundShift (z.map (fun p => p.1 * p.2.1)).sum 5, roundShift (z.map (fun p => p.1 * p.2.2.1)).sum 5, xs.all (·.2.2))

/-- The weight of window tick `i`: entries wrap modulo 8,192; a tick at LENGTH or beyond has none (R181). -/
def State.weight (s : State) (n : Nat) (w : Win) (i : Nat) : Int × Int :=
  if w.length ≤ i then (0, 0)
  else
    let v := s.rd (R.WEIGHT n ((w.base + i) % 8192))
    ((v.setWidth 16).toInt, (v.extractLsb' 16 16).toInt)

/-- What a pin tick's samples show: unsettled, dropped, offline, overrange. -/
structure PinFlags where
  unsettled : Bool
  lost : Bool
  off : Bool
  ovr : Bool
  deriving DecidableEq, Repr

/-- A window after pin tick `t`, its partial points handed on, and whether it has ended. The tick before its first counts for the
flags only. -/
def State.winTick (s : State) (src : Nat) (t : Tick) (p : PinFlags) (freq : Bool) (d : Int × Int × Bool) (w : Win) :
    State × Option Win :=
  let n := src / 16
  let i := Tick.diff w.o t
  let w := if i = 4095 ∧ w.close.isNone then { w with close := some (t + 1) } else w
  let live := decide (-1 ≤ i) && (match w.close with | none => true | some c => Tick.before t c)
  if !live then (s, some w)
  else
    let w := { w with settling := w.settling || p.unsettled, lost := w.lost || p.lost, off := w.off || p.off,
                      ovr := w.ovr || p.ovr }
    let last := w.close == some (t + 1)
    let (s, w) := if i < 0 then (s, w)
      else
        let (wi, wq) := s.weight n w i.toNat
        let ai := wi * d.1 - wq * d.2.1
        let aq := wi * d.2.1 + wq * d.1
        let w := { w with freq := w.freq || freq, accI := w.accI + ai, accQ := w.accQ + aq, trace := w.trace ++ [d] }
        if w.sub = 0 then (s, w)
        else
          let w := { w with parI := w.parI + ai, parQ := w.parQ + aq }
          if (i.toNat + 1) % 2 ^ (w.sub + 3) = 0 ∨ last then
            let pt := (n, src % 16, t, flagNat last, (scalePoint w.parI w.shift).1, (scalePoint w.parQ w.shift).1)
            ({ s with partials := s.partials ++ [pt] }, { w with parI := 0, parQ := 0, parN := w.parN + 1 })
          else (s, w)
    if last then (s.windowEnd src w (t + 1), none) else (s, some w)

/-- Demodulator `src` in pin tick `t`: the orders due, mixing, d[t], and its windows in order. -/
def State.demodTick (s : State) (src : Nat) (t : Tick) (xs : List (Int × Bool)) (p : PinFlags) : State :=
  let n := src / 16
  let k := src % 16
  let d0 := s.demod src
  let due := d0.sched.filter (fun e => Tick.le e.1 t && e.2.1.isNone)
  let d := due.foldl (fun (d : Demod) e => match e.2.2.1 with
    | .freqSet _ _ f => { d with freq := f, origin := e.2.2.2 }
    | .phaseShift _ _ ph => { d with phase := d.phase + ph }
    | _ => d) { d0 with sched := d0.sched.filter (fun e => !(Tick.le e.1 t && e.2.1.isNone)) }
  let changed := decide (d.freq ≠ d0.freq) || decide (d.origin ≠ d0.origin)
  let fd := if s.bit (RDI_CFG.MODE n) then d.freq - (s.inp n).lof else d.freq
  let cal := match d0.wins.find? (fun w => Tick.le (w.o - 1) t && (match w.close with | none => true | some c => Tick.before t c)) with
    | some w => w.cal | none => s.rd (R.DEM_PHASE_CAL n k)
  let mixed := (List.range 4).map (fun m =>
    let x := xs.getD m (0, false)
    -- sample m of the tick is DAC sample 2m
    let r := mixSample x.1 (oscPhase fd d.origin t 8 (2 * m) + d.phase + cal)
    (r.1, r.2, x.2))
  let prev := if (s.inp n).pin = some (t - 1) then d0.prev else List.replicate 4 (0, 0, false)
  let v := decimate (prev ++ mixed)
  let s := s.setDemod src { d with prev := mixed, wins := [] }
  let s := (s.capture (R.DEM_FREQ_LO n k) fd).wr (R.DEM_PHASE n k) d.phase
  let (s, ws) := d0.wins.foldl (fun (acc : State × List Win) w =>
    let (s, r) := acc.1.winTick src t p changed v w
    (s, match r with | some w => acc.2 ++ [w] | none => acc.2)) (s, [])
  let s := s.modDemod src (fun d => { d with wins := ws })
  s.setBit (DEM_STAT.OPEN n k) (ws.any (fun w => match w.close with | none => true | some c => Tick.before s.tick c))

/-! ## Ingress (R45, R174 to R178) -/

/-- A run of dropped samples ends: INGRESS_LATE with the input, the first pin tick and the count (R45). -/
def State.dropRunEnd (s : State) (n : Nat) : State :=
  match (s.inp n).dropRun with
  | none => s
  | some (t, c) =>
    (s.raise Src.INGRESS_LATE (slot n ++ slotTick t ++ slot c)).modInp n (fun i => { i with dropRun := none })

/-- READOUT_SAMPLE_INGRESS: input `n` stamps the four samples of pin tick TICK − 8 and demodulates them. The samples are as the
correction of R174 leaves them (log 6); bit `m` of `ovr` tells that the uncorrected code of sample m is −2,048 or
+2,047, bit `m` of `drop` that it finds the ingress buffer full; `slack` is the buffer's free depth in this tick, 0 in a tick that
drops. -/
def execReadoutSampleIngress (n : Fin 16) (x0 x1 x2 x3 : BitVec 18) (ovr drop : BitVec 4) (slack : Fin 33) (s : State) :
    Host.Outcome State Fault Refusal :=
  let t := s.tick - 8
  let f := s.inp n
  let unsettled := f.unsettled t
  let off := f.offline t
  let sample (m : Nat) (x : BitVec 18) : Int × Bool :=
    (if off || drop.getLsbD m then 0 else x.toInt, !(unsettled || off || drop.getLsbD m))
  let xs := [sample 0 x0, sample 1 x1, sample 2 x2, sample 3 x3]
  let anyOvr := !off && (ovr &&& ~~~drop) != 0
  let p : PinFlags := { unsettled := unsettled, lost := drop != 0, off := off, ovr := anyOvr }
  let src (k : Nat) : Nat := 16 * n.val + k
  -- overrange (R175)
  let s := s.when (anyOvr && !f.ovrRun) (·.raise Src.RDI_OVR (slot n ++ slotTick t))
  let s := s.when anyOvr (fun s => (s.bump (RDI_OVR_CNT.COUNT n)).setBit (RDI_STAT.OVR n) true)
  -- what the samples are marked with (R176, R178)
  let s := s.setBit (RDI_STAT.SETTLING n) unsettled
  let s := s.bump (RDI_INV_CNT.COUNT n) (xs.filter (fun x => !x.2)).length
  -- ingress slack and dropped samples (R36, R38, R45)
  let slack := if drop == 0 then slack.val else 0
  let s := s.set (ING_STAT.SLACK_MIN n) (Nat.min slack (s.get (ING_STAT.SLACK_MIN n)))
  let s := s.monitor (160 + n) (decide (slack < s.govTh))
  let s := (List.range 4).foldl (fun s m =>
    if drop.getLsbD m then
      s.modInp n (fun i => { i with dropRun := match i.dropRun with | some (a, c) => some (a, c + 1) | none => some (t, 1) })
    else s.dropRunEnd n) s
  let s := s.when (drop != 0) (fun s =>
    let s := s.setBit (ING_STAT.LOST n) true
    let s := s.bump (ING_LOST_CNT.COUNT n) ((List.range 4).filter (fun m => drop.getLsbD m)).length
    s.each (List.range 16) (fun s k =>
      (s.demod (src k)).wins.foldl (fun s w =>
        let in_ := Tick.le (w.o - 1) t && (match w.close with | none => true | some c => Tick.before t c)
        let b := src k / 4
        if in_ && (s.ledger b).inflight == w.shot then s.markPartial b cause.ingressLate else s) s))
  -- demodulation, and the level test of the pin tick two before (R179 to R183, R227)
  let s := s.each (List.range 16) (fun s k => s.demodTick (src k) t xs p)
  let keep := if s.acqBit n (ACQ_CFG.RAW n) then 32768 else 256
  let s := s.modAcq n (fun a => { a with hist := ((t, xs) :: a.hist).take keep })
  let lev := (s.acq n).samples (s.tick - 10)
  let s := s.when (s.trgOn n 3) (·.trgLevel n (lev.map (·.1)) s.tick)
  .next (s.modInp n (fun i => { i with
    pin := some t, ovrRun := anyOvr,
    scal := i.scal.map (fun c => (c.1, c.2.1, c.2.2.1, c.2.2.2.1, c.2.2.2.2 || anyOvr)), spans := i.spans.filter (fun q => Tick.le t q.2),
    offs := i.offs.filter (fun q => match q.2 with | none => true | some g => Tick.le t g) }))

/-- DEM_LAST_DEC_READ: latches the point and end tick of the same window. -/
def execDemLastDecRead (n : Fin 16) (k : Fin 16) (s : State) : Host.Outcome State Fault Refusal :=
  let d := s.demod (16 * n.val + k.val)
  let s := (s.set (DEM_LAST_I.VALUE n k) (BitVec.ofInt 18 d.lastI).toNat).set (DEM_LAST_Q.VALUE n k) (BitVec.ofInt 18 d.lastQ).toNat
  .next ((s.setPair (R.DEM_LAST_END_LO n k) d.lastEnd).answer (s.rd (R.DEM_LAST_DEC n k)))

end Sys2Proof.Machine
end

