-- ==== Sys2Proof/Machine/Kernel.lean ====
section
/-! DEFINITION. Kernel engines: jobs and answers (R194 to R199), memories and host access (R202 to R204), addressing (R205 to
R207), the instruction set (R208 to R217), interrupts (R218 to R220) and stopping (R222). An instruction command names the
engine; what runs is the instruction at the engine's PC. -/

namespace Sys2Proof.Machine

/-! ## Answers (R196 to R198) -/

/-- Engine states of KRN_STAT.STATE. -/
def krn.stopped : Nat := 0
def krn.run : Nat := 1
def krn.waiti : Nat := 2
def krn.handler : Nat := 3

/-- The job queue and FIFO in KRN_Q_STAT, and V in KRN_STAT. -/
def State.showKern (s : State) (n : Nat) : State :=
  let e := s.kern n
  ((s.set (KRN_Q_STAT.JOBS n) e.queue.length).set (KRN_Q_STAT.PPS n) e.fifo.length).setBit (KRN_STAT.V n) e.full.v

/-- The entry tick of a job's decision: END + 14 + LAT, where values of LAT below 3 act as 3. -/
def State.kernEntry (s : State) (n : Nat) (e : Tick) : Tick := e + BitVec.ofNat 48 (14 + Nat.max 3 (s.get (KRN_CFG.LAT n)))

/-- A kernel decision on its way to the entry stage; its window's result carries the state and status with it. -/
def State.kernDecide (s : State) (j : Job) (state : BitVec 2) (valid leak byDec : Bool) : State :=
  let status := (j.res.status &&& 0x7F) ||| (if leak then 0x80 else 0)
  let d : Decision := { dev := 0, remote := false, src := BitVec.ofNat 8 j.res.src, state := state, valid := valid, kern := true,
                        status := status, endTick := j.res.endTick, byDec := byDec }
  { s with
    decMade := s.decMade ++ [(d, j.entry)],
    winResults := s.winResults.map (fun r => if r.src = j.res.src ∧ r.endTick = j.res.endTick then
      { r with status := status, state := state } else r) }

/-- The device answers a job with STATE 0, VALID 0, LEAK 0, and counts and reports it (R198): while RUN is 0 only the first job
after the stop is reported. -/
def State.kernAnswer (s : State) (n : Nat) (j : Job) : State :=
  let e := s.kern n
  let stopped := !s.bit (KRN_CTRL.RUN n)
  let s := (s.kernDecide j 0 false false false).bump (KRN_NODEC_CNT.COUNT n)
  let s := s.when (!(stopped && e.told)) (·.raise Src.KRN_NODEC (slot n ++ slot (j.res.src % 16) ++ slotTick j.res.endTick))
  s.when stopped (·.modKern n (fun e => { e with told := true }))

/-- The engine stops (R222): RUN is 0, the cause and PC are kept, and the current and every queued job are answered. -/
def State.kernStop (s : State) (n cause : Nat) : State :=
  let e := s.kern n
  let jobs := (e.job.toList ++ e.queue).filter (fun j => !j.answered)
  let s := ((s.setBit (KRN_CTRL.RUN n) false).set (KRN_STAT.STATE n) krn.stopped).set (KRN_STAT.CAUSE n) cause
  let s := s.set (KRN_STAT.PC n) e.lastPc.toNat
  let s := s.setKern n { e with
    job := none, queue := [], handler := 0, leaving := false, waiting := false, slots := 0, dest := none, told := false }
  (s.each jobs (fun s j => s.kernAnswer n j)).showKern n

/-- A stopping fault: payload the input and the PC (R222). -/
def State.kernFault (s : State) (n src cause : Nat) (pc : BitVec 12) : State :=
  ((s.raise src (slot n ++ slot pc.toNat)).modKern n (fun e => { e with lastPc := pc })).kernStop n cause

/-- Block reset of an engine (R390): stop, then every engine register and both stacks reset. -/
def State.kernReset (s : State) (n : Nat) : State :=
  let s := s.kernStop n 0
  let s := { s with regs := s.regs.filter (fun p => !(decide (R.KRN_CTRL n ≤ p.1) && decide (p.1 < R.KRN_CTRL n + 0x1000))) }
  s.setKern n .init

/-! ## Jobs and partial points (R194, R195) -/

/-- KRN_JOB_HANDOVER: the oldest closed SEL = 1 window whose END + 14 has come, once its partial points have entered, becomes a
job: queued, or answered by the device when RUN is 0 or the queue is full. -/
def execKrnJobHandover (n : Fin 16) (s : State) : Host.Outcome State Fault Refusal :=
  let ready (r : WinRes) : Bool := r.src / 16 == n.val && Tick.le (r.endTick + 14) s.tick &&
    !(s.partials.any (fun p => p.1 == n.val && p.2.1 == r.src % 16 && Tick.le p.2.2.1 r.endTick))
  match takeFirst ready s.jobsDue with
  | none => .next s
  | some (r, rest) =>
    let k := r.src % 16
    let e := s.kern n
    let lost := Store.read (fun _ => false) e.ppLost k
    let j : Job := { res := r, entry := s.kernEntry n r.endTick, lostPp := lost, answered := false }
    let s := { s with jobsDue := rest }.modKern n (fun e => { e with
      ppLost := Store.write (fun _ => false) e.ppLost k false,
      lastEntry := Store.write (fun _ => none) e.lastEntry k (some j.entry) })
    let drop (s : State) : State :=
      (s.raise Src.KRN_DROP (slot n ++ slot k ++ slotTick r.endTick)).bump (KRN_DROP_CNT.COUNT n)
    let s := s.when lost drop
    if !s.bit (KRN_CTRL.RUN n) then .next (s.kernAnswer n j)
    else if 32 ≤ e.queue.length then .next ((s.when (!lost) drop).kernDecide j 0 false false false)
    else .next ((s.modKern n (fun e => { e with queue := e.queue ++ [j] })).showKern n)

/-- PARTIAL_POINT_ENTRY: the next partial point enters the FIFO of 512 at the last pin tick of its span + 14, or is dropped. -/
def execPartialPointEntry (n : Fin 16) (s : State) : Host.Outcome State Fault Refusal :=
  match takeFirst (fun (p : Nat × Nat × Tick × Nat × Int × Int) => p.1 == n.val && Tick.le (p.2.2.1 + 14) s.tick) s.partials with
  | none => .next s
  | some ((_, k, _, last, i, q), rest) =>
    let s := { s with partials := rest }
    let e := s.kern n
    if 512 ≤ e.fifo.length then
      .next (s.setKern n { e with ppLost := Store.write (fun _ => false) e.ppLost k true })
    else
      .next ((s.setKern n { e with fifo := e.fifo ++ [(BitVec.ofInt 18 i, BitVec.ofInt 18 q, k, last != 0)] }).showKern n)

/-- KRN_ANSWER_TIMEOUT: the first job with no DEC by the end of tick entry + TMO (0 acts as 1) is answered (R198). -/
def execKrnAnswerTimeout (n : Fin 16) (s : State) : Host.Outcome State Fault Refusal :=
  let e := s.kern n
  let tmo := BitVec.ofNat 48 (Nat.max 1 (s.get (KRN_CFG.TMO n)))
  let due (j : Job) : Bool := !j.answered && Tick.le (j.entry + tmo) s.tick
  match e.job with
  | some j =>
    if due j then .next ((s.setKern n { e with job := some { j with answered := true } }).kernAnswer n j)
    else match e.queue.find? due with
      | some q => .next ((s.setKern n { e with queue := e.queue.map (fun j => if j = q then { j with answered := true } else j) }).kernAnswer n q)
      | none => .next s
  | none => match e.queue.find? due with
    | some q => .next ((s.setKern n { e with queue := e.queue.map (fun j => if j = q then { j with answered := true } else j) }).kernAnswer n q)
    | none => .next s

/-! ## Control and host access (R201 to R204, R218) -/

/-- KRN_RUN_START: every item of R201 is zero, the stacks are empty, and execution starts at 0x000. -/
def execKrnRunStart (n : Fin 16) (s : State) : Host.Outcome State Fault Refusal :=
  if s.bit (KRN_CTRL.RUN n) then .next s
  else
    let e := s.kern n
    let s := s.setKern n { Kern.init with fifo := e.fifo, ppLost := e.ppLost, lastEntry := e.lastEntry }
    .next (((s.setBit (KRN_CTRL.RUN n) true).set (KRN_STAT.STATE n) krn.run).showKern n)

/-- KRN_RUN_STOP: clearing RUN stops the engine, with cause 0. -/
def execKrnRunStop (n : Fin 16) (s : State) : Host.Outcome State Fault Refusal :=
  .next (if s.bit (KRN_CTRL.RUN n) then s.kernStop n 0 else s)

/-- The banks flip and SWAP clears (R204). -/
def State.kernSwap (s : State) (n : Nat) : State :=
  (s.setBit (KRN_STAT.BANK n) (!s.bit (KRN_STAT.BANK n))).setBit (KRN_CTRL.SWAP n) false

/-- A parameter swap request: at once while RUN is 0, else at the next acceptance point. -/
def State.kernSwapRequest (s : State) (n : Nat) : State :=
  if s.bit (KRN_CTRL.RUN n) then s.setBit (KRN_CTRL.SWAP n) true else s.kernSwap n

def execKrnSwapRequest (n : Fin 16) (s : State) : Host.Outcome State Fault Refusal := .next (s.kernSwapRequest n)

/-- KRN_HREQ: ignored with HREJ when HREQ_EN or RUN is 0. -/
def execKrnHreq (n : Fin 16) (s : State) : Host.Outcome State Fault Refusal :=
  .next (if s.bit (KRN_CFG.HREQ_EN n) && s.bit (KRN_CTRL.RUN n) then s.setBit (KRN_CTRL.HREQ n) true
    else s.setBit (KRN_STAT.HREJ n) true)

/-- The host may use data word `p` or, with `prog`, program word `p` (R203). -/
def State.kernHostOk (s : State) (n : Nat) (prog : Bool) (p : Nat) : Bool :=
  !s.bit (KRN_CTRL.RUN n) ||
  (!prog && (if s.bit (KRN_STAT.BANK n) then decide (0x6000 ≤ p) && decide (p < 0x7000) else decide (0x7000 ≤ p)))

/-- A host access to engine memory: `write` holds a word written. -/
def State.kernHost (s : State) (n : Nat) (prog : Bool) (p : Nat) (write : Option Word) : State :=
  let a := if prog then R.KRN_PMEM n p else R.KRN_DMEM n p
  if !s.kernHostOk n prog p then
    let s := s.setBit (KRN_STAT.HREJ n) true
    match write with | none => s.answer 0 | some _ => s
  else match write with
    | none => s.answer (if prog then s.rd a else ((s.rd a).setWidth 18).signExtend 32)
    | some w => s.wr a (if prog then w else (w.setWidth 18).setWidth 32)

/-- KRN_HOST_ACCESS: program memory words lie after the 32,768 data words. -/
def execKrnHostAccess (n : Fin 16) (word : Fin 36864) (write : Option Word) (s : State) : Host.Outcome State Fault Refusal :=
  .next (if word.val < 32768 then s.kernHost n false word write else s.kernHost n true (word - 32768) write)

/-! ## Registers and memory of the engine -/

def KRegs.xr (r : KRegs) (i : BitVec 2) : BitVec 18 := Store.read (fun _ => 0) r.x i.toNat
def KRegs.ar (r : KRegs) (i : BitVec 2) : BitVec 48 := Store.read (fun _ => 0) r.acc i.toNat
def KRegs.setX (r : KRegs) (i : BitVec 2) (v : BitVec 18) : KRegs := { r with x := Store.write (fun _ => 0) r.x i.toNat v }
def KRegs.setA (r : KRegs) (i : BitVec 2) (v : BitVec 48) : KRegs := { r with acc := Store.write (fun _ => 0) r.acc i.toNat v }

def Kern.axr (e : Kern) (i : BitVec 3) : BitVec 15 := Store.read (fun _ => 0) e.ax i.toNat
def Kern.setAx (e : Kern) (i : BitVec 3) (v : BitVec 15) : Kern := { e with ax := Store.write (fun _ => 0) e.ax i.toNat v }
def Kern.amr (e : Kern) (i : BitVec 3) : BitVec 32 := Store.read (fun _ => 0) e.am i.toNat
def Kern.setAm (e : Kern) (i : BitVec 3) (v : BitVec 32) : Kern := { e with am := Store.write (fun _ => 0) e.am i.toNat v }

/-- The writes of stage A. -/
def Kern.put (e : Kern) (f : KRegs → KRegs) : Kern := { e with full := f e.full }

/-- The physical word of an engine address, if it has one (R202). -/
def State.kernPhys (s : State) (n : Nat) (a : BitVec 15) : Option Nat :=
  if a.toNat < 0x6000 then some a.toNat
  else if a.toNat < 0x7000 then some (a.toNat + (if s.bit (KRN_STAT.BANK n) then 0x1000 else 0))
  else none

def State.kernRead (s : State) (n : Nat) (a : BitVec 15) : BitVec 18 :=
  match s.kernPhys n a with | some p => (s.rd (R.KRN_DMEM n p)).setWidth 18 | none => 0

def State.kernWrite (s : State) (n : Nat) (a : BitVec 15) (v : BitVec 18) : State :=
  match s.kernPhys n a with | some p => s.wr (R.KRN_DMEM n p) (v.setWidth 32) | none => s

/-! ## Addressing (R205 to R207) -/

/-- The smallest q with 2^q at least `l`. -/
def log2Up (l : Nat) : Nat := (List.range 16).foldl (fun q i => if 2 ^ i < l then i + 1 else q) 0

/-- The low `q` bits of `v` in reversed order. -/
def revBits (q v : Nat) : Nat := (List.range q).foldl (fun acc i => if v.testBit i then acc + 2 ^ (q - 1 - i) else acc) 0

/-- The new value of an address register under a post-modifier (R205 to R207). -/
def postModify (a : BitVec 15) (am : BitVec 32) (m : BitVec 2) : BitVec 15 :=
  let l := (am.setWidth 15).toNat
  let q := log2Up l
  let br := am.getLsbD 15 && decide (l = 2 ^ q) && decide (1 ≤ q) && decide (q ≤ 14)
  let step : Int := match m.toNat with
    | 0 => 0 | 1 => 1 | 2 => -1 | _ => (am.extractLsb' 16 16).toInt
  if m = 0 then a
  else if br then
    let low := a.toNat % 2 ^ q
    -- the step is added with the carry running from bit q-1 towards bit 0
    let v := ((revBits q low : Int) + (if m = 3 then (revBits q (step % 2 ^ q).toNat : Int) else
      (if m = 1 then (revBits q 1 : Int) else -(revBits q 1 : Int)))) % 2 ^ q
    BitVec.ofNat 15 (a.toNat - low + revBits q v.toNat)
  else if l = 0 then BitVec.ofInt 15 (a.toNat + step)
  else
    let base := a.toNat - a.toNat % 2 ^ q
    BitVec.ofNat 15 (base + (((a.toNat : Int) - base + step) % l).toNat)

/-- Applies the post-modifier of address register `i`. -/
def Kern.bumpAx (e : Kern) (i : BitVec 3) (m : BitVec 2) : Kern := e.setAx i (postModify (e.axr i) (e.amr i) m)

/-! ## Arithmetic (R208 to R210) -/

/-- A 48-bit result that wraps, and whether it overflowed. -/
def acc48 (v : Int) : BitVec 48 × Bool := (BitVec.ofInt 48 v, satFlag 48 v)

/-- Narrows to 18 bits (R209): round, shift, then saturate with V, or keep the low bits. -/
def narrow18 (a : BitVec 48) (sh : Nat) (sat : Bool) : BitVec 18 × Bool :=
  let r := roundShift a.toInt sh
  if sat then (BitVec.ofInt 18 (satInt 18 r), satFlag 18 r) else (BitVec.ofInt 18 r, false)

/-- Writes an accumulator with sticky V. -/
def KRegs.accum (r : KRegs) (d : BitVec 2) (v : Int) : KRegs := let (w, o) := acc48 v; { r.setA d w with v := r.v || o }

/-- Z and N from a 48-bit result, with sticky V. -/
def KRegs.flags (r : KRegs) (v : Int) : KRegs :=
  let (w, o) := acc48 v
  { r with z := w == 0, n := w.msb, v := r.v || o }

/-! ## Running one instruction -/

/-- Opcodes of R211, and those that branch. -/
def kernOps : List Nat :=
  [0x00, 0x01, 0x02, 0x03, 0x04, 0x05, 0x06, 0x07, 0x08, 0x09, 0x0A, 0x0B, 0x0C, 0x0D, 0x0E, 0x10, 0x11, 0x12, 0x14, 0x15, 0x16,
    0x17, 0x18, 0x19, 0x1A, 0x1B, 0x1C, 0x20, 0x21, 0x22, 0x23, 0x24, 0x25, 0x26]
def kernBranch (op : Nat) : Bool := op == 0x20 || op == 0x21 || op == 0x22 || op == 0x23

/-- What an instruction comes to: an illegal encoding or construct, a stack fault, or the engine and state after it; a branch
gives its target, a skip the address that follows. -/
inductive KRes where
  | illegal
  | stack
  | ok (e : Kern) (s : State)
  | branch (e : Kern) (s : State) (dest : Option (BitVec 12))
  | goto (e : Kern) (s : State) (pc : BitVec 12)

/-- Reaching the end of the instruction at `a` in repeat blocks (R216): the innermost block loops or ends. -/
def kernRepEnd : List (BitVec 12 × BitVec 12 × Nat) → BitVec 12 →
    List (BitVec 12 × BitVec 12 × Nat) × Option (BitVec 12)
  | [], _ => ([], none)
  | (f, l, c) :: t, a =>
    if l = a then (if 1 < c then ((f, l, c - 1) :: t, some f) else kernRepEnd t a) else ((f, l, c) :: t, none)

/-- The engine moves on: out of the last delay slot to the branch target, popping the blocks that do not hold it; else as `seq`
says. -/
def Kern.leaveSlot (e seq : Kern) : Kern :=
  match e.slots, e.dest with
  | 1, some t => { e with slots := 0, dest := none, pc := t, reps := e.reps.dropWhile (fun l => !(l.1.ule t && t.ule l.2.1)) }
  | _, _ => { seq with slots := e.slots - 1 }

/-- Past the instruction at `a`: round a repeat block, or to the next word, unless a branch is taken. -/
def Kern.advance (e : Kern) (a : BitVec 12) : Kern :=
  match kernRepEnd e.reps a with
  | (r, some f) => e.leaveSlot { e with reps := r, pc := f }
  | (r, none) => e.leaveSlot { e with reps := r, pc := a + 1 }

/-- The handler in progress has ended with its delay slots (R198, R218): a job without DEC is answered, HREQ clears. -/
def State.kernLeave (s : State) (n : Nat) : State :=
  let e := s.kern n
  if !(e.leaving && e.slots == 0) then s
  else
    let s := s.setKern n { e with handler := 0, leaving := false, job := none }
    let s := s.set (KRN_STAT.STATE n) krn.run
    let s := s.when (e.handler == 3) (·.setBit (KRN_CTRL.HREQ n) false)
    match e.job with
    | some j => if j.answered then s else s.kernAnswer n j
    | none => s

/-- One instruction of engine `n` with opcode `op`. `par`: the fetch finds a parity error, which stops the engine (R212). An
engine that is stopped or waits, or stands at another instruction, does nothing; an illegal word stops it. -/
def State.kernDo (s : State) (n : Nat) (par : Bool) (op : Nat) (body : Word → Kern → State → KRes) : State :=
  let e := s.kern n
  if !s.bit (KRN_CTRL.RUN n) || e.waiting then s
  else if par then s.kernFault n Src.KRN_PM_PAR 3 e.pc
  else
    let w := s.rd (R.KRN_PMEM n e.pc.toNat)
    let o := w.toNat / 2 ^ 26
    if !kernOps.contains o || (kernBranch o && e.slots != 0) then s.kernFault n Src.KRN_ILLEGAL 1 e.pc
    else if o ≠ op then s
    else
      let close (s : State) (k : Kern) : State :=
        ((s.setKern n { k with vis := e.full, lastPc := e.pc }).kernLeave n).showKern n
      match body w e s with
      | .illegal => s.kernFault n Src.KRN_ILLEGAL 1 e.pc
      | .stack => s.kernFault n Src.KRN_STACK 2 e.pc
      | .ok k s => close s (k.advance e.pc)
      | .branch k s dest => close s { k with pc := e.pc + 1, slots := 2, dest := dest }
      | .goto k s pc => (close s (k.leaveSlot { k with pc := pc })).modKern n (fun k => { k with vis := k.full })

/-- Fields of an instruction word (R211). -/
def kf.d (w : Word) : BitVec 2 := w.extractLsb' 24 2
def kf.axa (w : Word) : BitVec 3 := w.extractLsb' 21 3
def kf.ma (w : Word) : BitVec 2 := w.extractLsb' 19 2
def kf.axb (w : Word) : BitVec 3 := w.extractLsb' 16 3
def kf.mb (w : Word) : BitVec 2 := w.extractLsb' 14 2
def kf.x2 (w : Word) : BitVec 2 := w.extractLsb' 12 2
def kf.a (w : Word) : BitVec 2 := w.extractLsb' 22 2
def kf.b (w : Word) : BitVec 2 := w.extractLsb' 20 2
def kf.sh (w : Word) : Nat := (w.extractLsb' 6 6).toNat
def kf.sat (w : Word) : Bool := w.getLsbD 5
def kf.axd (w : Word) : BitVec 3 := w.extractLsb' 23 3

def execKrnNop (n : Fin 16) (par : Bool) (s : State) : Host.Outcome State Fault Refusal :=
  .next (s.kernDo n par 0x00 (fun _ e s => .ok e s))

def execKrnLd (n : Fin 16) (par : Bool) (s : State) : Host.Outcome State Fault Refusal :=
  .next (s.kernDo n par 0x01 (fun w e s =>
    let v := s.kernRead n (e.axr (kf.axa w))
    .ok ((e.bumpAx (kf.axa w) (kf.ma w)).put (·.setX (kf.d w) v)) s))

/-- The address registers after an instruction with two memory operands, in field order (R205): both accesses have used the
unmodified values. -/
def Kern.bumpTwo (e : Kern) (w : Word) : Kern := (e.bumpAx (kf.axa w) (kf.ma w)).bumpAx (kf.axb w) (kf.mb w)

def execKrnLdd (n : Fin 16) (par : Bool) (s : State) : Host.Outcome State Fault Refusal :=
  .next (s.kernDo n par 0x02 (fun w e s =>
    let va := s.kernRead n (e.axr (kf.axa w))
    let vb := s.kernRead n (e.axr (kf.axb w))
    .ok ((e.bumpTwo w).put (fun r => (r.setX (kf.d w) va).setX (kf.x2 w) vb)) s))

/-- A narrowed accumulator, or `none` for a shift above 47. -/
def kernNarrow (e : Kern) (a : BitVec 2) (w : Word) : Option (BitVec 18 × Bool) :=
  if 47 < kf.sh w then none else some (narrow18 (e.vis.ar a) (kf.sh w) (kf.sat w))

def execKrnSt (n : Fin 16) (par : Bool) (s : State) : Host.Outcome State Fault Refusal :=
  .next (s.kernDo n par 0x03 (fun w e s =>
    match kernNarrow e (kf.d w) w with
    | none => .illegal
    | some (v, o) => .ok ((e.bumpAx (kf.axa w) (kf.ma w)).put (fun r => { r with v := r.v || o }))
        (s.kernWrite n (e.axr (kf.axa w)) v)))

/-- STL: the read returns the value before the write (R215). -/
def execKrnStl (n : Fin 16) (par : Bool) (s : State) : Host.Outcome State Fault Refusal :=
  .next (s.kernDo n par 0x04 (fun w e s =>
    match kernNarrow e (kf.d w) w with
    | none => .illegal
    | some (v, o) =>
      let x := s.kernRead n (e.axr (kf.axa w))
      .ok ((e.bumpTwo w).put (fun r => { r.setX (kf.x2 w) x with v := r.v || o })) (s.kernWrite n (e.axr (kf.axb w)) v)))

def execKrnStx (n : Fin 16) (par : Bool) (s : State) : Host.Outcome State Fault Refusal :=
  .next (s.kernDo n par 0x05 (fun w e s =>
    .ok (e.bumpAx (kf.axa w) (kf.ma w)) (s.kernWrite n (e.axr (kf.axa w)) (e.vis.xr (kf.d w)))))

def execKrnLdi (n : Fin 16) (par : Bool) (s : State) : Host.Outcome State Fault Refusal :=
  .next (s.kernDo n par 0x06 (fun w e s => .ok (e.put (·.setX (kf.d w) (w.setWidth 18))) s))

/-- GETJ: values 0 to 3 read 0 outside a window-ready handler; 9 to 15 are reserved. -/
def execKrnGetj (n : Fin 16) (par : Bool) (s : State) : Host.Outcome State Fault Refusal :=
  .next (s.kernDo n par 0x07 (fun w e s =>
    let sel := w.toNat % 16
    let job (f : Job → BitVec 18) : BitVec 18 := match e.job with | some j => f j | none => 0
    let v : BitVec 18 :=
      if sel = 0 then job (fun j => BitVec.ofInt 18 j.res.i)
      else if sel = 1 then job (fun j => BitVec.ofInt 18 j.res.q)
      else if sel = 2 then job (fun j => BitVec.ofNat 18 (j.res.status.toNat + j.res.src % 16 * 2 ^ 8 + flagNat j.lostPp * 2 ^ 12))
      else if sel = 3 then job (fun j => BitVec.ofNat 18 j.res.sub)
      else if sel = 4 then e.vis.ppk.setWidth 18
      else BitVec.ofNat 18 (s.get (KRN_HIN.VALUE n (sel - 5)))
    if 8 < sel then .illegal else .ok (e.put (·.setX (kf.d w) v)) s))

def execKrnPuth (n : Fin 16) (par : Bool) (s : State) : Host.Outcome State Fault Refusal :=
  .next (s.kernDo n par 0x08 (fun w e s => .ok e (s.set (KRN_HOUT.VALUE n (w.toNat % 4)) (e.vis.xr (kf.d w)).toNat)))

def execKrnMvxa (n : Fin 16) (par : Bool) (s : State) : Host.Outcome State Fault Refusal :=
  .next (s.kernDo n par 0x09 (fun w e s => .ok (e.setAx (kf.axd w) ((e.vis.xr (w.extractLsb' 21 2)).setWidth 15)) s))

def execKrnMvax (n : Fin 16) (par : Bool) (s : State) : Host.Outcome State Fault Refusal :=
  .next (s.kernDo n par 0x0A (fun w e s =>
    match kernNarrow e (kf.a w) w with
    | none => .illegal
    | some (v, o) => .ok (e.put (fun r => { r.setX (kf.d w) v with v := r.v || o })) s))

def execKrnLax (n : Fin 16) (par : Bool) (s : State) : Host.Outcome State Fault Refusal :=
  .next (s.kernDo n par 0x0B (fun w e s => .ok (e.setAx (kf.axd w) (w.setWidth 15)) s))

def execKrnLaxk (n : Fin 16) (par : Bool) (s : State) : Host.Outcome State Fault Refusal :=
  .next (s.kernDo n par 0x0C (fun w e s =>
    let k := match e.job with | some j => j.res.src % 16 | none => 0
    .ok (e.setAx (kf.axd w) (BitVec.ofNat 15 (w.toNat % 2 ^ 15 + k * 2 ^ (w.extractLsb' 15 4).toNat))) s))

def execKrnLaml (n : Fin 16) (par : Bool) (s : State) : Host.Outcome State Fault Refusal :=
  .next (s.kernDo n par 0x0D (fun w e s =>
    .ok (e.setAm (kf.axd w) ((e.amr (kf.axd w)).extractLsb' 16 16 ++ w.setWidth 16)) s))

def execKrnLams (n : Fin 16) (par : Bool) (s : State) : Host.Outcome State Fault Refusal :=
  .next (s.kernDo n par 0x0E (fun w e s => .ok (e.setAm (kf.axd w) (w.setWidth 16 ++ (e.amr (kf.axd w)).setWidth 16)) s))

/-- The multiply modes of R208: SET, ADD and SUB; ADD and SUB read their destination in stage A. -/
def kernMul (w : Word) (e : Kern) (s : State) (a b : BitVec 18) : KRes :=
  let p := a.toInt * b.toInt
  let d := kf.d w
  match w.toNat % 4 with
  | 0 => .ok (e.put (·.accum d p)) s
  | 1 => .ok (e.put (fun r => r.accum d ((r.ar d).toInt + p))) s
  | 2 => .ok (e.put (fun r => r.accum d ((r.ar d).toInt - p))) s
  | _ => .illegal

def execKrnMul (n : Fin 16) (par : Bool) (s : State) : Host.Outcome State Fault Refusal :=
  .next (s.kernDo n par 0x10 (fun w e s => kernMul w e s (e.vis.xr (kf.a w)) (e.vis.xr (kf.b w))))

def execKrnMulx (n : Fin 16) (par : Bool) (s : State) : Host.Outcome State Fault Refusal :=
  .next (s.kernDo n par 0x11 (fun w e s =>
    kernMul w (e.bumpAx (kf.axb w) (kf.mb w)) s (e.vis.xr (kf.x2 w)) (s.kernRead n (e.axr (kf.axb w)))))

def execKrnMulm (n : Fin 16) (par : Bool) (s : State) : Host.Outcome State Fault Refusal :=
  .next (s.kernDo n par 0x12 (fun w e s =>
    kernMul w (e.bumpTwo w) s (s.kernRead n (e.axr (kf.axa w))) (s.kernRead n (e.axr (kf.axb w)))))

/-- ADDA and SUBA: ACCd ← ACCa ± ACCb × 2^SH, with Z and N of the result. -/
def kernAddSub (w : Word) (e : Kern) (s : State) (neg : Bool) : KRes :=
  let b := (e.vis.ar (kf.b w)).toInt * 2 ^ (w.toNat % 4)
  let v := (e.vis.ar (kf.a w)).toInt + (if neg then -b else b)
  .ok (e.put (fun r => (r.accum (kf.d w) v).flags v)) s

def execKrnAdda (n : Fin 16) (par : Bool) (s : State) : Host.Outcome State Fault Refusal :=
  .next (s.kernDo n par 0x14 (fun w e s => kernAddSub w e s false))

def execKrnSuba (n : Fin 16) (par : Bool) (s : State) : Host.Outcome State Fault Refusal :=
  .next (s.kernDo n par 0x15 (fun w e s => kernAddSub w e s true))

/-- ADDI: reads its destination in stage A; P = 31 is illegal. -/
def execKrnAddi (n : Fin 16) (par : Bool) (s : State) : Host.Outcome State Fault Refusal :=
  .next (s.kernDo n par 0x16 (fun w e s =>
    let p := (w.extractLsb' 18 5).toNat
    if p = 31 then .illegal
    else .ok (e.put (fun r => r.accum (kf.d w) ((r.ar (kf.d w)).toInt + (w.setWidth 18).toInt * 2 ^ p))) s))

def execKrnSha (n : Fin 16) (par : Bool) (s : State) : Host.Outcome State Fault Refusal :=
  .next (s.kernDo n par 0x17 (fun w e s =>
    let sh := (w.setWidth 7).toInt
    let a := (e.vis.ar (kf.a w)).toInt
    let v := if 0 ≤ sh then a * 2 ^ sh.toNat else roundShift a (-sh).toNat
    if 47 < sh.natAbs then .illegal else .ok (e.put (fun r => (r.accum (kf.d w) v).flags v)) s))

def execKrnCmpa (n : Fin 16) (par : Bool) (s : State) : Host.Outcome State Fault Refusal :=
  .next (s.kernDo n par 0x18 (fun w e s =>
    .ok (e.put (·.flags ((e.vis.ar (kf.a w)).toInt - (e.vis.ar (kf.b w)).toInt))) s))

def execKrnTmin (n : Fin 16) (par : Bool) (s : State) : Host.Outcome State Fault Refusal :=
  .next (s.kernDo n par 0x19 (fun w e s =>
    let a := e.vis.ar (kf.a w)
    let less := a.slt (e.vis.ar (kf.d w))
    .ok (e.put (fun r => if less then { r.setA (kf.d w) a with st := w.setWidth 2 }
      else if w.getLsbD 2 then { r with st := 0 } else r)) s))

def execKrnPopp (n : Fin 16) (par : Bool) (s : State) : Host.Outcome State Fault Refusal :=
  .next (s.kernDo n par 0x1A (fun _ e s =>
    match e.fifo with
    | [] => .ok (e.put (fun r => { r with z := true, n := false })) s
    | (i, q, k, last) :: t =>
      .ok ({ e with fifo := t }.put (fun r => { (r.setX 2 i).setX 3 q with
        z := false, n := last, ppk := BitVec.ofNat 5 (k + flagNat last * 16) })) s))

/-- DEC: issues the decision of the job being handled (R197); a second one, or one for a job answered by the device, sets
DEC_DUP; outside a window-ready handler it sets DEC_NOJOB. -/
def execKrnDec (n : Fin 16) (par : Bool) (s : State) : Host.Outcome State Fault Refusal :=
  .next (s.kernDo n par 0x1B (fun w e s =>
    match e.job with
    | none => .ok e (s.setBit (KRN_STAT.DEC_NOJOB n) true)
    | some j =>
      if j.answered then .ok e (s.setBit (KRN_STAT.DEC_DUP n) true)
      else
        let leak := match (w.toNat / 8) % 4 with
          | 0 => false | 1 => true | 2 => !e.vis.n && !e.vis.z | _ => e.vis.n
        let st := if leak && w.getLsbD 5 then 3 else if w.getLsbD 2 then e.vis.st else w.setWidth 2
        let valid := statusValid j.res.status (s.bit (RDI_CFG.OVR_INV n)) && !w.getLsbD 6 && !j.lostPp
        let s := (s.kernDecide j st valid leak true).bump (KRN_DEC_CNT.COUNT n)
        .ok { e with job := some { j with answered := true } } s))

def execKrnClrv (n : Fin 16) (par : Bool) (s : State) : Host.Outcome State Fault Refusal :=
  .next (s.kernDo n par 0x1C (fun _ e s => .ok (e.put (fun r => { r with v := false })) s))

/-! ## Branches and repeats (R214, R216, R217) -/

/-- The conditions of BR. -/
def kernCond (r : KRegs) (c : Nat) : Bool :=
  match c with
  | 0 => true | 1 => r.z | 2 => !r.z | 3 => r.n | 4 => !r.n | 5 => !r.n && !r.z | 6 => r.n || r.z | _ => r.v

/-- BR: illegal when its delay slots would run past the end of a block. -/
def execKrnBr (n : Fin 16) (par : Bool) (s : State) : Host.Outcome State Fault Refusal :=
  .next (s.kernDo n par 0x20 (fun w e s =>
    if e.reps.any (fun l => decide (l.2.1.toNat < e.pc.toNat + 2)) then .illegal
    else .branch e s (if kernCond e.vis (w.extractLsb' 23 3).toNat then some (w.setWidth 12) else none)))

/-- CALL: pushes the address after the second delay slot; four levels. -/
def execKrnCall (n : Fin 16) (par : Bool) (s : State) : Host.Outcome State Fault Refusal :=
  .next (s.kernDo n par 0x21 (fun w e s =>
    if e.reps ≠ [] then .illegal
    else if 4 ≤ e.calls.length then .stack
    else .branch { e with calls := (e.pc + 3) :: e.calls } s (some (w.setWidth 12))))

def execKrnRet (n : Fin 16) (par : Bool) (s : State) : Host.Outcome State Fault Refusal :=
  .next (s.kernDo n par 0x22 (fun _ e s =>
    if e.reps ≠ [] then .illegal
    else match e.calls with
      | [] => .stack
      | a :: t => .branch { e with calls := t } s (some a)))

/-- RETI: restores Z, N, ST and, after its delay slots, PC; the handler then ends. Outside a handler it is illegal. -/
def execKrnReti (n : Fin 16) (par : Bool) (s : State) : Host.Outcome State Fault Refusal :=
  .next (s.kernDo n par 0x23 (fun _ e s =>
    if e.reps ≠ [] ∨ e.handler = 0 then .illegal
    else
      let (pc, z, n', st) := e.save
      .branch ({ e with leaving := true }.put (fun r => { r with z := z, n := n', st := st })) s (some pc)))

/-- A repeat of `count` passes up to `last` (R216). -/
def kernRepeat (e : Kern) (s : State) (count : Nat) (last : BitVec 12) : KRes :=
  if !e.pc.ult last then .illegal
  else if count = 0 then
    -- the skip counts as reaching END for the enclosing blocks
    match kernRepEnd e.reps last with
    | (r, some f) => .goto { e with reps := r } s f
    | (r, none) => .goto { e with reps := r } s (last + 1)
  else if 3 ≤ e.reps.length then .stack
  else .ok { e with reps := (e.pc + 1, last, count) :: e.reps } s

def execKrnRep (n : Fin 16) (par : Bool) (s : State) : Host.Outcome State Fault Refusal :=
  .next (s.kernDo n par 0x24 (fun w e s => kernRepeat e s ((w.extractLsb' 12 12).toNat + 1) (w.setWidth 12)))

def execKrnRepa (n : Fin 16) (par : Bool) (s : State) : Host.Outcome State Fault Refusal :=
  .next (s.kernDo n par 0x25 (fun w e s => kernRepeat e s (e.axr (kf.axd w)).toNat (w.setWidth 12)))

/-- WAITI: the engine waits at this address; illegal inside a block. -/
def execKrnWaiti (n : Fin 16) (par : Bool) (s : State) : Host.Outcome State Fault Refusal :=
  .next (s.kernDo n par 0x26 (fun _ e s =>
    if e.reps ≠ [] then .illegal
    else .goto { e with waiting := true } (s.set (KRN_STAT.STATE n) krn.waiti) e.pc))

/-! ## Interrupts (R218 to R220) -/

/-- The engine vectors to a handler: PC, Z, N and ST are saved. -/
def State.kernVector (s : State) (n : Nat) (kind : Nat) (pc : BitVec 12) (job : Option Job) : State :=
  let s := s.modKern n (fun e => { e with
    save := (e.pc, e.full.z, e.full.n, e.full.st), pc := pc, vis := e.full, waiting := false, handler := kind, job := job })
  (s.set (KRN_STAT.STATE n) krn.handler).showKern n

/-- KRN_INTERRUPT_ACCEPT: at an acceptance point (no handler, no repeat, no delay slot) a swap first flips the banks and vectors
only with SWAP_VEC; then the head job, then a host request. -/
def execKrnInterruptAccept (n : Fin 16) (s : State) : Host.Outcome State Fault Refusal :=
  let e := s.kern n
  if !s.bit (KRN_CTRL.RUN n) || e.handler != 0 || !e.reps.isEmpty || e.slots != 0 then .next s
  else
    let swap := s.bit (KRN_CTRL.SWAP n)
    let s := s.when swap (·.kernSwap n)
    if swap && s.bit (KRN_CFG.SWAP_VEC n) then .next (s.kernVector n 1 0x004 none)
    else match e.queue with
      | j :: t =>
        let held := (Tick.diff (j.res.endTick + 14) s.tick).toNat
        let s := s.set (KRN_HOLD_MAX.TICKS n) (Nat.max (s.get (KRN_HOLD_MAX.TICKS n)) (Nat.min 65535 held))
        .next ((s.modKern n (fun e => { e with queue := t })).kernVector n 2 0x008 (some j))
      | [] => .next (if s.bit (KRN_CTRL.HREQ n) then s.kernVector n 3 0x00C none else s)

end Sys2Proof.Machine
end

