-- ==== Sys2Proof/Machine/Flux.lean ====
section
/-! DEFINITION. Flux lines: the bias path and its strobes, the clamp, range changes, short circuits and emergency park (R156 to
R171). -/

namespace Sys2Proof.Machine

/-! ## Codes -/

/-- The current bias code and the target. -/
def State.biasCur (s : State) (b : Nat) : Int := s.getInt (FLX_BIAS_CUR.CODE b)
def State.biasTgt (s : State) (b : Nat) : Int := s.getInt (FLX_BIAS_TGT.CODE b)

/-- MOVING follows the current code and the target. -/
def State.showMoving (s : State) (b : Nat) : State := s.setBit (FLX_BIAS_CUR.MOVING b) (s.biasCur b != s.biasTgt b)

def State.setBiasCur (s : State) (b : Nat) (c : Int) : State :=
  (s.set (FLX_BIAS_CUR.CODE b) (BitVec.ofInt 18 c).toNat).showMoving b
def State.setBiasTgt (s : State) (b : Nat) (c : Int) : State :=
  (s.set (FLX_BIAS_TGT.CODE b) (BitVec.ofInt 18 c).toNat).showMoving b

/-- The bias code at the output stage in tick `t`: a code reaches it 6 ticks after its strobe, or at the end of the deglitch
hold (R157, R160). -/
def FluxLine.stageAt (f : FluxLine) (t : Tick) : BitVec 18 :=
  match f.hold with
  | some (u, c) => if Tick.le u t then c else f.stage
  | none => f.stage

/-- Takes over what the stage holds in tick `t`. -/
def FluxLine.settle (f : FluxLine) (t : Tick) : FluxLine :=
  match f.hold with
  | some (u, c) => if Tick.le u t then { f with stage := c, hold := none } else f
  | none => f

/-- The ticks between strobes: values below 1,500 act as 1,500. -/
def State.biasInterval (s : State) (b : Nat) : Nat := Nat.max 1500 (s.get (FLX_BIAS_CFG.INTERVAL b))

/-- Moves the current code towards `goal` at a strobe: one slew step (R159), or a jump, deglitched where it changes any of the
code bits 17 to 12 (R160). -/
def State.biasMove (s : State) (b : Nat) (goal : Int) : State :=
  let c := s.biasCur b
  if c = goal then s
  else
    let slew := s.bit (FLX_SLEW.EN b)
    let step : Int := (Nat.max 1 (s.get (FLX_SLEW.STEP b)) : Nat)
    let c' := if slew then (if c < goal then min goal (c + step) else max goal (c - step)) else goal
    let big := !slew && ((BitVec.ofInt 18 c).extractLsb' 12 6 != (BitVec.ofInt 18 c').extractLsb' 12 6)
    let at_ := s.tick + 6 + (if big then BitVec.ofNat 48 (Nat.max 1 (s.get (FLX_DGL.HOLD b))) else 0)
    let s := s.modFluxLine b (fun f => { f.settle s.tick with hold := some (at_, BitVec.ofInt 18 c') })
    s.setBiasCur b c'

/-- Every flux line is clamped. -/
def State.allClamped (s : State) : Bool := (List.range 64).all (fun b => s.bit (FLX_CFG.CLAMPED b))

/-- In a SHUTDOWN, the tick in which the last line was clamped (R376). -/
def State.noteClamped (s : State) : State :=
  if s.sys.shut.isSome && s.sys.clampedAt.isNone && s.allClamped then { s with sys := { s.sys with clampedAt := some s.tick } } else s

/-- The clamp closes at this tick. -/
def State.clampClose (s : State) (b : Nat) : State := (s.setBit (FLX_CFG.CLAMPED b) true).noteClamped

/-! ## Targets (R158, R165) -/

/-- FLX_BIAS_WRITE: the value is stored; it sets the target unless EN is 0, a park runs or a range change runs, which set
CFG_REJ. An action released in the same tick stands. A standby twin applies none (R343). -/
def execFlxBiasWrite (b : Fin 64) (code : BitVec 18) (s : State) : Host.Outcome State Fault Refusal :=
  let s := s.set (FLX_BIAS_WR.CODE b) code.toNat
  let f := s.fluxLine b
  if !s.bit (FLX_CFG.EN b) || f.park.isSome || s.bit (FLX_CFG.RC_BUSY b) then .next (s.setBit (FLX_STAT.CFG_REJ b) true)
  else if f.actTick = some s.tick then .next (s.setBit (FLX_STAT.WR_OVR b) true)
  else if s.twinRole = 3 then .next s
  else .next ((s.setFluxLine b { f with armed := true, wrTick := some s.tick }).setBiasTgt b code.toInt)

/-- A released BIAS_SET action: not applied with EN 0 or in a park; held during a range change. -/
def State.biasAction (s : State) (b : Nat) (code : BitVec 18) : State :=
  let f := s.fluxLine b
  if !s.bit (FLX_CFG.EN b) || f.park.isSome || s.twinRole == 3 then s
  else if s.bit (FLX_CFG.RC_BUSY b) then s.setFluxLine b { f with held := some code }
  else
    let s := s.when (f.wrTick == some s.tick) (·.setBit (FLX_STAT.WR_OVR b) true)
    (s.setFluxLine b { f with armed := true, actTick := some s.tick }).setBiasTgt b code.toInt

/-! ## Enable (R162, R164, R155) -/

/-- FLX_EN_SET: the pulse lock goes to IDLE; the clamp stays as it is until the first target. -/
def execFlxEnSet (b : Fin 64) (s : State) : Host.Outcome State Fault Refusal :=
  if s.bit (FLX_CFG.EN b) then .next s
  else .next (((s.setBit (FLX_CFG.EN b) true).modFluxLine b (fun f => { f with armed := false })).setLockSt (laneFlux b) .idle)

/-- The pulse path is cleared: every filter state, play and entry; the pulse code is zero (R155). -/
def State.clearPulse (s : State) (b : Nat) : State :=
  let quiet (k : PathLane) : PathLane :=
    { k with tones := endTones k.tones, filt := .quiet }
  let s := s.each [0, 1, 2, 3, 4] (fun s i => s.modPath (pathKey b 2 i) quiet)
  let s := (s.modFluxLine b (fun f => { f with pulse := 0 })).setBit (FLX_STAT.QUIET b) true
  (s.modLockLane (laneFlux b) (fun k => { k with main := [], stage := [], formed := [], missed := [], episode := none })).setOutPin
    (64 + b) []

/-- Clearing EN: the pulse lock goes to OFF, the target becomes 0, and the line slews to 0 and clamps. -/
def State.flxDisable (s : State) (b : Nat) : State :=
  let s := ((s.setBit (FLX_CFG.EN b) false).clearPulse b).setLockSt (laneFlux b) .off
  let s := s.setBiasTgt b 0
  s.modFluxLine b (fun f => { f with armed := false, closing := if s.bit (FLX_CFG.CLAMPED b) then none else some s.tick })

def execFlxEnClear (b : Fin 64) (s : State) : Host.Outcome State Fault Refusal :=
  .next (if s.bit (FLX_CFG.EN b) then s.flxDisable b else s)

/-- FLX_FILTER_WRITE: FLX_EXP_A[i], FLX_EXP_B[i] (8 + i), FLX_FIR[j] (16 + j) or FLX_CFG.PD_EN (80), accepted only while the
pilot is IDLE and the filter quiet (R156). -/
def execFlxFilterWrite (b : Fin 64) (which : Fin 81) (v : Word) (s : State) : Host.Outcome State Fault Refusal :=
  if !(s.pltIdle b && s.bit (FLX_STAT.QUIET b)) then .next (s.setBit (FLX_STAT.CFG_REJ b) true)
  else
    let i := which.val
    .next (
      if i < 8 then s.set (FLX_EXP_A.AMP b i) (v.toNat % 2 ^ 18)
      else if i < 16 then (s.set (FLX_EXP_B.BETA b (i - 8)) (v.toNat % 2 ^ 24)).setBit (FLX_EXP_B.EN b (i - 8)) v.msb
      else if i < 80 then s.set (FLX_FIR.COEF b (i - 16)) (v.toNat % 2 ^ 18)
      else s.setBit (FLX_CFG.PD_EN b) (v.getLsbD 3))

/-! ## Range changes (R165 to R167) -/

/-- The range change is over: RC_BUSY and GO clear. -/
def State.rcEnd (s : State) (b : Nat) : State :=
  ((s.modFluxLine b (fun f => { f with rc := none, held := none })).setBit (FLX_CFG.RC_BUSY b) false).setBit (FLX_RC.GO b) false

/-- RANGE_CHANGE_REQUEST: a write of FLX_RC with GO. -/
def execRangeChangeRequest (b : Fin 64) (w : Word) (s : State) : Host.Outcome State Fault Refusal :=
  let f := s.fluxLine b
  -- fields written during a change in progress do not disturb it
  let s := s.when (f.rc.isNone) (fun s =>
    (s.set (FLX_RC.CODE b) (w.toNat % 2 ^ 18)).set (FLX_RC.RANGE b) (w.toNat / 2 ^ 20 % 4))
  let ok := s.pltIdle b && (s.lockLane (laneFlux b)).st != .run && !s.bit (FLX_CFG.CLAMPED b) && f.rc.isNone &&
    s.get (FLX_RC.RANGE b) != 3 && f.park.isNone && f.closing.isNone
  if !ok then .next ((s.setBit (FLX_STAT.CFG_REJ b) true).when f.rc.isNone (·.setBit (FLX_RC.GO b) false))
  else
    let s := s.setFluxLine b { f with rc := some (.toZero, s.tick), rcFrom := s.tick }
    .next ((s.setBit (FLX_CFG.RC_BUSY b) true).setBit (FLX_RC.GO b) true)

/-- The bias has reached 0 in step 1 (or the deglitch hold of its jump has ended): step 2, unless EN has been cleared. -/
def State.rcAtZero (s : State) (b : Nat) : State :=
  if !s.bit (FLX_CFG.EN b) then s.rcEnd b
  else (s.clampClose b).modFluxLine b (fun f => { f with rc := some (.clampClose, s.tick + 3000) })

/-- RANGE_CHANGE_STEP: the timed step in progress has run its time and the next begins; clearing EN ends the change after the
step in progress (R167). -/
def execRangeChangeStep (b : Fin 64) (s : State) : Host.Outcome State Fault Refusal :=
  let f := s.fluxLine b
  match f.rc with
  | none => .next s
  | some (step, t) =>
    let en := s.bit (FLX_CFG.EN b)
    let go (s : State) (st : RcStep) (t : Tick) : State := s.modFluxLine b (fun f => { f with rc := some (st, t) })
    match step with
    | .toZero =>
      -- only the end of a deglitch hold is timed in step 1
      if s.biasCur b = 0 ∧ f.hold.isSome ∧ f.rcFrom ≠ t ∧ Tick.le t s.tick then .next (s.rcAtZero b) else .next s
    | .clampClose =>
      if !Tick.le t s.tick then .next s
      else if !en then .next (s.rcEnd b)
      else .next (go (s.set (FLX_CFG.RANGE b) (s.get (FLX_RC.RANGE b))) .switch (t + 15000))
    | .switch =>
      if !Tick.le t s.tick then .next s
      else if !en then .next (s.rcEnd b)
      else .next (go (s.setBit (FLX_CFG.CLAMPED b) false) .clampOpen (t + 3000))
    | .clampOpen =>
      if !Tick.le t s.tick then .next s
      else if !en then .next ((s.rcEnd b).modFluxLine b (fun f => { f with closing := some s.tick }))
      else .next (go s .toCode t)
    | .toCode => .next s

/-! ## Strobes (R157, R159, R160, R162, R164, R166) -/

/-- A standby twin applies the codes of BIAS flits at their strobes, with the clamp open (R343). -/
def State.biasTrack (s : State) (b : Nat) : State :=
  match s.twinBias.find? (fun (e : Nat × BitVec 18 × Tick) => e.1 == b && e.2.2 == s.tick) with
  | none => s
  | some (_, code, _) =>
    let c := s.biasCur b
    let big := !s.bit (FLX_SLEW.EN b) && ((BitVec.ofInt 18 c).extractLsb' 12 6 != code.extractLsb' 12 6)
    let at_ := s.tick + 6 + (if big then BitVec.ofNat 48 (Nat.max 1 (s.get (FLX_DGL.HOLD b))) else 0)
    let s := (s.setBit (FLX_CFG.CLAMPED b) false).modFluxLine b (fun f => { f.settle s.tick with hold := some (at_, code), armed := true })
    let s := { s with twinBias := s.twinBias.filter (fun (e : Nat × BitVec 18 × Tick) => !(e.1 == b && Tick.le e.2.2 s.tick)) }
    (s.setBiasCur b code.toInt).setBiasTgt b code.toInt

/-- The strobe's action on a line that no park holds. -/
def State.biasStrobe (s : State) (b : Nat) : State :=
  let f := s.fluxLine b
  match f.rc with
  | some (.toZero, t) =>
    if !Tick.before f.rcFrom s.tick || f.rcFrom ≠ t then s
    else
      let s := s.biasMove b 0
      if s.biasCur b ≠ 0 then s
      else match (s.fluxLine b).hold with
        | some (u, _) =>
          if Tick.before (s.tick + 6) u then s.modFluxLine b (fun f => { f with rc := some (.toZero, u) }) else s.rcAtZero b
        | none => s.rcAtZero b
  | some (.toCode, t) =>
    if !Tick.before t s.tick then s
    else
      let goal := s.getInt (FLX_RC.CODE b)
      let s := s.biasMove b goal
      if s.biasCur b ≠ goal then s
      else
        let en := s.bit (FLX_CFG.EN b)
        let tgt : Int := if !en then 0 else match (s.fluxLine b).held with | some c => c.toInt | none => goal
        (s.rcEnd b).setBiasTgt b tgt
  | some _ => s
  | none =>
    match f.closing with
    | some t =>
      if s.biasCur b = 0 then
        if Tick.before t s.tick then (s.clampClose b).modFluxLine b (fun f => { f with closing := none }) else s
      else
        let s := s.biasMove b 0
        if s.biasCur b = 0 then (s.clampClose b).modFluxLine b (fun f => { f with closing := none }) else s
    | none =>
      if !s.bit (FLX_CFG.EN b) || !f.armed then s
      else if s.bit (FLX_CFG.CLAMPED b) then
        (s.setBit (FLX_CFG.CLAMPED b) false).modFluxLine b (fun f => { f with slewFrom := some (s.tick + 3000) })
      else if (match f.slewFrom with | some t => Tick.before s.tick t | none => false) then s
      else s.biasMove b (s.biasTgt b)

/-- A tick in which the bias DAC of line `b` may change its code. -/
def State.strobeTick (s : State) (b : Nat) : Bool := s.tick.toNat % s.biasInterval b == 0

/-- DEGLITCH_RELEASE: at the end of the hold the stage is released to the new code. -/
def execDeglitchRelease (b : Fin 64) (s : State) : Host.Outcome State Fault Refusal :=
  .next (s.modFluxLine b (·.settle s.tick))

/-! ## Short circuits (R168, R169) -/

def execCurrentLimitChange (b : Fin 64) (engaged : Bool) (s : State) : Host.Outcome State Fault Refusal :=
  let was := s.bit (FLX_STAT.SC_LIVE b)
  let s := s.setBit (FLX_STAT.SC_LIVE b) engaged
  .next (s.modFluxLine b (fun f => { f with
    limSince := if engaged then (if was then f.limSince else some s.tick) else none,
    freeSince := if engaged then none else (if was then some s.tick else f.freeSince) }))

/-- SC_EPISODE_START: the limit has been engaged for 64 consecutive ticks. With SC_ACT the clamp closes, the code is 0 without
slewing and EN clears; a range change is overridden. -/
def execScEpisodeStart (b : Fin 64) (s : State) : Host.Outcome State Fault Refusal :=
  let f := s.fluxLine b
  match f.limSince with
  | none => .next s
  | some t =>
    if f.inSc || decide (Tick.diff t s.tick < 64) then .next s
    else
      let s := s.setFluxLine b { f with inSc := true }
      let s := (s.setBit (FLX_STAT.SC b) true).bump (FLX_SC_CNT.COUNT b)
      let s := s.raise Src.FLX_SC (slot b ++ slotTick s.tick)
      .next (s.when (s.bit (FLX_CFG.SC_ACT b)) (fun s =>
        let s := ((s.rcEnd b).clampClose b).flxDisable b
        let s := s.modFluxLine b (fun f => { f with stage := 0, hold := none, closing := none, slewFrom := none })
        s.setBiasCur b 0))

def execScEpisodeEnd (b : Fin 64) (s : State) : Host.Outcome State Fault Refusal :=
  let f := s.fluxLine b
  match f.freeSince with
  | none => .next s
  | some t =>
    if f.inSc && decide (1500 ≤ Tick.diff t s.tick) then .next (s.setFluxLine b { f with inSc := false, freeSince := none })
    else .next s

/-! ## Emergency park (R170) -/

/-- Requests a park of line `b`: the pulse code is zero, a range change is overridden; strobes follow every 1,500 ticks from
the next tick. A line already clamped at code 0 has nothing to park. -/
def State.park (s : State) (b : Nat) : State :=
  let f := s.fluxLine b
  if f.park.isSome || (s.bit (FLX_CFG.CLAMPED b) && s.biasCur b == 0) then (s.rcEnd b)
  else ((s.clearPulse b).rcEnd b).modFluxLine b (fun f => { f with park := some (s.tick + 1), closing := none })

/-- PARK_STROBE: the bias moves 8,192 LSB towards 0, whatever FLX_SLEW and FLX_BIAS_CFG hold; the clamp closes at 0. -/
def execParkStrobe (b : Fin 64) (s : State) : Host.Outcome State Fault Refusal :=
  let f := s.fluxLine b
  match f.park with
  | none => .next s
  | some t =>
    if !Tick.le t s.tick then .next s
    else
      let c := s.biasCur b
      let c' := if c < 0 then min 0 (c + 8192) else max 0 (c - 8192)
      let s := s.setFluxLine b { f.settle s.tick with hold := some (s.tick + 6, BitVec.ofInt 18 c'), park := some (t + 1500) }
      let s := s.setBiasCur b c'
      .next (if c' ≠ 0 then s
        else ((s.clampClose b).setBiasTgt b 0).modFluxLine b (fun f => { f with park := none, armed := false, slewFrom := none }))

end Sys2Proof.Machine
end

