-- ==== Sys2Proof/Machine/Calib.lean ====
section
/-! DEFINITION. Converter calibration: due checks, spare rotation and its handover instants, system calibration of an input, the
self-calibration command and the fused baseline (R241 to R260). -/

namespace Sys2Proof.Machine

/-! ## Converters and groups (R23, R241, R371) -/

/-- The spare of a converter's group. -/
def spareOf (i : Nat) : Nat :=
  if i < 64 then 240 + i / 8
  else if i < 80 then 248 + (i - 64) / 8
  else if i < 112 then 250 + (i - 80) / 8
  else if i < 176 then 254 + (i - 112) / 8
  else 262 + (i - 176) / 8

/-- The converters that a spare serves. -/
def groupOf (c : Nat) : List Nat := (List.range 240).filter (fun i => spareOf i == c)

/-- The thermal region of a converter; a spare lies in that of the lowest-numbered converter of its group. -/
def convRegion (i : Nat) : Nat :=
  let own (i : Nat) : Nat :=
    if i < 64 then i / 4
    else if i < 80 then 16 + (i - 64)
    else if i < 112 then 16 + (i - 80) / 2
    else if i < 176 then (i - 112) / 4
    else (i - 176) / 4
  if i < 240 then own i else own ((groupOf i).headD 0)

/-- Converter states of R246. -/
def convSt.inService : Nat := 0
def convSt.due : Nat := 1
def convSt.parallel : Nat := 2
def convSt.offline : Nat := 3
def convSt.ret : Nat := 4
def convSt.spareIdle : Nat := 5
def convSt.spareActive : Nat := 6
def convSt.failed : Nat := 7

def State.convState (s : State) (i : Nat) : Nat := s.get (CAL_CONV.STATE i)

/-- No partner. -/
def noPartner : Nat := 0x1FF

/-- A converter enters a state now. -/
def State.setConvState (s : State) (i st : Nat) : State :=
  (s.set (CAL_CONV.STATE i) st).modConv i (fun c => { c with at_ := s.tick, aligned := false, forced := false })

/-- The region temperature of a converter, in 0.1 °C. -/
def State.convTemp (s : State) (i : Nat) : Int := s.getInt (TH_REGION.TEMP (convRegion i))

/-- The sixteen words of a calibration result. -/
def trimWords (v : BitVec 512) : Store Word :=
  ((List.range 16).map (fun k => (k, v.extractLsb' (32 * k) 32))).filter (fun p => p.2 ≠ 0)

/-- A calibration result replaces the converter's delta as a whole, and its temperature and time are recorded (R243, R246). -/
def State.calibrated (s : State) (i : Nat) (v : BitVec 512) : State :=
  let s := s.modConv i (fun c => { c with delta := trimWords v, lastCal := s.tick })
  s.set (CAL_CONV.LAST_T i) (BitVec.ofInt 12 (s.convTemp i)).toNat

/-- STARVED: due converters wait behind a FAILED one of their group (R250). -/
def State.showStarved (s : State) : State :=
  s.setBit CAL_STAT.STARVED ((List.range 30).any (fun c =>
    let g := groupOf (240 + c)
    g.any (fun i => s.convState i == convSt.failed) && g.any (fun i => s.convState i == convSt.due)))

/-! ## Becoming due (R244, R245) -/

/-- The converter is due: its region has drifted by more than DELTA, or its calibration is MAXAGE seconds old. -/
def State.convDrifted (s : State) (i : Nat) : Bool :=
  let delta : Int := (Nat.max 5 (Nat.min 100 (s.get CAL_CFG.DELTA)) : Nat)
  let age := s.get CAL_CFG.MAXAGE
  let d := s.convTemp i - s.getInt (CAL_CONV.LAST_T i)
  decide (delta < d ∨ delta < -d) ||
    (age != 0 && decide (age * 1500000000 ≤ (s.tick - (s.conv i).lastCal).toNat))

/-- A converter becomes due; a spare that serves nothing begins its own calibration of 180 µs. -/
def State.makeDue (s : State) (i : Nat) : State :=
  if i < 240 then
    if s.convState i = convSt.inService then (s.setConvState i convSt.due).showStarved else s
  else
    let free := s.get (CAL_CONV.PARTNER i) == noPartner
    s.modConv i (fun c => if c.spareDue then c else
      { c with spareDue := true, calEnd := if free then some (s.tick + 270000) else none })

/-- CAL_DUE_CHECK. -/
def execCalDueCheck (s : State) : Host.Outcome State Fault Refusal :=
  .next (if s.bit CAL_CFG.EN then s.each (List.range 270) (fun s i => if s.convDrifted i then s.makeDue i else s) else s)

/-- SPARE_CAL_DONE: spare 240 + `c` ends its offline calibration with a new delta, or fails. -/
def execSpareCalDone (c : Fin 30) (res : Option (BitVec 512)) (s : State) : Host.Outcome State Fault Refusal :=
  let i := 240 + c.val
  match (s.conv i).calEnd with
  | none => .next s
  | some t =>
    if !Tick.le t s.tick then .next s
    else
      let s := s.modConv i (fun c => { c with spareDue := false, calEnd := none })
      match res with
      | some v => .next (s.calibrated i v)
      | none => .next ((s.setConvState i convSt.failed).raise Src.CAL_FAIL (slot i))

/-! ## Rotation (R245 to R250) -/

/-- The converter of a group that has been due longest, the lower number first within a tick. -/
def State.longestDue (s : State) (c : Nat) : Option Nat :=
  ((groupOf c).filter (fun i => s.convState i == convSt.due)).foldl (fun best i =>
    match best with
    | none => some i
    | some j => if Tick.before (s.conv i).at_ (s.conv j).at_ then some i else some j) none

/-- ROTATION_START: spare 240 + `c`, free and not itself due, takes the longest-waiting due converter of its group. -/
def execRotationStart (c : Fin 30) (s : State) : Host.Outcome State Fault Refusal :=
  let p := 240 + c.val
  let free := s.convState p == convSt.spareIdle && s.get (CAL_CONV.PARTNER p) == noPartner && !(s.conv p).spareDue
  if !free || s.bit CAL_CTRL.PAUSE || s.bit CAL_STAT.SELF_BUSY then .next s
  else match s.longestDue p with
    | none => .next s
    | some i =>
      let s := s.setConvState i convSt.parallel
      .next ((s.set (CAL_CONV.PARTNER i) p).set (CAL_CONV.PARTNER p) i).showStarved

/-- ROTATION_ALIGN_DONE: 1,500 ticks of PARALLEL or RETURN have verified the alignment. -/
def execRotationAlignDone (i : Fin 240) (s : State) : Host.Outcome State Fault Refusal :=
  let st := s.convState i
  if (st == convSt.parallel || st == convSt.ret) && decide (1500 ≤ Tick.diff (s.conv i).at_ s.tick) then
    .next (s.modConv i (fun c => { c with aligned := true }))
  else .next s

/-- The lock lanes and berths of a converter. -/
def convLanes (i : Nat) : List Nat :=
  if i < 64 then [i]
  else if i < 80 then [0, 1, 2, 3].map (fun j => 128 + 4 * (i - 64) + j)
  else if 112 ≤ i ∧ i < 176 then [64 + (i - 112)]
  else []
def convBerths (i : Nat) : List Nat :=
  if i < 64 then [i]
  else if i < 80 then [0, 1, 2, 3].map (fun j => 4 * (i - 64) + j)
  else if i < 112 then [0, 1, 2, 3].map (fun j => 4 * ((i - 80) / 2) + j)
  else if i < 176 then [i - 112]
  else [i - 176]

/-- What lane `l` holds by the end of tick TICK − 2 for tick `t`: its samples, none for zero; `none` when nothing covers it. -/
def State.laneAt (s : State) (l : Nat) (t : Tick) : Option (List Int) :=
  let k := s.lockLane l
  if k.st ≠ .run then some []
  else match k.main.find? (fun e => e.covers t && Tick.le e.present (s.tick - 2)) with
    | some e => match e.cover with | .sample v => some v | _ => some []
    | none => none

/-- A handover instant of a converter (R247). -/
def State.handoverInstant (s : State) (i : Nat) : Bool :=
  if 176 ≤ i then
    let b := i - 176
    s.strobeTick b && !s.bit (FLX_BIAS_CUR.MOVING b) && !s.bit (FLX_CFG.RC_BUSY b)
  else if 80 ≤ i ∧ i < 112 then
    let n := (i - 80) / 2
    let t := s.tick - 8
    (List.range 16).all (fun k => (s.demod (16 * n + k)).wins.all (fun w =>
      !(Tick.le (w.o - 1) t && (match w.close with | none => true | some c => Tick.before t c))))
  else
    (List.range 8).all (fun j =>
      let vs := (convLanes i).map (fun l => s.laneAt l (s.tick + BitVec.ofNat 48 j))
      vs.all (·.isSome) && (vs.foldl (fun acc v => addSamples acc (v.getD [])) []).all (· == 0))

/-- A switching step: handover from PARALLEL, or hand-back from RETURN; `late` when the deadline rule forced it (R248). -/
def State.calSwitch (s : State) (i : Nat) (late : Bool) : State :=
  let p := s.get (CAL_CONV.PARTNER i)
  let s := s.when late (fun s => (s.raise Src.CAL_LATE (slot i)).bump CAL_LATE_CNT.COUNT)
  if s.convState i = convSt.parallel then (s.setConvState i convSt.offline).setConvState p convSt.spareActive
  else
    let s := (s.setConvState i convSt.inService).setConvState p convSt.spareIdle
    let s := (s.set (CAL_CONV.PARTNER i) noPartner).set (CAL_CONV.PARTNER p) noPartner
    let s := s.set (CAL_CONV.LAST_T i) (BitVec.ofInt 12 (s.convTemp i)).toNat
    let s := s.modConv p (fun c => if c.spareDue then { c with calEnd := some (s.tick + 270000) } else c)
    ((s.bump CAL_ROT_CNT.COUNT).lifeBump 362).showStarved

def execHandover (i : Fin 240) (s : State) : Host.Outcome State Fault Refusal :=
  .next (if s.convState i == convSt.parallel && (s.conv i).aligned && s.handoverInstant i then s.calSwitch i false else s)

def execHandBack (i : Fin 240) (s : State) : Host.Outcome State Fault Refusal :=
  .next (if s.convState i == convSt.ret && (s.conv i).aligned && s.handoverInstant i then s.calSwitch i false else s)

/-- OFFLINE_CAL_DONE: 270,000 ticks after the handover the converter has a new delta and moves to RETURN, or is FAILED. -/
def execOfflineCalDone (i : Fin 240) (res : Option (BitVec 512)) (s : State) : Host.Outcome State Fault Refusal :=
  if !(s.convState i == convSt.offline && decide (270001 ≤ Tick.diff (s.conv i).at_ s.tick)) then .next s
  else match res with
    | some v => .next ((s.calibrated i v).setConvState i convSt.ret)
    | none => .next ((s.setConvState i convSt.failed).raise Src.CAL_FAIL (slot i)).showStarved

/-- The converter waits for a switching step whose deadline has expired. -/
def State.calForced (s : State) (i : Nat) : Bool :=
  let c := s.conv i
  let st := s.convState i
  (st == convSt.parallel || st == convSt.ret) && c.aligned && c.forced

/-- A shot boundary of berth `b` is released, or a shot-boundary hold keeps its pilot at one: forced steps of the converters it
uses, bias DACs apart, take place (R13, R248). -/
def State.calBoundary (s : State) (b : Nat) : State :=
  s.each [b, 64 + b / 4, 80 + 2 * (b / 4), 81 + 2 * (b / 4), 112 + b] (fun s i => if s.calForced i then s.calSwitch i true else s)

/-- A strobe of line `b`: a forced step of its bias DAC takes place, once no range change runs (R248, R251). -/
def State.calStrobe (s : State) (b : Nat) : State :=
  if s.calForced (176 + b) && !s.bit (FLX_CFG.RC_BUSY b) then s.calSwitch (176 + b) true else s

/-- CAL_DEADLINE_EXPIRY: CAL_DEADLINE (0 acts as 1 ms) after entry to PARALLEL or RETURN the step is forced. -/
def execCalDeadlineExpiry (i : Fin 240) (s : State) : Host.Outcome State Fault Refusal :=
  let st := s.convState i
  let ticks : Int := (Nat.max 1 (s.get CAL_DEADLINE.MS) * 1500000 : Nat)
  if !((st == convSt.parallel || st == convSt.ret) && decide (ticks ≤ Tick.diff (s.conv i).at_ s.tick)) then .next s
  else
    let s := s.modConv i (fun c => { c with forced := true })
    let held := i.val < 176 && (convBerths i).any (fun b => match (s.pilot b).wait with | .held _ => true | _ => false)
    .next (if held && s.calForced i then s.calSwitch i true else s)

/-- RESET_N or a chip reset abandons every rotation, self-calibration and commit, and clears every delta (R243, R251). -/
def State.calReset (s : State) : State :=
  let s := { s with convs := [], selfCal := none }
  s.each (List.range 270) (fun s i => s.wr (R.CAL_CONV i) (regReset (R.CAL_CONV i)))

/-! ## System calibration (R254, R255) -/

/-- A frequency word within 10 MHz of 0, 1.5 or 3.0 GHz after folding into the first zone of 6 GS/s. -/
def scalExcluded (f : BitVec 48) : Bool :=
  -- frequencies in MHz × 2^48
  let m := f.toNat * 12000 % (6000 * 2 ^ 48)
  let x := if 3000 * 2 ^ 48 < m then 6000 * 2 ^ 48 - m else m
  let near (c : Nat) : Bool := decide (c * 2 ^ 48 < x + 10 * 2 ^ 48) && decide (x < (c + 10) * 2 ^ 48)
  near 0 || near 1500 || near 3000

/-- A system calibration step starts (R254): STEP 1 ZERO or 2 TONE; the internal short switches in as a front-end change. -/
def State.scalStart (s : State) (n step : Nat) (src : Bool) : State :=
  let s := (s.set (RDI_SCAL_CTRL.STEP n) step).setBit (RDI_SCAL_CTRL.SRC n) src
  if s.bit (RDI_SCAL_STAT.BUSY n) || !(step == 1 || step == 2) then s
  else
    let busy := !s.bit (RDI_CFG.EN n) || (List.range 16).any (fun k => (s.demod (16 * n + k)).wins != [])
    let s := s.modInp n (fun i => { i with scal := some (step, src, s.tick, busy, false) })
    let s := (s.setBit (RDI_SCAL_STAT.BUSY n) true).setBit (RDI_SCAL_CTRL.GO n) true
    s.when src (·.frontChange n 16)

/-- SCAL_GO: a write of RDI_SCAL_CTRL with GO. -/
def execScalGo (n : Fin 16) (step : BitVec 2) (src : Bool) (s : State) : Host.Outcome State Fault Refusal :=
  .next (s.scalStart n step.toNat src)

/-- SCAL_STEP_DONE: the step has taken its samples (32,768 ticks, or 65,536). `level` and `freq` tell that the measured level, or
the measured frequency, is out of bounds; the values are the result of a TONE step. -/
def execScalStepDone (n : Fin 16) (level freq : Bool) (g0 g1 o0 o1 : BitVec 18) (skew : BitVec 16) (s : State) :
    Host.Outcome State Fault Refusal :=
  match (s.inp n).scal with
  | none => .next s
  | some (step, src, t, hit, ovr) =>
    if Tick.diff t s.tick < (if step = 1 then 32768 else 65536) then .next s
    else
      let i := s.inp n
      let res : Nat :=
        if hit || !s.bit (RDI_CFG.EN n) then 1
        else if step = 2 && !i.zeroOk then 4
        else if ovr then 5
        else if level then 2
        else if step = 2 && (freq || scalExcluded (s.pair (R.RDI_SCAL_FREQ_LO n))) then 3
        else 0
      let s := s.setInp n { i with scal := none, zeroOk := i.zeroOk || (step == 1 && res == 0) }
      let s := ((s.set (RDI_SCAL_STAT.RESULT n) res).setBit (RDI_SCAL_STAT.BUSY n) false).setBit (RDI_SCAL_CTRL.GO n) false
      let s := s.when src (·.frontChange n 16)
      .next (s.when (step == 2 && res == 0) (fun s =>
        let s := (s.set (RDI_SCAL_NEW_GAIN.GAIN n 0) g0.toNat).set (RDI_SCAL_NEW_GAIN.GAIN n 1) g1.toNat
        let s := (s.set (RDI_SCAL_NEW_OFF.OFF n 0) o0.toNat).set (RDI_SCAL_NEW_OFF.OFF n 1) o1.toNat
        s.set (RDI_SCAL_NEW_SKEW.SKEW n) skew.toNat))

/-- SCAL_APPLY: the new values come into use in one tick, as a front-end change of 24 ticks. -/
def State.scalApply (s : State) (n : Nat) : State :=
  let cp (s : State) (a b : Nat) : State := s.wr a (s.rd b)
  let s := cp (cp s (R.RDI_SCAL_GAIN n 0) (R.RDI_SCAL_NEW_GAIN n 0)) (R.RDI_SCAL_GAIN n 1) (R.RDI_SCAL_NEW_GAIN n 1)
  let s := cp (cp s (R.RDI_SCAL_OFF n 0) (R.RDI_SCAL_NEW_OFF n 0)) (R.RDI_SCAL_OFF n 1) (R.RDI_SCAL_NEW_OFF n 1)
  let s := cp s (R.RDI_SCAL_SKEW n) (R.RDI_SCAL_NEW_SKEW n)
  (s.modInp n (fun i => { i with zeroOk := false })).frontChange n 24

def execScalApply (n : Fin 16) (s : State) : Host.Outcome State Fault Refusal := .next (s.scalApply n)

/-! ## The self-calibration command (R256, R257) -/

/-- A converter that the self-calibration command covers: not in service, and not in a rotation. -/
def State.selfEligible (s : State) (i : Nat) : Bool :=
  let st := s.convState i
  if i < 240 then
    let off :=
      if i < 64 then !s.bit (DRV_CFG.EN i)
      else if i < 80 then !s.bit (PRB_CFG.EN (i - 64))
      else if i < 112 then !s.bit (RDI_CFG.EN ((i - 80) / 2))
      else if i < 176 then !s.bit (FLX_CFG.EN (i - 112))
      else !s.bit (FLX_CFG.EN (i - 176))
    st == convSt.failed || (off && (st == convSt.inService || st == convSt.due))
  else st == convSt.failed || (st == convSt.spareIdle && s.get (CAL_CONV.PARTNER i) == noPartner)

/-- Starts the self-calibration command of 2.4 ms; a second request while it runs is ignored. -/
def State.selfStart (s : State) : State :=
  if s.bit CAL_STAT.SELF_BUSY then s
  else
    let set := (List.range 270).filter (fun i => s.selfEligible i)
    let s := { s with selfCal := some (s.tick + 3600000, set) }
    ((s.setBit CAL_CTRL.SELF true).setBit CAL_STAT.SELF_BUSY true).set CAL_STAT.SELF_SKIP (270 - set.length)

def execCalSelf (s : State) : Host.Outcome State Fault Refusal := .next s.selfStart

/-- SELF_CAL_DONE: `res` gives the converters' new deltas; one not named keeps its own. A FAILED converter that succeeds returns to
service when its spare hands back. -/
def execSelfCalDone (res : List (Fin 270 × BitVec 512)) (s : State) : Host.Outcome State Fault Refusal :=
  match s.selfCal with
  | none => .next s
  | some (t, set) =>
    if !Tick.le t s.tick then .next s
    else
      let s := { s with selfCal := none }
      let s := s.each (res.filter (fun r => set.contains r.1.val)) (fun s r =>
        let i := r.1.val
        let s := s.calibrated i r.2
        if 240 ≤ i then
          let s := s.modConv i (fun c => { c with spareDue := false, calEnd := none })
          if s.convState i = convSt.failed then s.setConvState i convSt.spareIdle else s
        else if s.convState i = convSt.failed then
          s.setConvState i (if s.get (CAL_CONV.PARTNER i) = noPartner then convSt.inService else convSt.ret)
        else s.setConvState i convSt.inService)
      .next (((s.setBit CAL_CTRL.SELF false).setBit CAL_STAT.SELF_BUSY false).lifeBump 363).showStarved

/-! ## Committing a baseline (R242, R243, R258 to R260) -/

/-- The generation slot `g`. -/
def State.fuse (s : State) (g : Nat) : FuseGen := s.fuses.getD g .blank

/-- The baseline word of a converter: from the generation in force, 0 where none is valid. -/
def State.baseWord (s : State) (i w : Nat) : Word :=
  let g := s.fuse (s.get CAL_FUSE_STAT.ACTIVE_GEN)
  if g.sealed_ && g.good then Store.read (fun _ => 0) g.trims (i * 16 + w) else 0

/-- The delta word of a converter. -/
def State.deltaWord (s : State) (i w : Nat) : Word := Store.read (fun _ => 0) (s.conv i).delta w

/-- The trim in force, word by word: baseline plus delta. -/
def State.trimWord (s : State) (i w : Nat) : Word := s.baseWord i w + s.deltaWord i w

/-- Ends a commit, with its RESULT. -/
def State.fuseEnd (s : State) (result : Nat) : State :=
  let s := { s with fuseJob := none }
  ((s.set CAL_FUSE_STAT.RESULT result).setBit CAL_FUSE_STAT.BUSY false).setBit CAL_FUSE_CTRL.COMMIT false

/-- A commit that stops before its commit word: INCOMPLETE, the slot spent (R260). -/
def State.fuseAbort (s : State) : State := if s.fuseJob.isSome then s.fuseEnd 5 else s

/-- A commit request with a right key (R258). -/
def State.fuseStart (s : State) : State :=
  if s.bit TH_STAT.WARN then s.set CAL_FUSE_STAT.RESULT 2
  else if s.fuseJob.isSome then s.set CAL_FUSE_STAT.RESULT 4
  else match s.fuses.findIdx? (fun g => !g.used) with
    | none => s.set CAL_FUSE_STAT.RESULT 3
    | some k =>
      let ws := (List.range 270).flatMap (fun i => (List.range 16).map (fun w => (i, w)))
      let trims := ws.foldl (fun m p => Store.write (fun _ => 0) m (p.1 * 16 + p.2) (s.trimWord p.1 p.2)) []
      let deltas := ws.foldl (fun m p => Store.write (fun _ => 0) m (p.1 * 16 + p.2) (s.deltaWord p.1 p.2)) []
      let gen := (s.fuses.map (fun g => if g.used then g.gen + 1 else 0)).foldl Nat.max 0
      let s := { s with
        fuseJob := some { slot := k, deltas := deltas, trims := trims },
        fuses := listSet s.fuses k { used := true, gen := gen, trims := trims, sealed_ := false, good := false } }
      let s := (s.setBit CAL_FUSE_STAT.BUSY true).setBit CAL_FUSE_CTRL.COMMIT true
      s.set CAL_FUSE_STAT.USED (s.get CAL_FUSE_STAT.USED ||| 2 ^ k)

/-- FUSE_COMMIT: a write of CAL_FUSE_CTRL with COMMIT. -/
def execFuseCommit (key : BitVec 8) (s : State) : Host.Outcome State Fault Refusal :=
  .next (if key = 0xA5 then s.fuseStart else s)

/-- FUSE_COMMIT_DONE: the commit word is programmed and verified: in one tick the new generation is the baseline and the snapshot's
deltas are subtracted. -/
def execFuseCommitDone (s : State) : Host.Outcome State Fault Refusal :=
  match s.fuseJob with
  | none => .next s
  | some j =>
    let g := s.fuse j.slot
    let s := { s with fuses := listSet s.fuses j.slot { g with sealed_ := true, good := true } }
    let s := s.set CAL_FUSE_STAT.ACTIVE_GEN j.slot
    let s := s.each (List.range 270) (fun s i => s.modConv i (fun c => { c with
      delta := (List.range 16).foldl (fun m w => Store.write (fun _ => 0) m w
        (Store.read (fun _ => 0) m w - Store.read (fun _ => 0) j.deltas (i * 16 + w))) c.delta }))
    .next (s.fuseEnd 1)

end Sys2Proof.Machine
end

