-- ==== Sys2Proof/Machine/Release.lean ====
section
/-! DEFINITION. Timed release (R15, R26 to R44): entries arriving at a lock, the release of a barge and its actions, late episodes,
shot boundaries, marker pins and the bias strobe. -/

namespace Sys2Proof.Machine

/-! ## Lanes and margins -/

/-- The lane that the locks of berth `b` release in tick `t` (R52, R57 to R59): 0 the main lane. -/
def State.chosenLane (s : State) (b : Nat) (t : Tick) : Nat :=
  let within (k : Ctx) : Bool := Tick.le k.tb t && Tick.before t (k.tb + 64)
  let pick (c : Nat) (k : Ctx) (lane : Bool) : Nat :=
    let bound := if lane then k.boundB else k.boundA
    if !within k || (match bound with | some o => Tick.le o.tick t | none => false) then 0 else stageLane c lane
  let chosen (c : Nat) (k : Ctx) : Nat :=
    match k.res with
    | none => 0
    | some lane =>
      match (s.holders b (some (c, lane))).find? (fun i => Tick.le i.2.tb t) with
      | some (ci, ki) => match ki.res with | some li => pick ci ki li | none => 0
      | none => pick c k lane
  ((s.holders b none).map (fun i => chosen i.1 i.2)).foldl (fun a l => if a = 0 then l else a) 0

/-- The entries of a lane. -/
def LockLane.lane (k : LockLane) (lane : Nat) : List Entry := if lane = 0 then k.main else Store.read (fun _ => []) k.stage lane

def LockLane.setLane (k : LockLane) (lane : Nat) (l : List Entry) : LockLane :=
  if lane = 0 then { k with main := l } else { k with stage := Store.write (fun _ => []) k.stage lane l }

/-- The last tick an entry covers lies at `t` or before it. -/
def Entry.past (e : Entry) (t : Tick) : Bool :=
  match e.cover with
  | .sample _ => Tick.le e.first t
  | .idle n => Tick.le (e.first + BitVec.ofNat 48 (n - 1)) t
  | .openIdle => Tick.le e.first t

/-- The entry that covers tick `t` and was present by `t` − 2: the newest, since an open idle entry ends at the next (R31, R41). -/
def onTime (l : List Entry) (t : Tick) : Option Entry :=
  l.foldl (fun a e => if e.covers t && Tick.le (e.present + 2) t then some e else a) none

/-- A lead margin of lock lane `l` is measured (R36, R38, R39): the lock's and the device's minimum, and LM_LOW. -/
def State.margin (s : State) (l : Nat) (m : Int) : State :=
  let ℓ := lockOfLane l
  let s := (s.lower (LOCK_LM_MIN.MIN ℓ) m).lifeMargin ℓ m
  let s := if max (-32768) (min 32766 m) < s.getInt LM_DEV_MIN.MIN then (s.lower LM_DEV_MIN.MIN m).set LM_DEV_MIN.LOCK_ID ℓ else s
  let first := if ℓ < 128 then ℓ else 128 + 4 * (ℓ - 128)
  if 2 ≤ m ∧ m < s.noticeTh ∧ !(s.lockLane first).noticed then
    (s.raise Src.LM_LOW (slot ℓ ++ slotInt m)).modLockLane first (fun k => { k with noticed := true })
  else s

/-- LM_DEV_MIN_READ: the minimum is returned and cleared; LM_LOW may be raised again (R39). -/
def execLmDevMinRead (s : State) : Host.Outcome State Fault Refusal :=
  let w := s.rd R.LM_DEV_MIN
  let s := (s.set LM_DEV_MIN.MIN 0x7FFF).set LM_DEV_MIN.LOCK_ID 0xFF
  .next ((s.each (List.range 192) (fun s l => s.modLockLane l (fun k => { k with noticed := false }))).answer w)

/-- TPL_TICK_LO_READ. -/
def execTplTickLoRead (s : State) : Host.Outcome State Fault Refusal :=
  .next ((s.set TPL_TICK_HI.TICK_HI (s.tick.toNat / 2 ^ 32)).answer (s.tick.setWidth 32))

/-- LOCK_LATE_TICK_READ of lock ℓ. -/
def execLockLateTickRead (l : Fin 144) (s : State) : Host.Outcome State Fault Refusal :=
  .next ((s.latchHi (R.LOCK_LATE_TICK_LO l)).answer (s.rd (R.LOCK_LATE_TICK_LO l)))

/-! ## Late episodes (R41, R43, R44) -/

/-- Ends the late episode of a lane: LATE_BARGE with the worst margin missed. -/
def State.endEpisode (s : State) (l : Nat) : State :=
  let k := s.lockLane l
  match k.episode with
  | none => s
  | some ep =>
    let last := ep.first + BitVec.ofNat 48 (ep.count - 1)
    let meets (e : Entry) : Bool := Tick.le e.first last && (e.covers ep.first || Tick.le ep.first e.first) && Tick.le e.present last
    let missed := (k.missed.filter meets).map (fun e => (2 - Tick.diff e.present (Tick.max e.first ep.first)).toNat)
    let worst := match missed with | [] => 0xFFFF | ms => Nat.min 0xFFFE (ms.foldl Nat.max 0)
    let ℓ := lockOfLane l
    let s := s.setLockLane l { k with episode := none, missed := k.missed.filter (fun e => !e.past last) }
    s.raise Src.LATE_BARGE (slot ℓ ++ slotTick ep.first ++ slot ep.count ++ slot worst ++
      (if ℓ < 128 then [] else slot (berthOfLane l)))

/-- `n` ticks from `first` of lane `l` are zeroed, or lose their actions in OFF (R32, R41). -/
def State.lateTicks (s : State) (l : Nat) (first : Tick) (n : Nat) : State :=
  let ℓ := lockOfLane l
  let k := s.lockLane l
  let joins := match k.episode with | some ep => ep.first + BitVec.ofNat 48 ep.count == first | none => false
  let s := if joins then s else s.endEpisode l
  let s := s.modLockLane l (fun k => { k with episode := match k.episode with
    | some ep => some { ep with count := ep.count + n } | none => some { first := first, count := n } })
  let s := s.bump (LOCK_LATE_CNT.COUNT ℓ) n
  let s := s.when (!s.bit (LOCK_STAT.LATE ℓ)) (·.capture (R.LOCK_LATE_TICK_LO ℓ) first)
  let s := s.setBit (LOCK_STAT.LATE ℓ) true
  let s := s.when (decide (128 ≤ ℓ)) (fun s =>
    s.set (LOCK_STAT.LANE_LATE ℓ) (s.get (LOCK_STAT.LANE_LATE ℓ) ||| 2 ^ ((l - 128) % 4)))
  s.markPartial (berthOfLane l) cause.lateBarge

/-! ## Shots at the drive lock (R87, R90, R94) -/

/-- A shot opens in this tick; the first one after a takeover makes the berth's outputs live (R346). -/
def State.shotOpen (s : State) (b : Nat) (shot : Word) : State :=
  let s := s.modLedger b (fun g => { g with state := 2, inflight := shot, cause := 0, opening := none })
  let s := s.when (s.twinRole == 5) (fun s => { s with twWait := s.twWait &&& ~~~(1#64 <<< b) })
  s.acqShotOpen b shot

/-- The opening boundary of berth `b` that is due, with no shot in flight. -/
def State.openDue (s : State) (b : Nat) : State :=
  let g := s.ledger b
  match g.opening with
  | some (t, shot) => if (g.state = 0 ∨ g.state = 1 ∨ g.state = 4) ∧ Tick.le t s.tick then s.shotOpen b shot else s
  | none => s

/-- The shot in flight ends at the boundary of this tick: FULL, or PARTIAL with its cause; a shot that opened before the unmute
tick of a takeover ends ABANDONED (R346). -/
def State.shotClose (s : State) (b : Nat) : State :=
  let g := s.ledger b
  if !(g.state == 2 || g.state == 3) then s
  else
    let taken := (s.twinRole == 4 || s.twinRole == 5) && s.twWait.getLsbD b
    let status : BitVec 2 := if taken then 2 else if g.state = 3 then 1 else 0
    let g := g.finish g.inflight status (if taken then BitVec.ofNat 4 cause.takeover else g.cause)
      (if taken then s.pair R.TWIN_TAKE_TICK_LO else s.tick - 1)
    let g := if status = 0 then { g with full := g.full + 1 } else if status = 1 then { g with part := g.part + 1 }
      else { g with aband := g.aband + 1 }
    (s.setLedger b { g with state := 0 }).acqShotClose b

/-- A shot boundary is released, or applied late (R42): it closes the windows still open and the shot, and opens the next shot
unless the batch ends or the pilot is held. -/
def State.boundaryRelease (s : State) (b : Nat) (shot : Word) (last : Bool) : State :=
  let s := s.each [0, 1, 2, 3] (fun s p => s.closeWindow (4 * b + p) s.tick .boundary)
  let s := (s.shotClose b).calBoundary b
  -- the contexts whose chosen lane ended at this boundary (R59)
  let done (c : Nat) : Bool :=
    let k := s.ctx (2 * b + c)
    k.busy && (match k.res with
      | some lane => (match (if lane then k.boundB else k.boundA) with | some o => Tick.le o.tick s.tick | none => false)
      | none => false)
  let s := s.when (done 0 || done 1) (fun s =>
    s.each [0, 1] (fun s c => if done c || (s.ctx (2 * b + c)).busy && (match (s.ctx (2 * b + (1 - c))).outer with
      | some (oc, _) => oc == c && done (1 - c) | none => false) then s.freeCtx b c else s))
  let g := s.ledger b
  let next := shot + 1
  let held := match (s.pilot b).wait with | .held _ => (s.pilot b).shotId == next | _ => false
  if last ∨ g.cancel = some next then
    ((s.setLedger b { g with state := 0, cancel := none, ended := true }).setBit (PLT_CTRL.STOP_BND b) false).acqBatchEnd b
  else match g.opening with
    | some (t, id) => if Tick.before s.tick t then s.setLedger b { g with state := 1, inflight := id, cause := 0 } else s.shotOpen b id
    | none => if held then s.setLedger b { g with state := 4, inflight := next, cause := 0 } else s.shotOpen b next

/-- A stop reaches its tick X (R92): windows close, contexts go, the shot ends ABANDONED with last tick X − 1, the pilot is IDLE. -/
def State.stopDue (s : State) (b : Nat) : State :=
  match (s.ledger b).stopAt with
  | none => s
  | some (x, cz) =>
    if !Tick.le x s.tick then s
    else
      let s := s.each [0, 1, 2, 3] (fun s p => s.closeWindow (4 * b + p) x .stop)
      let lane := s.chosenLane b (x - 1)
      let s := s.each [0, 1, 2] (fun s p => s.finishPath b p lane x)
      let s := s.each [0, 1] (fun s c => if (s.ctx (2 * b + c)).cut.isSome then s.freeCtx b c else s)
      let s := (s.abandon b cz (x - 1)).modLedger b (fun g => { g with
        stopAt := none, ended := true,
        endCode := if cz = cause.stop then 2 else if cz = cause.pilotFault then 4 else if cz = cause.berthReset then 5
          else if cz = cause.chipReset then 6 else if cz = cause.takeover then 7 else g.endCode })
      let s := s.when (s.get (PLT_STAT.STATE b) == plt.stopped) (·.set (PLT_STAT.STATE b) plt.idle)
      s.acqBatchEnd b

/-! ## Actions (R29, R130) -/

/-- What a marker line change of berth `b` does to the pins that select it: kind 2 pilot lines, 3 segment-start lines. -/
def State.markLine (s : State) (kind b line : Nat) (ev : MrkEv) : State :=
  s.each (List.range 16) (fun s n =>
    if s.get (MRK_SEL.KIND n) = kind ∧ s.get (MRK_SEL.BERTH n) = b ∧ s.get (MRK_SEL.LINE n) = line then
      s.modMrkPin n (fun m => { m with due := m.due ++ [(s.tick + 4, ev)] })
    else s)

/-- An action is released. -/
def State.releaseAction (s : State) (b : Nat) (a : Action) : State :=
  match a with
  | .segStart m => s.each [0, 1, 2, 3] (fun s i => if m.getLsbD i then (s.pulse (4 * b + i)).markLine 3 b i .pulse else s)
  | .order (.measure close mask w) =>
    s.each [0, 1, 2, 3] (fun s p =>
      if !mask.getLsbD p then s
      else if close then s.closeWindow (4 * b + p) s.tick .mclose
      else s.openWindow (4 * b + p) w.toNat (s.ledger b).inflight)
  | .order (.biasSet c) => s.biasAction b c
  | .order (.marker m e) =>
    let s := s.each [0, 1, 2, 3] (fun s i => s.markLine 2 b i (.level (m.getLsbD i)))
    let s := s.setMrkLine b m
    s.each [0, 1] (fun s j => if e.getLsbD j then s.pulse (256 + 2 * b + j) else s)
  | .order (.shotBoundary shot last halt) => s.boundaryRelease b shot (last || halt)
  | .order _ => s

/-- An action is lost with its entry, in the tick in which the entry arrives (R42): a lost close ends its windows, a lost boundary
is applied now and its shot ends PARTIAL. -/
def State.loseAction (s : State) (b : Nat) (a : Action) : State :=
  match a with
  | .order (.measure true mask _) =>
    s.each [0, 1, 2, 3] (fun s p => if mask.getLsbD p then s.closeWindow (4 * b + p) s.tick .lost else s)
  | .order (.shotBoundary shot last halt) => (s.markPartial b cause.lostBoundary).boundaryRelease b shot (last || halt)
  | _ => s

/-! ## Arrival (R32, R41, R42) -/

/-- LOCK_ENTRY_ARRIVE: the oldest entry formed for lock lane `l` becomes present. -/
def execLockEntryArrive (l : Fin 192) (s : State) : Host.Outcome State Fault Refusal :=
  let k := s.lockLane l
  let b := berthOfLane l
  match k.formed with
  | [] => .next s
  | (lane, e) :: rest =>
    let e := { e with present := s.tick }
    let s := s.setLockLane l { k with formed := rest }
    let drive := decide (l.val < 64)
    let late := decide (Tick.diff s.tick e.first < 2)
    let chosen := s.chosenLane b e.first == lane
    let sample := match e.cover with | .sample _ => true | _ => false
    let lose (s : State) : State := s.when (drive && chosen) (fun s => e.acts.foldl (fun s a => s.loseAction b a) s)
    let put (s : State) (e : Entry) : State := s.modLockLane l (fun k => k.setLane lane (k.lane lane ++ [e]))
    match k.st with
    | .off =>
      -- only the actions of the entries matter, and the segment-start marks of a probe lock's (R129)
      if e.acts.isEmpty then .next s
      else if !late then .next (put s { e with cover := .sample [] })
      else if !drive || !chosen then .next s
      else
        let s := s.modLockLane l (fun k => { k with missed := k.missed ++ [e] })
        .next (lose (s.lateTicks l e.first 1))
    | st =>
      let opens := match e.cover with | .openIdle => true | _ => false
      -- the first entry moves the lock to RUN from its own tick, be that tick past (R32)
      let start := st == .idle && !opens
      let s := s.when start (fun s => (s.setLockSt l .run).modLockLane l (fun k => { k with since := Tick.max e.first (s.tick + 1) }))
      -- of a late first entry, the ticks up to this one are zeroed now
      let gone := (Tick.diff e.first (s.tick + 1)).toNat
      let s := s.when (start && late && chosen) (fun s =>
        s.modLockLane l (fun k => { k with missed := k.missed ++ [e] }) |>.when (decide (0 < gone)) (·.lateTicks l e.first gone))
      if !late then .next (put s e)
      else
        let s := s.when (chosen && !opens) (·.margin l (Tick.diff s.tick e.first))
        let s := s.when (chosen && !start) (fun s => s.modLockLane l (fun k => { k with missed := k.missed ++ [e] }))
        if sample then .next (lose s)
        else
          let from_ := s.tick + 2
          match e.cover with
          | .idle n =>
            let skip := (Tick.diff e.first from_).toNat
            if n ≤ skip then .next s else .next (put s { e with first := from_, cover := .idle (n - skip) })
          | _ => .next (if st == .idle then s else put s { e with first := from_ })

/-! ## Release (R15, R34, R41) -/

/-- What a lane contributes in a tick: its samples, whether a sample entry released them, saturation, and a margin below
LM_CFG.GOV_TH. -/
structure LaneOut where
  v : List Int
  sample : Bool
  sat : Bool
  below : Bool
  deriving DecidableEq, Repr

def LaneOut.zero : LaneOut := { v := [], sample := false, sat := false, below := false }

/-- Releases tick TICK of lock lane `l`. -/
def State.releaseLane (s : State) (l : Nat) : State × LaneOut :=
  let t := s.tick
  let b := berthOfLane l
  let stopped := match (s.lockLane l).idleAt with | some x => Tick.le x t | none => false
  let s := s.when stopped (fun s =>
    let s := (s.endEpisode l).modLockLane l (fun k => { k with idleAt := none })
    s.when ((s.lockLane l).st == .run) (·.setLockSt l .idle))
  let lane := s.chosenLane b t
  let k := s.lockLane l
  let e := onTime (k.lane lane) t
  let acts (s : State) : State :=
    match e with
    | some e => if e.first = t then e.acts.foldl (fun s a => s.releaseAction b a) s else s
    | none => s
  let ended (s : State) : State :=
    match (s.lockLane l).episode with
    | some ep => if Tick.le (ep.first + BitVec.ofNat 48 ep.count) t then s.endEpisode l else s
    | none => s
  let clean (s : State) : State := s.modLockLane l (fun k => { k with
    main := k.main.filter (fun e => !e.past t),
    stage := (k.stage.map (fun p => (p.1, p.2.filter (fun e => !e.past t)))).filter (fun p => !p.2.isEmpty),
    missed := if k.episode.isSome then k.missed else k.missed.filter (fun e => !e.past t) })
  match k.st with
  | .off => (clean (acts (ended s)), .zero)
  | .idle => (clean (acts (ended s)), .zero)
  | .run =>
    if Tick.before t k.since then (clean (ended s), .zero)
    else match e with
      | none => (clean (s.lateTicks l t 1), { LaneOut.zero with below := true })
      | some e =>
        let m := Tick.diff e.present t
        let s := (ended s).margin l m
        let below := decide (m < s.govTh)
        match e.cover with
        | .sample v => (clean (acts s), { v := v, sample := true, sat := e.sat, below := below })
        | .idle _ => (clean (acts s), { LaneOut.zero with below := below })
        | .openIdle =>
          -- IDLE until the next entry's tick
          match (k.lane lane).find? (fun x => Tick.before t x.first) with
          | some x => (clean (s.modLockLane l (fun k => { k with since := x.first })), { LaneOut.zero with below := below })
          | none => (clean (s.setLockSt l .idle), { LaneOut.zero with below := below })

/-- The fast outputs are muted until READY, in every power state below ACTIVE and in a SHUTDOWN (R376, R381, R414). -/
def State.outMuted (s : State) : Bool :=
  s.get BOOT_STAT.STAGE != 8 || s.get PWR_STAT.STATE != 0 || s.sys.shutStep != 0

/-- The drive and probe outputs and flux pulse path of berth `b` are muted, also by the twin's role (R337, R341, R346). -/
def State.twinMuted (s : State) (b : Nat) : Bool :=
  let r := s.twinRole
  s.outMuted || !(r == 0 || r == 5) || (r == 5 && s.twWait.getLsbD b)

/-- The ticks in which tones play zero for want of data are released (R125, R134, R136): in the lane chosen they count, and mark the
shot in flight. -/
def State.releaseMuted (s : State) (b : Nat) : State :=
  let due := (s.muted b).filter (fun m => Tick.le m.tick s.tick)
  if due.isEmpty then s
  else
    let s := s.modMuted b (·.filter (fun m => !Tick.le m.tick s.tick))
    s.each due (fun s m =>
      if s.chosenLane b m.tick = m.lane then
        (s.when m.counts (·.bump (SYN_UNDER_CNT.COUNT b))).markPartial b cause.underrun
      else s)

/-- The drive lock of berth `b`. -/
def State.releaseDrive (s : State) (b : Nat) : State :=
  let s := (s.stopDue b).openDue b
  let (s, o) := s.releaseLane (laneDrive b)
  let s := (s.openDue b).releaseMuted b
  let s := s.when (o.sat) (fun s => (s.setBit (DRV_STAT.SAT b) true).bump (DRV_SAT_CNT.COUNT b))
  let live := !s.twinMuted b
  let s := s.when (o.sample && live) (·.setBit (DRV_CFG.SW_CLOSED b) true)
  (s.setOutPin b (if live && s.bit (DRV_CFG.SW_CLOSED b) && o.v.any (· != 0) then o.v else [])).monitor b o.below

/-- The flux pulse lock of berth `b`, and the output stage five ticks on (R161, R163). -/
def State.releaseFlux (s : State) (b : Nat) : State :=
  let (s, o) := s.releaseLane (laneFlux b)
  let p : Int := if s.twinMuted b then 0 else o.v.headD 0
  let clamped := s.bit (FLX_CFG.CLAMPED b)
  let s := s.when (clamped && p != 0) (·.setBit (FLX_STAT.PULSE_CLAMPED b) true)
  let f := s.fluxLine b
  let sum := (f.stageAt (s.tick + 5)).toInt + p
  let s := s.when (!clamped && satFlag 18 sum) (fun s => (s.setBit (FLX_STAT.OVR b) true).bump (FLX_OVR_CNT.COUNT b))
  let s := s.setFluxLine b { f with pulse := BitVec.ofInt 18 p }
  (s.setOutPin (64 + b) (if clamped || p == 0 then [] else [p])).monitor (64 + b) o.below

/-- The probe lock of PRB[n]: four berth lanes added, saturated to 18 bits and rounded to 14 (R34, R144). -/
def State.releaseProbe (s : State) (n : Nat) : State :=
  let (s, os) := (List.range 4).foldl (fun (acc : State × List LaneOut) i =>
    let (s, o) := acc.1.releaseLane (laneProbe (4 * n + i))
    (s, acc.2 ++ [if s.twinMuted (4 * n + i) then { o with v := [], sample := false } else o])) (s, [])
  let sum := os.foldl (fun acc o => addSamples acc o.v) []
  let r := sum.map (fun x => roundShift (satInt 18 x) 4)
  let sat := os.any (·.sat) || sum.any (satFlag 18) || r.any (satFlag 14)
  let s := s.when sat (fun s => (s.setBit (PRB_STAT.SAT n) true).bump (PRB_SAT_CNT.COUNT n))
  let s := s.when (os.any (·.sample)) (·.setBit (PRB_CFG.SW_CLOSED n) true)
  let v := if s.outMuted then [] else r.map (satInt 14)
  (s.setOutPin (128 + n) (if v.any (· != 0) then v else [])).monitor (128 + n) (os.any (·.below))

/-- BARGE_RELEASE: lock `l` releases tick TICK. -/
def execBargeRelease (l : Fin 144) (s : State) : Host.Outcome State Fault Refusal :=
  .next (if l.val < 64 then s.releaseDrive l else if l.val < 128 then s.releaseFlux (l - 64) else s.releaseProbe (l - 128))

/-! ## Marker pins (R130) -/

/-- What pin `n` shows. -/
def MrkPin.level (m : MrkPin) : Bool :=
  let raw := match fieldOf m.sel 0 2 with
    | 0 => false
    | 1 => true
    | 2 => m.line
    | _ => m.pulseEnd.isSome
  raw != m.sel.getLsbD 10

/-- MRK_PIN_UPDATE: what is due at the pin by this tick takes effect. -/
def execMrkPinUpdate (n : Fin 16) (s : State) : Host.Outcome State Fault Refusal :=
  let m := s.mrkPin n
  let due := m.due.filter (fun d => Tick.le d.1 s.tick)
  let m := { m with due := m.due.filter (fun d => !Tick.le d.1 s.tick) }
  .next (s.setMrkPin n (due.foldl (fun m d => match d.2 with
    | .level v => { m with line := v }
    | .pulse => { m with pulseEnd := some (d.1 + BitVec.ofNat 48 (Nat.max 1 (fieldOf m.sel 16 8))) }
    | .sel w v => { m with sel := w, line := v, pulseEnd := none }) m))

/-- MRK_PULSE_END. -/
def execMrkPulseEnd (n : Fin 16) (s : State) : Host.Outcome State Fault Refusal :=
  .next (s.modMrkPin n (fun m => match m.pulseEnd with
    | some t => if Tick.le t s.tick then { m with pulseEnd := none } else m
    | none => m))

/-- MRK_SEL_WRITE: the pin shows the newly selected line, with the new INV, 4 ticks later. -/
def execMrkSelWrite (n : Fin 16) (w : Word) (s : State) : Host.Outcome State Fault Refusal :=
  let w := w &&& 0x00FF07FF
  let s := s.wr (R.MRK_SEL n) w
  let line := (s.mrkLine (fieldOf w 2 6)).getLsbD (fieldOf w 8 2)
  .next (s.modMrkPin n (fun m => { m with due := m.due ++ [(s.tick + 4, .sel w line)] }))

/-! ## The bias strobe -/

/-- BIAS_STROBE: at a strobe tick of line `b` no park holds, the bias DAC steps or jumps towards its target and the clamp opens or
closes; a forced switching step of its converter takes place. A standby twin's line follows the codes of BIAS flits only
(R343). -/
def execBiasStrobe (b : Fin 64) (s : State) : Host.Outcome State Fault Refusal :=
  if !s.strobeTick b then .next s
  else
    let s := if s.twinRole = 3 then s.biasTrack b else s.when ((s.fluxLine b).park.isNone) (·.biasStrobe b)
    .next (s.calStrobe b)

end Sys2Proof.Machine
end

