-- ==== Sys2Proof/Machine/Time.lean ====
section
/-! DEFINITION. System time (R324 to R334): TIME and the raw count, exchanges with the parent, the servo of normal mode, free-run
and the switches between them, holdover, and the wrap. Offsets and trims are in 0.25 ps steps. -/

namespace Sys2Proof.Machine

/-- INC of R324. -/
def timeInc : BitVec 64 := 0x0AAAAAAAB

/-- A device of dimensions 1 × 1 × 1. -/
def State.singleDevice (s : State) : Bool := s.get MESH_CFG.NXM1 == 0 && s.get MESH_CFG.NYM1 == 0 && s.get MESH_CFG.NZM1 == 0

/-- Always in normal mode: the master, and the device of a single-device system (R330). -/
def State.timeFixed (s : State) : Bool := s.bit TIME_CFG.MASTER || s.singleDevice

/-- The device is in normal mode. -/
def State.timeNormal (s : State) : Bool := s.timeFixed || s.time.normal

/-- OFF and RATE of R330. -/
def State.timeOff (s : State) : BitVec 64 := s.rd R.TIME_OFF_NS ++ s.rd R.TIME_OFF_FRAC
def State.setTimeOff (s : State) (v : BitVec 64) : State :=
  (s.wr R.TIME_OFF_NS (v.extractLsb' 32 32)).wr R.TIME_OFF_FRAC (v.setWidth 32)

/-- Corrected TIME of a raw count: C itself in normal mode, C + OFF + ((C − C₀) × RATE) / 2^40 in free-run (R330). -/
def State.timeOf (s : State) (c : BitVec 64) : BitVec 64 :=
  if s.timeNormal then c
  else c + s.timeOff + BitVec.ofInt 64 (((c - s.time.c0).toInt * (s.rd R.TIME_RATE).toInt) / 2 ^ 40)

/-- TIME, and TIME_NS. -/
def State.timeNow (s : State) : BitVec 64 := s.timeOf s.time.c
def State.timeNs (s : State) : Word := s.timeNow.extractLsb' 32 32

/-- Ticks from stamp `a` to stamp `b` in units of 2^-16 tick, signed (R325). -/
def stampDiff (a b : BitVec 56) : Int := (b - a).toInt

/-- The raw count at the instant of a tick stamp. -/
def State.countAt (s : State) (t : BitVec 56) : BitVec 64 :=
  s.time.c + BitVec.ofInt 64 (stampDiff (s.tick.setWidth 40 ++ (0 : BitVec 16)) t * timeInc.toNat / 65536)

/-- What the neighbour on port `p` last advertised. -/
def TimeSt.nb (t : TimeSt) (p : Nat) : TimeNb := Store.read (fun _ => ⟨31, false, false⟩) t.nbs p
def TimeSt.setNb (t : TimeSt) (p : Nat) (n : TimeNb) : TimeSt :=
  { t with nbs := Store.write (fun _ => ⟨31, false, false⟩) t.nbs p n }

/-- A port carries time frames: UP, and for a mesh port past the topology check (R310, R323). -/
def State.timePort (s : State) (p : Nat) : Bool :=
  s.bit (PORT_STAT.UP p) && (p == 7 || p < 6 && ((s.get MESH_STAT.USE).testBit p || (s.get MESH_STAT.HOLD).testBit p))

/-- The parent by R328: for a standby twin or one being copied the TW port ahead of every mesh port (R339), else the in-use
neighbour with the lowest HOPS below 31, the lowest port on a tie. -/
def State.timeChoice (s : State) : Option Nat :=
  if s.timeFixed && s.bit TIME_CFG.MASTER then none
  else if (s.twinRole == 2 || s.twinRole == 3) && s.bit (PORT_STAT.UP 7) && (s.time.nb 7).hops ≠ 31 then some 7
  else (List.range 6).foldl (fun best p =>
    let h := (s.time.nb p).hops
    if !(s.get MESH_STAT.USE).testBit p || h == 31 then best
    else match best with
      | some q => if h.ult (s.time.nb q).hops then some p else best
      | none => some p) none

/-- MODE, PARENT and HOPS of TIME_STAT. -/
def State.showTime (s : State) : State :=
  let hops := if s.bit TIME_CFG.MASTER then 0
    else match s.time.parent with | some p => Nat.min 31 ((s.time.nb p).hops.toNat + 1) | none => 31
  ((s.setBit TIME_STAT.MODE s.timeNormal).set TIME_STAT.PARENT (s.time.parent.getD 7)).set TIME_STAT.HOPS hops

/-- The parent is lost, or advertises 31 (R328): holdover. -/
def State.timeLose (s : State) : State :=
  if s.time.parent.isNone then s
  else ((({ s with time := { s.time with parent := none, waiting := none } }.setBit TIME_STAT.HOLDOVER true).raise
    Src.TIME_HOLDOVER []).showTime)

/-- Free-run mode (R332): TICK, C and the trim keep their values, OFF and RATE start from zero. -/
def State.timeUnlock (s : State) : State :=
  if s.timeFixed || !s.time.normal then s
  else
    let s := { s with time := { s.time with
      normal := false, c0 := s.time.c, last := none, good := 0, bad := 0, far := 0, hist := [], reload := none } }
    let s := ((s.setTimeOff 0).wr R.TIME_RATE 0).setBit TIME_STAT.LOCKED false
    (s.raise Src.TIME_UNLOCK []).showTime

/-! ## Exchanges (R325 to R328) -/

/-- A TIME control block of this device (R325). -/
def State.timeBlock (s : State) (kind : Bool) (seq : BitVec 8) : BitVec 64 :=
  BitVec.ofNat 64 (0x55 + flagNat kind * 2 ^ 8 + seq.toNat * 2 ^ 9 + s.get TIME_STAT.HOPS * 2 ^ 17
    + flagNat s.timeNormal * 2 ^ 22 + flagNat (s.bit TIME_CFG.MASTER || s.bit TIME_STAT.LOCKED) * 2 ^ 23)

/-- A TDATA flit (R325): number, SEQ [1:0] and 56 bits of content. -/
def timeData (n : Nat) (seq : BitVec 8) (content : BitVec 56) : BitVec 64 :=
  content ++ (seq.setWidth 2 ++ BitVec.ofNat 2 n ++ (7 : BitVec 4))

/-- TIME at a stamp, as TDATA 2 carries it: NS, and FRAC [31:8]. -/
def State.timeContent (s : State) (t : BitVec 56) : BitVec 56 := (s.timeOf (s.countAt t)).extractLsb' 8 56

/-- What a received TIME block says of the neighbour. -/
def State.timeHear (s : State) (p : Nat) (block : BitVec 64) : State :=
  { s with time := s.time.setNb p ⟨block.extractLsb' 17 5, block.getLsbD 22, block.getLsbD 23⟩ }

/-- TIME_EXCHANGE: 64 µs after the last REQ a child sends one to its parent, stamped `t1`. A device that knows of no parent may ask
any port that carries time frames: what a neighbour advertises is heard in no other way. -/
def execTimeExchange (p : Fin 8) (t1 : BitVec 56) (s : State) : Host.Outcome State Fault Refusal :=
  let due := match s.time.lastReq with | some t => decide (96000 ≤ Tick.diff t s.tick) | none => true
  let choice := s.timeChoice
  let ok := match choice with | some q => q == p.val | none => s.timePort p
  if !due || !ok || s.bit TIME_CFG.MASTER then .next s
  else
    let s := { s with time := { s.time with parent := choice } }.showTime
    let seq := s.time.seq + 1
    let f : TimeFrame := { port := p, block := s.timeBlock false seq, data1 := timeData 1 seq t1,
                           data2 := timeData 2 seq (s.timeContent t1), data3 := 0 }
    .next { s with time := { s.time with seq := seq, waiting := some (seq, p.val, t1), lastReq := some s.tick, sent := some f } }

/-- TIME_REQ_RECEIVE: the REQ is stamped `t2` on arrival and answered with a RESP stamped `t3`. -/
def execTimeReqReceive (p : Fin 8) (block : BitVec 64) (t2 t3 : BitVec 56) (s : State) : Host.Outcome State Fault Refusal :=
  if !s.timePort p || block.setWidth 9 ≠ 0x055 then .next s
  else
    let s := s.timeHear p block
    let seq := block.extractLsb' 9 8
    let f : TimeFrame := { port := p, block := s.timeBlock true seq, data1 := timeData 1 seq t3,
                           data2 := timeData 2 seq (s.timeContent t3), data3 := timeData 3 seq t2 }
    .next { s with time := { s.time with sent := some f } }

/-! ## The servo (R327, R329 to R332) -/

/-- Half of a sum of two stamp differences, in 0.25 ps steps, rounded half up. -/
def quarterPs (sum : Int) : Int := (sum * 8000 * 2 + 393216) / (2 * 393216)

/-- The change of the trim for offset `e` and integral `i`: −(2^-KPS e + 2^-KIS I), rounded half up, limited to SLEW steps. -/
def State.trimChange (s : State) (e i : Int) : Int :=
  let kp := s.get TIME_CFG.KPS
  let ki := s.get TIME_CFG.KIS
  let den : Int := 2 ^ (kp + ki)
  let x := (-(e * 2 ^ ki + i * 2 ^ kp) * 2 + den) / (2 * den)
  let lim : Int := (Nat.max 1 (s.get TIME_CFG.SLEW) : Nat)
  max (-lim) (min lim x)

/-- One exchange of a device in normal mode: the trim, the lock state, and the ways out of the mode. -/
def State.timeServo (s : State) (e : Int) : State :=
  let i := s.time.integral + e
  let trim := s.getInt TIME_TRIM.TRIM
  let want := trim + s.trimChange e i
  let held := decide (2667 < want) || decide (want < -2667)
  let s := s.set TIME_TRIM.TRIM (BitVec.ofInt 13 (max (-2667) (min 2667 want))).toNat
  let t := s.time
  let s := { s with time := { t with
    integral := i, good := if e.natAbs ≤ 80 then t.good + 1 else 0, bad := if 400 < e.natAbs then t.bad + 1 else 0,
    far := if 1600 < e.natAbs then t.far + 1 else 0 } }
  let s := s.when (decide (16 ≤ s.time.good)) (·.setBit TIME_STAT.LOCKED true)
  let s := s.when (decide (4 ≤ s.time.bad)) (·.setBit TIME_STAT.LOCKED false)
  s.when (decide (4 ≤ s.time.far) || held && (trim == 2667 || trim == -2667)) (·.timeUnlock)

/-- One exchange of a device in free-run mode (R330): OFF makes the corrected TIME equal the parent's, RATE takes 1/16 of the rate
implied by the last two offsets while FREQ_EN is 1, and C₀ becomes C. -/
def State.timeFree (s : State) (parent : BitVec 64) (t4 : BitVec 56) : State :=
  let off := parent - s.countAt t4
  let step := match s.time.last with
    | some (o, c) =>
      let dc := (s.time.c - c).toInt
      if s.bit TIME_CFG.FREQ_EN && dc ≠ 0 then ((off - o).toInt * 2 ^ 40) / (dc * 16) else 0
    | none => 0
  let rate := (s.rd R.TIME_RATE) + BitVec.ofInt 32 step
  let s := { s with time := { s.time with c0 := s.time.c, last := some (off, s.time.c) } }
  (s.setTimeOff off).wr R.TIME_RATE rate

/-- The conditions of R331 but the last: the parent NORMAL and LOCKED, and 16 exchanges within 100 ps of each other. -/
def State.timeAgreed (s : State) : Bool :=
  let h := s.time.hist
  let wanted := s.bit TIME_CTRL.NORMAL || s.bit TIME_CFG.AUTO
  wanted && !s.timeNormal && h.length == 16 &&
    decide (h.foldl max (h.headD 0) - h.foldl min (h.headD 0) ≤ 400) &&
    (match s.time.parent with | some p => let n := s.time.nb p; n.normal && n.locked | none => false)

/-- The last condition: TICK is to step only while nothing runs. -/
def State.timeQuiet (s : State) : Bool :=
  s.time.ticks == 0 ||
  (List.range 64).all (fun b => s.pltIdle b) && (List.range 144).all (fun ℓ => s.get (LOCK_STAT.STATE ℓ) != 2) &&
  (List.range 16).all (fun n => !s.acqBusy n)

/-- STEP_WAIT (R331). -/
def State.showStep (s : State) : State := s.setBit TIME_STAT.STEP_WAIT (s.timeAgreed && !s.timeQuiet)

/-- TIME_RESP_RECEIVE: the child has the four stamps of its exchange, and the parent's TIME at `t3`. -/
def execTimeRespReceive (p : Fin 8) (block : BitVec 64) (t3 : BitVec 56) (ns : Word) (frac : BitVec 24) (t2 t4 : BitVec 56)
    (s : State) : Host.Outcome State Fault Refusal :=
  match s.time.waiting with
  | none => .next s
  | some (seq, q, t1) =>
    if q ≠ p.val || !s.timePort p || block.setWidth 9 ≠ 0x155 || block.extractLsb' 9 8 ≠ seq then .next s
    else
      let s := s.timeHear p block
      let s := { s with time := { s.time with waiting := none } }
      if (s.time.nb p).hops == 31 then .next (if s.time.parent = some p.val then s.timeLose else s)
      else if s.time.parent ≠ some p.val then .next s.showTime
      else
        let s := s.setBit TIME_STAT.HOLDOVER false
        let out := stampDiff t1 t2
        let back := stampDiff t3 t4
        let delay := out + back
        let sum := back - out
        let whole := (sum + 65536) / 131072
        let asym := if p.val < 6 then s.getInt (MESH_PASYM.ASYM p) * 4 else 0
        let e := quarterPs (sum - whole * 131072) + asym
        let s := s.when (decide (p.val < 6)) (·.set (MESH_PHOP.DLY p) (Nat.min 65535 ((delay * 2000 * 2 + 393216) / (2 * 393216)).toNat))
        let s := s.set TIME_ERR.E (BitVec.ofInt 20 (max (-524288) (min 524287 e))).toNat
        let s := { s with time := { s.time with
          ticks := -whole, phase := e, hist := ((quarterPs sum + asym) :: s.time.hist).take 16 } }
        -- the parent's TIME at the instant of t4
        let parent : BitVec 64 := (ns ++ frac ++ (0 : BitVec 8)) + BitVec.ofInt 64 (delay * timeInc.toNat / 131072)
        let s := if s.timeNormal then
            if whole ≠ 0 then s.timeUnlock
            else
              let diff := (parent - s.countAt t4)
              let s := s.timeServo e
              s.when (s.timeNormal && decide (2 ^ 32 < diff.toInt.natAbs)) (fun s =>
                { s with time := { s.time with reload := some diff } })
          else s.timeFree parent t4
        .next s.showStep.showTime

/-- EXCHANGE_TIMEOUT: no RESP within 16 µs; the parent is lost if its port no longer serves. -/
def execExchangeTimeout (s : State) : Host.Outcome State Fault Refusal :=
  match s.time.waiting, s.time.lastReq with
  | some (_, p, _), some t =>
    if Tick.diff t s.tick < 24000 then .next s
    else
      let s := { s with time := { s.time with waiting := none } }.bump TIME_EXCH_CNT.COUNT
      .next (s.when (s.time.parent == some p && !s.timePort p) (·.timeLose))
  | _, _ => .next s

/-- TIME_PARENT_RELOAD: the reload of R329 takes place. -/
def execTimeParentReload (s : State) : Host.Outcome State Fault Refusal :=
  match s.time.reload with
  | some d =>
    if s.tick.toNat % 4096 ≠ 0 then .next s
    else .next { s with time := { s.time with c := s.time.c + d, reload := none } }
  | none => .next s

/-- TIME_NORMAL_SWITCH: in tick TS the device adds D to TICK, loads C with the corrected TIME, sets the trim to the remaining
phase (positive is earlier, so a child that lags by it trims up) and clears OFF and RATE (R331). -/
def execTimeNormalSwitch (s : State) : Host.Outcome State Fault Refusal :=
  let s := s.showStep
  if !s.timeAgreed || !s.timeQuiet || s.tick.toNat % 4096 ≠ 0 then .next s
  else
    let d := s.time.ticks
    let s := { s with
      tick := s.tick + BitVec.ofInt 48 d,
      time := { s.time with normal := true, c := s.timeNow, good := 0, bad := 0, far := 0, hist := [], last := none, ticks := 0 } }
    let s := s.set TIME_TRIM.TRIM (BitVec.ofInt 13 (max (-2667) (min 2667 (-s.time.phase)))).toNat
    let s := ((s.setTimeOff 0).wr R.TIME_RATE 0).setBit TIME_CTRL.NORMAL false
    .next (s.setBit TIME_STAT.STEP_WAIT false).showTime

def execTimeNormalRequest (s : State) : Host.Outcome State Fault Refusal :=
  .next (if s.timeNormal then s else (s.setBit TIME_CTRL.NORMAL true).showStep)

def execTimeFree (s : State) : Host.Outcome State Fault Refusal := .next (s.setBit TIME_CTRL.FREE true).timeUnlock

/-- TIME_SET: only the master takes it; TIME is loaded in the next tick (see `step`). -/
def execTimeSet (s : State) : Host.Outcome State Fault Refusal :=
  .next (if s.bit TIME_CFG.MASTER then s.setBit TIME_CTRL.SET true else s)

/-! ## Reading and the wrap -/

def execTimeNsRead (s : State) : Host.Outcome State Fault Refusal :=
  let t := s.timeNow
  let s := (s.wr R.TIME_NS (t.extractLsb' 32 32)).wr R.TIME_FRAC (t.setWidth 32)
  let s := s.setPair R.TIME_TICK_LO s.tick
  let s := (s.wr R.TIME_RAW_NS (s.time.c.extractLsb' 32 32)).wr R.TIME_RAW_FRAC (s.time.c.setWidth 32)
  .next (s.answer (t.extractLsb' 32 32))

/-- TIME_WRAP: TIME_NS has passed from 0xFFFF_FFFF to 0 since the last tick, or in free-run since the last whole microsecond. -/
def execTimeWrap (s : State) : Host.Outcome State Fault Refusal :=
  let now := s.timeNs
  let before : Word := if s.timeNormal then (s.time.c - timeInc).extractLsb' 32 32 else s.time.usNs
  let due := s.timeNormal || s.tick.toNat % 1500 == 0
  if due && before.msb && !now.msb && !s.time.wrapDone then
    .next ({ s with time := { s.time with wrapDone := true } }.pulse 392)
  else .next s

/-- What one tick does to TIME (R324, R330): C adds INC, or takes TIME_SET in the tick after SET. -/
def State.timeTick (s : State) : State :=
  let now := s.timeNs
  let t := s.time
  let c := if s.bit TIME_CTRL.SET && s.bit TIME_CFG.MASTER then s.rd R.TIME_SET_NS ++ s.rd R.TIME_SET_FRAC else t.c + timeInc
  let s := { s with time := { t with
    c := c, usNs := if s.tick.toNat % 1500 = 0 then now else t.usNs, wrapDone := t.wrapDone && !now.msb } }
  ((s.setBit TIME_CTRL.SET false).setBit TIME_CTRL.FREE false).showTime

end Sys2Proof.Machine
end

