-- ==== Sys2Proof/Machine/Mesh.lean ====
section
/-! DEFINITION. The decision mesh (R309 to R319, R322, R323): topology, routing, port queues, decision flits and group flits, and a
neighbour lost and regained. -/

namespace Sys2Proof.Machine

/-! ## Addresses (R309) -/

/-- This device's address, its coordinate and the size of dimension `d` (0 X, 1 Y, 2 Z). -/
def State.meshAddr (s : State) : BitVec 12 := BitVec.ofNat 12 (s.get MESH_CFG.ADDR)
def coordOf (a : BitVec 12) (d : Nat) : Nat := (a.toNat / 16 ^ d) % 16
def State.meshDim (s : State) (d : Nat) : Nat :=
  1 + (if d = 0 then s.get MESH_CFG.NXM1 else if d = 1 then s.get MESH_CFG.NYM1 else s.get MESH_CFG.NZM1)

/-- Port `p` is in use. -/
def State.meshUse (s : State) (p : Nat) : Bool := (s.get MESH_STAT.USE).testBit p

/-- Sets bit `p` of a six-bit field of MESH_STAT. -/
def State.meshBit (s : State) (f : Rf) (p : Nat) (b : Bool) : State :=
  let v := s.get f
  s.set f (if b then v ||| 2 ^ p else v &&& (0x3F - 2 ^ p))

/-- The device and port expected at the far end of port `p` (R310): towards P the next device in the dimension, through its N
port; towards N the previous one, through its P port. -/
def State.meshExpected (s : State) (p : Nat) : BitVec 12 × Nat :=
  let d := p / 2
  let n := s.meshDim d
  let x := coordOf s.meshAddr d
  let y := if p % 2 = 0 then (x + 1) % n else (x + n - 1) % n
  (BitVec.ofNat 12 (s.meshAddr.toNat + y * 16 ^ d - x * 16 ^ d), p ^^^ 1)

/-! ## Routing (R311, R312) -/

/-- The outgoing port for a destination, and the RA bit the flit then carries; `none` where it is dropped. `came` is the port a
flit with RA set came in on. -/
def State.meshRoute (s : State) (dst : BitVec 12) (ra : Bool) (came : Option Nat) : Option (Nat × Bool) :=
  if [0, 1, 2].any (fun d => decide (s.meshDim d ≤ coordOf dst d)) then none
  else
    let keep := match came with
      | some q => if ra && coordOf dst (q / 2) ≠ coordOf s.meshAddr (q / 2) then some (q ^^^ 1) else none
      | none => none
    match keep with
    | some p => if s.meshUse p then some (p, true) else none
    | none =>
      match [0, 1, 2].find? (fun d => coordOf dst d ≠ coordOf s.meshAddr d) with
      | none => none
      | some d =>
        let n := s.meshDim d
        let dist := (coordOf dst d + n - coordOf s.meshAddr d) % n
        let p := 2 * d + (if dist ≤ n - dist then 0 else 1)
        if s.meshUse p then some (p, false)
        else if s.bit (MESH_RA.DROP p) then none
        else if s.meshUse (p ^^^ 1) then some (p ^^^ 1, true) else none

/-- A flit dropped for want of a route. -/
def State.meshUnreach (s : State) : State := (s.bump MESH_UNREACH_CNT.COUNT).raise Src.MESH_UNREACH []

/-! ## Port queues (R316, R317) -/

/-- Fields of a flit word. -/
def flit.type (w : BitVec 64) : Nat := (w.extractLsb' 0 4).toNat
def flit.ra (w : BitVec 64) : Bool := w.getLsbD 7
def flit.dst (w : BitVec 64) : BitVec 12 := w.extractLsb' 8 12
def flit.ttl (w : BitVec 64) : Nat := (w.extractLsb' 20 5).toNat

/-- A word with `len` bits from `lo` replaced. -/
def putBits (w : BitVec 64) (lo len v : Nat) : BitVec 64 :=
  let m : BitVec 64 := BitVec.ofNat 64 ((2 ^ len - 1) <<< lo)
  (w &&& ~~~m) ||| (BitVec.ofNat 64 (v <<< lo) &&& m)

/-- A decision flit is of class 2, a group flit of class 1 (R313). -/
def Flit.second (f : Flit) : Bool := flit.type f.word == 1

/-- The order of a port queue: class 1 first, then by the tick of joining, then ports XP to ZN, then local flits. -/
def Flit.le (x y : Flit) : Bool :=
  if x.second != y.second then y.second
  else if x.joined ≠ y.joined then Tick.before x.joined y.joined
  else decide (x.origin ≤ y.origin)

/-- MESH_PQ of port `p`. -/
def State.showQueue (s : State) (p : Nat) : State :=
  let n := (s.meshPort p).queue.length
  (s.set (MESH_PQ.OCC p) n).set (MESH_PQ.MAX p) (Nat.max n (s.get (MESH_PQ.MAX p)))

/-- A flit joins the queue of port `p`. A decision that finds 64 flits there is discarded, told once a run (R317). -/
def State.meshJoin (s : State) (p : Nat) (f : Flit) : State :=
  let q := s.meshPort p
  let l := insertBy Flit.le f q.queue
  if f.second ∧ 64 < l.length then
    let s := (s.bump (MESH_PDROP_CNT.COUNT p)).when (!q.dropRun) (·.raise Src.MESH_DROP [])
    (s.setMeshPort p { q with queue := l.dropLast, dropRun := true }).showQueue p
  else (s.setMeshPort p { q with queue := l, dropRun := q.dropRun && !f.second }).showQueue p

/-- A decision flit goes on towards its destination from tick `j`. -/
def State.meshForward (s : State) (w : BitVec 64) (came : Option Nat) (j : Tick) : State :=
  match s.meshRoute (flit.dst w) (flit.ra w) came with
  | some (p, ra) => s.meshJoin p { word := putBits w 7 1 (flagNat ra), joined := j, origin := came.getD 6 }
  | none => s.meshUnreach

/-! ## Group flits (R318, R319) -/

/-- Starts a copy of a group flit in one direction of dimension `d` with `left` hops to take: through the opposite port with n − 1
hops where the tree port is out of use. -/
def State.treeSend (s : State) (w : BitVec 64) (d dir left : Nat) (origin : Nat) (j : Tick) : State :=
  if left = 0 then s
  else
    let put (s : State) (dir left : Nat) : State :=
      s.meshJoin (2 * d + dir) { word := putBits (putBits (putBits w 27 2 d) 29 1 dir) 30 4 left, joined := j, origin := origin }
    if s.meshUse (2 * d + dir) then put s dir left
    else if s.meshUse (2 * d + (1 - dir)) then put s (1 - dir) (s.meshDim d - 1)
    else s.meshUnreach

/-- Starts stages `from_` to Z of a group flit on this device. -/
def State.treeStages (s : State) (w : BitVec 64) (from_ : Nat) (origin : Nat) (j : Tick) : State :=
  s.each ([0, 1, 2].filter (fun d => decide (from_ ≤ d))) (fun s d =>
    let n := s.meshDim d
    (s.treeSend w d 0 (n / 2) origin j).treeSend w d 1 ((n + 1) / 2 - 1) origin j)

/-- The group flits made on this device whose tick has come join their queues; only a SOLO or ACTIVE device forms them (R341). -/
def State.groupFlits (s : State) : State :=
  let due := s.flitsOut.filter (fun f => Tick.le f.2 s.tick)
  let s := { s with flitsOut := s.flitsOut.filter (fun f => !Tick.le f.2 s.tick) }
  if s.acqHeld then s
  else s.each due (fun s f =>
    let (type, g, t) : Nat × BitVec 8 × Tick := match f.1 with | .arm g t => (2, g, t) | .fire g t => (3, g, t)
    let w := BitVec.ofNat 64 (type + g.toNat * 2 ^ 7 + s.meshAddr.toNat * 2 ^ 15 + t.toNat % 2 ^ 28 * 2 ^ 34)
    s.treeStages w 0 6 f.2)

/-- FLIT_SEND: port `p` starts the first flit of its queue that joined before this tick, at most one a tick; SENT holds the
tick mod 8. -/
def execFlitSend (p : Fin 6) (s : State) : Host.Outcome State Fault Refusal :=
  let s := s.groupFlits
  let q := s.meshPort p
  let busy := match q.lastSent with | some (t, _) => t == s.tick | none => false
  if busy || !s.meshUse p || !s.bit (PORT_STAT.UP p) || s.bit (PORT_STAT.EIDLE p) then .next s
  else match takeFirst (fun (f : Flit) => Tick.before f.joined s.tick) q.queue with
    | none => .next s
    | some (f, rest) =>
      .next ((s.setMeshPort p { q with queue := rest, lastSent := some (s.tick, putBits f.word 4 3 (s.tick.toNat % 8)) }).showQueue p)

/-- A flit arrives on port `p` at its fixed tick s + 26, or late (R316). -/
def State.meshArrive (s : State) (p : Nat) (w : BitVec 64) : State :=
  if (s.tick - 26).toNat % 8 = (w.extractLsb' 4 3).toNat then s
  else
    let s := (s.bump (MESH_PLATE_CNT.COUNT p)).when (!(s.meshPort p).lateTold) (·.raise Src.MESH_HOP_LATE [])
    s.modMeshPort p (fun q => { q with lateTold := true })

/-- The latest tick at or before `t` whose low 14 bits are `lo` (R314). -/
def endTick (t : Tick) (lo : BitVec 14) : Tick :=
  t - BitVec.ofNat 48 ((t.toNat + 2 ^ 14 - lo.toNat) % 2 ^ 14)

/-- DECISION_FLIT_RECEIVE: a flit that port `p` receives. A decision is forwarded, or enters the crossbar's slot for the port and is
delivered three ticks later; a reserved type is discarded. -/
def execDecisionFlitReceive (p : Fin 6) (w : BitVec 64) (s : State) : Host.Outcome State Fault Refusal :=
  let type := flit.type w
  if !s.bit (PORT_STAT.UP p) || !(s.meshUse p || (s.get MESH_STAT.HOLD).testBit p) then .next s
  else if type = 0 ∨ 8 ≤ type then .next (s.bump MESH_BAD_CNT.COUNT)
  else if type ≠ 1 then .next s
  else
    let s := s.meshArrive p w
    let ttl := flit.ttl w - 1
    let w := putBits w 20 5 ttl
    if flit.dst w = s.meshAddr then
      let at_ := s.tick + 3
      let d : Decision := { dev := w.extractLsb' 25 12, remote := true, src := w.extractLsb' 37 8, state := w.extractLsb' 45 2,
                            valid := w.getLsbD 47, kern := w.getLsbD 49, status := if w.getLsbD 48 then 0x80 else 0,
                            endTick := endTick at_ (w.extractLsb' 50 14), byDec := false }
      .next { s with xbarServed := s.xbarServed ++ [{ dec := d, ready := s.tick, entry := s.tick, deliver := at_ }] }
    else if ttl = 0 then .next s.meshUnreach
    else .next (s.meshForward w (some p.val) s.tick)

/-- The tick within 2^27 ticks either side of `t` whose low 28 bits are `lo` (R318). -/
def groupTick (t : Tick) (lo : BitVec 28) : Tick := t + BitVec.ofInt 48 (lo - t.setWidth 28).toInt

/-- What tells copies of one group flit: TYPE, GROUP, ORIG and TICK_LO. -/
def groupKey (w : BitVec 64) : BitVec 64 := w &&& 0x3FFFFFFC07FFFF8F

/-- A group flit arrives on port `p` (R319): it is forwarded while LEFT allows, and starts the later stages unless it is a second
copy. -/
def State.groupArrive (s : State) (p : Nat) (w : BitVec 64) : State :=
  let s := s.meshArrive p w
  let seen := s.groupSeen.any (fun (k : BitVec 64 × Tick) => k.1 == groupKey w)
  let d := (w.extractLsb' 27 2).toNat
  let left := (w.extractLsb' 30 4).toNat - 1
  let s := s.when (left ≠ 0) (fun s => s.treeSend w d (flagNat (w.getLsbD 29)) left p s.tick)
  if seen then s
  else
    let s := { s with groupSeen := (s.groupSeen.filter (fun (k : BitVec 64 × Tick) => decide (Tick.diff k.2 s.tick < 2 ^ 28))) ++ [(groupKey w, s.tick)] }
    s.treeStages w (d + 1) p s.tick

/-- ARM_FLIT_RECEIVE: an ARM flit on port `p` arms the units of its group (R232). -/
def execArmFlitReceive (p : Fin 6) (w : BitVec 64) (s : State) : Host.Outcome State Fault Refusal :=
  if !s.bit (PORT_STAT.UP p) || flit.type w ≠ 2 then .next s
  else
    let s := s.groupArrive p w
    let g : BitVec 8 := w.extractLsb' 7 8
    let t := groupTick s.tick (w.extractLsb' 34 28)
    .next (s.each (List.range 16) (fun s n => if s.acqInGroup n g then s.armReceive n t else s))

/-- FIRE_FLIT_RECEIVE: a FIRE flit arrives on a port, to reach the units of its group two ticks later (R229, R316); without one, a
FIRE whose tick of receipt has come reaches the units of its group on this device. -/
def execFireFlitReceive (arrival : Option (Fin 6 × BitVec 64)) (s : State) : Host.Outcome State Fault Refusal :=
  match arrival with
  | some (p, w) =>
    if !s.bit (PORT_STAT.UP p) || flit.type w ≠ 3 then .next s
    else
      let s := s.groupArrive p w
      .next { s with localFires := s.localFires ++ [(w.extractLsb' 7 8, groupTick s.tick (w.extractLsb' 34 28), s.tick + 2)] }
  | none =>
    match takeFirst (fun (f : BitVec 8 × Tick × Tick) => Tick.le f.2.2 s.tick) s.localFires with
    | none => .next s
    | some ((g, f, _), rest) =>
      .next (({ s with localFires := rest }).each (List.range 16) (fun s n => if s.acqInGroup n g then s.fireReceive n f else s))

/-! ## Neighbours (R310, R322, R323) -/

/-- A message goes to the port its route selects, or is dropped: a source mailbox then has FULL cleared and FWD_ERR set (R359),
which `lost` does. -/
def State.msgRoute (s : State) (m : MeshMsg) (lost : State → Nat → State) : State :=
  match s.meshRoute m.dst m.ra m.origin with
  | some (p, ra) => s.modMeshPort p (fun q => { q with msgs := q.msgs ++ [{ m with ra := ra }] })
  | none =>
    let s := s.meshUnreach
    match m.source with | some b => lost s b | none => s

/-- A mesh port comes UP (R310): with the right partner it enters its hold (R323). In a dimension of one device it stays out. -/
def State.meshPortUp (s : State) (p : Nat) (dev : BitVec 12) (port : Nat) : State :=
  let s := s.modMeshPort p (fun q => { q with partner := dev })
  if !s.bit MESH_CFG.EN || s.meshDim (p / 2) = 1 then s
  else if (dev, port) = s.meshExpected p then
    ((s.meshBit MESH_STAT.TOPO p false).meshBit MESH_STAT.HOLD p true).modMeshPort p (fun q => { q with
      holdFrom := some s.tick, credits := 2 })
  else (s.meshBit MESH_STAT.TOPO p true).raise Src.MESH_TOPO []

/-- A mesh port goes down (R322): out of use, its queue to the port R312 selects, its parent gone. -/
def State.meshPortDown (s : State) (p : Nat) (lost : State → Nat → State) : State :=
  let q := s.meshPort p
  let s := (s.meshBit MESH_STAT.USE p false).meshBit MESH_STAT.HOLD p false
  let s := s.raise Src.MESH_NEIGHBOUR_LOST (slot p ++ slot q.partner.toNat)
  let s := (s.setMeshPort p { q with queue := [], msgs := [], dropRun := false, lateTold := false, holdFrom := none }).showQueue p
  let s := s.each q.queue (fun s f =>
    let other := p ^^^ 1
    if f.second then
      if flit.ra f.word || s.bit (MESH_RA.DROP p) || !s.meshUse other then s.meshUnreach
      else s.meshJoin other { f with word := putBits f.word 7 1 1, joined := s.tick, origin := 6 }
    else if s.meshUse other then
      s.meshJoin other { word := putBits (putBits f.word 29 1 (other % 2)) 30 4 (s.meshDim (p / 2) - 1), joined := s.tick, origin := 6 }
    else s.meshUnreach)
  let s := s.each q.msgs (fun s m => s.msgRoute m lost)
  s.when (s.time.parent == some p) (·.timeLose)

/-- PORT_HOLD_EXPIRY: the port has stayed UP for MESH_HOLD microseconds. -/
def execPortHoldExpiry (p : Fin 6) (s : State) : Host.Outcome State Fault Refusal :=
  match (s.meshPort p).holdFrom with
  | none => .next s
  | some t =>
    if Tick.diff t s.tick < (Nat.max 1 (s.get MESH_HOLD.US) * usTicks : Nat) then .next s
    else .next (((s.meshBit MESH_STAT.HOLD p false).meshBit MESH_STAT.USE p true).modMeshPort p (fun q => { q with holdFrom := none }))

end Sys2Proof.Machine
end

