-- ==== Sys2Proof/Machine/Crossbar.lean ====
section
/-! DEFINITION. The decision crossbar and the twin-lock branch (R46 to R58, R73): entry, service, export, delivery, resolution of
contexts and of WAITD, defaults, and the freeing of contexts. -/

namespace Sys2Proof.Machine

/-! ## Entry (R46, R47, R49, R199) -/

/-- The tick in which a decision may enter: its entry tick, four ticks after its source's last entry, and for a linear decision
four ticks after the entry tick of its demodulator's last kernel decision. -/
def State.entryTick (s : State) (d : Decision) (nominal : Tick) : Tick :=
  let src := d.src.toNat
  let t := match s.lastEntryOf src with | some e => Tick.max nominal (e + 4) | none => nominal
  if d.kern then t
  else match Store.read (fun _ => (none : Option Tick)) (s.kern (src / 16)).lastEntry (src % 16) with
    | some e => Tick.max t (e + 4)
    | none => t

/-- A decision enters the queue in this tick; after its nominal entry tick it raises XBAR_LATE. XBAR_BURST_CNT counts a tick when
its 65th decision enters. -/
def State.xbarEnter (s : State) (d : Decision) (ready nominal : Tick) : State :=
  let late := Tick.diff nominal s.tick
  let s := s.when (decide (0 < late)) (fun s =>
    (s.bump XBAR_LATE_CNT.COUNT).raise Src.XBAR_LATE (slot d.src.toNat ++ slot late.toNat))
  let here (l : List XbarItem) : Nat := (l.filter (fun (x : XbarItem) => !x.dec.remote && x.entry == s.tick)).length
  let s := s.when (here s.xbarQueue + here s.xbarServed == 64) (·.bump XBAR_BURST_CNT.COUNT)
  let s := s.setLastEntryOf d.src.toNat (some s.tick)
  { s with xbarQueue := s.xbarQueue ++ [{ dec := d, ready := ready, entry := s.tick, deliver := 0 }] }

/-- DEM_LAST_DEC and the point and end tick it latches, for the decision of a window (R190). -/
def State.showDecision (s : State) (d : Decision) : State :=
  let src := d.src.toNat
  let n := src / 16
  let k := src % 16
  let s := (((s.set (DEM_LAST_DEC.STATE n k) d.state.toNat).setBit (DEM_LAST_DEC.VALID n k) d.valid).setBit
    (DEM_LAST_DEC.KERN n k) d.kern).set (DEM_LAST_DEC.STATUS n k) d.status.toNat
  let s := s.when (!d.valid) (·.bump (DEM_INVAL_CNT.COUNT n k))
  match s.winResults.find? (fun r => r.src == src && r.endTick == d.endTick) with
  | some r => s.modDemod src (fun m => { m with lastI := r.i, lastQ := r.q, lastEnd := d.endTick })
  | none => s.modDemod src (fun m => { m with lastEnd := d.endTick })

/-- DECISION_READY: the oldest decision made for source `src` reaches the entry stage in this tick. -/
def execDecisionReady (src : Fin 256) (s : State) : Host.Outcome State Fault Refusal :=
  match takeFirst (fun (x : Decision × Tick) => x.1.src.toNat == src.val) s.decMade with
  | none => .next s
  | some ((d, nominal), rest) =>
    let s := ({ s with decMade := rest }).showDecision d
    let lead := Tick.diff s.tick nominal
    let s := (s.lower XBAR_LEAD_MIN.MIN lead).monitor 144 (decide (lead < s.govTh))
    let n := src.val / 16
    let took := (Tick.diff (d.endTick + 14) s.tick).toNat
    let s := s.when d.byDec (fun s => s.set (KRN_READY_MAX.TICKS n) (Nat.max (Nat.min took 0xFFFF) (s.get (KRN_READY_MAX.TICKS n))))
    let waits := s.xbarWait.any (fun (x : XbarItem) => x.dec.src == d.src)
    if Tick.before nominal s.tick && !waits && Tick.le (s.entryTick d nominal) s.tick then .next (s.xbarEnter d s.tick nominal)
    else .next { s with xbarWait := s.xbarWait ++ [{ dec := d, ready := s.tick, entry := nominal, deliver := 0 }] }

/-- XBAR_ENTRY: the first decision of source `src` at the entry stage enters, once its tick has come. -/
def execXbarEntry (src : Fin 256) (s : State) : Host.Outcome State Fault Refusal :=
  match takeFirst (fun (x : XbarItem) => x.dec.src.toNat == src.val) s.xbarWait with
  | none => .next s
  | some (x, rest) =>
    if Tick.le (s.entryTick x.dec x.entry) s.tick then .next (({ s with xbarWait := rest }).xbarEnter x.dec x.ready x.entry)
    else .next s

/-! ## Service and export (R48, R314, R315) -/

/-- The crossbar's queue order: entry tick, then source. -/
def XbarItem.le (x y : XbarItem) : Bool :=
  if x.entry ≠ y.entry then Tick.before x.entry y.entry else x.dec.src.ule y.dec.src

/-- A decision flit to device `dst` (R314). The source device is the service address of a twin (R339). -/
def State.decFlit (s : State) (d : Decision) (dst : Nat) : BitVec 64 :=
  let sdev := if s.bit TWIN_CFG.EN then s.get TWIN_CFG.SVC else s.get MESH_CFG.ADDR
  BitVec.ofNat 64 (1 + dst * 2 ^ 8 + 31 * 2 ^ 20 + sdev * 2 ^ 25 + d.src.toNat * 2 ^ 37 + d.state.toNat * 2 ^ 45 +
    flagNat d.valid * 2 ^ 47 + flagNat (d.status.getLsbD 7) * 2 ^ 48 + flagNat d.kern * 2 ^ 49 + d.endTick.toNat % 2 ^ 14 * 2 ^ 50)

/-- One flit for each enabled entry of MESH_EXP that names the source and another device, in ascending order; none for a decision
served more than 8,192 ticks after its END. A standby or retired twin exports nothing (R341). -/
def State.exportDecision (s : State) (d : Decision) : State :=
  let own := s.get MESH_CFG.ADDR
  let entries := (List.range 1024).filter (fun e =>
    s.bit (MESH_EXP.EN e) && s.get (MESH_EXP.SRC e) == d.src.toNat && s.get (MESH_EXP.DEV e) != own)
  if s.acqHeld || entries.isEmpty then s
  else if 8192 < Tick.diff d.endTick s.tick then s.bump MESH_STALE_CNT.COUNT
  else s.each entries (fun s e => s.meshForward (s.decFlit d (s.get (MESH_EXP.DEV e))) none s.tick)

/-- XBAR_SERVE: this tick's service, up to 64 decisions; each is delivered three ticks later. -/
def execXbarServe (s : State) : Host.Outcome State Fault Refusal :=
  let done := (s.xbarServed.filter (fun (x : XbarItem) => !x.dec.remote && x.deliver == s.tick + 3)).length
  let q := s.xbarQueue.foldl (fun l x => insertBy XbarItem.le x l) []
  let now := q.take (64 - done)
  let s := { s with xbarQueue := q.drop (64 - done),
                    xbarServed := s.xbarServed ++ now.map (fun (x : XbarItem) => { x with deliver := s.tick + 3 }) }
  let s := s.each now (fun s (x : XbarItem) =>
    s.set XBAR_STAT.MAX_ADD (Nat.max (s.get XBAR_STAT.MAX_ADD) (Nat.min 3 (Tick.diff x.entry s.tick).toNat)))
  .next (s.each now (fun s (x : XbarItem) => s.exportDecision x.dec))

/-! ## Resolution of a context (R51, R54, R57, R58) -/

/-- The locks of berth `b`, by number. -/
def berthLocks (b : Nat) : List Nat := [b, 64 + b, 128 + b / 4]

/-- LATE_DECISION of a default resolution: berth, branch identifier and margin missed. Until the decision comes the margin is
0xFFFF. -/
def State.lateDecision (s : State) (b : Nat) (bid : BitVec 8) (margin : Nat) : State :=
  (s.raise Src.LATE_DECISION (slot b ++ slot bid.toNat ++ slot margin)).markPartial b cause.lateDecision

/-- A fault already raised takes the margin missed that a later delivery shows (R54): at the collector's input, in the log, and in a
record not yet written. -/
def State.amendLate (s : State) (o : Owed) (margin : Nat) : State :=
  let old := slot o.berth ++ slot o.bid.toNat ++ slot 0xFFFF
  let new := slot o.berth ++ slot o.bid.toNat ++ slot margin
  let pay (l : List Nat) : BitVec 64 := BitVec.ofNat 64 (l.getD 0 0 + l.getD 1 0 * 2 ^ 16 + l.getD 2 0 * 2 ^ 32)
  let at_ := o.tb - 2
  { s with
    raised := s.raised.map (fun f => if f.src = Src.LATE_DECISION ∧ f.tick = at_ ∧ f.slots = old then { f with slots := new } else f),
    faultLog := s.faultLog.map (fun f =>
      if f.src = Src.LATE_DECISION ∧ f.tick = at_ ∧ f.slots = old then { f with slots := new } else f),
    recorder := { s.recorder with queue := s.recorder.queue.map (fun r =>
      if (r.words.getD 3 0).extractLsb' 0 8 = BitVec.ofNat 8 Src.LATE_DECISION ∧ r.words.getD 2 0 = at_.setWidth 64 ∧
          r.words.getD 4 0 = pay old then { r with words := listSet r.words 4 (pay new) } else r) } }

/-- A context keeps a matching decision that its outer branch lets it use: lane and tick (R51, R58). -/
def State.ctxReady (s : State) (b : Nat) (k : Ctx) : Bool :=
  k.busy && k.res.isNone && (match k.outer with
    | none => true
    | some (oc, ol) => (s.ctx (2 * b + oc)).res == some ol)

/-- Context `c` of berth `b` resolves to a lane (R51); `late` by default (R54). An inner context of the lane not chosen is discarded,
one of the lane chosen resolves on the decision it kept. -/
def State.resolveCtx (s : State) (b : Nat) : Nat → Nat → Bool → Bool → State
  | 0, _, _, _ => s
  | fuel + 1, c, lane, late =>
    let s := s.modCtx (2 * b + c) (fun k => { k with res := some lane, late := late })
    let s := s.each (berthLocks b) (fun s ℓ => s.bump (LOCK_BR_CNT.COUNT ℓ))
    let s := s.when late (fun s => s.each (berthLocks b) (fun s ℓ => (s.setBit (LOCK_STAT.BR_LATE ℓ) true).bump (LOCK_BR_LATE_CNT.COUNT ℓ)))
    let inner := s.ctx (2 * b + (1 - c))
    let s := match inner.outer with
      | some (oc, ol) =>
        if inner.busy && oc == c then
          if ol != lane then s.freeCtx b (1 - c)
          else match inner.kept with
            | some (st, true, t) =>
              if inner.res.isNone && Tick.le t (inner.tb - 2) then s.resolveCtx b fuel (1 - c) (inner.mask.getLsbD st.toNat) false else s
            | _ => s
        else s
      | none => s
    let s := s.settleDemods b
    let s := s.each [0, 1, 2] (fun s p => s.settlePath b p false)
    (s.pilotJoin b).showCtx b

/-- Context `c` of berth `b` takes its default once TB − 2 is over without a valid match (R54). -/
def State.defaultCtx (s : State) (b c : Nat) : State :=
  let k := s.ctx (2 * b + c)
  if !s.ctxReady b k || s.lockstep b then s
  else
    let limit := k.tb - 2
    let (margin, owed) : Nat × List Owed := match k.kept with
      | some (_, _, t) => ((Tick.diff limit t).toNat, [])
      | none => (0xFFFF, [{ berth := b, bid := k.bid, src := k.src, dev := k.dev, rem := k.rem, e := k.e, tb := k.tb }])
    let s := { s.lateDecision b k.bid margin with owed := s.owed ++ owed }
    s.resolveCtx b 2 c k.dflt true

/-- BRANCH_DEFAULT of context `c` of berth `b`, at the end of tick TB − 2 or later. -/
def execBranchDefault (b : Fin 64) (c : Fin 2) (s : State) : Host.Outcome State Fault Refusal :=
  .next (if Tick.le ((s.ctx (2 * b + c)).tb - 2) s.tick then s.defaultCtx b c else s)

/-! ## WAITD (R73) -/

/-- A WAITD takes its default (R73): branch identifier 0xFF. -/
def State.waitdDefault (s : State) (b : Nat) : State :=
  let p := s.pilot b
  match p.wait with
  | .decision src dev rem e _ dflt got =>
    let (margin, owed) : Nat × List Owed := match got with
      | some _ => (0, [])
      | none => (0xFFFF, [{ berth := b, bid := 0xFF, src := src, dev := dev, rem := rem, e := e, tb := p.tc }])
    let s := { s.lateDecision b 0xFF margin with owed := s.owed ++ owed }
    s.resolveWaitd b (got.getD 0) false true dflt 0
  | _ => s

/-- WAITD_DEADLINE of berth `b`, at the end of tick TC − 2 or later. -/
def execWaitdDeadline (b : Fin 64) (s : State) : Host.Outcome State Fault Refusal :=
  .next (if Tick.le ((s.pilot b).tc - 2) s.tick then s.waitdDefault b else s)

/-! ## Delivery (R48, R51, R53, R191, R192) -/

/-- A decision comes from the source named. -/
def Decision.from (d : Decision) (src : BitVec 8) (dev : BitVec 12) (rem : Bool) : Bool :=
  d.src == src && d.remote == rem && (!rem || d.dev == dev)

/-- The margin missed of the defaults that waited for this decision (R54). -/
def State.payOwed (s : State) (d : Decision) : State :=
  let s := { s with owed := s.owed.filter (fun o => Tick.le s.tick (o.tb + 63)) }
  let mine (o : Owed) : Bool := d.from o.src o.dev o.rem && o.e == d.endTick
  let s' := s.each (s.owed.filter mine) (fun s o => s.amendLate o (Tick.diff (o.tb - 2) s.tick).toNat)
  { s' with owed := s.owed.filter (fun o => !mine o) }

/-- A decision reaches context `c` of berth `b` (R51, R53, R58): another end tick is counted and ignored; the first match is kept and
resolves the context when it is valid and in time. -/
def State.ctxDecision (s : State) (d : Decision) (b c : Nat) : State :=
  let k := s.ctx (2 * b + c)
  if !k.busy || s.lockstep b || !d.from k.src k.dev k.rem then s
  else if d.endTick ≠ k.e then
    if k.res.isNone then s.each (berthLocks b) (fun s ℓ => s.bump (LOCK_BR_MISS_CNT.COUNT ℓ)) else s
  else if k.res.isSome || k.kept.isSome then s
  else
    let s := s.when (Tick.before (k.tb - 2) s.tick) (·.defaultCtx b c)
    let k := s.ctx (2 * b + c)
    if k.res.isSome then s
    else
      let k := { k with kept := some (d.state, d.valid, s.tick) }
      let s := s.setCtx (2 * b + c) k
      if d.valid && s.ctxReady b k && Tick.le s.tick (k.tb - 2) then s.resolveCtx b 2 c (k.mask.getLsbD d.state.toNat) false else s

/-- A decision reaches the pilot of berth `b` in WAITD. -/
def State.waitdDecision (s : State) (d : Decision) (b : Nat) : State :=
  let p := s.pilot b
  match p.wait with
  | .decision src dev rem e mask dflt none =>
    if !d.from src dev rem || d.endTick ≠ e then s
    else if Tick.before (p.tc - 2) s.tick then s.waitdDefault b
    else if d.valid then s.resolveWaitd b d.state true false (mask.getLsbD d.state.toNat) (Tick.diff s.tick (p.tc - 2)).toNat
    else s.setPilot b { p with wait := .decision src dev rem e mask dflt (some d.state) }
  | _ => s

/-- A decision reaches every consumer but the acquisition unit's recorder. A default that was due and not yet taken comes first. -/
def State.deliver (s : State) (d : Decision) : State :=
  let s := s.payOwed d
  let s := s.each (List.range 64) (fun s b => ((s.ctxDecision d b 0).ctxDecision d b 1).waitdDecision d b)
  let s := s.payOwed d
  let s := s.each (List.range 16) (fun s n => s.trgDecision n d)
  let n := d.src.toNat / 16
  let k := d.src.toNat % 16
  s.when (!d.remote && s.bit (DEC_EVT.EN n k) && (s.get (DEC_EVT.MASK n k)).testBit d.state.toNat &&
    (d.valid || !s.bit (DEC_EVT.VALID_ONLY n k))) (fun s => s.pulseChannel (s.get (DEC_EVT.CH n k)))

/-- The acquisition unit of a local decision's input takes its window's result, when the window was captured and the capture has
not ended (R225, R237). -/
def State.acqDecision (s : State) (d : Decision) : State :=
  match takeFirst (fun (r : WinRes) => r.src == d.src.toNat && r.endTick == d.endTick) s.winResults with
  | none => s
  | some (r, rest) =>
    let n := d.src.toNat / 16
    let s := { s with winResults := rest }
    s.when (r.captured && s.acqState n == acqSt.capture) (·.modAcq n (fun a => { a with done := a.done ++ [(r, d)] }))

/-- DECISION_DELIVERY: every decision due in this tick reaches its consumers; units take windows by ascending source. -/
def execDecisionDelivery (s : State) : Host.Outcome State Fault Refusal :=
  let due := s.xbarServed.filter (fun (x : XbarItem) => Tick.le x.deliver s.tick)
  let s := { s with xbarServed := s.xbarServed.filter (fun (x : XbarItem) => !Tick.le x.deliver s.tick) }
  let s := s.each due (fun s (x : XbarItem) => s.deliver x.dec)
  let local_ := (due.map (·.dec)).filter (fun d => !d.remote)
  .next (s.each (local_.foldl (fun l d => insertBy (fun (x y : Decision) => x.src.ule y.src) d l) []) (fun s d => s.acqDecision d))

/-! ## Freeing a context (R56, R59) -/

/-- CONTEXT_FREE: a resolved context of berth `b` is freed at the end of tick TB + 63. What its lanes still form first goes on in the
main lane; an outer context whose inner branch was taken hands its window to the inner context, and the main lane resumes after
that. -/
def execContextFree (b : Fin 64) (c : Fin 2) (s : State) : Host.Outcome State Fault Refusal :=
  let k := s.ctx (2 * b + c)
  if !k.busy || k.res.isNone || Tick.before s.tick (k.tb + 63) then .next s
  else
    let inner := s.ctx (2 * b + (1 - c))
    let holds := inner.busy && (match inner.outer with | some (oc, _) => oc == c.val | none => false)
    if holds then
      let s := s.modCtx (2 * b + (1 - c)) (fun k => { k with outer := none })
      let s := s.each [0, 1, 2] (fun s p => s.modPath (pathKey b p 0) (fun m =>
        if m.live && Tick.before m.cur inner.tb then { m with cur := inner.tb } else m))
      .next ((s.settleDemods b).freeCtx b c)
    else
      let s := s.each [0, 1, 2] (fun s p => s.settlePath b p true)
      .next ((s.settleDemods b).freeCtx b c)

end Sys2Proof.Machine
end

