-- ==== Sys2Proof/Machine/RingBase.lean ====
section
/-! DEFINITION. Descriptor rings as the other blocks use them (R263 to R272, R283 to R290): indexes, writing to a device-produced ring,
halts, notices, interrupts, completions, and the rings' own rows. -/

namespace Sys2Proof.Machine

/-! ## Indexes (R263, R264) -/

def rk.command : Nat := 0
def rk.completion : Nat := 1
def rk.result : Nat := 2
def rk.notice : Nat := 3
def rst.disabled : Nat := 0
def rst.run : Nat := 1
def rst.halted : Nat := 2
def rst.draining : Nat := 3

def State.ringKind (s : State) (i : Nat) : Nat := s.get (RING_CFG.KIND i)
def State.ringSt (s : State) (i : Nat) : Nat := s.get (RING_STAT.STATE i)

/-- SIZE: 16 to 65,536 slots, at least 128 on a completion ring. -/
def State.ringSize (s : State) (i : Nat) : Nat :=
  2 ^ Nat.max (if s.ringKind i = rk.completion then 7 else 4) (Nat.min 16 (s.get (RING_CFG.LOG2SIZE i)))

/-- Indexes count modulo twice SIZE. -/
def State.ringWrap (s : State) (i n : Nat) : Nat := n % (2 * s.ringSize i)

/-- How far index `b` lies ahead of index `a`. -/
def State.ringDist (s : State) (i a b : Nat) : Nat := (b + 2 * s.ringSize i - a) % (2 * s.ringSize i)

/-- PHASE of the descriptor at an index. -/
def State.ringPhase (s : State) (i n : Nat) : Bool := decide (n < s.ringSize i)

/-- The eight words of a fetched descriptor, and its PHASE. -/
def descWords (d : BitVec 512) : Descriptor := (List.range 8).map (fun j => d.extractLsb' (64 * j) 64)
def descPhase (d : Descriptor) : Bool := (d.getD 7 0).getLsbD 63

/-- A pair of registers that holds a 64-bit host address. -/
def State.addr64 (s : State) (lo hi : Nat) : BitVec 64 := s.rd hi ++ s.rd lo

/-- A change of the ring's indexes writes the shadow word (R268). -/
def State.ringMove (s : State) (i : Nat) (f : Ring → Ring) : State :=
  let s := s.modRing i f
  if s.addr64 (R.RING_SHADOW_LO i) (R.RING_SHADOW_HI i) = 0 then s
  else s.modRing i (fun r => { r with shadow := BitVec.ofNat 64 (r.pidx + r.cidx * 2 ^ 32) })

/-! ## Device-produced rings (R266, R287) -/

/-- The host memory answers accesses: it errs while the HOST port is down (R302). -/
def State.hostUp (s : State) : Bool := s.bit HIF_STAT.LINK_UP

/-- The interrupt message of ring `i`, or one owed at the end of the hold-off. -/
def State.ringIrq (s : State) (i : Nat) : State :=
  if !s.bit (RING_CFG.IRQ_EN i) then s
  else
    let hold : Int := (s.get (RING_IRQ.HOLDOFF i) * usTicks : Nat)
    s.modRing i (fun r => match r.lastIrq with
      | some t => if Tick.diff t s.tick < hold then { r with irqDue := true } else { r with lastIrq := some s.tick }
      | none => { r with lastIrq := some s.tick })

/-- IRQ_HOLDOFF_EXPIRY: one message covers the descriptors written during the hold-off. -/
def execIrqHoldoffExpiry (i : Fin 64) (s : State) : Host.Outcome State Fault Refusal :=
  let r := s.ring i
  let due := match r.lastIrq with
    | some t => decide ((s.get (RING_IRQ.HOLDOFF i) * usTicks : Nat) ≤ Tick.diff t s.tick)
    | none => true
  .next (if r.irqDue && due then s.setRing i { r with irqDue := false, lastIrq := some s.tick } else s)

/-- Writes a descriptor with the PHASE of the producer index. -/
def State.ringStore (s : State) (i : Nat) (d : Descriptor) : State :=
  let r := s.ring i
  let w7 : BitVec 64 := (d.getD 7 0 &&& 0x7FFFFFFFFFFFFFFF) ||| (if s.ringPhase i r.pidx then 0x8000000000000000 else 0)
  let d := (List.range 7).map (fun j => d.getD j 0) ++ [w7]
  (s.ringMove i (fun r => { r with pidx := s.ringWrap i (r.pidx + 1), slots := r.slots ++ [d] })).ringIrq i

/-- The ring halts (R267), with its cause and the index at the halt. A host memory error also sets HOST_ERR. -/
def State.ringStop (s : State) (i cause : Nat) : State :=
  let s := (s.set (RING_STAT.STATE i) rst.halted).set (RING_STAT.ERR i) cause
  let s := s.modRing i (fun r => { r with
    refetch := none,
    errIdx := if s.ringKind i = rk.command then s.ringWrap i (r.cidx + r.fetched.length) else r.pidx })
  let s := s.raise Src.HIF_RING []
  s.when (cause == 3) (fun s => (s.setBit HIF_STAT.HOST_ERR true).raise Src.HIF_HOST [])

/-- The enabled notice ring. -/
def State.noticeRing (s : State) : Option Nat :=
  (List.range 64).find? (fun i => s.ringKind i == rk.notice && s.ringSt i != rst.disabled)

/-- A dropped notice is counted. -/
def State.dropNotice (s : State) : State :=
  ({ s with noticesLost := Nat.min (s.noticesLost + 1) 0xFFFFFFFF }).bump HIF_NOTICE_LOST.COUNT

/-- Room for a descriptor in ring `i`. -/
def State.ringRoom (s : State) (i : Nat) : Bool := decide ((s.ring i).slots.length < s.ringSize i)

/-- A notice (R287) is written, or dropped and counted. -/
def State.noticePut (s : State) (code arg : Nat) (ws : List (BitVec 64)) : State :=
  match s.noticeRing with
  | none => s.dropNotice
  | some i =>
    if s.ringSt i ≠ rst.run ∨ !s.ringRoom i then s.dropNotice
    else if !s.hostUp then (s.ringStop i 3).dropNotice
    else s.ringStore i ([BitVec.ofNat 64 (0x82 + code * 2 ^ 8 + arg * 2 ^ 32), s.tick.setWidth 64] ++ ws)

/-- Once room returns, a NOTICE_LOST notice tells how many were dropped. -/
def State.tellLost (s : State) : State :=
  match s.noticeRing with
  | none => s
  | some i =>
    if s.noticesLost = 0 ∨ s.ringSt i ≠ rst.run ∨ !s.ringRoom i ∨ !s.hostUp then s
    else ({ s with noticesLost := 0 }).noticePut 4 s.noticesLost []

/-- Posts a notice. -/
def State.notify (s : State) (code arg : Nat) (ws : List (BitVec 64)) : State := s.tellLost.noticePut code arg ws

/-- Halts ring `i`, with a RING_ERROR notice unless it is the notice ring. -/
def State.ringHalt (s : State) (i cause : Nat) : State :=
  let s := s.ringStop i cause
  s.when (s.ringKind i != rk.notice) (fun s => s.notify 2 i [BitVec.ofNat 64 (cause + (s.ring i).errIdx * 2 ^ 32)])

/-- Writes to a completion or result ring; a halted ring holds the descriptor (R267). -/
def State.ringPut (s : State) (i : Nat) (d : Descriptor) : State :=
  let hold (s : State) : State := s.modRing i (fun r => { r with held := r.held ++ [d] })
  if s.ringSt i = rst.run then (if s.hostUp then s.ringStore i d else hold (s.ringHalt i 3))
  else if s.ringSt i = rst.halted then hold s
  else s

/-! ## Fields of commands (R269 to R271) -/

/-- Word `j` of a descriptor, and a field of it. -/
def dw (d : Descriptor) (j : Nat) : BitVec 64 := d.getD j 0
def dfld (d : Descriptor) (j lo len : Nat) : Nat := ((dw d j).toNat >>> lo) % 2 ^ len

/-- Berths of a mask, in ascending order. -/
def maskBerths (m : BitVec 64) : List Nat := (List.range 64).filter (fun b => m.getLsbD b)

def ct.loadSegment : Nat := 1
def ct.loadProgram : Nat := 2
def ct.loadKernel : Nat := 3
def ct.writeParam : Nat := 4
def ct.streamSegment : Nat := 5
def ct.startBatch : Nat := 6
def ct.stop : Nat := 7
def ct.readState : Nat := 8
def ct.fence : Nat := 9
def ct.calRequest : Nat := 10

/-- Statuses (R284). -/
def cs.ok : Nat := 0
def cs.badType : Nat := 1
def cs.badField : Nat := 2
def cs.busy : Nat := 3
def cs.hostFault : Nat := 4
def cs.faultCut : Nat := 5
def cs.resetCut : Nat := 6
def cs.domainDown : Nat := 7
def cs.startLate : Nat := 8
def cs.noSpace : Nat := 9
def cs.aborted : Nat := 10
def cs.refused : Nat := 11

/-- TYPE of a command. -/
def Cmd.type (c : Cmd) : Nat := dfld c.desc 0 0 8

/-- The berths whose completions a START_BATCH produces (R270). -/
def startBerths (d : Descriptor) : List Nat := maskBerths (dw d 1)

/-- Completions that a descriptor can produce. -/
def compCount (d : Descriptor) : Nat := if dfld d 0 0 8 = ct.startBatch then (startBerths d).length else 1

/-- The berths that a command names. -/
def Cmd.berths (c : Cmd) : BitVec 64 :=
  if c.type = ct.loadProgram then dw c.desc 2
  else if c.type = ct.writeParam ∨ c.type = ct.startBatch ∨ c.type = ct.stop then dw c.desc 1
  else 0

/-! ## Completions (R272, R283 to R285) -/

/-- A completion descriptor; `ws` holds words 3 to 6. -/
def State.compDesc (s : State) (i : Nat) (c : Cmd) (status berth detail : Nat) (ws : List (BitVec 64)) : Descriptor :=
  [BitVec.ofNat 64 (c.type + status * 2 ^ 8 + i * 2 ^ 16 + berth * 2 ^ 24 + dfld c.desc 0 32 32 * 2 ^ 32),
    BitVec.ofNat 64 (c.index + detail % 2 ^ 32 * 2 ^ 32), s.tick.setWidth 64] ++ ws

/-- Posts one completion of a command of ring `i`, into one of its reserved entries; one with NOCOMP and status OK is not written. -/
def State.post (s : State) (i : Nat) (c : Cmd) (status berth detail : Nat) (ws : List (BitVec 64)) : State :=
  let r := s.get (RING_CFG.CRING i)
  let s := s.modRing r (fun q => { q with reserved := q.reserved - 1 })
  if (dw c.desc 0).getLsbD 8 ∧ status = cs.ok then s else s.ringPut r (s.compDesc i c status berth detail ws)

/-- Removes a command that has completed, or replaces it. -/
def State.dropCmd (s : State) (i : Nat) (c : Cmd) : State :=
  s.modRing i (fun r => { r with cmds := r.cmds.filter (fun x => x.seq ≠ c.seq) })
def State.putCmd (s : State) (i : Nat) (c : Cmd) : State :=
  s.modRing i (fun r => { r with cmds := r.cmds.map (fun x => if x.seq = c.seq then c else x) })

/-- Words 3 to 6 of a START_BATCH completion, from the berth's ledger. -/
def State.batchWords (s : State) (b : Nat) : List (BitVec 64) :=
  let g := s.ledger b
  [BitVec.ofNat 64 (g.lastDone.toNat + g.lastStatus.toNat * 2 ^ 32 + g.lastCause.toNat * 2 ^ 36 + g.endCode * 2 ^ 40),
    g.lastTick.setWidth 64, BitVec.ofNat 64 (g.full + g.part * 2 ^ 32), BitVec.ofNat 64 (g.aband + g.seq.toNat * 2 ^ 32)]

/-- Completes a command, with one completion for each berth of a START_BATCH that still owes one. -/
def State.finish (s : State) (i : Nat) (c : Cmd) (status detail : Nat) : State :=
  let s := if c.type = ct.startBatch then s.each (maskBerths c.left) (fun s b => s.post i c status b detail [])
    else s.post i c status 0 detail []
  s.dropCmd i c

/-- The batch of berth `b` has ended and its last tick executed is released: its completion. -/
def State.batchDone (s : State) (b : Nat) : State :=
  let g := s.ledger b
  match g.batch with
  | none => s
  | some (i, seq) =>
    if !g.ended then s
    else
      let s := s.modLedger b (fun g => { g with batch := none })
      match (s.ring i).cmds.find? (fun (c : Cmd) => c.seq == seq) with
      | none => s
      | some c =>
        let s := s.post i c (if g.endCode = 6 then cs.resetCut else if g.cutBy then cs.faultCut else cs.ok) b 0 (s.batchWords b)
        let c := { c with left := c.left &&& ~~~(1#64 <<< b) }
        if c.left = 0 then s.dropCmd i c else s.putCmd i c

/-- BATCH_COMPLETION. -/
def execBatchCompletion (b : Fin 64) (s : State) : Host.Outcome State Fault Refusal := .next (s.batchDone b)

/-- A batch is accepted or running on berth `b`. -/
def State.berthBusy (s : State) (b : Nat) : Bool :=
  (s.ledger b).batch.isSome || (s.pilot b).start.isSome || (s.pilot b).busy

/-- Ring-fed commands that a fault reaction has overtaken at a block complete with FAULT_CUT (R12, R284). -/
def State.cutCommands (s : State) (cut : Cmd → Bool) : State :=
  s.each (List.range 64) (fun s i => s.each ((s.ring i).cmds.filter cut) (fun s c => s.finish i c cs.faultCut c.detail))

/-- The commands a reset or stop by reaction of berth `b` overtakes: loads into it, and a batch not yet accepted. -/
def State.cutBerthCommands (s : State) (b : Nat) : State :=
  s.cutCommands (fun c => c.berths.getLsbD b && (c.type == ct.loadProgram || c.type == ct.writeParam ||
    (c.type == ct.startBatch && decide (c.stage < 2))))

/-- The commands a reset or stop by reaction of kernel engine `n` overtakes. -/
def State.cutKernelCommands (s : State) (n : Nat) : State :=
  s.cutCommands (fun c => c.type == ct.loadKernel && dfld c.desc 2 0 4 == n)

/-- A chip reset by fault (R290): every issued command completes with RESET_CUT, an accepted START_BATCH when its berths have stopped
(BATCH_COMPLETION); each command ring halts. -/
def State.ringsChipReset (s : State) : State :=
  let s := s.each (List.range 64) (fun s i => s.each (s.ring i).cmds (fun s c =>
    if c.type = ct.startBatch ∧ c.stage = 2 then s else s.finish i c cs.resetCut c.detail))
  s.each (List.range 64) (fun s i =>
    if s.ringKind i ≠ rk.command ∨ s.ringSt i = rst.disabled ∨ s.ringSt i = rst.draining then s
    else (s.modRing i (fun r => { r with fetched := [] })).ringHalt i 4)

/-! ## Enable, doorbell, fetch (R263, R265, R267) -/

/-- Fields of RING_CFG that accept writes only while the ring is DISABLED. -/
def ringCfgFixed (w : Word) : Word := w &&& 0x7FF3

/-- RING_ENABLE: a write of RING_CFG. A write that would change KIND, LOG2SIZE or CRING of a ring not DISABLED leaves them and sets
CFG_REJ; writing EN to 0 is ignored. -/
def execRingEnable (i : Fin 64) (w : Word) (s : State) : Host.Outcome State Fault Refusal :=
  let old := s.rd (R.RING_CFG i)
  if s.ringSt i ≠ rst.disabled then
    let s := s.when (ringCfgFixed w != ringCfgFixed old) (·.setBit (RING_STAT.CFG_REJ i) true)
    .next (s.wr (R.RING_CFG i) ((w &&& 0xFF8000) ||| (old &&& ~~~0xFF8000)))
  else
    let s := s.wr (R.RING_CFG i) (w &&& 0xFFFFF3)
    if !w.getLsbD 2 then .next s
    else
      let kind := s.ringKind i
      let cring := s.get (RING_CFG.CRING i)
      let bad := (kind == rk.command && !(s.ringKind cring == rk.completion && s.ringSt cring == rst.run)) ||
        (kind == rk.notice && s.noticeRing.isSome) ||
        (kind == rk.result && decide (s.get (RING_DATA_SIZE.SIZE i) < 48))
      if bad then .next (s.setBit (RING_STAT.CFG_REJ i) true)
      else .next (((s.setRing i .init).setBit (RING_CFG.EN i) true).set (RING_STAT.STATE i) rst.run).tellLost

/-- RING_DOORBELL: new commands, or slots and data released by the host. -/
def execRingDoorbell (i : Fin 64) (idx : BitVec 17) (s : State) : Host.Outcome State Fault Refusal :=
  let r := s.ring i
  let n := idx.toNat
  let st := s.ringSt i
  let range := decide (n < 2 * s.ringSize i)
  if st = rst.disabled ∨ st = rst.draining then .next s
  else if s.ringKind i = rk.command then
    if !range || decide (s.ringSize i < s.ringDist i r.cidx n) then .next (s.ringHalt i 2)
    else .next (s.ringMove i (fun r => { r with pidx := n }))
  else
    let k := s.ringDist i r.cidx n
    if !range || decide (s.ringDist i r.cidx r.pidx < k) then .next (s.ringHalt i 2)
    else .next (s.ringMove i (fun r => { r with cidx := n, slots := r.slots.drop k, areas := r.areas.drop k })).tellLost

/-- Takes fetched descriptors as long as their PHASE matches; the first that does not is fetched again. -/
def State.takeDescs (s : State) (i : Nat) : List (BitVec 512) → State
  | [] => s
  | x :: t =>
    let d := descWords x
    let r := s.ring i
    if descPhase d == s.ringPhase i (s.ringWrap i (r.cidx + r.fetched.length)) then
      (s.setRing i { r with fetched := r.fetched ++ [d] }).takeDescs i t
    else s.setRing i { r with refetch := some 0 }

/-- Descriptors announced and not fetched. -/
def State.toFetch (s : State) (i : Nat) : Nat :=
  let r := s.ring i
  s.ringDist i (s.ringWrap i (r.cidx + r.fetched.length)) r.pidx

/-- DESCRIPTOR_FETCH: the host adapter answers a read of up to 8 descriptors. -/
def execDescriptorFetch (i : Fin 64) (descs : List (BitVec 512)) (err : Bool) (s : State) : Host.Outcome State Fault Refusal :=
  if 8 < descs.length then .fault .illFormed
  else if s.ringKind i ≠ rk.command ∨ s.ringSt i ≠ rst.run ∨ (s.ring i).refetch.isSome ∨ s.toFetch i = 0 then .next s
  else if err || !s.hostUp then .next (s.ringHalt i 3)
  else .next (s.takeDescs i (descs.take (s.toFetch i)))

/-- PHASE_REFETCH: after 250 ns a descriptor is fetched again; the fourth mismatch halts the ring. -/
def execPhaseRefetch (i : Fin 64) (desc : BitVec 512) (err : Bool) (s : State) : Host.Outcome State Fault Refusal :=
  match (s.ring i).refetch with
  | none => .next s
  | some k =>
    if s.ringSt i ≠ rst.run then .next s
    else if err || !s.hostUp then .next (s.ringHalt i 3)
    else
      let r := s.ring i
      let d := descWords desc
      if descPhase d == s.ringPhase i (s.ringWrap i (r.cidx + r.fetched.length)) then
        .next (s.setRing i { r with refetch := none, fetched := r.fetched ++ [d] })
      else if k + 1 < 4 then .next (s.setRing i { r with refetch := some (k + 1) })
      else .next (s.ringHalt i 1)

/-! ## Teardown, resume, status (R267, R268, R288, R289) -/

/-- A ring becomes DISABLED. -/
def State.ringDisable (s : State) (i : Nat) : State :=
  (((s.setRing i .init).set (RING_STAT.STATE i) rst.disabled).setBit (RING_CFG.EN i) false).setBit (RING_CTRL.TEARDOWN i) false

/-- RING_TEARDOWN. Descriptors fetched and not issued complete with ABORTED. -/
def execRingTeardown (i : Fin 64) (s : State) : Host.Outcome State Fault Refusal :=
  let s := s.setBit (RING_CTRL.TEARDOWN i) true
  let st := s.ringSt i
  if st = rst.disabled ∨ st = rst.draining then .next (if st = rst.disabled then s.setBit (RING_CTRL.TEARDOWN i) false else s)
  else if s.ringKind i = rk.command then
    let r := s.ring i
    let s := (s.set (RING_STAT.STATE i) rst.draining).modRing i (fun r => { r with fetched := [], refetch := none })
    let cr := s.get (RING_CFG.CRING i)
    .next ((s.each (List.range r.fetched.length) (fun s k =>
      let d := r.fetched.getD k []
      let c : Cmd := { seq := 0, index := s.ringWrap i (r.cidx + k), desc := d, stage := 0, buf := [], detail := 0, left := 0, marks := [] }
      let bs := if dfld d 0 0 8 = ct.startBatch then startBerths d else [0]
      s.each bs (fun s b => (s.modRing cr (fun q => { q with reserved := q.reserved + 1 })).post i c cs.aborted b 0 []))).ringMove i
        (fun q => { q with cidx := s.ringWrap i (r.cidx + r.fetched.length) }))
  else
    let named := (List.range 64).any (fun j =>
      s.ringKind j == rk.command && s.ringSt j != rst.disabled && s.get (RING_CFG.CRING j) == i.val)
    if s.ringKind i = rk.completion ∧ named then
      .next ((s.setBit (RING_STAT.TD_REJ i) true).setBit (RING_CTRL.TEARDOWN i) false)
    else .next (s.ringDisable i)

/-- RING_DRAIN_DONE: the last issued command of a DRAINING ring has completed. -/
def execRingDrainDone (i : Fin 64) (s : State) : Host.Outcome State Fault Refusal :=
  .next (if s.ringSt i = rst.draining ∧ (s.ring i).cmds = [] then s.ringDisable i else s)

/-- RING_RESUME: a halted ring returns to RUN; a device-produced one writes what it has held. -/
def execRingResume (i : Fin 64) (s : State) : Host.Outcome State Fault Refusal :=
  if s.ringSt i ≠ rst.halted then .next s
  else
    let held := (s.ring i).held
    let s := ((s.set (RING_STAT.STATE i) rst.run).setBit (RING_CTRL.RESUME i) false).modRing i (fun r => { r with held := [] })
    .next (s.each held (fun s d => s.ringPut i d)).tellLost

/-- RING_STAT_READ: the index registers are latched in the tick of the read. -/
def execRingStatRead (i : Fin 64) (s : State) : Host.Outcome State Fault Refusal :=
  let r := s.ring i
  let s := (s.set (RING_PIDX.INDEX i) r.pidx).set (RING_CIDX.INDEX i) r.cidx
  let s := s.set (RING_INFL.INDEX i) (if s.ringKind i = rk.command then r.cmds.length else r.reserved + r.held.length)
  let s := s.set (RING_ERR_IDX.INDEX i) r.errIdx
  .next (s.answer (s.rd (R.RING_STAT i)))

/-! ## Results (R286) -/

/-- The bytes of a record in SDRAM, which may wrap in its buffer. -/
def State.recordBytes (s : State) (r : Nat × Nat × Nat × Nat) : List (BitVec 8) :=
  let (base, size, pos, len) := r
  (List.range len).map (fun k => s.dramByte (base + (pos + k) % size))

/-- 32-bit words of bytes, little-endian. -/
def bytesWords : List (BitVec 8) → List Word
  | a :: b :: c :: d :: t => (d ++ c ++ b ++ a) :: bytesWords t
  | _ => []

/-- How many of a unit's records one descriptor covers: up to 64 KiB in `room` bytes, or one larger record that fits. -/
def coverCount : List (Nat × Nat × Nat × Nat) → Nat → Nat → Nat
  | [], _, _ => 0
  | r :: t, used, room =>
    let n := used + r.2.2.2
    if room < n ∨ (65536 < n ∧ used ≠ 0) then 0
    else if 65536 < n then 1
    else 1 + coverCount t n room

/-- RESULT_DESCRIPTOR_POST: records of unit `n` are copied into the data area of ring `i`, and a descriptor points to them. -/
def execResultDescriptorPost (i : Fin 64) (n : Fin 16) (s : State) : Host.Outcome State Fault Refusal :=
  let r := s.ring i
  let a := s.acq n
  let area := s.get (RING_DATA_SIZE.SIZE i) * 4096
  let free := area - r.areas.sum
  let first := coverCount a.recs 0 (Nat.min free (area - r.dataPos))
  -- the tail of the area stays unused when the next record does not fit there
  let tail := if first = 0 then area - r.dataPos else 0
  let k := if first = 0 then coverCount a.recs 0 (Nat.min (free - tail) area) else first
  if s.ringKind i ≠ rk.result ∨ s.ringSt i ≠ rst.run ∨ !s.ringRoom i ∨ k = 0 ∨ s.acqGet n (ACQ_RES.RING n) ≠ i.val then .next s
  else if !s.hostUp then .next (s.ringHalt i 3)
  else
    let recs := a.recs.take k
    let start := if first = 0 then 0 else r.dataPos
    let bytes := (recs.map (fun (x : Nat × Nat × Nat × Nat) => x.2.2.2)).sum
    let data := recs.flatMap (fun x => s.recordBytes x)
    let head (x : Nat × Nat × Nat × Nat) (w : Nat) : List Word := ((bytesWords ((s.recordBytes x).take 16)).drop w).take 1
    let w (x : Option (Nat × Nat × Nat × Nat)) (j : Nat) : Word := match x with | some x => (head x j).headD 0 | none => 0
    let haddr := s.addr64 (R.RING_DATA_LO i) (R.RING_DATA_HI i) + BitVec.ofNat 64 start
    let last := recs.getLast?
    let d : Descriptor := [
      BitVec.ofNat 64 (0x81 + n.val * 2 ^ 8 + k % 2 ^ 16 * 2 ^ 16 + bytes * 2 ^ 32), haddr,
      w last 1 ++ w recs.head? 1,
      (w last 3 &&& 0xFFFF) ++ w last 2,
      BitVec.ofNat 64 (Nat.min a.lostSince 0xFFFFFFFF + (if (w last 0).toNat % 16 = 7 then 2 ^ 32 else 0))]
    let s := s.setAcq n { a with recs := a.recs.drop k, handed := a.handed + k, lostSince := 0 }
    let s := { s with hostWrite := some (haddr, bytesWords data) }
    let s := s.modRing i (fun r => { r with dataPos := start + bytes, areas := r.areas ++ [tail + bytes] })
    .next (s.ringStore i d)

end Sys2Proof.Machine
end

