-- ==== Sys2Proof/Machine/Mailbox.lean ====
section
/-! DEFINITION. Power and reset domains as accesses see them (R262, R381, R449), the mailboxes (R352 to R360) and remote mailbox writes
(R320). -/

namespace Sys2Proof.Machine

/-! ## Domains that are down (R381, R449) -/

/-- Power domains of R381. -/
inductive Pow where
  | aon | mgmt | core
  deriving DecidableEq, Repr

/-- Start-up stages (R413, R415, R417). -/
def stg.por : Nat := 0
def stg.fw : Nat := 2
def stg.ready : Nat := 8
def stg.recovery : Nat := 9
def stg.resetting : Nat := 10

def State.stage (s : State) : Nat := s.get BOOT_STAT.STAGE

/-- A power domain is off, or in retention: CORE from STANDBY down and after a SHUTDOWN's isolation, MGMT in DEEP_SLEEP and at the
end of a SHUTDOWN. -/
def State.powDown (s : State) (p : Pow) : Bool :=
  match p with
  | .aon => false
  | .mgmt => s.get PWR_STAT.STATE == 3 || decide (3 ≤ s.sys.shutStep)
  | .core => decide (2 ≤ s.get PWR_STAT.STATE) || decide (2 ≤ s.sys.shutStep)

/-- A reset domain is being reset: from the start of a reset that covers it until READY. BOOT_STAT.CAUSE tells which reset it is. -/
def State.resetDown (s : State) (d : Dom) : Bool :=
  s.stage != stg.ready && (match s.get BOOT_STAT.CAUSE with | 2 => d == .chip | 3 => false | _ => true)

/-- A block whose power domain and reset domain are given is down. -/
def State.domDown (s : State) (p : Pow) (d : Dom) : Bool := s.powDown p || s.resetDown d

/-- The power domain of a register (R445, R447); mailbox data registers apart. -/
def regPow (a : Nat) : Pow :=
  if a < 0xD00000 then .core
  else if a < 0xF00000 then .aon
  else if a < 0x1000000 then
    let o := a - 0xF00000
    if (0x4000 ≤ o ∧ o < 0x4400) ∨ 0x8000 ≤ o ∨ o = FLT_CTRL.ERR_HOLD.addr - 0xF00000 then .aon else .mgmt
  else .core

/-- GLB_ and BOOT_ registers and SEC_STAT stay reachable while a reset sequence runs, and are down from the tick in which it takes
effect until STAGE reaches FW. -/
def isGlb (a : Nat) : Bool := decide (a < 0x100)
def isBoot (a : Nat) : Bool := decide (0xF08000 ≤ a) && decide (a < 0xF08024)

/-- A party as MBX_CFG codes it, where 3 acts as 0. -/
def partyOf (v : Nat) : Nat := if v = 3 then 0 else v
def State.mbxProd (s : State) (m : Nat) : Nat := partyOf (s.get (MBX_CFG.PROD m))
def State.mbxCons (s : State) (m : Nat) : Nat := partyOf (s.get (MBX_CFG.CONS m))

/-- The power domain of a mailbox's data registers, the consumer's (R352). -/
def State.mbxPow (s : State) (m : Nat) : Pow := if s.mbxCons m = 1 then .mgmt else .core

/-- MBX_CTRL.DOMAIN_DOWN (R353). A chip reset resets the core domain and the management core. -/
def State.mbxDown (s : State) (m : Nat) : Bool := s.domDown (s.mbxPow m) .chip

/-- The register at an address is down (R262, R449). -/
def State.regDown (s : State) (a : Nat) : Bool :=
  if isGlb a || isBoot a then
    s.powDown (regPow a) || (decide (s.stage < stg.fw) && !(isBoot a && s.get BOOT_STAT.CAUSE == 2))
  else if 0xD00000 ≤ a ∧ a < 0xD02000 ∧ a % 0x100 < 0x40 then s.mbxDown ((a - 0xD00000) / 0x100)
  else s.domDown (regPow a) (regDom a)

/-- A host write to a block that is down is dropped (R262). -/
def State.dropWrite (s : State) (a : Nat) : State :=
  ((s.setBit HIF_STAT.WR_DROP true).bump HIF_WR_DROP_CNT.COUNT).notify 3 a []

/-- A refused access: the host's write is dropped and told; the management core receives a bus error. -/
def State.refuseWrite (s : State) (a : Nat) (party : Nat) : State := s.when (party == 0) (·.dropWrite a)

/-! ## Posting and clearing (R354 to R357, R359) -/

/-- FULL clears in this tick and the EMPTY line pulses. -/
def State.mbxEmpty (s : State) (m : Nat) : State := (s.setBit (MBX_CTRL.FULL m) false).pulse (394 + 2 * m)

/-- A message dropped at the source: FULL clears and FWD_ERR is set. -/
def State.mbxLost (s : State) (m : Nat) : State := (s.mbxEmpty m).setBit (MBX_CTRL.FWD_ERR m) true

/-- A consumer clears the mailbox. A clear in the tick of a post comes first (R357): what the post found then was no collision, and
its message stays. -/
def State.mbxClear (s : State) (m : Nat) : State :=
  if !s.bit (MBX_CTRL.FULL m) then s
  else match s.mbx m with
    | some p =>
      if p.tick ≠ s.tick then s.mbxEmpty m
      else match p.hit with
        | some (c, n) => (((s.setBit (MBX_CTRL.COLLISION m) c).set (MBX_COLL_CNT.COUNT m) n).setMbx m (some { p with hit := none })).pulse (394 + 2 * m)
        | none => s
    | none => s.mbxEmpty m

/-- A message is posted: over a full mailbox it is a collision. A mailbox whose consumer is MESH forwards it. -/
def State.mbxPost (s : State) (m len : Nat) : State :=
  let full := s.bit (MBX_CTRL.FULL m)
  let hit := if full then some (s.bit (MBX_CTRL.COLLISION m), s.get (MBX_COLL_CNT.COUNT m)) else none
  let s := s.when full (fun s => (s.setBit (MBX_CTRL.COLLISION m) true).bump (MBX_COLL_CNT.COUNT m))
  let s := s.setMbx m (some { tick := s.tick, hit := hit })
  let s := (s.set (MBX_CTRL.LEN m) len).setBit (MBX_CTRL.FULL m) true
  let s := (s.wr (R.MBX_SEQ m) (s.rd (R.MBX_SEQ m) + 1)).pulse (393 + 2 * m)
  let s := s.when (s.bit (MBX_CFG.NOTIFY m)) (fun s =>
    if s.mbxCons m = 0 then s.notify 5 m []
    else if s.mbxCons m = 1 then { s with mcoreIrq := s.mcoreIrq ++ (if s.mcoreIrq.contains (1 + m) then [] else [1 + m]) }
    else s)
  if s.mbxCons m ≠ 2 then s
  else
    -- the old message, if still queued, is overwritten
    let s := s.each (List.range 6) (fun s p => s.modMeshPort p (fun q => { q with msgs := q.msgs.filter (fun x => x.source ≠ some m) }))
    let msg : MeshMsg := {
      dst := BitVec.ofNat 12 (s.get (MBX_FWD.DEV m)), ttl := 31, ra := false, orig := s.meshAddr,
      mbx := BitVec.ofNat 5 (s.get (MBX_FWD.MBX m)), words := (List.range (len + 1)).map (fun i => s.rd (R.MBX_DATA m i)),
      origin := none, source := some m }
    s.msgRoute msg State.mbxLost

/-- MBX_POST: a write of GO with LEN by host (0) or management core (1). Only the producer posts. -/
def execMbxPost (m : Fin 32) (len : BitVec 4) (party : Fin 2) (s : State) : Host.Outcome State Fault Refusal :=
  if s.mbxDown m then .next (s.refuseWrite (R.MBX_CTRL m) party)
  else if s.mbxProd m ≠ party.val then .next s
  else .next (s.mbxPost m len.toNat)

/-- MBX_ACK: a write of ACK by the consumer. -/
def execMbxAck (m : Fin 32) (party : Fin 2) (s : State) : Host.Outcome State Fault Refusal :=
  .next (if s.mbxCons m = party.val then s.mbxClear m else s)

/-- MBX_DATA_READ: the consumer's read of the last word clears FULL. -/
def execMbxDataRead (m : Fin 32) (i : Fin 16) (party : Fin 2) (s : State) : Host.Outcome State Fault Refusal :=
  if s.mbxDown m then .next (s.answer 0)
  else
    let w := s.rd (R.MBX_DATA m i)
    .next ((if s.mbxCons m = party.val ∧ s.get (MBX_CTRL.LEN m) = i.val then s.mbxClear m else s).answer w)

/-- MBX_DATA_WRITE: the producer's write takes effect, with COLLISION while FULL is 1. -/
def execMbxDataWrite (m : Fin 32) (i : Fin 16) (v : Word) (party : Fin 2) (s : State) : Host.Outcome State Fault Refusal :=
  if s.mbxDown m then .next (s.refuseWrite (R.MBX_DATA m i) party)
  else if s.mbxProd m ≠ party.val then .next s
  else .next ((s.when (s.bit (MBX_CTRL.FULL m)) (·.setBit (MBX_CTRL.COLLISION m) true)).wr (R.MBX_DATA m i) v)

/-- The domain of the data registers resets or powers down: a message is discarded without an EMPTY pulse (R358). -/
def State.mbxDomainLost (s : State) (p : Pow) : State :=
  s.each (List.range 32) (fun s m =>
    if s.bit (MBX_CTRL.FULL m) && s.mbxPow m == p then
      (s.setBit (MBX_CTRL.FULL m) false).bump (MBX_LOST_ON_RESET.COUNT m)
    else s)

/-! ## Remote mailbox messages (R320, R359) -/

/-- A port may carry flits. -/
def State.meshCarries (s : State) (p : Nat) : Bool := s.bit (PORT_STAT.UP p) && s.meshUse p && !s.bit (PORT_STAT.EIDLE p)

/-- A message buffer of input port `p` is free again, to be returned to the neighbour. -/
def State.returnBuffer (s : State) (p : Option Nat) : State :=
  match p with
  | some p => s.modMeshPort p (fun q => { q with returned := q.returned + 1 })
  | none => s

/-- MAILBOX_MESSAGE_SEND: port `p` sends the oldest message routed to it, holding a credit; a local mailbox then clears. -/
def execMailboxMessageSend (p : Fin 6) (s : State) : Host.Outcome State Fault Refusal :=
  let q := s.meshPort p
  match q.msgs with
  | [] => .next s
  | m :: rest =>
    if !s.meshCarries p || q.credits == 0 then .next s
    else
      let s := s.setMeshPort p { q with msgs := rest, credits := q.credits - 1, sentMsg := some m }
      let s := s.returnBuffer m.origin
      .next (match m.source with | some b => s.when (s.bit (MBX_CTRL.FULL b)) (·.mbxEmpty b) | none => s)

/-- CREDIT_FLIT_RECEIVE: the neighbour returns message buffers; it keeps two. -/
def execCreditFlitReceive (p : Fin 6) (n : Fin 3) (s : State) : Host.Outcome State Fault Refusal :=
  .next (if s.bit (PORT_STAT.UP p) then s.modMeshPort p (fun q => { q with credits := Nat.min 2 (q.credits + n) }) else s)

/-- A message reaches its destination (R359). -/
def State.remoteWrite (s : State) (m : Nat) (words : List Word) (orig : BitVec 12) : State :=
  if s.mbxProd m = 2 ∧ !s.mbxDown m then
    let s := s.when (s.bit (MBX_CTRL.FULL m)) (·.setBit (MBX_CTRL.COLLISION m) true)
    let s := s.each (List.range words.length) (fun s i => s.wr (R.MBX_DATA m i) (words.getD i 0))
    s.mbxPost m (words.length - 1)
  else (s.bump (MBX_REM_DROP_CNT.COUNT m)).raise Src.MBX_REM_DROP (slot m ++ slot orig.toNat)

/-- MAILBOX_MESSAGE_RECEIVE: a whole message on port `p`: its head, the words that arrived, and whether its CRC matches. A faulty one
is discarded and counted. -/
def execMailboxMessageReceive (p : Fin 6) (head : BitVec 64) (data : List Word) (crcOk : Bool) (s : State) :
    Host.Outcome State Fault Refusal :=
  if !s.bit (PORT_STAT.UP p) || flit.type head != 4 then .next s
  else if !crcOk || data.length != (head.extractLsb' 42 4).toNat + 1 then
    .next (((s.bump MESH_MBX_LOST_CNT.COUNT).raise Src.MESH_MBX_LOST []).returnBuffer (some p))
  else
    let ttl := flit.ttl head - 1
    let orig := head.extractLsb' 25 12
    if flit.dst head = s.meshAddr then
      .next ((s.remoteWrite (head.extractLsb' 37 5).toNat data orig).returnBuffer (some p))
    else if ttl = 0 then .next (s.meshUnreach.returnBuffer (some p))
    else
      let m : MeshMsg := { dst := flit.dst head, ttl := BitVec.ofNat 5 ttl, ra := flit.ra head, orig := orig,
                           mbx := head.extractLsb' 37 5, words := data, origin := some p, source := none }
      let routed := s.meshRoute m.dst m.ra m.origin
      .next ((s.msgRoute m State.mbxLost).when routed.isNone (·.returnBuffer (some p)))

end Sys2Proof.Machine
end

