-- ==== Sys2Proof/Machine/Event.lean ====
section
/-! DEFINITION. The event fabric (R361 to R370): producers, channels, task inputs, group tasks and the loop guard. -/

namespace Sys2Proof.Machine

/-! ## Producers (R361, R362) -/

def execEvtSwfire (ch : BitVec 8) (s : State) : Host.Outcome State Fault Refusal := .next (s.pulseChannel ch.toNat)

/-- EVT_IN_EDGE: pin `i` is sampled at a level from the end of stage POR on; the first level is the reference. The edge an entry
selects pulses its line three ticks later, and trigger states on the pin count it then (R227). -/
def execEvtInEdge (i : Fin 8) (level : Bool) (s : State) : Host.Outcome State Fault Refusal :=
  if s.stage = stg.por then .next s
  else
    let old := s.evtIn i
    let s := s.setEvtIn i (some level)
    match old with
    | none => .next s
    | some l =>
      if l = level then .next s
      else
        let edge := s.get (EVT_PROD.EDGE (384 + i))
        let hit := edge == 2 || level == (edge != 1)
        let s := s.when hit (fun s => { s with pulses := s.pulses ++ [(384 + i.val, s.tick + 3)] })
        .next (s.each (List.range 16) (fun s n =>
          let k := (s.acq n).idx
          s.when (s.acqGet n (TRG_COND.SEL n k) % 8 == i.val && s.acqBit n (TRG_COND.EDGE n k) == !level)
            (·.trgOccur n 5 (s.tick + 3))))

/-- EVT_TIMER: timer `i` pulses when TICK equals its compare value, in a tick after the write it compares from; its period is then
added. -/
def execEvtTimer (i : Fin 4) (s : State) : Host.Outcome State Fault Refusal :=
  let (c, from_) := s.tmr i
  if !s.bit (EVT_TMR_EN.EN i) || c != s.tick || !Tick.before from_ s.tick then .next s
  else
    let s := s.pulse (457 + i.val)
    let per := s.get (EVT_TMR_PER.PER i)
    .next (if per = 0 then s
      else
        let c := c + BitVec.ofNat 48 per
        (s.setTmr i (c, from_)).setPair (R.EVT_TMR_CMP_LO i) c)

/-- EVT_TMR_WRITE: a write of CMP_HI latches the compare pair. -/
def execEvtTmrWrite (i : Fin 4) (hi : BitVec 16) (s : State) : Host.Outcome State Fault Refusal :=
  let s := s.set (EVT_TMR_CMP_HI.CMP_HI i) hi.toNat
  .next (s.setTmr i (s.pair (R.EVT_TMR_CMP_LO i), s.tick))

/-! ## Channels (R363, R369) -/

/-- A channel is enabled by its own bit and its group's. -/
def State.chOn (s : State) (c : Nat) : Bool := s.bit (EVT_CH_CFG.EN c) && (s.get EVT_GRP_EN.EN).testBit (c / 8)

/-- Sets the pending pulse of a channel. -/
def State.setPend (s : State) (c : Nat) (p : Option Tick) : State :=
  (s.modEvtCh c (fun k => { k with pend := p })).setBit (EVT_CH_CFG.PEND c) p.isSome

/-- Channel `c` fires in tick `t` with a stamp. -/
def State.fireChannel (s : State) (c : Nat) (t stamp : Tick) (fromPend : Bool) : State :=
  let s := s.modEvtCh c (fun k => { k with fired := some t, fromPend := fromPend })
  { s with firings := s.firings ++ [{ ch := c, stamp := stamp, tick := t, seen := [] }] }

/-- The hold of channel `c` ends by tick `t`: every task input acknowledges by f + 8, so it ends at f + 15 (R364). A pending pulse
fires the channel then. -/
def State.holdEnd (s : State) (c : Nat) (t : Tick) : State :=
  let k := s.evtCh c
  match k.fired with
  | none => s
  | some f =>
    if Tick.before t (f + 15) then s
    else match k.pend with
      | some st => (s.setPend c none).fireChannel c (f + 15) st true
      | none => s.modEvtCh c (fun k => { k with fired := none, fromPend := false })

/-- A pulse reaches channel `c` in tick `t`. -/
def State.chPulse (s : State) (c : Nat) (t : Tick) : State :=
  if !s.chOn c then s
  else
    let w := t.toNat / 15000
    let s := s.modEvtCh c (fun k => if k.window = w then { k with count := k.count + 1 } else { k with window := w, count := 1 })
    if 1025 ≤ (s.evtCh c).count then
      let s := ((s.setBit (EVT_CH_CFG.EN c) false).setBit (EVT_CH_CFG.LOOP c) true).setPend c none
      (s.bump EVT_LOOP_CNT.COUNT).raise Src.EVT_LOOP (slot c ++ slotTick t)
    else
      let s := s.holdEnd c t
      let k := s.evtCh c
      match k.fired with
      | none => s.fireChannel c t t false
      | some f =>
        if k.fromPend ∧ f = t then s.bump (EVT_MERGE_CNT.COUNT c)
        else match k.pend with
          | none => s.setPend c (some t)
          | some _ => s.bump (EVT_MERGE_CNT.COUNT c)

/-- EVENT_PULSE: the next pulse of a producer line whose tick has come reaches its channel: as EVT_PROD routes it, or the channel
named by a decision event, a fire event or EVT_SWFIRE (1000 + channel). -/
def execEventPulse (s : State) : Host.Outcome State Fault Refusal :=
  match takeFirst (fun (p : Nat × Tick) => Tick.le p.2 s.tick) s.pulses with
  | none => .next s
  | some ((p, t), rest) =>
    let s := { s with pulses := rest }
    if 1000 ≤ p then .next (s.chPulse (p - 1000) t)
    else if s.bit (EVT_PROD.EN p) then .next (s.chPulse (s.get (EVT_PROD.CH p)) t)
    else .next s

/-- CHANNEL_HOLD_END. -/
def execChannelHoldEnd (c : Fin 256) (s : State) : Host.Outcome State Fault Refusal := .next (s.holdEnd c s.tick)

/-- LOOP_GUARD_WINDOW: at ticks with TICK mod 15,000 = 0 the counts restart. -/
def execLoopGuardWindow (s : State) : Host.Outcome State Fault Refusal :=
  if s.tick.toNat % 15000 ≠ 0 then .next s
  else
    let w := s.tick.toNat / 15000
    .next (s.each (List.range 256) (fun s c => s.modEvtCh c (fun k => if k.window = w then k else { k with window := w, count := 0 })))

/-! ## Task inputs (R364 to R368, R370) -/

/-- Task input `q` takes channel `c`. -/
def State.takes (s : State) (q c : Nat) : Bool :=
  if q < 64 then (s.pilot q).lastCh == some (BitVec.ofNat 8 c)
  else if 128 ≤ q ∧ q < 144 then s.trgOn (q - 128) 4 && s.acqGet (q - 128) (TRG_COND.SEL (q - 128) (s.acq (q - 128)).idx) % 256 == c
  else (s.bit (EVT_TASK.EN_A q) && s.get (EVT_TASK.CH_A q) == c) || (s.bit (EVT_TASK.EN_B q) && s.get (EVT_TASK.CH_B q) == c)

/-- The block of task input `q` lies in a domain that is down. -/
def State.taskDown (s : State) (q : Nat) : Bool :=
  if q < 144 then s.domDown .core .chip
  else if 216 ≤ q ∧ q < 220 then s.domDown .mgmt .chip
  else false

/-- Task input `q` is busy. -/
def State.taskBusy (s : State) (q c : Nat) : Bool :=
  if q < 64 then (match (s.pilot q).wait with | .event ch _ => ch.toNat != c | _ => true)
  else if q < 128 then s.bit (SYN_JMP.GO (q - 64))
  else if 144 ≤ q ∧ q < 152 then (s.evtOut (q - 144)).isSome
  else if 216 ≤ q ∧ q < 220 then s.mcoreIrq.contains q
  else false

/-- Task input `q` acts on an activation with the stamp and firing tick given. -/
def State.taskAct (s : State) (q : Nat) (stamp fired : Tick) : State :=
  if q < 64 then
    match (s.pilot q).wait with
    | .event _ lead => s.pilotResume q (s.pilot q) (stamp + lead.setWidth 48)
    | _ => s
  else if q < 128 then s.jumpRequest (q - 64)
  else if q < 144 then s.trgOccur (q - 128) 4 fired
  else if q < 152 then
    let up := s.tick + 2
    s.setEvtOut (q - 144) (some (up, up + BitVec.ofNat 48 (Nat.max 1 (s.get (EVT_TASK.WIDTH q)))))
  else if q < 184 then { s with groupTasks := s.groupTasks ++ [(q - 152, true, s.tick + 1)] }
  else if q < 216 then { s with groupTasks := s.groupTasks ++ [(q - 184, false, s.tick + 1)] }
  else if q < 220 then { s with mcoreIrq := s.mcoreIrq ++ [q] }
  else if s.get PWR_STAT.STATE = 3 then { s with sys := { s.sys with wake := true } }
  else s

/-- EVENT_DELIVERY: the firings two to eight ticks old that task input `q` takes and has not seen reach it in this tick, as one
activation with the earliest stamp. -/
def execEventDelivery (q : Fin 221) (s : State) : Host.Outcome State Fault Refusal :=
  let mine (f : Firing) : Bool :=
    decide (2 ≤ Tick.diff f.tick s.tick) && decide (Tick.diff f.tick s.tick ≤ 8) && !f.seen.contains q.val && s.takes q f.ch
  let hits := s.firings.filter mine
  let marked := s.firings.map (fun f => if mine f then { f with seen := f.seen ++ [q.val] } else f)
  let kept := marked.filter (fun f => decide (Tick.diff f.tick s.tick ≤ 8))
  let s' := { s with firings := kept }
  match hits with
  | [] => .next s'
  | h :: t =>
    let s := s'.when (!t.isEmpty) (·.bump (EVT_COAL_CNT.COUNT q) t.length)
    let stamp := t.foldl (fun a f => Tick.min a f.stamp) h.stamp
    if s.taskDown q then .next (s.setBit (EVT_TSTAT.DOWN q) true)
    else if s.taskBusy q h.ch then .next ((s.setBit (EVT_TSTAT.OVERRUN q) true).bump (EVT_OVR_CNT.COUNT q))
    else .next (s.taskAct q stamp h.tick)

/-- GROUP_TASK_APPLY: activations delivered in an earlier tick take effect; enable and disable of one group delivered together cancel.
A disable discards the group's pending pulses. -/
def execGroupTaskApply (s : State) : Host.Outcome State Fault Refusal :=
  let due := s.groupTasks.filter (fun (g : Nat × Bool × Tick) => Tick.le g.2.2 s.tick)
  let s := { s with groupTasks := s.groupTasks.filter (fun (g : Nat × Bool × Tick) => !Tick.le g.2.2 s.tick) }
  .next (s.each due (fun s (g : Nat × Bool × Tick) =>
    if due.contains (g.1, !g.2.1, g.2.2) then s
    else
      let w := s.get EVT_GRP_EN.EN
      if g.2.1 then s.set EVT_GRP_EN.EN (w ||| 2 ^ g.1)
      else (s.set EVT_GRP_EN.EN (w &&& (0xFFFFFFFF - 2 ^ g.1))).each (List.range 8) (fun s i =>
        s.when ((s.evtCh (8 * g.1 + i)).pend.isSome) (·.setPend (8 * g.1 + i) none))))

/-- EVT_OUT_PULSE_END. -/
def execEvtOutPulseEnd (i : Fin 8) (s : State) : Host.Outcome State Fault Refusal :=
  .next (match s.evtOut i with
    | some (_, e) => if Tick.le e s.tick then s.setEvtOut i none else s
    | none => s)

end Sys2Proof.Machine
end

