-- ==== Sys2Proof/Machine/Lanes.lean ====
section
/-! DEFINITION. The serial lanes and their ports (R291 to R308): bring-up, loss, electrical idle, equalisers, test patterns and the eye
scan. -/

namespace Sys2Proof.Machine

/-! ## Lane states (R296) -/

def ln.off : Nat := 0
def ln.cdr : Nat := 1
def ln.hunt : Nat := 2
def ln.locked : Nat := 3
def ln.up : Nat := 4
def ln.absent : Nat := 5
def ln.eidle : Nat := 6
def ln.exit : Nat := 7
def ln.loopback : Nat := 8

def State.laneSt (s : State) (l : Nat) : Nat := s.get (LANE_STAT.STATE l)

/-- States in which block lock is held: it is kept through electrical idle. -/
def ln.keeps (st : Nat) : Bool := [ln.locked, ln.up, ln.eidle, ln.exit].contains st

/-- Ticks of 10 ms, 1 ms and 8,192 blocks of 3.3 ticks (rounded up). -/
def tenMs : Nat := 15000000
def oneMs : Nat := 1500000
def aliveSpan : Nat := 27034

/-- A time stored `n` ticks ago or earlier. -/
def State.since (s : State) (t : Option Tick) (n : Nat) : Bool :=
  match t with | some t => decide ((n : Int) ≤ Tick.diff t s.tick) | none => false

/-- Lanes are out of their reset: from stage LANES on; in RECOVERY only those of the HOST port (R413, R415). -/
def State.laneAwake (s : State) (l : Nat) : Bool :=
  [6, stg.ready - 1, stg.ready].contains s.stage || (s.stage == stg.recovery && l / 4 == 6)

/-- Value sent in ALIVE.SEEN (R294). -/
def State.laneSeen (s : State) (l : Nat) : Bool :=
  (s.laneSt l == ln.locked || s.laneSt l == ln.up) && (s.lane l).lastAlive.isSome && !s.since (s.lane l).lastAlive aliveSpan

/-- The checker of R307 runs: in LOOPBACK or CDR, with a pattern selected. -/
def State.prbsRuns (s : State) (l : Nat) : Bool :=
  (s.laneSt l == ln.loopback || s.laneSt l == ln.cdr) && (s.get (LANE_CTRL.PRBS_CHK l) == 1 || s.get (LANE_CTRL.PRBS_CHK l) == 2)

/-- What a running checker has counted is a free value: no command carries the bits it saw. -/
def State.prbsSettle (s : State) (l : Nat) : State :=
  if !s.prbsRuns l then s
  else
    let s := (s.wr (R.LANE_PRBS_ERR_CNT l) (BitVec.ofNat 32 (Config.free s.freeCtr))).fresh
    (s.wr (R.LANE_PRBS_BITS l) (BitVec.ofNat 32 (Config.free s.freeCtr))).fresh

/-! ## Ports (R300) -/

/-- COPY or CHECK of a resynchronisation is abandoned (R351): the partner returns to OUT. -/
def State.resyncAbandon (s : State) : State :=
  let s := (s.set TWIN_STAT.PHASE 0).setBit TWIN_CTRL.RESYNC false
  s.when (s.twinRole == 2) (·.set TWIN_STAT.ROLE 1)

/-- A port that was UP, or in electrical idle, goes down. -/
def State.portFail (s : State) (p : Nat) : State :=
  let was := s.bit (PORT_STAT.UP p)
  if !was && !s.bit (PORT_STAT.EIDLE p) then s
  else
    let s := ((s.setBit (PORT_STAT.UP p) false).setBit (PORT_STAT.EIDLE p) false).wr (R.PORT_SKEW p) 0xFFFFFFFF
    let s := (s.when was (·.bump (PORT_DOWN_CNT.COUNT p))).raise Src.PORT_DOWN (slot p)
    if p < 6 then s.meshPortDown p State.mbxLost
    else if p = 6 then s.setBit HIF_STAT.LINK_UP false
    else
      let s := s.when (s.time.parent == some 7) (·.timeLose)
      s.when (s.get TWIN_STAT.PHASE == 1 || s.get TWIN_STAT.PHASE == 2) (·.resyncAbandon)

/-- A port enters electrical idle: it is not UP, and nothing is lost (R303). -/
def State.portIdle (s : State) (p : Nat) : State :=
  if !s.bit (PORT_STAT.UP p) then s
  else
    let s := ((s.setBit (PORT_STAT.UP p) false).setBit (PORT_STAT.EIDLE p) true).bump (PORT_DOWN_CNT.COUNT p)
    s.when (p == 6) (·.setBit HIF_STAT.LINK_UP false)

/-- A port comes UP; one that returns from electrical idle has stayed in use, but for a device whose mesh block lost it in
DEEP_SLEEP. -/
def State.portRise (s : State) (p : Nat) (dev : BitVec 12) (port : Nat) : State :=
  let idle := s.bit (PORT_STAT.EIDLE p)
  let s := (s.setBit (PORT_STAT.UP p) true).setBit (PORT_STAT.EIDLE p) false
  if p = 6 then { s.setBit HIF_STAT.LINK_UP true with sys := { s.sys with sleepIdle := some s.tick } }
  else if p < 6 ∧ (!idle ∨ !(s.meshUse p || (s.get MESH_STAT.HOLD).testBit p || (s.get MESH_STAT.TOPO).testBit p)) then s.meshPortUp p dev port
  else s

/-- All four lanes UP: the port comes UP when they agree and lie within 8 blocks; `tell` when a lane has just come UP. -/
def State.portTry (s : State) (p : Nat) (tell : Bool) : State :=
  let ls := (List.range 4).map (fun w => 4 * p + w)
  if s.bit (PORT_STAT.UP p) || ls.any (fun l => s.laneSt l != ln.up) then s
  else
    let id (l : Nat) : Nat × Nat := (s.get (LANE_PARTNER.DEV l), s.get (LANE_PARTNER.PORT l))
    let lanes := ls.map (fun l => s.get (LANE_PARTNER.LANE l))
    let cross := ls.any (fun l => id l != id (4 * p)) || (List.range 4).any (fun w => !lanes.contains w)
    let late := ls.foldl (fun m l => Nat.max m (s.lane l).behind) 0
    let early := ls.foldl (fun m l => Nat.min m (s.lane l).behind) 255
    let wide := decide (8 < late - early)
    let s := s.when (wide && tell) (fun s => (s.setBit (PORT_STAT.SKEW p) true).raise Src.PORT_SKEW (slot p))
    let s := s.when (cross && tell) (fun s => (s.setBit (PORT_STAT.MISWIRE p) true).raise Src.PORT_MISWIRE (slot p))
    if wide || cross then s.wr (R.PORT_SKEW p) 0xFFFFFFFF
    else
      let s := s.each ls (fun s l => s.set ⟨R.PORT_SKEW p, 8 * s.get (LANE_PARTNER.LANE l), 8⟩ (late - (s.lane l).behind))
      s.portRise p (BitVec.ofNat 12 (id (4 * p)).1) (id (4 * p)).2

/-! ## Moving between states -/

/-- The lane takes state `st`, with the marks that leaving UP and losing block lock leave; an eye scan stops in OFF and EIDLE. -/
def State.laneTo (s : State) (l st : Nat) : State :=
  let old := s.laneSt l
  let s := s.prbsSettle l
  let s := (s.set (LANE_STAT.STATE l) st).setBit (LANE_STAT.BLOCK_LOCK l) (ln.keeps st)
  let s := s.modLane l (fun k => { k with
    noUp := if old = ln.up ∧ st ≠ ln.up then some s.tick else k.noUp
    noLock := if ln.keeps old && !ln.keeps st then some s.tick else if ln.keeps st then none else k.noLock
    lostTold := k.lostTold && !ln.keeps st
    absentTold := k.absentTold && st ≠ ln.up })
  let s := s.when ((st == ln.off || st == ln.eidle) && (s.lane l).eye.isSome) (fun s =>
    ((s.setBit (LANE_EYE_STAT.ABORT l) true).setBit (LANE_EYE_CTRL.GO l) false).modLane l (fun k => { k with eye := none }))
  let s := s.setBit (LANE_STAT.SEEN l) (s.laneSeen l)
  if st = ln.up ∨ st = ln.exit then s
  else if st = ln.eidle then s.portIdle (l / 4)
  else if ln.keeps old then s.portFail (l / 4)
  else s

/-- Block lock is lost by the receiver: the lane hunts (R297). -/
def State.laneUnlock (s : State) (l : Nat) : State := (s.bump (LANE_LOCK_LOSS_CNT.COUNT l)).laneTo l ln.hunt

/-- LOOP selects a loopback; 4 to 7 act as NONE (R306). -/
def State.laneLoops (s : State) (l : Nat) : Bool := let v := s.get (LANE_CTRL.LOOP l); decide (1 ≤ v) && decide (v ≤ 3)

/-- Bring-up starts from CDR, with the clocks of R296 and R299 at zero. -/
def State.laneBegin (s : State) (l : Nat) : State :=
  let s := s.laneTo l ln.cdr
  let s := s.modLane l (fun k => { k with noUp := some s.tick, noLock := none, lostTold := false })
  s.when (s.laneLoops l) (·.laneTo l ln.loopback)

/-- An enabled lane that is OFF starts; a lane with either enable at 0 is OFF. -/
def State.laneEnables (s : State) (l : Nat) : State :=
  let on := s.bit (LANE_CTRL.TX_EN l) && s.bit (LANE_CTRL.RX_EN l)
  if !on then
    if s.laneSt l = ln.off then s
    else ((s.laneTo l ln.off).setBit (LANE_STAT.INV l) false).modLane l (fun k => { k with lastAlive := none, noLock := none })
  else if s.laneSt l ≠ ln.off ∨ !s.laneAwake l then s
  else (s.setBit (LANE_PARTNER.VALID l) false).laneBegin l

/-- LANE_ENABLE_WRITE. -/
def execLaneEnableWrite (l : Fin 32) (tx rx : Bool) (s : State) : Host.Outcome State Fault Refusal :=
  .next (((s.setBit (LANE_CTRL.TX_EN l) tx).setBit (LANE_CTRL.RX_EN l) rx).laneEnables l)

/-- LANE_RESTART; a lane in LOOPBACK stays there, as the row above it holds. -/
def execLaneRestart (l : Fin 32) (s : State) : Host.Outcome State Fault Refusal :=
  let s := s.setBit (LANE_CTRL.RESTART l) true
  .next (if s.laneSt l = ln.off ∨ s.laneLoops l then s else s.laneBegin l)

/-- LANE_LOOP_WRITE. -/
def execLaneLoopWrite (l : Fin 32) (v : BitVec 3) (s : State) : Host.Outcome State Fault Refusal :=
  let s := s.set (LANE_CTRL.LOOP l) v.toNat
  if s.laneSt l = ln.off then .next s
  else if s.laneLoops l then .next (if s.laneSt l = ln.loopback then s else s.laneTo l ln.loopback)
  else if s.laneSt l = ln.loopback then
    -- the 10 ms of R299 count the time without lock outside LOOPBACK
    .next ((s.laneTo l ln.cdr).modLane l (fun k => { k with noLock := k.noLock.map (fun _ => s.tick) }))
  else .next s

/-- A generator or checker may be selected only in LOOPBACK or CDR (R307). -/
def State.prbsSelect (s : State) (l : Nat) (f : Rf) (v : Nat) : State :=
  if (v = 1 ∨ v = 2) ∧ s.laneSt l ≠ ln.loopback ∧ s.laneSt l ≠ ln.cdr then s.setBit (LANE_STAT.CFG_REJ l) true
  else s.set f v

/-- PRBS_GEN_WRITE. -/
def execPrbsGenWrite (l : Fin 32) (v : BitVec 2) (s : State) : Host.Outcome State Fault Refusal :=
  .next (s.prbsSelect l (LANE_CTRL.PRBS_GEN l) v.toNat)

/-- PRBS_CHK_WRITE. -/
def execPrbsChkWrite (l : Fin 32) (v : BitVec 2) (s : State) : Host.Outcome State Fault Refusal :=
  .next ((s.prbsSettle l).prbsSelect l (LANE_CTRL.PRBS_CHK l) v.toNat)

/-- TXEQ_WRITE: MAIN below 32 acts as 32, POST above 31 as 31. -/
def execTxeqWrite (l : Fin 32) (w : BitVec 16) (s : State) : Host.Outcome State Fault Refusal :=
  let s := s.set ⟨R.LANE_TXEQ l, 0, 16⟩ w.toNat
  let pre := s.get (LANE_TXEQ.PRE l)
  let main := Nat.max 32 (s.get (LANE_TXEQ.MAIN l))
  let post := Nat.min 31 (s.get (LANE_TXEQ.POST l))
  .next (s.modLane l (fun k => { k with txeq := BitVec.ofNat 16 (pre + main * 16 + post * 1024) }))

/-- RXEQ_WRITE. Whether it costs the lane its lock is the receiver's affair (BLOCK_LOCK_LOSS). -/
def execRxeqWrite (l : Fin 32) (w : BitVec 6) (s : State) : Host.Outcome State Fault Refusal :=
  .next (s.set ⟨R.LANE_RXEQ l, 0, 6⟩ w.toNat)

/-- CDR_LOCK. -/
def execCdrLock (l : Fin 32) (s : State) : Host.Outcome State Fault Refusal :=
  .next (if s.laneSt l = ln.cdr then s.laneTo l ln.hunt else s)

/-- BLOCK_LOCK. -/
def execBlockLock (l : Fin 32) (inv : Bool) (s : State) : Host.Outcome State Fault Refusal :=
  .next (if s.laneSt l = ln.hunt then (s.laneTo l ln.locked).setBit (LANE_STAT.INV l) inv else s)

/-- BLOCK_LOCK_LOSS: `bad` invalid headers have been counted since the last report; 16 within 64 lose the lock. -/
def execBlockLockLoss (l : Fin 32) (bad : BitVec 32) (s : State) : Host.Outcome State Fault Refusal :=
  .next (if s.laneSt l = ln.locked ∨ s.laneSt l = ln.up then
      ((s.bump (LANE_HDR_ERR_CNT.COUNT l) bad.toNat).lifeBump (328 + l) bad.toNat).when (decide (16 ≤ bad.toNat)) (·.laneUnlock l)
    else s)

/-! ## ALIVE (R294, R295) -/

/-- ALIVE_SEND: every transmitter that drives its own stream sends one. -/
def execAliveSend (l : Fin 32) (s : State) : Host.Outcome State Fault Refusal :=
  let st := s.laneSt l
  let pattern := (st = ln.loopback ∨ st = ln.cdr) ∧ (s.get (LANE_CTRL.PRBS_GEN l) = 1 ∨ s.get (LANE_CTRL.PRBS_GEN l) = 2)
  let far := st = ln.loopback ∧ s.get (LANE_CTRL.LOOP l) = 3
  if st = ln.off ∨ st = ln.eidle ∨ pattern ∨ far then .next s
  else
    let seen := s.laneSeen l
    let s := s.setBit (LANE_STAT.SEEN l) seen
    let k := s.lane l
    let w := BitVec.ofNat 64 (0x33 + s.get MESH_CFG.ADDR * 2 ^ 8 + l.val / 4 * 2 ^ 20 + l.val % 4 * 2 ^ 23 + flagNat seen * 2 ^ 25 +
      k.seq.toNat * 2 ^ 32)
    .next (s.setLane l { k with seq := k.seq + 1, sent := w })

/-- ALIVE_RECEIVE: a locked receiver takes an ALIVE, `behind` blocks after the port's earliest lane. -/
def execAliveReceive (l : Fin 32) (w : BitVec 64) (behind : BitVec 8) (s : State) : Host.Outcome State Fault Refusal :=
  let st := s.laneSt l
  if (st ≠ ln.locked ∧ st ≠ ln.up) ∨ w.extractLsb' 0 8 ≠ 0x33 then .next s
  else
    let s := s.set (LANE_PARTNER.DEV l) (w.extractLsb' 8 12).toNat
    let s := s.set (LANE_PARTNER.PORT l) (w.extractLsb' 20 3).toNat
    let s := s.set (LANE_PARTNER.LANE l) (w.extractLsb' 23 2).toNat
    let s := (s.setBit (LANE_PARTNER.VALID l) true).modLane l (fun k => { k with lastAlive := some s.tick, behind := behind.toNat })
    let rise := st == ln.locked && w.getLsbD 25
    let s := if rise then s.laneTo l ln.up else s.setBit (LANE_STAT.SEEN l) true
    .next (s.portTry (l / 4) rise)

/-- ALIVE_TIMEOUT: no ALIVE for 8,192 blocks. -/
def execAliveTimeout (l : Fin 32) (s : State) : Host.Outcome State Fault Refusal :=
  if !s.since (s.lane l).lastAlive aliveSpan then .next s
  else .next (if s.laneSt l = ln.up then s.laneTo l ln.locked else s.setBit (LANE_STAT.SEEN l) (s.laneSeen l))

/-! ## Absence and loss (R298, R299) -/

/-- PARTNER_ABSENT_ENTRY: 100 ms without UP. -/
def execPartnerAbsentEntry (l : Fin 32) (s : State) : Host.Outcome State Fault Refusal :=
  let st := s.laneSt l
  if (st ≠ ln.cdr ∧ st ≠ ln.hunt ∧ st ≠ ln.locked) ∨ !s.since (s.lane l).noUp (10 * tenMs) then .next s
  else
    let s := s.laneTo l ln.absent
    let told := (s.lane l).absentTold
    let s := s.modLane l (fun k => { k with absentTold := true, lastRetry := some s.tick })
    .next (s.when (!told) (fun s => (s.setBit (LANE_STAT.ABSENT l) true).raise Src.LANE_ABSENT (slot l)))

/-- PARTNER_RETRY: every 10 ms. -/
def execPartnerRetry (l : Fin 32) (gained : Bool) (s : State) : Host.Outcome State Fault Refusal :=
  if s.laneSt l ≠ ln.absent ∨ !s.since (s.lane l).lastRetry tenMs then .next s
  else
    let s := s.modLane l (fun k => { k with lastRetry := k.lastRetry.map (· + BitVec.ofNat 48 tenMs) })
    .next (if gained then (s.laneTo l ln.locked).modLane l (fun k => { k with noUp := some s.tick }) else s)

/-- LANE_LOSS_TIMEOUT: 10 ms without the block lock once held. -/
def execLaneLossTimeout (l : Fin 32) (s : State) : Host.Outcome State Fault Refusal :=
  let k := s.lane l
  let st := s.laneSt l
  if (st = ln.cdr ∨ st = ln.hunt ∨ st = ln.absent) ∧ s.since k.noLock tenMs ∧ !k.lostTold then
    .next (((s.setLane l { k with lostTold := true }).setBit (LANE_STAT.LOST l) true).raise Src.LANE_LOST (slot l))
  else .next s

/-- CONTROL_BLOCK_RECEIVE: a type that no rule defines is counted (R293). -/
def execControlBlockReceive (l : Fin 32) (type : BitVec 8) (s : State) : Host.Outcome State Fault Refusal :=
  let known := [0x0F, 0x33, 0x3C, 0x55, 0x5A].contains type.toNat
  let st := s.laneSt l
  .next (if known ∨ (st ≠ ln.locked ∧ st ≠ ln.up) then s else s.bump (LANE_BLK_ERR_CNT.COUNT l))

/-! ## Electrical idle (R303, R304) -/

/-- EIDLE_REQUEST: acts on lane zero of a port only. -/
def execEidleRequest (l : Fin 32) (s : State) : Host.Outcome State Fault Refusal :=
  .next (if l.val % 4 = 0 then s.setBit (LANE_CTRL.EIDLE l) true else s)

/-- Nothing waits to be sent on port `p`. -/
def State.portEmpty (s : State) (p : Nat) : Bool := (s.meshPort p).queue.isEmpty && (s.meshPort p).msgs.isEmpty

/-- EIDLE_ENTRY_SEND: requested by software, or by DEEP_SLEEP. -/
def execEidleEntrySend (p : Fin 8) (s : State) : Host.Outcome State Fault Refusal :=
  let asked := s.bit (LANE_CTRL.EIDLE (4 * p)) || s.get PWR_STAT.STATE == 3
  if !asked || !s.bit (PORT_STAT.UP p) || !s.portEmpty p then .next s
  else .next (s.each (List.range 4) (fun s w =>
    (s.laneTo (4 * p + w) ln.eidle).modLane (4 * p + w) (fun k => { k with keepSent := some s.tick, keepSeen := some s.tick })))

/-- EIDLE_ENTER_RECEIVE: four in a row; in EIDLE they end a keep-alive burst. -/
def execEidleEnterReceive (l : Fin 32) (s : State) : Host.Outcome State Fault Refusal :=
  if s.laneSt l = ln.up then
    .next ((s.laneTo l ln.eidle).modLane l (fun k => { k with keepSent := some s.tick, keepSeen := some s.tick }))
  else if s.laneSt l = ln.eidle then .next (s.modLane l (fun k => { k with keepSeen := some s.tick }))
  else .next s

/-- KEEPALIVE_SEND: every 1 ms in EIDLE. -/
def execKeepaliveSend (l : Fin 32) (s : State) : Host.Outcome State Fault Refusal :=
  .next (if s.laneSt l = ln.eidle ∧ s.since (s.lane l).keepSent oneMs then
      s.modLane l (fun k => { k with keepSent := k.keepSent.map (· + BitVec.ofNat 48 oneMs) })
    else s)

/-- KEEPALIVE_TIMEOUT: no burst for 4 ms. -/
def execKeepaliveTimeout (l : Fin 32) (s : State) : Host.Outcome State Fault Refusal :=
  .next (if s.laneSt l = ln.eidle ∧ s.since (s.lane l).keepSeen (4 * oneMs) then s.laneUnlock l else s)

/-- Every lane of the port that idles starts its training burst. -/
def State.portWake (s : State) (p : Nat) : State :=
  s.each ((List.range 4).map (fun w => 4 * p + w)) (fun s l =>
    s.when (s.laneSt l == ln.eidle) (fun s => (s.laneTo l ln.exit).modLane l (fun k => { k with exit := some s.tick })))

/-- EIDLE_EXIT_REQUEST: EIDLE written to 0 (`clear`), a wake, or a flit or frame queued. -/
def execEidleExitRequest (p : Fin 8) (clear : Bool) (s : State) : Host.Outcome State Fault Refusal :=
  .next ((s.when clear (·.setBit (LANE_CTRL.EIDLE (4 * p)) false)).portWake p)

/-- PARTNER_EXIT: the port makes its own exit at once. -/
def execPartnerExit (p : Fin 8) (s : State) : Host.Outcome State Fault Refusal := .next (s.portWake p)

/-- EIDLE_EXIT_COMPLETE: 16 headers after the 192-tick burst. -/
def execEidleExitComplete (l : Fin 32) (ok : Bool) (s : State) : Host.Outcome State Fault Refusal :=
  if s.laneSt l ≠ ln.exit ∨ !s.since (s.lane l).exit 192 then .next s
  else if ok then .next ((s.laneTo l ln.up).portTry (l / 4) true)
  else .next (s.laneUnlock l)

/-! ## Eye scan (R308) -/

/-- EYE_SCAN_GO. A point asked for where the receiver has no clock is abandoned at once. -/
def execEyeScanGo (l : Fin 32) (w : Word) (s : State) : Host.Outcome State Fault Refusal :=
  let s := s.wr (R.LANE_EYE_CTRL l) ((w &&& 0xF7F3F) ||| (s.rd (R.LANE_EYE_CTRL l) &&& 0x80000000))
  if !w.getLsbD 31 || (s.lane l).eye.isSome then .next s
  else
    let s := s.wr (R.LANE_EYE_STAT l) 0
    if s.laneSt l = ln.off ∨ s.laneSt l = ln.eidle then .next (s.setBit (LANE_EYE_STAT.ABORT l) true)
    else .next ((s.setBit (LANE_EYE_CTRL.GO l) true).modLane l (fun k => { k with eye := some s.tick }))

/-- EYE_SCAN_DONE: 256 ticks of settling, then 2^(DWELL+16) bits at 20 a tick. -/
def execEyeScanDone (l : Fin 32) (errs : Word) (s : State) : Host.Outcome State Fault Refusal :=
  let span := 256 + (2 ^ (s.get (LANE_EYE_CTRL.DWELL l) + 16) + 19) / 20
  if !s.since (s.lane l).eye span then .next s
  else
    let s := (s.modLane l (fun k => { k with eye := none })).wr (R.LANE_EYE_ERR l) errs
    .next ((s.setBit (LANE_EYE_STAT.DONE l) true).setBit (LANE_EYE_CTRL.GO l) false)

end Sys2Proof.Machine
end

