-- ==== Sys2Proof/Machine/Twin.lean ====
section
/-! DEFINITION. Twin pairs (R335 to R351): roles, heartbeats, yielding, takeover, lockstep entries and resynchronisation. -/

namespace Sys2Proof.Machine

def role.solo : Nat := 0
def role.out : Nat := 1
def role.sync : Nat := 2
def role.standby : Nat := 3
def role.taking : Nat := 4
def role.active : Nat := 5

/-- A twin strobe (R338). -/
def State.twinStrobe (s : State) : Bool := s.tick.toNat % 1500 == 0

/-- Ticks of RF_SETTLE: 0 acts as 1, above 38 as 38. -/
def State.rfSettle (s : State) : Nat := Nat.max 1 (Nat.min 38 (s.get TWIN_CFG.RF_SETTLE)) * 1500

/-- The partner's role from its last heartbeat. -/
def State.partnerRole (s : State) : Nat := s.get TWIN_STAT.PROLE

/-- Every berth muted until its unmute tick, or for good. -/
def allBerths : BitVec 64 := BitVec.allOnes 64

/-- The role after a write of TWIN_CFG, which is accepted in SOLO and OUT (R337). -/
def State.twinConfigure (s : State) : State :=
  if s.bit TWIN_CFG.EN then
    if s.twinRole = role.solo then { s.set TWIN_STAT.ROLE role.out with twin := { s.twin with takeLow := false, closed := false } } else s
  else
    { s.set TWIN_STAT.ROLE role.solo with twin := { s.twin with takeLow := s.stage == stg.ready } }

/-- The role ends in OUT: outputs muted, switches open, no resynchronisation. -/
def State.twinOut (s : State) : State :=
  let s := ((s.set TWIN_STAT.ROLE role.out).set TWIN_STAT.PHASE 0).setBit TWIN_CTRL.RESYNC false
  let s := (s.wr R.TWIN_LOCKSTEP_LO 0).wr R.TWIN_LOCKSTEP_HI 0
  { s with twin := { s.twin with takeLow := false, closed := false, sensed := none } }

/-- Mutes the fast outputs, releases TAKE_N and stops the pilots with cause TAKEOVER (R347). -/
def State.twinMute (s : State) : State :=
  let s := { s with twWait := allBerths, twin := { s.twin with takeLow := false } }
  s.each (List.range 64) (fun s b => s.when (s.pilotActive b) (fun s => (s.batchStart b).stopPilot b cause.takeover))

/-- The lines of a yielding twin park behind open switches, and it is OUT (R345). -/
def State.yieldPark (s : State) : State :=
  let s := { s with twin := { s.twin with yieldAt := none, parked := true } }
  (s.each (List.range 64) (fun s b => s.park b)).twinOut

/-- An ACTIVE twin yields (R345): it holds its bias stages for a STANDBY partner, else it parks at once. -/
def State.twinYield (s : State) : State :=
  if s.twinRole ≠ role.active ∨ s.twin.yieldAt.isSome then s
  else if s.partnerRole = role.standby then { s with twin := { s.twin with yieldAt := some s.tick, parked := false } }
  else s.twinMute.yieldPark

/-- TWIN_YIELD. -/
def execTwinYield (s : State) : Host.Outcome State Fault Refusal := .next ((s.setBit TWIN_CTRL.YIELD true).twinYield)

/-- YIELD_PARK: the switches have opened after the partner's TAKE_N was sensed, or 50 µs have passed. -/
def execYieldPark (s : State) : Host.Outcome State Fault Refusal :=
  match s.twin.yieldAt with
  | none => .next s
  | some t =>
    if s.twinRole = role.out then .next s.yieldPark
    else if (75000 : Int) ≤ Tick.diff t s.tick then .next s.twinMute.yieldPark
    else .next s

/-! ## Detection (R344, R346) -/

/-- The ledger continues from what the active twin had mirrored, and the shot in flight ends ABANDONED at tick `d` (R341, R346). -/
def State.takeoverShot (s : State) (b : Nat) (d : Tick) : State :=
  let g := s.ledger b
  let g := match s.mirrorLedger b with
    | [done, infl, st, lo, hi, seq] =>
      { g with
        lastDone := done, inflight := infl, state := st.extractLsb' 0 3, lastStatus := st.extractLsb' 4 2,
        cause := st.extractLsb' 8 4, lastCause := st.extractLsb' 12 4, lastTick := hi.extractLsb' 0 16 ++ lo, seq := seq }
    | _ => g
  let s := (s.setMirrorLedger b []).setLedger b g
  if g.state = 2 ∨ g.state = 3 then
    s.setLedger b { (g.finish g.inflight 2 (if g.cause = 0 then BitVec.ofNat 4 cause.takeover else g.cause) d) with
      state := 0, aband := g.aband + 1 }
  else s

/-- A STANDBY twin detects a failure in tick `d`: it is TAKING, its LOG waits resolve on its own data, TAKE_N falls within 4 ticks
of d + 1, and the shots in flight end. -/
def State.twinDetect (s : State) (d : Tick) : State :=
  if s.twinRole ≠ role.standby then s
  else
    let s := (s.set TWIN_STAT.ROLE role.taking).capture R.TWIN_TAKE_TICK_LO d
    let s := (s.set TWIN_STAT.PHASE 0).setBit TWIN_CTRL.RESYNC false
    let s := { s with
      twWait := allBerths, logs := [], logWait := [], twinBias := [],
      twin := { s.twin with detect := some d, takeLow := true, fall := some (d + 5), closed := false, claimed := true } }
    s.each (List.range 64) (fun s b => s.takeoverShot b d)

/-- TWIN_TAKE: detection in the tick after the write; a twin that is not STANDBY refuses, one that is TAKING ignores it. -/
def execTwinTake (s : State) : Host.Outcome State Fault Refusal :=
  let s := s.setBit TWIN_CTRL.TAKE true
  if s.twinRole = role.standby then .next (s.twinDetect (s.tick + 1))
  else if s.twinRole = role.taking then .next s
  else .next (s.raise Src.TWIN_TAKE_REFUSED [])

/-- HEARTBEAT_SEND: at every twin strobe, with YIELD while this twin yields. SYNC_OK is a free value: no rule defines it. -/
def execHeartbeatSend (s : State) : Host.Outcome State Fault Refusal :=
  let t := s.twin
  let again := t.sent.extractLsb' 0 4 == 8 && t.sent.extractLsb' 32 32 == s.tick.setWidth 32
  if !s.bit TWIN_CFG.EN || !s.twinStrobe || again then .next s
  else
    let w := BitVec.ofNat 64 (8 + s.twinRole * 2 ^ 4 + flagNat t.yieldAt.isSome * 2 ^ 8 + Config.free s.freeCtr % 2 * 2 ^ 9 +
      t.seq.toNat * 2 ^ 16 + s.tick.toNat % 2 ^ 32 * 2 ^ 32)
    .next { s.fresh with twin := { t with seq := t.seq + 1, sent := w } }

/-- The tick nearest to now with the low bits given. -/
def State.nearTick (s : State) (lo : BitVec 32) : Tick :=
  let t : Tick := s.tick.extractLsb' 32 16 ++ lo
  if 2 ^ 31 < Tick.diff s.tick t then t - BitVec.ofNat 48 (2 ^ 32)
  else if Tick.diff s.tick t < -(2 ^ 31) then t + BitVec.ofNat 48 (2 ^ 32) else t

/-- HEARTBEAT_RECEIVE: it answers for its strobe unless that has been counted as missed. -/
def execHeartbeatReceive (w : BitVec 64) (s : State) : Host.Outcome State Fault Refusal :=
  if !s.bit TWIN_CFG.EN || !s.bit (PORT_STAT.UP 7) || w.extractLsb' 0 4 != 8 then .next s
  else
    let st := s.nearTick (w.extractLsb' 32 32)
    let s := s.set TWIN_STAT.PROLE (w.extractLsb' 4 3).toNat
    let timely := decide (Tick.diff st s.tick ≤ 64)
    let s := if timely then
        { s.setBit TWIN_STAT.HB_OK true with twin := { s.twin with strobe := some st, misses := 0, lostTold := false } }
      else s
    .next (s.when (w.getLsbD 8) (·.twinDetect s.tick))

/-- HEARTBEAT_MISS: no heartbeat by 64 ticks after a strobe. The fourth in a row makes a STANDBY twin detect. -/
def execHeartbeatMiss (s : State) : Host.Outcome State Fault Refusal :=
  let st := s.tick - BitVec.ofNat 48 (s.tick.toNat % 1500)
  let known := match s.twin.strobe with | some t => Tick.le st t | none => false
  if !s.bit TWIN_CFG.EN || known || s.tick.toNat % 1500 < 64 then .next s
  else
    let n := s.twin.misses + 1
    let s := { (s.setBit TWIN_STAT.HB_OK false).bump TWIN_HB_MISS_CNT.COUNT with twin := { s.twin with strobe := some st, misses := n } }
    if s.twinRole = role.active ∧ !s.twin.lostTold then
      .next { s.raise Src.TWIN_HB_LOST [] with twin := { s.twin with lostTold := true } }
    else .next (s.when (decide (4 ≤ n)) (·.twinDetect s.tick))

/-! ## Taking over (R346, R347, R349) -/

/-- TAKEOVER_SWITCH_CLOSE. -/
def execTakeoverSwitchClose (s : State) : Host.Outcome State Fault Refusal :=
  match s.twin.detect with
  | some d =>
    if s.twinRole = role.taking ∧ !s.twin.closed ∧ s.twinStrobe ∧ Tick.le (d + 2) s.tick then
      .next { s with twin := { s.twin with closed := true } }
    else .next s
  | none => .next s

/-- TAKEOVER_ACTIVE. -/
def execTakeoverActive (s : State) : Host.Outcome State Fault Refusal :=
  match s.twin.fall with
  | some f =>
    if s.twinRole = role.taking ∧ s.twinStrobe ∧ Tick.le (f + BitVec.ofNat 48 s.rfSettle) s.tick then
      let s := ((s.set TWIN_STAT.ROLE role.active).bump TWIN_TAKE_CNT.COUNT).lifeBump 361
      let s := (s.wr R.TWIN_LOCKSTEP_LO 0).wr R.TWIN_LOCKSTEP_HI 0
      .next (s.raise Src.TWIN_TAKEOVER [])
    else .next s
  | none => .next s

/-- This twin keeps the lines when both have claimed them: the twin without PRIMARY yields, and with both or neither the one with the
higher address. A claim after start-up is made with PRIMARY; what the partner of a TAKING twin has is a free value. -/
def State.claimStands (s : State) : Bool :=
  let mine := s.bit TWIN_CFG.PRIMARY
  let theirs := s.twinRole == role.active || Config.free s.freeCtr % 2 == 1
  if mine != theirs then mine else decide (s.get MESH_CFG.ADDR < s.get (LANE_PARTNER.DEV 28))

/-- PARTNER_TAKE_SENSE: the partner's TAKE_N as sensed on EVT_IN[SENSE]. -/
def execPartnerTakeSense (low : Bool) (s : State) : Host.Outcome State Fault Refusal :=
  let was := s.bit TWIN_STAT.PARTNER_TAKE
  let s := s.setBit TWIN_STAT.PARTNER_TAKE low
  if !low || was || s.twin.sensed.isSome then .next s
  else
    let both := s.twin.claimed && (match s.twin.fall with | some f => decide (Int.natAbs (Tick.diff f s.tick) ≤ 8) | none => false)
    let give (s : State) : State := let s := s.twinMute; { s with twin := { s.twin with sensed := some s.tick } }
    if both ∧ (s.twinRole = role.active ∨ s.twinRole = role.taking) then
      let stands := s.claimStands
      let s := s.fresh
      .next (if stands then s else give (s.raise Src.TWIN_TAKE_REFUSED []))
    else if s.twinRole = role.active then .next (give s)
    else .next s

/-- YIELD_SWITCH_OPEN: at the second strobe after sensing. -/
def execYieldSwitchOpen (s : State) : Host.Outcome State Fault Refusal :=
  match s.twin.sensed with
  | some t =>
    let second := (t.toNat / 1500 + 2) * 1500
    .next (if Tick.le (BitVec.ofNat 48 second) s.tick then s.twinOut else s)
  | none => .next s

/-- TWIN_PRIMARY_CLAIM: once after start-up. -/
def execTwinPrimaryClaim (s : State) : Host.Outcome State Fault Refusal :=
  if s.bit TWIN_CFG.EN ∧ s.bit TWIN_CFG.PRIMARY ∧ s.twinRole = role.out ∧ s.stage = stg.ready ∧ !s.bit TWIN_STAT.PARTNER_TAKE ∧
      !s.twin.claimed then
    let s := s.set TWIN_STAT.ROLE role.active
    .next { s with twWait := 0, twin := { s.twin with claimed := true, takeLow := true, fall := some (s.tick + 4), closed := true } }
  else .next s

/-! ## Lockstep (R342, R343) -/

/-- LOG_RECEIVE: an entry for a standby pilot. A branch resolves at once, on the oldest branch of the berth that has not. -/
def execLogReceive (w : BitVec 64) (s : State) : Host.Outcome State Fault Refusal :=
  if s.twinRole ≠ role.standby ∨ !s.bit (PORT_STAT.UP 7) ∨ w.extractLsb' 0 4 ≠ 10 then .next s
  else
    let b := (w.extractLsb' 4 6).toNat
    let r := w.extractLsb' 16 48
    if w.extractLsb' 10 3 ≠ 4 then .next (s.modLog b (· ++ [(w.extractLsb' 10 3, r)]))
    else
      let open_ := [0, 1].filter (fun c => s.ctxReady b (s.ctx (2 * b + c)))
      let first := match open_ with
        | [c, d] => if Tick.before (s.ctx (2 * b + d)).tb (s.ctx (2 * b + c)).tb then [d] else [c]
        | l => l
      .next (s.each first (fun s c =>
        let s := s.modCtx (2 * b + c) (fun k => { k with
          kept := some (r.extractLsb' 0 2, r.getLsbD 2, k.tb - 2 - (r.extractLsb' 16 16).setWidth 48) })
        s.resolveCtx b 2 c (r.getLsbD 32) (r.getLsbD 3)))

/-- BIAS_FLIT_RECEIVE: a code for a line and its strobe. -/
def execBiasFlitReceive (w : BitVec 64) (s : State) : Host.Outcome State Fault Refusal :=
  if s.twinRole ≠ role.standby ∨ !s.bit (PORT_STAT.UP 7) ∨ w.extractLsb' 0 4 ≠ 11 then .next s
  else
    let lo := (w.extractLsb' 28 36).toNat
    -- the strobe lies ahead: the first tick from now on with these low bits
    let t := s.tick + BitVec.ofNat 48 ((2 ^ 36 + lo - s.tick.toNat % 2 ^ 36) % 2 ^ 36)
    .next { s with twinBias := s.twinBias ++ [((w.extractLsb' 4 6).toNat, w.extractLsb' 10 18, t)] }

/-- A berth comes into lockstep at its START_BATCH (R350); the resynchronisation ends with the last. -/
def State.joinBerth (s : State) (b : Nat) : State :=
  let f : Rf := if b < 32 then TWIN_LOCKSTEP_LO.MASK else TWIN_LOCKSTEP_HI.MASK
  let s := s.set f (s.get f ||| 2 ^ (b % 32))
  s.when (s.rd R.TWIN_LOCKSTEP_LO == 0xFFFFFFFF && s.rd R.TWIN_LOCKSTEP_HI == 0xFFFFFFFF)
    (fun s => (s.set TWIN_STAT.PHASE 0).setBit TWIN_CTRL.RESYNC false)

/-! ## Resynchronisation (R350, R351) -/

/-- TWIN_RESYNC. -/
def execTwinResync (s : State) : Host.Outcome State Fault Refusal :=
  if s.twinRole = role.active ∧ s.partnerRole = role.out ∧ s.get TWIN_STAT.PHASE = 0 then
    let s := (s.setBit TWIN_CTRL.RESYNC true).set TWIN_STAT.PHASE 1
    .next { (s.wr R.TWIN_LOCKSTEP_LO 0).wr R.TWIN_LOCKSTEP_HI 0 with twin := { s.twin with tries := 0 } }
  else .next s

/-- RESYNC_COPY_DONE. -/
def execResyncCopyDone (s : State) : Host.Outcome State Fault Refusal :=
  .next (if s.get TWIN_STAT.PHASE = 1 then s.set TWIN_STAT.PHASE 2 else s)

/-- RESYNC_CHECK_DONE: both twins find the regions the same, or the copy is made again; the third mismatch ends it. -/
def execResyncCheckDone (same : Bool) (s : State) : Host.Outcome State Fault Refusal :=
  if s.get TWIN_STAT.PHASE ≠ 2 then .next s
  else if same then .next ((s.set TWIN_STAT.PHASE 3).when (s.twinRole == role.sync) (·.set TWIN_STAT.ROLE role.standby))
  else
    let n := s.twin.tries + 1
    let s := { s with twin := { s.twin with tries := n } }
    if n < 3 then .next (s.set TWIN_STAT.PHASE 1)
    else .next (s.resyncAbandon.raise Src.TWIN_SYNC_FAIL [])

end Sys2Proof.Machine
end

