-- ==== Sys2Proof/Machine/Fault.lean ====
section
/-! DEFINITION. The event recorder and the lifetime set (R397 to R405), the fault collector, its reactions and the first-fault capture
(R386 to R396), and the start of a reset (R417). -/

namespace Sys2Proof.Machine

/-! ## CRC-32C -/

/-- One byte of the reflected CRC-32C, polynomial 0x1EDC6F41. -/
def crcByte (c : Word) (b : BitVec 8) : Word :=
  (List.range 8).foldl (fun (c : Word) _ => if c.getLsbD 0 then (c >>> 1) ^^^ 0x82F63B78 else c >>> 1) (c ^^^ b.setWidth 32)

/-- CRC-32C of bytes. -/
def crc32c (bs : List (BitVec 8)) : Word := ~~~(bs.foldl crcByte 0xFFFFFFFF)

/-- The bytes of 32-bit words, little-endian. -/
def word32Bytes (ws : List Word) : List (BitVec 8) := ws.flatMap (fun w => (List.range 4).map (fun i => w.extractLsb' (8 * i) 8))

/-! ## Records (R398 to R403) -/

def kd.fault : Nat := 1
def kd.boot : Nat := 2
def kd.orderly : Nat := 3
def kd.shutdown : Nat := 4
def kd.dropped : Nat := 5

/-- Eight payload slots as two words. -/
def slotWord (l : List Nat) (k : Nat) : BitVec 64 :=
  BitVec.ofNat 64 ((List.range 4).foldl (fun a i => a + l.getD (4 * k + i) 0 % 65536 * 2 ^ (16 * i)) 0)

/-- Word 7: CRC-32C over bytes 0 to 55, and COMMIT. -/
def Rec.seal (r : Rec) : BitVec 64 := (0x3C3CA5A5 : Word) ++ crc32c (wordBytes r.words)

/-- The 16 words of a record as REC_DATA shows them. -/
def Rec.data (r : Rec) : List Word := (r.words ++ [r.seal]).flatMap (fun w => [w.extractLsb' 0 32, w.extractLsb' 32 32])

def State.modRecorder (s : State) (f : RecSt → RecSt) : State := { s with recorder := f s.recorder }

/-- REC_STAT.QUEUED. -/
def State.showQueued (s : State) : State := s.set REC_STAT.QUEUED s.recorder.queue.length

/-- Words 0 to 6 of a record but its SEQ. -/
def State.recWords (s : State) (kind : Nat) (at_ : Tick) (head p0 p1 : BitVec 64) (ns : Word) : List (BitVec 64) :=
  [BitVec.ofNat 64 (s.get REC_PCYC.PCYC * 2 ^ 32 + kind * 2 ^ 56),
    BitVec.ofNat 64 (s.get REC_HOURS.HOURS + s.get REC_SECS.SECS * 2 ^ 24),
    at_.setWidth 64, head, p0, p1, ns.setWidth 64]

/-- A record that finds the queue full is dropped (R400). -/
def State.recDrop (s : State) : State :=
  let first := !s.recorder.dropRun
  let s := (s.bump REC_DROP_CNT.COUNT).modRecorder (fun r => { r with dropRun := true, dropped := r.dropped + 1 })
  s.when first (·.raise Src.REC_DROP (slot 1))

/-- A record joins the queue with the next SEQ. -/
def State.recJoin (s : State) (ws : List (BitVec 64)) : State :=
  s.modRecorder (fun r => { r with
    next := r.next + 1,
    queue := r.queue ++ [{ seq := r.next, words := listSet ws 0 (ws.getD 0 0 ||| r.next.setWidth 64), good := true }] })

/-- A record is queued; after a run of drops a DROPPED record goes first. In DEEP_SLEEP the always-on domain holds up to 8. -/
def State.recPut (s : State) (kind : Nat) (ws : List (BitVec 64)) : State :=
  if s.get PWR_STAT.STATE = 3 then
    if s.recorder.asleep.length < 8 then s.modRecorder (fun r => { r with asleep := r.asleep ++ [(kind, ws)] })
    else s.recDrop
  else
    let room (s : State) : Bool := decide (s.recorder.queue.length < 256)
    if !room s then s.recDrop
    else
      let s := if !s.recorder.dropRun then s
        else
          let n := s.recorder.dropped
          (s.modRecorder (fun r => { r with dropRun := false, dropped := 0 })).recJoin
            (s.recWords kd.dropped s.tick 0 (slotWord (slotWide n) 0) 0 s.timeNs)
      (if room s then s.recJoin ws else s.recDrop).showQueued

/-- A record of an event of this tick, with its payload slots. -/
def State.recEvent (s : State) (kind : Nat) (slots : List Nat) : State :=
  s.recPut kind (s.recWords kind s.tick 0 (slotWord slots 0) (slotWord slots 1) s.timeNs)

/-- Slots of the circle, and of all the record regions. -/
def circleSlots : Nat := 8256
def permSlots : Nat := 1024

/-- The flash slot of the next record: its own below SEQ 1,024, else the circle's next. -/
def State.recPlace (s : State) (r : Rec) : Nat := if r.seq.toNat < permSlots then r.seq.toNat else permSlots + s.recorder.pos

/-- REC_TAIL: the lowest SEQ still held in the circle. -/
def State.showTail (s : State) : State :=
  let held := s.recSlots.filterMap (fun (p : Nat × Option Rec) => match p.2 with
    | some r => if permSlots ≤ p.1 ∧ r.good then some r.seq else none
    | none => none)
  match held with
  | [] => s
  | h :: t => s.wr R.REC_TAIL (t.foldl (fun (a b : Word) => if (b - a).toInt < 0 then b else a) h)

/-- FLUSH ends once its record and its lifetime save are committed (R405). -/
def State.flushDone (s : State) : State :=
  match s.recorder.flush with
  | some (seq, true) =>
    if s.recorder.queue.any (fun (r : Rec) => r.seq == seq) then s
    else (s.modRecorder (fun r => { r with flush := none })).setBit REC_CTRL.FLUSH false
  | _ => s

/-- A record is written to its slot, with its check right or not; the circle moves on, and a full sector asks for the next. -/
def State.recWrite (s : State) (r : Rec) (ok : Bool) : State :=
  let k := s.recPlace r
  let s := s.setRecSlot k (some { r with good := ok })
  let s := if k < permSlots then s
    else s.modRecorder (fun q =>
      let pos := (q.pos + 1) % circleSlots
      { q with pos := pos, erasing := if pos % 64 = 0 then some (pos / 64) else q.erasing })
  let s := if ok then s.wr R.REC_HEAD r.seq else s.raise Src.REC_FLASH (slot (if k < permSlots then 0x3F00 + k / 64 else 0x3F10 + (k - permSlots) / 64))
  s.showTail

/-- RECORD_WRITE: both phases of the oldest record are done; `ok` when they verify. Writing waits for an erase. -/
def execRecordWrite (ok : Bool) (s : State) : Host.Outcome State Fault Refusal :=
  match s.recorder.queue with
  | [] => .next s
  | r :: rest =>
    if s.recorder.erasing.isSome then .next s
    else .next (((s.recWrite r ok).modRecorder (fun q => { q with queue := rest })).showQueued.flushDone)

/-- SECTOR_ERASE_DONE: a failed erase is made again. -/
def execSectorEraseDone (ok : Bool) (s : State) : Host.Outcome State Fault Refusal :=
  match s.recorder.erasing with
  | none => .next s
  | some sec =>
    if !ok then .next (s.raise Src.REC_FLASH (slot (0x3F10 + sec)))
    else
      let s := s.each (List.range 64) (fun s i => s.setRecSlot (permSlots + sec * 64 + i) none)
      .next ((s.modRecorder (fun q => { q with erasing := none })).showTail)

/-- REC_SEL_WRITE. -/
def execRecSelWrite (seq : Word) (s : State) : Host.Outcome State Fault Refusal :=
  .next (((s.wr R.REC_SEL seq).setBit REC_STAT.BUSY true).modRecorder (fun q => { q with copy := some seq }))

/-- REC_COPY_DONE: only a committed record is copied. -/
def execRecCopyDone (s : State) : Host.Outcome State Fault Refusal :=
  match s.recorder.copy with
  | none => .next s
  | some seq =>
    let s := (s.modRecorder (fun q => { q with copy := none })).setBit REC_STAT.BUSY false
    let held := s.recSlots.filterMap (fun (p : Nat × Option Rec) => match p.2 with
      | some r => if r.good ∧ r.seq = seq then some r else none
      | none => none)
    match held with
    | r :: _ =>
      let d := r.data
      .next ((s.each (List.range 16) (fun s i => s.wr (R.REC_DATA i) (d.getD i 0))).setBit REC_STAT.FOUND true)
    | [] => .next (s.setBit REC_STAT.FOUND false)

/-! ## Lifetime set (R404, R405) -/

/-- A word of the live set as a save or snapshot takes it: word 0 is the generation. -/
def State.lifeSet (s : State) (gen : Nat) : Store Word :=
  Store.write (fun k => if 64 ≤ k ∧ k < 136 then 0x7FFF7FFF else 0) s.life 0 (BitVec.ofNat 32 gen)

/-- A save into the next sector starts, unless one is under way. -/
def State.lifeStart (s : State) : State :=
  if s.lifeSave.isSome then s
  else
    let gen := (s.rd R.LIF_GEN).toNat + 1
    { s with lifeSave := some (s.lifeNext, gen, s.lifeSet gen), lastSave := s.tick }

/-- LIFETIME_SAVE: 10 minutes after the last save. -/
def execLifetimeSave (s : State) : Host.Outcome State Fault Refusal :=
  .next (if (900000000000 : Int) ≤ Tick.diff s.lastSave s.tick then s.lifeStart else s)

/-- LIFETIME_SAVE_DONE: the copy is in force, or its sector is not. -/
def execLifetimeSaveDone (ok : Bool) (s : State) : Host.Outcome State Fault Refusal :=
  match s.lifeSave with
  | none => .next s
  | some (sec, gen, set) =>
    let s := { s with lifeSave := none, lifeNext := (sec + 1) % 16 }
    let s := if ok then (s.setLifeCopy sec (some (gen, set))).wr R.LIF_GEN (BitVec.ofNat 32 gen)
      else (s.setLifeCopy sec none).raise Src.REC_FLASH (slot (0x3FA0 + sec))
    .next ((s.modRecorder (fun q => { q with flush := q.flush.map (fun f => (f.1, true)) })).flushDone)

/-- REC_FLUSH. -/
def execRecFlush (s : State) : Host.Outcome State Fault Refusal :=
  if s.bit REC_CTRL.FLUSH then .next s
  else
    let seq := s.recorder.next + (if s.recorder.dropRun then 1 else 0)
    let s := (s.setBit REC_CTRL.FLUSH true).recEvent kd.orderly (slot 2 ++ slotInt (s.getInt TH_TJ.TJ))
    .next ((s.modRecorder (fun q => { q with flush := some (seq, false) })).lifeStart)

/-- LIFETIME_COUNT_UPDATE: one second of operation. -/
def execLifetimeCountUpdate (s : State) : Host.Outcome State Fault Refusal :=
  let bin := max 0 (min 31 ((s.getInt TH_TJ.TJ + 200) / 50))
  let s := (s.lifeBump (1 + bin.toNat)).lifeBump (33 + Nat.min 30 (s.get GOV_STAT.VSET))
  let sec := s.get REC_SECS.SECS + 1
  .next (if sec = 3600 then (s.set REC_SECS.SECS 0).set REC_HOURS.HOURS (s.get REC_HOURS.HOURS + 1) else s.set REC_SECS.SECS sec)

/-- LIF_SNAP. -/
def execLifSnap (s : State) : Host.Outcome State Fault Refusal :=
  .next { s with lifeShadow := s.lifeSet (s.rd R.LIF_GEN).toNat }

/-- LIF_DATA_READ: a word of the shadow; word 364 is the CRC over the others. -/
def execLifDataRead (s : State) : Host.Outcome State Fault Refusal :=
  let i := s.get LIF_SEL.IDX
  let w := if i < 364 then s.shadowWord i
    else if i = 364 then crc32c (word32Bytes ((List.range 364).map (fun k => s.shadowWord k))) else 0
  .next (((s.wr R.LIF_DATA w).set LIF_SEL.IDX ((i + 1) % 512)).answer w)

/-! ## Targets (R390) -/

/-- What TRAP and BLOCK_RESET act on. -/
inductive Target where
  | berth (b : Nat)
  | kernel (n : Nat)
  | unit (n : Nat)
  | lanes (ls : List Nat)
  deriving DecidableEq, Repr

/-- The target that a fault's payload names. -/
def targetOf (src : Nat) (slots : List Nat) : Option Target :=
  let x := slots.getD 0 0
  if [Src.ORDER_SHORT, Src.LATE_DECISION, Src.BRANCH_NEST, Src.TC_BACKWARD, Src.BRANCH_FORM, Src.WINDOW_FORM, Src.PLT_PARAM,
      Src.PLT_STACK, Src.PLT_ILLEGAL, Src.UC_CE, Src.UC_DED, Src.SEG_INVALID, Src.STREAM_OVER, Src.UNDERRUN].contains src then
    some (.berth (x % 64))
  else if src = Src.LM_LOW ∨ src = Src.LATE_BARGE then
    if x < 128 then some (.berth (x % 64))
    else if src = Src.LATE_BARGE then some (.berth (slots.getD 6 0 % 64)) else none
  else if [Src.KRN_ILLEGAL, Src.KRN_STACK, Src.KRN_PM_PAR, Src.KRN_DROP, Src.KRN_NODEC].contains src then some (.kernel (x % 16))
  else if [Src.ACQ_PERIOD, Src.ACQ_BUF_FULL, Src.ACQ_FIRE_LATE, Src.ACQ_ARM_LATE, Src.ACQ_AVG_ERR].contains src then some (.unit (x % 16))
  else if src = Src.LANE_ABSENT ∨ src = Src.LANE_LOST then some (.lanes [x % 32])
  else if [Src.PORT_DOWN, Src.PORT_SKEW, Src.PORT_MISWIRE, Src.MESH_NEIGHBOUR_LOST].contains src then
    some (.lanes ((List.range 4).map (fun w => 4 * (x % 8) + w)))
  else none

/-- TRAP has a meaning for the target. -/
def Target.traps (t : Target) : Bool := match t with | .lanes _ => false | _ => true

/-! ## Raising (R391, R392, R394, R395) -/

/-- FLT_REACT of a source: severity, and the reactions INT, TRAP, BLOCK_RESET, CHIP_RESET and ERR_PIN from bit 0. -/
def State.faultSevNow (s : State) (src : Nat) : Nat := s.get (FLT_REACT.SEV src)
def State.faultReacts (s : State) (src : Nat) : BitVec 5 := (s.rd (R.FLT_REACT src)).extractLsb' 2 5

/-- The order of coincident faults (R395). -/
def State.faultLe (s : State) (x y : FaultIn) : Bool :=
  let a := s.faultSevNow x.src
  let b := s.faultSevNow y.src
  if a ≠ b then decide (b < a)
  else if x.src ≠ y.src then decide (x.src < y.src)
  else if x.injected != y.injected then y.injected
  else decide (x.slots.getD 0 0 ≤ y.slots.getD 0 0)

/-- The reactions of fault `f` that act, beside the others of its tick (R390, R392). -/
def State.reactsOf (s : State) (f : FaultIn) (all : List FaultIn) : BitVec 5 :=
  let r := s.faultReacts f.src
  let chip := all.any (fun (g : FaultIn) => (s.faultReacts g.src).getLsbD 3)
  let block := all.any (fun (g : FaultIn) => (s.faultReacts g.src).getLsbD 2 && targetOf g.src g.slots == targetOf f.src f.slots)
  match targetOf f.src f.slots with
  | none => (r &&& 0b11001) &&& (if s.sys.resetting.isSome then 0b10111 else 0b11111)
  | some t =>
    let r := if chip || !t.traps || block then r &&& 0b11101 else r
    let r := if chip then r &&& 0b11011 else r
    if s.sys.resetting.isSome then r &&& 0b10111 else r

/-- The words of a log entry (R394). -/
def LogEntry.words (e : LogEntry) : List (BitVec 64) :=
  [BitVec.ofNat 64 (e.src + e.sev * 2 ^ 8 + flagNat e.coincident * 2 ^ 10 + flagNat e.injected * 2 ^ 11 + flagNat e.first * 2 ^ 12 +
      e.react.toNat * 2 ^ 16 + e.lseq.toNat * 2 ^ 32),
    e.tick.setWidth 64, slotWord e.slots 0, slotWord e.slots 1, e.timeNs.setWidth 64]

/-- One fault enters the log: FLT_PEND, FLT_FIRST, its count and its record. -/
def State.logFault (s : State) (f : FaultIn) (all : List FaultIn) : State :=
  let first := !s.bit FLT_FIRST.VALID
  let e : LogEntry := {
    src := f.src, sev := s.faultSevNow f.src, coincident := decide (1 < all.length), injected := f.injected, first := first,
    react := s.reactsOf f all, lseq := s.logSeq, tick := f.tick, slots := f.slots,
    timeNs := (s.timeOf (s.time.c - (s.tick - f.tick).setWidth 64 * timeInc)).extractLsb' 32 32 }
  let s := s.when first (fun s =>
    (s.wr R.FLT_FIRST (BitVec.ofNat 32 (e.src + e.sev * 2 ^ 8 + flagNat e.injected * 2 ^ 10 + flagNat e.coincident * 2 ^ 11 + 2 ^ 31))).setWideVal
      R.FLT_FIRST_TICK_LO e.tick)
  let log := s.faultLog ++ [e]
  let s := s.when (decide (64 < log.length)) (·.bump FLT_LOG_OVR.COUNT)
  let s := { s with
    faultLog := log.drop (log.length - 64), logSeq := s.logSeq + 1, reacts := s.reacts ++ (if e.react = 0 then [] else [e]) }
  let s := s.set (FLT_PEND.PEND (e.src / 32)) (s.get (FLT_PEND.PEND (e.src / 32)) ||| 2 ^ (e.src % 32))
  let s := s.when (!e.injected) (·.lifeBump (136 + e.src))
  let s := s.when (e.sev == 3 && !e.injected) (·.twinYield)
  if e.src = Src.THERM_SHUTDOWN ∧ !e.injected then s.recEvent kd.shutdown (slotInt (s.getInt TH_TJ.TJ) ++ slot (s.get TH_TJ.REGION))
  else s.when (decide (s.get REC_CFG.MIN_SEV ≤ e.sev))
    (fun s => s.recPut kd.fault (s.recWords kd.fault e.tick (e.words.getD 0 0) (e.words.getD 2 0) (e.words.getD 3 0) e.timeNs))

/-- FAULT_RAISE: the collector takes all faults of the earliest tick that waits. -/
def execFaultRaise (s : State) : Host.Outcome State Fault Refusal :=
  match s.raised with
  | [] => .next s
  | h :: t =>
    let t0 := t.foldl (fun a (f : FaultIn) => Tick.min a f.tick) h.tick
    let due := Tick.le t0 s.tick
    let group := s.raised.filter (fun (f : FaultIn) => due && f.tick == t0)
    let sorted := group.foldl (fun l f => insertBy s.faultLe f l) []
    let s := { s with raised := s.raised.filter (fun (f : FaultIn) => !due || f.tick != t0) }
    .next (s.each sorted (fun s f => s.logFault f sorted))

/-! ## Reactions (R389 to R393, R417) -/

/-- The fault interrupt: any pending source with INT. -/
def State.faultIrq (s : State) : Bool :=
  (List.range 192).any (fun n => (s.get (FLT_PEND.PEND (n / 32))).testBit (n % 32) && s.bit (FLT_REACT.INT n))

/-- ERR_N goes low for 3,000 ticks. -/
def State.errAssert (s : State) : State :=
  let s := { s with errUntil := some (s.tick + 3000), errPin := true }.setBit FLT_CTRL.ERR_LIVE true
  s.when (s.bit FLT_CFG.ERR_LATCH) (·.setBit FLT_CTRL.ERR_HOLD true)

/-- ERR_N rises once its 3,000 ticks are over and ERR_HOLD is 0. -/
def State.errRelease (s : State) : State :=
  if !s.errPin || s.bit FLT_CTRL.ERR_HOLD || !(match s.errUntil with | some t => Tick.le t s.tick | none => true) then s
  else { s with errUntil := none, errPin := false }.setBit FLT_CTRL.ERR_LIVE false

/-- Stops every pilot (R92) with a cause, batches accepted and not begun among them. -/
def State.stopPilots (s : State) (cz : Nat) : State :=
  s.each (List.range 64) (fun s b => s.when (s.pilotActive b) (fun s => (s.batchStart b).stopPilot b cz))

/-- Opens every drive and probe series switch. -/
def State.openSwitches (s : State) : State :=
  let s := s.each (List.range 64) (fun s b => (s.setBit (DRV_CFG.SW_CLOSED b) false).setOutPin b [])
  s.each (List.range 16) (fun s n => (s.setBit (PRB_CFG.SW_CLOSED n) false).setOutPin (128 + n) [])

/-- Parks every flux line, but for a twin that holds them while it yields. -/
def State.parkAll (s : State) : State :=
  if s.twin.yieldAt.isSome then s else s.each (List.range 64) (fun s b => s.park b)

/-- The steps that a reset begins with (R417): mute, stop the pilots and acquisition units, cut the ring commands, yield and park. -/
def State.resetBegin (s : State) (cz : Nat) : State :=
  let s := { s.set BOOT_STAT.STAGE stg.resetting with sys := { s.sys with resetting := some (cz, s.tick) } }
  let s := s.set BOOT_STAT.CAUSE cz
  let s := (s.openSwitches.stopPilots cause.chipReset).each (List.range 16) (fun s n => s.acqStop n)
  let s := s.when (cz == 2) (·.ringsChipReset)
  s.twinYield.parkAll

/-- A berth reset (R59, R93): everything staged goes, the locks are IDLE, and the shot in flight ends with the last tick released. -/
def State.berthReset (s : State) (b : Nat) : State :=
  let s := s.modPilot b (fun p => { p.ended with latch := none, lastCtx := none, start := none })
  let s := ((s.cutBerth b s.tick).freeCtx b 0).freeCtx b 1
  let s := s.each [laneDrive b, laneFlux b, laneProbe b] (fun s l =>
    s.when ((s.lockLane l).st != .off) (·.setLockSt l .idle))
  let s := s.modLedger b (fun g => { g with stopAt := some (s.tick, cause.berthReset) })
  let s := (s.setBit (PLT_CTRL.STOP b) false).setBit (PLT_CTRL.STOP_BND b) false
  ((s.set (PLT_STAT.STATE b) plt.stopped).showPound b).stopDue b

/-- A batch of berth `b` that a reaction ends completes with FAULT_CUT (R284). -/
def State.cutBatch (s : State) (b : Nat) : State := (s.modLedger b (fun g => { g with cutBy := true })).cutBerthCommands b

/-- TRAP. -/
def State.applyTrap (s : State) : Target → State
  | .berth b => s.when (s.pilotActive b) (fun s => (s.cutBatch b).modPilot b (fun p => { p with trap := some cause.pilotFault }))
  | .kernel n => (s.cutKernelCommands n).kernStop n 0
  | .unit n => s.acqStop n
  | .lanes _ => s

/-- BLOCK_RESET. -/
def State.applyBlock (s : State) : Target → State
  | .berth b => ((s.batchStart b).cutBatch b).berthReset b
  | .kernel n => (s.cutKernelCommands n).kernReset n
  | .unit n => s.acqReset n
  | .lanes ls => s.each ls (fun s l => s.when (s.laneSt l != ln.off && !s.laneLoops l) (·.laneBegin l))

/-- The reactions of one log entry act. -/
def State.react (s : State) (e : LogEntry) : State :=
  let s := s.when (e.react.getLsbD 4) (·.errAssert)
  let s := s.when (e.react.getLsbD 0) (fun s =>
    { s with mcoreIrq := s.mcoreIrq ++ (if s.mcoreIrq.contains 0 then [] else [0]) }.notify 1 e.src e.words)
  let s := s.when (e.react.getLsbD 3 && e.src == Src.PLL_UNLOCK) (fun s => { s with sys := { s.sys with relock := true } })
  let s := s.when (e.react.getLsbD 3 && s.sys.resetting.isNone) (·.resetBegin 2)
  match targetOf e.src e.slots with
  | none => s
  | some t =>
    let s := s.when (e.react.getLsbD 2) (·.applyBlock t)
    s.when (e.react.getLsbD 1) (·.applyTrap t)

/-- FAULT_REACTION: two ticks after a fault its reactions act. -/
def execFaultReaction (s : State) : Host.Outcome State Fault Refusal :=
  let due := s.reacts.filter (fun (e : LogEntry) => Tick.le (e.tick + 2) s.tick)
  let s := { s with reacts := s.reacts.filter (fun (e : LogEntry) => !Tick.le (e.tick + 2) s.tick) }
  .next (s.each due (fun s e => s.react e))

/-- ERR_N_RELEASE. -/
def execErrNRelease (s : State) : Host.Outcome State Fault Refusal := .next s.errRelease

/-- ERR_HOLD_WRITE: 1 holds ERR_N low. -/
def execErrHoldWrite (v : Bool) (s : State) : Host.Outcome State Fault Refusal :=
  let s := s.setBit FLT_CTRL.ERR_HOLD v
  .next (if v then { s with errPin := true }.setBit FLT_CTRL.ERR_LIVE true else s.errRelease)

/-- FAULT_INJECT: in factory test mode the fault is raised in the next tick; elsewhere the write is ignored. A reserved source is
never raised. -/
def execFaultInject (source : BitVec 8) (s : State) : Host.Outcome State Fault Refusal :=
  let s := s.set FLT_INJ.SOURCE source.toNat
  if !s.bit SEC_STAT.FACTORY then .next (s.setBit FLT_CTRL.INJ_REJ true)
  else if !faultAssigned source.toNat then .next s
  else
    let slots := (List.range 8).map (fun i => fieldOf (s.rd (R.FLT_INJ_PAY (i / 2))) (16 * (i % 2)) 16)
    .next { s with raised := s.raised ++ [{ src := source.toNat, tick := s.tick + 1, slots := slots, injected := true }] }

/-- FLT_LOG_SEL_WRITE: entry 0 is the newest. -/
def execFltLogSelWrite (idx : BitVec 6) (s : State) : Host.Outcome State Fault Refusal :=
  let s := s.set FLT_LOG_SEL.IDX idx.toNat
  match s.faultLog.reverse[idx.toNat]? with
  | none => .next (s.setBit FLT_LOG_SEL.VALID false)
  | some e =>
    let ws := e.words
    .next ((s.each (List.range 10) (fun s i => s.wr (R.FLT_LOG_DATA i) ((ws.getD (i / 2) 0).extractLsb' (32 * (i % 2)) 32))).setBit
      FLT_LOG_SEL.VALID true)

/-- FLT_FIRST_READ. The pair shows the captured tick. -/
def execFltFirstRead (s : State) : Host.Outcome State Fault Refusal :=
  let t := s.wideVal R.FLT_FIRST_TICK_LO
  .next ((s.setPair R.FLT_FIRST_TICK_LO t).answer (s.rd R.FLT_FIRST))

/-- FLT_FIRST_CLEAR. -/
def execFltFirstClear (s : State) : Host.Outcome State Fault Refusal := .next (s.setBit FLT_FIRST.VALID false)

end Sys2Proof.Machine
end

