-- ==== Sys2Proof/Machine/Reset.lean ====
section
/-! DEFINITION. What resets and DEEP_SLEEP clear, and what they keep (R376, R381, R383, R416 to R419, R446, R447). -/

namespace Sys2Proof.Machine

/-- Keeps the registers that a test on their address selects; the others return to their reset values. -/
def State.keepRegs (s : State) (keep : Nat → Bool) : State :=
  { s with
    regs := s.regs.filter (fun (p : Nat × Word) => keep p.1),
    wide := s.wide.filter (fun (p : Nat × BitVec 48) => keep p.1) }

/-- The role after a reset: SOLO, or OUT on a twinned device, which TWIN_CFG.PRIMARY makes ACTIVE only after RESET_N (R337). -/
def State.twinReset (s : State) (claim : Bool) : State :=
  let s := (s.set TWIN_STAT.ROLE (if s.bit TWIN_CFG.EN then role.out else role.solo)).set TWIN_STAT.PHASE 0
  let s := ((s.setBit TWIN_CTRL.RESYNC false).wr R.TWIN_LOCKSTEP_LO 0).wr R.TWIN_LOCKSTEP_HI 0
  { s with twin := { TwinSt.init with claimed := !claim }, twWait := 0, logs := [], logWait := [], twinBias := [], mirrored := [] }

/-- The timing plane, synthesis, read-out and calibration state that no reset domain keeps. -/
def State.planeReset (s : State) : State :=
  let s := s.fuseAbort
  { s with
    holdOn := false, ucScrub := [], govMon := [], pilots := [], pounds := [], locks := [], ctxs := [], outs := [], xbarWait := [],
    xbarQueue := [], xbarServed := [], owed := [], lastEntry := [], paths := [], muteds := [], fetches := [], synOrigin := 0, mrkLines := [],
    fluxes := [], demods := [], inputs := [], decMade := [], winResults := [], jobsDue := [], partials := [], acqs := [],
    admQueue := [], flitsOut := [], localFires := [], armHeld := [], kerns := [], convs := [], selfCal := none, groupSeen := [],
    mcoreIrq := [] }

/-- A chip reset by fault: the CHIP domain; memories, ledgers, logs, rings, mailboxes' control and time are kept, the lanes restart,
the hold of a THROTTLE still in force stands. -/
def State.chipScope (s : State) : State :=
  let hold := s.holdOn
  let s := (s.mbxDomainLost .core).mbxDomainLost .mgmt
  let s := s.keepRegs (fun a => regDom a == .sys)
  let s := { s.planeReset.twinReset false with holdOn := hold }
  s.each (List.range 32) (fun s l => s.when (s.laneSt l != ln.off && !s.laneLoops l) (·.laneBegin l))

/-- RESET_N and power-on: everything but what stands outside the device's reset: the waiting commands, the free value counter, flash
and fuses, external SDRAM, the test port; RESET_N also keeps SHUT_FLAG, KEY_VOID, the key and token state and FACTORY. A write or
erase of flash in progress is cut. -/
def State.fullScope (s : State) (power : Bool) : State :=
  let s := s.fuseAbort
  -- a record being written fails its check and its slot is spent; a lifetime sector being written holds no copy
  let s := match s.recorder.queue, s.recorder.erasing with
    | r :: _, none =>
      let k := s.recPlace r
      (s.setRecSlot k (some { r with good := false })).modRecorder (fun q =>
        if k < permSlots then q
        else
          let pos := (q.pos + 1) % circleSlots
          { q with pos := pos, erasing := if pos % 64 = 0 then some (pos / 64) else none })
    | _, _ => s
  let s := match s.lifeSave with
    | some (sec, _, _) => { s.setLifeCopy sec none with lifeNext := (sec + 1) % 16 }
    | none => s
  let next := match s.recorder.queue with | r :: _ => r.seq + 1 | [] => s.recorder.next
  let kept : List Nat := [R.REC_HEAD, R.REC_TAIL, R.REC_HOURS, R.REC_SECS, R.REC_PCYC, R.LIF_GEN] ++
    (if power then [] else [R.TH_STAT, R.SEC_STAT])
  let r : State := { State.reset with
    pending := s.pending, freeCtr := s.freeCtr, sdram := s.sdram, fuses := s.fuses, recSlots := s.recSlots,
    lifeCopies := s.lifeCopies, lifeNext := s.lifeNext, flash := s.flash, tap := s.tap,
    regs := s.regs.filter (fun (p : Nat × Word) => kept.contains p.1),
    recorder := { RecSt.init with next := next, pos := s.recorder.pos, erasing := s.recorder.erasing },
    sys := { SysSt.init with
      pinLow := s.sys.pinLow,
      challenge := if power then 0 else s.sys.challenge, badTokens := if power then 0 else s.sys.badTokens } }
  if power then r else (((r.setBit TH_STAT.WARN false).setBit TH_STAT.THROTTLE false).setBit SEC_STAT.DBG_OPEN false)

/-- DEEP_SLEEP: all but the always-on domain loses its state (R381, R383). TICK, the event fabric, mailbox control and the lanes'
electrical idle are held; SDRAM stays in self-refresh; TIME counts on in free-run mode. -/
def State.sleepScope (s : State) : State :=
  let s := (s.mbxDomainLost .core).mbxDomainLost .mgmt
  let rec_ : List Nat := [R.REC_HEAD, R.REC_TAIL, R.REC_STAT, R.REC_CTRL, R.REC_HOURS, R.REC_SECS, R.REC_PCYC, R.REC_CFG, R.LIF_GEN]
  let s := s.keepRegs (fun a => regPow a == .aon || (decide (0xA00000 ≤ a) && decide (a < 0xB00000)) || rec_.contains a)
  let s := s.planeReset.twinReset false
  let s := { s with
    pm := [], segs := [], ledgers := [], maxPlays := 0, basinNext := 0, sbufs := [], mrkPins := [], rings := [], noticesLost := 0,
    meshPorts := [], faultLog := [], reacts := [], logSeq := 0, mon := State.reset.mon, time := { TimeSt.init with c := s.time.c, c0 := s.time.c } }
  (s.setBit HIF_STAT.LINK_UP (s.bit (PORT_STAT.UP 6))).showTime

end Sys2Proof.Machine
end

