-- ==== Sys2Proof/Machine/Thermal.lean ====
section
/-! DEFINITION. Temperature, SHUTDOWN, the margin governor, the power states and the monitor ADC (R371 to R385). -/

namespace Sys2Proof.Machine

/-! ## Region temperatures (R371 to R373) -/

/-- A list of 32 signed 12-bit temperatures in steps of 0.1 °C. -/
def temps (v : BitVec 384) : List Int := (List.range 32).map (fun r => (v.extractLsb' (12 * r) 12).toInt)

/-- The mean of a list, rounded half up. -/
def meanUp (l : List Int) : Int := (2 * l.sum + l.length) / (2 * l.length)

/-- The median; of an even count, the mean of the two middle values. -/
def median (l : List Int) : Int :=
  let s := l.foldl (fun acc x => insertBy (fun (a b : Int) => decide (a ≤ b)) x acc) []
  let n := s.length
  if n % 2 = 1 then s.getD (n / 2) 0 else meanUp [s.getD (n / 2 - 1) 0, s.getD (n / 2) 0]

def State.sensBroken (s : State) (r : Nat) : Bool := (s.get TH_SENS_BROKEN.BROKEN).testBit r

/-- The neighbours of region r: r ± 1 within its set of 16, and r ± 16. -/
def regionNear (r : Nat) : List Nat :=
  ((if r % 16 = 0 then [] else [r - 1]) ++ (if r % 16 = 15 then [] else [r + 1])) ++ [if r < 16 then r + 16 else r - 16]

/-- The filtered readings of a region. -/
def ThermSt.hist_ (t : ThermSt) (r : Nat) : List Int := Store.read (fun _ => []) t.hist r
def ThermSt.off_ (t : ThermSt) (r : Nat) : Nat := Store.read (fun _ => 0) t.off r

/-- The region temperatures: the filtered sensor while healthy, else the model corrected by its healthy neighbours, by all healthy
regions, or by 5 °C. -/
def State.regionTemps (s : State) (model : List Int) : List Int :=
  let filt (r : Nat) : Int := median (s.therm.hist_ r)
  let excess (rs : List Nat) : List Int := (rs.filter (fun q => !s.sensBroken q)).map (fun q => filt q - model.getD q 0)
  (List.range 32).map (fun r =>
    if !s.sensBroken r then filt r
    else match excess (regionNear r) with
      | [] => (match excess (List.range 32) with | [] => model.getD r 0 + 50 | l => model.getD r 0 + meanUp l)
      | l => model.getD r 0 + meanUp l)

/-- Levels: thresholds WARN, THROTTLE, SHUTDOWN; a level is in force. -/
def levelAt : List Int := [950, 1050, 1180]
def State.levelOn (s : State) (i : Nat) : Bool :=
  if i = 0 then s.bit TH_STAT.WARN else if i = 1 then s.bit TH_STAT.THROTTLE else s.sys.shut.isSome

/-- TH_TJ.LEVEL. -/
def State.showLevel (s : State) : State :=
  s.set TH_TJ.LEVEL (if s.levelOn 2 then 3 else if s.levelOn 1 then 2 else if s.levelOn 0 then 1 else 0)

/-- A signed 12-bit field's value. -/
def temp12 (v : Int) : Nat := (BitVec.ofInt 12 (max (-2048) (min 2047 v))).toNat

/-- THERMAL_SAMPLE: one reading of every sensor and model, each microsecond. Levels are not evaluated in DEEP_SLEEP. -/
def execThermalSample (sens model : BitVec 384) (s : State) : Host.Outcome State Fault Refusal :=
  if s.get PWR_STAT.STATE = 3 then .next s
  else
    let S := temps sens
    let M := temps model
    let t := s.therm
    let s := s.each (List.range 32) (fun s r => { s with therm := { s.therm with
      hist := Store.write (fun _ => []) s.therm.hist r ((S.getD r 0 :: s.therm.hist_ r).take 8),
      off := Store.write (fun _ => 0) s.therm.off r (if 80 < (S.getD r 0 - M.getD r 0).natAbs then s.therm.off_ r + 1 else 0) } })
    let T := s.regionTemps M
    let hot := T.foldl max (T.getD 0 0)
    let s := s.each (List.range 32) (fun s r =>
      (s.set (TH_REGION.TEMP r) (temp12 (T.getD r 0))).set (TH_REGION.MODEL r) (temp12 (M.getD r 0)))
    let s := (s.set TH_TJ.TJ (temp12 hot)).set TH_TJ.REGION ((T.findIdx? (· == hot)).getD 0)
    let count (f : Int → Bool) (old : List Nat) : List Nat :=
      (List.range 3).map (fun i => if f (levelAt.getD i 0) then old.getD i 0 + 1 else 0)
    let s := { s with therm := { s.therm with
      above := count (fun th => decide (th ≤ hot)) t.above, below := count (fun th => decide (hot < th - 40)) t.below } }
    let alone := (List.range 32).all (fun r => s.sensBroken r)
    let s := s.when (alone && !s.therm.modelTold) (·.raise Src.THERM_MODEL_ONLY [])
    let s := { s with therm := { s.therm with modelTold := alone } }
    .next (s.when (s.levelOn 1) (·.bump TH_HOLD_TIME.COUNT))

/-- SENSOR_BROKEN: 1,000 readings in a row more than 8 °C off the model. -/
def execSensorBroken (r : Fin 32) (s : State) : Host.Outcome State Fault Refusal :=
  if s.sensBroken r || decide (s.therm.off_ r < 1000) then .next s
  else .next ((s.set TH_SENS_BROKEN.BROKEN (s.get TH_SENS_BROKEN.BROKEN ||| 2 ^ r.val)).raise Src.THERM_SENSOR (slot r))

/-- SENSOR_READMIT: the same test starts anew. -/
def execSensorReadmit (mask : Word) (s : State) : Host.Outcome State Fault Refusal :=
  let s := s.wr R.TH_SENS_BROKEN (s.rd R.TH_SENS_BROKEN &&& ~~~mask)
  .next { s with therm := { s.therm with off := s.therm.off.filter (fun (p : Nat × Nat) => !mask.getLsbD p.1) } }

/-! ## Levels (R374 to R376) -/

/-- Level `i` may change: 64 consecutive values, and 64 µs since its last change. -/
def State.levelMay (s : State) (i : Nat) (run : List Nat) : Bool :=
  decide (64 ≤ run.getD i 0) && (match s.therm.changed.getD i none with | some t => decide ((96000 : Int) ≤ Tick.diff t s.tick) | none => true)

/-- A level changes. -/
def State.levelChange (s : State) (i : Nat) : State :=
  { s with therm := { s.therm with changed := (List.range 3).map (fun j => if j = i then some s.tick else s.therm.changed.getD j none) } }.bump
    TH_TRANS_CNT.COUNT

/-- SHUTDOWN is entered (R376): switches open, pilots stop, lines park, but for a twin that holds them, and fuse programming stops. -/
def State.shutdown (s : State) : State :=
  let s := { (s.setBit TH_STAT.SHUT_FLAG true) with sys := { s.sys with shut := some s.tick, shutStep := 1 } }
  let s := (s.openSwitches.stopPilots cause.pilotFault).fuseAbort
  (s.twinYield.parkAll).noteClamped

/-- THERM_LEVEL_ENTER. -/
def execThermLevelEnter (lv : Fin 3) (s : State) : Host.Outcome State Fault Refusal :=
  if s.levelOn lv || !s.levelMay lv s.therm.above then .next s
  else
    let s := s.levelChange lv
    let s := match lv.val with
      | 0 => ((s.setBit TH_STAT.WARN true).fuseAbort).raise Src.THERM_WARN []
      | 1 => { s.setBit TH_STAT.THROTTLE true with holdOn := true }.raise Src.THERM_THROTTLE []
      | _ => s.shutdown.raise Src.THERM_SHUTDOWN []
    .next s.showLevel

/-- THERM_LEVEL_LEAVE. -/
def execThermLevelLeave (lv : Fin 2) (s : State) : Host.Outcome State Fault Refusal :=
  if !s.levelOn lv || !s.levelMay lv s.therm.below then .next s
  else
    let s := s.levelChange lv
    .next (if lv.val = 0 then s.setBit TH_STAT.WARN false else { s.setBit TH_STAT.THROTTLE false with holdOn := false }).showLevel

/-- SHUTDOWN_ISOLATE: 1 µs after the last line is clamped, CORE and ANA go; the lanes stop driving. -/
def execShutdownIsolate (s : State) : Host.Outcome State Fault Refusal :=
  match s.sys.clampedAt with
  | none => .next s
  | some t =>
    if s.sys.shutStep ≠ 1 ∨ Tick.diff t s.tick < 1500 then .next s
    else
      let s := s.each (List.range 32) (fun s l => s.when (s.laneSt l != ln.off) (·.laneTo l ln.off))
      .next ({ s with sys := { s.sys with shutStep := 2 } }.mbxDomainLost .core)

/-- SHUTDOWN_MGMT_OFF: within 5 ms of SHUTDOWN the record under way ends, the SHUTDOWN record follows if it still can, the rest of the
queue is lost and MGMT powers down. -/
def execShutdownMgmtOff (s : State) : Host.Outcome State Fault Refusal :=
  match s.sys.shut with
  | none => .next s
  | some t =>
    if s.sys.shutStep ≠ 2 then .next s
    else
      let timely := decide (Tick.diff t s.tick ≤ 7500000) && s.recorder.erasing.isNone
      let last := s.recorder.queue.filter (fun (r : Rec) => (r.words.getD 0 0).extractLsb' 56 8 == BitVec.ofNat 8 kd.shutdown)
      let s := s.each (if timely then last else []) (fun s r => s.recWrite r true)
      let s := (s.modRecorder (fun q => { q with queue := [] })).showQueued
      .next ({ s with sys := { s.sys with shutStep := 3 } }.mbxDomainLost .mgmt)

/-! ## Margin governor (R378 to R380) -/

def State.modGov (s : State) (f : GovSt → GovSt) : State := { s with gov := f s.gov }

/-- VMAX below VMIN acts as VMIN. -/
def State.vmax (s : State) : Nat := Nat.max (s.get GOV_CFG.VMIN) (s.get GOV_CFG.VMAX)

/-- Commands a VCORE code. -/
def State.govCommand (s : State) (v : Nat) : State :=
  (s.set GOV_STAT.VSET v).modGov (fun g => { g with lastStep := some s.tick, busy := some (v, 0) })

/-- A request that has stood at VMAX for 1 ms is told once. -/
def State.govCeiling (s : State) : State :=
  let at_ := s.bit GOV_STAT.REQ && decide (s.vmax ≤ s.get GOV_STAT.VSET)
  if !at_ then s.modGov (fun g => { g with maxSince := none, maxTold := false })
  else match s.gov.maxSince with
    | none => s.modGov (fun g => { g with maxSince := some s.tick })
    | some t =>
      if s.gov.maxTold ∨ Tick.diff t s.tick < 1500000 then s
      else ((s.modGov (fun g => { g with maxTold := true })).setBit GOV_STAT.CEILING true).raise Src.GOV_CEILING []

/-- The governor may send a command. -/
def State.govFree (s : State) : Bool := s.bit GOV_CFG.EN && s.gov.started && s.gov.busy.isNone && s.gov.failedAt.isNone

/-- GOV_RAISE: the first step of a request at once, then one every UP_INT microseconds. -/
def execGovRaise (s : State) : Host.Outcome State Fault Refusal :=
  let s := s.govCeiling
  let up := Nat.max 150 (s.get GOV_CFG.UP_INT) * usTicks
  let due : Bool := match s.gov.lastStep with
    | none => true
    | some t => Tick.before t s.gov.reqAt || decide ((up : Int) ≤ Tick.diff t s.tick)
  let v := s.get GOV_STAT.VSET
  .next (if s.bit GOV_STAT.REQ ∧ s.govFree ∧ due ∧ v < s.vmax then (s.govCommand (Nat.min s.vmax (v + 2))).govCeiling else s)

/-- GOV_LOWER: DOWN_HOLD milliseconds without a request, then 5 mV every 10 ms. -/
def execGovLower (s : State) : Host.Outcome State Fault Refusal :=
  let due : Bool := match s.gov.lastStep with | none => true | some t => decide ((15000000 : Int) ≤ Tick.diff t s.tick)
  let v := s.get GOV_STAT.VSET
  let quiet := decide ((s.get GOV_CFG.DOWN_HOLD * 1500000 : Nat) ≤ Tick.diff s.gov.reqAt s.tick)
  .next (if !s.bit GOV_STAT.REQ ∧ s.govFree ∧ quiet ∧ due ∧ s.get GOV_CFG.VMIN < v then s.govCommand (v - 1) else s)

/-- PMBUS_TRANSACTION: the transaction under way ends; a failed one is retried three times, then every 1 ms. -/
def execPmbusTransaction (ok : Bool) (s : State) : Host.Outcome State Fault Refusal :=
  match s.gov.busy with
  | none => .next s
  | some (v, n) =>
    if (match s.gov.failedAt with | some t => decide (Tick.diff t s.tick < 1500000) | none => false) then .next s
    else if ok then .next (s.modGov (fun g => { g with busy := none, failedAt := none }))
    else if s.gov.failedAt.isSome then .next (s.modGov (fun g => { g with failedAt := some s.tick }))
    else if n < 3 then .next (s.modGov (fun g => { g with busy := some (v, n + 1) }))
    else .next (((s.modGov (fun g => { g with failedAt := some s.tick })).setBit GOV_STAT.PMB_ERR true).raise Src.GOV_PMBUS [])

/-- VOUT_POLL: every 1 ms. -/
def execVoutPoll (mv : BitVec 10) (s : State) : Host.Outcome State Fault Refusal :=
  let due : Bool := match s.gov.lastPoll with | none => true | some t => decide ((1500000 : Int) ≤ Tick.diff t s.tick)
  if !due then .next s
  else
    let s := ((s.set GOV_STAT.VOUT mv.toNat).modGov (fun g => { g with lastPoll := some s.tick })).govCeiling
    let want : Int := 700 + 5 * (s.get GOV_STAT.VSET : Nat)
    .next (s.when (decide (15 < (want - (mv.toNat : Int)).natAbs)) (·.raise Src.GOV_VOUT []))

/-! ## Power states (R381 to R383) -/

/-- PWR_STAT.WAIT: a request for a lower state waits. -/
def State.showWait (s : State) : State := s.setBit PWR_STAT.WAIT (decide (s.get PWR_STAT.STATE < s.get PWR_CTRL.TARGET))

/-- PWR_TARGET_WRITE. In DEEP_SLEEP a target above it wakes the device. -/
def execPwrTargetWrite (t : BitVec 2) (s : State) : Host.Outcome State Fault Refusal :=
  let s := (s.set PWR_CTRL.TARGET t.toNat).showWait
  .next (if s.get PWR_STAT.STATE = 3 ∧ t.toNat < 3 then { s with sys := { s.sys with wake := true } } else { s with idleSince := s.tick })

/-- The conditions of R382. -/
def State.mayRest (s : State) : Bool :=
  (List.range 64).all (fun b => s.pltIdle b && (s.pilot b).start.isNone) &&
  (List.range 16).all (fun n => !s.acqBusy n) &&
  (List.range 270).all (fun i => let c := s.convState i; c == convSt.inService || c == convSt.due || c == convSt.spareIdle || c == convSt.failed) &&
  !s.bit CAL_STAT.SELF_BUSY && s.fuseJob.isNone &&
  (List.range 64).all (fun b => !s.bit (FLX_CFG.RC_BUSY b)) &&
  (s.twinRole == role.solo || s.twinRole == role.out) &&
  s.stage == stg.ready && s.sys.shut.isNone

/-- POWER_STATE_ENTRY: one state down towards TARGET; STANDBY is reached once every line is parked, DEEP_SLEEP with an ORDERLY record
and a lifetime save. -/
def execPowerStateEntry (s : State) : Host.Outcome State Fault Refusal :=
  let st := s.get PWR_STAT.STATE
  if s.get PWR_CTRL.TARGET ≤ st || !s.mayRest then .next s
  else if st = 0 then
    .next ({ s.openSwitches with idleSince := s.tick }.set PWR_STAT.STATE 1).showWait
  else if st = 1 then
    if s.allClamped then .next (s.set PWR_STAT.STATE 2).showWait
    else .next (s.each (List.range 64) (fun s b => s.park b))
  else
    let s := (s.recEvent kd.orderly (slot 1 ++ slotInt (s.getInt TH_TJ.TJ))).lifeStart
    .next ((s.sleepScope.set PWR_STAT.STATE 3).showWait)

/-- POWER_STATE_EXIT: the return to ACTIVE is complete; from STANDBY with the self-calibration, from DEEP_SLEEP at READY. -/
def execPowerStateExit (s : State) : Host.Outcome State Fault Refusal :=
  let st := s.get PWR_STAT.STATE
  if st = 3 then
    if s.sys.wake ∧ s.stage = stg.ready ∧ s.get BOOT_STAT.CAUSE = 3 then
      .next ({ s with sys := { s.sys with wake := false } }.set PWR_STAT.STATE 0).showWait
    else .next s
  else if s.get PWR_CTRL.TARGET < st then
    let s := s.set PWR_STAT.STATE 0
    .next ((if st = 2 then s.selfStart else s).showWait)
  else .next s

/-- DEEP_SLEEP_WAKE: start-up begins again from the flash. -/
def execDeepSleepWake (s : State) : Host.Outcome State Fault Refusal :=
  if s.get PWR_STAT.STATE ≠ 3 ∨ !s.sys.wake ∨ s.get BOOT_STAT.CAUSE = 3 ∧ s.stage ≠ stg.ready then .next s
  else
    let s := (s.set BOOT_STAT.CAUSE 3).set BOOT_STAT.STAGE 1
    .next { s with sys := { s.sys with rose := s.tick } }

/-- HOST_EIDLE_RETURN. -/
def execHostEidleReturn (s : State) : Host.Outcome State Fault Refusal :=
  if s.get PWR_STAT.STATE ≠ 3 ∨ !s.bit (PORT_STAT.UP 6) ∨ !s.since s.sys.sleepIdle oneMs then .next s
  else .next (s.each [24, 25, 26, 27] (fun s l =>
    (s.laneTo l ln.eidle).modLane l (fun k => { k with keepSent := some s.tick, keepSeen := some s.tick })))

/-! ## Monitor ADC (R384, R385) -/

/-- Conversions of a request, its shift and its input: AVG 0 acts as 1 and above 8 as 8, SHIFT above 8 as 8, INPUT above 47 as 39. -/
def monCount (w : Word) : Nat := 2 ^ Nat.max 1 (Nat.min 8 (fieldOf w 8 4))
def monShift (w : Word) : Nat := Nat.min 8 (fieldOf w 12 4)
def monInput (w : Word) : Nat := let i := fieldOf w 0 6; if 47 < i then 39 else i

/-- A result word: the sum rounded half up and shifted, the input, NEW. -/
def monResult (w : Word) (sum : Nat) : Word :=
  let k := monShift w
  BitVec.ofNat 32 ((sum + (if k = 0 then 0 else 2 ^ (k - 1))) / 2 ^ k % 2 ^ 24 + monInput w * 2 ^ 24 + 2 ^ 31)

/-- MON_CONVERSION: one conversion, of the urgent request where one waits, else of the slot of the loop. -/
def execMonConversion (code : BitVec 16) (s : State) : Host.Outcome State Fault Refusal :=
  let m := s.mon
  match m.urgent with
  | some (n, sum) =>
    let w := s.rd R.MON_URG
    let sum := sum + code.toNat
    if n + 1 < monCount w then .next { s with mon := { m with urgent := some (n + 1, sum) } }
    else .next (({ s with mon := { m with urgent := none } }.wr R.MON_URG_RES (monResult w sum)).setBit MON_URG.GO false)
  | none =>
    if !s.bit MON_CFG.EN then .next s
    else
      let w := s.rd (R.MON_SEQ m.slot)
      let sum := m.sum + code.toNat
      if m.n + 1 < monCount w then .next { s with mon := { m with n := m.n + 1, sum := sum } }
      else
        let next := if m.slot < s.get MON_CFG.NSLOT then m.slot + 1 else 0
        .next ({ s with mon := { slot := next, n := 0, sum := 0, urgent := none } }.wr (R.MON_RES m.slot) (monResult w sum))

/-- MON_URGENT_REQUEST: a write of MON_URG; GO while a request is pending is ignored. -/
def execMonUrgentRequest (w : Word) (s : State) : Host.Outcome State Fault Refusal :=
  if !w.getLsbD 31 then .next (if s.mon.urgent.isSome then s else s.wr R.MON_URG ((w &&& 0xFF3F) ||| (s.rd R.MON_URG &&& 0x40000000)))
  else if s.mon.urgent.isSome then .next (s.setBit MON_URG.REJ true)
  else
    let s := s.wr R.MON_URG ((w &&& 0xFF3F) ||| 0x80000000 ||| (s.rd R.MON_URG &&& 0x40000000))
    .next { s with mon := { s.mon with urgent := some (0, 0) } }

end Sys2Proof.Machine
end

