-- ==== Sys2Proof/Machine/Boot.lean ====
section
/-! DEFINITION. Power-on, RESET_N, start-up, the flash window, the test port and debug access (R406 to R424). -/

namespace Sys2Proof.Machine

/-! ## Resets (R408, R416, R417) -/

/-- RESET_N_ASSERT: the steps before the reset begin in this tick; a chip reset by fault under way becomes a reset by the pin. -/
def execResetNAssert (s : State) : Host.Outcome State Fault Refusal :=
  .next (if s.sys.pinLow then s else { s with sys := { s.sys with pinLow := true } }.resetBegin 1)

/-- RESET_N_RELEASE: the start-up bounds count from here. -/
def execResetNRelease (s : State) : Host.Outcome State Fault Refusal :=
  .next (if s.sys.pinLow then { s with sys := { s.sys with pinLow := false, rose := s.tick } } else s)

/-- BOOT_REBOOT: acts as RESET_N when KEY is 0x5A. -/
def execBootReboot (key : BitVec 8) (s : State) : Host.Outcome State Fault Refusal :=
  .next (if key = 0x5A then s.resetBegin 4 else s)

/-- RESET_SCOPE_APPLY: every line is clamped; stops still under way end, their batches complete with RESET_CUT, and the scope resets.
Start-up follows, for the pin once it rises. -/
def execResetScopeApply (s : State) : Host.Outcome State Fault Refusal :=
  match s.sys.resetting with
  | none => .next s
  | some (cz, _) =>
    if !s.allClamped then .next s
    else
      let s := s.each (List.range 64) (fun s b =>
        ((s.modLedger b (fun g => { g with stopAt := g.stopAt.map (fun p => (Tick.min p.1 s.tick, p.2)) })).stopDue b).batchDone b)
      let s := if cz = 2 then s.chipScope else s.fullScope false
      let s := (s.set BOOT_STAT.STAGE stg.por).set BOOT_STAT.CAUSE cz
      .next { s with sys := { s.sys with resetting := none, rose := s.tick } }

/-- Everything resets, the power cycle is counted and a challenge drawn (R416, R424). -/
def State.powerOn (s : State) (challenge : BitVec 64) : State :=
  let s := s.fullScope true
  let s := s.set REC_PCYC.PCYC ((s.get REC_PCYC.PCYC + 1) % 2 ^ 24)
  { s with sys := { s.sys with challenge := challenge, rose := s.tick } }

/-- POWER_ON: the board holds RESET_N low (R407). -/
def execPowerOn (challenge : BitVec 64) (s : State) : Host.Outcome State Fault Refusal :=
  let s := s.powerOn challenge
  .next { s with sys := { s.sys with pinLow := true } }

/-- SUPPLY_DIP: VAON resets as a power-on, with a challenge that no command gives. -/
def execSupplyDip (rail : Fin 6) (s : State) : Host.Outcome State Fault Refusal :=
  if rail = 5 then .next (s.powerOn (BitVec.ofNat 64 (Config.free s.freeCtr))).fresh
  else .next (s.raise Src.SUPPLY_FAULT (slot rail))

/-- PLL_UNLOCK: loss of lock in service. -/
def execPllUnlock (s : State) : Host.Outcome State Fault Refusal :=
  .next (s.when (s.stage == stg.ready) (·.raise Src.PLL_UNLOCK []))

/-! ## Start-up (R410 to R415) -/

/-- The valid slot with the higher version and patch level, the lower slot when equal. -/
def newestSlot (a b : Option (BitVec 24)) : Option (Nat × BitVec 24) :=
  match a, b with
  | some x, some y => if x < y then some (1, y) else some (0, x)
  | some x, none => some (0, x)
  | none, some y => some (1, y)
  | none, none => none

/-- BOOT_IMAGE_BAD for each slot of a kind that fails its checks. -/
def State.imageBad (s : State) (kind : Nat) (a b : Option (BitVec 24)) : State :=
  let s := s.when a.isNone (·.raise Src.BOOT_IMAGE_BAD (slot kind ++ slot 0))
  s.when b.isNone (·.raise Src.BOOT_IMAGE_BAD (slot kind ++ slot 1))

/-- The fields of a register that code RW lets software set. -/
def rwMask (a : Nat) : Word :=
  match regRow a with
  | none => 0
  | some (r, _) => (r.fields.filter (fun f => f.acc == .rw)).foldl (fun (m : Word) f => m ||| BitVec.ofNat 32 ((2 ^ f.len - 1) <<< f.lo)) 0

/-- The fuse array is read (R242): the valid generation with the highest number is the baseline. -/
def State.loadFuses (s : State) : State :=
  let gens := (List.range 16).map (fun k => (k, s.fuse k))
  let ok (g : FuseGen) : Bool := g.used && g.sealed_ && g.good
  let bad := gens.filter (fun (p : Nat × FuseGen) => p.2.used && !ok p.2)
  let best := (gens.filter (fun (p : Nat × FuseGen) => ok p.2)).foldl (fun (a : Option (Nat × FuseGen)) p =>
    match a with
    | none => some p
    | some q => if q.2.gen < p.2.gen then some p else some q) none
  let s := s.set CAL_FUSE_STAT.USED ((gens.map (fun (p : Nat × FuseGen) => if p.2.used then 2 ^ p.1 else 0)).foldl (· + ·) 0)
  let s := s.each bad (fun s p => s.raise Src.FUSE_GEN_BAD (slot p.1))
  match best with
  | some (k, _) => s.set CAL_FUSE_STAT.ACTIVE_GEN k
  | none => (s.set CAL_FUSE_STAT.ACTIVE_GEN 0).when (bad.all (fun p => p.1 != 0)) (·.raise Src.FUSE_GEN_BAD (slot 0))

/-- The board configuration block (R412): MESH_CFG, TWIN_CFG, GOV_PMB, GOV_CFG and the power target, or their reset values. -/
def State.loadBoard (s : State) (cfg : Option (BitVec 130)) : State :=
  let regs := [(R.MESH_CFG, 0), (R.TWIN_CFG, 32), (R.GOV_PMB, 64), (R.GOV_CFG, 96)]
  let s := match cfg with
    | some v => ((s.each regs (fun s p => s.wr p.1 (v.extractLsb' p.2 32 &&& rwMask p.1))).set PWR_CTRL.TARGET (v.extractLsb' 128 2).toNat).setBit
        BOOT_STAT.CFG_OK true
    | none => (((s.each regs (fun s p => s.wr p.1 (regReset p.1))).set PWR_CTRL.TARGET 0).setBit BOOT_STAT.CFG_OK false).raise Src.BOOT_CFG_BAD []
  s.twinConfigure

/-- A tick counted from a TICK that restarts. -/
def shiftTick (d : Tick) (t : Option Tick) : Option Tick := t.map (fun (x : Tick) => x - d)

/-- TICK restarts at 0, with TIME. Times that have run on keep their length. -/
def State.restartTick (s : State) : State :=
  let d := s.tick
  let s := s.each (List.range 32) (fun s l => s.modLane l (fun k => { k with
    noUp := shiftTick d k.noUp, noLock := shiftTick d k.noLock, lastAlive := shiftTick d k.lastAlive,
    lastRetry := shiftTick d k.lastRetry, keepSent := shiftTick d k.keepSent, keepSeen := shiftTick d k.keepSeen,
    exit := shiftTick d k.exit, eye := shiftTick d k.eye }))
  { s with
    tick := 0,
    time := TimeSt.init,
    raised := s.raised.map (fun f => { f with tick := f.tick - d }),
    reacts := s.reacts.map (fun e => { e with tick := e.tick - d }),
    errUntil := shiftTick d s.errUntil,
    lastSave := s.lastSave - d,
    idleSince := s.idleSince - d,
    therm := { s.therm with changed := s.therm.changed.map (shiftTick d) },
    gov := { s.gov with
      reqAt := s.gov.reqAt - d, lastStep := shiftTick d s.gov.lastStep, maxSince := shiftTick d s.gov.maxSince,
      failedAt := shiftTick d s.gov.failedAt, lastPoll := shiftTick d s.gov.lastPoll },
    sys := { s.sys with rose := s.sys.rose - d, zeroing := shiftTick d s.sys.zeroing, relock := false } }

/-- The lifetime set is loaded from its valid copy with the highest generation (R405); HOURS and SECS resume from it (R399). -/
def State.loadLifetime (s : State) : State :=
  let best := s.lifeCopies.foldl (fun (a : Option (Nat × Nat × Store Word)) (p : Nat × Option (Nat × Store Word)) =>
    match p.2, a with
    | none, _ => a
    | some (g, m), none => some (p.1, g, m)
    | some (g, m), some q => if q.2.1 < g then some (p.1, g, m) else a) none
  match best with
  | some (k, g, m) =>
    let s := { s with life := m, lifeNext := (k + 1) % 16, lastSave := s.tick }.setLifeWord 0 0
    let secs := ((List.range 32).map (fun i => (s.lifeWord (i + 1)).toNat)).foldl (· + ·) 0
    ((s.wr R.LIF_GEN (BitVec.ofNat 32 g)).set REC_HOURS.HOURS (secs / 3600 % 2 ^ 24)).set REC_SECS.SECS (secs % 3600)
  | none =>
    let s := { s with life := [], lastSave := s.tick }
    (((s.wr R.LIF_GEN 0).set REC_HOURS.HOURS 0).set REC_SECS.SECS 0).raise Src.LIF_BAD []

/-- Tenths of a millisecond from the reset to now. -/
def State.bootTime (s : State) : Nat := Nat.min 65535 ((s.tick - s.sys.rose).toNat / 150000)

/-- READY: records held in DEEP_SLEEP and the BOOT record are queued (R400, R420), the governor commands VSTART (R379) and a SOLO device
drives TAKE_N low (R337). -/
def State.becomeReady (s : State) : State :=
  let held := s.recorder.asleep
  let s := (s.modRecorder (fun r => { r with asleep := [] })).set BOOT_STAT.TIME s.bootTime
  let s := s.set BOOT_STAT.STAGE stg.ready
  let slots := [s.get BOOT_STAT.CAUSE, (s.sys.fwVer.extractLsb' 8 16).toNat, (s.sys.ucVer.extractLsb' 8 16).toNat,
    (s.sys.ucVer.extractLsb' 0 8).toNat + 256 * s.get CAL_FUSE_STAT.ACTIVE_GEN, s.get BOOT_STAT.TIME,
    s.get SEC_STAT.KEY_VOID + 2 * s.get SEC_STAT.DBG_OPEN + 4 * s.get SEC_STAT.FACTORY + 8 * s.get TH_STAT.SHUT_FLAG]
  let boot := s.recWords kd.boot s.tick 0 (slotWord slots 0) (slotWord slots 1) s.timeNs
  let s := s.each (held.map (fun (p : Nat × List (BitVec 64)) => p.2) ++ [boot]) (fun s ws =>
    if s.recorder.queue.length < 256 then s.recJoin ws else s.recDrop)
  let s := (s.showQueued.modGov (fun g => { g with started := true })).govCommand (s.get GOV_CFG.VSTART)
  let s := s.when (s.twinRole == role.solo) (fun s => { s with twin := { s.twin with takeLow := true } })
  { s with idleSince := s.tick }.showWait

/-- BOOT_STAGE_DONE: the stage under way ends. `i0` and `i1` are what the checks of the two firmware slots find, `i2` and `i3` of the
microcode slots: version and patch level of a valid image. `cfg` is the board configuration when its check holds, `cal` the
converters' first deltas. -/
def execBootStageDone (i0 i1 i2 i3 : Option (BitVec 24)) (cfg : Option (BitVec 130)) (cal : List (Fin 270 × BitVec 512)) (s : State) :
    Host.Outcome State Fault Refusal :=
  let st := s.stage
  let to_ (s : State) (n : Nat) : State := s.set BOOT_STAT.STAGE n
  if s.sys.resetting.isSome || s.sys.pinLow || decide (stg.ready ≤ st) then .next s
  else if st = 0 then .next (to_ (s.setBit SEC_STAT.KEYS_READY (!s.bit SEC_STAT.KEY_VOID)) 1)
  else if st = 1 then .next (to_ s 2)
  else if st = 2 then
    let s := s.imageBad 0 i0 i1
    match newestSlot i0 i1 with
    | some (k, v) => .next (to_ ({ s with sys := { s.sys with fwVer := v } }.set BOOT_STAT.FW_SLOT k) 3)
    | none => .next ((to_ (s.raise Src.BOOT_RECOVERY []) stg.recovery).each [24, 25, 26, 27] (fun s l => s.laneEnables l))
  else if st = 3 then
    let s := s.imageBad 1 i2 i3
    match newestSlot i2 i3 with
    | some (k, v) =>
      let s := { s with sys := { s.sys with ucVer := v } }.set BOOT_STAT.UC_SLOT k
      .next (to_ (s.each (List.range 64) (fun s b =>
        let s := (s.set (UC_VER.IMAGE b) (v.extractLsb' 8 16).toNat).set (UC_VER.PATCH b) (v.extractLsb' 0 8).toNat
        ((s.setBit (UC_VER.VALID b) true).setBit (PLT_STAT.UC_VALID b) true).setBit (PLT_STAT.PATCH_PEND b) false)) 4)
    | none => .next (to_ s 4)
  else if st = 4 then .next (to_ (s.loadFuses.loadBoard cfg) 5)
  else if st = 5 then
    let keep := s.get BOOT_STAT.CAUSE == 3 || (s.get BOOT_STAT.CAUSE == 2 && !s.sys.relock)
    .next ((to_ (if keep then s else s.restartTick) 6).each (List.range 32) (fun s l => s.laneEnables l))
  else if st = 6 then .next (to_ (if s.get BOOT_STAT.CAUSE = 2 ∨ s.get BOOT_STAT.CAUSE = 3 then s else s.loadLifetime) 7)
  else .next (s.each cal (fun s r => s.calibrated r.1 r.2)).becomeReady

/-! ## Flash window (R409, R411) -/

/-- The window reaches a flash offset: in RECOVERY all below the recorder; at READY the slots not in use, the board configuration and
the customer area. -/
def State.flashReach (s : State) (a : Nat) : Bool :=
  let within (lo n : Nat) : Bool := decide (lo ≤ a) && decide (a < lo + n)
  if s.stage = stg.recovery then decide (a < 0x3F00000)
  else if s.stage = stg.ready then
    within (0x200000 - 0x100000 * s.get BOOT_STAT.FW_SLOT) 0x100000 || within (0x340000 - 0x40000 * s.get BOOT_STAT.UC_SLOT) 0x40000 ||
      within 0x380000 0x1000 || within 0x400000 0x3B00000
  else false

/-- The window's address, a multiple of 4. -/
def State.flashAddr (s : State) : Nat := s.get BOOT_FLW_ADDR.ADDR / 4 * 4

/-- ADDR increments by 4 after each access to DATA. -/
def State.flashStep (s : State) : State := s.set BOOT_FLW_ADDR.ADDR ((s.flashAddr + 4) % 2 ^ 26)

/-- An operation starts, or is refused: outside the window's ranges, or while another runs. -/
def State.flashStart (s : State) (erase : Bool) : State :=
  if !s.flashReach s.flashAddr || s.sys.flash.isSome then s.setBit BOOT_FLW_CTRL.REJ true
  else
    let s := { s with sys := { s.sys with flash := some (erase, s.flashAddr) } }.setBit BOOT_FLW_CTRL.BUSY true
    s.when erase (·.setBit BOOT_FLW_CTRL.ERASE true)

/-- FLASH_WINDOW_WRITE: the word waits in DATA while it is programmed. -/
def execFlashWindowWrite (v : Word) (s : State) : Host.Outcome State Fault Refusal :=
  .next (((s.when s.sys.flash.isNone (·.wr R.BOOT_FLW_DATA v)).flashStart false).flashStep)

/-- FLASH_WINDOW_READ: a refused read returns a value that no rule gives. -/
def execFlashWindowRead (s : State) : Host.Outcome State Fault Refusal :=
  let a := s.flashAddr
  if !s.flashReach a then .next (((s.setBit BOOT_FLW_CTRL.REJ true).answer (BitVec.ofNat 32 (Config.free s.freeCtr))).fresh.flashStep)
  else .next ((s.answer (s.flashByte (a + 3) ++ s.flashByte (a + 2) ++ s.flashByte (a + 1) ++ s.flashByte a)).flashStep)

/-- FLASH_WINDOW_ERASE. -/
def execFlashWindowErase (s : State) : Host.Outcome State Fault Refusal := .next (s.flashStart true)

/-- FLASH_OP_DONE: programming clears bits of the erased word; what a failed operation leaves is free, and it is told. -/
def execFlashOpDone (ok : Bool) (s : State) : Host.Outcome State Fault Refusal :=
  match s.sys.flash with
  | none => .next s
  | some (erase, a) =>
    let v := s.rd R.BOOT_FLW_DATA
    let cells := if erase then (List.range 4096).map (fun k => a / 4096 * 4096 + k) else (List.range 4).map (fun k => a + k)
    let s := s.each cells (fun s k =>
      if !ok then (s.setFlashByte k (BitVec.ofNat 8 (Config.free s.freeCtr))).fresh
      else s.setFlashByte k (if erase then 0xFF else s.flashByte k &&& v.extractLsb' (8 * (k - a)) 8))
    let s := { s with sys := { s.sys with flash := none } }
    let s := (s.setBit BOOT_FLW_CTRL.BUSY false).when erase (·.setBit BOOT_FLW_CTRL.ERASE false)
    .next (s.when (!ok) (·.raise Src.REC_FLASH (slot (a / 4096))))

/-! ## Test access port (R422) -/

/-- The identification code of the first revision. -/
def idCode : Word := 0x0641658B

/-- TAP_RESET: while TRST_N is low the port is in Test-Logic-Reset, which selects IDCODE. -/
def execTapReset (low : Bool) (s : State) : Host.Outcome State Fault Refusal :=
  .next { s with tap := if low then { s.tap with held := true, instr := 0x01, driving := false } else { s.tap with held := false } }

/-- An instruction takes effect, unless the port is held. -/
def State.tapInstr (s : State) (f : Tap → Tap) : State := if s.tap.held then s else { s with tap := f { s.tap with driving := false } }

/-- TAP_BYPASS: one register bit, 0 at capture. -/
def execTapBypass (tdi : List Bool) (s : State) : Host.Outcome State Fault Refusal :=
  .next (s.tapInstr (fun t => { t with instr := 0xFF, out := (false :: tdi).take tdi.length }))

/-- TAP_IDCODE: 32 bits, the lowest first. -/
def execTapIdcode (s : State) : Host.Outcome State Fault Refusal :=
  .next (s.tapInstr (fun t => { t with instr := 0x01, out := (List.range 32).map (fun i => idCode.getLsbD i) }))

/-- TAP_SAMPLE_PRELOAD: the boundary register captures the pins and is shifted out while the next values are shifted in. -/
def execTapSamplePreload (pins load : List Bool) (s : State) : Host.Outcome State Fault Refusal :=
  .next (s.tapInstr (fun t => { t with instr := 0x02, captured := pins, out := pins, preload := load }))

/-- TAP_EXTEST: in factory test mode the pins follow the boundary register; elsewhere it acts as BYPASS. -/
def execTapExtest (s : State) : Host.Outcome State Fault Refusal :=
  .next (s.tapInstr (fun t => if s.bit SEC_STAT.FACTORY then { t with instr := 0x03, driving := true } else { t with instr := 0xFF }))

/-! ## Debug access (R423, R424) -/

/-- DBG_REQ_UPDATE: the right value voids the keys at once and starts zeroising them. -/
def execDbgReqUpdate (v : Word) (s : State) : Host.Outcome State Fault Refusal :=
  let held := s.tap.held
  let s := s.tapInstr (fun t => { t with instr := 0x10 })
  if held || v != 0x0D1B0A7E then .next s
  else
    let s := s.setBit SEC_STAT.KEY_VOID true
    .next (if s.bit SEC_STAT.DBG_OPEN || s.sys.zeroing.isSome then s else { s with sys := { s.sys with zeroing := some s.tick } })

/-- KEY_ZEROISE_DONE: debug access opens and SEC_CHAL shows the challenge. -/
def execKeyZeroiseDone (s : State) : Host.Outcome State Fault Refusal :=
  if s.sys.zeroing.isNone then .next s
  else
    let s := { s with sys := { s.sys with zeroing := none } }
    let s := (s.setBit SEC_STAT.KEYS_READY false).setBit SEC_STAT.DBG_OPEN true
    let s := (s.wr R.SEC_CHAL_LO (s.sys.challenge.extractLsb' 0 32)).wr R.SEC_CHAL_HI (s.sys.challenge.extractLsb' 32 32)
    .next (s.raise Src.DBG_OPEN [])

/-- FT_TOKEN_UPDATE: `good` tells that the token is the vendor's for this device's challenge. -/
def execFtTokenUpdate (_token : BitVec 96) (good : Bool) (s : State) : Host.Outcome State Fault Refusal :=
  if s.tap.held then .next s
  else if !s.bit SEC_STAT.DBG_OPEN then .next (s.tapInstr (fun t => { t with instr := 0xFF }))
  else
    let s := s.tapInstr (fun t => { t with instr := 0x12 })
    if 3 ≤ s.sys.badTokens then .next s
    else if !good then .next ({ s with sys := { s.sys with badTokens := s.sys.badTokens + 1 } }.raise Src.DBG_TOKEN_BAD [])
    else
      let s := (s.twinYield.stopPilots cause.pilotFault).openSwitches.parkAll
      let s := s.each (List.range 16) (fun s n => s.acqStop n)
      .next ((s.setBit SEC_STAT.FACTORY true).raise Src.DBG_FACTORY [])

end Sys2Proof.Machine
end

