-- ==== Sys2Proof/Machine/Access.lean ====
section
/-! DEFINITION. Register accesses: field access codes, registers with rules of their own, domains that are down, and the accesses of
the host, the management core and the debug port (R3 to R5, R62, R126, R262, R415, R445 to R450). -/

namespace Sys2Proof.Machine

/-! ## Addresses and fields -/

/-- The instance of a block or register set that an address falls in: berth, input, probe output, lane, ring or mailbox (R445). -/
def regInst (a : Nat) : Nat :=
  if a < 0x100000 then 0
  else if a < 0x500000 then (a - 0x100000) / 0x10000
  else if a < 0x900000 then (a - 0x500000) / 0x40000
  else if a < 0xA00000 then (a - 0x900000) / 0x1000
  else if a < 0xB00000 then (a - 0xA00000) / 0x800
  else if 0xC00000 ≤ a ∧ a < 0xC01000 then (a - 0xC00000) / 0x40
  else if 0xD00000 ≤ a ∧ a < 0xD02000 then (a - 0xD00000) / 0x100
  else 0

/-- The bits of a field. -/
def FieldRow.mask (f : FieldRow) : Word := BitVec.ofNat 32 ((2 ^ f.len - 1) <<< f.lo)

/-- A write of `v` to a field of a word that holds `old` (R4, R5). A W1S bit is set by the action it asks for. -/
def fieldWrite (v old : Word) (f : FieldRow) : Word :=
  match f.acc with
  | .rw => (old &&& ~~~f.mask) ||| (v &&& f.mask)
  | .w1c => old &&& ~~~(v &&& f.mask)
  | _ => old

/-- A read of a field (R3, R5): WO reads as zero, and the top bit of a signed field fills the word above it. -/
def fieldRead (w : Word) (f : FieldRow) : Word :=
  if f.acc = .wo then 0
  else if f.sext && w.getLsbD (f.lo + f.len - 1) then (w &&& f.mask) ||| ~~~(BitVec.ofNat 32 (2 ^ (f.lo + f.len) - 1))
  else w &&& f.mask

/-- A write by the access codes alone. An address without a register takes nothing. -/
def State.plainWrite (s : State) (a : Nat) (v : Word) : State :=
  match regRow a with
  | none => s
  | some (r, _) => s.wr a (r.fields.foldl (fieldWrite v) (s.rd a))

/-- A read by the access codes alone; RC fields return to their reset value. -/
def State.plainRead (s : State) (a : Nat) : State :=
  match regRow a with
  | none => s.answer 0
  | some (r, _) =>
    let w := s.rd a
    let rc := r.fields.filter (fun f => f.acc == .rc)
    let s := s.each rc (fun s f => s.set ⟨a, f.lo, f.len⟩ (f.reset % 2 ^ f.len))
    s.answer (r.fields.foldl (fun (x : Word) f => x ||| fieldRead w f) 0)

/-- The state that a meaning answers. -/
def State.run (s : State) (f : State → Host.Outcome State Fault Refusal) : State :=
  match f s with | .next t => t | _ => s

/-- A number brought into a range. -/
def fin (n : Nat) [NeZero n] (x : Nat) : Fin n := Fin.ofNat n x

/-! ## Writes (R5) -/

/-- The global block. -/
def State.writeGlobal (s : State) (name : String) (i a : Nat) (v : Word) : State :=
  match name with
  | "SEG_CTRL" =>
    if v.msb then s.run (execSegCommit (v.setWidth 17) (v.getLsbD 30))
    else if v.getLsbD 30 then s.run (execSegRead (v.setWidth 17)) else s.plainWrite a v
  | "SYN_ORIGIN_HI" => s.run (execSynOriginWrite (v.setWidth 16))
  | "SYN_STREAM_CFG" => s.run (execMaxPlaysWrite (v.setWidth 8))
  | "ADM_CFG" => s.run (execAdmLimitWrite (v.setWidth 24))
  | "MRK_SEL" => s.run (execMrkSelWrite (fin 16 i) v)
  | "SBUF_BASE" => if s.sbufBusy i then s else s.plainWrite a v
  | "SBUF_SIZE" => if s.sbufBusy i then s else (s.plainWrite a v).showSbuf i
  | _ => s.plainWrite a v

/-- A berth block. FLX_CFG.PD_EN and the MIX bits are judged by what stood before the write. -/
def State.writeBerth (s : State) (name : String) (b i a : Nat) (v : Word) : State :=
  let bit (k : Nat) : Bool := v.getLsbD k
  match name with
  | "PLT_CTRL" =>
    let s := s.when (bit 0) (·.run (execPltCtrlStop (fin 64 b)))
    let s := s.when (bit 1) (·.run (execPltCtrlStopBnd (fin 64 b)))
    s.when (bit 2) (·.run (execPltCtrlSnap (fin 64 b)))
  | "PLT_RSRC" => if s.pltIdle b then s.plainWrite a v else s
  | "PLT_PM_ADDR" => if s.pltIdle b then s.plainWrite a v else s
  | "PLT_PM_DATA" => s.run (execPltPmDataAccess (fin 64 b) (some v))
  | "PND_VIEW_SEL" => s.run (execPndViewSelWrite (fin 64 b) (v.setWidth 6))
  | "DRV_CFG" =>
    let s := s.when (bit 1 != s.bit (DRV_CFG.MIX b)) (·.run (execDrvMixWrite (fin 64 b) (bit 1)))
    s.run (if bit 0 then execDrvEnSet (fin 64 b) else execDrvEnClear (fin 64 b))
  | "SYN_JMP" => if bit 31 then s.run (execSynJmpGo (fin 64 b) v) else s.plainWrite a v
  | "FLX_CFG" =>
    let s := s.when (bit 3 != s.bit (FLX_CFG.PD_EN b)) (·.run (execFlxFilterWrite (fin 64 b) 80 v))
    let s := s.setBit (FLX_CFG.SC_ACT b) (bit 4)
    if bit 0 == s.bit (FLX_CFG.EN b) then s
    else s.run (if bit 0 then execFlxEnSet (fin 64 b) else execFlxEnClear (fin 64 b))
  | "FLX_SLEW" => if s.bit (FLX_CFG.RC_BUSY b) then s.setBit (FLX_STAT.CFG_REJ b) true else s.plainWrite a v
  | "FLX_BIAS_WR" => s.run (execFlxBiasWrite (fin 64 b) (v.setWidth 18))
  | "FLX_RC" => if bit 31 then s.run (execRangeChangeRequest (fin 64 b) v) else s.plainWrite a v
  | "FLX_EXP_A" => s.run (execFlxFilterWrite (fin 64 b) (fin 81 i) v)
  | "FLX_EXP_B" => s.run (execFlxFilterWrite (fin 64 b) (fin 81 (8 + i)) v)
  | "FLX_FIR" => s.run (execFlxFilterWrite (fin 64 b) (fin 81 (16 + i)) v)
  | _ => s.plainWrite a v

/-- Configuration registers of an acquisition unit, which ignore writes while it is ARMED, FIRED or in CAPTURE. -/
def acqConfigs : List String :=
  ["ACQ_CFG", "ACQ_TONES", "ACQ_CAP", "ACQ_RAW", "ACQ_BUF_BASE", "ACQ_BUF_SIZE", "ACQ_AVG_BASE", "ACQ_RES", "ACQ_TRG_CFG", "ACQ_GRP",
    "ACQ_LEVEL", "TRG_COND", "TRG_COUNT", "TRG_TIMER"]

/-- A read-out input block. -/
def State.writeInput (s : State) (name : String) (n i a : Nat) (v : Word) : State :=
  let bit (k : Nat) : Bool := v.getLsbD k
  let x := fin 16 n
  match name with
  | "RDI_CFG" =>
    let s := s.when (bit 1 != s.bit (RDI_CFG.MODE n)) (·.run (execRdiModeWrite x (bit 1)))
    let s := (s.run (execRdiInjWrite x (bit 2))).setBit (RDI_CFG.OVR_INV n) (bit 3)
    s.run (if bit 0 then execRdiEnSet x else execRdiEnClear x)
  | "RDI_ATT" => s.run (execRdiAttWrite x (v.setWidth 6))
  | "RDI_LOF_LO" => if s.bit (RDI_CFG.EN n) then s.setBit (RDI_STAT.CFG_REJ n) true else s.plainWrite a v
  | "RDI_LOF_HI" => s.run (execRdiLofWrite x (v.setWidth 16))
  | "KRN_DMEM" => s.kernHost n false i (some v)
  | "KRN_PMEM" => s.kernHost n true i (some v)
  | "KRN_CTRL" =>
    let s := s.run (if bit 0 then execKrnRunStart x else execKrnRunStop x)
    let s := s.when (bit 1) (·.run (execKrnSwapRequest x))
    s.when (bit 2) (·.run (execKrnHreq x))
  | "KRN_CFG" => if s.bit (KRN_CTRL.RUN n) then s.setBit (KRN_STAT.HREJ n) true else s.plainWrite a v
  | "ACQ_CTRL" =>
    let s := s.when (bit 0) (·.run (execAcqCommit x))
    let s := s.when (bit 1) (·.run (execAcqArm x))
    s.when (bit 2) (·.run (execAcqStop x))
  | "RDI_SCAL_CTRL" =>
    let s := s.when (bit 30) (·.run (execScalApply x))
    if bit 31 then s.run (execScalGo x (v.setWidth 2) (bit 2)) else s.plainWrite a v
  | _ =>
    if acqConfigs.contains name && s.acqBusy n then s.setBit (ACQ_STAT.CFG_REJ n) true else s.plainWrite a v

/-- A lane or port. -/
def State.writeLane (s : State) (name : String) (l a : Nat) (v : Word) : State :=
  let bit (k : Nat) : Bool := v.getLsbD k
  let x := fin 32 l
  match name with
  | "LANE_CTRL" =>
    let s := s.run (execLaneEnableWrite x (bit 0) (bit 1))
    let s := s.when (v.extractLsb' 4 3 != BitVec.ofNat 3 (s.get (LANE_CTRL.LOOP l))) (·.run (execLaneLoopWrite x (v.extractLsb' 4 3)))
    let s := s.when (v.extractLsb' 8 2 != BitVec.ofNat 2 (s.get (LANE_CTRL.PRBS_GEN l))) (·.run (execPrbsGenWrite x (v.extractLsb' 8 2)))
    let s := s.when (v.extractLsb' 10 2 != BitVec.ofNat 2 (s.get (LANE_CTRL.PRBS_CHK l))) (·.run (execPrbsChkWrite x (v.extractLsb' 10 2)))
    let s := if l % 4 ≠ 0 || bit 3 == s.bit (LANE_CTRL.EIDLE l) then s
      else if bit 3 then s.run (execEidleRequest x) else s.run (execEidleExitRequest (fin 8 (l / 4)) true)
    s.when (bit 2) (·.run (execLaneRestart x))
  | "LANE_TXEQ" => s.run (execTxeqWrite x (v.setWidth 16))
  | "LANE_RXEQ" => s.run (execRxeqWrite x (v.setWidth 6))
  | "LANE_EYE_CTRL" => s.run (execEyeScanGo x v)
  | _ => s.plainWrite a v

/-- MESH_CFG: ADDR and the dimensions only while EN is 0. Ports that are UP are checked when EN is set, and out of use once it is cleared. -/
def State.writeMeshCfg (s : State) (v : Word) : State :=
  let was := s.bit MESH_CFG.EN
  let s := if was then s.setBit MESH_CFG.EN v.msb else s.plainWrite R.MESH_CFG v
  if v.msb == was then s
  else if was then
    let s := ((s.set MESH_STAT.USE 0).set MESH_STAT.HOLD 0).set MESH_STAT.TOPO 0
    s.when (match s.time.parent with | some p => decide (p < 6) | none => false) (·.timeLose)
  else s.each (List.range 6) (fun s p =>
    s.when (s.bit (PORT_STAT.UP p)) (fun s => s.meshPortUp p (BitVec.ofNat 12 (s.get (LANE_PARTNER.DEV (4 * p)))) (s.get (LANE_PARTNER.PORT (4 * p)))))

/-- Mesh, time and twin. -/
def State.writeMesh (s : State) (name : String) (a : Nat) (v : Word) : State :=
  let bit (k : Nat) : Bool := v.getLsbD k
  match name with
  | "MESH_CFG" => s.writeMeshCfg v
  | "TIME_CFG" => (s.plainWrite a v).showTime
  | "TIME_CTRL" =>
    let s := s.when (bit 0) (·.run execTimeNormalRequest)
    let s := s.when (bit 1) (·.run execTimeFree)
    s.when (bit 2) (·.run execTimeSet)
  | "TWIN_CFG" => if s.twinRole = role.solo ∨ s.twinRole = role.out then (s.plainWrite a v).twinConfigure else s
  | "TWIN_CTRL" =>
    let s := s.when (bit 0) (·.run execTwinTake)
    let s := s.when (bit 1) (·.run execTwinYield)
    s.when (bit 2) (·.run execTwinResync)
  | _ => s.plainWrite a v

/-- Ring register sets. -/
def State.writeRing (s : State) (name : String) (i a : Nat) (v : Word) : State :=
  match name with
  | "RING_CFG" => s.run (execRingEnable (fin 64 i) v)
  | "RING_CTRL" =>
    let s := s.when (v.getLsbD 0) (·.run (execRingTeardown (fin 64 i)))
    s.when (v.getLsbD 1) (·.run (execRingResume (fin 64 i)))
  | "RING_DOORBELL" => s.run (execRingDoorbell (fin 64 i) (v.setWidth 17))
  | _ =>
    if ["RING_BASE_LO", "RING_BASE_HI", "RING_SHADOW_LO", "RING_SHADOW_HI", "RING_DATA_LO", "RING_DATA_HI", "RING_DATA_SIZE"].contains name &&
        s.ringSt i != rst.disabled then s.setBit (RING_STAT.CFG_REJ i) true
    else s.plainWrite a v

/-- Mailboxes. A write of GO where the data registers are down is refused whole. The debug port is no mailbox's party. -/
def State.writeMailbox (s : State) (name : String) (m i a : Nat) (v : Word) (party : Option (Fin 2)) : State :=
  match name, party with
  | "MBX_DATA", some q => s.run (execMbxDataWrite (fin 32 m) (fin 16 i) v q)
  | "MBX_DATA", none => s
  | "MBX_CTRL", some q =>
    if v.getLsbD 0 && s.mbxDown m then s.refuseWrite a q.val
    else
      let s := (s.when (v.getLsbD 1) (·.run (execMbxAck (fin 32 m) q))).plainWrite a v
      s.when (v.getLsbD 0) (·.run (execMbxPost (fin 32 m) (v.extractLsb' 8 4) q))
  | "MBX_CFG", _ => if s.bit (MBX_CTRL.FULL m) then s else s.plainWrite a v
  | _, _ => s.plainWrite a v

/-- The event fabric. -/
def State.writeEvent (s : State) (name : String) (i a : Nat) (v : Word) : State :=
  match name with
  | "EVT_SWFIRE" => s.run (execEvtSwfire (v.setWidth 8))
  | "EVT_TASK" => if i < 64 ∨ (128 ≤ i ∧ i < 144) then s else s.plainWrite a v
  | "EVT_TMR_CMP_HI" => s.run (execEvtTmrWrite (fin 4 i) (v.setWidth 16))
  | "EVT_TMR_EN" =>
    let s := s.when (v.getLsbD 0 && !s.bit (EVT_TMR_EN.EN i)) (·.modTmr i (fun t => (t.1, s.tick)))
    s.plainWrite a v
  | _ => s.plainWrite a v

/-- The management block. -/
def State.writeMgmt (s : State) (name : String) (i a : Nat) (v : Word) : State :=
  let bit (k : Nat) : Bool := v.getLsbD k
  match name with
  | "CAL_CTRL" => (s.plainWrite a v).when (bit 0) (·.selfStart)
  | "CAL_FUSE_CTRL" => if bit 31 then s.run (execFuseCommit (v.setWidth 8)) else s
  | "TH_SENS_BROKEN" => s.run (execSensorReadmit v)
  | "PWR_CTRL" => s.run (execPwrTargetWrite (v.setWidth 2))
  | "MON_URG" => (s.when (bit 30) (·.setBit MON_URG.REJ false)).run (execMonUrgentRequest v)
  | "FLT_CTRL" => (s.when (bit 2) (·.setBit FLT_CTRL.INJ_REJ false)).run (execErrHoldWrite (bit 0))
  | "FLT_REACT" => if !faultAssigned i then s else s.plainWrite a (if i = 98 then (v &&& ~~~0x20) ||| (s.rd a &&& 0x20) else v)
  | "FLT_PEND" =>
    let s := s.plainWrite a v
    if s.faultIrq then s else { s with mcoreIrq := s.mcoreIrq.filter (fun (n : Nat) => n != 0) }
  | "FLT_FIRST" => if bit 31 then s.run execFltFirstClear else s
  | "FLT_LOG_SEL" => s.run (execFltLogSelWrite (v.setWidth 6))
  | "FLT_INJ" => if bit 31 then s.run (execFaultInject (v.setWidth 8)) else s.plainWrite a v
  | "REC_CTRL" => if bit 0 then s.run execRecFlush else s
  | "REC_SEL" => s.run (execRecSelWrite v)
  | "LIF_CTRL" => if bit 0 then s.run execLifSnap else s
  | "BOOT_CTRL" => if bit 0 then s.run (execBootReboot (v.extractLsb' 8 8)) else s
  | "BOOT_FLW_DATA" => s.run (execFlashWindowWrite v)
  | "BOOT_FLW_CTRL" => (s.plainWrite a v).when (bit 0) (·.run execFlashWindowErase)
  | _ => s.plainWrite a v

/-- A write that reaches its block: by the register's own rules where its chapter gives some. -/
def State.writeReg (s : State) (a : Nat) (v : Word) (party : Option (Fin 2)) : State :=
  if a % 4 ≠ 0 then s
  else if isBasin a then s.run (execBasinWindowWrite (fin 0xC00000 ((a - 0x1000000) / 4)) v false)
  else match regRow a with
    | none => s
    | some (r, i) =>
      let k := regInst a
      if a < 0x100000 then s.writeGlobal r.name i a v
      else if a < 0x500000 then s.writeBerth r.name k i a v
      else if a < 0x900000 then s.writeInput r.name k i a v
      else if a < 0xA00000 then
        if r.name = "PRB_CFG" then
          let s := s.when (v.getLsbD 1 != s.bit (PRB_CFG.MIX k)) (·.run (execPrbMixWrite (fin 16 k) (v.getLsbD 1)))
          s.run (if v.getLsbD 0 then execPrbEnSet (fin 16 k) else execPrbEnClear (fin 16 k))
        else s.plainWrite a v
      else if a < 0xB00000 then s.writeLane r.name k a v
      else if a < 0xC00000 then s.writeMesh r.name a v
      else if a < 0xD00000 then s.writeRing r.name k a v
      else if a < 0xE00000 then s.writeMailbox r.name k i a v party
      else if a < 0xF00000 then s.writeEvent r.name i a v
      else s.writeMgmt r.name i a v

/-- Host traffic in DEEP_SLEEP starts the millisecond after which the HOST port returns to electrical idle (R383). -/
def State.hostTraffic (s : State) (party : Option (Fin 2)) : State :=
  if party = some 0 ∧ s.get PWR_STAT.STATE = 3 then { s with sys := { s.sys with sleepIdle := some s.tick } } else s

/-- A register write by the host (0), the management core (1) or the debug port (none): refused where the block is down (R262, R449). -/
def State.write (s : State) (a : Nat) (v : Word) (party : Option (Fin 2)) : State :=
  let s := s.hostTraffic party
  if s.regDown a then s.when (party == some 0) (·.dropWrite a) else s.writeReg a v party

/-- REGISTER_WRITE. -/
def execRegisterWrite (addr : BitVec 26) (v : Word) (party : Fin 2) (s : State) : Host.Outcome State Fault Refusal :=
  .next (s.write addr.toNat v (some party))

/-! ## Reads (R5, R262) -/

/-- Registers whose read latches the high half of their pair. -/
def latching : List String :=
  ["SYN_UNDER_TICK_LO", "SYN_TONE_FREQ_LO", "RDI_CHG_TICK_LO", "DEM_FREQ_LO", "ACQ_FIRE_TICK_LO", "TWIN_TAKE_TICK_LO"]

/-- A read that reaches its block: with its effects, the word answered. -/
def State.readReg (s : State) (a : Nat) (party : Option (Fin 2)) : State :=
  if a % 4 ≠ 0 then s.answer 0
  else if isBasin a then s.run (execBasinWindowRead (fin 0xC00000 ((a - 0x1000000) / 4)) 0)
  else match regRow a with
    | none => s.answer 0
    | some (r, i) =>
      let k := regInst a
      match r.name with
      | "GLB_SERIAL_LO" => s.answer (Config.serial.extractLsb' 0 32)
      | "GLB_SERIAL_HI" => s.answer (Config.serial.extractLsb' 32 32)
      | "TPL_TICK_LO" => s.run execTplTickLoRead
      | "LM_DEV_MIN" => s.run execLmDevMinRead
      | "LOCK_LATE_TICK_LO" => (s.latchHi a).plainRead a
      | "SHL_LAST_DONE" => s.run (execShlLastDoneRead (fin 64 k))
      | "PLT_PM_DATA" => s.run (execPltPmDataAccess (fin 64 k) none)
      | "DEM_LAST_DEC" => s.run (execDemLastDecRead (fin 16 k) (fin 16 ((a % 0x40000 - 0x100) / 0x80)))
      | "KRN_DMEM" => s.kernHost k false i none
      | "KRN_PMEM" => s.kernHost k true i none
      | "CAL_TRIM_BASE" => s.answer (if s.get CAL_TRIM_SEL.CONV < 270 then s.baseWord (s.get CAL_TRIM_SEL.CONV) (s.get CAL_TRIM_SEL.WORD) else 0)
      | "CAL_TRIM_DELTA" => s.answer (if s.get CAL_TRIM_SEL.CONV < 270 then s.deltaWord (s.get CAL_TRIM_SEL.CONV) (s.get CAL_TRIM_SEL.WORD) else 0)
      | "RING_STAT" => s.run (execRingStatRead (fin 64 k))
      | "LANE_RXEQ" =>
        if s.bit (LANE_RXEQ.ADAPT k) then
          -- the equaliser adapts: its setting is not the model's to know
          (s.answer (BitVec.ofNat 32 (Config.free s.freeCtr % 16) ||| (s.rd a &&& 0x30))).fresh
        else s.plainRead a
      | "LANE_PRBS_ERR_CNT" => (s.prbsSettle k).plainRead a
      | "LANE_PRBS_BITS" => (s.prbsSettle k).plainRead a
      | "TIME_NS" => s.run execTimeNsRead
      | "MBX_DATA" =>
        match party with
        | some q => s.run (execMbxDataRead (fin 32 k) (fin 16 i) q)
        | none => if s.mbxDown k then s.answer 0 else s.plainRead a
      | "MBX_CTRL" => (s.setBit (MBX_CTRL.DOMAIN_DOWN k) (s.mbxDown k)).plainRead a
      | "FLT_FIRST" => s.run execFltFirstRead
      | "LIF_DATA" => s.run execLifDataRead
      | "BOOT_FLW_DATA" => s.run execFlashWindowRead
      | n => if latching.contains n then (s.latchHi a).plainRead a else s.plainRead a

/-- A register read: 0 where the block is down, and in RECOVERY from SEC_STAT too (R262, R415). -/
def State.read (s : State) (a : Nat) (party : Option (Fin 2)) : State :=
  let s := s.hostTraffic party
  if s.regDown a || (s.stage == stg.recovery && a == R.SEC_STAT) then s.answer 0 else s.readReg a party

/-! ## The debug port (R422, R423) -/

/-- DBG_ACC_ACCESS: an ordinary access, once debug is open; elsewhere the instruction acts as BYPASS. A read is shifted out lowest bit
first. -/
def execDbgAccAccess (addr : BitVec 26) (write : Option Word) (s : State) : Host.Outcome State Fault Refusal :=
  if s.tap.held then .next s
  else if !s.bit SEC_STAT.DBG_OPEN then .next (s.tapInstr (fun t => { t with instr := 0xFF }))
  else
    let s := s.tapInstr (fun t => { t with instr := 0x11 })
    match write with
    | some v => .next (s.write addr.toNat v none)
    | none =>
      let s := s.read addr.toNat none
      let w := s.answered.getD 0
      .next (s.tapInstr (fun t => { t with out := (List.range 32).map (fun i => w.getLsbD i) }))

end Sys2Proof.Machine
end

