-- ==== Sys2Proof/Machine/Commands.lean ====
section
/-! DEFINITION. The commands of the descriptor rings (R269 to R282, R284) and the mirror that a standby twin applies (R338, R339). -/

namespace Sys2Proof.Machine

/-! ## Mirror (R338, R339) -/

/-- One mirrored word. Spaces: 0 a register or memory of the window by word address, 1 program memory, 2 segment table, 3 calibration
deltas, 4 shot ledgers, 5 the time servo. -/
def State.mirrorWord (s : State) (space k : Nat) (v : Word) : State :=
  if space = 0 then
    let a := 4 * k
    if isBasin a then s.wr a v
    else match regRow a with
      | none => s
      | some (r, _) =>
        if ["PARAM", "WEIGHT", "KRN_DMEM", "KRN_PMEM"].contains r.name then s.plainWrite a v
        else if a < 0xA00000 ∨ r.name = "MESH_EXP" then s.writeReg a v none else s
  else if space = 1 then s.setProgWord (k % 2 ^ 20) v
  else if space = 2 then
    s.modSeg (k / 4 % 2 ^ 17) (fun d =>
      let lo := 32 * (k % 4)
      (d &&& ~~~(BitVec.ofNat 128 (0xFFFFFFFF <<< lo))) ||| BitVec.ofNat 128 (v.toNat <<< lo))
  else if space = 3 then s.modConv (k / 16) (fun c => { c with delta := Store.write (fun _ => 0) c.delta (k % 16) v })
  else if space = 4 then
    let old := s.mirrorLedger (k / 8)
    s.setMirrorLedger (k / 8) (listSet (if old.length = 6 then old else List.replicate 6 0) (k % 8) v)
  else
    let t := s.time
    let w := BitVec.ofInt 64 t.integral
    if k = 0 then { s with time := { t with integral := (w.extractLsb' 32 32 ++ v).toInt } }
    else if k = 1 then { s with time := { t with integral := (v ++ w.extractLsb' 0 32).toInt } }
    else { s with time := { t with normal := v.getLsbD 0 } }

/-- MIRROR_RECEIVE: a run whose check holds is applied word by word. The first that a twin in OUT receives from an ACTIVE partner begins
its COPY (R350). -/
def execMirrorReceive (space : Fin 6) (addr : BitVec 28) (data : List Word) (crcOk : Bool) (s : State) :
    Host.Outcome State Fault Refusal :=
  if !crcOk then .next s
  else
    let s := if s.twinRole = role.out ∧ s.partnerRole = role.active then (s.set TWIN_STAT.ROLE role.sync).set TWIN_STAT.PHASE 1 else s
    if s.twinRole ≠ role.sync ∧ s.twinRole ≠ role.standby then .next s
    else .next (s.each (List.range data.length) (fun s j => s.mirrorWord space (addr.toNat + j) (data.getD j 0)))

/-! ## Issue (R270, R271, R278) -/

/-- A command holds up its ring: a blocking one until it completes, a posted one until it is accepted. -/
def Cmd.holds (c : Cmd) : Bool :=
  if c.type = ct.startBatch then decide (c.stage < 2)
  else if c.type = ct.calRequest then decide (c.stage < 1)
  else true

/-- Free samples of a stream buffer (R277). -/
def State.sbufFree (s : State) (i : Nat) : Int :=
  ((s.get (SBUF_SIZE.SIZE i) * 64 : Nat) : Int) - (((s.sbufCnt i).1 : Int) - ((s.sbufCnt i).2 : Int))

/-- The status that rejects a descriptor at issue, if one does (R270 to R282, R340, R414). -/
def State.rejects (s : State) (d : Descriptor) : Option Nat :=
  let ty := dfld d 0 0 8
  let bad (c : Bool) (k : Option Nat) : Option Nat := if c then some cs.badField else k
  let busy (c : Bool) : Option Nat := if c then some cs.busy else none
  if ty < ct.loadSegment ∨ ct.calRequest < ty then some cs.badType
  else if ty ≠ ct.readState ∧ (s.stage ≠ stg.ready ∨ s.sys.shut.isSome ∨ s.twinRole = role.standby) then some cs.busy
  else if ty = ct.loadSegment then
    let a := dfld d 2 0 36
    let n := dfld d 3 0 32
    let dest := dfld d 2 36 2
    bad (decide (2 ≤ dest) || a % 8 != 0 || n % 8 != 0 || n == 0 ||
      (if dest = 0 then decide (0xAAAAA8 < a + n) else decide (sdramBytes < (a + n) * 9 / 2))) none
  else if ty = ct.loadProgram then
    let n := dfld d 3 16 15
    bad (n == 0 || decide (16384 < dfld d 3 0 14 + n)) (busy ((maskBerths (dw d 2)).any (fun b => s.berthBusy b)))
  else if ty = ct.loadKernel then
    let sp := dfld d 2 4 2
    bad (sp == 3 || decide ((if sp = 1 then 32768 else 4096) < dfld d 3 0 15 + dfld d 3 16 16))
      (busy (sp != 2 && s.bit (KRN_CTRL.RUN (dfld d 2 0 4))))
  else if ty = ct.writeParam then
    let n := dfld d 2 10 11
    bad (n == 0 || decide (1024 < dfld d 2 0 10 + n) || ((dw d 2).getLsbD 21 && decide (8 < n))) none
  else if ty = ct.streamSegment then
    let n := dfld d 3 0 32
    let i := dfld d 2 0 6
    bad (n == 0 || n % 8 != 0 || decide (s.get (SBUF_SIZE.SIZE i) * 64 < n))
      (if (dw d 2).getLsbD 6 ∧ s.sbufFree i < (n : Int) then some cs.noSpace else none)
  else if ty = ct.readState then
    let n := dfld d 3 32 11
    bad (!(dw d 2).getLsbD 0 && (n == 0 || decide (1024 < n) || decide (2 ^ 26 < dfld d 3 0 26 + 4 * n))) none
  else if ty = ct.calRequest then
    let k := dfld d 2 0 2
    bad ((k == 1 && (dfld d 2 8 2 == 0 || dfld d 2 8 2 == 3)) || (k == 2 && decide (269 < dfld d 2 16 9))) none
  else none

/-- Ring `i` may issue its next descriptor. -/
def State.mayIssue (s : State) (i : Nat) : Bool :=
  s.ringKind i == rk.command && s.ringSt i == rst.run &&
  (match (s.ring i).fetched with
   | [] => false
   | d :: _ =>
     let r := s.get (RING_CFG.CRING i)
     let q := s.ring r
     (s.ring i).cmds.all (fun c => !c.holds) && decide (q.slots.length + q.held.length + q.reserved + compCount d ≤ s.ringSize r))

/-- COMMAND_ISSUE: the next ring in turn issues a descriptor, whose completions it reserves. -/
def execCommandIssue (s : State) : Host.Outcome State Fault Refusal :=
  match ((List.range 64).map (fun k => (s.ringTurn + 1 + k) % 64)).find? (fun i => s.mayIssue i) with
  | none => .next s
  | some i =>
    match (s.ring i).fetched with
    | [] => .next s
    | d :: rest =>
      let r := s.ring i
      let ty := dfld d 0 0 8
      let c : Cmd := {
        seq := s.cmdSeq, index := r.cidx, desc := d, buf := [], detail := 0,
        stage := if ty = ct.streamSegment ∧ (dfld d 3 0 32 : Int) ≤ s.sbufFree (dfld d 2 0 6) then 1 else 0,
        left := if ty = ct.startBatch then dw d 1 else 0,
        marks := if ty = ct.fence then (List.range 16).map (fun n => (s.acq n).handed + (s.acq n).recs.length) else [] }
      let refuse := s.rejects d
      let s := { s with cmdSeq := s.cmdSeq + 1, ringTurn := i }.modRing (s.get (RING_CFG.CRING i)) (fun q =>
        { q with reserved := q.reserved + compCount d })
      let s := s.ringMove i (fun q => { q with fetched := rest, cidx := s.ringWrap i (q.cidx + 1), cmds := q.cmds ++ [c] })
      .next (match refuse with | some st => s.finish i c st 0 | none => s)

/-! ## Host data (R284) -/

/-- The command of type `ty` that ring `i` works on. -/
def State.active (s : State) (i ty : Nat) : Option Cmd := (s.ring i).cmds.find? (fun (c : Cmd) => c.type == ty)

/-- Words of 32 bits that a command still takes from the host. -/
def Cmd.wants (c : Cmd) : Nat :=
  let d := c.desc
  let all :=
    if c.type = ct.loadSegment ∨ c.type = ct.streamSegment then dfld d 3 0 32 / 8 * 9
    else if c.type = ct.loadProgram then dfld d 3 16 15
    else if c.type = ct.loadKernel then dfld d 3 16 16
    else if c.type = ct.writeParam ∧ !(dw d 2).getLsbD 21 then dfld d 2 10 11
    else 0
  let done :=
    if c.type = ct.loadSegment then c.detail / 8 * 9
    else if c.type = ct.streamSegment then (c.detail + c.marks.getD 0 0) / 8 * 9
    else c.detail
  all - done - c.buf.length

/-- HOST_DATA_ACCESS: words for the load that ring `i` works on, the adapter's answer to the words READ_STATE has written, or an
error. -/
def execHostDataAccess (i : Fin 64) (data : List Word) (err : Bool) (s : State) : Host.Outcome State Fault Refusal :=
  match (s.ring i).cmds.find? (fun (c : Cmd) => decide (0 < c.wants) || (c.type == ct.readState && c.stage == 1)) with
  | none => .next s
  | some c =>
    if err || !s.hostUp then .next (((s.finish i c cs.hostFault c.detail).setBit HIF_STAT.HOST_ERR true).raise Src.HIF_HOST [])
    else if c.type = ct.readState then .next (s.finish i c (c.marks.getD 0 0) (if c.marks.getD 0 0 = cs.ok then 0 else c.detail))
    else .next (s.putCmd i { c with buf := c.buf ++ data.take c.wants })

/-! ## Loads (R273 to R277) -/

/-- LOAD_SEGMENT: blocks of 8 samples go to the basin or SDRAM as their words arrive; the descriptor follows the last. -/
def execLoadSegment (i : Fin 64) (s : State) : Host.Outcome State Fault Refusal :=
  match s.active i ct.loadSegment with
  | none => .next s
  | some c =>
    let d := c.desc
    let n := c.buf.length / 9
    let m0 := (dfld d 2 0 36 + c.detail) / 8
    let s := if dfld d 2 36 2 = 1 then s.dramWrite (36 * m0) (word32Bytes (c.buf.take (9 * n)))
      else s.each (List.range (9 * n)) (fun s j => s.wr (basinBlock m0 + 4 * j) (c.buf.getD j 0))
    let c := { c with buf := c.buf.drop (9 * n), detail := c.detail + 8 * n }
    if c.detail < dfld d 3 0 32 then .next (s.putCmd i c)
    else
      let s := s.when ((dw d 3).getLsbD 32) (·.setSeg (dfld d 3 33 17) (dw d 5 ++ dw d 4))
      .next (s.finish i c cs.ok 0)

/-- LOAD_PROGRAM: words go to every named berth's program memory. -/
def execLoadProgram (i : Fin 64) (s : State) : Host.Outcome State Fault Refusal :=
  match s.active i ct.loadProgram with
  | none => .next s
  | some c =>
    let d := c.desc
    let a := dfld d 3 0 14 + c.detail
    let s := s.each (maskBerths (dw d 2)) (fun s b =>
      s.each (List.range c.buf.length) (fun s j => s.setProgWord (b * 16384 + a + j) (c.buf.getD j 0)))
    let c := { c with buf := [], detail := c.detail + c.buf.length }
    if c.detail < dfld d 3 16 15 then .next (s.putCmd i c) else .next (s.finish i c cs.ok 0)

/-- LOAD_KERNEL: words go to program memory, data memory or the inactive bank, which waits while SWAP is 1; a swap asked for follows the
last word, and the command then completes when the banks have swapped. -/
def execLoadKernel (i : Fin 64) (s : State) : Host.Outcome State Fault Refusal :=
  match s.active i ct.loadKernel with
  | none => .next s
  | some c =>
    let d := c.desc
    let n := dfld d 2 0 4
    let sp := dfld d 2 4 2
    if c.stage = 2 then .next (if s.bit (KRN_CTRL.SWAP n) then s else s.finish i c cs.ok 0)
    else if sp = 2 ∧ s.bit (KRN_CTRL.SWAP n) then .next s
    else
      let a := dfld d 3 0 15 + c.detail + (if sp = 2 then (if s.bit (KRN_STAT.BANK n) then 0x6000 else 0x7000) else 0)
      let s := s.each (List.range c.buf.length) (fun s j =>
        let w := c.buf.getD j 0
        if sp = 0 then s.wr (R.KRN_PMEM n (a + j)) w else s.wr (R.KRN_DMEM n (a + j)) ((w.setWidth 18).setWidth 32))
      let c := { c with buf := [], detail := c.detail + c.buf.length }
      if c.detail < dfld d 3 16 16 then .next (s.putCmd i c)
      else if !(dw d 2).getLsbD 6 then .next (s.finish i c cs.ok 0)
      else
        let s := s.kernSwapRequest n
        .next (if s.bit (KRN_CTRL.SWAP n) then s.putCmd i { c with stage := 2 } else s.finish i c cs.ok 0)

/-- WRITE_PARAM: inline words are written at once. -/
def execWriteParam (i : Fin 64) (s : State) : Host.Outcome State Fault Refusal :=
  match s.active i ct.writeParam with
  | none => .next s
  | some c =>
    let d := c.desc
    let ws := if (dw d 2).getLsbD 21 then (List.range (dfld d 2 10 11)).map (fun j => (dw d (3 + j / 2)).extractLsb' (32 * (j % 2)) 32) else c.buf
    let a := dfld d 2 0 10 + c.detail
    let s := s.each (maskBerths (dw d 1)) (fun s b => s.each (List.range ws.length) (fun s j => s.wr (R.PARAM b (a + j)) (ws.getD j 0)))
    let c := { c with buf := [], detail := c.detail + ws.length }
    if c.detail < dfld d 2 10 11 then .next (s.putCmd i c) else .next (s.finish i c cs.ok 0)

/-- STREAM_SEGMENT: samples go to the ring from its write position, which advances once the last is written; those already behind R are
discarded and counted. -/
def execStreamSegment (i : Fin 64) (s : State) : Host.Outcome State Fault Refusal :=
  match s.active i ct.streamSegment with
  | none => .next s
  | some c =>
    if c.stage = 0 then .next s
    else
      let d := c.desc
      let k := dfld d 2 0 6
      let ring := Nat.max 1 (s.get (SBUF_SIZE.SIZE k) * 64)
      let w := (s.sbufCnt k).1
      let r := (s.sbufCnt k).2
      let n := c.buf.length / 9
      let from_ := w + c.detail + c.marks.getD 0 0
      let gone := Nat.min (8 * n) (r - from_)
      let s := s.each (List.range n) (fun s j =>
        let p := from_ + 8 * j
        if p + 8 ≤ r then s
        else s.dramWrite ((s.get (SBUF_BASE.BASE k) * 64 + p % ring) / 8 * 36) (word32Bytes ((c.buf.drop (9 * j)).take 9)))
      let c := { c with buf := c.buf.drop (9 * n), detail := c.detail + (8 * n - gone), marks := [c.marks.getD 0 0 + gone] }
      if c.detail + c.marks.getD 0 0 < dfld d 3 0 32 then .next (s.putCmd i c)
      else .next (((s.modSbufCnt k (fun p => (p.1 + dfld d 3 0 32, p.2))).showSbuf k).finish i c cs.ok (c.marks.getD 0 0))

/-- STREAM_SEGMENT_RESUME: the buffer has room for the samples that waited. -/
def execStreamSegmentResume (i : Fin 64) (s : State) : Host.Outcome State Fault Refusal :=
  match s.active i ct.streamSegment with
  | none => .next s
  | some c =>
    .next (if c.stage = 0 ∧ (dfld c.desc 3 0 32 : Int) ≤ s.sbufFree (dfld c.desc 2 0 6) then s.putCmd i { c with stage := 1 } else s)

/-! ## Batches and stops (R278, R279, R340) -/

/-- The START_BATCH of ring `i` that is not accepted yet. -/
def State.starting (s : State) (i : Nat) : Option Cmd :=
  (s.ring i).cmds.find? (fun (c : Cmd) => c.type == ct.startBatch && decide (c.stage < 2))

/-- A START_BATCH waits for berth `b`: its control store, a patch, or a load of its program. -/
def State.startWaits (s : State) (b : Nat) : Bool :=
  !s.bit (PLT_STAT.UC_VALID b) || s.bit (PLT_STAT.PATCH_PEND b) ||
  (List.range 64).any (fun i => (s.ring i).cmds.any (fun c => c.type == ct.loadProgram && c.berths.getLsbD b))

/-- START_BATCH: the checks, once nothing is waited for. -/
def execStartBatch (i : Fin 64) (s : State) : Host.Outcome State Fault Refusal :=
  match s.starting i with
  | none => .next s
  | some c =>
    let bs := maskBerths c.left
    if c.stage ≠ 0 ∨ bs.any (fun b => s.startWaits b) then .next s
    else if bs.any (fun b => s.berthBusy b) ∨ s.get PWR_STAT.STATE ≠ 0 then .next (s.finish i c cs.busy 0)
    else .next (s.putCmd i { c with stage := 1 })

/-- A batch is armed on berth `b`. -/
def State.armBatch (s : State) (b : Nat) (at_ : Tick) (entry : BitVec 14) (shot n : Word) (owner : Option (Nat × Nat)) : State :=
  (s.modPilot b (fun p => { p with start := some (at_, entry, shot, n) })).modLedger b (fun g =>
    { g with batch := owner, endCode := 0, cutBy := false, ended := false })

/-- START_BATCH_ACCEPT: in the tick in which every berth is ready. On a standby twin `mirrored` is the start that its partner makes:
berths, tick, entry, first SHOT_ID, shots; it brings the berths into lockstep. -/
def execStartBatchAccept (i : Fin 64) (mirrored : Option (BitVec 64 × BitVec 48 × BitVec 14 × Word × Word)) (s : State) :
    Host.Outcome State Fault Refusal :=
  match mirrored with
  | some (mask, at_, entry, shot, n) =>
    let bs := maskBerths mask
    if s.twinRole ≠ role.standby ∨ bs.any (fun b => !s.pltIdle b || s.startWaits b) then .next s
    else .next (s.each bs (fun s b => (s.armBatch b at_ entry shot n none).joinBerth b))
  | none =>
    match s.starting i with
    | none => .next s
    | some c =>
      let d := c.desc
      let bs := maskBerths c.left
      if c.stage ≠ 1 ∨ bs.any (fun b => !s.pltIdle b || s.startWaits b || s.berthBusy b) then .next s
      else
        let asap := (dw d 2).getLsbD 48
        let at_ : Tick := if asap then s.tick + 256 else (dw d 2).setWidth 48
        if !asap ∧ Tick.diff s.tick at_ < 256 then .next (s.finish i c cs.startLate 0)
        else
          let twin := s.twinRole == role.active && s.partnerRole == role.standby
          let s := s.each bs (fun s b =>
            let s := s.armBatch b at_ ((dw d 3).setWidth 14) ((dw d 4).setWidth 32) ((dw d 4).extractLsb' 32 32) (some (i.val, c.seq))
            s.when twin (·.joinBerth b))
          .next (if bs = [] then s.dropCmd i c else s.putCmd i { c with stage := 2 })

/-- STOP: asked of every named berth with a batch and of every named unit; complete when all have acted. -/
def execStop (i : Fin 64) (s : State) : Host.Outcome State Fault Refusal :=
  match s.active i ct.stop with
  | none => .next s
  | some c =>
    let d := c.desc
    let units := (List.range 16).filter (fun n => (dw d 2).getLsbD (16 + n))
    let (s, c) : State × Cmd :=
      if c.stage ≠ 0 then (s, c)
      else
        let bs := (maskBerths (dw d 1)).filter (fun b => s.berthBusy b)
        let s := s.each bs (fun s b =>
          if (dw d 2).getLsbD 0 ∧ (s.pilot b).start.isNone then s.setBit (PLT_CTRL.STOP_BND b) true else s.setBit (PLT_CTRL.STOP b) true)
        (s.each units (fun s n => s.acqStop n), { c with stage := 1, marks := bs, detail := bs.length })
    let wait := c.marks.any (fun b => s.bit (PLT_CTRL.STOP b) || s.bit (PLT_CTRL.STOP_BND b)) || units.any (fun n => s.acqBusy n)
    .next (if wait then s.putCmd i c else s.finish i c cs.ok c.detail)

/-! ## State reads and fences (R280, R281) -/

/-- Reads words in ascending order until one lies in a block that is down. -/
def State.readWords (s : State) (a : Nat) : Nat → State × List Word × Bool
  | 0 => (s, [], false)
  | n + 1 =>
    if s.regDown a then (s, [], true)
    else
      let s := s.read a (some 0)
      let w := s.answered.getD 0
      let (s, ws, down) := s.readWords (a + 4) n
      (s, w :: ws, down)

/-- READ_STATE_REGS. DETAIL tells how many words precede a block that is down. -/
def execReadStateRegs (i : Fin 64) (s : State) : Host.Outcome State Fault Refusal :=
  match s.active i ct.readState with
  | none => .next s
  | some c =>
    let d := c.desc
    if c.stage ≠ 0 ∨ (dw d 2).getLsbD 0 then .next s
    else
      let (s, ws, down) := s.readWords (dfld d 3 0 26) (dfld d 3 32 11)
      let st := if down then cs.domainDown else cs.ok
      if ws = [] then .next (s.finish i c st 0)
      else .next ({ s with hostWrite := some (dw d 1, ws) }.putCmd i { c with stage := 1, detail := ws.length, marks := [st] })

/-- READ_STATE_LEDGER: the ledgers of the named berths, captured in one tick. -/
def execReadStateLedger (i : Fin 64) (s : State) : Host.Outcome State Fault Refusal :=
  match s.active i ct.readState with
  | none => .next s
  | some c =>
    let d := c.desc
    if c.stage ≠ 0 ∨ !(dw d 2).getLsbD 0 then .next s
    else
      let ws := (maskBerths (dw d 3)).flatMap (fun b =>
        let v := s.ledgerView b
        [v.getD 0 0, v.getD 1 0, v.getD 2 0, v.getD 5 0, v.getD 3 0, v.getD 4 0, s.tick.setWidth 32, (s.tick.extractLsb' 32 16).setWidth 32])
      if ws = [] then .next (s.finish i c cs.ok 0)
      else .next ({ s with hostWrite := some (dw d 1, ws) }.putCmd i { c with stage := 1, detail := ws.length, marks := [cs.ok] })

/-- FENCE: it begins to wait; the records it waits for were counted at its issue. -/
def execFence (i : Fin 64) (s : State) : Host.Outcome State Fault Refusal :=
  match s.active i ct.fence with
  | none => .next s
  | some c => .next (s.putCmd i { c with stage := 1 })

/-- FENCE_COMPLETE: nothing issued before is left on its own ring and the command rings it names, and with RESULTS the records counted
have been handed over. -/
def execFenceComplete (i : Fin 64) (s : State) : Host.Outcome State Fault Refusal :=
  match s.active i ct.fence with
  | none => .next s
  | some c =>
    let d := c.desc
    let rings := (List.range 64).filter (fun j => j == i.val || ((dw d 1).getLsbD j && s.ringKind j == rk.command))
    let before := rings.any (fun j => (s.ring j).cmds.any (fun x => decide (x.seq < c.seq)))
    let results := (dw d 2).getLsbD 0 && (List.range 16).any (fun n =>
      decide ((s.acq n).handed < c.marks.getD n 0) && (s.acq n).recs != [])
    .next (if c.stage ≠ 1 ∨ before ∨ results then s else s.finish i c cs.ok 0)

/-! ## Calibration requests (R282) -/

/-- The calibration requests of a kind on ring `i`. -/
def State.calCmds (s : State) (i kind : Nat) : List Cmd :=
  (s.ring i).cmds.filter (fun (c : Cmd) => c.type == ct.calRequest && dfld c.desc 2 0 2 == kind)

/-- CAL_REQUEST_SELF. -/
def execCalRequestSelf (i : Fin 64) (s : State) : Host.Outcome State Fault Refusal :=
  .next (s.each (s.calCmds i 0) (fun s c =>
    if c.stage = 0 then
      if s.bit CAL_STAT.SELF_BUSY then s.finish i c cs.refused 0 else s.selfStart.putCmd i { c with stage := 1 }
    else if s.bit CAL_STAT.SELF_BUSY then s else s.finish i c cs.ok 0))

/-- CAL_REQUEST_SCAL. -/
def execCalRequestScal (i : Fin 64) (s : State) : Host.Outcome State Fault Refusal :=
  .next (s.each (s.calCmds i 1) (fun s c =>
    let d := c.desc
    let n := dfld d 2 4 4
    let res (s : State) : Nat := s.get (RDI_SCAL_STAT.RESULT n)
    if c.stage = 0 then
      if s.bit (RDI_SCAL_STAT.BUSY n) then s.finish i c cs.refused (res s)
      else (s.scalStart n (dfld d 2 8 2) ((dw d 2).getLsbD 10)).putCmd i { c with stage := 1 }
    else if s.bit (RDI_SCAL_STAT.BUSY n) then s
    else if res s ≠ 0 then s.finish i c cs.refused (res s)
    else (s.when ((dw d 2).getLsbD 11) (·.scalApply n)).finish i c cs.ok 0))

/-- CAL_REQUEST_DUE: complete at the hand-back; a spare's at the end of its own calibration. -/
def execCalRequestDue (i : Fin 64) (s : State) : Host.Outcome State Fault Refusal :=
  .next (s.each (s.calCmds i 2) (fun s c =>
    let k := dfld c.desc 2 16 9
    let st := s.convState k
    if c.stage = 0 then
      if st = convSt.failed ∨ st = convSt.parallel ∨ st = convSt.offline ∨ st = convSt.ret ∨ s.get (CAL_CONV.PARTNER k) ≠ noPartner then
        s.finish i c cs.refused 0
      else (s.makeDue k).putCmd i { c with stage := 1 }
    else if st = convSt.failed then s.finish i c cs.refused 0
    else if (if k < 240 then st == convSt.inService else !(s.conv k).spareDue) then s.finish i c cs.ok 0 else s))

/-- CAL_REQUEST_COMMIT. -/
def execCalRequestCommit (i : Fin 64) (s : State) : Host.Outcome State Fault Refusal :=
  .next (s.each (s.calCmds i 3) (fun s c =>
    let res (s : State) : Nat := s.get CAL_FUSE_STAT.RESULT
    if c.stage = 0 then
      if dfld c.desc 2 32 8 ≠ 0xA5 then s.finish i c cs.refused (res s)
      else
        let free := s.fuseJob.isNone
        let s := s.fuseStart
        if free && s.fuseJob.isSome then s.putCmd i { c with stage := 1 } else s.finish i c cs.refused (res s)
    else if s.fuseJob.isSome then s
    else s.finish i c (if res s = 1 then cs.ok else cs.refused) (res s)))

end Sys2Proof.Machine
end

