-- ==== Sys2Proof/Machine/Dispatch.lean ====
section
/-! DEFINITION. Dispatch: one arm per command, each one direct call of its meaning. -/

namespace Sys2Proof.Machine

/-- The effect of a command on everything but the queue. -/
def exec (i : Instr) (s : State) : Host.Outcome State Fault Refusal :=
  match i with
  | .registerWrite addr v party => Sys2Proof.Machine.execRegisterWrite addr v party s
  | .tplTickLoRead => Sys2Proof.Machine.execTplTickLoRead s
  | .lmDevMinRead => Sys2Proof.Machine.execLmDevMinRead s
  | .lockLateTickRead l => Sys2Proof.Machine.execLockLateTickRead l s
  | .orderEmit b => Sys2Proof.Machine.execOrderEmit b s
  | .orderTakeIn b => Sys2Proof.Machine.execOrderTakeIn b s
  | .synthesisTick b p lane flaws => Sys2Proof.Machine.execSynthesisTick b p lane flaws s
  | .lockEntryArrive l => Sys2Proof.Machine.execLockEntryArrive l s
  | .bargeRelease l => Sys2Proof.Machine.execBargeRelease l s
  | .mrkPinUpdate n => Sys2Proof.Machine.execMrkPinUpdate n s
  | .mrkPulseEnd n => Sys2Proof.Machine.execMrkPulseEnd n s
  | .decisionReady src => Sys2Proof.Machine.execDecisionReady src s
  | .xbarEntry src => Sys2Proof.Machine.execXbarEntry src s
  | .xbarServe => Sys2Proof.Machine.execXbarServe s
  | .decisionDelivery => Sys2Proof.Machine.execDecisionDelivery s
  | .branchDefault b c => Sys2Proof.Machine.execBranchDefault b c s
  | .waitdDeadline b => Sys2Proof.Machine.execWaitdDeadline b s
  | .contextFree b c => Sys2Proof.Machine.execContextFree b c s
  | .runAheadResume b => Sys2Proof.Machine.execRunAheadResume b s
  | .batchStart b => Sys2Proof.Machine.execBatchStart b s
  | .mov b => Sys2Proof.Machine.execMov b s
  | .movi b => Sys2Proof.Machine.execMovi b s
  | .add b => Sys2Proof.Machine.execAdd b s
  | .sub b => Sys2Proof.Machine.execSub b s
  | .and b => Sys2Proof.Machine.execAnd b s
  | .or b => Sys2Proof.Machine.execOr b s
  | .xor b => Sys2Proof.Machine.execXor b s
  | .shl b => Sys2Proof.Machine.execShl b s
  | .shr b => Sys2Proof.Machine.execShr b s
  | .sar b => Sys2Proof.Machine.execSar b s
  | .mul b => Sys2Proof.Machine.execMul b s
  | .mulq b => Sys2Proof.Machine.execMulq b s
  | .cmp b => Sys2Proof.Machine.execCmp b s
  | .tst b => Sys2Proof.Machine.execTst b s
  | .ldp b => Sys2Proof.Machine.execLdp b s
  | .stp b => Sys2Proof.Machine.execStp b s
  | .gettc b => Sys2Proof.Machine.execGettc b s
  | .gettk b => Sys2Proof.Machine.execGettk b s
  | .getd b => Sys2Proof.Machine.execGetd b s
  | .getsid b => Sys2Proof.Machine.execGetsid b s
  | .nop b => Sys2Proof.Machine.execNop b s
  | .jmp b => Sys2Proof.Machine.execJmp b s
  | .jcc b => Sys2Proof.Machine.execJcc b s
  | .call b => Sys2Proof.Machine.execCall b s
  | .ret b => Sys2Proof.Machine.execRet b s
  | .rep b => Sys2Proof.Machine.execRep b s
  | .wait b => Sys2Proof.Machine.execWait b s
  | .atTick b => Sys2Proof.Machine.execAtTick b s
  | .tsync b => Sys2Proof.Machine.execTsync b s
  | .waite b => Sys2Proof.Machine.execWaite b s
  | .waitd b => Sys2Proof.Machine.execWaitd b s
  | .play b => Sys2Proof.Machine.execPlay b s
  | .freq b => Sys2Proof.Machine.execFreq b s
  | .phase b => Sys2Proof.Machine.execPhase b s
  | .probe b => Sys2Proof.Machine.execProbe b s
  | .freqp b => Sys2Proof.Machine.execFreqp b s
  | .phasep b => Sys2Proof.Machine.execPhasep b s
  | .flux b => Sys2Proof.Machine.execFlux b s
  | .bias b => Sys2Proof.Machine.execBias b s
  | .mopen b => Sys2Proof.Machine.execMopen b s
  | .mclose b => Sys2Proof.Machine.execMclose b s
  | .mark b => Sys2Proof.Machine.execMark b s
  | .brd b => Sys2Proof.Machine.execBrd b s
  | .join b => Sys2Proof.Machine.execJoin b s
  | .shot b => Sys2Proof.Machine.execShot b s
  | .halt b => Sys2Proof.Machine.execHalt b s
  | .shotHoldResume b => Sys2Proof.Machine.execShotHoldResume b s
  | .pilotStop b => Sys2Proof.Machine.execPilotStop b s
  | .stateSnapshot b => Sys2Proof.Machine.execStateSnapshot b s
  | .pltCtrlStop b => Sys2Proof.Machine.execPltCtrlStop b s
  | .pltCtrlStopBnd b => Sys2Proof.Machine.execPltCtrlStopBnd b s
  | .pltCtrlSnap b => Sys2Proof.Machine.execPltCtrlSnap b s
  | .pltPmDataAccess b write => Sys2Proof.Machine.execPltPmDataAccess b write s
  | .pndViewSelWrite b idx => Sys2Proof.Machine.execPndViewSelWrite b idx s
  | .shlLastDoneRead b => Sys2Proof.Machine.execShlLastDoneRead b s
  | .ucScrub b flaw => Sys2Proof.Machine.execUcScrub b flaw s
  | .ucReloadDone b => Sys2Proof.Machine.execUcReloadDone b s
  | .ucPatchApply b level => Sys2Proof.Machine.execUcPatchApply b level s
  | .segCommit idx read => Sys2Proof.Machine.execSegCommit idx read s
  | .segRead idx => Sys2Proof.Machine.execSegRead idx s
  | .basinWindowWrite word v ded => Sys2Proof.Machine.execBasinWindowWrite word v ded s
  | .basinWindowRead word flaw => Sys2Proof.Machine.execBasinWindowRead word flaw s
  | .basinScrub flaw => Sys2Proof.Machine.execBasinScrub flaw s
  | .blockFetchDone b t chan err => Sys2Proof.Machine.execBlockFetchDone b t chan err s
  | .fetchDeadline b t => Sys2Proof.Machine.execFetchDeadline b t s
  | .synJmpGo b w => Sys2Proof.Machine.execSynJmpGo b w s
  | .synOriginWrite hi => Sys2Proof.Machine.execSynOriginWrite hi s
  | .mrkSelWrite n w => Sys2Proof.Machine.execMrkSelWrite n w s
  | .drvEnSet b => Sys2Proof.Machine.execDrvEnSet b s
  | .drvEnClear b => Sys2Proof.Machine.execDrvEnClear b s
  | .drvMixWrite b mix => Sys2Proof.Machine.execDrvMixWrite b mix s
  | .prbEnSet n => Sys2Proof.Machine.execPrbEnSet n s
  | .prbEnClear n => Sys2Proof.Machine.execPrbEnClear n s
  | .prbMixWrite n mix => Sys2Proof.Machine.execPrbMixWrite n mix s
  | .flxFilterWrite b which v => Sys2Proof.Machine.execFlxFilterWrite b which v s
  | .flxEnSet b => Sys2Proof.Machine.execFlxEnSet b s
  | .flxEnClear b => Sys2Proof.Machine.execFlxEnClear b s
  | .flxBiasWrite b code => Sys2Proof.Machine.execFlxBiasWrite b code s
  | .biasStrobe b => Sys2Proof.Machine.execBiasStrobe b s
  | .deglitchRelease b => Sys2Proof.Machine.execDeglitchRelease b s
  | .rangeChangeRequest b w => Sys2Proof.Machine.execRangeChangeRequest b w s
  | .rangeChangeStep b => Sys2Proof.Machine.execRangeChangeStep b s
  | .currentLimitChange b engaged => Sys2Proof.Machine.execCurrentLimitChange b engaged s
  | .scEpisodeStart b => Sys2Proof.Machine.execScEpisodeStart b s
  | .scEpisodeEnd b => Sys2Proof.Machine.execScEpisodeEnd b s
  | .parkStrobe b => Sys2Proof.Machine.execParkStrobe b s
  | .readoutSampleIngress n x0 x1 x2 x3 ovr drop slack => Sys2Proof.Machine.execReadoutSampleIngress n x0 x1 x2 x3 ovr drop slack s
  | .rdiAttWrite n att => Sys2Proof.Machine.execRdiAttWrite n att s
  | .rdiEnSet n => Sys2Proof.Machine.execRdiEnSet n s
  | .rdiEnClear n => Sys2Proof.Machine.execRdiEnClear n s
  | .rdiInjWrite n inj => Sys2Proof.Machine.execRdiInjWrite n inj s
  | .rdiModeWrite n mode => Sys2Proof.Machine.execRdiModeWrite n mode s
  | .rdiLofWrite n hi => Sys2Proof.Machine.execRdiLofWrite n hi s
  | .demLastDecRead n k => Sys2Proof.Machine.execDemLastDecRead n k s
  | .krnJobHandover n => Sys2Proof.Machine.execKrnJobHandover n s
  | .partialPointEntry n => Sys2Proof.Machine.execPartialPointEntry n s
  | .krnInterruptAccept n => Sys2Proof.Machine.execKrnInterruptAccept n s
  | .krnAnswerTimeout n => Sys2Proof.Machine.execKrnAnswerTimeout n s
  | .krnRunStart n => Sys2Proof.Machine.execKrnRunStart n s
  | .krnRunStop n => Sys2Proof.Machine.execKrnRunStop n s
  | .krnSwapRequest n => Sys2Proof.Machine.execKrnSwapRequest n s
  | .krnHreq n => Sys2Proof.Machine.execKrnHreq n s
  | .krnHostAccess n word write => Sys2Proof.Machine.execKrnHostAccess n word write s
  | .krnNop n par => Sys2Proof.Machine.execKrnNop n par s
  | .krnLd n par => Sys2Proof.Machine.execKrnLd n par s
  | .krnLdd n par => Sys2Proof.Machine.execKrnLdd n par s
  | .krnSt n par => Sys2Proof.Machine.execKrnSt n par s
  | .krnStl n par => Sys2Proof.Machine.execKrnStl n par s
  | .krnStx n par => Sys2Proof.Machine.execKrnStx n par s
  | .krnLdi n par => Sys2Proof.Machine.execKrnLdi n par s
  | .krnGetj n par => Sys2Proof.Machine.execKrnGetj n par s
  | .krnPuth n par => Sys2Proof.Machine.execKrnPuth n par s
  | .krnMvxa n par => Sys2Proof.Machine.execKrnMvxa n par s
  | .krnMvax n par => Sys2Proof.Machine.execKrnMvax n par s
  | .krnLax n par => Sys2Proof.Machine.execKrnLax n par s
  | .krnLaxk n par => Sys2Proof.Machine.execKrnLaxk n par s
  | .krnLaml n par => Sys2Proof.Machine.execKrnLaml n par s
  | .krnLams n par => Sys2Proof.Machine.execKrnLams n par s
  | .krnMul n par => Sys2Proof.Machine.execKrnMul n par s
  | .krnMulx n par => Sys2Proof.Machine.execKrnMulx n par s
  | .krnMulm n par => Sys2Proof.Machine.execKrnMulm n par s
  | .krnAdda n par => Sys2Proof.Machine.execKrnAdda n par s
  | .krnSuba n par => Sys2Proof.Machine.execKrnSuba n par s
  | .krnAddi n par => Sys2Proof.Machine.execKrnAddi n par s
  | .krnSha n par => Sys2Proof.Machine.execKrnSha n par s
  | .krnCmpa n par => Sys2Proof.Machine.execKrnCmpa n par s
  | .krnTmin n par => Sys2Proof.Machine.execKrnTmin n par s
  | .krnPopp n par => Sys2Proof.Machine.execKrnPopp n par s
  | .krnDec n par => Sys2Proof.Machine.execKrnDec n par s
  | .krnClrv n par => Sys2Proof.Machine.execKrnClrv n par s
  | .krnBr n par => Sys2Proof.Machine.execKrnBr n par s
  | .krnCall n par => Sys2Proof.Machine.execKrnCall n par s
  | .krnRet n par => Sys2Proof.Machine.execKrnRet n par s
  | .krnReti n par => Sys2Proof.Machine.execKrnReti n par s
  | .krnRep n par => Sys2Proof.Machine.execKrnRep n par s
  | .krnRepa n par => Sys2Proof.Machine.execKrnRepa n par s
  | .krnWaiti n par => Sys2Proof.Machine.execKrnWaiti n par s
  | .acqCommit n => Sys2Proof.Machine.execAcqCommit n s
  | .acqArm n => Sys2Proof.Machine.execAcqArm n s
  | .acqStop n => Sys2Proof.Machine.execAcqStop n s
  | .acqArmTick n => Sys2Proof.Machine.execAcqArmTick n s
  | .trgTimerExpiry n => Sys2Proof.Machine.execTrgTimerExpiry n s
  | .armFlitRelease => Sys2Proof.Machine.execArmFlitRelease s
  | .armFlitReceive p w => Sys2Proof.Machine.execArmFlitReceive p w s
  | .fireFlitReceive arrival => Sys2Proof.Machine.execFireFlitReceive arrival s
  | .acqFireTick n => Sys2Proof.Machine.execAcqFireTick n s
  | .acqRecordWrite n bad => Sys2Proof.Machine.execAcqRecordWrite n bad s
  | .acqEndRecords n => Sys2Proof.Machine.execAcqEndRecords n s
  | .admLimitWrite v => Sys2Proof.Machine.execAdmLimitWrite v s
  | .maxPlaysWrite v => Sys2Proof.Machine.execMaxPlaysWrite v s
  | .admissionDecide => Sys2Proof.Machine.execAdmissionDecide s
  | .calDueCheck => Sys2Proof.Machine.execCalDueCheck s
  | .rotationStart c => Sys2Proof.Machine.execRotationStart c s
  | .spareCalDone c res => Sys2Proof.Machine.execSpareCalDone c res s
  | .rotationAlignDone k => Sys2Proof.Machine.execRotationAlignDone k s
  | .handover k => Sys2Proof.Machine.execHandover k s
  | .offlineCalDone k res => Sys2Proof.Machine.execOfflineCalDone k res s
  | .handBack k => Sys2Proof.Machine.execHandBack k s
  | .calDeadlineExpiry k => Sys2Proof.Machine.execCalDeadlineExpiry k s
  | .scalGo n step src => Sys2Proof.Machine.execScalGo n step src s
  | .scalStepDone n level freq g0 g1 o0 o1 skew => Sys2Proof.Machine.execScalStepDone n level freq g0 g1 o0 o1 skew s
  | .scalApply n => Sys2Proof.Machine.execScalApply n s
  | .calSelf => Sys2Proof.Machine.execCalSelf s
  | .selfCalDone res => Sys2Proof.Machine.execSelfCalDone res s
  | .fuseCommit key => Sys2Proof.Machine.execFuseCommit key s
  | .fuseCommitDone => Sys2Proof.Machine.execFuseCommitDone s
  | .ringEnable k w => Sys2Proof.Machine.execRingEnable k w s
  | .ringDoorbell k idx => Sys2Proof.Machine.execRingDoorbell k idx s
  | .descriptorFetch k descs err => Sys2Proof.Machine.execDescriptorFetch k descs err s
  | .phaseRefetch k desc err => Sys2Proof.Machine.execPhaseRefetch k desc err s
  | .commandIssue => Sys2Proof.Machine.execCommandIssue s
  | .loadSegment k => Sys2Proof.Machine.execLoadSegment k s
  | .loadProgram k => Sys2Proof.Machine.execLoadProgram k s
  | .loadKernel k => Sys2Proof.Machine.execLoadKernel k s
  | .writeParam k => Sys2Proof.Machine.execWriteParam k s
  | .streamSegment k => Sys2Proof.Machine.execStreamSegment k s
  | .streamSegmentResume k => Sys2Proof.Machine.execStreamSegmentResume k s
  | .startBatch k => Sys2Proof.Machine.execStartBatch k s
  | .startBatchAccept k mirrored => Sys2Proof.Machine.execStartBatchAccept k mirrored s
  | .stop k => Sys2Proof.Machine.execStop k s
  | .readStateRegs k => Sys2Proof.Machine.execReadStateRegs k s
  | .readStateLedger k => Sys2Proof.Machine.execReadStateLedger k s
  | .fence k => Sys2Proof.Machine.execFence k s
  | .fenceComplete k => Sys2Proof.Machine.execFenceComplete k s
  | .calRequestSelf k => Sys2Proof.Machine.execCalRequestSelf k s
  | .calRequestScal k => Sys2Proof.Machine.execCalRequestScal k s
  | .calRequestDue k => Sys2Proof.Machine.execCalRequestDue k s
  | .calRequestCommit k => Sys2Proof.Machine.execCalRequestCommit k s
  | .batchCompletion b => Sys2Proof.Machine.execBatchCompletion b s
  | .resultDescriptorPost k n => Sys2Proof.Machine.execResultDescriptorPost k n s
  | .irqHoldoffExpiry k => Sys2Proof.Machine.execIrqHoldoffExpiry k s
  | .ringTeardown k => Sys2Proof.Machine.execRingTeardown k s
  | .ringDrainDone k => Sys2Proof.Machine.execRingDrainDone k s
  | .ringResume k => Sys2Proof.Machine.execRingResume k s
  | .ringStatRead k => Sys2Proof.Machine.execRingStatRead k s
  | .laneEnableWrite l tx rx => Sys2Proof.Machine.execLaneEnableWrite l tx rx s
  | .laneRestart l => Sys2Proof.Machine.execLaneRestart l s
  | .laneLoopWrite l v => Sys2Proof.Machine.execLaneLoopWrite l v s
  | .prbsGenWrite l v => Sys2Proof.Machine.execPrbsGenWrite l v s
  | .prbsChkWrite l v => Sys2Proof.Machine.execPrbsChkWrite l v s
  | .txeqWrite l w => Sys2Proof.Machine.execTxeqWrite l w s
  | .rxeqWrite l w => Sys2Proof.Machine.execRxeqWrite l w s
  | .cdrLock l => Sys2Proof.Machine.execCdrLock l s
  | .blockLock l inv => Sys2Proof.Machine.execBlockLock l inv s
  | .blockLockLoss l bad => Sys2Proof.Machine.execBlockLockLoss l bad s
  | .aliveSend l => Sys2Proof.Machine.execAliveSend l s
  | .aliveReceive l w behind => Sys2Proof.Machine.execAliveReceive l w behind s
  | .aliveTimeout l => Sys2Proof.Machine.execAliveTimeout l s
  | .partnerAbsentEntry l => Sys2Proof.Machine.execPartnerAbsentEntry l s
  | .partnerRetry l gained => Sys2Proof.Machine.execPartnerRetry l gained s
  | .laneLossTimeout l => Sys2Proof.Machine.execLaneLossTimeout l s
  | .controlBlockReceive l type => Sys2Proof.Machine.execControlBlockReceive l type s
  | .eidleRequest l => Sys2Proof.Machine.execEidleRequest l s
  | .eidleEntrySend p => Sys2Proof.Machine.execEidleEntrySend p s
  | .eidleEnterReceive l => Sys2Proof.Machine.execEidleEnterReceive l s
  | .keepaliveSend l => Sys2Proof.Machine.execKeepaliveSend l s
  | .keepaliveTimeout l => Sys2Proof.Machine.execKeepaliveTimeout l s
  | .eidleExitRequest p clear => Sys2Proof.Machine.execEidleExitRequest p clear s
  | .partnerExit p => Sys2Proof.Machine.execPartnerExit p s
  | .eidleExitComplete l ok => Sys2Proof.Machine.execEidleExitComplete l ok s
  | .eyeScanGo l w => Sys2Proof.Machine.execEyeScanGo l w s
  | .eyeScanDone l errs => Sys2Proof.Machine.execEyeScanDone l errs s
  | .flitSend p => Sys2Proof.Machine.execFlitSend p s
  | .decisionFlitReceive p w => Sys2Proof.Machine.execDecisionFlitReceive p w s
  | .mailboxMessageSend p => Sys2Proof.Machine.execMailboxMessageSend p s
  | .mailboxMessageReceive p head data crcOk => Sys2Proof.Machine.execMailboxMessageReceive p head data crcOk s
  | .creditFlitReceive p n => Sys2Proof.Machine.execCreditFlitReceive p n s
  | .portHoldExpiry p => Sys2Proof.Machine.execPortHoldExpiry p s
  | .timeExchange p t1 => Sys2Proof.Machine.execTimeExchange p t1 s
  | .timeReqReceive p block t2 t3 => Sys2Proof.Machine.execTimeReqReceive p block t2 t3 s
  | .timeRespReceive p block t3 ns frac t2 t4 => Sys2Proof.Machine.execTimeRespReceive p block t3 ns frac t2 t4 s
  | .exchangeTimeout => Sys2Proof.Machine.execExchangeTimeout s
  | .timeNormalSwitch => Sys2Proof.Machine.execTimeNormalSwitch s
  | .timeNormalRequest => Sys2Proof.Machine.execTimeNormalRequest s
  | .timeFree => Sys2Proof.Machine.execTimeFree s
  | .timeSet => Sys2Proof.Machine.execTimeSet s
  | .timeNsRead => Sys2Proof.Machine.execTimeNsRead s
  | .timeWrap => Sys2Proof.Machine.execTimeWrap s
  | .heartbeatSend => Sys2Proof.Machine.execHeartbeatSend s
  | .heartbeatReceive w => Sys2Proof.Machine.execHeartbeatReceive w s
  | .heartbeatMiss => Sys2Proof.Machine.execHeartbeatMiss s
  | .mirrorReceive space addr data crcOk => Sys2Proof.Machine.execMirrorReceive space addr data crcOk s
  | .logReceive w => Sys2Proof.Machine.execLogReceive w s
  | .biasFlitReceive w => Sys2Proof.Machine.execBiasFlitReceive w s
  | .twinTake => Sys2Proof.Machine.execTwinTake s
  | .twinYield => Sys2Proof.Machine.execTwinYield s
  | .twinResync => Sys2Proof.Machine.execTwinResync s
  | .takeoverSwitchClose => Sys2Proof.Machine.execTakeoverSwitchClose s
  | .takeoverActive => Sys2Proof.Machine.execTakeoverActive s
  | .partnerTakeSense low => Sys2Proof.Machine.execPartnerTakeSense low s
  | .yieldSwitchOpen => Sys2Proof.Machine.execYieldSwitchOpen s
  | .yieldPark => Sys2Proof.Machine.execYieldPark s
  | .twinPrimaryClaim => Sys2Proof.Machine.execTwinPrimaryClaim s
  | .resyncCopyDone => Sys2Proof.Machine.execResyncCopyDone s
  | .resyncCheckDone same => Sys2Proof.Machine.execResyncCheckDone same s
  | .mbxPost m len party => Sys2Proof.Machine.execMbxPost m len party s
  | .mbxAck m party => Sys2Proof.Machine.execMbxAck m party s
  | .mbxDataRead m k party => Sys2Proof.Machine.execMbxDataRead m k party s
  | .mbxDataWrite m k v party => Sys2Proof.Machine.execMbxDataWrite m k v party s
  | .evtSwfire ch => Sys2Proof.Machine.execEvtSwfire ch s
  | .evtInEdge k level => Sys2Proof.Machine.execEvtInEdge k level s
  | .evtTimer k => Sys2Proof.Machine.execEvtTimer k s
  | .evtTmrWrite k hi => Sys2Proof.Machine.execEvtTmrWrite k hi s
  | .eventPulse => Sys2Proof.Machine.execEventPulse s
  | .channelHoldEnd c => Sys2Proof.Machine.execChannelHoldEnd c s
  | .eventDelivery q => Sys2Proof.Machine.execEventDelivery q s
  | .groupTaskApply => Sys2Proof.Machine.execGroupTaskApply s
  | .evtOutPulseEnd k => Sys2Proof.Machine.execEvtOutPulseEnd k s
  | .loopGuardWindow => Sys2Proof.Machine.execLoopGuardWindow s
  | .thermalSample sens model => Sys2Proof.Machine.execThermalSample sens model s
  | .sensorBroken r => Sys2Proof.Machine.execSensorBroken r s
  | .sensorReadmit mask => Sys2Proof.Machine.execSensorReadmit mask s
  | .thermLevelEnter lv => Sys2Proof.Machine.execThermLevelEnter lv s
  | .thermLevelLeave lv => Sys2Proof.Machine.execThermLevelLeave lv s
  | .shutdownIsolate => Sys2Proof.Machine.execShutdownIsolate s
  | .shutdownMgmtOff => Sys2Proof.Machine.execShutdownMgmtOff s
  | .govRaise => Sys2Proof.Machine.execGovRaise s
  | .govLower => Sys2Proof.Machine.execGovLower s
  | .pmbusTransaction ok => Sys2Proof.Machine.execPmbusTransaction ok s
  | .voutPoll mv => Sys2Proof.Machine.execVoutPoll mv s
  | .pwrTargetWrite t => Sys2Proof.Machine.execPwrTargetWrite t s
  | .powerStateEntry => Sys2Proof.Machine.execPowerStateEntry s
  | .powerStateExit => Sys2Proof.Machine.execPowerStateExit s
  | .deepSleepWake => Sys2Proof.Machine.execDeepSleepWake s
  | .hostEidleReturn => Sys2Proof.Machine.execHostEidleReturn s
  | .monConversion code => Sys2Proof.Machine.execMonConversion code s
  | .monUrgentRequest w => Sys2Proof.Machine.execMonUrgentRequest w s
  | .faultRaise => Sys2Proof.Machine.execFaultRaise s
  | .faultReaction => Sys2Proof.Machine.execFaultReaction s
  | .resetScopeApply => Sys2Proof.Machine.execResetScopeApply s
  | .errNRelease => Sys2Proof.Machine.execErrNRelease s
  | .errHoldWrite v => Sys2Proof.Machine.execErrHoldWrite v s
  | .faultInject source => Sys2Proof.Machine.execFaultInject source s
  | .fltLogSelWrite idx => Sys2Proof.Machine.execFltLogSelWrite idx s
  | .fltFirstRead => Sys2Proof.Machine.execFltFirstRead s
  | .fltFirstClear => Sys2Proof.Machine.execFltFirstClear s
  | .recordWrite ok => Sys2Proof.Machine.execRecordWrite ok s
  | .sectorEraseDone ok => Sys2Proof.Machine.execSectorEraseDone ok s
  | .recSelWrite seq => Sys2Proof.Machine.execRecSelWrite seq s
  | .recCopyDone => Sys2Proof.Machine.execRecCopyDone s
  | .recFlush => Sys2Proof.Machine.execRecFlush s
  | .lifetimeSave => Sys2Proof.Machine.execLifetimeSave s
  | .lifetimeCountUpdate => Sys2Proof.Machine.execLifetimeCountUpdate s
  | .lifSnap => Sys2Proof.Machine.execLifSnap s
  | .lifDataRead => Sys2Proof.Machine.execLifDataRead s
  | .powerOn challenge => Sys2Proof.Machine.execPowerOn challenge s
  | .supplyDip rail => Sys2Proof.Machine.execSupplyDip rail s
  | .resetNAssert => Sys2Proof.Machine.execResetNAssert s
  | .resetNRelease => Sys2Proof.Machine.execResetNRelease s
  | .bootStageDone i0 i1 i2 i3 cfg cal => Sys2Proof.Machine.execBootStageDone i0 i1 i2 i3 cfg cal s
  | .pllUnlock => Sys2Proof.Machine.execPllUnlock s
  | .bootReboot key => Sys2Proof.Machine.execBootReboot key s
  | .flashWindowWrite v => Sys2Proof.Machine.execFlashWindowWrite v s
  | .flashWindowRead => Sys2Proof.Machine.execFlashWindowRead s
  | .flashWindowErase => Sys2Proof.Machine.execFlashWindowErase s
  | .flashOpDone ok => Sys2Proof.Machine.execFlashOpDone ok s
  | .tapReset low => Sys2Proof.Machine.execTapReset low s
  | .tapBypass tdi => Sys2Proof.Machine.execTapBypass tdi s
  | .tapIdcode => Sys2Proof.Machine.execTapIdcode s
  | .tapSamplePreload pins load => Sys2Proof.Machine.execTapSamplePreload pins load s
  | .tapExtest => Sys2Proof.Machine.execTapExtest s
  | .dbgReqUpdate v => Sys2Proof.Machine.execDbgReqUpdate v s
  | .keyZeroiseDone => Sys2Proof.Machine.execKeyZeroiseDone s
  | .dbgAccAccess addr write => Sys2Proof.Machine.execDbgAccAccess addr write s
  | .ftTokenUpdate token good => Sys2Proof.Machine.execFtTokenUpdate token good s
  | .lifetimeSaveDone ok => Sys2Proof.Machine.execLifetimeSaveDone ok s
  | .hostDataAccess k data err => Sys2Proof.Machine.execHostDataAccess k data err s
  | .timeParentReload => Sys2Proof.Machine.execTimeParentReload s
  | .alwaysCountComplete n => Sys2Proof.Machine.execAlwaysCountComplete n s

end Sys2Proof.Machine
end

