-- ==== Sys2Proof/Machine/Tick.lean ====
section
/-! DEFINITION. What one tick of the timing plane does when no command waits. -/

namespace Sys2Proof.Machine

/-- TICK and TIME count (R26, R324), a pilot that waits for a free pound entry counts it (R30), and bits that ask for an action taken in
their own tick clear (R5). -/
def State.clockTick (s : State) : State :=
  let s := { s.timeTick with tick := s.tick + 1 }
  let s := s.each (List.range 64) (fun s b => s.when (s.get (PLT_STAT.STATE b) == plt.poundFull) (·.bump (PND_STALL_CNT.COUNT b)))
  let s := s.each (List.range 32) (fun s l => s.when (s.bit (LANE_CTRL.RESTART l)) (·.setBit (LANE_CTRL.RESTART l) false))
  (s.setBit TWIN_CTRL.TAKE false).setBit TWIN_CTRL.YIELD false

end Sys2Proof.Machine
end

