-- ==== Sys2Proof/Safety.lean ====
section
/-! DEFINITION. The terms claims use: the canonical form of every sparse store, what a command may touch, and when a pilot or a
kernel engine executes an instruction. -/

namespace Sys2Proof.Machine

/-! ## Canonical form -/

/-- SDRAM in canonical form: addresses rising, no byte listed that an unlisted address reads as. -/
abbrev Memory.wf (m : List Host.Cell) : Bool := Store.wf (fun _ => 0) m

/-- A lifetime set in canonical form (R404). -/
def lifeWf (m : Store Word) : Bool := Store.wf (fun k => if 64 ≤ k ∧ k < 136 then 0x7FFF7FFF else 0) m

/-- Every sparse store of the state is in canonical form, so that equal contents are equal data. -/
structure State.Canonical (s : State) : Prop where
  regs : Store.wf regReset s.regs = true
  sdram : Memory.wf s.sdram = true
  govMon : Store.wf (fun _ => false) s.govMon = true
  ucScrub : Store.wf (fun _ => 0) s.ucScrub = true
  wide : Store.wf (fun _ => 0) s.wide = true
  pilots : Store.wf (fun _ => Pilot.init) s.pilots = true
  pounds : Store.wf (fun _ => []) s.pounds = true
  pm : Store.wf (fun _ => 0) s.pm = true
  ledgers : Store.wf (fun _ => Ledger.init) s.ledgers = true
  locks : Store.wf (fun _ => LockLane.init) s.locks = true
  ctxs : Store.wf (fun _ => Ctx.init) s.ctxs = true
  outs : Store.wf (fun _ => []) s.outs = true
  lastEntry : Store.wf (fun _ => none) s.lastEntry = true
  paths : Store.wf (fun _ => PathLane.init) s.paths = true
  muteds : Store.wf (fun _ => []) s.muteds = true
  fetches : Store.wf (fun _ => []) s.fetches = true
  sbufs : Store.wf (fun _ => (0, 0)) s.sbufs = true
  segs : Store.wf (fun _ => 0) s.segs = true
  mrkPins : Store.wf (fun _ => MrkPin.init) s.mrkPins = true
  mrkLines : Store.wf (fun _ => 0) s.mrkLines = true
  fluxes : Store.wf (fun _ => FluxLine.init) s.fluxes = true
  demods : Store.wf (fun _ => Demod.init) s.demods = true
  inputs : Store.wf (fun _ => Input.init) s.inputs = true
  acqs : Store.wf (fun _ => Acq.init) s.acqs = true
  kerns : Store.wf (fun _ => Kern.init) s.kerns = true
  convs : Store.wf (fun _ => Conv.init) s.convs = true
  meshPorts : Store.wf (fun _ => MeshPort.init) s.meshPorts = true
  rings : Store.wf (fun _ => Ring.init) s.rings = true
  lanes : Store.wf (fun _ => Lane.init) s.lanes = true
  mbxs : Store.wf (fun _ => none) s.mbxs = true
  evtChs : Store.wf (fun _ => EvtCh.init) s.evtChs = true
  evtOuts : Store.wf (fun _ => none) s.evtOuts = true
  evtIns : Store.wf (fun _ => none) s.evtIns = true
  tmrs : Store.wf (fun _ => (0, 0)) s.tmrs = true
  logs : Store.wf (fun _ => []) s.logs = true
  logWait : Store.wf (fun _ => none) s.logWait = true
  mirrored : Store.wf (fun _ => []) s.mirrored = true
  recSlots : Store.wf (fun _ => none) s.recSlots = true
  life : Store.wf (fun k => if 64 ≤ k ∧ k < 136 then 0x7FFF7FFF else 0) s.life = true
  lifeShadow : Store.wf (fun k => if 64 ≤ k ∧ k < 136 then 0x7FFF7FFF else 0) s.lifeShadow = true
  lifeCopies : Store.wf (fun _ => none) s.lifeCopies = true
  flash : Store.wf (fun _ => 0xFF) s.flash = true
  copies : ∀ p ∈ s.lifeCopies, ∀ c, p.2 = some c → lifeWf c.2 = true
  save : ∀ c, s.lifeSave = some c → lifeWf c.2.2 = true

/-! ## What a command touches -/

/-- Two register fields that share no bit. -/
def Rf.apart (f g : Rf) : Prop := f.addr ≠ g.addr ∨ f.lo + f.len ≤ g.lo ∨ g.lo + g.len ≤ f.lo

/-- In the register window, `t` differs from `s` in no field apart from the fields listed. -/
def State.fieldsOnly (s t : State) (fs : List Rf) : Prop :=
  ∀ g : Rf, g.lo + g.len ≤ 32 → (∀ f ∈ fs, f.apart g) → t.get g = s.get g

/-- `t` is `s` with nothing changed but the register fields listed. -/
def State.regsOnly (s t : State) (fs : List Rf) : Prop := t = { s with regs := t.regs } ∧ s.fieldsOnly t fs

/-! ## When an instruction executes -/

/-- Pilot `b` executes instruction `i`, of `n` words: it runs, its PC holds `i`, TC is within the run-ahead limit, and an
alternative being staged executes `i` (R66, R79, R98). -/
def State.executes (s : State) (b : Nat) (i : PInstr) (n : Nat) : Prop :=
  s.pltReady b (s.pilot b) = true ∧ s.pinstr b (s.pilot b).pc = some (i, n) ∧ s.aheadLimit b (s.pilot b) = false ∧
  ∀ g t, (s.pilot b).stages = g :: t → g.allows (s.pilot b).pc i = true

/-- The order an instruction of the pilot emits: stamped with TC, in the main lane or in the lane of the alternative being staged
(R64, R78, R105). -/
def Pilot.orderAt (p : Pilot) (k : OrdKind) : Order :=
  match p.stages with
  | [] => { tick := p.tc, kind := k, lane := 0, ctx := 0, bid := 0xFF, excess := false, lead := 0 }
  | g :: _ =>
    { tick := p.tc, kind := k, lane := if g.phase = .a then 1 else 2, ctx := BitVec.ofNat 1 g.ctx, bid := g.bid,
      excess := false, lead := 0 }

/-- TC still lies where an alternative may place an order: outside any alternative, or before TB + 64 (R80). -/
def Pilot.mayEmit (p : Pilot) : Prop := ∀ g t, p.stages = g :: t → Tick.le (g.tb + 64) p.tc = false

/-- The pilot holding an order it has emitted at TC, for the pound to take (R108). -/
def Pilot.holding (p : Pilot) (k : OrdKind) : Pilot :=
  { p with latch := some (p.orderAt k) }

/-- The state as an order emitted at TC leaves it: outside any alternative, coverage resumes at TC if the cursor was open (R65, R72). -/
def State.coverFrom (s : State) (b : Nat) (p : Pilot) : State :=
  if p.stages = [] then s.resumePaths b p.tc else s

/-- The pilot after a computation: the result in Vd, Z and N from it, and C (R63). -/
def Pilot.computed (p : Pilot) (d : BitVec 4) (w : Word) (c : Bool) : Pilot :=
  { p.setV d w with z := w == 0, n := w.msb, c := c }

/-- Reading through `f`, `t` and `s` agree at every number but `k`. -/
def State.othersSame {α : Type} (s t : State) (f : State → Nat → α) (k : Nat) : Prop := ∀ j, j ≠ k → f t j = f s j

/-! ## When a kernel instruction executes -/

/-- Engine `n` is about to execute the word `w`: it runs, does not wait, the word at its PC is `w`, and a branch-type word does not
stand in a delay slot (R211, R214, R222). -/
def State.kernAt (s : State) (n : Nat) (w : Word) : Prop :=
  s.bit (KRN_CTRL.RUN n) = true ∧ (s.kern n).waiting = false ∧ s.rd (R.KRN_PMEM n (s.kern n).pc.toNat) = w ∧
  (kernBranch (w.toNat / 2 ^ 26) = true → (s.kern n).slots = 0)

/-- The engine goes on after an instruction that leaves it as `k`: what was written before the instruction becomes visible (R213),
a handler that has ended is left, and the queue figures show. -/
def State.kernOn (s : State) (n : Nat) (k : Kern) : State :=
  let e := s.kern n
  ((s.setKern n { k.advance e.pc with vis := e.full, lastPc := e.pc }).kernLeave n).showKern n

/-- The engine executes a branch: two delay slots follow, then `dest` if it is taken (R214). -/
def State.kernJump (s : State) (n : Nat) (k : Kern) (dest : Option (BitVec 12)) : State :=
  let e := s.kern n
  ((s.setKern n { k with pc := e.pc + 1, slots := 2, dest := dest, vis := e.full, lastPc := e.pc }).kernLeave n).showKern n

end Sys2Proof.Machine
end

