-- ==== Sys2Proof/Certificates/Slice0/Obligations.lean ====
section
/-! DEFINITION. The statements put to the provers. Each docstring says which rules of the spec it formalises, and where a clause
rests on the model's own choice, which log entry declares it. -/

open Sys2Proof Sys2Proof.Machine

/-- A step takes the command at the front of the queue and runs it on the state with the queue's rest (log 1: the queue is the
model's own way to feed commands in). -/
def Obligations.FrontCommandRuns : Prop :=
  ∀ (c : Instr) (q : List Instr) (s : State), step { s with pending := c :: q } = exec c { s with pending := q }

/-- On an empty queue a step is one tick of the timing plane (log 1): TICK counts modulo 2^48, and what commands act on stays. -/
def Obligations.EmptyQueueTicks : Prop :=
  ∀ s : State, s.pending = [] → ∃ t, step s = .next t ∧ t.tick = s.tick + 1 ∧
    t = { s with tick := t.tick, regs := t.regs, time := t.time }

/-- R68, R63: each computation's result and flags; the pilot then goes on past the instruction (`State.advance`, stated by
PilotGoesOn). -/
def Obligations.PilotComputations : Prop :=
  ∀ (s : State) (b : Fin 64) (d a : BitVec 4) (r : Opnd) (w : Word) (n : Nat),
    let p := s.pilot b
    let x := p.v a
    let y := p.val r
    let k := y.toNat % 32
    let q := roundShift ((x.setWidth 18).toInt * (y.setWidth 18).toInt) 17
    let put (p : Pilot) : Host.Outcome State Fault Refusal := .next (s.advance b p n)
    (s.executes b (.mov d a) n → exec (.mov b) s = put (p.setV d x)) ∧
    (s.executes b (.movi d w) n → exec (.movi b) s = put (p.setV d w)) ∧
    (s.executes b (.alu .add d a r) n → exec (.add b) s = put (p.computed d (x + y) (2 ^ 32 ≤ x.toNat + y.toNat))) ∧
    (s.executes b (.alu .sub d a r) n → exec (.sub b) s = put (p.computed d (x - y) (x.toNat < y.toNat))) ∧
    (s.executes b (.alu .and d a r) n → exec (.and b) s = put (p.computed d (x &&& y) false)) ∧
    (s.executes b (.alu .or d a r) n → exec (.or b) s = put (p.computed d (x ||| y) false)) ∧
    (s.executes b (.alu .xor d a r) n → exec (.xor b) s = put (p.computed d (x ^^^ y) false)) ∧
    (s.executes b (.alu .shl d a r) n → exec (.shl b) s = put (p.computed d (x <<< k) (k != 0 && x.getLsbD (32 - k)))) ∧
    (s.executes b (.alu .shr d a r) n → exec (.shr b) s = put (p.computed d (x >>> k) (k != 0 && x.getLsbD (k - 1)))) ∧
    (s.executes b (.alu .sar d a r) n →
      exec (.sar b) s = put (p.computed d (x.sshiftRight k) (k != 0 && x.getLsbD (k - 1)))) ∧
    (s.executes b (.alu .mul d a r) n → exec (.mul b) s = put (p.computed d (BitVec.ofInt 32 (x.toInt * y.toInt)) false)) ∧
    (s.executes b (.alu .mulq d a r) n →
      exec (.mulq b) s = put (p.computed d (BitVec.ofInt 32 (max (-131072) (min 131071 q))) (q < -131072 || 131071 < q))) ∧
    (s.executes b (.cmp a r) n →
      exec (.cmp b) s = put { p with z := x - y == 0, n := (x - y).msb, c := x.toNat < y.toNat }) ∧
    (s.executes b (.tst a r) n → exec (.tst b) s = put { p with z := x &&& y == 0, n := (x &&& y).msb, c := false })

/-- R71, R98, R99: how a pilot goes on past the instruction at its PC. R68: the reads and the parameter accesses. Outside lockstep GETTK and LDP use the device's own TICK and memory (R342). -/
def Obligations.PilotReadsAndGoesOn : Prop :=
  (∀ (s : State) (b : Nat) (p : Pilot) (n : Nat),
    -- no block ends here
    ((∀ l t, p.reps = l :: t → l.last ≠ p.pc) → p.pc.toNat + n < 16384 →
      s.advance b p n = s.setPilot b { p with pc := p.pc + BitVec.ofNat 14 n }) ∧
    -- the innermost block ends here, with passes left
    (∀ l t, p.reps = l :: t → l.last = p.pc → 1 < l.left.toNat →
      s.advance b p n = s.setPilot b { p with pc := l.first, reps := { l with left := l.left - 1 } :: t }) ∧
    -- its last pass: the level is popped and the next enclosing block is asked
    (∀ l t, p.reps = l :: t → l.last = p.pc → l.left.toNat ≤ 1 → p.pc.toNat + n < 16384 →
      s.advance b p n = s.advance b { p with reps := t } n) ∧
    -- PC advances beyond the program memory
    ((∀ l t, p.reps = l :: t → l.last ≠ p.pc) → 16384 ≤ p.pc.toNat + n →
      ∃ t, s.advance b p n = t ∧ t.get (PLT_STAT.STATE b) = plt.stopped ∧ (s.standbyMute Src.PLT_ILLEGAL = false →
        t.raised = s.raised ++ [{ src := Src.PLT_ILLEGAL, tick := s.tick, slots := slot b ++ slot p.pc.toNat, injected := false }]))) ∧
  (∀ (s : State) (b : Fin 64) (d a : BitVec 4) (o : Word) (n : Nat),
    let p := s.pilot b
    let k := (p.v a + o).toNat
    let put (s : State) (p : Pilot) : Host.Outcome State Fault Refusal := .next (s.advance b p n)
    let pair (t : Tick) : Pilot := (p.setV d (t.setWidth 32)).setV (d + 1) ((t.extractLsb' 32 16).setWidth 32)
    let fault := s.raise Src.PLT_PARAM (slot b ++ slot p.pc.toNat)
    (s.executes b (.gettc d) n → exec (.gettc b) s = put s (pair p.tc)) ∧
    (s.executes b (.gettk d) n → s.lockstep b = false → exec (.gettk b) s = put s (pair s.tick)) ∧
    (s.executes b (.getd d) n → exec (.getd b) s = put s (p.setV d p.dstat)) ∧
    (s.executes b (.getsid d) n → exec (.getsid b) s = put s (p.setV d p.shotId)) ∧
    (s.executes b .nop n → exec (.nop b) s = put s p) ∧
    (s.executes b (.ldp d a o) n → s.lockstep b = false →
      (k < 1024 → exec (.ldp b) s = put s (p.computed d (s.rd (R.PARAM b k)) p.c)) ∧
      (1024 ≤ k → exec (.ldp b) s = put fault (p.computed d 0 p.c))) ∧
    (s.executes b (.stp d a o) n →
      (k < 1024 → exec (.stp b) s = put (s.wr (R.PARAM b k) (p.v d)) p) ∧
      (1024 ≤ k → exec (.stp b) s = put fault p)))

/-- R69 to R71: control flow. A target is held by a block from its first to its last address. R64, R66, R72, R73: the instructions that act on time. `openCursor` is the operation that opens the cursor at TC (R65). -/
def Obligations.PilotControlAndTime : Prop :=
  (∀ (s : State) (b : Fin 64) (t : BitVec 14) (c : BitVec 3) (o : Opnd) (n : Nat),
    let p := s.pilot b
    let put (p : Pilot) : Host.Outcome State Fault Refusal := .next (s.setPilot b p)
    let jump : Pilot := { p with pc := t, reps := p.reps.dropWhile (fun l => !(l.first.ule t && t.ule l.last)) }
    let holds : Bool := [p.z, !p.z, p.n, !p.n, p.c, !p.c, p.d, !p.d].getD c.toNat false
    let next := p.pc + BitVec.ofNat 14 n
    (s.executes b (.jmp t) n → exec (.jmp b) s = put jump) ∧
    (s.executes b (.jcc c t) n →
      (holds = true → exec (.jcc b) s = put jump) ∧ (holds = false → exec (.jcc b) s = .next (s.advance b p n))) ∧
    (s.executes b (.call t) n →
      (p.calls.length < 8 → exec (.call b) s = put { p with pc := t, calls := (next, p.reps.length) :: p.calls }) ∧
      (8 ≤ p.calls.length → exec (.call b) s = .next (s.pilotAbort b Src.PLT_STACK))) ∧
    (s.executes b .ret n →
      (∀ r k u, p.calls = (r, k) :: u →
        exec (.ret b) s = put { p with pc := r, calls := u, reps := p.reps.drop (p.reps.length - k) }) ∧
      (p.calls = [] → exec (.ret b) s = .next (s.pilotAbort b Src.PLT_STACK))) ∧
    (s.executes b (.rep o t) n →
      (p.pc.toNat < t.toNat → p.val o ≠ 0 → p.reps.length < 4 →
        exec (.rep b) s = put { p with pc := next, reps := { first := next, last := t, left := p.val o } :: p.reps }) ∧
      (p.pc.toNat < t.toNat → p.val o ≠ 0 → 4 ≤ p.reps.length → exec (.rep b) s = .next (s.pilotAbort b Src.PLT_STACK)) ∧
      (p.pc.toNat < t.toNat → p.val o = 0 → ∀ q, p.past t (s.plen b t) = some q → exec (.rep b) s = put q) ∧
      (t.toNat ≤ p.pc.toNat → exec (.rep b) s = .next (s.pilotAbort b Src.PLT_ILLEGAL)))) ∧
  (∀ (s : State) (b : Fin 64) (w : WideOpnd) (ch : BitVec 8) (lead : BitVec 16) (o : DecOpnd) (n : Nat),
    let p := s.pilot b
    let put (s : State) (p : Pilot) : Host.Outcome State Fault Refusal := .next (s.advance b p n)
    let back := s.raise Src.TC_BACKWARD (slot b ++ slot p.pc.toNat)
    (s.executes b (.wait w) n →
      (Tick.before (p.tc + p.wide w) p.tc = false → exec (.wait b) s = put s { p with tc := p.tc + p.wide w }) ∧
      (Tick.before (p.tc + p.wide w) p.tc = true → exec (.wait b) s = put back p)) ∧
    (s.executes b (.atOrigin w) n →
      (Tick.before (p.origin + p.wide w) p.tc = false → exec (.atTick b) s = put s { p with tc := p.origin + p.wide w }) ∧
      (Tick.before (p.origin + p.wide w) p.tc = true → exec (.atTick b) s = put back p)) ∧
    (s.executes b (.tsync w) n → s.lockstep b = false →
      exec (.tsync b) s = put s { p with tc := Tick.max p.tc (s.tick + p.wide w) }) ∧
    (s.executes b (.waite ch lead) n → s.lockstep b = false →
      exec (.waite b) s = .next ((s.openCursor b { p with wait := .event ch lead, lastCh := some ch }).set
        (PLT_STAT.STATE b) plt.waitEvent)) ∧
    (s.executes b (.waitd o) n → s.lockstep b = false → ∀ src dev rem, s.decSource b o = some (src, dev, rem) →
      exec (.waitd b) s = .next ((s.openCursor b
        { p with wait := .decision src dev rem (p.tc - o.de.setWidth 48) o.mask o.dflt none }).set
          (PLT_STAT.STATE b) plt.waitDecision)) ∧
    -- the run-ahead limit
    (s.pltReady b p = true → s.aheadLimit b p = true → s.pinstr b p.pc = some (.nop, n) →
      exec (.nop b) s = .next (s.set (PLT_STAT.STATE b) plt.runAhead)) ∧
    (s.get (PLT_STAT.STATE b) = plt.runAhead → s.aheadLimit b p = false →
      exec (.runAheadResume b) s = .next (s.set (PLT_STAT.STATE b) plt.run)))

/-- R74, R76, R80: every order instruction leaves exactly one order, held for the pound; R65, R72: outside any alternative, coverage
resumes with it. -/
def Obligations.PilotOrders : Prop :=
  ∀ (s : State) (b : Fin 64) (t3 : BitVec 3) (t2 m w : BitVec 2) (mask e4 : BitVec 4) (seg : BitVec 17) (x y : Opnd)
    (f : WideOpnd) (n : Nat),
    let p := s.pilot b
    let put (k : OrdKind) : Host.Outcome State Fault Refusal := .next ((s.coverFrom b p).advance b (p.holding k) n)
    let tones (p : Pilot) (o : Option (Tick × Bool)) : Pilot :=
      (List.range 4).foldl (fun q k => if mask.getLsbD k then q.setWin k o else q) p
    (p.mayEmit →
      (s.executes b (.play t3 seg x y) n → exec (.play b) s = put (.tonePlay seg t3 ((p.val x).setWidth 18) (p.val y))) ∧
      (s.executes b (.freq t3 f) n → exec (.freq b) s = put (.freqSet t3 false (p.wide f))) ∧
      (s.executes b (.phase t3 x) n → exec (.phase b) s = put (.phaseShift t3 false (p.val x))) ∧
      (s.executes b (.probe t2 seg x y) n →
        exec (.probe b) s = put (.probePlay seg t2 ((p.val x).setWidth 18) (p.val y))) ∧
      (s.executes b (.freqp t2 f) n → exec (.freqp b) s = put (.freqSet (t2.setWidth 3) true (p.wide f))) ∧
      (s.executes b (.phasep t2 x) n → exec (.phasep b) s = put (.phaseShift (t2.setWidth 3) true (p.val x))) ∧
      (s.executes b (.flux seg x) n → exec (.flux b) s = put (.fluxPulse seg ((p.val x).setWidth 18))) ∧
      (s.executes b (.bias x) n → exec (.bias b) s = put (.biasSet ((p.val x).setWidth 18))) ∧
      (s.executes b (.mark e4 m) n → exec (.mark b) s = put (.marker e4 m)) ∧
      (s.executes b (.mopen mask w) n → (∀ k, k < 4 → mask.getLsbD k = true → winOpen p.tc (p.win k) = none) →
        exec (.mopen b) s = .next ((s.coverFrom b p).advance b ((tones p (some (p.tc, false))).holding (.measure false mask w)) n)) ∧
      (s.executes b (.mclose mask) n → (∀ k, k < 4 → mask.getLsbD k = true →
          ∃ o, winOpen p.tc (p.win k) = some o ∧ 4 ≤ Tick.diff o p.tc ∧ Tick.diff o p.tc ≤ 4096) →
        exec (.mclose b) s = .next ((s.coverFrom b p).advance b ((tones p none).holding (.measure true mask 0)) n))) ∧
    (∀ g u, p.stages = g :: u → Tick.le (g.tb + 64) p.tc = true → s.executes b (.play t3 seg x y) n →
      exec (.play b) s = .next ((s.raise Src.BRANCH_FORM (slot b ++ slot p.pc.toNat)).advance b p n))

/-- R56, R61, R77, R78, R87 to R89: branches and shots, outside any alternative. -/
def Obligations.PilotBranchesAndShots : Prop :=
  ∀ (s : State) (b : Fin 64) (o : DecOpnd) (l : BitVec 14) (n c : Nat) (src : BitVec 8) (dev : BitVec 12) (rem : Bool),
    let p := s.pilot b
    let e := p.tc - o.de.setWidth 48
    let next := p.pc + BitVec.ofNat 14 n
    let dec : Word := p.left - 1
    let id : Word := p.shotId
    (p.stages = [] →
      (s.executes b (.brd o) n → s.decSource b o = some (src, dev, rem) → s.pickCtx b p = some c →
        ∃ t g, exec (.brd b) s = .next t ∧ t = { s.coverFrom b p with pilots := t.pilots, ctxs := t.ctxs } ∧
          t.pilot b = { p with latch := some { p.orderAt (.branchArm e src dev rem o.mask o.dflt) with bid := o.bid },
                               stages := [g], lastCtx := some c, pc := next } ∧
          g.ctx = c ∧ g.tb = p.tc ∧ g.phase = .a ∧ g.lo = next ∧ g.altB = p.pc + o.loff.setWidth 14 ∧
          (t.ctx (2 * b + c)).claimed = true ∧ (t.ctx (2 * b + c)).res = none ∧
          s.othersSame t State.pilot b ∧ s.othersSame t State.ctx (2 * b + c)) ∧
      (s.executes b .join n → exec (.join b) s = .next (s.advance b p n)) ∧
      (s.executes b (.shot l) n → p.wins = [] → (p.endless = true ∨ p.left ≠ 1) → s.holdOn = false →
          s.bit (PLT_CTRL.STOP_BND b) = false →
        exec (.shot b) s =
          .next ((s.coverFrom b p).setPilot b { p.holding (.shotBoundary id p.lastShot false) with
          left := if p.endless then p.left else dec, shotId := id + 1, origin := p.tc, pc := l })) ∧
      (s.executes b (.shot l) n → p.endless = false → p.left = 1 → ∃ t, exec (.shot b) s = .next t ∧
          t.get (PLT_STAT.STATE b) = plt.idle ∧ (t.pilot b).busy = false ∧ (t.pilot b).opened = true) ∧
      (s.executes b .halt n → p.wins = [] → ∃ t, exec (.halt b) s = .next t ∧ t.get (PLT_STAT.STATE b) = plt.idle ∧
          (t.pilot b).latch = some (p.orderAt (.shotBoundary id true true)) ∧ (t.pilot b).busy = false ∧
          t = { s with pilots := t.pilots, ledgers := t.ledgers, paths := t.paths, regs := t.regs })) ∧
    (∀ tick entry shot count, p.start = some (tick, entry, shot, count) → ∃ t, exec (.batchStart b) s = .next t ∧
      t.pilot b = { Pilot.init with
        tc := tick, origin := tick, pc := entry, shotId := shot, left := count, endless := count == 0, busy := true, opened := false, lastCh := p.lastCh } ∧
      t.get (PLT_STAT.STATE b) = plt.run ∧ (t.ledger b).inflight = shot ∧
      s.othersSame t State.pilot b ∧ s.othersSame t State.ledger b ∧
      t = { s with pilots := t.pilots, ledgers := t.ledgers, paths := t.paths, regs := t.regs })

/-- R92, R111: an immediate STOP at a safe point. R91, R111: snapshot and release from the shot-boundary hold. -/
def Obligations.PilotStopsSnapshotsAndHolds : Prop :=
  (∀ (s : State) (b : Fin 64),
    let p := s.pilot b
    let x := Tick.min p.tc (s.tick + 48)
    s.bit (PLT_CTRL.STOP b) = true → p.trap = none → p.start = none →
    s.get (PLT_STAT.STATE b) ≠ plt.idle → s.get (PLT_STAT.STATE b) ≠ plt.stopped →
    ∃ t, exec (.pilotStop b) s = .next t ∧ t.get (PLT_STAT.STATE b) = plt.stopped ∧
      t.bit (PLT_CTRL.STOP b) = false ∧ t.bit (PLT_CTRL.STOP_BND b) = false ∧ (t.pilot b).busy = false ∧
      t.pound b = (s.pound b).filter (fun o => Tick.before o.tick x) ∧
      t.ledger b = { s.ledger b with stopAt := some (x, cause.stop) } ∧
      s.othersSame t State.pilot b ∧ s.othersSame t State.pound b ∧ s.othersSame t State.ledger b ∧
      t = { s with pilots := t.pilots, pounds := t.pounds, ledgers := t.ledgers, locks := t.locks, ctxs := t.ctxs,
                   paths := t.paths, fetches := t.fetches, muteds := t.muteds, demods := t.demods, regs := t.regs,
                   wide := t.wide }) ∧
  (∀ (s : State) (b : Fin 64) (l : BitVec 14),
    let p := s.pilot b
    let at_ := Tick.max p.tc (s.tick + BitVec.ofNat 48 (Nat.max 64 (s.get (PLT_TIME_CFG.RESUME_LEAD b))))
    (s.bit (PLT_CTRL.SNAP b) = true → p.trap = none → s.bit (PLT_CTRL.STOP b) = false →
      ∃ t, exec (.stateSnapshot b) s = .next t ∧ t = { s with regs := t.regs } ∧
        (∀ i : Fin 16, t.rd (R.PLT_VAR b i) = p.v (BitVec.ofNat 4 i)) ∧ t.get (PLT_PC.PC b) = p.pc.toNat ∧
        t.bit (PLT_FLAGS.Z b) = p.z ∧ t.bit (PLT_FLAGS.N b) = p.n ∧ t.bit (PLT_FLAGS.C b) = p.c ∧ t.bit (PLT_FLAGS.D b) = p.d ∧
        t.pair (R.PLT_TC_LO b) = p.tc ∧ t.bit (PLT_STAT.SNAP_VALID b) = true ∧ t.bit (PLT_CTRL.SNAP b) = false) ∧
    (p.wait = .held l → p.latch = none → s.holdOn = false → s.bit (PLT_CTRL.STOP_BND b) = false →
      ∃ t, exec (.shotHoldResume b) s = .next t ∧
        t.pilot b = { p with wait := .none, opened := false, tc := at_, origin := at_, pc := l } ∧
        t.get (PLT_STAT.STATE b) = plt.run ∧ s.othersSame t State.pilot b ∧
        t = { s with pilots := t.pilots, ledgers := t.ledgers, regs := t.regs }))

/-- R96, R98, R105, R111, R114 to R118: the pilot's commands that act on registers and memories. -/
def Obligations.PilotRegisterCommands : Prop :=
  ∀ (s : State) (b : Fin 64) (w : Word) (idx : BitVec 6) (o : Order) (level : BitVec 8),
    let a := s.get (PLT_PM_ADDR.ADDR b)
    let inc (s : State) : State := s.set (PLT_PM_ADDR.ADDR b) ((a + 1) % 16384)
    let scrub := { s with ucScrub := Store.write (fun _ => 0) s.ucScrub b ((Store.read (fun _ => 0) s.ucScrub b + 1) % 8192) }
    exec (.pltCtrlStop b) s = .next (s.setBit (PLT_CTRL.STOP b) true) ∧
    exec (.pltCtrlStopBnd b) s = .next (s.setBit (PLT_CTRL.STOP_BND b) true) ∧
    exec (.pltCtrlSnap b) s = .next (s.setBit (PLT_CTRL.SNAP b) true) ∧
    exec (.pltPmDataAccess b none) s = .next ((inc s).answer (s.progWord (b * 16384 + a))) ∧
    (s.pltIdle b = true →
      exec (.pltPmDataAccess b (some w)) s = .next (inc ((s.setProgWord (b * 16384 + a) w).wr (R.PLT_PM_DATA b) w))) ∧
    (s.pltIdle b = false → exec (.pltPmDataAccess b (some w)) s = .next s) ∧
    ((s.pound b)[idx.toNat]? = some o → ∃ t, exec (.pndViewSelWrite b idx) s = .next t ∧ t = { s with regs := t.regs } ∧
      t.get (PND_VIEW_SEL.IDX b) = idx.toNat ∧ t.bit (PND_VIEW_SEL.VALID b) = true ∧
      ∀ i : Fin 5, t.rd (R.PND_VIEW_DATA b i) = BitVec.ofNat 32 (o.bits >>> (32 * i.val))) ∧
    (∃ t, exec (.shlLastDoneRead b) s = .next t ∧ t = { s with regs := t.regs, answered := t.answered } ∧
      t.answered = some ((s.ledgerView b).getD 0 0) ∧
      ∀ i : Fin 6, t.rd (R.SHL_LAST_DONE b + 4 * i.val) = (s.ledgerView b).getD i.val 0) ∧
    exec (.ucScrub b 0) s = .next scrub ∧
    exec (.ucReloadDone b) s = .next ((s.setBit (PLT_STAT.UC_VALID b) true).setBit (UC_VER.VALID b) true) ∧
    (s.get (UC_VER.PATCH b) < level.toNat → s.pltIdle b = true → (s.pilot b).busy = false →
      exec (.ucPatchApply b level) s = .next ((s.set (UC_VER.PATCH b) level.toNat).setBit (PLT_STAT.PATCH_PEND b) false)) ∧
    (s.get (UC_VER.PATCH b) < level.toNat → s.pltIdle b = false →
      exec (.ucPatchApply b level) s = .next (s.setBit (PLT_STAT.PATCH_PEND b) true))

/-- R30, R33, R40: the pound is a queue of 64 orders. R31, R32, R41: arrival in time. -/
def Obligations.OrdersAndEntriesMove : Prop :=
  (∀ (s : State) (b : Fin 64) (o : Order) (rest : List Order),
    ((s.pilot b).latch = some o → (s.pound b).length < 64 → ∃ t e, exec (.orderEmit b) s = .next t ∧
      t.pound b = s.pound b ++ [e] ∧ e = { o with excess := e.excess, lead := Tick.diff s.tick o.tick } ∧
      t.pilot b = { s.pilot b with latch := none } ∧ t.get (PND_STAT.OCC b) = (s.pound b).length + 1 ∧
      (Tick.diff s.tick o.tick < 48 → s.standbyMute Src.ORDER_SHORT = false →
        { src := Src.ORDER_SHORT, tick := s.tick, slots := slot b ++ slotInt (Tick.diff s.tick o.tick), injected := false } ∈ t.raised) ∧
      t = { s with pilots := t.pilots, pounds := t.pounds, regs := t.regs, raised := t.raised, fetches := t.fetches }) ∧
    ((s.pilot b).latch = some o → 64 ≤ (s.pound b).length → s.get (PLT_STAT.STATE b) = plt.run →
      exec (.orderEmit b) s = .next (s.set (PLT_STAT.STATE b) plt.poundFull)) ∧
    (s.pound b = o :: rest → s.reached b o = false → exec (.orderTakeIn b) s = .next s) ∧
    (s.pound b = o :: rest → s.reached b o = true → ∃ t, exec (.orderTakeIn b) s = .next t ∧ t.pound b = rest ∧
      s.othersSame t State.pound b ∧
      (match o.kind with
        | .branchArm .. => True
        | .shotBoundary .. => True
        | k => (t.path (pathKey b k.path o.laneNo)).sched = (s.path (pathKey b k.path o.laneNo)).sched ++ [o]) ∧
      t = { s with pounds := t.pounds, regs := t.regs, paths := t.paths, ctxs := t.ctxs, locks := t.locks,
                   fetches := t.fetches, muteds := t.muteds })) ∧
  (∀ (s : State) (l : Fin 192) (lane : Nat) (e : Entry) (rest : List (Nat × Entry)),
    let k := s.lockLane l
    k.formed = (lane, e) :: rest → k.st ≠ .off → 2 ≤ Tick.diff s.tick e.first →
    ∃ t, exec (.lockEntryArrive l) s = .next t ∧ (t.lockLane l).formed = rest ∧
      (t.lockLane l).lane lane = k.lane lane ++ [{ e with present := s.tick }] ∧
      (t.lockLane l).st = (if k.st = .idle ∧ e.cover = .openIdle then .idle else .run) ∧
      (k.st = .idle → e.cover ≠ .openIdle → (t.lockLane l).since = e.first) ∧
      s.othersSame t State.lockLane l ∧ s.fieldsOnly t [LOCK_STAT.STATE (lockOfLane l)] ∧
      t = { s with locks := t.locks, regs := t.regs })

/-- R31, R65, R143, R149: one tick of a path, main lane. `settlePath` is what joins a resolved branch first (R81). -/
def Obligations.SynthesisFormsTheNextTick : Prop :=
  ∀ (s : State) (b : Fin 64) (flaws : List (Fin 13 × Fin 4 × Bool)) (limit : Tick) (pl : Play),
    let s0 := s.settlePath b 0 false
    let k := s0.path (pathKey b 0 0)
    let upTo := (s0.waiting b 0 0).foldl (fun m o => Tick.min m o.tick) limit
    let n := Nat.min 65535 (Tick.diff k.cur upTo).toNat
    let s2 := s.settlePath b 2 false
    let f := s2.path (pathKey b 2 0)
    let v := envI (s2.basinSample (desc.addr pl.desc % 2 ^ 24 + pl.pos))
    let e : Entry := { first := f.cur, cover := .sample [(mulQ17 v pl.amp).1.toInt], acts := [], present := 0, sat := false }
    let fresh := (desc.addr pl.desc + pl.pos + 1) % 8 = 0
    (k.live = true → s0.laneRoom b 0 = true → k.cutAt = none → k.opens = [] → k.sched = [] → k.acts = [] →
      (∀ t ∈ pathTones 0, (k.tone t).play = none) → s0.formLimit b 0 k = some limit → Tick.before k.cur limit = true →
      s0.takenUpTo b 0 0 k.cur = true →
      ∃ t, exec (.synthesisTick b 0 0 flaws) s = .next t ∧
        (t.lockLane b).formed = (s0.lockLane b).formed ++
          [(0, { first := k.cur, cover := .idle n, acts := [], present := 0, sat := false })] ∧
        (t.path (pathKey b 0 0)).cur = k.cur + BitVec.ofNat 48 n ∧
        t = { s0 with locks := t.locks, paths := t.paths, regs := t.regs, wide := t.wide }) ∧
    (f.live = true → s2.laneRoom (64 + b) 0 = true → f.cutAt = none → f.opens = [] → f.sched = [] → f.acts = [] →
      (f.tone 12).play = some pl → pl.cutAt = none → pl.dead = false → pl.muted = false → desc.src pl.desc = 0 →
      pl.block = some false → pl.pos + 1 < desc.length pl.desc → s2.bit (FLX_CFG.PD_EN b) = false →
      (mulQ17 v pl.amp).2 = false → s2.formLimit b 0 f = some limit → Tick.before f.cur limit = true →
      s2.takenUpTo b 2 0 f.cur = true →
      ∃ t, exec (.synthesisTick b 2 0 flaws) s = .next t ∧
        (t.lockLane (64 + b)).formed = (s2.lockLane (64 + b)).formed ++ [(0, e)] ∧
        (t.path (pathKey b 2 0)).cur = f.cur + 1 ∧ ((t.path (pathKey b 2 0)).tone 12).play =
          some { pl with pos := pl.pos + 1, block := if fresh then none else some false } ∧
        t = { s2 with locks := t.locks, paths := t.paths, regs := t.regs, fetches := t.fetches })

/-- R15, R41, R43, R163: the release of one tick. -/
def Obligations.BargeReleasedInItsTick : Prop :=
  ∀ (s : State) (l : Fin 144) (b : Fin 64) (e : Entry) (v : List Int),
    let k := s.lockLane l
    let free := (s.ctx (2 * b)).busy = false ∧ (s.ctx (2 * b + 1)).busy = false
    let quiet := k.st = .run ∧ k.idleAt = none ∧ k.episode = none ∧ Tick.before s.tick k.since = false ∧ free
    let onTimeSample := onTime k.main s.tick = some e ∧ e.cover = .sample v ∧ e.acts = []
    let still := (s.ledger b).stopAt = none ∧ (s.ledger b).opening = none ∧ s.muted b = []
    (l.val = b.val → quiet → still → onTimeSample → s.twinMuted b = false → v.any (· != 0) = true →
      ∃ t, exec (.bargeRelease l) s = .next t ∧ t.outPin b = v ∧ t.bit (DRV_CFG.SW_CLOSED b) = true ∧
        s.othersSame t State.outPin b ∧ s.othersSame t State.lockLane b ∧
        t = { s with locks := t.locks, regs := t.regs, outs := t.outs, raised := t.raised, life := t.life, govMon := t.govMon,
                     gov := t.gov }) ∧
    (l.val = b.val → quiet → still → onTime k.main s.tick = none →
      ∃ t, exec (.bargeRelease l) s = .next t ∧ t.outPin b = [] ∧ t.bit (LOCK_STAT.LATE b) = true ∧
        t.get (LOCK_LATE_CNT.COUNT b) = Nat.min (s.get (LOCK_LATE_CNT.COUNT b) + 1) (2 ^ (LOCK_LATE_CNT.COUNT b).len - 1) ∧
        s.othersSame t State.outPin b ∧ s.othersSame t State.lockLane b ∧
        t = { s with locks := t.locks, regs := t.regs, outs := t.outs, wide := t.wide, ledgers := t.ledgers, govMon := t.govMon,
                     gov := t.gov }) ∧
    (l.val = 64 + b.val → quiet → onTimeSample → s.twinMuted b = false → s.bit (FLX_CFG.CLAMPED b) = false →
      v.headD 0 ≠ 0 →
      ∃ t, exec (.bargeRelease l) s = .next t ∧ t.outPin (64 + b) = [v.headD 0] ∧ s.othersSame t State.outPin (64 + b) ∧
        t = { s with locks := t.locks, regs := t.regs, outs := t.outs, raised := t.raised, life := t.life, govMon := t.govMon,
                     gov := t.gov, fluxes := t.fluxes })

/-- R26, R39, R43: reads with side effects. R130: the marker pins. -/
def Obligations.ReadsThatLatchAndMarkerPins : Prop :=
  (∀ (s : State) (l : Fin 144),
    (∃ t, exec .tplTickLoRead s = .next t ∧ t.answered = some (s.tick.setWidth 32) ∧
      t.get TPL_TICK_HI.TICK_HI = s.tick.toNat / 2 ^ 32 ∧ s.fieldsOnly t [TPL_TICK_HI.TICK_HI] ∧
      t = { s with regs := t.regs, answered := t.answered }) ∧
    (∃ t, exec .lmDevMinRead s = .next t ∧ t.answered = some (s.rd R.LM_DEV_MIN) ∧ t.get LM_DEV_MIN.MIN = 0x7FFF ∧
      t.get LM_DEV_MIN.LOCK_ID = 0xFF ∧ (∀ i : Fin 192, t.lockLane i = { s.lockLane i with noticed := false }) ∧
      s.fieldsOnly t [LM_DEV_MIN.MIN, LM_DEV_MIN.LOCK_ID] ∧
      t = { s with regs := t.regs, locks := t.locks, answered := t.answered }) ∧
    (∃ t, exec (.lockLateTickRead l) s = .next t ∧ t.answered = some (s.rd (R.LOCK_LATE_TICK_LO l)) ∧
      t.rd (R.LOCK_LATE_TICK_LO l + 4) = ((s.wideVal (R.LOCK_LATE_TICK_LO l)).extractLsb' 32 16).setWidth 32 ∧
      (∀ a, a ≠ R.LOCK_LATE_TICK_LO l + 4 → t.rd a = s.rd a) ∧ t = { s with regs := t.regs, answered := t.answered })) ∧
  (∀ (s : State) (n : Fin 16) (w : Word) (d : Tick) (v : Bool),
    let m := s.mrkPin n
    let w' := w &&& 0x00FF07FF
    (m.due = [(d, .level v)] → Tick.le d s.tick = true →
      exec (.mrkPinUpdate n) s = .next (s.setMrkPin n { m with due := [], line := v })) ∧
    (m.due = [(d, .level v)] → Tick.le d s.tick = false → exec (.mrkPinUpdate n) s = .next (s.setMrkPin n m)) ∧
    (m.due = [(d, .pulse)] → Tick.le d s.tick = true → exec (.mrkPinUpdate n) s =
      .next (s.setMrkPin n { m with due := [], pulseEnd := some (d + BitVec.ofNat 48 (Nat.max 1 (fieldOf m.sel 16 8))) })) ∧
    (m.pulseEnd = some d → Tick.le d s.tick = true →
      exec (.mrkPulseEnd n) s = .next (s.setMrkPin n { m with pulseEnd := none })) ∧
    (m.pulseEnd = some d → Tick.le d s.tick = false → exec (.mrkPulseEnd n) s = .next (s.setMrkPin n m)) ∧
    exec (.mrkSelWrite n w) s = .next ((s.wr (R.MRK_SEL n) w').setMrkPin n
      { m with due := m.due ++ [(s.tick + 4, .sel w' ((s.mrkLine (fieldOf w' 2 6)).getLsbD (fieldOf w' 8 2)))] }))

/-- R122, R123, R126: segment table, basin window and scrubber. R131 to R133, R387: the prefetch buffer of a tone. -/
def Obligations.SegmentsAndStreams : Prop :=
  (∀ (s : State) (idx : BitVec 17) (word : Fin 0xC00000) (v : Word),
    let d := s.rd (R.SEG_DATA 3) ++ s.rd (R.SEG_DATA 2) ++ s.rd (R.SEG_DATA 1) ++ s.rd (R.SEG_DATA 0)
    let scrubbed := { s with basinNext := (s.basinNext + 1) % 5592404 }
    (∀ read, ∃ t, exec (.segCommit idx read) s = .next t ∧ t.seg idx.toNat = d ∧ t.get SEG_CTRL.IDX = idx.toNat ∧
      (∀ i : Fin 4, t.rd (R.SEG_DATA i) = s.rd (R.SEG_DATA i)) ∧
      s.othersSame t State.seg idx.toNat ∧ t = { s with segs := t.segs, regs := t.regs }) ∧
    (∃ t, exec (.segRead idx) s = .next t ∧ (∀ i : Fin 4, t.rd (R.SEG_DATA i) = (s.seg idx.toNat).extractLsb' (32 * i.val) 32) ∧
      t = { s with regs := t.regs }) ∧
    (4 * word.val < 0x2FFFFF4 →
      exec (.basinWindowWrite word v false) s = .next (s.wr (0x1000000 + 4 * word) v) ∧
      exec (.basinWindowRead word 0) s = .next (s.answer (s.rd (0x1000000 + 4 * word)))) ∧
    (0x2FFFFF4 ≤ 4 * word.val →
      exec (.basinWindowWrite word v false) s = .next s ∧ exec (.basinWindowRead word 0) s = .next (s.answer 0)) ∧
    exec (.basinScrub 0) s = .next scrubbed ∧
    (s.standbyMute Src.BASIN_DED = false → ∃ t, exec (.basinScrub 2) s = .next t ∧ t.bit BASIN_ECC_STAT.DED = true ∧
      t.get BASIN_ECC_STAT.PAIR = s.basinNext % 2 ^ BASIN_ECC_STAT.PAIR.len ∧
      t.raised = s.raised ++ [{ src := Src.BASIN_DED, tick := s.tick, slots := slotWide s.basinNext ++ slot 1, injected := false }])) ∧
  (∀ (s : State) (b : Fin 64) (t : Fin 13) (chan : Fin 4) (f : Fetch),
    let key := b.val * 13 + t.val
    let first := desc.addr f.desc + f.blockPos f.next
    let a := first * 9 / 2
    let same (u : State) : Prop := s.othersSame u State.prefetch key
    s.prefetch key = [f] → f.jump = false → f.open_ = true → desc.src f.desc = 1 → desc.link f.desc = false →
    (f.blocks.length < 64 →
      (∃ u v, exec (.blockFetchDone b t chan 0) s = .next u ∧ u.prefetch key = [f.arrived (some v)] ∧
        (∀ k, k < 8 → v.extractLsb' (36 * k) 36 = s.dramSample (first + k)) ∧ same u ∧ u = { s with fetches := u.fetches }) ∧
      (∃ u, exec (.blockFetchDone b t chan 2) s = .next u ∧ u.prefetch key = [f.arrived none] ∧
        (s.standbyMute Src.DRAM_UE = false → u.raised = s.raised ++ [{
          src := Src.DRAM_UE, tick := s.tick, slots := slot chan ++ [a % 65536, a / 65536 % 65536, a / 2 ^ 32 % 16],
          injected := false }]) ∧ same u ∧
        u = { s with fetches := u.fetches, raised := u.raised })) ∧
    (64 ≤ f.blocks.length → ∃ u, exec (.blockFetchDone b t chan 0) s = .next u ∧ u.prefetch key = [f] ∧ same u ∧
      u = { s with fetches := u.fetches }) ∧
    (∃ u, exec (.fetchDeadline b t) s = .next u ∧
      u.prefetch key = [if Tick.le (f.blockTick f.next) (s.tick + 48) then f.arrived none else f] ∧ same u ∧
      u = { s with fetches := u.fetches }))

/-- R32, R137, R141, R146, R147: enables, mixer settings, jumps and the frame origin. -/
def Obligations.OutputsEnableAndMix : Prop :=
  ∀ (s : State) (b : Fin 64) (n : Fin 16) (mix : Bool) (w : Word) (hi : BitVec 16),
    let j := s.wr (R.SYN_JMP b) (w &&& 0x003FFFFF)
    (s.bit (DRV_CFG.EN b) = false → ∃ t, exec (.drvEnSet b) s = .next t ∧ t.bit (DRV_CFG.EN b) = true ∧
      t.lockLane b = { s.lockLane b with st := .idle } ∧ s.othersSame t State.lockLane b ∧
      s.fieldsOnly t [DRV_CFG.EN b, LOCK_STAT.STATE b] ∧ t = { s with regs := t.regs, locks := t.locks }) ∧
    (∃ t, exec (.drvEnClear b) s = .next t ∧ t.bit (DRV_CFG.EN b) = false ∧ t.bit (DRV_CFG.SW_CLOSED b) = false ∧
      (t.lockLane b).st = .off ∧ t.outPin b = [] ∧ s.othersSame t State.lockLane b ∧ s.othersSame t State.outPin b ∧
      t = { s with regs := t.regs, locks := t.locks, outs := t.outs }) ∧
    (s.bit (PRB_CFG.EN n) = false → ∃ t, exec (.prbEnSet n) s = .next t ∧ t.bit (PRB_CFG.EN n) = true ∧
      (∀ i : Fin 4, (t.lockLane (128 + 4 * n.val + i.val)).st = .idle) ∧ t = { s with regs := t.regs, locks := t.locks }) ∧
    (∃ t, exec (.prbEnClear n) s = .next t ∧ t.bit (PRB_CFG.EN n) = false ∧ t.bit (PRB_CFG.SW_CLOSED n) = false ∧
      (∀ i : Fin 4, (t.lockLane (128 + 4 * n.val + i.val)).st = .off) ∧ t.outPin (128 + n.val) = [] ∧
      t = { s with regs := t.regs, locks := t.locks, outs := t.outs }) ∧
    (s.bit (DRV_CFG.EN b) = false → exec (.drvMixWrite b mix) s = .next (s.setBit (DRV_CFG.MIX b) mix)) ∧
    (s.bit (DRV_CFG.EN b) = true → exec (.drvMixWrite b mix) s = .next (s.setBit (DRV_STAT.CFG_REJ b) true)) ∧
    (s.bit (PRB_CFG.EN n) = false → exec (.prbMixWrite n mix) s = .next (s.setBit (PRB_CFG.MIX n) mix)) ∧
    (s.bit (PRB_CFG.EN n) = true → exec (.prbMixWrite n mix) s = .next (s.setBit (PRB_STAT.CFG_REJ n) true)) ∧
    (j.bit (SYN_JMP.PRB b) = false → j.bit (SYN_JMP.AT b) = false →
      ((j.path (pathKey b 0 0)).tone (j.get (SYN_JMP.TONE b))).play.isSome = true →
      (∀ lane ∈ [1, 2, 3, 4], (j.path (pathKey b 0 lane)).live = false) →
      ∃ t, exec (.synJmpGo b w) s = .next t ∧
        ((t.path (pathKey b 0 0)).tone (j.get (SYN_JMP.TONE b))).jump =
          some (BitVec.ofNat 17 (j.get (SYN_JMP.SEG b)), (s.path (pathKey b 0 0)).cur) ∧
        t = { s with regs := t.regs, paths := t.paths, fetches := t.fetches }) ∧
    (∃ t, exec (.synOriginWrite hi) s = .next t ∧ t.get SYN_ORIGIN_HI.ORIGIN = hi.toNat ∧ t.synOrigin = t.pair R.SYN_ORIGIN_LO ∧
      s.fieldsOnly t [SYN_ORIGIN_HI.ORIGIN] ∧ t = { s with regs := t.regs, synOrigin := t.synOrigin })

/-- R155, R156, R160, R162, R164: enable, clear and filter of a flux line. R157 to R160, R162: the bias path of a line. -/
def Obligations.FluxLinesEnableAndTakeBias : Prop :=
  (∀ (s : State) (b : Fin 64) (i : Fin 8) (j : Fin 64) (v : Word) (u : Tick) (c : BitVec 18),
    let f := s.fluxLine b
    let ok := s.pltIdle b = true ∧ s.bit (FLX_STAT.QUIET b) = true
    (s.bit (FLX_CFG.EN b) = false → ∃ t, exec (.flxEnSet b) s = .next t ∧ t.bit (FLX_CFG.EN b) = true ∧
      t.fluxLine b = { f with armed := false } ∧ t.lockLane (64 + b) = { s.lockLane (64 + b) with st := .idle } ∧
      s.fieldsOnly t [FLX_CFG.EN b, LOCK_STAT.STATE (64 + b)] ∧
      t = { s with regs := t.regs, fluxes := t.fluxes, locks := t.locks }) ∧
    (s.bit (FLX_CFG.EN b) = true → ∃ t, exec (.flxEnClear b) s = .next t ∧ t.bit (FLX_CFG.EN b) = false ∧
      (t.lockLane (64 + b)).st = .off ∧ (t.lockLane (64 + b)).main = [] ∧ t.outPin (64 + b) = [] ∧
      t.bit (FLX_STAT.QUIET b) = true ∧ t.get (FLX_BIAS_TGT.CODE b) = 0 ∧ (t.fluxLine b).armed = false ∧
      (t.fluxLine b).closing = (if s.bit (FLX_CFG.CLAMPED b) then none else some s.tick) ∧
      t = { s with regs := t.regs, fluxes := t.fluxes, locks := t.locks, paths := t.paths, outs := t.outs }) ∧
    (ok → exec (.flxFilterWrite b ⟨i.val, by omega⟩ v) s = .next (s.set (FLX_EXP_A.AMP b i) (v.toNat % 2 ^ 18)) ∧
      exec (.flxFilterWrite b ⟨8 + i.val, by omega⟩ v) s =
        .next ((s.set (FLX_EXP_B.BETA b i) (v.toNat % 2 ^ 24)).setBit (FLX_EXP_B.EN b i) v.msb) ∧
      exec (.flxFilterWrite b ⟨16 + j.val, by omega⟩ v) s = .next (s.set (FLX_FIR.COEF b j) (v.toNat % 2 ^ 18)) ∧
      exec (.flxFilterWrite b 80 v) s = .next (s.setBit (FLX_CFG.PD_EN b) (v.getLsbD 3))) ∧
    (¬ok → exec (.flxFilterWrite b 80 v) s = .next (s.setBit (FLX_STAT.CFG_REJ b) true)) ∧
    (f.hold = some (u, c) → Tick.le u s.tick = true →
      exec (.deglitchRelease b) s = .next (s.setFluxLine b { f with stage := c, hold := none })) ∧
    (f.hold = some (u, c) → Tick.le u s.tick = false → exec (.deglitchRelease b) s = .next (s.setFluxLine b f))) ∧
  (∀ (s : State) (b : Fin 64) (code : BitVec 18),
    let f := s.fluxLine b
    let cur := s.getInt (FLX_BIAS_CUR.CODE b)
    let tgt := s.getInt (FLX_BIAS_TGT.CODE b)
    let step : Int := Nat.max 1 (s.get (FLX_SLEW.STEP b))
    let big := (BitVec.ofInt 18 cur).extractLsb' 12 6 ≠ (BitVec.ofInt 18 tgt).extractLsb' 12 6
    let hold := BitVec.ofNat 48 (Nat.max 1 (s.get (FLX_DGL.HOLD b)))
    let moves := s.strobeTick b = true ∧ s.twinRole ≠ 3 ∧ f.park = none ∧ f.rc = none ∧ f.closing = none ∧
      s.bit (FLX_CFG.EN b) = true ∧ f.armed = true ∧ s.bit (FLX_CFG.CLAMPED b) = false ∧ f.slewFrom = none ∧
      s.calForced (176 + b) = false ∧ cur ≠ tgt
    (s.bit (FLX_CFG.EN b) = true → f.park = none → s.bit (FLX_CFG.RC_BUSY b) = false → f.actTick ≠ some s.tick →
        s.twinRole ≠ 3 →
      ∃ t, exec (.flxBiasWrite b code) s = .next t ∧ t.get (FLX_BIAS_WR.CODE b) = code.toNat ∧
        t.get (FLX_BIAS_TGT.CODE b) = code.toNat ∧ t.fluxLine b = { f with armed := true, wrTick := some s.tick } ∧
        s.fieldsOnly t [FLX_BIAS_WR.CODE b, FLX_BIAS_TGT.CODE b, FLX_BIAS_CUR.MOVING b] ∧ s.othersSame t State.fluxLine b ∧
        t = { s with regs := t.regs, fluxes := t.fluxes }) ∧
    ((s.bit (FLX_CFG.EN b) = false ∨ f.park ≠ none ∨ s.bit (FLX_CFG.RC_BUSY b) = true) →
      exec (.flxBiasWrite b code) s = .next ((s.set (FLX_BIAS_WR.CODE b) code.toNat).setBit (FLX_STAT.CFG_REJ b) true)) ∧
    (moves → s.bit (FLX_SLEW.EN b) = false → ∃ t, exec (.biasStrobe b) s = .next t ∧
      t.getInt (FLX_BIAS_CUR.CODE b) = tgt ∧ t.bit (FLX_BIAS_CUR.MOVING b) = false ∧
      (t.fluxLine b).hold = some (s.tick + 6 + (if big then hold else 0), BitVec.ofInt 18 tgt) ∧
      s.fieldsOnly t [FLX_BIAS_CUR.CODE b, FLX_BIAS_CUR.MOVING b] ∧ s.othersSame t State.fluxLine b ∧
      t = { s with regs := t.regs, fluxes := t.fluxes }) ∧
    (moves → s.bit (FLX_SLEW.EN b) = true → ∃ t, exec (.biasStrobe b) s = .next t ∧
      t.getInt (FLX_BIAS_CUR.CODE b) = (if cur < tgt then min tgt (cur + step) else max tgt (cur - step)) ∧
      (t.fluxLine b).hold = some (s.tick + 6, BitVec.ofInt 18 (if cur < tgt then min tgt (cur + step) else max tgt (cur - step))) ∧
      t = { s with regs := t.regs, fluxes := t.fluxes }) ∧
    (s.strobeTick b = false → exec (.biasStrobe b) s = .next s))

/-- R165, R166, R168 to R170. -/
def Obligations.FluxRangeShortAndPark : Prop :=
  ∀ (s : State) (b : Fin 64) (w : Word) (u : Tick) (engaged : Bool),
    let f := s.fluxLine b
    let c := s.getInt (FLX_BIAS_CUR.CODE b)
    let free := s.pltIdle b = true ∧ (s.lockLane (64 + b)).st ≠ .run ∧ f.rc = none ∧ f.park = none ∧ f.closing = none
    let c' := if c < 0 then min 0 (c + 8192) else max 0 (c - 8192)
    (free → s.bit (FLX_CFG.CLAMPED b) = false → w.toNat / 2 ^ 20 % 4 ≠ 3 →
      ∃ t, exec (.rangeChangeRequest b w) s = .next t ∧ t.bit (FLX_CFG.RC_BUSY b) = true ∧ t.bit (FLX_RC.GO b) = true ∧
        t.get (FLX_RC.CODE b) = w.toNat % 2 ^ 18 ∧ t.get (FLX_RC.RANGE b) = w.toNat / 2 ^ 20 % 4 ∧
        t.fluxLine b = { f with rc := some (.toZero, s.tick), rcFrom := s.tick } ∧
        t = { s with regs := t.regs, fluxes := t.fluxes }) ∧
    (free → (s.bit (FLX_CFG.CLAMPED b) = true ∨ w.toNat / 2 ^ 20 % 4 = 3) →
      ∃ t, exec (.rangeChangeRequest b w) s = .next t ∧ t.bit (FLX_STAT.CFG_REJ b) = true ∧ t = { s with regs := t.regs }) ∧
    (f.rc = some (.clampClose, u) → Tick.le u s.tick = true → s.bit (FLX_CFG.EN b) = true →
      ∃ t, exec (.rangeChangeStep b) s = .next t ∧ t.get (FLX_CFG.RANGE b) = s.get (FLX_RC.RANGE b) ∧
        t.fluxLine b = { f with rc := some (.switch, u + 15000) } ∧ s.fieldsOnly t [FLX_CFG.RANGE b] ∧
        t = { s with regs := t.regs, fluxes := t.fluxes }) ∧
    (∃ t, exec (.currentLimitChange b engaged) s = .next t ∧ t.bit (FLX_STAT.SC_LIVE b) = engaged ∧
      (engaged = true → s.bit (FLX_STAT.SC_LIVE b) = false → (t.fluxLine b).limSince = some s.tick) ∧
      (engaged = false → (t.fluxLine b).limSince = none) ∧ t = { s with regs := t.regs, fluxes := t.fluxes }) ∧
    (f.limSince = some u → f.inSc = false → 64 ≤ Tick.diff u s.tick → s.bit (FLX_CFG.SC_ACT b) = false →
      ∃ t, exec (.scEpisodeStart b) s = .next t ∧ t.bit (FLX_STAT.SC b) = true ∧ t.fluxLine b = { f with inSc := true } ∧
        (s.standbyMute Src.FLX_SC = false →
          t.raised = s.raised ++ [{ src := Src.FLX_SC, tick := s.tick, slots := slot b ++ slotTick s.tick, injected := false }]) ∧
        t = { s with regs := t.regs, fluxes := t.fluxes, raised := t.raised }) ∧
    (f.limSince = some u → f.inSc = false → 64 ≤ Tick.diff u s.tick → s.bit (FLX_CFG.SC_ACT b) = true →
      ∃ t, exec (.scEpisodeStart b) s = .next t ∧ t.bit (FLX_CFG.CLAMPED b) = true ∧ t.bit (FLX_CFG.EN b) = false ∧
        t.get (FLX_BIAS_CUR.CODE b) = 0) ∧
    (f.freeSince = some u → f.inSc = true → 1500 ≤ Tick.diff u s.tick →
      exec (.scEpisodeEnd b) s = .next (s.setFluxLine b { f with inSc := false, freeSince := none })) ∧
    (f.park = some u → Tick.le u s.tick = true → c' ≠ 0 → ∃ t, exec (.parkStrobe b) s = .next t ∧
      t.getInt (FLX_BIAS_CUR.CODE b) = c' ∧ (t.fluxLine b).park = some (u + 1500) ∧
      t = { s with regs := t.regs, fluxes := t.fluxes }) ∧
    (f.park = some u → Tick.le u s.tick = true → c' = 0 → ∃ t, exec (.parkStrobe b) s = .next t ∧
      t.get (FLX_BIAS_CUR.CODE b) = 0 ∧ t.bit (FLX_CFG.CLAMPED b) = true ∧ (t.fluxLine b).park = none ∧
      t = { s with regs := t.regs, fluxes := t.fluxes, sys := t.sys })

/-- R244 to R250: rotation of converter `i` through spare 240 + `c`. -/
def Obligations.ConverterRotation : Prop :=
  ∀ (s : State) (c : Fin 30) (i : Fin 240) (v : BitVec 512) (u : Tick),
    let p := 240 + c.val
    let q := s.get (CAL_CONV.PARTNER i)
    let k := s.conv i
    (s.convState p = convSt.spareIdle → s.get (CAL_CONV.PARTNER p) = noPartner → (s.conv p).spareDue = false →
        s.bit CAL_CTRL.PAUSE = false → s.bit CAL_STAT.SELF_BUSY = false → s.longestDue p = some i →
      ∃ t, exec (.rotationStart c) s = .next t ∧ t.convState i = convSt.parallel ∧ t.get (CAL_CONV.PARTNER i) = p ∧
        t.get (CAL_CONV.PARTNER p) = i ∧ t.conv i = { k with at_ := s.tick, aligned := false, forced := false } ∧
        s.othersSame t State.conv i ∧ t = { s with regs := t.regs, convs := t.convs }) ∧
    ((s.convState i = convSt.parallel ∨ s.convState i = convSt.ret) → 1500 ≤ Tick.diff k.at_ s.tick →
      exec (.rotationAlignDone i) s = .next (s.setConv i { k with aligned := true })) ∧
    (s.convState i = convSt.parallel → k.aligned = true → s.handoverInstant i = true → 240 ≤ q → q < 270 →
      ∃ t, exec (.handover i) s = .next t ∧ t.convState i = convSt.offline ∧ t.convState q = convSt.spareActive ∧
        (t.conv i).at_ = s.tick ∧ t = { s with regs := t.regs, convs := t.convs }) ∧
    (s.convState i = convSt.offline → 270001 ≤ Tick.diff k.at_ s.tick →
      (∃ t, exec (.offlineCalDone i (some v)) s = .next t ∧ t.convState i = convSt.ret ∧ (t.conv i).delta = trimWords v ∧
        (t.conv i).lastCal = s.tick ∧ s.othersSame t State.conv i ∧ t = { s with regs := t.regs, convs := t.convs }) ∧
      (∃ t, exec (.offlineCalDone i none) s = .next t ∧ t.convState i = convSt.failed ∧ (t.conv i).delta = k.delta ∧
        (s.standbyMute Src.CAL_FAIL = false →
          t.raised = s.raised ++ [{ src := Src.CAL_FAIL, tick := s.tick, slots := slot i, injected := false }]))) ∧
    (s.convState i = convSt.ret → k.aligned = true → s.handoverInstant i = true → 240 ≤ q → q < 270 →
      ∃ t, exec (.handBack i) s = .next t ∧ t.convState i = convSt.inService ∧ t.convState q = convSt.spareIdle ∧
        t.get (CAL_CONV.PARTNER i) = noPartner ∧ t.get (CAL_CONV.PARTNER q) = noPartner ∧
        t = { s with regs := t.regs, convs := t.convs, life := t.life }) ∧
    (s.convState i = convSt.parallel → ((Nat.max 1 (s.get CAL_DEADLINE.MS) * 1500000 : Nat) : Int) ≤ Tick.diff k.at_ s.tick →
        k.aligned = false →
      exec (.calDeadlineExpiry i) s = .next (s.setConv i { k with forced := true })) ∧
    ((s.conv p).calEnd = some u → Tick.le u s.tick = true →
      ∃ t, exec (.spareCalDone c (some v)) s = .next t ∧ (t.conv p).delta = trimWords v ∧ (t.conv p).spareDue = false ∧
        (t.conv p).calEnd = none ∧ s.othersSame t State.conv p ∧ t = { s with regs := t.regs, convs := t.convs }) ∧
    (s.bit CAL_CFG.EN = true → ∃ t, exec .calDueCheck s = .next t ∧
      (s.convState i = convSt.inService → s.convDrifted i = true → t.convState i = convSt.due) ∧
      (s.convDrifted i = false → t.convState i = s.convState i ∧ t.conv i = k) ∧
      t = { s with regs := t.regs, convs := t.convs })

/-- R242, R254 to R259. -/
def Obligations.CalibrationCommands : Prop :=
  ∀ (s : State) (n : Fin 16) (step : BitVec 2) (src : Bool) (g0 g1 o0 o1 : BitVec 18) (skew : BitVec 16) (u : Tick)
    (set : List Nat) (k : Nat) (j : FuseJob) (key : BitVec 8),
    ((step = 1 ∨ step = 2) → s.bit (RDI_SCAL_STAT.BUSY n) = false → ∃ t, exec (.scalGo n step src) s = .next t ∧
      t.bit (RDI_SCAL_STAT.BUSY n) = true ∧ t.bit (RDI_SCAL_CTRL.GO n) = true ∧ t.get (RDI_SCAL_CTRL.STEP n) = step.toNat ∧
      t.bit (RDI_SCAL_CTRL.SRC n) = src ∧ t = { s with regs := t.regs, inputs := t.inputs, wide := t.wide }) ∧
    ((s.inp n).scal = some (1, src, u, false, false) → s.bit (RDI_CFG.EN n) = true → 32768 ≤ Tick.diff u s.tick →
      ∃ t, exec (.scalStepDone n false false g0 g1 o0 o1 skew) s = .next t ∧ t.get (RDI_SCAL_STAT.RESULT n) = 0 ∧
        t.bit (RDI_SCAL_STAT.BUSY n) = false ∧ t.bit (RDI_SCAL_CTRL.GO n) = false ∧ (t.inp n).zeroOk = true ∧
        t = { s with regs := t.regs, inputs := t.inputs, wide := t.wide }) ∧
    (∃ t, exec (.scalApply n) s = .next t ∧ t.rd (R.RDI_SCAL_GAIN n 0) = s.rd (R.RDI_SCAL_NEW_GAIN n 0) ∧
      t.rd (R.RDI_SCAL_GAIN n 1) = s.rd (R.RDI_SCAL_NEW_GAIN n 1) ∧ t.rd (R.RDI_SCAL_OFF n 0) = s.rd (R.RDI_SCAL_NEW_OFF n 0) ∧
      t.rd (R.RDI_SCAL_OFF n 1) = s.rd (R.RDI_SCAL_NEW_OFF n 1) ∧ t.rd (R.RDI_SCAL_SKEW n) = s.rd (R.RDI_SCAL_NEW_SKEW n) ∧
      t = { s with regs := t.regs, inputs := t.inputs, wide := t.wide }) ∧
    (s.bit CAL_STAT.SELF_BUSY = false → ∃ t l, exec .calSelf s = .next t ∧ t.selfCal = some (s.tick + 3600000, l) ∧
      (∀ i, i ∈ l ↔ i < 270 ∧ s.selfEligible i = true) ∧ t.bit CAL_STAT.SELF_BUSY = true ∧ t.bit CAL_CTRL.SELF = true ∧
      t.get CAL_STAT.SELF_SKIP = 270 - l.length ∧ t = { s with regs := t.regs, selfCal := t.selfCal }) ∧
    (s.selfCal = some (u, set) → Tick.le u s.tick = true → ∃ t, exec (.selfCalDone []) s = .next t ∧ t.selfCal = none ∧
      t.bit CAL_STAT.SELF_BUSY = false ∧ t.bit CAL_CTRL.SELF = false ∧ t = { s with regs := t.regs, selfCal := none, life := t.life }) ∧
    (s.bit TH_STAT.WARN = false → s.fuseJob = none → s.fuses.findIdx? (fun g => !g.used) = some k →
      ∃ t, exec (.fuseCommit 0xA5) s = .next t ∧ t.bit CAL_FUSE_STAT.BUSY = true ∧ t.fuseJob.map (·.slot) = some k ∧
        (t.fuse k).used = true ∧ (t.fuse k).sealed_ = false ∧ (∀ g, g ≠ k → t.fuse g = s.fuse g) ∧
        t = { s with regs := t.regs, fuses := t.fuses, fuseJob := t.fuseJob }) ∧
    (key ≠ 0xA5 → exec (.fuseCommit key) s = .next s) ∧
    (s.fuseJob = some j → j.slot < s.fuses.length → ∃ t, exec .fuseCommitDone s = .next t ∧ t.fuseJob = none ∧
      (t.fuse j.slot).sealed_ = true ∧ (t.fuse j.slot).good = true ∧ t.get CAL_FUSE_STAT.RESULT = 1 ∧
      t.bit CAL_FUSE_STAT.BUSY = false ∧ t = { s with regs := t.regs, fuses := t.fuses, fuseJob := none, convs := t.convs })

/-- R173, R176: changes of a read-out input's front end, and the read of R190 that latches its companions. -/
def Obligations.FrontEndChanges : Prop :=
  ∀ (s : State) (n k : Fin 16) (att : BitVec 6) (v : Bool) (hi : BitVec 16),
    let c := s.tick + 2
    let i := s.inp n
    let d := s.demod (16 * n.val + k.val)
    let chg : Rf := ⟨R.RDI_CHG_TICK_LO n, 0, 32⟩
    (s.get (RDI_ATT.ATT n) = att.toNat → exec (.rdiAttWrite n att) s = .next s) ∧
    (s.get (RDI_ATT.ATT n) ≠ att.toNat → ∃ t, exec (.rdiAttWrite n att) s = .next t ∧ t.get (RDI_ATT.ATT n) = att.toNat ∧
      t.inp n = { i with spans := i.spans ++ [(c, c + 23)] } ∧ t.wideVal (R.RDI_CHG_TICK_LO n) = c ∧
      s.fieldsOnly t [RDI_ATT.ATT n, chg] ∧ s.othersSame t State.inp n ∧
      t = { s with regs := t.regs, inputs := t.inputs, wide := t.wide }) ∧
    (s.bit (RDI_CFG.INJ n) = v → exec (.rdiInjWrite n v) s = .next s) ∧
    (s.bit (RDI_CFG.INJ n) ≠ v → ∃ t, exec (.rdiInjWrite n v) s = .next t ∧ t.bit (RDI_CFG.INJ n) = v ∧
      t.inp n = { i with spans := i.spans ++ [(c, c + 15)] } ∧ t.wideVal (R.RDI_CHG_TICK_LO n) = c ∧
      s.fieldsOnly t [RDI_CFG.INJ n, chg] ∧ s.othersSame t State.inp n ∧
      t = { s with regs := t.regs, inputs := t.inputs, wide := t.wide }) ∧
    (s.bit (RDI_CFG.EN n) = false → i.offs = [(none, none)] → ∃ t, exec (.rdiEnSet n) s = .next t ∧
      t.bit (RDI_CFG.EN n) = true ∧ t.inp n = { i with offs := [(none, some c)], spans := i.spans ++ [(c, c + 23)] } ∧
      s.fieldsOnly t [RDI_CFG.EN n, chg] ∧ s.othersSame t State.inp n ∧
      t = { s with regs := t.regs, inputs := t.inputs, wide := t.wide }) ∧
    (s.bit (RDI_CFG.EN n) = true → exec (.rdiEnSet n) s = .next s ∧ ∃ t, exec (.rdiEnClear n) s = .next t ∧
      t.bit (RDI_CFG.EN n) = false ∧ t.inp n = { i with offs := i.offs ++ [(some c, none)] } ∧
      s.fieldsOnly t [RDI_CFG.EN n] ∧ s.othersSame t State.inp n ∧ t = { s with regs := t.regs, inputs := t.inputs }) ∧
    (s.bit (RDI_CFG.EN n) = true →
      exec (.rdiModeWrite n v) s = .next (s.setBit (RDI_STAT.CFG_REJ n) true) ∧
      exec (.rdiLofWrite n hi) s = .next (s.setBit (RDI_STAT.CFG_REJ n) true)) ∧
    (s.bit (RDI_CFG.EN n) = false → exec (.rdiModeWrite n v) s = .next (s.setBit (RDI_CFG.MODE n) v) ∧
      ∃ t, exec (.rdiLofWrite n hi) s = .next t ∧ t.get (RDI_LOF_HI.LOF n) = hi.toNat ∧
        (t.inp n).lof = hi ++ s.rd (R.RDI_LOF_LO n) ∧ s.fieldsOnly t [RDI_LOF_HI.LOF n] ∧ s.othersSame t State.inp n ∧
        t = { s with regs := t.regs, inputs := t.inputs }) ∧
    (∃ t, exec (.demLastDecRead n k) s = .next t ∧ t.answered = some (s.rd (R.DEM_LAST_DEC n k)) ∧
      t.getInt (DEM_LAST_I.VALUE n k) = (BitVec.ofInt 18 d.lastI).toInt ∧
      t.getInt (DEM_LAST_Q.VALUE n k) = (BitVec.ofInt 18 d.lastQ).toInt ∧ t.pair (R.DEM_LAST_END_LO n k) = d.lastEnd ∧
      t = { s with regs := t.regs, answered := t.answered })

/-- R174 to R178: one tick of samples of a read-out input; R180 to R182: decimation, weights and the point. R182, R185, R186, R189, R191: what the end of a window makes. -/
def Obligations.SamplesBecomeDecisions : Prop :=
  ((∀ (s : State) (n : Fin 16) (x0 x1 x2 x3 : BitVec 18) (ovr drop : BitVec 4) (slack : Fin 33),
    ∃ t, exec (.readoutSampleIngress n x0 x1 x2 x3 ovr drop slack) s = .next t ∧ (t.inp n).pin = some (s.tick - 8) ∧
      (t.inp n).ovrRun = (!(s.inp n).offline (s.tick - 8) && (ovr &&& ~~~drop) != 0) ∧
      t.tick = s.tick ∧ t.pending = s.pending ∧ t.outs = s.outs ∧ t.locks = s.locks ∧ t.pilots = s.pilots ∧
      t.pm = s.pm ∧ t.sdram = s.sdram ∧ t.segs = s.segs ∧ t.convs = s.convs ∧ t.kerns = s.kerns) ∧
  (∀ (x y : Int), decimate (List.replicate 8 (x, y, true)) = (x, y, true)) ∧
  (∀ (xs : List (Int × Int × Bool)), (∃ p ∈ xs, p.2.2 = false) → (decimate xs).2.2 = false) ∧
  (∀ (s : State) (n : Fin 16) (w : Win) (i : Nat),
    (i < w.length → s.weight n w i =
      (((s.rd (R.WEIGHT n ((w.base + i) % 8192))).setWidth 16).toInt,
        ((s.rd (R.WEIGHT n ((w.base + i) % 8192))).extractLsb' 16 16).toInt)) ∧
    (w.length ≤ i → s.weight n w i = (0, 0))) ∧
  (∀ (acc : Int) (sh : Nat),
    let r := (acc + 2 ^ (14 + sh)) / 2 ^ (15 + sh)
    (-131072 ≤ r → r ≤ 131071 → scalePoint acc sh = (r, false)) ∧
    (r < -131072 → scalePoint acc sh = (-131072, true)) ∧ (131071 < r → scalePoint acc sh = (131071, true)))) ∧
  ((∀ (s : State) (n k : Fin 16) (w : Win) (c : Tick),
    let src := 16 * n.val + k.val
    let t := s.windowEnd src w c
    let i := scalePoint w.accI w.shift
    let q := scalePoint w.accQ w.shift
    let cls := w.classify i.1 q.1
    let st := w.status (i.2 || q.2) (cls.2 && !w.sel)
    t.get (DEM_WIN_CNT.COUNT n k) = min (s.get (DEM_WIN_CNT.COUNT n k) + 1) (2 ^ 32 - 1) ∧
    (∃ r : WinRes, t.winResults = s.winResults ++ [r] ∧ r.src = src ∧ r.o = w.o ∧ r.endTick = c - 1 ∧ r.i = i.1 ∧ r.q = q.1 ∧
      r.status = st ∧ r.state = cls.1 ∧
      (w.sel = true → t.jobsDue = s.jobsDue ++ [r] ∧ t.decMade = s.decMade)) ∧
    (w.sel = false → t.jobsDue = s.jobsDue ∧ ∃ d : Decision, t.decMade = s.decMade ++ [(d, c - 1 + 17)] ∧
      d.src = BitVec.ofNat 8 src ∧ d.remote = false ∧ d.kern = false ∧ d.state = cls.1 ∧ d.endTick = c - 1 ∧ d.status = st ∧
      d.valid = statusValid st (s.bit (RDI_CFG.OVR_INV n))) ∧
    t = { s with regs := t.regs, acqs := t.acqs, winResults := t.winResults, jobsDue := t.jobsDue, decMade := t.decMade }) ∧
  (∀ (w : Win) (sat leak ovrInv : Bool), statusValid (w.status sat leak) ovrInv =
    (!w.settling && !w.lost && !w.cut && !w.freq && !w.off && !(ovrInv && w.ovr))))

/-- R187, R188: the lines of the discriminator, the state they give, and the leakage test. -/
def Obligations.LinearDiscriminator : Prop :=
  ∀ (s : State) (n k : Fin 16) (w : Fin 4) (shot : Word) (i q : Int) (mask : BitVec 4),
    let src := 16 * n.val + k.val
    let L (j : Nat) : Int := s.getInt (DISC_A.COEF n k j) * i + s.getInt (DISC_B.COEF n k j) * q -
      (s.rd (R.DISC_T n k j)).toInt * 2 ^ 3
    let leak := s.bit (DISC_CFG.LEAK_EN n k) = true ∧ 0 ≤ L 2
    let three := leak ∧ s.bit (DISC_CFG.LEAK_STATE n k) = true
    (∀ x ∈ (s.demod src).wins, x.close.isNone = false) →
    ∃ win, ((s.openWindow src w shot).demod src).wins = (s.demod src).wins ++ [win] ∧ win.o = s.tick ∧
      ((win.classify i q).2 = true ↔ leak) ∧
      (three → (win.classify i q).1 = 3 ∧ mask.getLsbD (win.classify i q).1.toNat = mask.getLsbD 3) ∧
      (¬three → s.bit (DISC_CFG.NSTATE n k) = false → (win.classify i q).1 = if 0 ≤ L 0 then 1 else 0) ∧
      (¬three → s.bit (DISC_CFG.NSTATE n k) = true →
        (win.classify i q).1 = if L 0 < 0 then 0 else if L 1 < 0 then 1 else 2)

/-- R206, R207: the post-modifiers of the address registers. -/
def Obligations.AddressModification : Prop :=
  ∀ (a : BitVec 15) (am : BitVec 32) (m : BitVec 2), m ≠ 0 →
    let L := (am.setWidth 15).toNat
    let step : Int := if m = 1 then 1 else if m = 2 then -1 else (am.extractLsb' 16 16).toInt
    let r := postModify a am m
    (L ≠ 0 → (am.getLsbD 15 = false ∨ ∀ q, 1 ≤ q → q ≤ 14 → L ≠ 2 ^ q) →
      ∃ q, L ≤ 2 ^ q ∧ (∀ p, L ≤ 2 ^ p → q ≤ p) ∧
        let B : Nat := a.toNat - a.toNat % 2 ^ q
        (r.toNat : Int) = B + ((a.toNat : Int) - B + step) % L) ∧
    (L = 0 → r = BitVec.ofInt 15 (a.toNat + step)) ∧
    (∀ q, 1 ≤ q → q ≤ 14 → L = 2 ^ q → am.getLsbD 15 = true →
      r.toNat / 2 ^ q = a.toNat / 2 ^ q ∧
      (revBits q (r.toNat % 2 ^ q) : Int) = ((revBits q (a.toNat % 2 ^ q) : Int) +
        (if m = 2 then -(revBits q 1 : Int) else if m = 1 then revBits q 1 else revBits q (step % 2 ^ q).toNat)) % 2 ^ q ∧
      ∀ v i, i < q → (revBits q v).testBit i = v.testBit (q - 1 - i))

/-- R213, R214, R216, R218: where the engine goes after an instruction that leaves it as `k`. -/
def Obligations.KernelEngineGoesOn : Prop :=
  ∀ (s : State) (n : Fin 16) (k : Kern) (f t : BitVec 12) (c : Nat) (rest : List (BitVec 12 × BitVec 12 × Nat)),
    let e := s.kern n
    (k.reps = [] → k.slots = 0 → k.leaving = false →
      (s.kernOn n k).kern n = { k with pc := e.pc + 1, vis := e.full, lastPc := e.pc } ∧
      s.kernOn n k = { s with regs := (s.kernOn n k).regs, kerns := (s.kernOn n k).kerns } ∧
      s.fieldsOnly (s.kernOn n k) [KRN_Q_STAT.JOBS n, KRN_Q_STAT.PPS n, KRN_STAT.V n] ∧
      (s.kernOn n k).bit (KRN_STAT.V n) = k.full.v) ∧
    (k.reps = (f, e.pc, c) :: rest → 1 < c → k.slots = 0 → k.leaving = false →
      (s.kernOn n k).kern n = { k with pc := f, reps := (f, e.pc, c - 1) :: rest, vis := e.full, lastPc := e.pc }) ∧
    (k.reps = (f, e.pc, 1) :: [] → k.slots = 0 → k.leaving = false →
      (s.kernOn n k).kern n = { k with pc := e.pc + 1, reps := [], vis := e.full, lastPc := e.pc }) ∧
    (k.reps = [] → k.slots = 2 → k.leaving = false →
      (s.kernOn n k).kern n = { k with pc := e.pc + 1, slots := 1, vis := e.full, lastPc := e.pc }) ∧
    (k.reps = [] → k.slots = 1 → k.dest = some t → k.leaving = false →
      (s.kernOn n k).kern n = { k with pc := t, slots := 0, dest := none, vis := e.full, lastPc := e.pc }) ∧
    (k.reps = [] → k.slots = 1 → k.dest = some t → k.leaving = true → k.handler = 3 → k.job = none →
      (s.kernOn n k).kern n = { k with
        pc := t, slots := 0, dest := none, vis := e.full, lastPc := e.pc, handler := 0, leaving := false, job := none } ∧
      (s.kernOn n k).bit (KRN_CTRL.HREQ n) = false ∧ (s.kernOn n k).get (KRN_STAT.STATE n) = krn.run)

/-- R208, R211: the multiply instructions. -/
def Obligations.KernelMultiplies : Prop :=
  ∀ (s : State) (n : Fin 16) (w : Word), s.kernAt n w →
    let e := s.kern n
    let d := kf.d w
    let old := (e.full.ar d).toInt
    let x1 := e.vis.xr (w.extractLsb' 22 2)
    let x2 := e.vis.xr (w.extractLsb' 20 2)
    let x3 := e.vis.xr (w.extractLsb' 12 2)
    let ma := s.kernRead n (e.axr (kf.axa w))
    let mb := s.kernRead n (e.axr (kf.axb w))
    let put (k : Kern) (v : Int) : Kern := { k with
      full := { e.full.setA d (BitVec.ofInt 48 v) with v := e.full.v || decide (v < -2 ^ 47) || decide (2 ^ 47 ≤ v) } }
    let val (p : Int) : Int := if w.toNat % 4 = 0 then p else if w.toNat % 4 = 1 then old + p else old - p
    (w.toNat / 2 ^ 26 = 0x10 → w.toNat % 4 ≠ 3 →
      exec (.krnMul n false) s = .next (s.kernOn n (put e (val (x1.toInt * x2.toInt))))) ∧
    (w.toNat / 2 ^ 26 = 0x11 → w.toNat % 4 ≠ 3 →
      exec (.krnMulx n false) s = .next (s.kernOn n (put (e.bumpAx (kf.axb w) (kf.mb w)) (val (x3.toInt * mb.toInt))))) ∧
    (w.toNat / 2 ^ 26 = 0x12 → w.toNat % 4 ≠ 3 →
      exec (.krnMulm n false) s = .next (s.kernOn n (put (e.bumpTwo w) (val (ma.toInt * mb.toInt))))) ∧
    (w.toNat / 2 ^ 26 = 0x10 → w.toNat % 4 = 3 →
      exec (.krnMul n false) s = .next (s.kernFault n Src.KRN_ILLEGAL 1 e.pc))

/-- R202, R205, R209, R211, R215: data moves of the kernel engine. -/
def Obligations.KernelMemoryAndMoves : Prop :=
  ∀ (s : State) (n : Fin 16) (w : Word), s.kernAt n w →
    let e := s.kern n
    let op := w.toNat / 2 ^ 26
    let d := kf.d w
    let aa := e.axr (kf.axa w)
    let ab := e.axr (kf.axb w)
    let ra := s.kernRead n aa
    let ia := e.bumpAx (kf.axa w) (kf.ma w)
    let sh := (w.extractLsb' 6 6).toNat
    let rounded (a : BitVec 48) : Int := if sh = 0 then a.toInt else (a.toInt + 2 ^ (sh - 1)) / 2 ^ sh
    let beyond (a : BitVec 48) : Bool := decide (rounded a < -131072) || decide (131071 < rounded a)
    let nar (a : BitVec 48) : BitVec 18 :=
      if w.getLsbD 5 = true ∧ rounded a < -131072 then 0x20000
      else if w.getLsbD 5 = true ∧ 131071 < rounded a then 0x1FFFF else BitVec.ofInt 18 (rounded a)
    let vSat (a : BitVec 48) (r : KRegs) : KRegs := { r with v := r.v || (w.getLsbD 5 && beyond a) }
    let x (k : Kern) (i : BitVec 2) (v : BitVec 18) : Kern := { k with full := e.full.setX i v }
    let acc := e.vis.ar d
    let ad := w.extractLsb' 23 3
    let job := match e.job with | some j => j.res.src % 16 | none => 0
    (∀ a : BitVec 15, a.toNat < 0x6000 → s.kernRead n a = (s.rd (R.KRN_DMEM n a.toNat)).setWidth 18) ∧
    (∀ a : BitVec 15, 0x6000 ≤ a.toNat → a.toNat < 0x7000 → s.kernRead n a =
      (s.rd (R.KRN_DMEM n (a.toNat + (if s.bit (KRN_STAT.BANK n) then 0x1000 else 0)))).setWidth 18) ∧
    (∀ (a : BitVec 15) (v : BitVec 18), 0x7000 ≤ a.toNat → s.kernRead n a = 0 ∧ s.kernWrite n a v = s) ∧
    (op = 0x00 → exec (.krnNop n false) s = .next (s.kernOn n e)) ∧
    (op = 0x01 → exec (.krnLd n false) s = .next (s.kernOn n (x ia d ra))) ∧
    (op = 0x02 → exec (.krnLdd n false) s = .next (s.kernOn n
      { ia.bumpAx (kf.axb w) (kf.mb w) with full := (e.full.setX d ra).setX (kf.x2 w) (s.kernRead n ab) })) ∧
    (op = 0x03 → sh ≤ 47 → exec (.krnSt n false) s =
      .next ((s.kernWrite n aa (nar acc)).kernOn n { ia with full := vSat acc e.full })) ∧
    (op = 0x04 → sh ≤ 47 → exec (.krnStl n false) s = .next ((s.kernWrite n ab (nar acc)).kernOn n
      { ia.bumpAx (kf.axb w) (kf.mb w) with full := vSat acc (e.full.setX (kf.x2 w) ra) })) ∧
    (op = 0x03 → 47 < sh → exec (.krnSt n false) s = .next (s.kernFault n Src.KRN_ILLEGAL 1 e.pc)) ∧
    (op = 0x05 → exec (.krnStx n false) s = .next ((s.kernWrite n aa (e.vis.xr d)).kernOn n ia)) ∧
    (op = 0x06 → exec (.krnLdi n false) s = .next (s.kernOn n (x e d (w.setWidth 18)))) ∧
    (op = 0x07 → w.toNat % 16 = 4 → exec (.krnGetj n false) s = .next (s.kernOn n (x e d (e.vis.ppk.setWidth 18)))) ∧
    (op = 0x07 → 5 ≤ w.toNat % 16 → w.toNat % 16 ≤ 8 → exec (.krnGetj n false) s =
      .next (s.kernOn n (x e d (BitVec.ofNat 18 (s.get (KRN_HIN.VALUE n (w.toNat % 16 - 5))))))) ∧
    (op = 0x07 → w.toNat % 16 ≤ 3 → e.job = none → exec (.krnGetj n false) s = .next (s.kernOn n (x e d 0))) ∧
    (∀ j, op = 0x07 → w.toNat % 16 = 0 → e.job = some j →
      exec (.krnGetj n false) s = .next (s.kernOn n (x e d (BitVec.ofInt 18 j.res.i)))) ∧
    (∀ j, op = 0x07 → w.toNat % 16 = 1 → e.job = some j →
      exec (.krnGetj n false) s = .next (s.kernOn n (x e d (BitVec.ofInt 18 j.res.q)))) ∧
    (op = 0x07 → 9 ≤ w.toNat % 16 → exec (.krnGetj n false) s = .next (s.kernFault n Src.KRN_ILLEGAL 1 e.pc)) ∧
    (op = 0x08 → exec (.krnPuth n false) s =
      .next ((s.set (KRN_HOUT.VALUE n (w.toNat % 4)) (e.vis.xr d).toNat).kernOn n e)) ∧
    (op = 0x09 → exec (.krnMvxa n false) s = .next (s.kernOn n (e.setAx ad ((e.vis.xr (w.extractLsb' 21 2)).setWidth 15)))) ∧
    (op = 0x0A → sh ≤ 47 → exec (.krnMvax n false) s = .next (s.kernOn n
      { e with full := vSat (e.vis.ar (kf.a w)) (e.full.setX d (nar (e.vis.ar (kf.a w)))) })) ∧
    (op = 0x0B → exec (.krnLax n false) s = .next (s.kernOn n (e.setAx ad (w.setWidth 15)))) ∧
    (op = 0x0C → exec (.krnLaxk n false) s = .next (s.kernOn n
      (e.setAx ad (BitVec.ofNat 15 (w.toNat % 2 ^ 15 + job * 2 ^ (w.extractLsb' 15 4).toNat))))) ∧
    (op = 0x0D → exec (.krnLaml n false) s = .next (s.kernOn n
      (e.setAm ad ((e.amr ad).extractLsb' 16 16 ++ w.setWidth 16)))) ∧
    (op = 0x0E → exec (.krnLams n false) s = .next (s.kernOn n (e.setAm ad (w.setWidth 16 ++ (e.amr ad).setWidth 16))))

/-- R197, R209 to R211: accumulator arithmetic, partial points and decisions. -/
def Obligations.KernelSumsAndDecisions : Prop :=
  ∀ (s : State) (n : Fin 16) (w : Word), s.kernAt n w →
    let e := s.kern n
    let op := w.toNat / 2 ^ 26
    let d := kf.d w
    let a := (e.vis.ar (kf.a w)).toInt
    let b := (e.vis.ar (kf.b w)).toInt
    let out48 (v : Int) : Bool := decide (v < -2 ^ 47) || decide (2 ^ 47 ≤ v)
    let flags (v : Int) (r : KRegs) : KRegs :=
      { r with z := BitVec.ofInt 48 v == 0, n := (BitVec.ofInt 48 v).msb, v := e.full.v || out48 v }
    let acc (v : Int) : KRegs := e.full.setA d (BitVec.ofInt 48 v)
    let sh := (w.setWidth 7).toInt
    let p := (w.extractLsb' 18 5).toNat
    let sum := (e.full.ar d).toInt + (w.setWidth 18).toInt * 2 ^ p
    let leak : Bool := match (w.toNat / 8) % 4 with
      | 0 => false | 1 => true | 2 => !e.vis.n && !e.vis.z | _ => e.vis.n
    let state : BitVec 2 := if leak && w.getLsbD 5 then 3 else if w.getLsbD 2 then e.vis.st else w.setWidth 2
    (op = 0x14 → exec (.krnAdda n false) s = .next (s.kernOn n { e with
      full := flags (a + b * 2 ^ (w.toNat % 4)) (acc (a + b * 2 ^ (w.toNat % 4))) })) ∧
    (op = 0x15 → exec (.krnSuba n false) s = .next (s.kernOn n { e with
      full := flags (a - b * 2 ^ (w.toNat % 4)) (acc (a - b * 2 ^ (w.toNat % 4))) })) ∧
    (op = 0x16 → p ≠ 31 → exec (.krnAddi n false) s = .next (s.kernOn n { e with
      full := { acc sum with v := e.full.v || out48 sum } })) ∧
    (op = 0x16 → p = 31 → exec (.krnAddi n false) s = .next (s.kernFault n Src.KRN_ILLEGAL 1 e.pc)) ∧
    (op = 0x17 → 0 ≤ sh → sh ≤ 47 → exec (.krnSha n false) s = .next (s.kernOn n { e with
      full := flags (a * 2 ^ sh.toNat) (acc (a * 2 ^ sh.toNat)) })) ∧
    (op = 0x17 → -47 ≤ sh → sh < 0 →
      let v := (a + 2 ^ ((-sh).toNat - 1)) / 2 ^ (-sh).toNat
      exec (.krnSha n false) s = .next (s.kernOn n { e with full := flags v (acc v) })) ∧
    (op = 0x17 → (sh < -47 ∨ 47 < sh) → exec (.krnSha n false) s = .next (s.kernFault n Src.KRN_ILLEGAL 1 e.pc)) ∧
    (op = 0x18 → exec (.krnCmpa n false) s = .next (s.kernOn n { e with full := flags (a - b) e.full })) ∧
    (op = 0x19 → a < (e.vis.ar d).toInt → exec (.krnTmin n false) s = .next (s.kernOn n { e with
      full := { e.full.setA d (e.vis.ar (kf.a w)) with st := w.setWidth 2 } })) ∧
    (op = 0x19 → (e.vis.ar d).toInt ≤ a → exec (.krnTmin n false) s = .next (s.kernOn n { e with
      full := { e.full with st := if w.getLsbD 2 then 0 else e.full.st } })) ∧
    (op = 0x1A → e.fifo = [] → exec (.krnPopp n false) s = .next (s.kernOn n { e with full := { e.full with z := true, n := false } })) ∧
    (∀ i q k last rest, op = 0x1A → e.fifo = (i, q, k, last) :: rest →
      exec (.krnPopp n false) s = .next (s.kernOn n { e with
        fifo := rest, full := { (e.full.setX 2 i).setX 3 q with
          z := false, n := last, ppk := BitVec.ofNat 5 (k + (if last then 16 else 0)) } })) ∧
    (op = 0x1B → e.job = none → exec (.krnDec n false) s = .next ((s.setBit (KRN_STAT.DEC_NOJOB n) true).kernOn n e)) ∧
    (∀ j, op = 0x1B → e.job = some j → j.answered = true →
      exec (.krnDec n false) s = .next ((s.setBit (KRN_STAT.DEC_DUP n) true).kernOn n e)) ∧
    (∀ j, op = 0x1B → e.job = some j → j.answered = false → e.leaving = false → ∃ t, exec (.krnDec n false) s = .next t ∧
      (t.kern n).job = some { j with answered := true } ∧
      t.get (KRN_DEC_CNT.COUNT n) = min (s.get (KRN_DEC_CNT.COUNT n) + 1) (2 ^ 32 - 1) ∧
      (∃ dec : Decision, t.decMade = s.decMade ++ [(dec, j.entry)] ∧ dec.src = BitVec.ofNat 8 j.res.src ∧ dec.kern = true ∧
        dec.byDec = true ∧ dec.state = state ∧ dec.endTick = j.res.endTick ∧
        dec.valid = (statusValid j.res.status (s.bit (RDI_CFG.OVR_INV n)) && !w.getLsbD 6 && !j.lostPp)) ∧
      t = { s with regs := t.regs, kerns := t.kerns, decMade := t.decMade, winResults := t.winResults }) ∧
    (op = 0x1C → exec (.krnClrv n false) s = .next (s.kernOn n { e with full := { e.full with v := false } }))

/-- R217: the call stack of the kernel engine. -/
def Obligations.KernelCallStack : Prop :=
  ∀ (s : State) (n : Fin 16) (w : Word), s.kernAt n w → (s.kern n).reps = [] →
    let e := s.kern n
    let op := w.toNat / 2 ^ 26
    let stops (c : Instr) : Prop := ∃ t, exec c s = .next t ∧ t.bit (KRN_CTRL.RUN n) = false ∧
      ({ src := Src.KRN_STACK, tick := s.tick, slots := slot n ++ slot e.pc.toNat, injected := false } : FaultIn) ∈ t.raised
    (op = 0x21 → 4 ≤ e.calls.length → stops (.krnCall n false)) ∧
    (op = 0x21 → e.calls.length < 4 →
      exec (.krnCall n false) s = .next (s.kernJump n { e with calls := (e.pc + 3) :: e.calls } (some (w.setWidth 12)))) ∧
    (op = 0x22 → e.calls = [] → stops (.krnRet n false)) ∧
    (∀ a rest, op = 0x22 → e.calls = a :: rest →
      exec (.krnRet n false) s = .next (s.kernJump n { e with calls := rest } (some a)))

/-- R211, R212, R214, R216, R219, R222: control flow of the kernel engine. -/
def Obligations.KernelBranchesAndRepeats : Prop :=
  ∀ (s : State) (n : Fin 16) (w : Word), s.kernAt n w →
    let e := s.kern n
    let op := w.toNat / 2 ^ 26
    let cond := w.toNat / 2 ^ 23 % 8
    let holds : Bool := match cond with
      | 0 => true | 1 => e.vis.z | 2 => !e.vis.z | 3 => e.vis.n | 4 => !e.vis.n | 5 => !e.vis.n && !e.vis.z
      | 6 => !(!e.vis.n && !e.vis.z) | _ => e.vis.v
    let last : BitVec 12 := w.setWidth 12
    let illegal := s.kernFault n Src.KRN_ILLEGAL 1 e.pc
    let n1 := w.toNat / 2 ^ 12 % 2 ^ 12
    let cnt := (e.axr (w.extractLsb' 23 3)).toNat
    (op = 0x20 → (∀ l ∈ e.reps, e.pc.toNat + 2 ≤ l.2.1.toNat) →
      exec (.krnBr n false) s = .next (s.kernJump n e (if holds then some last else none))) ∧
    (op = 0x20 → (∃ l ∈ e.reps, l.2.1.toNat < e.pc.toNat + 2) → exec (.krnBr n false) s = .next illegal) ∧
    (op = 0x21 → e.reps ≠ [] → exec (.krnCall n false) s = .next illegal) ∧
    (op = 0x22 → e.reps ≠ [] → exec (.krnRet n false) s = .next illegal) ∧
    (op = 0x23 → e.reps = [] → e.handler ≠ 0 → exec (.krnReti n false) s =
      .next (s.kernJump n { e with
        leaving := true, full := { e.full with z := e.save.2.1, n := e.save.2.2.1, st := e.save.2.2.2 } } (some e.save.1))) ∧
    (op = 0x23 → (e.reps ≠ [] ∨ e.handler = 0) → exec (.krnReti n false) s = .next illegal) ∧
    (op = 0x24 → e.pc.toNat < last.toNat → e.reps.length < 3 → exec (.krnRep n false) s =
      .next (s.kernOn n { e with reps := (e.pc + 1, last, n1 + 1) :: e.reps })) ∧
    (op = 0x24 → last.toNat ≤ e.pc.toNat → exec (.krnRep n false) s = .next illegal) ∧
    (op = 0x24 → e.pc.toNat < last.toNat → 3 ≤ e.reps.length → exec (.krnRep n false) s =
      .next (s.kernFault n Src.KRN_STACK 2 e.pc)) ∧
    (op = 0x25 → e.pc.toNat < last.toNat → e.reps.length < 3 → cnt ≠ 0 → exec (.krnRepa n false) s =
      .next (s.kernOn n { e with reps := (e.pc + 1, last, cnt) :: e.reps })) ∧
    (op = 0x25 → e.pc.toNat < last.toNat → e.reps = [] → e.slots = 0 → e.leaving = false → cnt = 0 →
      ∃ t, exec (.krnRepa n false) s = .next t ∧
        t.kern n = { e with pc := last + 1, vis := e.full, lastPc := e.pc } ∧ t = { s with regs := t.regs, kerns := t.kerns }) ∧
    (op = 0x26 → e.reps = [] → e.slots = 0 → e.leaving = false → ∃ t, exec (.krnWaiti n false) s = .next t ∧
      t.get (KRN_STAT.STATE n) = krn.waiti ∧ t.kern n = { e with waiting := true, vis := e.full, lastPc := e.pc } ∧
      t = { s with regs := t.regs, kerns := t.kerns }) ∧
    (op = 0x26 → e.reps ≠ [] → exec (.krnWaiti n false) s = .next illegal) ∧
    exec (.krnNop n true) s = .next (s.kernFault n Src.KRN_PM_PAR 3 e.pc) ∧
    (let t := illegal;
      t.bit (KRN_CTRL.RUN n) = false ∧ t.get (KRN_STAT.CAUSE n) = 1 ∧ t.get (KRN_STAT.PC n) = e.pc.toNat ∧
      t.get (KRN_STAT.STATE n) = 0 ∧ (t.kern n).job = none ∧ (t.kern n).queue = [])

/-- R194, R195, R198, R201, R203, R204, R218, R219, R222. -/
def Obligations.KernelJobsAndControl : Prop :=
  ∀ (s : State) (n : Fin 16) (r : WinRes) (rest : List WinRes) (pt : Nat × Nat × Tick × Nat × Int × Int)
    (pts : List (Nat × Nat × Tick × Nat × Int × Int)) (j : Job) (js : List Job) (wd : Fin 36864) (v : Word),
    let e := s.kern n
    let run := s.bit (KRN_CTRL.RUN n)
    let kdue := j.entry + BitVec.ofNat 48 (max 1 (s.get (KRN_CFG.TMO n)))
    let accepts := run = true ∧ e.handler = 0 ∧ e.reps = [] ∧ e.slots = 0
    (s.jobsDue = [] → exec (.krnJobHandover n) s = .next s) ∧
    (s.jobsDue = r :: rest → r.src / 16 = n.val → Tick.le (r.endTick + 14) s.tick = true → s.partials = [] → run = true →
        e.queue.length < 32 → Store.read (fun _ => false) e.ppLost (r.src % 16) = false →
      ∃ t, exec (.krnJobHandover n) s = .next t ∧ t.jobsDue = rest ∧
        (t.kern n).queue = e.queue ++ [{
          res := r, entry := r.endTick + BitVec.ofNat 48 (14 + max 3 (s.get (KRN_CFG.LAT n))), lostPp := false, answered := false }] ∧
        t.get (KRN_Q_STAT.JOBS n) = e.queue.length + 1 ∧ t = { s with regs := t.regs, kerns := t.kerns, jobsDue := rest }) ∧
    (s.partials = pt :: pts → pt.1 = n.val → Tick.le (pt.2.2.1 + 14) s.tick = true → e.fifo.length < 512 →
      ∃ t, exec (.partialPointEntry n) s = .next t ∧ t.partials = pts ∧
        (t.kern n).fifo = e.fifo ++ [(BitVec.ofInt 18 pt.2.2.2.2.1, BitVec.ofInt 18 pt.2.2.2.2.2, pt.2.1, pt.2.2.2.1 != 0)] ∧
        t = { s with regs := t.regs, kerns := t.kerns, partials := pts }) ∧
    (s.partials = pt :: pts → pt.1 = n.val → Tick.le (pt.2.2.1 + 14) s.tick = true → 512 ≤ e.fifo.length →
      ∃ t, exec (.partialPointEntry n) s = .next t ∧ (t.kern n).fifo = e.fifo ∧
        Store.read (fun _ => false) (t.kern n).ppLost pt.2.1 = true ∧ t = { s with kerns := t.kerns, partials := pts }) ∧
    (e.job = some j → j.answered = false → Tick.le kdue s.tick = true → run = true →
      ∃ t, exec (.krnAnswerTimeout n) s = .next t ∧ (t.kern n).job = some { j with answered := true } ∧
        (∃ dec : Decision, t.decMade = s.decMade ++ [(dec, j.entry)] ∧ dec.state = 0 ∧ dec.valid = false ∧ dec.kern = true ∧
          dec.src = BitVec.ofNat 8 j.res.src ∧ dec.endTick = j.res.endTick) ∧
        t.get (KRN_NODEC_CNT.COUNT n) = min (s.get (KRN_NODEC_CNT.COUNT n) + 1) (2 ^ 32 - 1) ∧
        t.raised = s.raised ++ [{
          src := Src.KRN_NODEC, tick := s.tick, slots := slot n ++ slot (j.res.src % 16) ++ slotTick j.res.endTick, injected := false }]) ∧
    (e.job = none → e.queue = [] → exec (.krnAnswerTimeout n) s = .next s) ∧
    (run = false → ∃ t, exec (.krnRunStart n) s = .next t ∧ t.bit (KRN_CTRL.RUN n) = true ∧
      t.kern n = { Kern.init with fifo := e.fifo, ppLost := e.ppLost, lastEntry := e.lastEntry } ∧
      t.get (KRN_STAT.STATE n) = krn.run ∧ t.bit (KRN_STAT.BANK n) = s.bit (KRN_STAT.BANK n) ∧
      t = { s with regs := t.regs, kerns := t.kerns }) ∧
    (run = true → exec (.krnRunStart n) s = .next s ∧ ∃ t, exec (.krnRunStop n) s = .next t ∧
      t.bit (KRN_CTRL.RUN n) = false ∧ t.get (KRN_STAT.STATE n) = krn.stopped ∧ t.get (KRN_STAT.CAUSE n) = 0 ∧
      (t.kern n).job = none ∧ (t.kern n).queue = [] ∧
      t = { s with
        regs := t.regs, kerns := t.kerns, decMade := t.decMade, winResults := t.winResults, raised := t.raised }) ∧
    (run = false → exec (.krnRunStop n) s = .next s ∧
      ∃ t, exec (.krnSwapRequest n) s = .next t ∧ t.bit (KRN_STAT.BANK n) = !s.bit (KRN_STAT.BANK n) ∧
        t.bit (KRN_CTRL.SWAP n) = false ∧ s.regsOnly t [KRN_STAT.BANK n, KRN_CTRL.SWAP n]) ∧
    (run = true → exec (.krnSwapRequest n) s = .next (s.setBit (KRN_CTRL.SWAP n) true)) ∧
    exec (.krnHreq n) s = .next (if s.bit (KRN_CFG.HREQ_EN n) = true ∧ run = true then s.setBit (KRN_CTRL.HREQ n) true
      else s.setBit (KRN_STAT.HREJ n) true) ∧
    (run = false → wd.val < 32768 → exec (.krnHostAccess n wd (some v)) s =
      .next (s.wr (R.KRN_DMEM n wd) ((v.setWidth 18).setWidth 32)) ∧
      exec (.krnHostAccess n wd none) s = .next (s.answer (((s.rd (R.KRN_DMEM n wd)).setWidth 18).signExtend 32))) ∧
    (run = false → 32768 ≤ wd.val → exec (.krnHostAccess n wd (some v)) s =
      .next (s.wr (R.KRN_PMEM n (wd.val - 32768)) v) ∧
      exec (.krnHostAccess n wd none) s = .next (s.answer (s.rd (R.KRN_PMEM n (wd.val - 32768))))) ∧
    (run = true → (wd.val < 0x6000 ∨ 32768 ≤ wd.val) → exec (.krnHostAccess n wd (some v)) s =
      .next (s.setBit (KRN_STAT.HREJ n) true)) ∧
    (accepts → s.bit (KRN_CTRL.SWAP n) = true → s.bit (KRN_CFG.SWAP_VEC n) = true → ∃ t, exec (.krnInterruptAccept n) s = .next t ∧
      (t.kern n).pc = 0x004 ∧ (t.kern n).handler = 1 ∧ (t.kern n).save = (e.pc, e.full.z, e.full.n, e.full.st) ∧
      (t.kern n).queue = e.queue ∧ t.bit (KRN_STAT.BANK n) = !s.bit (KRN_STAT.BANK n) ∧ t.bit (KRN_CTRL.SWAP n) = false) ∧
    (accepts → s.bit (KRN_CTRL.SWAP n) = false → e.queue = j :: js → ∃ t, exec (.krnInterruptAccept n) s = .next t ∧
      t.kern n = { e with
        save := (e.pc, e.full.z, e.full.n, e.full.st), pc := 0x008, vis := e.full, waiting := false, handler := 2, job := some j,
        queue := js } ∧
      t.get (KRN_STAT.STATE n) = krn.handler ∧ t = { s with regs := t.regs, kerns := t.kerns }) ∧
    (accepts → s.bit (KRN_CTRL.SWAP n) = false → e.queue = [] → s.bit (KRN_CTRL.HREQ n) = true →
      ∃ t, exec (.krnInterruptAccept n) s = .next t ∧ (t.kern n).pc = 0x00C ∧ (t.kern n).handler = 3) ∧
    (accepts → s.bit (KRN_CTRL.SWAP n) = false → e.queue = [] → s.bit (KRN_CTRL.HREQ n) = false →
      exec (.krnInterruptAccept n) s = .next s) ∧
    ((e.handler ≠ 0 ∨ e.reps ≠ [] ∨ e.slots ≠ 0 ∨ run = false) → exec (.krnInterruptAccept n) s = .next s)

/-- R46 to R48, R190, R191, R199: entry, service and delivery of decisions. -/
def Obligations.DecisionsThroughTheCrossbar : Prop :=
  ∀ (s : State) (src : Fin 256) (d : Decision) (nominal : Tick) (rest : List (Decision × Tick)) (x : XbarItem) (xs : List XbarItem),
    let n := src.val / 16
    let k := src.val % 16
    let here (l : List XbarItem) : List XbarItem := l.filter (fun y => !y.dec.remote && y.deliver == s.tick + 3)
    (s.decMade = [] → exec (.decisionReady src) s = .next s) ∧
    (s.decMade = (d, nominal) :: rest → d.src.toNat = src.val → Tick.before nominal s.tick = false →
      ∃ t, exec (.decisionReady src) s = .next t ∧ t.decMade = rest ∧
        t.xbarWait = s.xbarWait ++ [{ dec := d, ready := s.tick, entry := nominal, deliver := 0 }] ∧
        t.get (DEM_LAST_DEC.STATE n k) = d.state.toNat ∧ t.bit (DEM_LAST_DEC.VALID n k) = d.valid ∧
        t.get (DEM_LAST_DEC.STATUS n k) = d.status.toNat ∧ (t.demod src).lastEnd = d.endTick ∧
        (d.valid = false → t.get (DEM_INVAL_CNT.COUNT n k) = min (s.get (DEM_INVAL_CNT.COUNT n k) + 1) (2 ^ 32 - 1)) ∧
        t = { s with
          regs := t.regs, demods := t.demods, gov := t.gov, govMon := t.govMon, decMade := rest, xbarWait := t.xbarWait }) ∧
    (s.xbarWait = x :: xs → x.dec.src.toNat = src.val → Tick.le (s.entryTick x.dec x.entry) s.tick = true →
      ∃ t, exec (.xbarEntry src) s = .next t ∧ t.xbarWait = xs ∧
        t.xbarQueue = s.xbarQueue ++ [{ dec := x.dec, ready := x.ready, entry := s.tick, deliver := 0 }] ∧
        t.lastEntryOf src = some s.tick ∧
        (Tick.before x.entry s.tick = true →
          t.get XBAR_LATE_CNT.COUNT = min (s.get XBAR_LATE_CNT.COUNT + 1) (2 ^ 32 - 1) ∧
          t.raised = s.raised ++ [{
            src := Src.XBAR_LATE, tick := s.tick, slots := slot src ++ slot (Tick.diff x.entry s.tick).toNat, injected := false }]) ∧
        (Tick.before x.entry s.tick = false → t.raised = s.raised ∧ t.get XBAR_LATE_CNT.COUNT = s.get XBAR_LATE_CNT.COUNT) ∧
        t = { s with
          regs := t.regs, raised := t.raised, lastEntry := t.lastEntry, xbarWait := xs, xbarQueue := t.xbarQueue }) ∧
    (s.xbarWait = x :: xs → x.dec.src.toNat = src.val → Tick.le (s.entryTick x.dec x.entry) s.tick = false →
      exec (.xbarEntry src) s = .next s) ∧
    (∀ e, d.kern = true → s.lastEntryOf d.src.toNat = some e → Tick.le (e + 4) (s.entryTick d nominal) = true) ∧
    (∃ t, exec .xbarServe s = .next t ∧ ((here s.xbarServed).length ≤ 64 → (here t.xbarServed).length ≤ 64) ∧
      (s.xbarQueue = [x] → (here s.xbarServed).length < 64 →
        t.xbarQueue = [] ∧ t.xbarServed = s.xbarServed ++ [{ x with deliver := s.tick + 3 }]) ∧
      t = { s with
        regs := t.regs, raised := t.raised, meshPorts := t.meshPorts, xbarQueue := t.xbarQueue, xbarServed := t.xbarServed }) ∧
    (∃ t, exec .decisionDelivery s = .next t ∧
      t.xbarServed = s.xbarServed.filter (fun y => !Tick.le y.deliver s.tick) ∧ t.tick = s.tick ∧ t.pending = s.pending ∧
      t.outs = s.outs ∧ t.pm = s.pm ∧ t.sdram = s.sdram ∧ t.segs = s.segs ∧ t.convs = s.convs ∧ t.kerns = s.kerns ∧
      t.xbarQueue = s.xbarQueue ∧ t.xbarWait = s.xbarWait ∧ t.decMade = s.decMade)

/-- R51, R53, R54, R56, R73: the outcomes of a branch. -/
def Obligations.BranchesResolve : Prop :=
  ∀ (s : State) (b : Fin 64) (c : Fin 2) (d : Decision) (src : BitVec 8) (dev : BitVec 12) (rem : Bool) (e : Tick)
    (mask : BitVec 4) (dflt : Bool),
    let k := s.ctx (2 * b + c)
    let p := s.pilot b
    let open_ := k.busy = true ∧ k.res = none ∧ k.outer = none ∧ s.lockstep b = false ∧ k.kept = none
    (open_ → d.from k.src k.dev k.rem = true → d.endTick = k.e → d.valid = true → Tick.le s.tick (k.tb - 2) = true →
      Tick.before (k.tb - 2) s.tick = false →
      ((s.ctxDecision d b c).ctx (2 * b + c)).res = some (k.mask.getLsbD d.state.toNat)) ∧
    (open_ → d.from k.src k.dev k.rem = true → d.endTick ≠ k.e →
      s.ctxDecision d b c = { s with regs := (s.ctxDecision d b c).regs } ∧
      (s.ctxDecision d b c).get (LOCK_BR_MISS_CNT.COUNT b) = min (s.get (LOCK_BR_MISS_CNT.COUNT b) + 1) (2 ^ 32 - 1)) ∧
    (d.from k.src k.dev k.rem = false → s.ctxDecision d b c = s) ∧
    (open_ → Tick.le (k.tb - 2) s.tick = true → ∃ t, exec (.branchDefault b c) s = .next t ∧
      (t.ctx (2 * b + c)).res = some k.dflt ∧ (t.ctx (2 * b + c)).late = true ∧ t.bit (LOCK_STAT.BR_LATE b) = true ∧
      (s.standbyMute Src.LATE_DECISION = false → ({
        src := Src.LATE_DECISION, tick := s.tick, slots := slot b ++ slot k.bid.toNat ++ slot 0xFFFF, injected := false } : FaultIn)
          ∈ t.raised)) ∧
    (Tick.le (k.tb - 2) s.tick = false → exec (.branchDefault b c) s = .next s) ∧
    (p.wait = .decision src dev rem e mask dflt none → Tick.le (p.tc - 2) s.tick = true → p.reps = [] →
        p.pc.toNat + s.plen b p.pc < 16384 →
      ∃ t, exec (.waitdDeadline b) s = .next t ∧ (t.pilot b).wait = .none ∧ (t.pilot b).d = dflt ∧
        t.owed = s.owed ++ [{ berth := b, bid := 0xFF, src := src, dev := dev, rem := rem, e := e, tb := p.tc }]) ∧
    (Tick.le (p.tc - 2) s.tick = false → exec (.waitdDeadline b) s = .next s) ∧
    (k.busy = true → k.res ≠ none → Tick.before s.tick (k.tb + 63) = false → ∃ t, exec (.contextFree b c) s = .next t ∧
      (t.ctx (2 * b + c)).busy = false ∧ (t.ctx (2 * b + c)).claimed = false ∧ (t.ctx (2 * b + c)).res = k.res ∧
      t = { s with regs := t.regs, ctxs := t.ctxs, demods := t.demods, locks := t.locks, paths := t.paths,
                   fetches := t.fetches, muteds := t.muteds }) ∧
    ((k.busy = false ∨ k.res = none ∨ Tick.before s.tick (k.tb + 63) = true) → exec (.contextFree b c) s = .next s)

/-- R238, R239: admission. The order of causes is the model's reading (log 12). -/
def Obligations.AdmissionKeepsWithinTheLimit : Prop :=
  ∀ (s : State) (n : Fin 16) (v : BitVec 8) (l : BitVec 24) (rest : List AdmReq),
    let total (x : State) : Nat := admTotal x.maxPlays x.admFigures
    let fig := s.acqFigure n
    let new := admTotal s.maxPlays (listSet s.admFigures n fig)
    let q (r : AdmReq) : Prop := s.admQueue = r :: rest
    (s.acqBusy n = false → ∃ t, exec (.acqCommit n) s = .next t ∧ t.admQueue = s.admQueue ++ [.unit n] ∧
      t.bit (ACQ_CTRL.COMMIT n) = true ∧ s.fieldsOnly t [ACQ_CTRL.COMMIT n] ∧ t = { s with regs := t.regs, admQueue := t.admQueue }) ∧
    (s.acqBusy n = true → ∃ t, exec (.acqCommit n) s = .next t ∧ t.bit (ACQ_STAT.CFG_REJ n) = true ∧ t.get ADM_REJ.CAUSE = 2 ∧
      t.get ADM_REJ.UNIT = n ∧ s.regsOnly t [ACQ_STAT.CFG_REJ n, ADM_REJ.CAUSE, ADM_REJ.UNIT]) ∧
    exec (.maxPlaysWrite v) s = .next { s with admQueue := s.admQueue ++ [.plays v.toNat] } ∧
    exec (.admLimitWrite l) s = .next { s with admQueue := s.admQueue ++ [.limit l.toNat] } ∧
    (s.admQueue = [] → exec .admissionDecide s = .next s) ∧
    (total s ≤ s.admLimit → (q (.unit n) ∨ q (.plays v.toNat) ∨ q (.limit l.toNat)) →
      ∃ t, exec .admissionDecide s = .next t ∧ t.admQueue = rest ∧ total t ≤ t.admLimit ∧
        t = { s with regs := t.regs, acqs := t.acqs, admQueue := rest, maxPlays := t.maxPlays }) ∧
    (q (.unit n) → s.acqBusy n = false → s.acqBadConfig n = false → new ≤ s.admLimit →
      ∃ t, exec .admissionDecide s = .next t ∧ t.acqState n = acqSt.ready ∧ t.get (ACQ_ADM.MBPS n) = fig ∧
        t.get ADM_STAT.TOTAL = new ∧ t.bit (ACQ_CTRL.COMMIT n) = false) ∧
    (q (.unit n) → s.acqBusy n = false → s.acqBadConfig n = false → s.admLimit < new →
      ∃ t, exec .admissionDecide s = .next t ∧ t.acqs = s.acqs ∧ t.maxPlays = s.maxPlays ∧ t.get ADM_REJ.CAUSE = 1 ∧
        t.get ADM_REJ.UNIT = n ∧ t.get ADM_REJ.EXCESS = min (new - s.admLimit) 0xFFFFFF ∧
        s.fieldsOnly t [ACQ_CTRL.COMMIT n, ADM_REJ.CAUSE, ADM_REJ.UNIT, ADM_REJ.EXCESS]) ∧
    (q (.plays v.toNat) → admTotal v.toNat s.admFigures ≤ s.admLimit → ∃ t, exec .admissionDecide s = .next t ∧
      t.maxPlays = v.toNat ∧ t.get SYN_STREAM_CFG.MAX_PLAYS = v.toNat ∧ t.get ADM_STAT.TOTAL = admTotal v.toNat s.admFigures) ∧
    (q (.plays v.toNat) → s.admLimit < admTotal v.toNat s.admFigures → ∃ t, exec .admissionDecide s = .next t ∧
      t.maxPlays = s.maxPlays ∧ t.get ADM_REJ.UNIT = 16 ∧ t.get ADM_REJ.CAUSE = 1) ∧
    (q (.limit l.toNat) → min 90000 l.toNat < total s → ∃ t, exec .admissionDecide s = .next t ∧
      t.get ADM_CFG.LIMIT = s.get ADM_CFG.LIMIT ∧ t.get ADM_REJ.CAUSE = 4 ∧ t.get ADM_REJ.UNIT = 17)

/-- R223, R225, R228 to R233: arming, triggering, firing and stopping of acquisition units. -/
def Obligations.UnitsArmAndFire : Prop :=
  ∀ (s : State) (n : Fin 16) (p : Fin 6) (w : BitVec 64) (t0 f f0 : Tick) (g : BitVec 8) (rest : List (Nat × Tick))
    (fires : List (BitVec 8 × Tick × Tick)),
    let a := s.acq n
    let st := s.acqState n
    let ready := (st = acqSt.ready ∨ st = acqSt.done) ∧ s.acqHeld = false
    let armed := st = acqSt.armed ∧ a.running = true
    let time := a.since + BitVec.ofNat 48 (s.acqGet n (TRG_TIMER.TIME n a.idx))
    let mode := s.acqGet n (TRG_TIMER.MODE n a.idx)
    (ready → s.acqBit n (ACQ_GRP.ARM_AT n) = false → s.acqBit n (ACQ_GRP.MASTER n) = false →
      exec (.acqArm n) s = .next ((s.setBit (ACQ_CTRL.ARM n) true).setAcq n { a with armAt := some (s.tick + 1) })) ∧
    (ready → s.acqBit n (ACQ_GRP.ARM_AT n) = true → Tick.before s.tick (s.pair (R.ACQ_ARM_TICK_LO n)) = true →
      s.acqBit n (ACQ_GRP.EN n) = true → s.acqBit n (ACQ_GRP.MASTER n) = true → ∃ t, exec (.acqArm n) s = .next t ∧
        (t.acq n).armAt = some (s.pair (R.ACQ_ARM_TICK_LO n)) ∧
        t.armHeld = s.armHeld ++ [(n.val, s.pair (R.ACQ_ARM_TICK_LO n))] ∧ t.raised = s.raised) ∧
    (¬ready → exec (.acqArm n) s = .next (s.setBit (ACQ_STAT.CFG_REJ n) true)) ∧
    (a.armAt = some t0 → (st = acqSt.ready ∨ st = acqSt.done) → Tick.le t0 s.tick = true →
      ∃ t, exec (.acqArmTick n) s = .next t ∧ t.acqState n = acqSt.armed ∧ (t.acq n).running = true ∧ (t.acq n).idx = 0 ∧
        (t.acq n).since = t0 ∧ t.get (ACQ_STAT.TSTATE n) = 0 ∧ t.bit (ACQ_CTRL.ARM n) = false ∧
        t = { s with regs := t.regs, acqs := t.acqs }) ∧
    (a.armAt = some t0 → Tick.le t0 s.tick = false → exec (.acqArmTick n) s = .next s) ∧
    (armed → Tick.before s.tick time = false → mode = 2 → ∃ t, exec (.trgTimerExpiry n) s = .next t ∧
      (t.acq n).idx = 0 ∧ (t.acq n).since = time ∧ (t.acq n).count = 0 ∧ t = { s with regs := t.regs, acqs := t.acqs }) ∧
    (armed → Tick.before s.tick time = true → exec (.trgTimerExpiry n) s = .next s) ∧
    (armed → s.acqGet n (TRG_COND.SRC n a.idx) = 0 → mode = 0 → s.acqGet n (TRG_COUNT.COUNT n a.idx) ≤ 1 →
      Tick.before s.tick (a.since + 1) = false → s.acqBit n (TRG_COND.LAST n a.idx) = true → s.acqBit n (ACQ_GRP.EN n) = false →
      ∃ t, exec (.alwaysCountComplete n) s = .next t ∧ t.acqState n = acqSt.fired ∧ (t.acq n).running = false ∧
        (t.acq n).fire = some (a.since + 1 + BitVec.ofNat 48 (s.acqGet n (ACQ_TRG_CFG.FIRE_DELAY n))) ∧
        t = { s with regs := t.regs, acqs := t.acqs, wide := t.wide }) ∧
    (a.fire = some f → st = acqSt.fired → Tick.le f s.tick = true → ∃ t, exec (.acqFireTick n) s = .next t ∧
      t.acqState n = acqSt.capture ∧ (t.acq n).captured = true ∧
      t.pulses = s.pulses ++ (if s.acqBit n (ACQ_TRG_CFG.FIRE_EVT n) then
        [(1000 + s.acqGet n (ACQ_TRG_CFG.FIRE_CH n), s.tick)] else []) ∧
      t = { s with regs := t.regs, acqs := t.acqs, pulses := t.pulses }) ∧
    (a.fire = some f → Tick.le f s.tick = false → exec (.acqFireTick n) s = .next s) ∧
    (s.acqBusy n = true → ∃ t, exec (.acqStop n) s = .next t ∧ t.acqState n = acqSt.done ∧ (t.acq n).running = false ∧
      (t.acq n).ending = some (s.tick, 1) ∧ t = { s with regs := t.regs, acqs := t.acqs }) ∧
    (s.acqBusy n = false → exec (.acqStop n) s = .next s) ∧
    (s.armHeld = (n.val, t0) :: rest → Tick.diff s.tick t0 ≤ 2 ^ 26 → ∃ t, exec .armFlitRelease s = .next t ∧ t.armHeld = rest ∧
      t.flitsOut = s.flitsOut ++ [(.arm (BitVec.ofNat 8 (s.acqGet n (ACQ_GRP.ID n))) t0, s.tick)]) ∧
    (s.armHeld = [] → exec .armFlitRelease s = .next s) ∧
    ((s.bit (PORT_STAT.UP p) = false ∨ flit.type w ≠ 2) → exec (.armFlitReceive p w) s = .next s) ∧
    (s.bit (PORT_STAT.UP p) = true → flit.type w = 2 → ∃ t, exec (.armFlitReceive p w) s = .next t ∧
      t = { s with
        regs := t.regs, acqs := t.acqs, raised := t.raised, meshPorts := t.meshPorts, groupSeen := t.groupSeen }) ∧
    (s.bit (PORT_STAT.UP p) = true → flit.type w = 3 → ∃ t, exec (.fireFlitReceive (some (p, w))) s = .next t ∧
      t.localFires = s.localFires ++ [(w.extractLsb' 7 8, groupTick s.tick (w.extractLsb' 34 28), s.tick + 2)] ∧ t.acqs = s.acqs) ∧
    (s.localFires = (g, f, s.tick) :: fires → ∃ t, exec (.fireFlitReceive none) s = .next t ∧ t.localFires = fires) ∧
    (st = acqSt.armed → 2 ≤ Tick.diff s.tick f → ((s.fireReceive n f).acq n).fire = some f ∧
      (s.fireReceive n f).acqState n = acqSt.fired) ∧
    (st = acqSt.armed → Tick.diff s.tick f < 2 → (s.fireReceive n f).acqState n = acqSt.done ∧
      (s.fireReceive n f).bit (ACQ_STAT.FIRE_LATE n) = true ∧ ((s.fireReceive n f).acq n).ending = some (s.tick, 2)) ∧
    (st = acqSt.fired → a.fire = some f0 → Tick.before f f0 = false → s.fireReceive n f = s) ∧
    (st = acqSt.fired → a.fire = some f0 → Tick.before f f0 = true → 2 ≤ Tick.diff s.tick f →
      ((s.fireReceive n f).acq n).fire = some f) ∧
    (st ≠ acqSt.armed → st ≠ acqSt.fired → s.fireReceive n f = s)

/-- R234 to R237, R240: records. -/
def Obligations.RecordsReachTheBuffer : Prop :=
  ∀ (s : State) (n : Fin 16) (bad : Bool) (r : WinRes) (d : Decision) (rest : List (WinRes × Decision)) (e : Tick) (cause : Nat),
    let a := s.acq n
    let base := s.acqGet n (ACQ_BUF_BASE.VALUE n) * 4096
    let size := s.acqGet n (ACQ_BUF_SIZE.VALUE n) % 2 ^ 24 * 4096
    let held := ((a.recs.filter (fun x => x.1 == base)).map (fun x => x.2.2.2)).sum
    let only (f : Rf) : Bool := s.acqBit n f
    let stateOnly := only (ACQ_CFG.RAW n) = false ∧ only (ACQ_CFG.DT n) = false ∧ only (ACQ_CFG.PT n) = false ∧
      only (ACQ_CFG.ST n) = true ∧ only (ACQ_CFG.AV n) = false
    (a.done = [] → exec (.acqRecordWrite n bad) s = .next s) ∧
    (a.done = (r, d) :: rest → r.early = true → ∃ t, exec (.acqRecordWrite n bad) s = .next t ∧ (t.acq n).done = rest ∧
      (t.acq n).notRec = a.notRec + 1 ∧ t.bit (ACQ_STAT.PERIOD n) = true ∧ t.sdram = s.sdram ∧
      t.get (ACQ_PERIOD_CNT.COUNT n) = min (s.get (ACQ_PERIOD_CNT.COUNT n) + 1) (2 ^ 32 - 1) ∧
      t.raised = s.raised ++ [{ src := Src.ACQ_PERIOD, tick := s.tick, slots := slot n, injected := false }] ∧
      t = { s with regs := t.regs, acqs := t.acqs, raised := t.raised }) ∧
    (a.done = (r, d) :: rest → r.early = false → stateOnly → held + 16 + 32 ≤ size → a.bufPos + 16 ≤ size →
      ∃ t, exec (.acqRecordWrite n bad) s = .next t ∧ (t.acq n).done = rest ∧
        (t.acq n).bufPos = (a.bufPos + 16) % size ∧ (t.acq n).recs = a.recs ++ [(base, size, a.bufPos, 16)] ∧
        t.get (ACQ_REC_CNT.COUNT n) = min (s.get (ACQ_REC_CNT.COUNT n) + 1) (2 ^ 32 - 1) ∧
        t.dramWord (base + a.bufPos) = BitVec.ofNat 64 (4 + n.val * 2 ^ 4 + r.src % 16 * 2 ^ 8 + d.state.toNat * 2 ^ 12 +
          (if d.valid then 2 ^ 14 else 0) + (if d.kern then 2 ^ 15 else 0) + r.status.toNat * 2 ^ 16 +
          (if r.slot < clampSlots (s.acqGet n (ACQ_CAP.SLOTS n)) then r.slot else 0xFF) * 2 ^ 24 + r.shot.toNat * 2 ^ 32) ∧
        t.dramWord (base + a.bufPos + 8) = BitVec.ofNat 64 (d.endTick.toNat + 2 * 2 ^ 48) ∧
        (∀ x, (x < base + a.bufPos ∨ base + a.bufPos + 16 ≤ x) → t.dramByte x = s.dramByte x) ∧
        t = { s with regs := t.regs, acqs := t.acqs, sdram := t.sdram }) ∧
    (a.done = (r, d) :: rest → r.early = false → stateOnly → size < held + 16 + 32 → a.lostRun = false →
      ∃ t, exec (.acqRecordWrite n bad) s = .next t ∧ t.sdram = s.sdram ∧ t.bit (ACQ_STAT.LOST n) = true ∧
        (t.acq n).recs = a.recs ∧ (t.acq n).lost = a.lost + 1 ∧ (t.acq n).lostRun = true ∧
        t.get (ACQ_LOST_CNT.COUNT n) = min (s.get (ACQ_LOST_CNT.COUNT n) + 1) (2 ^ 32 - 1) ∧
        t.raised = s.raised ++ [{ src := Src.ACQ_BUF_FULL, tick := s.tick, slots := slot n, injected := false }]) ∧
    (a.done = (r, d) :: rest → r.early = false → only (ACQ_CFG.RAW n) = true → s.acqGet n (ACQ_RAW.TONE n) = r.src % 16 →
      Tick.le (r.o + BitVec.ofInt 48 (BitVec.ofNat 13 (s.acqGet n (ACQ_RAW.OFF n))).toInt +
        BitVec.ofNat 48 (s.acqGet n (ACQ_RAW.RLEN n)) + 8) s.tick = false → exec (.acqRecordWrite n bad) s = .next s) ∧
    ((a.ending = none ∨ a.done ≠ []) → exec (.acqEndRecords n) s = .next s) ∧
    (a.ending = some (e, cause) → a.done = [] → ∃ t, exec (.acqEndRecords n) s = .next t ∧ (t.acq n).ending = none ∧
      t = { s with regs := t.regs, acqs := t.acqs, sdram := t.sdram, raised := t.raised }) ∧
    (∃ t, exec (.acqRecordWrite n bad) s = .next t ∧
      t = { s with regs := t.regs, acqs := t.acqs, sdram := t.sdram, raised := t.raised })

/-- R263 to R268, R283, R286 to R289: descriptor rings. -/
def Obligations.RingsMoveDescriptors : Prop :=
  ∀ (s : State) (i : Fin 64) (w : Word) (idx : BitVec 17) (x : BitVec 512) (descs : List (BitVec 512)) (b : Fin 64) (n : Fin 16)
    (u : Tick) (k seq : Nat) (c : Cmd) (ws : List (BitVec 64)),
    let r := s.ring i
    let st := s.ringSt i
    let frame (t : State) : Prop := t = { s with regs := t.regs, rings := t.rings, raised := t.raised, noticesLost := t.noticesLost }
    let size := s.ringSize i
    let halted (e : Nat) (t : State) : Prop := t.ringSt i = rst.halted ∧ t.get (RING_STAT.ERR i) = e ∧
      ({ src := Src.HIF_RING, tick := s.tick, slots := [], injected := false } : FaultIn) ∈ t.raised ∧ frame t
    let at_ := s.ringWrap i (r.cidx + r.fetched.length)
    (st ≠ rst.disabled → ringCfgFixed w ≠ ringCfgFixed (s.rd (R.RING_CFG i)) → ∃ t, exec (.ringEnable i w) s = .next t ∧
      t.bit (RING_STAT.CFG_REJ i) = true ∧ t.ringKind i = s.ringKind i ∧ t.bit (RING_CFG.EN i) = s.bit (RING_CFG.EN i) ∧
      t.get (RING_CFG.CRING i) = s.get (RING_CFG.CRING i) ∧ t.ring i = r ∧ t = { s with regs := t.regs }) ∧
    (st = rst.disabled → w.toNat % 4 = rk.completion → w.getLsbD 2 = true → ∃ t, exec (.ringEnable i w) s = .next t ∧
      t.ringSt i = rst.run ∧ t.bit (RING_CFG.EN i) = true ∧ t.ringKind i = rk.completion ∧ t.ring i = Ring.init ∧ frame t) ∧
    (st = rst.disabled → w.getLsbD 2 = false → exec (.ringEnable i w) s = .next (s.wr (R.RING_CFG i) (w &&& 0xFFFFF3))) ∧
    ((st = rst.disabled ∨ st = rst.draining) → exec (.ringDoorbell i idx) s = .next s) ∧
    (st = rst.run → s.ringKind i = rk.command → idx.toNat < 2 * size → s.ringDist i r.cidx idx.toNat ≤ size →
      ∃ t, exec (.ringDoorbell i idx) s = .next t ∧ (t.ring i).pidx = idx.toNat ∧ (t.ring i).cidx = r.cidx ∧
        (t.ring i).fetched = r.fetched ∧ t = { s with rings := t.rings }) ∧
    (st = rst.run → s.ringKind i = rk.command → 2 * size ≤ idx.toNat → ∃ t, exec (.ringDoorbell i idx) s = .next t ∧ halted 2 t) ∧
    (st = rst.run → s.ringKind i = rk.result → s.noticesLost = 0 → idx.toNat < 2 * size →
      s.ringDist i r.cidx idx.toNat ≤ s.ringDist i r.cidx r.pidx → ∃ t, exec (.ringDoorbell i idx) s = .next t ∧
        (t.ring i).cidx = idx.toNat ∧ (t.ring i).slots = r.slots.drop (s.ringDist i r.cidx idx.toNat) ∧
        (t.ring i).pidx = r.pidx ∧ t = { s with rings := t.rings }) ∧
    (8 < descs.length → exec (.descriptorFetch i descs false) s = .fault .illFormed) ∧
    (s.ringKind i = rk.command → st = rst.run → r.refetch = none → s.toFetch i ≠ 0 → s.hostUp = true →
      (descPhase (descWords x) = s.ringPhase i at_ →
        exec (.descriptorFetch i [x] false) s = .next (s.setRing i { r with fetched := r.fetched ++ [descWords x] })) ∧
      (descPhase (descWords x) ≠ s.ringPhase i at_ →
        exec (.descriptorFetch i [x] false) s = .next (s.setRing i { r with refetch := some 0 })) ∧
      (∃ t, exec (.descriptorFetch i [x] true) s = .next t ∧ halted 3 t ∧ t.bit HIF_STAT.HOST_ERR = true)) ∧
    (r.refetch = some k → st = rst.run → s.hostUp = true →
      (descPhase (descWords x) = s.ringPhase i at_ → exec (.phaseRefetch i x false) s =
        .next (s.setRing i { r with refetch := none, fetched := r.fetched ++ [descWords x] })) ∧
      (descPhase (descWords x) ≠ s.ringPhase i at_ → k < 3 →
        exec (.phaseRefetch i x false) s = .next (s.setRing i { r with refetch := some (k + 1) })) ∧
      (descPhase (descWords x) ≠ s.ringPhase i at_ → 3 ≤ k → ∃ t, exec (.phaseRefetch i x false) s = .next t ∧ halted 1 t)) ∧
    (st = rst.run → s.ringKind i = rk.result → ∃ t, exec (.ringTeardown i) s = .next t ∧ t.ringSt i = rst.disabled ∧
      t.ring i = Ring.init ∧ t.bit (RING_CFG.EN i) = false ∧ t.bit (RING_CTRL.TEARDOWN i) = false ∧
      t = { s with regs := t.regs, rings := t.rings }) ∧
    (st = rst.run → s.ringKind i = rk.completion → s.ringKind b = rk.command → s.ringSt b ≠ rst.disabled →
      s.get (RING_CFG.CRING b) = i → ∃ t, exec (.ringTeardown i) s = .next t ∧ t.bit (RING_STAT.TD_REJ i) = true ∧
        t.ringSt i = rst.run ∧ t = { s with regs := t.regs }) ∧
    (st = rst.run → s.ringKind i = rk.command → r.fetched = [] → ∃ t, exec (.ringTeardown i) s = .next t ∧
      t.ringSt i = rst.draining ∧ (t.ring i).cmds = r.cmds ∧ t = { s with regs := t.regs, rings := t.rings }) ∧
    (st = rst.draining → r.cmds = [] → ∃ t, exec (.ringDrainDone i) s = .next t ∧ t.ringSt i = rst.disabled ∧
      t.ring i = Ring.init ∧ t = { s with regs := t.regs, rings := t.rings }) ∧
    ((st ≠ rst.draining ∨ r.cmds ≠ []) → exec (.ringDrainDone i) s = .next s) ∧
    (st ≠ rst.halted → exec (.ringResume i) s = .next s) ∧
    (st = rst.halted → r.held = [] → s.noticesLost = 0 → ∃ t, exec (.ringResume i) s = .next t ∧ t.ringSt i = rst.run ∧
      t.bit (RING_CTRL.RESUME i) = false ∧ t.ring i = r ∧ t = { s with regs := t.regs, rings := t.rings }) ∧
    (r.pidx < 2 ^ 17 → r.cidx < 2 ^ 17 → ∃ t, exec (.ringStatRead i) s = .next t ∧ t.answered = some (s.rd (R.RING_STAT i)) ∧
      t.get (RING_PIDX.INDEX i) = r.pidx ∧ t.get (RING_CIDX.INDEX i) = r.cidx ∧
      t = { s with regs := t.regs, answered := t.answered }) ∧
    (r.irqDue = true → r.lastIrq = some u → ((s.get (RING_IRQ.HOLDOFF i) * 1500 : Nat) : Int) ≤ Tick.diff u s.tick →
      exec (.irqHoldoffExpiry i) s = .next (s.setRing i { r with irqDue := false, lastIrq := some s.tick })) ∧
    (r.irqDue = false → exec (.irqHoldoffExpiry i) s = .next s) ∧
    (s.ringKind i ≠ rk.result → exec (.resultDescriptorPost i n) s = .next s) ∧
    (s.ringKind i = rk.result → st = rst.run → s.ringRoom i = true → s.hostUp = true → s.acqGet n (ACQ_RES.RING n) = i →
      (s.acq n).recs = [(0, 4096, 0, 16)] → r.areas = [] → r.dataPos = 0 → 1 ≤ s.get (RING_DATA_SIZE.SIZE i) →
      ∃ t, exec (.resultDescriptorPost i n) s = .next t ∧ (t.acq n).recs = [] ∧ (t.acq n).handed = (s.acq n).handed + 1 ∧
        (t.ring i).slots.length = r.slots.length + 1 ∧ (t.ring i).areas = [16] ∧ (t.ring i).dataPos = 16 ∧
        (∃ out, t.hostWrite = some (s.addr64 (R.RING_DATA_LO i) (R.RING_DATA_HI i), out)) ∧
        t = { s with rings := t.rings, acqs := t.acqs, hostWrite := t.hostWrite }) ∧
    ((s.ledger b).batch = none → exec (.batchCompletion b) s = .next s) ∧
    ((s.ledger b).batch = some (i.val, seq) → (s.ledger b).ended = true →
      ∃ t, exec (.batchCompletion b) s = .next t ∧ (t.ledger b).batch = none ∧ s.othersSame t State.ledger b ∧
        t = { s with ledgers := t.ledgers, regs := t.regs, rings := t.rings, raised := t.raised, noticesLost := t.noticesLost }) ∧
    (let cr := s.get (RING_CFG.CRING i);
      (dw c.desc 0).getLsbD 8 = false → s.ringSt cr = rst.run → s.hostUp = true →
        ∃ t e, t = s.post i c k b seq ws ∧ (t.ring cr).slots = (s.ring cr).slots ++ [e] ∧
          (t.ring cr).reserved = (s.ring cr).reserved - 1 ∧
          e.getD 0 0 = BitVec.ofNat 64 (c.type + k * 2 ^ 8 + i * 2 ^ 16 + b * 2 ^ 24 + dfld c.desc 0 32 32 * 2 ^ 32) ∧
          e.getD 2 0 = s.tick.setWidth 64 ∧ descPhase e = s.ringPhase cr (s.ring cr).pidx)

/-- R270, R271, R273 to R277: issue and loads. -/
def Obligations.CommandsLoad : Prop :=
  ∀ (s : State) (i : Fin 64) (d : Descriptor) (rest : List Descriptor) (c : Cmd) (data : List Word),
    let r := s.ring i
    let only (ty : Nat) : Prop := r.cmds = [c] ∧ c.type = ty
    let frame (t : State) : Prop := t = { s with regs := t.regs, rings := t.rings, raised := t.raised, noticesLost := t.noticesLost }
    ((∀ j : Fin 64, s.mayIssue j = false) → exec .commandIssue s = .next s) ∧
    (s.mayIssue i = true → (∀ j : Fin 64, j ≠ i → s.mayIssue j = false) → r.fetched = d :: rest → s.rejects d = none →
      s.get (RING_CFG.CRING i) ≠ i → ∃ t e, exec .commandIssue s = .next t ∧ t.ringTurn = i ∧ t.cmdSeq = s.cmdSeq + 1 ∧
        (t.ring i).fetched = rest ∧ (t.ring i).cidx = s.ringWrap i (r.cidx + 1) ∧ (t.ring i).cmds = r.cmds ++ [e] ∧
        e.desc = d ∧ e.seq = s.cmdSeq ∧ e.index = r.cidx ∧
        (t.ring (s.get (RING_CFG.CRING i))).reserved = (s.ring (s.get (RING_CFG.CRING i))).reserved + compCount d ∧
        t = { s with rings := t.rings, ringTurn := i, cmdSeq := s.cmdSeq + 1 }) ∧
    (r.cmds = [] → exec (.hostDataAccess i data false) s = .next s) ∧
    (r.cmds = [c] → 0 < c.wants → s.hostUp = true → c.type ≠ ct.readState →
      exec (.hostDataAccess i data false) s = .next (s.putCmd i { c with buf := c.buf ++ data.take c.wants }) ∧
      ∃ t, exec (.hostDataAccess i data true) s = .next t ∧ t.bit HIF_STAT.HOST_ERR = true ∧
        ({ src := Src.HIF_HOST, tick := s.tick, slots := [], injected := false } : FaultIn) ∈ t.raised ∧ frame t) ∧
    (r.cmds = [] → exec (.loadSegment i) s = .next s ∧ exec (.loadProgram i) s = .next s ∧ exec (.loadKernel i) s = .next s ∧
      exec (.writeParam i) s = .next s ∧ exec (.streamSegment i) s = .next s ∧ exec (.streamSegmentResume i) s = .next s) ∧
    (only ct.loadProgram → dfld c.desc 3 16 15 ≤ c.detail + c.buf.length →
      dfld c.desc 3 0 14 + c.detail + c.buf.length ≤ 16384 → ∃ t, exec (.loadProgram i) s = .next t ∧
        (∀ b j, b ∈ maskBerths (dw c.desc 2) → j < c.buf.length →
          t.progWord (b * 16384 + dfld c.desc 3 0 14 + c.detail + j) = c.buf.getD j 0) ∧
        (∀ b, b < 64 → b ∉ maskBerths (dw c.desc 2) → ∀ j, j < 16384 → t.progWord (b * 16384 + j) = s.progWord (b * 16384 + j)) ∧
        (s.get (RING_CFG.CRING i) ≠ i → (t.ring i).cmds = []) ∧
        t = { s with pm := t.pm, regs := t.regs, rings := t.rings, raised := t.raised, noticesLost := t.noticesLost }) ∧
    (only ct.loadKernel → c.stage = 0 → dfld c.desc 2 4 2 = 0 → (dw c.desc 2).getLsbD 6 = false →
      dfld c.desc 3 0 15 + c.detail + c.buf.length ≤ 4096 → ∃ t, exec (.loadKernel i) s = .next t ∧
        (∀ j, j < c.buf.length →
          t.rd (R.KRN_PMEM (dfld c.desc 2 0 4) (dfld c.desc 3 0 15 + c.detail + j)) = c.buf.getD j 0) ∧ frame t) ∧
    (only ct.writeParam → (dw c.desc 2).getLsbD 21 = true → c.detail = 0 → dfld c.desc 2 0 10 + dfld c.desc 2 10 11 ≤ 1024 →
      ∃ t, exec (.writeParam i) s = .next t ∧
        (∀ b j, b ∈ maskBerths (dw c.desc 1) → j < dfld c.desc 2 10 11 → t.rd (R.PARAM b (dfld c.desc 2 0 10 + j)) =
          (dw c.desc (3 + j / 2)).extractLsb' (32 * (j % 2)) 32) ∧ frame t) ∧
    (only ct.loadSegment → dfld c.desc 2 36 2 = 0 → dfld c.desc 3 0 32 ≤ c.detail + 8 * (c.buf.length / 9) →
      (dw c.desc 3).getLsbD 32 = true → ∃ t, exec (.loadSegment i) s = .next t ∧ t.sdram = s.sdram ∧
        t.seg (dfld c.desc 3 33 17) = dw c.desc 5 ++ dw c.desc 4 ∧
        t = { s with segs := t.segs, regs := t.regs, rings := t.rings, raised := t.raised, noticesLost := t.noticesLost }) ∧
    (only ct.loadSegment → dfld c.desc 2 36 2 = 1 → ∃ t, exec (.loadSegment i) s = .next t ∧
      ((dw c.desc 3).getLsbD 32 = false → t.segs = s.segs) ∧
      t = { s with
        sdram := t.sdram, segs := t.segs, regs := t.regs, rings := t.rings, raised := t.raised, noticesLost := t.noticesLost }) ∧
    (only ct.streamSegment → c.stage = 0 → exec (.streamSegment i) s = .next s ∧
      ((dfld c.desc 3 0 32 : Int) ≤ s.sbufFree (dfld c.desc 2 0 6) →
        exec (.streamSegmentResume i) s = .next (s.putCmd i { c with stage := 1 })) ∧
      (s.sbufFree (dfld c.desc 2 0 6) < (dfld c.desc 3 0 32 : Int) → exec (.streamSegmentResume i) s = .next s)) ∧
    (only ct.streamSegment → c.stage ≠ 0 →
      dfld c.desc 3 0 32 ≤ c.detail + 8 * (c.buf.length / 9) + c.marks.getD 0 0 → ∃ t, exec (.streamSegment i) s = .next t ∧
        t.sbufCnt (dfld c.desc 2 0 6) =
          ((s.sbufCnt (dfld c.desc 2 0 6)).1 + dfld c.desc 3 0 32, (s.sbufCnt (dfld c.desc 2 0 6)).2) ∧
        t = { s with sdram := t.sdram, sbufs := t.sbufs, regs := t.regs, rings := t.rings, raised := t.raised,
                     noticesLost := t.noticesLost })

/-- R278 to R282, R284: batches, stops, reads, fences and calibration requests. -/
def Obligations.CommandsStartStopAndRead : Prop :=
  ∀ (s : State) (i : Fin 64) (c : Cmd) (b : Fin 64),
    let r := s.ring i
    let only (ty : Nat) : Prop := r.cmds = [c] ∧ c.type = ty
    let left (bs : List Nat) : Prop := maskBerths c.left = bs
    let cal (k : Nat) : Prop := only ct.calRequest ∧ dfld c.desc 2 0 2 = k ∧ c.stage = 0
    let next (x : Instr) (t : State) : Prop := exec x s = .next t
    (r.cmds = [] → next (.startBatch i) s ∧ next (.startBatchAccept i none) s ∧ next (.stop i) s ∧ next (.readStateRegs i) s ∧
      next (.readStateLedger i) s ∧ next (.fence i) s ∧ next (.fenceComplete i) s ∧ next (.calRequestSelf i) s ∧
      next (.calRequestScal i) s ∧ next (.calRequestDue i) s ∧ next (.calRequestCommit i) s) ∧
    (only ct.startBatch → c.stage = 0 → left [b.val] → s.startWaits b = true → next (.startBatch i) s) ∧
    (only ct.startBatch → c.stage = 0 → left [b.val] → s.startWaits b = false → s.berthBusy b = true →
      next (.startBatch i) (s.finish i c cs.busy 0)) ∧
    (only ct.startBatch → c.stage = 0 → left [b.val] → s.startWaits b = false → s.berthBusy b = false →
      s.get PWR_STAT.STATE = 0 → next (.startBatch i) (s.putCmd i { c with stage := 1 })) ∧
    (only ct.startBatch → c.stage = 1 → left [b.val] → s.pltIdle b = true → s.startWaits b = false → s.berthBusy b = false →
      (dw c.desc 2).getLsbD 48 = true → s.twinRole = 0 → ∃ t, next (.startBatchAccept i none) t ∧
        (t.pilot b).start = some (s.tick + 256, (dw c.desc 3).setWidth 14, (dw c.desc 4).setWidth 32, (dw c.desc 4).extractLsb' 32 32) ∧
        (t.ledger b).batch = some (i.val, c.seq) ∧ s.othersSame t State.pilot b ∧ s.othersSame t State.ledger b ∧
        (t.ring i).cmds = [{ c with stage := 2 }] ∧ t = { s with pilots := t.pilots, ledgers := t.ledgers, rings := t.rings }) ∧
    (only ct.startBatch → c.stage = 1 → left [b.val] → s.pltIdle b = true → s.startWaits b = false → s.berthBusy b = false →
      (dw c.desc 2).getLsbD 48 = false → Tick.diff s.tick ((dw c.desc 2).setWidth 48) < 256 →
      next (.startBatchAccept i none) (s.finish i c cs.startLate 0)) ∧
    (only ct.startBatch → c.stage = 1 → left [b.val] → s.pltIdle b = false → next (.startBatchAccept i none) s) ∧
    (only ct.stop → c.stage = 0 → dw c.desc 1 = 1#64 <<< b.val → dw c.desc 2 = 0 → s.berthBusy b = true → ∃ t, next (.stop i) t ∧
      t.bit (PLT_CTRL.STOP b) = true ∧ (t.ring i).cmds = [{ c with stage := 1, marks := [b.val], detail := 1 }] ∧
      s.fieldsOnly t [PLT_CTRL.STOP b] ∧ t = { s with regs := t.regs, rings := t.rings }) ∧
    (only ct.stop → c.stage = 1 → c.marks = [b.val] → dw c.desc 2 = 0 → s.bit (PLT_CTRL.STOP b) = false →
      s.bit (PLT_CTRL.STOP_BND b) = false → next (.stop i) (s.finish i c cs.ok c.detail)) ∧
    (only ct.readState → c.stage = 0 → (dw c.desc 2).getLsbD 0 = true → dw c.desc 3 = 1#64 <<< b.val →
      ∃ t ws, next (.readStateLedger i) t ∧ t.hostWrite = some (dw c.desc 1, ws) ∧ ws.length = 8 ∧
        (t.ring i).cmds = [{ c with stage := 1, detail := 8, marks := [cs.ok] }] ∧
        t = { s with rings := t.rings, hostWrite := t.hostWrite }) ∧
    (only ct.readState → c.stage = 0 → (dw c.desc 2).getLsbD 0 = false → dfld c.desc 3 32 11 = 1 →
      s.regDown (dfld c.desc 3 0 26) = false → ∃ t w, next (.readStateRegs i) t ∧ t.hostWrite = some (dw c.desc 1, [w]) ∧
        (t.ring i).cmds = [{ c with stage := 1, detail := 1, marks := [cs.ok] }] ∧ t.pilots = s.pilots ∧ t.outs = s.outs) ∧
    (only ct.fence → next (.fence i) (s.putCmd i { c with stage := 1 })) ∧
    (only ct.fence → c.stage = 1 → dw c.desc 1 = 0 → (dw c.desc 2).getLsbD 0 = false →
      next (.fenceComplete i) (s.finish i c cs.ok 0)) ∧
    (only ct.fence → c.stage = 0 → next (.fenceComplete i) s) ∧
    (cal 0 → s.bit CAL_STAT.SELF_BUSY = true → next (.calRequestSelf i) (s.finish i c cs.refused 0)) ∧
    (cal 0 → s.bit CAL_STAT.SELF_BUSY = false → next (.calRequestSelf i) (s.selfStart.putCmd i { c with stage := 1 })) ∧
    (cal 1 → s.bit (RDI_SCAL_STAT.BUSY (dfld c.desc 2 4 4)) = true → next (.calRequestScal i)
      (s.finish i c cs.refused (s.get (RDI_SCAL_STAT.RESULT (dfld c.desc 2 4 4))))) ∧
    (cal 1 → s.bit (RDI_SCAL_STAT.BUSY (dfld c.desc 2 4 4)) = false → next (.calRequestScal i)
      ((s.scalStart (dfld c.desc 2 4 4) (dfld c.desc 2 8 2) ((dw c.desc 2).getLsbD 10)).putCmd i { c with stage := 1 })) ∧
    (cal 2 → s.convState (dfld c.desc 2 16 9) = convSt.failed → next (.calRequestDue i) (s.finish i c cs.refused 0)) ∧
    (cal 2 → s.convState (dfld c.desc 2 16 9) = convSt.inService → s.get (CAL_CONV.PARTNER (dfld c.desc 2 16 9)) = noPartner →
      next (.calRequestDue i) ((s.makeDue (dfld c.desc 2 16 9)).putCmd i { c with stage := 1 })) ∧
    (cal 3 → dfld c.desc 2 32 8 ≠ 0xA5 → next (.calRequestCommit i) (s.finish i c cs.refused (s.get CAL_FUSE_STAT.RESULT))) ∧
    (only ct.calRequest → dfld c.desc 2 0 2 = 3 → c.stage = 1 → s.fuseJob = none → next (.calRequestCommit i)
      (s.finish i c (if s.get CAL_FUSE_STAT.RESULT = 1 then cs.ok else cs.refused) (s.get CAL_FUSE_STAT.RESULT)))

/-- R294 to R300, R305 to R308: a lane's states and settings. -/
def Obligations.LanesTrainAndLoseLock : Prop :=
  ∀ (s : State) (l : Fin 32) (tx rx inv gained : Bool) (v : BitVec 3) (g : BitVec 2) (w : BitVec 16) (e : BitVec 6) (bad errs : Word)
    (blk : BitVec 64) (behind type : BitVec 8),
    let st := s.laneSt l
    let k := s.lane l
    let goesTo (c : Instr) (x : Nat) : Prop := ∃ t, exec c s = .next t ∧ t.laneSt l = x
    let txeq := s.set ⟨R.LANE_TXEQ l, 0, 16⟩ w.toNat
    let span := 256 + (2 ^ (s.get (LANE_EYE_CTRL.DWELL l) + 16) + 19) / 20
    (st = ln.off → s.laneAwake l = true → s.get (LANE_CTRL.LOOP l) = 0 → ∃ t, exec (.laneEnableWrite l true true) s = .next t ∧
      t.laneSt l = ln.cdr ∧ t.bit (LANE_PARTNER.VALID l) = false ∧ (t.lane l).noUp = some s.tick) ∧
    (st = ln.off → (tx && rx) = false → exec (.laneEnableWrite l tx rx) s =
      .next ((s.setBit (LANE_CTRL.TX_EN l) tx).setBit (LANE_CTRL.RX_EN l) rx)) ∧
    (st ≠ ln.off → (tx && rx) = false → goesTo (.laneEnableWrite l tx rx) ln.off) ∧
    (st = ln.off → exec (.laneRestart l) s = .next (s.setBit (LANE_CTRL.RESTART l) true)) ∧
    (st ≠ ln.off → s.get (LANE_CTRL.LOOP l) = 0 → goesTo (.laneRestart l) ln.cdr) ∧
    (st = ln.off → exec (.laneLoopWrite l v) s = .next (s.set (LANE_CTRL.LOOP l) v.toNat)) ∧
    (st ≠ ln.off → 1 ≤ v.toNat → v.toNat ≤ 3 → goesTo (.laneLoopWrite l v) ln.loopback) ∧
    (st = ln.loopback → v = 0 → goesTo (.laneLoopWrite l v) ln.cdr) ∧
    ((g = 1 ∨ g = 2) → st ≠ ln.loopback → st ≠ ln.cdr →
      exec (.prbsGenWrite l g) s = .next (s.setBit (LANE_STAT.CFG_REJ l) true) ∧
      exec (.prbsChkWrite l g) s = .next (s.setBit (LANE_STAT.CFG_REJ l) true)) ∧
    (st = ln.loopback → s.get (LANE_CTRL.PRBS_CHK l) = 0 →
      exec (.prbsGenWrite l g) s = .next (s.set (LANE_CTRL.PRBS_GEN l) g.toNat) ∧
      exec (.prbsChkWrite l g) s = .next (s.set (LANE_CTRL.PRBS_CHK l) g.toNat)) ∧
    (∃ t, exec (.txeqWrite l w) s = .next t ∧ t.regs = txeq.regs ∧
      ((t.lane l).txeq.extractLsb' 4 6).toNat = max 32 (w.extractLsb' 4 6).toNat ∧
      ((t.lane l).txeq.extractLsb' 10 6).toNat = min 31 (w.extractLsb' 10 6).toNat ∧ t = { s with regs := t.regs, lanes := t.lanes }) ∧
    exec (.rxeqWrite l e) s = .next (s.set ⟨R.LANE_RXEQ l, 0, 6⟩ e.toNat) ∧
    (st = ln.cdr → goesTo (.cdrLock l) ln.hunt) ∧ (st ≠ ln.cdr → exec (.cdrLock l) s = .next s) ∧
    (st = ln.hunt → ∃ t, exec (.blockLock l inv) s = .next t ∧ t.laneSt l = ln.locked ∧ t.bit (LANE_STAT.BLOCK_LOCK l) = true ∧
      t.bit (LANE_STAT.INV l) = inv ∧ (t.lane l).noLock = none ∧ t = { s with regs := t.regs, lanes := t.lanes }) ∧
    (st ≠ ln.hunt → exec (.blockLock l inv) s = .next s) ∧
    ((st = ln.locked ∨ st = ln.up) → 16 ≤ bad.toNat → ∃ t, exec (.blockLockLoss l bad) s = .next t ∧ t.laneSt l = ln.hunt ∧
      t.get (LANE_LOCK_LOSS_CNT.COUNT l) = min (s.get (LANE_LOCK_LOSS_CNT.COUNT l) + 1) (2 ^ 32 - 1) ∧
      t.get (LANE_HDR_ERR_CNT.COUNT l) = min (s.get (LANE_HDR_ERR_CNT.COUNT l) + bad.toNat) (2 ^ 32 - 1) ∧
      t.bit (PORT_STAT.UP (l / 4)) = false) ∧
    ((st = ln.locked ∨ st = ln.up) → bad.toNat < 16 → ∃ t, exec (.blockLockLoss l bad) s = .next t ∧ t.laneSt l = st ∧
      t = { s with regs := t.regs, life := t.life }) ∧
    (st = ln.locked → blk.extractLsb' 0 8 = 0x33 → blk.getLsbD 25 = true → ∃ t, exec (.aliveReceive l blk behind) s = .next t ∧
      t.laneSt l = ln.up ∧ t.get (LANE_PARTNER.DEV l) = (blk.extractLsb' 8 12).toNat ∧
      t.get (LANE_PARTNER.PORT l) = (blk.extractLsb' 20 3).toNat ∧ t.get (LANE_PARTNER.LANE l) = (blk.extractLsb' 23 2).toNat ∧
      t.bit (LANE_PARTNER.VALID l) = true) ∧
    (st ≠ ln.locked → st ≠ ln.up → exec (.aliveReceive l blk behind) s = .next s) ∧
    (st = ln.locked → ∃ t, exec (.aliveSend l) s = .next t ∧ (t.lane l).seq = k.seq + 1 ∧
      (t.lane l).sent.extractLsb' 0 8 = 0x33 ∧ (t.lane l).sent.getLsbD 25 = s.laneSeen l ∧ s.fieldsOnly t [LANE_STAT.SEEN l] ∧
      t = { s with regs := t.regs, lanes := t.lanes }) ∧
    (st = ln.off → exec (.aliveSend l) s = .next s) ∧
    (st = ln.up → s.since k.lastAlive 27034 = true → ∃ t, exec (.aliveTimeout l) s = .next t ∧ t.laneSt l = ln.locked ∧
      t.bit (PORT_STAT.UP (l / 4)) = false) ∧
    (s.since k.lastAlive 27034 = false → exec (.aliveTimeout l) s = .next s) ∧
    ((st = ln.cdr ∨ st = ln.hunt ∨ st = ln.locked) → s.since k.noUp 150000000 = true → k.absentTold = false →
      ∃ t, exec (.partnerAbsentEntry l) s = .next t ∧ t.laneSt l = ln.absent ∧ t.bit (LANE_STAT.ABSENT l) = true ∧
        ({ src := Src.LANE_ABSENT, tick := s.tick, slots := slot l, injected := false } : FaultIn) ∈ t.raised) ∧
    (s.since k.noUp 150000000 = false → exec (.partnerAbsentEntry l) s = .next s) ∧
    (st = ln.absent → s.since k.lastRetry 15000000 = true → goesTo (.partnerRetry l true) ln.locked ∧
      exec (.partnerRetry l false) s = .next (s.setLane l { k with lastRetry := k.lastRetry.map (· + 15000000) })) ∧
    ((st ≠ ln.absent ∨ s.since k.lastRetry 15000000 = false) → exec (.partnerRetry l gained) s = .next s) ∧
    ((st = ln.cdr ∨ st = ln.hunt ∨ st = ln.absent) → s.since k.noLock 15000000 = true → k.lostTold = false →
      exec (.laneLossTimeout l) s = .next
        (((s.setLane l { k with lostTold := true }).setBit (LANE_STAT.LOST l) true).raise Src.LANE_LOST (slot l))) ∧
    (k.lostTold = true → exec (.laneLossTimeout l) s = .next s) ∧
    ((st = ln.locked ∨ st = ln.up) → type.toNat ∉ [0x0F, 0x33, 0x3C, 0x55, 0x5A] →
      exec (.controlBlockReceive l type) s = .next (s.bump (LANE_BLK_ERR_CNT.COUNT l))) ∧
    (type.toNat ∈ [0x0F, 0x33, 0x3C, 0x55, 0x5A] → exec (.controlBlockReceive l type) s = .next s) ∧
    (errs.getLsbD 31 = true → k.eye = none → st ≠ ln.off → st ≠ ln.eidle → ∃ t, exec (.eyeScanGo l errs) s = .next t ∧
      (t.lane l).eye = some s.tick ∧ t.bit (LANE_EYE_CTRL.GO l) = true ∧ t.bit (LANE_EYE_STAT.DONE l) = false ∧
      t.get (LANE_EYE_CTRL.DWELL l) = errs.toNat / 2 ^ 16 % 16 ∧ t = { s with regs := t.regs, lanes := t.lanes }) ∧
    (s.since k.eye span = true → ∃ t, exec (.eyeScanDone l errs) s = .next t ∧ t.rd (R.LANE_EYE_ERR l) = errs ∧
      t.bit (LANE_EYE_STAT.DONE l) = true ∧ t.bit (LANE_EYE_CTRL.GO l) = false ∧ (t.lane l).eye = none ∧
      t = { s with regs := t.regs, lanes := t.lanes }) ∧
    (s.since k.eye span = false → exec (.eyeScanDone l errs) s = .next s)

/-- R303, R304: electrical idle. -/
def Obligations.LanesIdle : Prop :=
  ∀ (s : State) (l : Fin 32) (p : Fin 8),
    let st := s.laneSt l
    let k := s.lane l
    let goesTo (c : Instr) (x : Nat) : Prop := ∃ t, exec c s = .next t ∧ t.laneSt l = x
    (l.val % 4 = 0 → exec (.eidleRequest l) s = .next (s.setBit (LANE_CTRL.EIDLE l) true)) ∧
    (l.val % 4 ≠ 0 → exec (.eidleRequest l) s = .next s) ∧
    (s.bit (LANE_CTRL.EIDLE (4 * p)) = true → s.bit (PORT_STAT.UP p) = true → s.portEmpty p = true →
      ∃ t, exec (.eidleEntrySend p) s = .next t ∧ (∀ w, w < 4 → t.laneSt (4 * p + w) = ln.eidle) ∧
        t.bit (PORT_STAT.UP p) = false ∧ t.bit (PORT_STAT.EIDLE p) = true) ∧
    ((s.bit (PORT_STAT.UP p) = false ∨ s.portEmpty p = false) → exec (.eidleEntrySend p) s = .next s) ∧
    (st = ln.up → goesTo (.eidleEnterReceive l) ln.eidle) ∧
    (st = ln.eidle → exec (.eidleEnterReceive l) s = .next (s.setLane l { k with keepSeen := some s.tick })) ∧
    (st ≠ ln.up → st ≠ ln.eidle → exec (.eidleEnterReceive l) s = .next s) ∧
    (st = ln.eidle → s.since k.keepSent 1500000 = true →
      exec (.keepaliveSend l) s = .next (s.setLane l { k with keepSent := k.keepSent.map (· + 1500000) })) ∧
    (s.since k.keepSent 1500000 = false → exec (.keepaliveSend l) s = .next s) ∧
    (st = ln.eidle → s.since k.keepSeen 6000000 = true → goesTo (.keepaliveTimeout l) ln.hunt) ∧
    (s.since k.keepSeen 6000000 = false → exec (.keepaliveTimeout l) s = .next s) ∧
    (l.val / 4 = p.val → st = ln.eidle → goesTo (.partnerExit p) ln.exit ∧
      ∃ t, exec (.eidleExitRequest p true) s = .next t ∧ t.laneSt l = ln.exit ∧ (t.lane l).exit = some s.tick ∧
        t.bit (LANE_CTRL.EIDLE (4 * p)) = false) ∧
    (l.val / 4 = p.val → st ≠ ln.eidle → goesTo (.partnerExit p) st) ∧
    (st = ln.exit → s.since k.exit 192 = true → goesTo (.eidleExitComplete l true) ln.up ∧ goesTo (.eidleExitComplete l false) ln.hunt) ∧
    ((st ≠ ln.exit ∨ s.since k.exit 192 = false) → exec (.eidleExitComplete l true) s = .next s)

/-- R310 to R317, R323: flits on a mesh port. -/
def Obligations.MeshCarriesFlits : Prop :=
  ∀ (s : State) (p o : Fin 6) (w : BitVec 64) (f : Flit) (rest : List Flit) (ra : Bool) (u : Tick),
    let q := s.meshPort p
    let carries : Prop := s.bit (PORT_STAT.UP p) = true ∧ (s.meshUse p = true ∨ (s.get MESH_STAT.HOLD).testBit p = true)
    let onTime : Prop := (s.tick - 26).toNat % 8 = (w.extractLsb' 4 3).toNat
    (s.flitsOut = [] → s.meshCarries p = true → q.queue = f :: rest → Tick.before f.joined s.tick = true →
      (∀ x, q.lastSent = some x → x.1 ≠ s.tick) → ∃ t, exec (.flitSend p) s = .next t ∧
        t.meshPort p = { q with queue := rest, lastSent := some (s.tick, putBits f.word 4 3 (s.tick.toNat % 8)) } ∧
        s.othersSame t State.meshPort p ∧ s.fieldsOnly t [MESH_PQ.OCC p, MESH_PQ.MAX p] ∧
        t = { s with regs := t.regs, meshPorts := t.meshPorts }) ∧
    (s.flitsOut = [] → (s.meshCarries p = false ∨ q.queue = []) → exec (.flitSend p) s = .next s) ∧
    (¬carries → exec (.decisionFlitReceive p w) s = .next s) ∧
    (carries → (flit.type w = 0 ∨ 8 ≤ flit.type w) →
      exec (.decisionFlitReceive p w) s = .next (s.bump MESH_BAD_CNT.COUNT)) ∧
    (carries → flit.type w = 1 → onTime → flit.dst w = s.meshAddr → ∃ t x, exec (.decisionFlitReceive p w) s = .next t ∧
      t = { s with xbarServed := s.xbarServed ++ [x] } ∧ x.deliver = s.tick + 3 ∧ x.dec.dev = w.extractLsb' 25 12 ∧
      x.dec.remote = true ∧ x.dec.src = w.extractLsb' 37 8 ∧ x.dec.state = w.extractLsb' 45 2 ∧ x.dec.valid = w.getLsbD 47 ∧
      x.dec.kern = w.getLsbD 49 ∧ x.dec.endTick.toNat % 2 ^ 14 = (w.extractLsb' 50 14).toNat ∧
      (x.deliver - x.dec.endTick).toNat < 2 ^ 14) ∧
    (carries → flit.type w = 1 → ¬onTime → flit.dst w = s.meshAddr → q.lateTold = false → ∃ t,
      exec (.decisionFlitReceive p w) s = .next t ∧
      t.get (MESH_PLATE_CNT.COUNT p) = min (s.get (MESH_PLATE_CNT.COUNT p) + 1) (2 ^ 32 - 1) ∧
      ({ src := Src.MESH_HOP_LATE, tick := s.tick, slots := [], injected := false } : FaultIn) ∈ t.raised ∧
      t.xbarServed.length = s.xbarServed.length + 1 ∧ (t.meshPort p).lateTold = true) ∧
    (carries → flit.type w = 1 → onTime → flit.dst w ≠ s.meshAddr → flit.ttl w ≤ 1 →
      exec (.decisionFlitReceive p w) s = .next ((s.bump MESH_UNREACH_CNT.COUNT).raise Src.MESH_UNREACH [])) ∧
    (carries → flit.type w = 1 → onTime → flit.dst w ≠ s.meshAddr → 2 ≤ flit.ttl w →
      s.meshRoute (flit.dst w) (flit.ra w) (some p) = some (o.val, ra) → (s.meshPort o).queue.length < 64 →
      ∃ t x, exec (.decisionFlitReceive p w) s = .next t ∧ x ∈ (t.meshPort o).queue ∧
        (t.meshPort o).queue.length = (s.meshPort o).queue.length + 1 ∧ x.joined = s.tick ∧ x.origin = p.val ∧
        flit.type x.word = 1 ∧ flit.dst x.word = flit.dst w ∧ flit.ttl x.word = flit.ttl w - 1 ∧ flit.ra x.word = ra ∧
        s.othersSame t State.meshPort o ∧ s.fieldsOnly t [MESH_PQ.OCC o, MESH_PQ.MAX o] ∧
        t = { s with regs := t.regs, meshPorts := t.meshPorts }) ∧
    (q.holdFrom = some u → ((Nat.max 1 (s.get MESH_HOLD.US) * 1500 : Nat) : Int) ≤ Tick.diff u s.tick → ∃ t,
      exec (.portHoldExpiry p) s = .next t ∧ t.meshUse p = true ∧ (t.get MESH_STAT.HOLD).testBit p = false ∧
      (∀ j, j ≠ p.val → t.meshUse j = s.meshUse j) ∧ t.meshPort p = { q with holdFrom := none } ∧
      s.othersSame t State.meshPort p ∧ s.fieldsOnly t [MESH_STAT.USE, MESH_STAT.HOLD] ∧
      t = { s with regs := t.regs, meshPorts := t.meshPorts }) ∧
    (q.holdFrom = none → exec (.portHoldExpiry p) s = .next s)

/-- R320, R359: remote mailbox messages. -/
def Obligations.MailboxMessagesTravel : Prop :=
  ∀ (s : State) (p o : Fin 6) (n : Fin 3) (m : MeshMsg) (rest : List MeshMsg) (w : BitVec 64) (data : List Word) (ok ra : Bool),
    let q := s.meshPort p
    let up := s.bit (PORT_STAT.UP p)
    let b := (w.extractLsb' 37 5).toNat
    let whole : Prop := up = true ∧ flit.type w = 4 ∧ data.length = (w.extractLsb' 42 4).toNat + 1
    (q.msgs = m :: rest → s.meshCarries p = true → q.credits ≠ 0 → ∃ t, exec (.mailboxMessageSend p) s = .next t ∧
      (t.meshPort p).msgs = rest ∧ (t.meshPort p).credits = q.credits - 1 ∧ (t.meshPort p).sentMsg = some m ∧
      (∀ c, m.source = some c → c < 32 → s.bit (MBX_CTRL.FULL c) = true →
        t.bit (MBX_CTRL.FULL c) = false ∧ t.pulses = s.pulses ++ [(394 + 2 * c, s.tick)]) ∧
      (∀ j, m.origin = some j → (t.meshPort j).returned = (s.meshPort j).returned + 1) ∧
      t = { s with regs := t.regs, meshPorts := t.meshPorts, pulses := t.pulses }) ∧
    ((q.msgs = [] ∨ q.credits = 0 ∨ s.meshCarries p = false) → exec (.mailboxMessageSend p) s = .next s) ∧
    (up = true → exec (.creditFlitReceive p n) s = .next (s.setMeshPort p { q with credits := min 2 (q.credits + n) })) ∧
    (up = false → exec (.creditFlitReceive p n) s = .next s) ∧
    ((up = false ∨ flit.type w ≠ 4) → exec (.mailboxMessageReceive p w data ok) s = .next s) ∧
    (up = true → flit.type w = 4 → ∃ t, exec (.mailboxMessageReceive p w data false) s = .next t ∧
      t.get MESH_MBX_LOST_CNT.COUNT = min (s.get MESH_MBX_LOST_CNT.COUNT + 1) (2 ^ 32 - 1) ∧
      t.raised = (s.raise Src.MESH_MBX_LOST []).raised ∧ (t.meshPort p).returned = q.returned + 1 ∧
      t = { s with regs := t.regs, meshPorts := t.meshPorts, raised := t.raised }) ∧
    (whole → flit.dst w = s.meshAddr → s.mbxProd b = 2 → s.mbxDown b = false → s.mbxCons b ≠ 2 →
      s.bit (MBX_CFG.NOTIFY b) = false → ∃ t, exec (.mailboxMessageReceive p w data true) s = .next t ∧
        (∀ i, i < data.length → t.rd (R.MBX_DATA b i) = data.getD i 0) ∧ t.bit (MBX_CTRL.FULL b) = true ∧
        t.get (MBX_CTRL.LEN b) = data.length - 1 ∧ t.rd (R.MBX_SEQ b) = s.rd (R.MBX_SEQ b) + 1 ∧
        t.pulses = s.pulses ++ [(393 + 2 * b, s.tick)] ∧ (t.meshPort p).returned = q.returned + 1 ∧
        t = { s with regs := t.regs, mbxs := t.mbxs, meshPorts := t.meshPorts, pulses := t.pulses }) ∧
    (whole → flit.dst w = s.meshAddr → s.mbxProd b ≠ 2 → ∃ t, exec (.mailboxMessageReceive p w data true) s = .next t ∧
      t.get (MBX_REM_DROP_CNT.COUNT b) = min (s.get (MBX_REM_DROP_CNT.COUNT b) + 1) (2 ^ 32 - 1) ∧
      t.raised = (s.raise Src.MBX_REM_DROP (slot b ++ slot (w.extractLsb' 25 12).toNat)).raised ∧
      s.fieldsOnly t [MBX_REM_DROP_CNT.COUNT b] ∧ t = { s with regs := t.regs, meshPorts := t.meshPorts, raised := t.raised }) ∧
    (whole → flit.dst w ≠ s.meshAddr → 2 ≤ flit.ttl w →
      s.meshRoute (flit.dst w) (flit.ra w) (some p) = some (o.val, ra) →
      ∃ t x, exec (.mailboxMessageReceive p w data true) s = .next t ∧ (t.meshPort o).msgs = (s.meshPort o).msgs ++ [x] ∧
        x.dst = flit.dst w ∧ x.ttl.toNat = flit.ttl w - 1 ∧ x.ra = ra ∧ x.words = data ∧ x.origin = some p.val ∧
        x.source = none ∧ x.mbx = w.extractLsb' 37 5 ∧ x.orig = w.extractLsb' 25 12 ∧ s.othersSame t State.meshPort o ∧
        t = { s with meshPorts := t.meshPorts })

/-- R324 to R334: system time. -/
def Obligations.TimeFollowsTheParent : Prop :=
  ∀ (s : State) (p : Fin 8) (t1 t2 t3 t4 : BitVec 56) (blk d : BitVec 64) (ns : Word) (frac : BitVec 24) (k : BitVec 8)
    (u : Tick) (x : BitVec 56),
    let due : Prop := ∀ v, s.time.lastReq = some v → 96000 ≤ Tick.diff v s.tick
    let free : Prop := s.bit TIME_CFG.MASTER = false ∧ s.singleDevice = false
    let whole := (stampDiff t3 t4 - stampDiff x t2 + 65536) / 131072
    (due → s.bit TIME_CFG.MASTER = false → s.timeChoice = some p.val → ∃ t f, exec (.timeExchange p t1) s = .next t ∧
      t.time.parent = some p.val ∧ t.time.seq = s.time.seq + 1 ∧ t.time.waiting = some (s.time.seq + 1, p.val, t1) ∧
      t.time.lastReq = some s.tick ∧ t.time.sent = some f ∧ f.port = p.val ∧ f.block.extractLsb' 0 8 = 0x55 ∧
      f.block.getLsbD 8 = false ∧ f.block.extractLsb' 9 8 = s.time.seq + 1 ∧ f.data1.extractLsb' 8 56 = t1 ∧
      t.time.c = s.time.c ∧ t = { s with regs := t.regs, time := t.time }) ∧
    ((s.bit TIME_CFG.MASTER = true ∨ ¬due) → exec (.timeExchange p t1) s = .next s) ∧
    (s.timePort p = true → blk.extractLsb' 0 9 = 0x055 → ∃ t f, exec (.timeReqReceive p blk t2 t3) s = .next t ∧
      t.time.sent = some f ∧ f.port = p.val ∧ f.block.extractLsb' 0 9 = 0x155 ∧ f.block.extractLsb' 9 8 = blk.extractLsb' 9 8 ∧
      f.data1.extractLsb' 8 56 = t3 ∧ f.data3.extractLsb' 8 56 = t2 ∧ (t.time.nb p).hops = blk.extractLsb' 17 5 ∧
      t = { s with time := t.time }) ∧
    (s.timePort p = false → exec (.timeReqReceive p blk t2 t3) s = .next s) ∧
    (s.time.waiting = none → exec (.timeRespReceive p blk t3 ns frac t2 t4) s = .next s) ∧
    (s.time.waiting = some (k, p.val, x) → blk.extractLsb' 9 8 ≠ k →
      exec (.timeRespReceive p blk t3 ns frac t2 t4) s = .next s) ∧
    (s.time.waiting = some (k, p.val, x) → s.timePort p = true → blk.extractLsb' 0 9 = 0x155 → blk.extractLsb' 9 8 = k →
      s.time.parent = some p.val → blk.extractLsb' 17 5 ≠ 31 → ∃ t, exec (.timeRespReceive p blk t3 ns frac t2 t4) s = .next t ∧
        t.time.waiting = none ∧ t.time.ticks = -whole ∧ (t.time.nb p).hops = blk.extractLsb' 17 5 ∧
        t.bit TIME_STAT.HOLDOVER = false ∧ t.tick = s.tick ∧ t.time.c = s.time.c ∧
        (s.timeNormal = true → free → whole ≠ 0 → t.timeNormal = false ∧ t.time.hist = [] ∧ t.time.c0 = s.time.c) ∧
        (s.timeNormal = false → t.time.hist.length = min 16 (s.time.hist.length + 1) ∧ t.time.c0 = s.time.c) ∧
        t = { s with regs := t.regs, time := t.time, raised := t.raised }) ∧
    (s.time.waiting = some (k, p.val, x) → s.time.lastReq = some u → 24000 ≤ Tick.diff u s.tick →
      ∃ t, exec .exchangeTimeout s = .next t ∧ t.time.waiting = none ∧
        t.get TIME_EXCH_CNT.COUNT = min (s.get TIME_EXCH_CNT.COUNT + 1) (2 ^ 32 - 1) ∧
        (s.time.parent = some p.val → s.timePort p = false → t.time.parent = none ∧ t.bit TIME_STAT.HOLDOVER = true) ∧
        (s.timePort p = true → t.time.parent = s.time.parent) ∧
        t = { s with regs := t.regs, time := t.time, raised := t.raised }) ∧
    (s.time.waiting = none → exec .exchangeTimeout s = .next s) ∧
    (s.timeNormal = true → exec .timeNormalRequest s = .next s) ∧
    (s.timeNormal = false → ∃ t, exec .timeNormalRequest s = .next t ∧ t.bit TIME_CTRL.NORMAL = true ∧
      s.regsOnly t [TIME_CTRL.NORMAL, TIME_STAT.STEP_WAIT]) ∧
    (free → s.time.normal = true → ∃ t, exec .timeFree s = .next t ∧ t.timeNormal = false ∧ t.time.c = s.time.c ∧
      t.time.c0 = s.time.c ∧ t.tick = s.tick ∧ t.rd R.TIME_RATE = 0 ∧ t.rd R.TIME_OFF_NS = 0 ∧ t.rd R.TIME_OFF_FRAC = 0 ∧
      t.get TIME_TRIM.TRIM = s.get TIME_TRIM.TRIM ∧ t.bit TIME_STAT.LOCKED = false ∧
      t.raised = (s.raise Src.TIME_UNLOCK []).raised ∧ t = { s with regs := t.regs, time := t.time, raised := t.raised }) ∧
    (s.bit TIME_CFG.MASTER = true → exec .timeSet s = .next (s.setBit TIME_CTRL.SET true)) ∧
    (s.bit TIME_CFG.MASTER = false → exec .timeSet s = .next s) ∧
    (s.timeAgreed = true → s.timeQuiet = true → s.tick.toNat % 4096 = 0 → ∃ t, exec .timeNormalSwitch s = .next t ∧
      t.tick = s.tick + BitVec.ofInt 48 s.time.ticks ∧ t.time.c = s.timeNow ∧ t.timeNormal = true ∧ t.rd R.TIME_RATE = 0 ∧
      t.rd R.TIME_OFF_NS = 0 ∧ t.rd R.TIME_OFF_FRAC = 0 ∧ t.bit TIME_CTRL.NORMAL = false ∧
      t = { s with tick := t.tick, regs := t.regs, time := t.time }) ∧
    (s.timeAgreed = true → s.timeQuiet = false → exec .timeNormalSwitch s = .next (s.setBit TIME_STAT.STEP_WAIT true)) ∧
    (s.time.reload = some d → s.tick.toNat % 4096 = 0 →
      exec .timeParentReload s = .next { s with time := { s.time with c := s.time.c + d, reload := none } }) ∧
    ((s.time.reload = none ∨ s.tick.toNat % 4096 ≠ 0) → exec .timeParentReload s = .next s) ∧
    (∃ t, exec .timeNsRead s = .next t ∧ t.answered = some (s.timeNow.extractLsb' 32 32) ∧
      t.rd R.TIME_NS = s.timeNow.extractLsb' 32 32 ∧ t.rd R.TIME_FRAC = s.timeNow.extractLsb' 0 32 ∧
      t.pair R.TIME_TICK_LO = s.tick ∧ t.rd R.TIME_RAW_NS = s.time.c.extractLsb' 32 32 ∧
      t = { s with regs := t.regs, answered := t.answered }) ∧
    (s.timeNormal = true → ((s.time.c - timeInc).extractLsb' 32 32).msb = true → s.timeNs.msb = false → s.time.wrapDone = false →
      ∃ t, exec .timeWrap s = .next t ∧ t.pulses = s.pulses ++ [(392, s.tick)] ∧ t.time.wrapDone = true ∧
        t = { s with pulses := t.pulses, time := t.time }) ∧
    ((s.timeNs.msb = true ∨ s.time.wrapDone = true) → exec .timeWrap s = .next s)

/-- R362: a software fire. -/
def Obligations.SoftwareFiresAChannel : Prop :=
  ∀ (s : State) (c : BitVec 8), ∃ t, exec (.evtSwfire c) s = .next t ∧
    t = { s with pulses := s.pulses ++ [(1000 + c.toNat, s.tick)] } ∧
    (s.pulses = [] → exec .eventPulse t = .next (s.chPulse c.toNat s.tick)) ∧
    (s.pulses = [] → s.chOn c.toNat = true → (s.evtCh c.toNat).fired = none → (s.evtCh c.toNat).count < 1024 →
      ∃ u, exec .eventPulse t = .next u ∧
        u.firings = s.firings ++ [{ ch := c.toNat, stamp := s.tick, tick := s.tick, seen := [] }])

/-- R357: a post and a clear in one tick. -/
def Obligations.PostAndClearInOneTick : Prop :=
  ∀ (s : State) (m : Fin 32) (len : BitVec 4) (a b : Fin 2),
    s.mbxDown m = false → s.mbxProd m = a.val → s.mbxCons m = b.val → (∀ p, s.mbx m = some p → p.tick ≠ s.tick) →
    let done (t : State) : Prop := t.bit (MBX_CTRL.FULL m) = true ∧ t.get (MBX_CTRL.LEN m) = len.toNat ∧
      t.rd (R.MBX_SEQ m) = s.rd (R.MBX_SEQ m) + 1 ∧ t.bit (MBX_CTRL.COLLISION m) = s.bit (MBX_CTRL.COLLISION m) ∧
      t.get (MBX_COLL_CNT.COUNT m) = s.get (MBX_COLL_CNT.COUNT m)
    (∃ t u, exec (.mbxPost m len a) s = .next t ∧ exec (.mbxAck m b) t = .next u ∧ done u) ∧
    (∃ t u, exec (.mbxAck m b) s = .next t ∧ exec (.mbxPost m len a) t = .next u ∧ done u)

/-- R352 to R356: mailboxes. -/
def Obligations.MailboxesPostAndClear : Prop :=
  ∀ (s : State) (m : Fin 32) (i : Fin 16) (len : BitVec 4) (v : Word) (a : Fin 2),
    let full := s.bit (MBX_CTRL.FULL m)
    let up : Prop := s.mbxDown m = false
    let prod : Prop := s.mbxProd m = a.val
    let cons : Prop := s.mbxCons m = a.val
    let earlier : Prop := ∀ p, s.mbx m = some p → p.tick ≠ s.tick
    let emptied : State := (s.setBit (MBX_CTRL.FULL m) false).pulse (394 + 2 * m)
    (s.mbxDown m = true → ∃ t, exec (.mbxPost m len 0) s = .next t ∧ t.bit HIF_STAT.WR_DROP = true ∧
      (∀ f : Rf, 0xD00000 ≤ f.addr → t.get f = s.get f) ∧
      t = { s with regs := t.regs, rings := t.rings, raised := t.raised, noticesLost := t.noticesLost } ∧
      exec (.mbxPost m len 1) s = .next s ∧ exec (.mbxDataWrite m i v 1) s = .next s ∧
      exec (.mbxDataRead m i a) s = .next { s with answered := some 0 }) ∧
    (s.mbxDown m = true → ∃ t, exec (.mbxDataWrite m i v 0) s = .next t ∧ t.bit HIF_STAT.WR_DROP = true ∧
      ∀ f : Rf, 0xD00000 ≤ f.addr → t.get f = s.get f) ∧
    (up → ¬prod → exec (.mbxPost m len a) s = .next s ∧ exec (.mbxDataWrite m i v a) s = .next s) ∧
    (up → prod → s.mbxCons m ≠ 2 → ∃ t, exec (.mbxPost m len a) s = .next t ∧ t.bit (MBX_CTRL.FULL m) = true ∧
      t.get (MBX_CTRL.LEN m) = len.toNat ∧ t.rd (R.MBX_SEQ m) = s.rd (R.MBX_SEQ m) + 1 ∧
      t.pulses = s.pulses ++ [(393 + 2 * m.val, s.tick)] ∧
      (full = false → t.bit (MBX_CTRL.COLLISION m) = s.bit (MBX_CTRL.COLLISION m) ∧
        t.get (MBX_COLL_CNT.COUNT m) = s.get (MBX_COLL_CNT.COUNT m)) ∧
      (full = true → t.bit (MBX_CTRL.COLLISION m) = true ∧
        t.get (MBX_COLL_CNT.COUNT m) = min (s.get (MBX_COLL_CNT.COUNT m) + 1) (2 ^ 32 - 1)) ∧
      (s.bit (MBX_CFG.NOTIFY m) = true → s.mbxCons m = 1 → (1 + m.val) ∈ t.mcoreIrq) ∧
      (s.bit (MBX_CFG.NOTIFY m) = false → t = { s with regs := t.regs, mbxs := t.mbxs, pulses := t.pulses })) ∧
    (¬cons → exec (.mbxAck m a) s = .next s) ∧
    (full = false → exec (.mbxAck m a) s = .next s) ∧
    (cons → full = true → earlier → exec (.mbxAck m a) s = .next emptied) ∧
    (up → (¬cons ∨ s.get (MBX_CTRL.LEN m) ≠ i.val) →
      exec (.mbxDataRead m i a) s = .next (s.answer (s.rd (R.MBX_DATA m i)))) ∧
    (up → cons → full = true → earlier → s.get (MBX_CTRL.LEN m) = i.val →
      exec (.mbxDataRead m i a) s = .next (emptied.answer (s.rd (R.MBX_DATA m i)))) ∧
    (up → prod → ∃ t, exec (.mbxDataWrite m i v a) s = .next t ∧ t.rd (R.MBX_DATA m i) = v ∧
      t.bit (MBX_CTRL.FULL m) = full ∧ (full = true → t.bit (MBX_CTRL.COLLISION m) = true) ∧
      s.regsOnly t [⟨R.MBX_DATA m i, 0, 32⟩, MBX_CTRL.COLLISION m])

/-- R361 to R369: the event fabric. -/
def Obligations.EventsFireAndReachTasks : Prop :=
  ∀ (s : State) (i : Fin 4) (pin : Fin 8) (level l : Bool) (hi : BitVec 16) (c : Fin 256) (q : Fin 221) (u v : Tick) (line : Fin 461)
    (f g : Firing) (grp : Fin 32),
    let k := s.evtCh c
    let w := u.toNat / 15000
    let quiet : Prop := k.window = w → k.count < 1024
    let routed : Prop := s.pulses = [(line.val, u)] ∧ Tick.le u s.tick = true ∧ s.bit (EVT_PROD.EN line) = true ∧
      s.get (EVT_PROD.CH line) = c.val ∧ s.chOn c = true
    let taken := { s with pulses := [] }
    let reaches (f : Firing) : Prop :=
      2 ≤ Tick.diff f.tick s.tick ∧ Tick.diff f.tick s.tick ≤ 8 ∧ q.val ∉ f.seen ∧ s.takes q f.ch = true
    let seen (f : Firing) : Firing := { f with seen := f.seen ++ [q.val] }
    let one := { s with firings := [seen f] }
    let two := { s with firings := [seen f, seen g] }.bump (EVT_COAL_CNT.COUNT q)
    (s.stage = stg.por → exec (.evtInEdge pin level) s = .next s) ∧
    (s.stage ≠ stg.por → (s.evtIn pin = none ∨ s.evtIn pin = some level) →
      exec (.evtInEdge pin level) s = .next (s.setEvtIn pin (some level))) ∧
    (s.stage ≠ stg.por → s.evtIn pin = some l → l ≠ level → ∃ t, exec (.evtInEdge pin level) s = .next t ∧
      t.evtIn pin = some level ∧ ((s.get (EVT_PROD.EDGE (384 + pin)) = 2 ∨
        level = decide (s.get (EVT_PROD.EDGE (384 + pin)) ≠ 1)) → (384 + pin.val, s.tick + 3) ∈ t.pulses)) ∧
    (s.bit (EVT_TMR_EN.EN i) = true → s.tmr i = (s.tick, u) → Tick.before u s.tick = true →
      ∃ t, exec (.evtTimer i) s = .next t ∧ t.pulses = s.pulses ++ [(457 + i.val, s.tick)] ∧
        (s.get (EVT_TMR_PER.PER i) = 0 → t = { s with pulses := t.pulses }) ∧
        t.tmr i = (s.tick + BitVec.ofNat 48 (s.get (EVT_TMR_PER.PER i)), u) ∧
        (s.get (EVT_TMR_PER.PER i) ≠ 0 → t.pair (R.EVT_TMR_CMP_LO i) = (t.tmr i).1) ∧
        t = { s with regs := t.regs, pulses := t.pulses, tmrs := t.tmrs }) ∧
    ((s.bit (EVT_TMR_EN.EN i) = false ∨ (s.tmr i).1 ≠ s.tick) → exec (.evtTimer i) s = .next s) ∧
    (∃ t, exec (.evtTmrWrite i hi) s = .next t ∧ t.tmr i = (hi ++ s.rd (R.EVT_TMR_CMP_LO i), s.tick) ∧
      t.get (EVT_TMR_CMP_HI.CMP_HI i) = hi.toNat ∧ t = { s with regs := t.regs, tmrs := t.tmrs }) ∧
    (s.pulses = [] → exec .eventPulse s = .next s) ∧
    (s.pulses = [(line.val, u)] → Tick.le u s.tick = true →
      (s.bit (EVT_PROD.EN line) = false ∨ s.chOn (s.get (EVT_PROD.CH line)) = false) → exec .eventPulse s = .next taken) ∧
    (routed → quiet → k.fired = none → ∃ t, exec .eventPulse s = .next t ∧ (t.evtCh c).fired = some u ∧
      t.firings = s.firings ++ [{ ch := c, stamp := u, tick := u, seen := [] }] ∧ s.othersSame t State.evtCh c ∧
      t = { taken with evtChs := t.evtChs, firings := t.firings }) ∧
    (routed → quiet → k.fired = some v → Tick.before u (v + 15) = true → k.pend = none → (k.fromPend = false ∨ v ≠ u) →
      ∃ t, exec .eventPulse s = .next t ∧ (t.evtCh c).pend = some u ∧ t.bit (EVT_CH_CFG.PEND c) = true ∧
        (t.evtCh c).fired = some v ∧ t = { taken with regs := t.regs, evtChs := t.evtChs }) ∧
    (routed → quiet → k.fired = some v → Tick.before u (v + 15) = true → k.pend ≠ none → ∃ t, exec .eventPulse s = .next t ∧
      t.get (EVT_MERGE_CNT.COUNT c) = min (s.get (EVT_MERGE_CNT.COUNT c) + 1) (2 ^ 32 - 1) ∧ (t.evtCh c).pend = k.pend ∧
      t = { taken with regs := t.regs, evtChs := t.evtChs }) ∧
    (routed → k.window = w → 1024 ≤ k.count → ∃ t, exec .eventPulse s = .next t ∧ t.bit (EVT_CH_CFG.EN c) = false ∧
      t.bit (EVT_CH_CFG.LOOP c) = true ∧ (t.evtCh c).pend = none ∧ t.bit (EVT_CH_CFG.PEND c) = false ∧
      t.raised = (s.raise Src.EVT_LOOP (slot c ++ slotTick u)).raised ∧ t.firings = s.firings ∧
      t = { taken with regs := t.regs, evtChs := t.evtChs, raised := t.raised }) ∧
    (k.fired = none → exec (.channelHoldEnd c) s = .next s) ∧
    (k.fired = some v → Tick.before s.tick (v + 15) = true → exec (.channelHoldEnd c) s = .next s) ∧
    (k.fired = some v → Tick.before s.tick (v + 15) = false → k.pend = none →
      exec (.channelHoldEnd c) s = .next (s.setEvtCh c { k with fired := none, fromPend := false })) ∧
    (k.fired = some v → Tick.before s.tick (v + 15) = false → k.pend = some u → ∃ t, exec (.channelHoldEnd c) s = .next t ∧
      t.firings = s.firings ++ [{ ch := c, stamp := u, tick := v + 15, seen := [] }] ∧ (t.evtCh c).fired = some (v + 15) ∧
      (t.evtCh c).pend = none ∧ t.bit (EVT_CH_CFG.PEND c) = false ∧
      t = { s with regs := t.regs, evtChs := t.evtChs, firings := t.firings }) ∧
    (s.firings = [] → exec (.eventDelivery q) s = .next s) ∧
    (s.firings = [f] → reaches f →
      (s.taskDown q = true → exec (.eventDelivery q) s = .next (one.setBit (EVT_TSTAT.DOWN q) true)) ∧
      (s.taskDown q = false → s.taskBusy q f.ch = true → exec (.eventDelivery q) s =
        .next ((one.setBit (EVT_TSTAT.OVERRUN q) true).bump (EVT_OVR_CNT.COUNT q))) ∧
      (s.taskDown q = false → s.taskBusy q f.ch = false →
        exec (.eventDelivery q) s = .next (one.taskAct q f.stamp f.tick))) ∧
    (s.firings = [f, g] → reaches f → reaches g → s.taskDown q = false → s.taskBusy q f.ch = false →
      exec (.eventDelivery q) s = .next (two.taskAct q (Tick.min f.stamp g.stamp) f.tick)) ∧
    (∀ j : Fin 8, q.val = 144 + j.val → (one.taskAct q f.stamp f.tick).evtOut j =
      some (s.tick + 2, s.tick + 2 + BitVec.ofNat 48 (max 1 (s.get (EVT_TASK.WIDTH q))))) ∧
    (s.groupTasks = [] → exec .groupTaskApply s = .next s) ∧
    (Tick.le u s.tick = true →
      (s.groupTasks = [(grp.val, true, u)] → exec .groupTaskApply s =
        .next ({ s with groupTasks := [] }.set EVT_GRP_EN.EN (s.get EVT_GRP_EN.EN ||| 2 ^ grp.val))) ∧
      (s.groupTasks = [(grp.val, true, u), (grp.val, false, u)] →
        exec .groupTaskApply s = .next { s with groupTasks := [] }) ∧
      (s.groupTasks = [(grp.val, false, u)] → ∃ t, exec .groupTaskApply s = .next t ∧ t.groupTasks = [] ∧
        (t.get EVT_GRP_EN.EN).testBit grp = false ∧
        (∀ j, j ≠ grp.val → (t.get EVT_GRP_EN.EN).testBit j = (s.get EVT_GRP_EN.EN).testBit j) ∧
        (∀ j, j < 8 → (t.evtCh (8 * grp + j)).pend = none) ∧
        t = { s with regs := t.regs, evtChs := t.evtChs, groupTasks := [] })) ∧
    (s.evtOut pin = none → exec (.evtOutPulseEnd pin) s = .next s) ∧
    (s.evtOut pin = some (v, u) → exec (.evtOutPulseEnd pin) s =
      .next (if Tick.le u s.tick then s.setEvtOut pin none else s)) ∧
    (s.tick.toNat % 15000 ≠ 0 → exec .loopGuardWindow s = .next s) ∧
    (s.tick.toNat % 15000 = 0 → ∃ t, exec .loopGuardWindow s = .next t ∧
      (∀ c, c < 256 → t.evtCh c = if (s.evtCh c).window = s.tick.toNat / 15000 then s.evtCh c else
        { s.evtCh c with window := s.tick.toNat / 15000, count := 0 }) ∧ t = { s with evtChs := t.evtChs })

/-- R337, R344 to R347, R349: roles. -/
def Obligations.TwinTakesOverAndYields : Prop :=
  ∀ (s : State) (d : Tick),
    let r := s.twinRole
    let w := s.twin
    let isOut (t : State) : Prop := t.twinRole = role.out ∧ t.twin.takeLow = false ∧ t.twin.closed = false ∧
      t.twin.sensed = none ∧ t.get TWIN_STAT.PHASE = 0 ∧ t.bit TWIN_CTRL.RESYNC = false
    let gives (t : State) : Prop := t.twWait = BitVec.allOnes 64 ∧ t.twin.takeLow = false ∧ t.twin.sensed = some s.tick ∧
      t.twinRole = r ∧ t.tick = s.tick
    let meets : Prop := w.claimed = true ∧ ∃ f, w.fall = some f ∧ -8 ≤ Tick.diff f s.tick ∧ Tick.diff f s.tick ≤ 8
    let lower : Prop := s.get MESH_CFG.ADDR < s.get (LANE_PARTNER.DEV 28)
    let sensed : State := s.setBit TWIN_STAT.PARTNER_TAKE true
    let fresh : Prop := s.bit TWIN_STAT.PARTNER_TAKE = false ∧ w.sensed = none
    (r = role.standby → ∃ t, exec .twinTake s = .next t ∧ t.twinRole = role.taking ∧ t.bit TWIN_CTRL.TAKE = true ∧
      t.wideVal R.TWIN_TAKE_TICK_LO = s.tick + 1 ∧ t.twin.detect = some (s.tick + 1) ∧ t.twin.takeLow = true ∧
      t.twin.closed = false ∧ t.twWait = BitVec.allOnes 64 ∧ t.logs = [] ∧ t.logWait = [] ∧
      (s.mirrored = [] → ∀ b, b < 64 → ((s.ledger b).state = 2 ∨ (s.ledger b).state = 3) → (t.ledger b).state = 0 ∧
        (t.ledger b).lastStatus = 2 ∧ (t.ledger b).lastTick = s.tick + 1 ∧ (t.ledger b).lastDone = (s.ledger b).inflight) ∧
      t = { s with regs := t.regs, wide := t.wide, twWait := t.twWait, logs := t.logs, logWait := t.logWait,
                   twinBias := t.twinBias, mirrored := t.mirrored, twin := t.twin, ledgers := t.ledgers }) ∧
    (r = role.taking → exec .twinTake s = .next (s.setBit TWIN_CTRL.TAKE true)) ∧
    (r ≠ role.standby → r ≠ role.taking →
      exec .twinTake s = .next ((s.setBit TWIN_CTRL.TAKE true).raise Src.TWIN_TAKE_REFUSED [])) ∧
    (r = role.taking → w.detect = some d → w.closed = false → s.tick.toNat % 1500 = 0 → Tick.le (d + 2) s.tick = true →
      exec .takeoverSwitchClose s = .next { s with twin := { w with closed := true } }) ∧
    ((w.detect = none ∨ r ≠ role.taking ∨ s.tick.toNat % 1500 ≠ 0) → exec .takeoverSwitchClose s = .next s) ∧
    (r = role.taking → w.fall = some d → s.tick.toNat % 1500 = 0 → Tick.le (d + BitVec.ofNat 48 s.rfSettle) s.tick = true →
      ∃ t, exec .takeoverActive s = .next t ∧ t.twinRole = role.active ∧ t.rd R.TWIN_LOCKSTEP_LO = 0 ∧
        t.rd R.TWIN_LOCKSTEP_HI = 0 ∧ t.get TWIN_TAKE_CNT.COUNT = min (s.get TWIN_TAKE_CNT.COUNT + 1) (2 ^ 32 - 1) ∧
        ({ src := Src.TWIN_TAKEOVER, tick := s.tick, slots := [], injected := false } : FaultIn) ∈ t.raised ∧
        t = { s with regs := t.regs, life := t.life, raised := t.raised }) ∧
    ((w.fall = none ∨ r ≠ role.taking ∨ s.tick.toNat % 1500 ≠ 0) → exec .takeoverActive s = .next s) ∧
    ((r ≠ role.active ∨ w.yieldAt ≠ none) → exec .twinYield s = .next (s.setBit TWIN_CTRL.YIELD true)) ∧
    (r = role.active → w.yieldAt = none → s.partnerRole = role.standby → exec .twinYield s =
      .next { s.setBit TWIN_CTRL.YIELD true with twin := { w with yieldAt := some s.tick, parked := false } }) ∧
    (r = role.active → w.yieldAt = none → s.partnerRole ≠ role.standby → ∃ t, exec .twinYield s = .next t ∧ isOut t ∧
      t.twWait = BitVec.allOnes 64 ∧ t.twin.parked = true) ∧
    (w.yieldAt = none → exec .yieldPark s = .next s) ∧
    (w.yieldAt = some d → r ≠ role.out → Tick.diff d s.tick < 75000 → exec .yieldPark s = .next s) ∧
    (w.yieldAt = some d → 75000 ≤ Tick.diff d s.tick → ∃ t, exec .yieldPark s = .next t ∧ isOut t ∧ t.twin.yieldAt = none ∧
      t.twin.parked = true) ∧
    (exec (.partnerTakeSense false) s = .next (s.setBit TWIN_STAT.PARTNER_TAKE false)) ∧
    ((¬fresh ∨ (r ≠ role.active ∧ r ≠ role.taking)) → exec (.partnerTakeSense true) s = .next sensed) ∧
    (fresh → r = role.active → ¬meets → ∃ t, exec (.partnerTakeSense true) s = .next t ∧ gives t) ∧
    (fresh → r = role.taking → ¬meets → exec (.partnerTakeSense true) s = .next sensed) ∧
    (fresh → (r = role.active ∨ r = role.taking) → meets → s.bit TWIN_CFG.PRIMARY = true → lower →
      exec (.partnerTakeSense true) s = .next sensed.fresh) ∧
    (fresh → (r = role.active ∨ r = role.taking) → meets → s.bit TWIN_CFG.PRIMARY = false → ¬lower → ∃ t,
      exec (.partnerTakeSense true) s = .next t ∧ gives t ∧
      ({ src := Src.TWIN_TAKE_REFUSED, tick := s.tick, slots := [], injected := false } : FaultIn) ∈ t.raised) ∧
    (w.sensed = none → exec .yieldSwitchOpen s = .next s) ∧
    (w.sensed = some d → Tick.le (BitVec.ofNat 48 ((d.toNat / 1500 + 2) * 1500)) s.tick = true → ∃ t,
      exec .yieldSwitchOpen s = .next t ∧ isOut t ∧ t = { s with regs := t.regs, twin := t.twin }) ∧
    (w.sensed = some d → Tick.le (BitVec.ofNat 48 ((d.toNat / 1500 + 2) * 1500)) s.tick = false →
      exec .yieldSwitchOpen s = .next s) ∧
    (s.bit TWIN_CFG.EN = true → s.bit TWIN_CFG.PRIMARY = true → r = role.out → s.stage = stg.ready →
      s.bit TWIN_STAT.PARTNER_TAKE = false → w.claimed = false → ∃ t, exec .twinPrimaryClaim s = .next t ∧
        t.twinRole = role.active ∧ t.twin.takeLow = true ∧ t.twin.claimed = true ∧ t.twin.closed = true ∧ t.twWait = 0 ∧
        t = { s with regs := t.regs, twin := t.twin, twWait := 0 }) ∧
    ((s.bit TWIN_CFG.EN = false ∨ s.bit TWIN_CFG.PRIMARY = false ∨ r ≠ role.out ∨ s.bit TWIN_STAT.PARTNER_TAKE = true ∨
      w.claimed = true) → exec .twinPrimaryClaim s = .next s)

/-- R338, R339, R342 to R344, R350: the twins' traffic. -/
def Obligations.TwinHeartbeatsLogsAndCopies : Prop :=
  ∀ (s : State) (w : BitVec 64) (addr : BitVec 28) (data : List Word) (ok : Bool) (space : Fin 6),
    let r := s.twinRole
    let q := s.twin
    let st := s.tick - BitVec.ofNat 48 (s.tick.toNat % 1500)
    let heard : Prop := s.bit TWIN_CFG.EN = true ∧ s.bit (PORT_STAT.UP 7) = true ∧ w.extractLsb' 0 4 = 8
    let missing : Prop := s.bit TWIN_CFG.EN = true ∧ 64 ≤ s.tick.toNat % 1500 ∧ ∀ t, q.strobe = some t → Tick.le st t = false
    let frame (t : State) : Prop := t = { s with regs := t.regs, twin := t.twin, raised := t.raised }
    let b := (w.extractLsb' 4 6).toNat
    let phase := s.get TWIN_STAT.PHASE
    (s.bit TWIN_CFG.EN = true → s.tick.toNat % 1500 = 0 → q.sent = 0 → ∃ t, exec .heartbeatSend s = .next t ∧
      t.twin.sent.extractLsb' 0 4 = 8 ∧ (t.twin.sent.extractLsb' 4 4).toNat = r ∧
      t.twin.sent.getLsbD 8 = q.yieldAt.isSome ∧ t.twin.sent.extractLsb' 16 16 = q.seq ∧
      t.twin.sent.extractLsb' 32 32 = s.tick.extractLsb' 0 32 ∧ t.twin.seq = q.seq + 1 ∧
      t = { s with freeCtr := t.freeCtr, twin := t.twin } ∧ exec .heartbeatSend t = .next t) ∧
    ((s.bit TWIN_CFG.EN = false ∨ s.tick.toNat % 1500 ≠ 0) → exec .heartbeatSend s = .next s) ∧
    (¬heard → exec (.heartbeatReceive w) s = .next s) ∧
    (heard → w.getLsbD 8 = false → ∃ t, exec (.heartbeatReceive w) s = .next t ∧
      t.partnerRole = (w.extractLsb' 4 3).toNat ∧ (Tick.diff (s.nearTick (w.extractLsb' 32 32)) s.tick ≤ 64 →
        t.bit TWIN_STAT.HB_OK = true ∧ t.twin.misses = 0 ∧ t.twin.strobe = some (s.nearTick (w.extractLsb' 32 32))) ∧
      (64 < Tick.diff (s.nearTick (w.extractLsb' 32 32)) s.tick → t.twin = q) ∧ t = { s with regs := t.regs, twin := t.twin }) ∧
    (heard → w.getLsbD 8 = true → r = role.standby → ∃ t, exec (.heartbeatReceive w) s = .next t ∧ t.twinRole = role.taking ∧
      t.twin.detect = some s.tick) ∧
    (¬missing → exec .heartbeatMiss s = .next s) ∧
    (missing → (r ≠ role.standby ∨ q.misses < 3) → ∃ t, exec .heartbeatMiss s = .next t ∧ t.twin.misses = q.misses + 1 ∧
      t.bit TWIN_STAT.HB_OK = false ∧ t.get TWIN_HB_MISS_CNT.COUNT = min (s.get TWIN_HB_MISS_CNT.COUNT + 1) (2 ^ 32 - 1) ∧
      t.twinRole = r ∧ (r = role.active → q.lostTold = false → t.raised = (s.raise Src.TWIN_HB_LOST []).raised) ∧
      (r ≠ role.active → t.raised = s.raised) ∧ frame t) ∧
    (missing → r = role.standby → 3 ≤ q.misses → ∃ t, exec .heartbeatMiss s = .next t ∧ t.twinRole = role.taking ∧
      t.twin.detect = some s.tick) ∧
    ((r ≠ role.standby ∨ s.bit (PORT_STAT.UP 7) = false) →
      exec (.logReceive w) s = .next s ∧ exec (.biasFlitReceive w) s = .next s) ∧
    (r = role.standby → s.bit (PORT_STAT.UP 7) = true → w.extractLsb' 0 4 = 10 → w.extractLsb' 10 3 ≠ 4 →
      exec (.logReceive w) s = .next (s.setLog b (s.log b ++ [(w.extractLsb' 10 3, w.extractLsb' 16 48)]))) ∧
    (r = role.standby → s.bit (PORT_STAT.UP 7) = true → w.extractLsb' 0 4 = 11 → ∃ u, exec (.biasFlitReceive w) s =
        .next { s with twinBias := s.twinBias ++ [(b, w.extractLsb' 10 18, u)] } ∧ u.extractLsb' 0 36 = w.extractLsb' 28 36 ∧
      (u - s.tick).toNat < 2 ^ 36) ∧
    (exec (.mirrorReceive space addr data false) s = .next s) ∧
    (r ≠ role.sync → r ≠ role.standby → (r ≠ role.out ∨ s.partnerRole ≠ role.active) →
      exec (.mirrorReceive space addr data ok) s = .next s) ∧
    (r = role.out → s.partnerRole = role.active → ∃ t, exec (.mirrorReceive 1 addr data true) s = .next t ∧
      t.twinRole = role.sync ∧ t.get TWIN_STAT.PHASE = 1) ∧
    ((r = role.sync ∨ r = role.standby) → addr.toNat + data.length ≤ 2 ^ 20 → ∃ t,
      exec (.mirrorReceive 1 addr data true) s = .next t ∧
      (∀ k, t.progWord k = if addr.toNat ≤ k ∧ k < addr.toNat + data.length then data.getD (k - addr.toNat) 0 else s.progWord k) ∧
      t = { s with pm := t.pm }) ∧
    (r = role.active → s.partnerRole = role.out → phase = 0 → ∃ t, exec .twinResync s = .next t ∧
      t.bit TWIN_CTRL.RESYNC = true ∧ t.get TWIN_STAT.PHASE = 1 ∧ t.rd R.TWIN_LOCKSTEP_LO = 0 ∧ t.rd R.TWIN_LOCKSTEP_HI = 0 ∧
      t.twin.tries = 0 ∧ t = { s with regs := t.regs, twin := t.twin }) ∧
    ((r ≠ role.active ∨ s.partnerRole ≠ role.out ∨ phase ≠ 0) → exec .twinResync s = .next s) ∧
    (phase = 1 → exec .resyncCopyDone s = .next (s.set TWIN_STAT.PHASE 2)) ∧
    (phase ≠ 1 → exec .resyncCopyDone s = .next s) ∧
    (phase ≠ 2 → exec (.resyncCheckDone ok) s = .next s) ∧
    (phase = 2 → ∃ t, exec (.resyncCheckDone true) s = .next t ∧ t.get TWIN_STAT.PHASE = 3 ∧
      t.twinRole = (if r = role.sync then role.standby else r) ∧ s.regsOnly t [TWIN_STAT.PHASE, TWIN_STAT.ROLE]) ∧
    (phase = 2 → q.tries < 2 → exec (.resyncCheckDone false) s =
      .next ({ s with twin := { q with tries := q.tries + 1 } }.set TWIN_STAT.PHASE 1)) ∧
    (phase = 2 → 2 ≤ q.tries → ∃ t, exec (.resyncCheckDone false) s = .next t ∧ t.get TWIN_STAT.PHASE = 0 ∧
      t.twinRole = (if r = role.sync then role.out else r) ∧ t.bit TWIN_CTRL.RESYNC = false ∧
      ({ src := Src.TWIN_SYNC_FAIL, tick := s.tick, slots := [], injected := false } : FaultIn) ∈ t.raised ∧ frame t)

/-- R372 to R377: temperature. -/
def Obligations.TemperatureLevels : Prop :=
  ∀ (s : State) (sens model : BitVec 384) (r : Fin 32) (mask : Word) (lv : Fin 3) (lo : Fin 2) (u : Tick),
    let hist (r : Nat) : List Int := ((sens.extractLsb' (12 * r) 12).toInt :: s.therm.hist_ r).take 8
    let ready (run : List Nat) (i : Nat) : Prop :=
      64 ≤ run.getD i 0 ∧ ∀ t, s.therm.changed.getD i none = some t → 96000 ≤ Tick.diff t s.tick
    (s.get PWR_STAT.STATE = 3 → exec (.thermalSample sens model) s = .next s) ∧
    (s.get PWR_STAT.STATE ≠ 3 → s.get TH_SENS_BROKEN.BROKEN = 0 → ∃ t, exec (.thermalSample sens model) s = .next t ∧
      (∀ r, r < 32 → t.therm.hist_ r = hist r ∧ t.get (TH_REGION.TEMP r) = temp12 (median (hist r)) ∧
        t.get (TH_REGION.MODEL r) = temp12 (model.extractLsb' (12 * r) 12).toInt) ∧
      (∃ q, q < 32 ∧ t.get TH_TJ.REGION = q ∧ t.get TH_TJ.TJ = temp12 (median (hist q)) ∧
        (∀ r, r < 32 → median (hist r) ≤ median (hist q)) ∧
        (t.therm.above.getD 0 0 = if 950 ≤ median (hist q) then s.therm.above.getD 0 0 + 1 else 0) ∧
        (t.therm.below.getD 0 0 = if median (hist q) < 910 then s.therm.below.getD 0 0 + 1 else 0)) ∧
      t = { s with regs := t.regs, therm := t.therm }) ∧
    (s.sensBroken r = false → 1000 ≤ s.therm.off_ r → ∃ t, exec (.sensorBroken r) s = .next t ∧ t.sensBroken r = true ∧
      (∀ q, q ≠ r.val → t.sensBroken q = s.sensBroken q) ∧ t.raised = (s.raise Src.THERM_SENSOR (slot r)).raised ∧
      t = { s with regs := t.regs, raised := t.raised }) ∧
    ((s.sensBroken r = true ∨ s.therm.off_ r < 1000) → exec (.sensorBroken r) s = .next s) ∧
    (∃ t, exec (.sensorReadmit mask) s = .next t ∧
      (∀ q, q < 32 → t.sensBroken q = (s.sensBroken q && !mask.getLsbD q)) ∧
      (∀ q, t.therm.off_ q = if mask.getLsbD q then 0 else s.therm.off_ q) ∧ t.therm.hist = s.therm.hist ∧
      t = { s with regs := t.regs, therm := t.therm }) ∧
    (s.levelOn lv = false → ready s.therm.above lv → ∃ t, exec (.thermLevelEnter lv) s = .next t ∧ t.levelOn lv = true ∧
      t.therm.changed.getD lv none = some s.tick ∧
      t.get TH_TRANS_CNT.COUNT = min (s.get TH_TRANS_CNT.COUNT + 1) (2 ^ 32 - 1) ∧
      (lv = 1 → t.holdOn = true ∧ t.get TH_TJ.LEVEL = (if s.sys.shut.isSome then 3 else 2)) ∧
      (lv = 2 → t.sys.shut = some s.tick ∧ t.sys.shutStep = 1 ∧ t.bit TH_STAT.SHUT_FLAG = true ∧ t.fuseJob = none ∧
        t.get TH_TJ.LEVEL = 3)) ∧
    ((s.levelOn lv = true ∨ s.therm.above.getD lv 0 < 64) → exec (.thermLevelEnter lv) s = .next s) ∧
    (s.levelOn lo = true → ready s.therm.below lo → ∃ t, exec (.thermLevelLeave lo) s = .next t ∧ t.levelOn lo = false ∧
      t.therm.changed.getD lo none = some s.tick ∧ (lo = 1 → t.holdOn = false) ∧ (lo = 0 → t.holdOn = s.holdOn) ∧
      t = { s with regs := t.regs, therm := t.therm, holdOn := t.holdOn }) ∧
    ((s.levelOn lo = false ∨ s.therm.below.getD lo 0 < 64) → exec (.thermLevelLeave lo) s = .next s) ∧
    (s.sys.clampedAt = some u → s.sys.shutStep = 1 → 1500 ≤ Tick.diff u s.tick → ∃ t, exec .shutdownIsolate s = .next t ∧
      t.sys.shutStep = 2 ∧ t.powDown .core = true ∧ ∀ l, l < 32 → t.laneSt l = ln.off) ∧
    ((s.sys.clampedAt = none ∨ s.sys.shutStep ≠ 1) → exec .shutdownIsolate s = .next s) ∧
    (s.sys.shut = some u → s.sys.shutStep = 2 → ∃ t, exec .shutdownMgmtOff s = .next t ∧ t.sys.shutStep = 3 ∧
      t.powDown .mgmt = true ∧ t.recorder.queue = [] ∧ t.get REC_STAT.QUEUED = 0) ∧
    ((s.sys.shut = none ∨ s.sys.shutStep ≠ 2) → exec .shutdownMgmtOff s = .next s)

/-- R379 to R385: governor, power states, monitor. -/
def Obligations.GovernorStates : Prop :=
  ∀ (s : State) (ok : Bool) (mv : BitVec 10) (tgt : BitVec 2) (code : BitVec 16) (w : Word) (v n : Nat) (u : Tick),
    let g := s.gov
    let m := s.mon
    let vs := s.get GOV_STAT.VSET
    let st := s.get PWR_STAT.STATE
    let govFrame (t : State) : Prop := t = { s with regs := t.regs, gov := t.gov, raised := t.raised }
    let polled : Prop := ∀ t, g.lastPoll = some t → 1500000 ≤ Tick.diff t s.tick
    let off := ((700 + 5 * (vs : Int)) - mv.toNat).natAbs
    let slot := s.rd (R.MON_SEQ m.slot)
    let urgent := s.rd R.MON_URG
    (s.bit GOV_STAT.REQ = true → s.govFree = true → vs < s.vmax → (g.lastStep = none ∨ (g.lastStep = some u ∧
        ((max 150 (s.get GOV_CFG.UP_INT) * 1500 : Nat) : Int) ≤ Tick.diff u s.tick)) → ∃ t, exec .govRaise s = .next t ∧
      t.get GOV_STAT.VSET = min s.vmax (vs + 2) ∧ t.gov.busy = some (min s.vmax (vs + 2), 0) ∧ t.gov.lastStep = some s.tick ∧
      govFrame t) ∧
    (s.bit GOV_STAT.REQ = false → exec .govRaise s = .next { s with gov := { g with maxSince := none, maxTold := false } }) ∧
    (s.bit GOV_STAT.REQ = false → s.govFree = true → s.get GOV_CFG.VMIN < vs →
      ((s.get GOV_CFG.DOWN_HOLD * 1500000 : Nat) : Int) ≤ Tick.diff g.reqAt s.tick →
      (g.lastStep = none ∨ (g.lastStep = some u ∧ 15000000 ≤ Tick.diff u s.tick)) → ∃ t, exec .govLower s = .next t ∧
        t.get GOV_STAT.VSET = vs - 1 ∧ t.gov.busy = some (vs - 1, 0) ∧ t.gov.lastStep = some s.tick ∧ govFrame t) ∧
    ((s.bit GOV_STAT.REQ = true ∨ s.govFree = false ∨ vs ≤ s.get GOV_CFG.VMIN) → exec .govLower s = .next s) ∧
    (g.busy = none → exec (.pmbusTransaction ok) s = .next s) ∧
    (g.busy = some (v, n) → g.failedAt = none →
      exec (.pmbusTransaction true) s = .next { s with gov := { g with busy := none } } ∧
      (n < 3 → exec (.pmbusTransaction false) s = .next { s with gov := { g with busy := some (v, n + 1) } }) ∧
      (3 ≤ n → ∃ t, exec (.pmbusTransaction false) s = .next t ∧ t.gov.failedAt = some s.tick ∧ t.gov.busy = some (v, n) ∧
        t.bit GOV_STAT.PMB_ERR = true ∧ t.raised = (s.raise Src.GOV_PMBUS []).raised ∧ govFrame t)) ∧
    (g.busy = some (v, n) → g.failedAt = some u →
      (Tick.diff u s.tick < 1500000 → exec (.pmbusTransaction ok) s = .next s) ∧
      (1500000 ≤ Tick.diff u s.tick →
        exec (.pmbusTransaction true) s = .next { s with gov := { g with busy := none, failedAt := none } } ∧
        exec (.pmbusTransaction false) s = .next { s with gov := { g with failedAt := some s.tick } })) ∧
    (¬polled → exec (.voutPoll mv) s = .next s) ∧
    (polled → ∃ t, exec (.voutPoll mv) s = .next t ∧ t.get GOV_STAT.VOUT = mv.toNat ∧ t.gov.lastPoll = some s.tick ∧
      (15 < off → ({ src := Src.GOV_VOUT, tick := s.tick, slots := [], injected := false } : FaultIn) ∈ t.raised) ∧
      (off ≤ 15 → s.bit GOV_STAT.REQ = false → t.raised = s.raised) ∧ govFrame t) ∧
    ((st ≠ 3 ∨ tgt = 3) → ∃ t, exec (.pwrTargetWrite tgt) s = .next t ∧ t.get PWR_CTRL.TARGET = tgt.toNat ∧
      t.bit PWR_STAT.WAIT = decide (st < tgt.toNat) ∧ t.get PWR_STAT.STATE = st ∧ t.idleSince = s.tick ∧
      t = { s with regs := t.regs, idleSince := t.idleSince }) ∧
    (st = 3 → tgt ≠ 3 → ∃ t, exec (.pwrTargetWrite tgt) s = .next t ∧ t.sys.wake = true ∧ t.get PWR_CTRL.TARGET = tgt.toNat) ∧
    ((s.get PWR_CTRL.TARGET ≤ st ∨ s.mayRest = false) → exec .powerStateEntry s = .next s) ∧
    (st < s.get PWR_CTRL.TARGET → s.mayRest = true → ∃ t, exec .powerStateEntry s = .next t ∧ t.tick = s.tick ∧
      t.sdram = s.sdram ∧ (st = 0 → t.get PWR_STAT.STATE = 1 ∧ ∀ b, b < 64 → t.bit (DRV_CFG.SW_CLOSED b) = false) ∧
      (st = 1 → t.get PWR_STAT.STATE = if s.allClamped then 2 else 1) ∧
      (st = 2 → t.get PWR_STAT.STATE = 3 ∧ t.pm = [] ∧ t.segs = [] ∧ t.rings = [] ∧ t.ledgers = [] ∧ t.pilots = [])) ∧
    (st = 3 → (s.sys.wake = false ∨ s.stage ≠ stg.ready ∨ s.get BOOT_STAT.CAUSE ≠ 3) → exec .powerStateExit s = .next s) ∧
    (st = 3 → s.sys.wake = true → s.stage = stg.ready → s.get BOOT_STAT.CAUSE = 3 → ∃ t, exec .powerStateExit s = .next t ∧
      t.get PWR_STAT.STATE = 0 ∧ t.sys.wake = false) ∧
    (st ≠ 3 → s.get PWR_CTRL.TARGET < st → ∃ t, exec .powerStateExit s = .next t ∧ t.get PWR_STAT.STATE = 0 ∧
      (st = 2 → t.bit CAL_STAT.SELF_BUSY = true) ∧ t = { s with regs := t.regs, selfCal := t.selfCal }) ∧
    (st ≠ 3 → st ≤ s.get PWR_CTRL.TARGET → exec .powerStateExit s = .next s) ∧
    ((st ≠ 3 ∨ s.sys.wake = false) → exec .deepSleepWake s = .next s) ∧
    (st = 3 → s.sys.wake = true → s.get BOOT_STAT.CAUSE ≠ 3 → ∃ t, exec .deepSleepWake s = .next t ∧ t.stage = 1 ∧
      t.get BOOT_STAT.CAUSE = 3 ∧ t.sys.rose = s.tick ∧ t = { s with regs := t.regs, sys := t.sys }) ∧
    ((st ≠ 3 ∨ s.bit (PORT_STAT.UP 6) = false) → exec .hostEidleReturn s = .next s) ∧
    (st = 3 → s.bit (PORT_STAT.UP 6) = true → s.sys.sleepIdle = some u → 1500000 ≤ Tick.diff u s.tick → ∃ t,
      exec .hostEidleReturn s = .next t ∧ (∀ l, 24 ≤ l → l < 28 → t.laneSt l = ln.eidle) ∧ t.bit (PORT_STAT.UP 6) = false ∧
      t.bit (PORT_STAT.EIDLE 6) = true) ∧
    (m.urgent = none → s.bit MON_CFG.EN = false → exec (.monConversion code) s = .next s) ∧
    (m.urgent = none → s.bit MON_CFG.EN = true →
      (m.n + 1 < monCount slot →
        exec (.monConversion code) s = .next { s with mon := { m with n := m.n + 1, sum := m.sum + code.toNat } }) ∧
      (monCount slot ≤ m.n + 1 → exec (.monConversion code) s = .next ({ s with mon :=
        { slot := if m.slot < s.get MON_CFG.NSLOT then m.slot + 1 else 0, n := 0, sum := 0, urgent := none } }.wr
          (R.MON_RES m.slot) (monResult slot (m.sum + code.toNat))))) ∧
    (m.urgent = some (n, v) →
      (n + 1 < monCount urgent →
        exec (.monConversion code) s = .next { s with mon := { m with urgent := some (n + 1, v + code.toNat) } }) ∧
      (monCount urgent ≤ n + 1 → ∃ t, exec (.monConversion code) s = .next t ∧
        t.rd R.MON_URG_RES = monResult urgent (v + code.toNat) ∧ t.bit MON_URG.GO = false ∧
        t.mon = { m with urgent := none } ∧ t = { s with regs := t.regs, mon := t.mon }) ∧
      (w.getLsbD 31 = true → exec (.monUrgentRequest w) s = .next (s.setBit MON_URG.REJ true)) ∧
      (w.getLsbD 31 = false → exec (.monUrgentRequest w) s = .next s)) ∧
    (m.urgent = none → w.getLsbD 31 = true → ∃ t, exec (.monUrgentRequest w) s = .next t ∧ t.mon = { m with urgent := some (0, 0) } ∧
      t.bit MON_URG.GO = true ∧ monCount (t.rd R.MON_URG) = monCount w ∧ monInput (t.rd R.MON_URG) = monInput w ∧
      t = { s with regs := t.regs, mon := t.mon })

/-- R389 to R396: fault collection. -/
def Obligations.FaultsAreLoggedAndReact : Prop :=
  ∀ (s : State) (f g : FaultIn) (e : LogEntry) (src : BitVec 8) (idx : BitVec 6) (b : Fin 64),
    let log := s.faultLog
    let entryOf (f : FaultIn) (n : Nat) (e : LogEntry) : Prop := e.src = f.src ∧ e.sev = s.faultSevNow f.src ∧
      e.injected = f.injected ∧ e.lseq = s.logSeq + BitVec.ofNat 32 n ∧ e.tick = f.tick ∧ e.slots = f.slots
    let pends (t : State) (f : FaultIn) : Prop := (t.get (FLT_PEND.PEND (f.src / 32))).testBit (f.src % 32) = true
    let due : Prop := s.reacts = [e] ∧ Tick.le (e.tick + 2) s.tick = true
    let elapsed : Prop := ∀ v, s.errUntil = some v → Tick.le v s.tick = true
    (s.raised = [] → exec .faultRaise s = .next s) ∧
    (s.raised = [f] → Tick.le f.tick s.tick = false → exec .faultRaise s = .next s) ∧
    (s.raised = [f] → Tick.le f.tick s.tick = true → f.src < 192 → log.length ≤ 64 → ∃ t x, exec .faultRaise s = .next t ∧
      t.faultLog = (log ++ [x]).drop (log.length - 63) ∧ entryOf f 0 x ∧ x.coincident = false ∧ t.logSeq = s.logSeq + 1 ∧
      pends t f ∧ x.first = !s.bit FLT_FIRST.VALID ∧ t.bit FLT_FIRST.VALID = true ∧
      (s.bit FLT_FIRST.VALID = false → t.get FLT_FIRST.SOURCE = f.src ∧ t.wideVal R.FLT_FIRST_TICK_LO = f.tick) ∧
      (s.bit FLT_FIRST.VALID = true → t.rd R.FLT_FIRST = s.rd R.FLT_FIRST)) ∧
    (s.raised = [g, f] → f.tick = g.tick → Tick.le f.tick s.tick = true → f.src < 192 → g.src < 192 →
      (s.faultSevNow g.src < s.faultSevNow f.src ∨ (s.faultSevNow g.src = s.faultSevNow f.src ∧ f.src < g.src)) →
      ∃ t l x y, exec .faultRaise s = .next t ∧ t.faultLog = l ++ [x, y] ∧ entryOf f 0 x ∧ entryOf g 1 y ∧
        x.coincident = true ∧ y.coincident = true ∧ pends t f ∧ pends t g ∧ y.first = false) ∧
    (s.reacts = [] → exec .faultReaction s = .next s) ∧
    (s.reacts = [e] → Tick.le (e.tick + 2) s.tick = false → exec .faultReaction s = .next s) ∧
    (due → e.react = 0b10000 → ∃ t, exec .faultReaction s = .next t ∧ t.errPin = true ∧ t.errUntil = some (s.tick + 3000) ∧
      t.bit FLT_CTRL.ERR_LIVE = true ∧ (s.bit FLT_CFG.ERR_LATCH = true → t.bit FLT_CTRL.ERR_HOLD = true) ∧
      t = { s with regs := t.regs, reacts := [], errPin := true, errUntil := t.errUntil }) ∧
    (due → e.react = 0b00001 → ∃ t, exec .faultReaction s = .next t ∧ 0 ∈ t.mcoreIrq ∧ t.faultIrq = s.faultIrq) ∧
    (due → e.react = 0b00010 → targetOf e.src e.slots = some (.berth b) → s.pilotActive b = true → ∃ t,
      exec .faultReaction s = .next t ∧ (t.pilot b).trap = some cause.pilotFault) ∧
    (due → e.react = 0b01000 → s.sys.resetting = none → ∃ t, exec .faultReaction s = .next t ∧ t.stage = stg.resetting ∧
      t.get BOOT_STAT.CAUSE = 2 ∧ t.sys.resetting = some (2, s.tick) ∧
      ∀ c, c < 64 → t.bit (DRV_CFG.SW_CLOSED c) = false) ∧
    ((s.errPin = false ∨ s.bit FLT_CTRL.ERR_HOLD = true ∨ ¬elapsed) → exec .errNRelease s = .next s) ∧
    (s.errPin = true → s.bit FLT_CTRL.ERR_HOLD = false → elapsed → exec .errNRelease s =
      .next ({ s with errUntil := none, errPin := false }.setBit FLT_CTRL.ERR_LIVE false)) ∧
    (∃ t, exec (.errHoldWrite true) s = .next t ∧ t.errPin = true ∧ t.bit FLT_CTRL.ERR_HOLD = true ∧
      t.bit FLT_CTRL.ERR_LIVE = true ∧ t = { s with regs := t.regs, errPin := true }) ∧
    (∃ t, exec (.errHoldWrite false) s = .next t ∧ t.bit FLT_CTRL.ERR_HOLD = false ∧ (elapsed → t.errPin = false) ∧
      (¬elapsed → t.errPin = s.errPin) ∧ t = { s with regs := t.regs, errPin := t.errPin, errUntil := t.errUntil }) ∧
    (s.bit SEC_STAT.FACTORY = false → ∃ t, exec (.faultInject src) s = .next t ∧ t.bit FLT_CTRL.INJ_REJ = true ∧
      s.regsOnly t [FLT_INJ.SOURCE, FLT_CTRL.INJ_REJ]) ∧
    (s.bit SEC_STAT.FACTORY = true → faultAssigned src.toNat = true → ∃ t x, exec (.faultInject src) s = .next t ∧
      t.raised = s.raised ++ [x] ∧ x.src = src.toNat ∧ x.tick = s.tick + 1 ∧ x.injected = true ∧
      (∀ i, i < 8 → x.slots.getD i 0 = fieldOf (s.rd (R.FLT_INJ_PAY (i / 2))) (16 * (i % 2)) 16) ∧
      t = { s with regs := t.regs, raised := t.raised }) ∧
    (log.reverse[idx.toNat]? = none → ∃ t, exec (.fltLogSelWrite idx) s = .next t ∧ t.bit FLT_LOG_SEL.VALID = false ∧
      t.get FLT_LOG_SEL.IDX = idx.toNat ∧ s.regsOnly t [FLT_LOG_SEL.IDX, FLT_LOG_SEL.VALID]) ∧
    (log.reverse[idx.toNat]? = some e → ∃ t, exec (.fltLogSelWrite idx) s = .next t ∧ t.bit FLT_LOG_SEL.VALID = true ∧
      (∀ i, i < 10 → t.rd (R.FLT_LOG_DATA i) = (e.words.getD (i / 2) 0).extractLsb' (32 * (i % 2)) 32) ∧
      t = { s with regs := t.regs }) ∧
    (∃ t, exec .fltFirstRead s = .next t ∧ t.answered = some (s.rd R.FLT_FIRST) ∧
      t.pair R.FLT_FIRST_TICK_LO = s.wideVal R.FLT_FIRST_TICK_LO ∧ t = { s with regs := t.regs, answered := t.answered }) ∧
    exec .fltFirstClear s = .next (s.setBit FLT_FIRST.VALID false)

/-- R397 to R405: the recorder and the lifetime set. -/
def Obligations.RecordsAndLifetimeCounters : Prop :=
  ∀ (s : State) (r : Rec) (rest : List Rec) (ok : Bool) (seq : Word) (sec k gen : Nat) (set : Store Word),
    let q := s.recorder
    let frame (t : State) : Prop := t = { s with regs := t.regs, recSlots := t.recSlots, recorder := t.recorder, raised := t.raised }
    let bin := (max 0 (min 31 ((s.getInt TH_TJ.TJ + 200) / 50))).toNat
    let place := if r.seq.toNat < 1024 then r.seq.toNat else 1024 + q.pos
    ((q.queue = [] ∨ q.erasing ≠ none) → exec (.recordWrite ok) s = .next s) ∧
    (q.queue = r :: rest → q.erasing = none → ∃ t, exec (.recordWrite ok) s = .next t ∧ t.recorder.queue = rest ∧
      t.recSlot place = some { r with good := ok } ∧ s.othersSame t State.recSlot place ∧
      (ok = true → t.rd R.REC_HEAD = r.seq ∧ t.raised = s.raised) ∧
      (ok = false → t.rd R.REC_HEAD = s.rd R.REC_HEAD ∧ t.raised.length = s.raised.length + 1) ∧
      (r.seq.toNat < 1024 → t.recorder.pos = q.pos ∧ t.recorder.erasing = none) ∧
      (1024 ≤ r.seq.toNat → t.recorder.pos = (q.pos + 1) % 8256 ∧
        t.recorder.erasing = if (q.pos + 1) % 8256 % 64 = 0 then some ((q.pos + 1) % 8256 / 64) else none) ∧ frame t) ∧
    (q.erasing = none → exec (.sectorEraseDone ok) s = .next s) ∧
    (q.erasing = some sec → (∃ t, exec (.sectorEraseDone true) s = .next t ∧ t.recorder.erasing = none ∧
        (∀ j, t.recSlot j = if 1024 + sec * 64 ≤ j ∧ j < 1088 + sec * 64 then none else s.recSlot j) ∧ t.raised = s.raised ∧
        frame t) ∧
      exec (.sectorEraseDone false) s = .next (s.raise Src.REC_FLASH (slot (0x3F10 + sec)))) ∧
    (∃ t, exec (.recSelWrite seq) s = .next t ∧ t.rd R.REC_SEL = seq ∧ t.bit REC_STAT.BUSY = true ∧ t.recorder.copy = some seq ∧
      t = { s with regs := t.regs, recorder := t.recorder }) ∧
    (q.copy = none → exec .recCopyDone s = .next s) ∧
    (q.copy = some seq → (∀ p ∈ s.recSlots, ∀ x, p.2 = some x → x.good = false ∨ x.seq ≠ seq) → ∃ t,
      exec .recCopyDone s = .next t ∧ t.bit REC_STAT.FOUND = false ∧ t.bit REC_STAT.BUSY = false ∧ t.recorder.copy = none ∧
      s.fieldsOnly t [REC_STAT.BUSY, REC_STAT.FOUND] ∧ frame t) ∧
    (q.copy = some seq → s.recSlots = [(k, some r)] → r.good = true → r.seq = seq → ∃ t, exec .recCopyDone s = .next t ∧
      t.bit REC_STAT.FOUND = true ∧ t.bit REC_STAT.BUSY = false ∧ (∀ i, i < 16 → t.rd (R.REC_DATA i) = r.data.getD i 0) ∧
      frame t) ∧
    (s.bit REC_CTRL.FLUSH = true → exec .recFlush s = .next s) ∧
    (s.bit REC_CTRL.FLUSH = false → s.get PWR_STAT.STATE ≠ 3 → q.queue.length < 256 → q.dropRun = false → ∃ t x,
      exec .recFlush s = .next t ∧ t.bit REC_CTRL.FLUSH = true ∧ t.recorder.queue = q.queue ++ [x] ∧ x.seq = q.next ∧
      (x.words.getD 0 0).extractLsb' 56 8 = 3 ∧ t.recorder.flush = some (q.next, false) ∧ t.lifeSave.isSome = true ∧
      t = { s with regs := t.regs, recorder := t.recorder, lifeSave := t.lifeSave, lastSave := t.lastSave }) ∧
    (Tick.diff s.lastSave s.tick < 900000000000 → exec .lifetimeSave s = .next s) ∧
    (900000000000 ≤ Tick.diff s.lastSave s.tick → s.lifeSave = none → exec .lifetimeSave s = .next { s with
      lifeSave := some (s.lifeNext, (s.rd R.LIF_GEN).toNat + 1, s.lifeSet ((s.rd R.LIF_GEN).toNat + 1)), lastSave := s.tick }) ∧
    (s.lifeSave = none → exec (.lifetimeSaveDone ok) s = .next s) ∧
    (s.lifeSave = some (sec, gen, set) → q.flush = none → ∃ t, exec (.lifetimeSaveDone ok) s = .next t ∧ t.lifeSave = none ∧
      t.lifeNext = (sec + 1) % 16 ∧ t.lifeCopy sec = (if ok then some (gen, set) else none) ∧
      s.othersSame t State.lifeCopy sec ∧ t.rd R.LIF_GEN = (if ok then BitVec.ofNat 32 gen else s.rd R.LIF_GEN) ∧
      t.raised = (if ok then s.raised else (s.raise Src.REC_FLASH (slot (0x3FA0 + sec))).raised) ∧
      t = { s with regs := t.regs, lifeSave := none, lifeNext := t.lifeNext, lifeCopies := t.lifeCopies, raised := t.raised }) ∧
    (∃ t, exec .lifetimeCountUpdate s = .next t ∧
      (t.lifeWord (1 + bin)).toNat = min ((s.lifeWord (1 + bin)).toNat + 1) (2 ^ 32 - 1) ∧
      (s.get REC_SECS.SECS = 3599 → t.get REC_SECS.SECS = 0 ∧ t.get REC_HOURS.HOURS = (s.get REC_HOURS.HOURS + 1) % 2 ^ 24) ∧
      (s.get REC_SECS.SECS < 3599 → t.get REC_SECS.SECS = s.get REC_SECS.SECS + 1 ∧
        t.get REC_HOURS.HOURS = s.get REC_HOURS.HOURS) ∧ t = { s with regs := t.regs, life := t.life }) ∧
    (∃ t, exec .lifSnap s = .next t ∧ (∀ i, i ≠ 0 → t.shadowWord i = s.lifeWord i) ∧ t.shadowWord 0 = s.rd R.LIF_GEN ∧
      t = { s with lifeShadow := t.lifeShadow }) ∧
    (s.get LIF_SEL.IDX < 364 → ∃ t, exec .lifDataRead s = .next t ∧ t.answered = some (s.shadowWord (s.get LIF_SEL.IDX)) ∧
      t.get LIF_SEL.IDX = s.get LIF_SEL.IDX + 1 ∧ t = { s with regs := t.regs, answered := t.answered })

/-- R406 to R418: resets and start-up. -/
def Obligations.ResetsAndStartUp : Prop :=
  ∀ (s : State) (key : BitVec 8) (chal : BitVec 64) (rail : Fin 6) (i0 i1 i2 i3 : Option (BitVec 24)) (cfg : Option (BitVec 130))
    (cal : List (Fin 270 × BitVec 512)) (k : Nat) (v : BitVec 24) (cz : Nat) (u : Tick),
    let y := s.sys
    let begun (c : Nat) (t : State) : Prop := t.stage = stg.resetting ∧ t.get BOOT_STAT.CAUSE = c ∧
      t.sys.resetting = some (c, s.tick) ∧ (∀ b, b < 64 → t.bit (DRV_CFG.SW_CLOSED b) = false) ∧
      ∀ n, n < 16 → t.bit (PRB_CFG.SW_CLOSED n) = false
    let kept (t : State) : Prop := t.pending = s.pending ∧ t.sdram = s.sdram ∧ t.flash = s.flash ∧ t.fuses = s.fuses ∧ t.tap = s.tap
    let cycled (t : State) : Prop := kept t ∧ t.tick = 0 ∧ t.stage = 0 ∧ t.raised = [] ∧ t.faultLog = [] ∧ t.pm = [] ∧
      t.get REC_PCYC.PCYC = (s.get REC_PCYC.PCYC + 1) % 2 ^ 24
    let done : Host.Outcome State Fault Refusal := exec (.bootStageDone i0 i1 i2 i3 cfg cal) s
    let at_ (n : Nat) : Prop := y.resetting = none ∧ y.pinLow = false ∧ s.stage = n
    let cause := s.get BOOT_STAT.CAUSE
    (y.pinLow = true → exec .resetNAssert s = .next s) ∧
    (y.pinLow = false → ∃ t, exec .resetNAssert s = .next t ∧ begun 1 t ∧ t.sys.pinLow = true) ∧
    (y.pinLow = true → exec .resetNRelease s = .next { s with sys := { y with pinLow := false, rose := s.tick } }) ∧
    (y.pinLow = false → exec .resetNRelease s = .next s) ∧
    (key ≠ 0x5A → exec (.bootReboot key) s = .next s) ∧ (∃ t, exec (.bootReboot 0x5A) s = .next t ∧ begun 4 t) ∧
    ((y.resetting = none ∨ s.allClamped = false) → exec .resetScopeApply s = .next s) ∧
    (y.resetting = some (cz, u) → cz < 8 → s.allClamped = true → ∃ t, exec .resetScopeApply s = .next t ∧ t.stage = 0 ∧
      t.get BOOT_STAT.CAUSE = cz ∧ t.sys.resetting = none ∧ kept t ∧ t.pilots = [] ∧ t.pounds = [] ∧ t.locks = [] ∧
      (cz = 2 → t.tick = s.tick ∧ t.pm = s.pm ∧ t.segs = s.segs ∧ t.faultLog = s.faultLog ∧ t.sys.rose = s.tick) ∧
      (cz ≠ 2 → t.tick = 0 ∧ t.pm = [] ∧ t.segs = [] ∧ t.faultLog = [] ∧ t.raised = [] ∧ t.ledgers = [] ∧ t.rings = [])) ∧
    (∃ t, exec (.powerOn chal) s = .next t ∧ cycled t ∧ t.sys.pinLow = true ∧ t.sys.challenge = chal) ∧
    (rail = 5 → ∃ t, exec (.supplyDip rail) s = .next t ∧ cycled t ∧ t.sys.pinLow = y.pinLow) ∧
    (rail ≠ 5 → exec (.supplyDip rail) s = .next (s.raise Src.SUPPLY_FAULT (slot rail))) ∧
    (s.stage = stg.ready → exec .pllUnlock s = .next (s.raise Src.PLL_UNLOCK [])) ∧
    (s.stage ≠ stg.ready → exec .pllUnlock s = .next s) ∧
    ((y.resetting ≠ none ∨ y.pinLow = true ∨ 8 ≤ s.stage) → done = .next s) ∧
    (at_ 0 → ∃ t, done = .next t ∧ t.stage = 1 ∧ t.bit SEC_STAT.KEYS_READY = !s.bit SEC_STAT.KEY_VOID ∧
      s.regsOnly t [BOOT_STAT.STAGE, SEC_STAT.KEYS_READY]) ∧
    (at_ 1 → done = .next (s.set BOOT_STAT.STAGE 2)) ∧
    (at_ 2 → newestSlot i0 i1 = some (k, v) → ∃ t, done = .next t ∧ t.stage = 3 ∧ t.get BOOT_STAT.FW_SLOT = k ∧ t.sys.fwVer = v ∧
      t.raised = (s.imageBad 0 i0 i1).raised ∧ t = { s with regs := t.regs, sys := t.sys, raised := t.raised }) ∧
    (at_ 2 → i0 = none → i1 = none → ∃ t, done = .next t ∧ t.stage = stg.recovery ∧
      ({ src := Src.BOOT_RECOVERY, tick := s.tick, slots := [], injected := false } : FaultIn) ∈ t.raised) ∧
    (at_ 3 → newestSlot i2 i3 = some (k, v) → ∃ t, done = .next t ∧ t.stage = 4 ∧ t.get BOOT_STAT.UC_SLOT = k ∧ t.sys.ucVer = v ∧
      (∀ b, b < 64 → t.bit (PLT_STAT.UC_VALID b) = true ∧ t.get (UC_VER.IMAGE b) = (v.extractLsb' 8 16).toNat ∧
        t.get (UC_VER.PATCH b) = (v.extractLsb' 0 8).toNat) ∧ t = { s with regs := t.regs, sys := t.sys, raised := t.raised }) ∧
    (at_ 4 → ∃ t, done = .next t ∧ t.stage = 5 ∧ t.bit BOOT_STAT.CFG_OK = cfg.isSome ∧
      (∀ w, cfg = some w → t.get MESH_CFG.ADDR = (w.extractLsb' 0 12).toNat ∧ t.get PWR_CTRL.TARGET = (w.extractLsb' 128 2).toNat) ∧
      (cfg = none → t.get MESH_CFG.ADDR = 0 ∧ t.get PWR_CTRL.TARGET = 0)) ∧
    (at_ 5 → ∃ t, done = .next t ∧ t.stage = 6 ∧
      t.tick = if cause = 3 ∨ (cause = 2 ∧ y.relock = false) then s.tick else 0) ∧
    (at_ 6 → ∃ t, done = .next t ∧ t.stage = 7 ∧ (cause = 2 ∨ cause = 3 → t = s.set BOOT_STAT.STAGE 7) ∧
      (cause ≠ 2 → cause ≠ 3 → s.lifeCopies = [] → t.life = [] ∧ t.rd R.LIF_GEN = 0 ∧
        t.raised = (s.raise Src.LIF_BAD []).raised)) ∧
    (at_ 7 → ∃ t, done = .next t ∧ t.stage = stg.ready ∧ t.gov.started = true ∧
      t.get GOV_STAT.VSET = s.get GOV_CFG.VSTART ∧ t.idleSince = s.tick ∧ (s.twinRole = role.solo → t.twin.takeLow = true))

/-- R409, R411, R422 to R424: flash window, test port and debug access. -/
def Obligations.FlashWindowTestPortAndDebug : Prop :=
  ∀ (s : State) (v : Word) (ok : Bool) (a : Nat) (tdi pins load : List Bool) (tok : BitVec 96) (u : Tick),
    let y := s.sys
    let at_ := s.get BOOT_FLW_ADDR.ADDR / 4 * 4
    let free : Prop := s.flashReach at_ = true ∧ y.flash = none
    let moved (t : State) : Prop := t.get BOOT_FLW_ADDR.ADDR = (at_ + 4) % 2 ^ 26
    let next (f : Tap) (c : Instr) : Prop := exec c s = .next { s with tap := f }
    let held := s.tap.held
    let p := { s.tap with driving := false }
    let tapOnly (t : State) : Prop := t = { s with regs := t.regs, sys := t.sys, tap := t.tap, raised := t.raised }
    (free → ∃ t, exec (.flashWindowWrite v) s = .next t ∧ t.sys.flash = some (false, at_) ∧ t.rd R.BOOT_FLW_DATA = v ∧
      t.bit BOOT_FLW_CTRL.BUSY = true ∧ moved t ∧ t = { s with regs := t.regs, sys := t.sys }) ∧
    (¬free → ∃ t, exec (.flashWindowWrite v) s = .next t ∧ t.bit BOOT_FLW_CTRL.REJ = true ∧ moved t ∧ t = { s with regs := t.regs }) ∧
    (s.flashReach at_ = true → ∃ t, exec .flashWindowRead s = .next t ∧ moved t ∧
      t.answered = some (s.flashByte (at_ + 3) ++ s.flashByte (at_ + 2) ++ s.flashByte (at_ + 1) ++ s.flashByte at_) ∧
      t = { s with regs := t.regs, answered := t.answered }) ∧
    (s.flashReach at_ = false → ∃ t, exec .flashWindowRead s = .next t ∧ moved t ∧ t.bit BOOT_FLW_CTRL.REJ = true ∧
      t = { s with regs := t.regs, answered := t.answered, freeCtr := t.freeCtr }) ∧
    (free → ∃ t, exec .flashWindowErase s = .next t ∧ t.sys.flash = some (true, at_) ∧ t.bit BOOT_FLW_CTRL.BUSY = true ∧
      t.bit BOOT_FLW_CTRL.ERASE = true ∧ t = { s with regs := t.regs, sys := t.sys }) ∧
    (¬free → exec .flashWindowErase s = .next (s.setBit BOOT_FLW_CTRL.REJ true)) ∧
    (y.flash = none → exec (.flashOpDone ok) s = .next s) ∧
    (y.flash = some (false, a) → ∃ t, exec (.flashOpDone true) s = .next t ∧ t.sys.flash = none ∧
      t.bit BOOT_FLW_CTRL.BUSY = false ∧ (∀ k, t.flashByte k = if a ≤ k ∧ k < a + 4 then
        s.flashByte k &&& (s.rd R.BOOT_FLW_DATA).extractLsb' (8 * (k - a)) 8 else s.flashByte k) ∧
      t = { s with regs := t.regs, sys := t.sys, flash := t.flash }) ∧
    (y.flash = some (true, a) → ∃ t, exec (.flashOpDone true) s = .next t ∧ t.sys.flash = none ∧
      t.bit BOOT_FLW_CTRL.BUSY = false ∧ t.bit BOOT_FLW_CTRL.ERASE = false ∧
      (∀ k, t.flashByte k = if k / 4096 = a / 4096 then 0xFF else s.flashByte k) ∧
      t = { s with regs := t.regs, sys := t.sys, flash := t.flash }) ∧
    (y.flash = some (false, a) → ∃ t, exec (.flashOpDone false) s = .next t ∧ t.sys.flash = none ∧
      t.raised = (s.raise Src.REC_FLASH (slot (a / 4096))).raised ∧
      (∀ k, (k < a ∨ a + 4 ≤ k) → t.flashByte k = s.flashByte k)) ∧
    (exec (.tapReset true) s = .next { s with tap := { s.tap with held := true, instr := 0x01, driving := false } }) ∧
    (exec (.tapReset false) s = .next { s with tap := { s.tap with held := false } }) ∧
    (held = true → ∀ c ∈ [Instr.tapBypass tdi, .tapIdcode, .tapSamplePreload pins load, .tapExtest, .dbgReqUpdate v,
      .ftTokenUpdate tok ok], exec c s = .next s) ∧
    (held = false →
      next { p with instr := 0xFF, out := (false :: tdi).take tdi.length } (.tapBypass tdi) ∧
      next { p with instr := 0x01, out := (List.range 32).map (fun i => (0x0641658B : Word).getLsbD i) } .tapIdcode ∧
      next { p with instr := 0x02, captured := pins, out := pins, preload := load } (.tapSamplePreload pins load) ∧
      (s.bit SEC_STAT.FACTORY = true → next { p with instr := 0x03, driving := true } .tapExtest) ∧
      (s.bit SEC_STAT.FACTORY = false → next { p with instr := 0xFF } .tapExtest) ∧
      (v ≠ 0x0D1B0A7E → next { p with instr := 0x10 } (.dbgReqUpdate v)) ∧
      (s.bit SEC_STAT.DBG_OPEN = false → y.zeroing = none → ∃ t, exec (.dbgReqUpdate 0x0D1B0A7E) s = .next t ∧
        t.bit SEC_STAT.KEY_VOID = true ∧ t.sys.zeroing = some s.tick ∧ t.tap = { p with instr := 0x10 } ∧
        t.raised = s.raised ∧ tapOnly t) ∧
      (s.bit SEC_STAT.DBG_OPEN = false → next { p with instr := 0xFF } (.ftTokenUpdate tok ok)) ∧
      (s.bit SEC_STAT.DBG_OPEN = true → 3 ≤ y.badTokens → next { p with instr := 0x12 } (.ftTokenUpdate tok ok)) ∧
      (s.bit SEC_STAT.DBG_OPEN = true → y.badTokens < 3 →
        (∃ t, exec (.ftTokenUpdate tok false) s = .next t ∧ t.sys.badTokens = y.badTokens + 1 ∧
          t.raised = (s.raise Src.DBG_TOKEN_BAD []).raised ∧ t.bit SEC_STAT.FACTORY = s.bit SEC_STAT.FACTORY ∧ tapOnly t) ∧
        ∃ t, exec (.ftTokenUpdate tok true) s = .next t ∧ t.bit SEC_STAT.FACTORY = true ∧
          (∀ b, b < 64 → t.bit (DRV_CFG.SW_CLOSED b) = false) ∧
          ({ src := Src.DBG_FACTORY, tick := s.tick, slots := [], injected := false } : FaultIn) ∈ t.raised)) ∧
    (y.zeroing = none → exec .keyZeroiseDone s = .next s) ∧
    (y.zeroing = some u → ∃ t, exec .keyZeroiseDone s = .next t ∧ t.bit SEC_STAT.DBG_OPEN = true ∧
      t.bit SEC_STAT.KEYS_READY = false ∧ t.rd R.SEC_CHAL_LO = y.challenge.extractLsb' 0 32 ∧
      t.rd R.SEC_CHAL_HI = y.challenge.extractLsb' 32 32 ∧ t.sys.zeroing = none ∧
      t.raised = (s.raise Src.DBG_OPEN []).raised ∧ tapOnly t)

/-- R3 to R5, R262, R423, R445, R449: register accesses. -/
def Obligations.RegisterAccesses : Prop :=
  ∀ (s : State) (a : BitVec 26) (v : Word) (q : Fin 2) (b : Fin 64) (i : Fin 1024) (wr : Option Word),
    let awake : Prop := s.get PWR_STAT.STATE ≠ 3
    let at_ (x : Nat) : BitVec 26 := BitVec.ofNat 26 x
    let up (x : Nat) : Prop := awake ∧ s.regDown x = false
    let p := { s.tap with driving := false }
    (awake → s.regDown a.toNat = true → (∃ t, exec (.registerWrite a v 0) s = .next t ∧ t.bit HIF_STAT.WR_DROP = true ∧
        (∀ f : Rf, f.addr < 0xC00000 ∨ 0xD00000 ≤ f.addr → t.get f = s.get f) ∧
        t = { s with regs := t.regs, rings := t.rings, raised := t.raised, noticesLost := t.noticesLost }) ∧
      exec (.registerWrite a v 1) s = .next s) ∧
    (up a.toNat → (a.toNat % 4 ≠ 0 ∨ (isBasin a.toNat = false ∧ regRow a.toNat = none)) → exec (.registerWrite a v q) s = .next s) ∧
    (up (R.PARAM b i) → ∃ t, exec (.registerWrite (at_ (R.PARAM b i)) v q) s = .next t ∧ t.rd (R.PARAM b i) = v ∧
      s.regsOnly t [⟨R.PARAM b i, 0, 32⟩]) ∧
    (up R.TIME_STAT → ∃ t, exec (.registerWrite (at_ R.TIME_STAT) v q) s = .next t ∧ s.regsOnly t []) ∧
    (up R.MESH_HOLD → ∃ t, exec (.registerWrite (at_ R.MESH_HOLD) v q) s = .next t ∧
      t.get MESH_HOLD.US = v.toNat % 2 ^ 16 ∧ s.regsOnly t [MESH_HOLD.US]) ∧
    (up R.EVT_SWFIRE → exec (.registerWrite (at_ R.EVT_SWFIRE) v q) s = exec (.evtSwfire (v.setWidth 8)) s) ∧
    (up (R.SYN_JMP b) → v.getLsbD 31 = true → exec (.registerWrite (at_ (R.SYN_JMP b)) v q) s = exec (.synJmpGo b v) s) ∧
    (up R.REC_SEL → exec (.registerWrite (at_ R.REC_SEL) v q) s = exec (.recSelWrite v) s) ∧
    (s.tap.held = true → exec (.dbgAccAccess a wr) s = .next s) ∧
    (s.tap.held = false → s.bit SEC_STAT.DBG_OPEN = false →
      exec (.dbgAccAccess a wr) s = .next { s with tap := { p with instr := 0xFF } }) ∧
    (s.tap.held = false → s.bit SEC_STAT.DBG_OPEN = true → up (R.PARAM b i) →
      (∃ t, exec (.dbgAccAccess (at_ (R.PARAM b i)) (some v)) s = .next t ∧ t.rd (R.PARAM b i) = v ∧ t.tap = { p with instr := 0x11 } ∧
        t = { s with regs := t.regs, tap := t.tap }) ∧
      ∃ t, exec (.dbgAccAccess (at_ (R.PARAM b i)) none) s = .next t ∧
        t.tap = { p with instr := 0x11, out := (List.range 32).map (fun j => (s.rd (R.PARAM b i)).getLsbD j) } ∧
        t.answered = some (s.rd (R.PARAM b i)) ∧ t = { s with regs := t.regs, tap := t.tap, answered := t.answered })

/-- R446 and the register tables: the device after reset. -/
def Obligations.ResetState : Prop :=
  let s := State.reset
  s.Canonical ∧ s.pending = [] ∧ s.tick = 0 ∧ s.stage = 0 ∧ s.regs = [] ∧ s.raised = [] ∧ s.faultLog = [] ∧ s.twinRole = role.solo ∧
  (∀ k, s.progWord k = 0) ∧ (∀ k, s.seg k = 0) ∧ (∀ k, s.flashByte k = 0xFF) ∧
  (∀ b, b < 64 → s.get (PLT_STAT.STATE b) = 0 ∧ s.get (PLT_TIME_CFG.MAX_LEAD b) = 0x10000 ∧
    s.get (PLT_TIME_CFG.RESUME_LEAD b) = 64 ∧ s.bit (DRV_CFG.EN b) = false) ∧
  (∀ n, n < 192 → s.get (FLT_REACT.SEV n) = faultSev n ∧ s.bit (FLT_REACT.ASSIGNED n) = faultAssigned n ∧
    s.bit (FLT_REACT.CHIP_RESET n) = (faultAssigned n && faultSev n == 3 && n != 98)) ∧
  (∀ m, m < 32 → s.get (MBX_CFG.PROD m) = (if m < 16 then 0 else 1) ∧ s.get (MBX_CFG.CONS m) = (if m < 16 then 1 else 0) ∧
    s.bit (MBX_CFG.NOTIFY m) = true) ∧
  (∀ c, c < 256 → s.bit (EVT_CH_CFG.EN c) = true) ∧ s.get EVT_GRP_EN.EN = 0xFFFFFFFF ∧ s.get MESH_HOLD.US = 1000 ∧
  s.get TIME_STAT.HOPS = 31 ∧ s.get TIME_STAT.PARENT = 7 ∧ s.get GOV_STAT.VSET = 20 ∧ s.get GOV_CFG.VMAX = 30 ∧
  s.get TWIN_CFG.RF_SETTLE = 20 ∧ s.get REC_CFG.MIN_SEV = 1 ∧ s.bit FLT_CFG.ERR_LATCH = true

/-- The canonical form of the stores is an invariant of the step: no command and no tick leaves a store out of order or holding a
default. -/
def Obligations.StepKeepsCanonicalForm : Prop := ∀ s t : State, s.Canonical → step s = .next t → t.Canonical

/-- What no other command may change. The queue is the model's own (log 1); a late decision's entry is amended by log 5. -/
def Obligations.CommandsStayInTheirPlace : Prop :=
  ∀ (c : Instr) (s t : State), exec c s = .next t →
    t.pending = s.pending ∧
    (match c with
      | .timeNormalSwitch | .resetScopeApply | .powerOn _ | .supplyDip _ | .bootStageDone .. => True
      | _ => t.tick = s.tick) ∧
    (match c with
      | .acqRecordWrite .. | .acqEndRecords .. | .loadSegment _ | .streamSegment _ => True
      | _ => t.sdram = s.sdram) ∧
    (match c with
      | .faultRaise | .decisionDelivery .. | .powerStateEntry | .resetScopeApply | .powerOn _ | .supplyDip _ => True
      | _ => t.faultLog = s.faultLog) ∧
    (match c with
      | .flashOpDone _ => True
      | _ => t.flash = s.flash) ∧
    (match c with
      | .tapReset _ | .tapBypass _ | .tapIdcode | .tapSamplePreload .. | .tapExtest | .dbgReqUpdate _ | .dbgAccAccess ..
      | .ftTokenUpdate .. => True
      | _ => t.tap = s.tap)

/-- R98 to R104: the decoder reads back what the encoder writes. -/
def Obligations.PilotWordsDecodeAsEncoded : Prop :=
  ∀ (i : PInstr) (next : Word), i.encodable = true →
    decodePilot (encodePilot i).1 ((encodePilot i).2.getD next) = some (i, if (encodePilot i).2.isSome then 2 else 1)
end

