-- ==== Sys2Proof/Laws/Store.lean ====
section
/-! SUPPORT. The sparse store: a read after a write, and the canonical form. -/

namespace Sys2Proof.Machine

variable {α : Type}

theorem Store.read_drop_ne (d : Nat → α) (m : Store α) {k k' : Nat} (h : k' ≠ k) :
    Store.read d (Store.drop m k) k' = Store.read d m k' := by
  induction m with
  | nil => rfl
  | cons p t ih =>
    obtain ⟨j, w⟩ := p
    by_cases hj : j = k
    · subst hj; simpa [Store.drop, Store.read, Ne.symm h] using ih
    · by_cases hk : j = k' <;> simp_all [Store.drop, Store.read]

theorem Store.read_drop_same (d : Nat → α) (m : Store α) (k : Nat) : Store.read d (Store.drop m k) k = d k := by
  induction m with
  | nil => rfl
  | cons p t ih =>
    obtain ⟨j, w⟩ := p
    by_cases hj : j = k <;> simp_all [Store.drop, Store.read]

theorem Store.read_insert_same (d : Nat → α) (m : Store α) (k : Nat) (v : α) :
    Store.read d (Store.insert (Store.drop m k) k v) k = v := by
  induction m with
  | nil => simp [Store.drop, Store.insert, Store.read]
  | cons p t ih =>
    obtain ⟨j, w⟩ := p
    by_cases hj : j = k
    · simpa [Store.drop, hj] using ih
    · have hd : Store.drop ((j, w) :: t) k = (j, w) :: Store.drop t k := by simp [Store.drop, hj]
      rw [hd]
      by_cases hl : j < k <;> simp [Store.insert, Store.read, hl, hj, ih]

theorem Store.read_insert_ne (d : Nat → α) (m : Store α) {k k' : Nat} (v : α) (h : k' ≠ k) :
    Store.read d (Store.insert m k v) k' = Store.read d m k' := by
  induction m with
  | nil => simp [Store.insert, Store.read, Ne.symm h]
  | cons p t ih =>
    obtain ⟨j, w⟩ := p
    by_cases hl : j < k <;> simp [Store.insert, Store.read, hl, ih, Ne.symm h]

/-- A read of the key just written gives the value written. -/
@[simp] theorem Store.read_write_same [DecidableEq α] (d : Nat → α) (m : Store α) (k : Nat) (v : α) :
    Store.read d (Store.write d m k v) k = v := by
  by_cases h : v = d k <;> simp [Store.write, h, Store.read_drop_same, Store.read_insert_same]

/-- A write leaves every other key as it was. -/
theorem Store.read_write_ne [DecidableEq α] (d : Nat → α) (m : Store α) {k k' : Nat} (v : α) (h : k' ≠ k) :
    Store.read d (Store.write d m k v) k' = Store.read d m k' := by
  by_cases hv : v = d k <;> simp [Store.write, hv, Store.read_drop_ne d m h, Store.read_insert_ne d _ v h]

/-- A read after a write. -/
theorem Store.read_write [DecidableEq α] (d : Nat → α) (m : Store α) (k k' : Nat) (v : α) :
    Store.read d (Store.write d m k v) k' = if k' = k then v else Store.read d m k' := by
  by_cases h : k' = k
  · subst h; simp
  · simp [h, Store.read_write_ne d m v h]

/-- Keys rising, and no entry holding its key's default. -/
theorem Store.wf_cons [DecidableEq α] (d : Nat → α) (k : Nat) (v : α) (t : Store α) :
    Store.wf d ((k, v) :: t) = true ↔ v ≠ d k ∧ (∀ p ∈ t, k < p.1) ∧ Store.wf d t = true := by
  induction t generalizing k v with
  | nil => simp [Store.wf]
  | cons p t ih =>
    obtain ⟨j, w⟩ := p
    rw [Store.wf]
    constructor
    · intro h
      simp only [Bool.and_eq_true, decide_eq_true_eq] at h
      refine ⟨h.1.1, ?_, h.2⟩
      rintro q hq
      rcases List.mem_cons.mp hq with rfl | hq
      · exact h.1.2
      · exact Nat.lt_trans h.1.2 (((ih j w).mp h.2).2.1 q hq)
    · rintro ⟨h1, h2, h3⟩
      simp only [Bool.and_eq_true, decide_eq_true_eq]
      exact ⟨⟨h1, h2 _ (List.mem_cons_self ..)⟩, h3⟩

theorem Store.wf_filter [DecidableEq α] (d : Nat → α) (f : Nat × α → Bool) {m : Store α} (h : Store.wf d m = true) :
    Store.wf d (m.filter f) = true := by
  induction m with
  | nil => rfl
  | cons p t ih =>
    obtain ⟨j, w⟩ := p
    obtain ⟨h1, h2, h3⟩ := (Store.wf_cons ..).mp h
    by_cases hf : f (j, w) = true
    · simp only [List.filter_cons, hf, if_true]
      exact (Store.wf_cons ..).mpr ⟨h1, fun q hq => h2 q (List.mem_filter.mp hq).1, ih h3⟩
    · simpa [List.filter_cons, hf] using ih h3

theorem Store.mem_insert {m : Store α} {k : Nat} {v : α} {q : Nat × α} (h : q ∈ Store.insert m k v) : q = (k, v) ∨ q ∈ m := by
  induction m with
  | nil => simpa [Store.insert] using h
  | cons p t ih =>
    obtain ⟨j, w⟩ := p
    by_cases hl : j < k
    · simp only [Store.insert, hl, if_true, List.mem_cons] at h
      rcases h with h | h
      · simp [h]
      · rcases ih h with h | h <;> simp [h]
    · simpa [Store.insert, hl] using h

/-- A write keeps the canonical form. -/
theorem Store.wf_write [DecidableEq α] (d : Nat → α) {m : Store α} (h : Store.wf d m = true) (k : Nat) (v : α) :
    Store.wf d (Store.write d m k v) = true := by
  have hd := Store.wf_filter d (fun p => p.1 != k) h
  by_cases hv : v = d k
  · simpa [Store.write, hv, Store.drop] using hd
  · simp only [Store.write, hv, if_false]
    have hn : ∀ p ∈ Store.drop m k, p.1 ≠ k := by simp [Store.drop]
    revert hd hn
    change Store.wf d (Store.drop m k) = true → _
    generalize Store.drop m k = n
    intro hw hn
    induction n with
    | nil => simp [Store.insert, Store.wf, hv]
    | cons p t ih =>
      obtain ⟨j, w⟩ := p
      obtain ⟨h1, h2, h3⟩ := (Store.wf_cons ..).mp hw
      by_cases hl : j < k
      · simp only [Store.insert, hl, if_true]
        refine (Store.wf_cons ..).mpr ⟨h1, ?_, ih h3 fun q hq => hn q (List.mem_cons_of_mem _ hq)⟩
        intro q hq
        rcases Store.mem_insert hq with rfl | hq
        · exact hl
        · exact h2 q hq
      · simp only [Store.insert, hl, if_false]
        have hj : k < j := by have := hn (j, w) (List.mem_cons_self ..); simp at this; omega
        refine (Store.wf_cons ..).mpr ⟨hv, ?_, hw⟩
        intro q hq
        rcases List.mem_cons.mp hq with rfl | hq
        · exact hj
        · exact Nat.lt_trans hj (h2 q hq)

/-- A block write keeps the canonical form. -/
theorem Store.wf_writeList [DecidableEq α] (d : Nat → α) {m : Store α} (h : Store.wf d m = true) (k : Nat) (vs : List α) :
    Store.wf d (Store.writeList d m k vs) = true := by
  induction vs generalizing m k with
  | nil => exact h
  | cons v vs ih => exact ih (Store.wf_write d h k v) _

end Sys2Proof.Machine
end

