-- ==== Sys2Proof/Laws/State.lean ====
section
/-! SUPPORT. Reading the state after one of its named updates: register fields, records by number, and for each update the
fields it leaves alone. -/

namespace Sys2Proof.Machine

/-! ## Register fields -/

/-- Bit `i` of a word one of whose fields was replaced. -/
theorem fieldSet_getLsbD (w : Word) (lo len v i : Nat) (h : i < 32) :
    (fieldSet w lo len v).getLsbD i = if lo ≤ i ∧ i < lo + len then v.testBit (i - lo) else w.getLsbD i := by
  have hm : (BitVec.ofNat 32 ((2 ^ len - 1) <<< lo)).getLsbD i = decide (lo ≤ i ∧ i < lo + len) := by
    rw [BitVec.getLsbD_ofNat, Nat.testBit_shiftLeft, Nat.testBit_two_pow_sub_one]
    by_cases hl : lo ≤ i
    · have : (i - lo < len) = (i < lo + len) := by simp; omega
      simp [hl, h, this]
    · simp [hl]
  simp only [fieldSet, BitVec.getLsbD_or, BitVec.getLsbD_and, BitVec.getLsbD_not, hm, h]
  by_cases hr : lo ≤ i ∧ i < lo + len
  · rw [BitVec.getLsbD_ofNat, Nat.testBit_shiftLeft]
    simp [hr, h]
  · simp [hr]

/-- The field just set reads as the value, cut to the field's width. -/
theorem fieldOf_fieldSet_same (w : Word) (lo len v : Nat) (h : lo + len ≤ 32) :
    fieldOf (fieldSet w lo len v) lo len = v % 2 ^ len := by
  apply Nat.eq_of_testBit_eq
  intro i
  rw [fieldOf, Nat.testBit_mod_two_pow, Nat.testBit_mod_two_pow, Nat.testBit_shiftRight]
  by_cases hi : i < len
  · have := fieldSet_getLsbD w lo len v (lo + i) (by omega)
    simp only [BitVec.getLsbD] at this
    rw [this]
    simp [hi]
  · simp [hi]

/-- Fields that share no bit do not disturb each other. -/
theorem fieldOf_fieldSet_other (w : Word) (lo len lo' len' v : Nat) (h : lo' + len' ≤ 32)
    (hd : lo + len ≤ lo' ∨ lo' + len' ≤ lo) : fieldOf (fieldSet w lo len v) lo' len' = fieldOf w lo' len' := by
  apply Nat.eq_of_testBit_eq
  intro i
  rw [fieldOf, fieldOf, Nat.testBit_mod_two_pow, Nat.testBit_mod_two_pow, Nat.testBit_shiftRight, Nat.testBit_shiftRight]
  by_cases hi : i < len'
  · have := fieldSet_getLsbD w lo len v (lo' + i) (by omega)
    simp only [BitVec.getLsbD] at this
    rw [this]
    have : ¬(lo ≤ lo' + i ∧ lo' + i < lo + len) := by omega
    simp [this]
  · simp [hi]

/-- A register after a register write. -/
theorem State.rd_wr (s : State) (a b : Nat) (w : Word) : (s.wr a w).rd b = if b = a then w else s.rd b := by
  simp [State.rd, State.wr, Store.read_write]

@[simp] theorem State.rd_wr_same (s : State) (a : Nat) (w : Word) : (s.wr a w).rd a = w := by simp [State.rd_wr]

theorem State.rd_wr_ne (s : State) {a b : Nat} (w : Word) (h : b ≠ a) : (s.wr a w).rd b = s.rd b := by simp [State.rd_wr, h]

/-- A register after a field was set: another register keeps its word. -/
theorem State.rd_set_ne (s : State) (f : Rf) (v : Nat) {b : Nat} (h : b ≠ f.addr) : (s.set f v).rd b = s.rd b :=
  State.rd_wr_ne s _ h

/-- The field just set. -/
theorem State.get_set_same (s : State) (f : Rf) (v : Nat) (h : f.lo + f.len ≤ 32) : (s.set f v).get f = v % 2 ^ f.len := by
  simp [State.get, State.set, fieldOf_fieldSet_same _ _ _ _ h]

/-- A field of another register. -/
theorem State.get_set_ne (s : State) (f g : Rf) (v : Nat) (h : g.addr ≠ f.addr) : (s.set f v).get g = s.get g := by
  simp [State.get, State.set, State.rd_wr_ne _ _ h]

/-- Another field of the same register. -/
theorem State.get_set_disjoint (s : State) (f g : Rf) (v : Nat) (hw : g.lo + g.len ≤ 32)
    (h : f.lo + f.len ≤ g.lo ∨ g.lo + g.len ≤ f.lo) : (s.set f v).get g = s.get g := by
  by_cases ha : g.addr = f.addr
  · simp [State.get, State.set, ha, fieldOf_fieldSet_other _ _ _ _ _ _ hw h]
  · exact State.get_set_ne s f g v ha

theorem State.get_wr_ne (s : State) (a : Nat) (w : Word) (g : Rf) (h : g.addr ≠ a) : (s.wr a w).get g = s.get g := by
  simp [State.get, State.rd_wr_ne _ _ h]

/-! ## Updates written over others -/

theorem State.setBit_eq (s : State) (f : Rf) (b : Bool) : s.setBit f b = s.set f (if b then 1 else 0) := rfl
theorem State.set_eq (s : State) (f : Rf) (v : Nat) : s.set f v = s.wr f.addr (fieldSet (s.rd f.addr) f.lo f.len v) := rfl
@[simp] theorem State.when_true (s : State) (f : State → State) : s.when true f = f s := rfl
@[simp] theorem State.when_false (s : State) (f : State → State) : s.when false f = s := rfl
@[simp] theorem State.each_nil {α : Type} (s : State) (f : State → α → State) : s.each [] f = s := rfl
@[simp] theorem State.each_cons {α : Type} (s : State) (a : α) (l : List α) (f : State → α → State) :
    s.each (a :: l) f = (f s a).each l f := rfl

/-! ## What each named update leaves alone -/

@[simp] theorem State.wr_frame (s : State) (a : Nat) (w : Word) :
    (s.wr a w).pending = s.pending ∧ (s.wr a w).tick = s.tick ∧ (s.wr a w).freeCtr = s.freeCtr ∧ (s.wr a w).wide = s.wide ∧
    (s.wr a w).raised = s.raised ∧ (s.wr a w).faultLog = s.faultLog ∧ (s.wr a w).pulses = s.pulses ∧ (s.wr a w).holdOn = s.holdOn ∧
    (s.wr a w).answered = s.answered ∧ (s.wr a w).ucScrub = s.ucScrub ∧ (s.wr a w).govMon = s.govMon ∧ (s.wr a w).pilots = s.pilots ∧
    (s.wr a w).pounds = s.pounds ∧ (s.wr a w).pm = s.pm ∧ (s.wr a w).ledgers = s.ledgers ∧ (s.wr a w).locks = s.locks ∧ (s.wr a w).ctxs = s.ctxs ∧
    (s.wr a w).outs = s.outs ∧ (s.wr a w).xbarWait = s.xbarWait ∧ (s.wr a w).xbarQueue = s.xbarQueue ∧ (s.wr a w).xbarServed = s.xbarServed ∧
    (s.wr a w).owed = s.owed ∧ (s.wr a w).lastEntry = s.lastEntry ∧ (s.wr a w).paths = s.paths ∧ (s.wr a w).muteds = s.muteds ∧
    (s.wr a w).fetches = s.fetches ∧ (s.wr a w).synOrigin = s.synOrigin ∧ (s.wr a w).maxPlays = s.maxPlays ∧ (s.wr a w).sdram = s.sdram ∧
    (s.wr a w).basinNext = s.basinNext ∧ (s.wr a w).sbufs = s.sbufs ∧ (s.wr a w).segs = s.segs ∧ (s.wr a w).mrkPins = s.mrkPins ∧
    (s.wr a w).mrkLines = s.mrkLines ∧ (s.wr a w).fluxes = s.fluxes ∧ (s.wr a w).demods = s.demods ∧ (s.wr a w).inputs = s.inputs ∧
    (s.wr a w).decMade = s.decMade ∧ (s.wr a w).winResults = s.winResults ∧ (s.wr a w).jobsDue = s.jobsDue ∧ (s.wr a w).partials = s.partials ∧
    (s.wr a w).acqs = s.acqs ∧ (s.wr a w).admQueue = s.admQueue ∧ (s.wr a w).flitsOut = s.flitsOut ∧ (s.wr a w).localFires = s.localFires ∧
    (s.wr a w).armHeld = s.armHeld ∧ (s.wr a w).kerns = s.kerns ∧ (s.wr a w).convs = s.convs ∧ (s.wr a w).fuses = s.fuses ∧
    (s.wr a w).fuseJob = s.fuseJob ∧ (s.wr a w).selfCal = s.selfCal ∧ (s.wr a w).twWait = s.twWait ∧ (s.wr a w).time = s.time ∧
    (s.wr a w).meshPorts = s.meshPorts ∧ (s.wr a w).groupSeen = s.groupSeen ∧ (s.wr a w).rings = s.rings ∧ (s.wr a w).cmdSeq = s.cmdSeq ∧
    (s.wr a w).ringTurn = s.ringTurn ∧ (s.wr a w).noticesLost = s.noticesLost ∧ (s.wr a w).hostWrite = s.hostWrite ∧ (s.wr a w).lanes = s.lanes ∧
    (s.wr a w).mbxs = s.mbxs ∧ (s.wr a w).evtChs = s.evtChs ∧ (s.wr a w).firings = s.firings ∧ (s.wr a w).groupTasks = s.groupTasks ∧
    (s.wr a w).evtOuts = s.evtOuts ∧ (s.wr a w).evtIns = s.evtIns ∧ (s.wr a w).tmrs = s.tmrs ∧ (s.wr a w).mcoreIrq = s.mcoreIrq ∧
    (s.wr a w).twin = s.twin ∧ (s.wr a w).logs = s.logs ∧ (s.wr a w).logWait = s.logWait ∧ (s.wr a w).twinBias = s.twinBias ∧
    (s.wr a w).mirrored = s.mirrored ∧ (s.wr a w).therm = s.therm ∧ (s.wr a w).gov = s.gov ∧ (s.wr a w).mon = s.mon ∧
    (s.wr a w).idleSince = s.idleSince ∧ (s.wr a w).reacts = s.reacts ∧ (s.wr a w).logSeq = s.logSeq ∧ (s.wr a w).errUntil = s.errUntil ∧
    (s.wr a w).errPin = s.errPin ∧ (s.wr a w).recorder = s.recorder ∧ (s.wr a w).recSlots = s.recSlots ∧ (s.wr a w).life = s.life ∧
    (s.wr a w).lifeShadow = s.lifeShadow ∧ (s.wr a w).lifeCopies = s.lifeCopies ∧ (s.wr a w).lifeSave = s.lifeSave ∧ (s.wr a w).lifeNext = s.lifeNext ∧
    (s.wr a w).lastSave = s.lastSave ∧ (s.wr a w).flash = s.flash ∧ (s.wr a w).sys = s.sys ∧ (s.wr a w).tap = s.tap :=
  by repeat (first | exact rfl | refine ⟨rfl, ?_⟩)

@[simp] theorem State.set_frame (s : State) (f : Rf) (v : Nat) :
    (s.set f v).pending = s.pending ∧ (s.set f v).tick = s.tick ∧ (s.set f v).freeCtr = s.freeCtr ∧ (s.set f v).wide = s.wide ∧
    (s.set f v).raised = s.raised ∧ (s.set f v).faultLog = s.faultLog ∧ (s.set f v).pulses = s.pulses ∧ (s.set f v).holdOn = s.holdOn ∧
    (s.set f v).answered = s.answered ∧ (s.set f v).ucScrub = s.ucScrub ∧ (s.set f v).govMon = s.govMon ∧ (s.set f v).pilots = s.pilots ∧
    (s.set f v).pounds = s.pounds ∧ (s.set f v).pm = s.pm ∧ (s.set f v).ledgers = s.ledgers ∧ (s.set f v).locks = s.locks ∧ (s.set f v).ctxs = s.ctxs ∧
    (s.set f v).outs = s.outs ∧ (s.set f v).xbarWait = s.xbarWait ∧ (s.set f v).xbarQueue = s.xbarQueue ∧ (s.set f v).xbarServed = s.xbarServed ∧
    (s.set f v).owed = s.owed ∧ (s.set f v).lastEntry = s.lastEntry ∧ (s.set f v).paths = s.paths ∧ (s.set f v).muteds = s.muteds ∧
    (s.set f v).fetches = s.fetches ∧ (s.set f v).synOrigin = s.synOrigin ∧ (s.set f v).maxPlays = s.maxPlays ∧ (s.set f v).sdram = s.sdram ∧
    (s.set f v).basinNext = s.basinNext ∧ (s.set f v).sbufs = s.sbufs ∧ (s.set f v).segs = s.segs ∧ (s.set f v).mrkPins = s.mrkPins ∧
    (s.set f v).mrkLines = s.mrkLines ∧ (s.set f v).fluxes = s.fluxes ∧ (s.set f v).demods = s.demods ∧ (s.set f v).inputs = s.inputs ∧
    (s.set f v).decMade = s.decMade ∧ (s.set f v).winResults = s.winResults ∧ (s.set f v).jobsDue = s.jobsDue ∧ (s.set f v).partials = s.partials ∧
    (s.set f v).acqs = s.acqs ∧ (s.set f v).admQueue = s.admQueue ∧ (s.set f v).flitsOut = s.flitsOut ∧ (s.set f v).localFires = s.localFires ∧
    (s.set f v).armHeld = s.armHeld ∧ (s.set f v).kerns = s.kerns ∧ (s.set f v).convs = s.convs ∧ (s.set f v).fuses = s.fuses ∧
    (s.set f v).fuseJob = s.fuseJob ∧ (s.set f v).selfCal = s.selfCal ∧ (s.set f v).twWait = s.twWait ∧ (s.set f v).time = s.time ∧
    (s.set f v).meshPorts = s.meshPorts ∧ (s.set f v).groupSeen = s.groupSeen ∧ (s.set f v).rings = s.rings ∧ (s.set f v).cmdSeq = s.cmdSeq ∧
    (s.set f v).ringTurn = s.ringTurn ∧ (s.set f v).noticesLost = s.noticesLost ∧ (s.set f v).hostWrite = s.hostWrite ∧ (s.set f v).lanes = s.lanes ∧
    (s.set f v).mbxs = s.mbxs ∧ (s.set f v).evtChs = s.evtChs ∧ (s.set f v).firings = s.firings ∧ (s.set f v).groupTasks = s.groupTasks ∧
    (s.set f v).evtOuts = s.evtOuts ∧ (s.set f v).evtIns = s.evtIns ∧ (s.set f v).tmrs = s.tmrs ∧ (s.set f v).mcoreIrq = s.mcoreIrq ∧
    (s.set f v).twin = s.twin ∧ (s.set f v).logs = s.logs ∧ (s.set f v).logWait = s.logWait ∧ (s.set f v).twinBias = s.twinBias ∧
    (s.set f v).mirrored = s.mirrored ∧ (s.set f v).therm = s.therm ∧ (s.set f v).gov = s.gov ∧ (s.set f v).mon = s.mon ∧
    (s.set f v).idleSince = s.idleSince ∧ (s.set f v).reacts = s.reacts ∧ (s.set f v).logSeq = s.logSeq ∧ (s.set f v).errUntil = s.errUntil ∧
    (s.set f v).errPin = s.errPin ∧ (s.set f v).recorder = s.recorder ∧ (s.set f v).recSlots = s.recSlots ∧ (s.set f v).life = s.life ∧
    (s.set f v).lifeShadow = s.lifeShadow ∧ (s.set f v).lifeCopies = s.lifeCopies ∧ (s.set f v).lifeSave = s.lifeSave ∧
    (s.set f v).lifeNext = s.lifeNext ∧ (s.set f v).lastSave = s.lastSave ∧ (s.set f v).flash = s.flash ∧ (s.set f v).sys = s.sys ∧
    (s.set f v).tap = s.tap :=
  by repeat (first | exact rfl | refine ⟨rfl, ?_⟩)

@[simp] theorem State.setBit_frame (s : State) (f : Rf) (b : Bool) :
    (s.setBit f b).pending = s.pending ∧ (s.setBit f b).tick = s.tick ∧ (s.setBit f b).freeCtr = s.freeCtr ∧ (s.setBit f b).wide = s.wide ∧
    (s.setBit f b).raised = s.raised ∧ (s.setBit f b).faultLog = s.faultLog ∧ (s.setBit f b).pulses = s.pulses ∧ (s.setBit f b).holdOn = s.holdOn ∧
    (s.setBit f b).answered = s.answered ∧ (s.setBit f b).ucScrub = s.ucScrub ∧ (s.setBit f b).govMon = s.govMon ∧ (s.setBit f b).pilots = s.pilots ∧
    (s.setBit f b).pounds = s.pounds ∧ (s.setBit f b).pm = s.pm ∧ (s.setBit f b).ledgers = s.ledgers ∧ (s.setBit f b).locks = s.locks ∧
    (s.setBit f b).ctxs = s.ctxs ∧ (s.setBit f b).outs = s.outs ∧ (s.setBit f b).xbarWait = s.xbarWait ∧ (s.setBit f b).xbarQueue = s.xbarQueue ∧
    (s.setBit f b).xbarServed = s.xbarServed ∧ (s.setBit f b).owed = s.owed ∧ (s.setBit f b).lastEntry = s.lastEntry ∧ (s.setBit f b).paths = s.paths ∧
    (s.setBit f b).muteds = s.muteds ∧ (s.setBit f b).fetches = s.fetches ∧ (s.setBit f b).synOrigin = s.synOrigin ∧
    (s.setBit f b).maxPlays = s.maxPlays ∧ (s.setBit f b).sdram = s.sdram ∧ (s.setBit f b).basinNext = s.basinNext ∧ (s.setBit f b).sbufs = s.sbufs ∧
    (s.setBit f b).segs = s.segs ∧ (s.setBit f b).mrkPins = s.mrkPins ∧ (s.setBit f b).mrkLines = s.mrkLines ∧ (s.setBit f b).fluxes = s.fluxes ∧
    (s.setBit f b).demods = s.demods ∧ (s.setBit f b).inputs = s.inputs ∧ (s.setBit f b).decMade = s.decMade ∧ (s.setBit f b).winResults = s.winResults ∧
    (s.setBit f b).jobsDue = s.jobsDue ∧ (s.setBit f b).partials = s.partials ∧ (s.setBit f b).acqs = s.acqs ∧ (s.setBit f b).admQueue = s.admQueue ∧
    (s.setBit f b).flitsOut = s.flitsOut ∧ (s.setBit f b).localFires = s.localFires ∧ (s.setBit f b).armHeld = s.armHeld ∧
    (s.setBit f b).kerns = s.kerns ∧ (s.setBit f b).convs = s.convs ∧ (s.setBit f b).fuses = s.fuses ∧ (s.setBit f b).fuseJob = s.fuseJob ∧
    (s.setBit f b).selfCal = s.selfCal ∧ (s.setBit f b).twWait = s.twWait ∧ (s.setBit f b).time = s.time ∧ (s.setBit f b).meshPorts = s.meshPorts ∧
    (s.setBit f b).groupSeen = s.groupSeen ∧ (s.setBit f b).rings = s.rings ∧ (s.setBit f b).cmdSeq = s.cmdSeq ∧ (s.setBit f b).ringTurn = s.ringTurn ∧
    (s.setBit f b).noticesLost = s.noticesLost ∧ (s.setBit f b).hostWrite = s.hostWrite ∧ (s.setBit f b).lanes = s.lanes ∧ (s.setBit f b).mbxs = s.mbxs ∧
    (s.setBit f b).evtChs = s.evtChs ∧ (s.setBit f b).firings = s.firings ∧ (s.setBit f b).groupTasks = s.groupTasks ∧
    (s.setBit f b).evtOuts = s.evtOuts ∧ (s.setBit f b).evtIns = s.evtIns ∧ (s.setBit f b).tmrs = s.tmrs ∧ (s.setBit f b).mcoreIrq = s.mcoreIrq ∧
    (s.setBit f b).twin = s.twin ∧ (s.setBit f b).logs = s.logs ∧ (s.setBit f b).logWait = s.logWait ∧ (s.setBit f b).twinBias = s.twinBias ∧
    (s.setBit f b).mirrored = s.mirrored ∧ (s.setBit f b).therm = s.therm ∧ (s.setBit f b).gov = s.gov ∧ (s.setBit f b).mon = s.mon ∧
    (s.setBit f b).idleSince = s.idleSince ∧ (s.setBit f b).reacts = s.reacts ∧ (s.setBit f b).logSeq = s.logSeq ∧ (s.setBit f b).errUntil = s.errUntil ∧
    (s.setBit f b).errPin = s.errPin ∧ (s.setBit f b).recorder = s.recorder ∧ (s.setBit f b).recSlots = s.recSlots ∧ (s.setBit f b).life = s.life ∧
    (s.setBit f b).lifeShadow = s.lifeShadow ∧ (s.setBit f b).lifeCopies = s.lifeCopies ∧ (s.setBit f b).lifeSave = s.lifeSave ∧
    (s.setBit f b).lifeNext = s.lifeNext ∧ (s.setBit f b).lastSave = s.lastSave ∧ (s.setBit f b).flash = s.flash ∧ (s.setBit f b).sys = s.sys ∧
    (s.setBit f b).tap = s.tap :=
  by repeat (first | exact rfl | refine ⟨rfl, ?_⟩)

@[simp] theorem State.bump_frame (s : State) (f : Rf) (n : Nat) :
    (s.bump f n).pending = s.pending ∧ (s.bump f n).tick = s.tick ∧ (s.bump f n).freeCtr = s.freeCtr ∧ (s.bump f n).wide = s.wide ∧
    (s.bump f n).raised = s.raised ∧ (s.bump f n).faultLog = s.faultLog ∧ (s.bump f n).pulses = s.pulses ∧ (s.bump f n).holdOn = s.holdOn ∧
    (s.bump f n).answered = s.answered ∧ (s.bump f n).ucScrub = s.ucScrub ∧ (s.bump f n).govMon = s.govMon ∧ (s.bump f n).pilots = s.pilots ∧
    (s.bump f n).pounds = s.pounds ∧ (s.bump f n).pm = s.pm ∧ (s.bump f n).ledgers = s.ledgers ∧ (s.bump f n).locks = s.locks ∧
    (s.bump f n).ctxs = s.ctxs ∧ (s.bump f n).outs = s.outs ∧ (s.bump f n).xbarWait = s.xbarWait ∧ (s.bump f n).xbarQueue = s.xbarQueue ∧
    (s.bump f n).xbarServed = s.xbarServed ∧ (s.bump f n).owed = s.owed ∧ (s.bump f n).lastEntry = s.lastEntry ∧ (s.bump f n).paths = s.paths ∧
    (s.bump f n).muteds = s.muteds ∧ (s.bump f n).fetches = s.fetches ∧ (s.bump f n).synOrigin = s.synOrigin ∧ (s.bump f n).maxPlays = s.maxPlays ∧
    (s.bump f n).sdram = s.sdram ∧ (s.bump f n).basinNext = s.basinNext ∧ (s.bump f n).sbufs = s.sbufs ∧ (s.bump f n).segs = s.segs ∧
    (s.bump f n).mrkPins = s.mrkPins ∧ (s.bump f n).mrkLines = s.mrkLines ∧ (s.bump f n).fluxes = s.fluxes ∧ (s.bump f n).demods = s.demods ∧
    (s.bump f n).inputs = s.inputs ∧ (s.bump f n).decMade = s.decMade ∧ (s.bump f n).winResults = s.winResults ∧ (s.bump f n).jobsDue = s.jobsDue ∧
    (s.bump f n).partials = s.partials ∧ (s.bump f n).acqs = s.acqs ∧ (s.bump f n).admQueue = s.admQueue ∧ (s.bump f n).flitsOut = s.flitsOut ∧
    (s.bump f n).localFires = s.localFires ∧ (s.bump f n).armHeld = s.armHeld ∧ (s.bump f n).kerns = s.kerns ∧ (s.bump f n).convs = s.convs ∧
    (s.bump f n).fuses = s.fuses ∧ (s.bump f n).fuseJob = s.fuseJob ∧ (s.bump f n).selfCal = s.selfCal ∧ (s.bump f n).twWait = s.twWait ∧
    (s.bump f n).time = s.time ∧ (s.bump f n).meshPorts = s.meshPorts ∧ (s.bump f n).groupSeen = s.groupSeen ∧ (s.bump f n).rings = s.rings ∧
    (s.bump f n).cmdSeq = s.cmdSeq ∧ (s.bump f n).ringTurn = s.ringTurn ∧ (s.bump f n).noticesLost = s.noticesLost ∧
    (s.bump f n).hostWrite = s.hostWrite ∧ (s.bump f n).lanes = s.lanes ∧ (s.bump f n).mbxs = s.mbxs ∧ (s.bump f n).evtChs = s.evtChs ∧
    (s.bump f n).firings = s.firings ∧ (s.bump f n).groupTasks = s.groupTasks ∧ (s.bump f n).evtOuts = s.evtOuts ∧ (s.bump f n).evtIns = s.evtIns ∧
    (s.bump f n).tmrs = s.tmrs ∧ (s.bump f n).mcoreIrq = s.mcoreIrq ∧ (s.bump f n).twin = s.twin ∧ (s.bump f n).logs = s.logs ∧
    (s.bump f n).logWait = s.logWait ∧ (s.bump f n).twinBias = s.twinBias ∧ (s.bump f n).mirrored = s.mirrored ∧ (s.bump f n).therm = s.therm ∧
    (s.bump f n).gov = s.gov ∧ (s.bump f n).mon = s.mon ∧ (s.bump f n).idleSince = s.idleSince ∧ (s.bump f n).reacts = s.reacts ∧
    (s.bump f n).logSeq = s.logSeq ∧ (s.bump f n).errUntil = s.errUntil ∧ (s.bump f n).errPin = s.errPin ∧ (s.bump f n).recorder = s.recorder ∧
    (s.bump f n).recSlots = s.recSlots ∧ (s.bump f n).life = s.life ∧ (s.bump f n).lifeShadow = s.lifeShadow ∧ (s.bump f n).lifeCopies = s.lifeCopies ∧
    (s.bump f n).lifeSave = s.lifeSave ∧ (s.bump f n).lifeNext = s.lifeNext ∧ (s.bump f n).lastSave = s.lastSave ∧ (s.bump f n).flash = s.flash ∧
    (s.bump f n).sys = s.sys ∧ (s.bump f n).tap = s.tap :=
  by repeat (first | exact rfl | refine ⟨rfl, ?_⟩)

@[simp] theorem State.setWideVal_frame (s : State) (k : Nat) (v : BitVec 48) :
    (s.setWideVal k v).pending = s.pending ∧ (s.setWideVal k v).tick = s.tick ∧ (s.setWideVal k v).freeCtr = s.freeCtr ∧
    (s.setWideVal k v).regs = s.regs ∧ (s.setWideVal k v).raised = s.raised ∧ (s.setWideVal k v).faultLog = s.faultLog ∧
    (s.setWideVal k v).pulses = s.pulses ∧ (s.setWideVal k v).holdOn = s.holdOn ∧ (s.setWideVal k v).answered = s.answered ∧
    (s.setWideVal k v).ucScrub = s.ucScrub ∧ (s.setWideVal k v).govMon = s.govMon ∧ (s.setWideVal k v).pilots = s.pilots ∧
    (s.setWideVal k v).pounds = s.pounds ∧ (s.setWideVal k v).pm = s.pm ∧ (s.setWideVal k v).ledgers = s.ledgers ∧ (s.setWideVal k v).locks = s.locks ∧
    (s.setWideVal k v).ctxs = s.ctxs ∧ (s.setWideVal k v).outs = s.outs ∧ (s.setWideVal k v).xbarWait = s.xbarWait ∧
    (s.setWideVal k v).xbarQueue = s.xbarQueue ∧ (s.setWideVal k v).xbarServed = s.xbarServed ∧ (s.setWideVal k v).owed = s.owed ∧
    (s.setWideVal k v).lastEntry = s.lastEntry ∧ (s.setWideVal k v).paths = s.paths ∧ (s.setWideVal k v).muteds = s.muteds ∧
    (s.setWideVal k v).fetches = s.fetches ∧ (s.setWideVal k v).synOrigin = s.synOrigin ∧ (s.setWideVal k v).maxPlays = s.maxPlays ∧
    (s.setWideVal k v).sdram = s.sdram ∧ (s.setWideVal k v).basinNext = s.basinNext ∧ (s.setWideVal k v).sbufs = s.sbufs ∧
    (s.setWideVal k v).segs = s.segs ∧ (s.setWideVal k v).mrkPins = s.mrkPins ∧ (s.setWideVal k v).mrkLines = s.mrkLines ∧
    (s.setWideVal k v).fluxes = s.fluxes ∧ (s.setWideVal k v).demods = s.demods ∧ (s.setWideVal k v).inputs = s.inputs ∧
    (s.setWideVal k v).decMade = s.decMade ∧ (s.setWideVal k v).winResults = s.winResults ∧ (s.setWideVal k v).jobsDue = s.jobsDue ∧
    (s.setWideVal k v).partials = s.partials ∧ (s.setWideVal k v).acqs = s.acqs ∧ (s.setWideVal k v).admQueue = s.admQueue ∧
    (s.setWideVal k v).flitsOut = s.flitsOut ∧ (s.setWideVal k v).localFires = s.localFires ∧ (s.setWideVal k v).armHeld = s.armHeld ∧
    (s.setWideVal k v).kerns = s.kerns ∧ (s.setWideVal k v).convs = s.convs ∧ (s.setWideVal k v).fuses = s.fuses ∧
    (s.setWideVal k v).fuseJob = s.fuseJob ∧ (s.setWideVal k v).selfCal = s.selfCal ∧ (s.setWideVal k v).twWait = s.twWait ∧
    (s.setWideVal k v).time = s.time ∧ (s.setWideVal k v).meshPorts = s.meshPorts ∧ (s.setWideVal k v).groupSeen = s.groupSeen ∧
    (s.setWideVal k v).rings = s.rings ∧ (s.setWideVal k v).cmdSeq = s.cmdSeq ∧ (s.setWideVal k v).ringTurn = s.ringTurn ∧
    (s.setWideVal k v).noticesLost = s.noticesLost ∧ (s.setWideVal k v).hostWrite = s.hostWrite ∧ (s.setWideVal k v).lanes = s.lanes ∧
    (s.setWideVal k v).mbxs = s.mbxs ∧ (s.setWideVal k v).evtChs = s.evtChs ∧ (s.setWideVal k v).firings = s.firings ∧
    (s.setWideVal k v).groupTasks = s.groupTasks ∧ (s.setWideVal k v).evtOuts = s.evtOuts ∧ (s.setWideVal k v).evtIns = s.evtIns ∧
    (s.setWideVal k v).tmrs = s.tmrs ∧ (s.setWideVal k v).mcoreIrq = s.mcoreIrq ∧ (s.setWideVal k v).twin = s.twin ∧ (s.setWideVal k v).logs = s.logs ∧
    (s.setWideVal k v).logWait = s.logWait ∧ (s.setWideVal k v).twinBias = s.twinBias ∧ (s.setWideVal k v).mirrored = s.mirrored ∧
    (s.setWideVal k v).therm = s.therm ∧ (s.setWideVal k v).gov = s.gov ∧ (s.setWideVal k v).mon = s.mon ∧ (s.setWideVal k v).idleSince = s.idleSince ∧
    (s.setWideVal k v).reacts = s.reacts ∧ (s.setWideVal k v).logSeq = s.logSeq ∧ (s.setWideVal k v).errUntil = s.errUntil ∧
    (s.setWideVal k v).errPin = s.errPin ∧ (s.setWideVal k v).recorder = s.recorder ∧ (s.setWideVal k v).recSlots = s.recSlots ∧
    (s.setWideVal k v).life = s.life ∧ (s.setWideVal k v).lifeShadow = s.lifeShadow ∧ (s.setWideVal k v).lifeCopies = s.lifeCopies ∧
    (s.setWideVal k v).lifeSave = s.lifeSave ∧ (s.setWideVal k v).lifeNext = s.lifeNext ∧ (s.setWideVal k v).lastSave = s.lastSave ∧
    (s.setWideVal k v).flash = s.flash ∧ (s.setWideVal k v).sys = s.sys ∧ (s.setWideVal k v).tap = s.tap :=
  by repeat (first | exact rfl | refine ⟨rfl, ?_⟩)

@[simp] theorem State.setPilot_frame (s : State) (k : Nat) (v : Pilot) :
    (s.setPilot k v).pending = s.pending ∧ (s.setPilot k v).tick = s.tick ∧ (s.setPilot k v).freeCtr = s.freeCtr ∧ (s.setPilot k v).regs = s.regs ∧
    (s.setPilot k v).wide = s.wide ∧ (s.setPilot k v).raised = s.raised ∧ (s.setPilot k v).faultLog = s.faultLog ∧ (s.setPilot k v).pulses = s.pulses ∧
    (s.setPilot k v).holdOn = s.holdOn ∧ (s.setPilot k v).answered = s.answered ∧ (s.setPilot k v).ucScrub = s.ucScrub ∧
    (s.setPilot k v).govMon = s.govMon ∧ (s.setPilot k v).pounds = s.pounds ∧ (s.setPilot k v).pm = s.pm ∧ (s.setPilot k v).ledgers = s.ledgers ∧
    (s.setPilot k v).locks = s.locks ∧ (s.setPilot k v).ctxs = s.ctxs ∧ (s.setPilot k v).outs = s.outs ∧ (s.setPilot k v).xbarWait = s.xbarWait ∧
    (s.setPilot k v).xbarQueue = s.xbarQueue ∧ (s.setPilot k v).xbarServed = s.xbarServed ∧ (s.setPilot k v).owed = s.owed ∧
    (s.setPilot k v).lastEntry = s.lastEntry ∧ (s.setPilot k v).paths = s.paths ∧ (s.setPilot k v).muteds = s.muteds ∧
    (s.setPilot k v).fetches = s.fetches ∧ (s.setPilot k v).synOrigin = s.synOrigin ∧ (s.setPilot k v).maxPlays = s.maxPlays ∧
    (s.setPilot k v).sdram = s.sdram ∧ (s.setPilot k v).basinNext = s.basinNext ∧ (s.setPilot k v).sbufs = s.sbufs ∧ (s.setPilot k v).segs = s.segs ∧
    (s.setPilot k v).mrkPins = s.mrkPins ∧ (s.setPilot k v).mrkLines = s.mrkLines ∧ (s.setPilot k v).fluxes = s.fluxes ∧
    (s.setPilot k v).demods = s.demods ∧ (s.setPilot k v).inputs = s.inputs ∧ (s.setPilot k v).decMade = s.decMade ∧
    (s.setPilot k v).winResults = s.winResults ∧ (s.setPilot k v).jobsDue = s.jobsDue ∧ (s.setPilot k v).partials = s.partials ∧
    (s.setPilot k v).acqs = s.acqs ∧ (s.setPilot k v).admQueue = s.admQueue ∧ (s.setPilot k v).flitsOut = s.flitsOut ∧
    (s.setPilot k v).localFires = s.localFires ∧ (s.setPilot k v).armHeld = s.armHeld ∧ (s.setPilot k v).kerns = s.kerns ∧
    (s.setPilot k v).convs = s.convs ∧ (s.setPilot k v).fuses = s.fuses ∧ (s.setPilot k v).fuseJob = s.fuseJob ∧ (s.setPilot k v).selfCal = s.selfCal ∧
    (s.setPilot k v).twWait = s.twWait ∧ (s.setPilot k v).time = s.time ∧ (s.setPilot k v).meshPorts = s.meshPorts ∧
    (s.setPilot k v).groupSeen = s.groupSeen ∧ (s.setPilot k v).rings = s.rings ∧ (s.setPilot k v).cmdSeq = s.cmdSeq ∧
    (s.setPilot k v).ringTurn = s.ringTurn ∧ (s.setPilot k v).noticesLost = s.noticesLost ∧ (s.setPilot k v).hostWrite = s.hostWrite ∧
    (s.setPilot k v).lanes = s.lanes ∧ (s.setPilot k v).mbxs = s.mbxs ∧ (s.setPilot k v).evtChs = s.evtChs ∧ (s.setPilot k v).firings = s.firings ∧
    (s.setPilot k v).groupTasks = s.groupTasks ∧ (s.setPilot k v).evtOuts = s.evtOuts ∧ (s.setPilot k v).evtIns = s.evtIns ∧
    (s.setPilot k v).tmrs = s.tmrs ∧ (s.setPilot k v).mcoreIrq = s.mcoreIrq ∧ (s.setPilot k v).twin = s.twin ∧ (s.setPilot k v).logs = s.logs ∧
    (s.setPilot k v).logWait = s.logWait ∧ (s.setPilot k v).twinBias = s.twinBias ∧ (s.setPilot k v).mirrored = s.mirrored ∧
    (s.setPilot k v).therm = s.therm ∧ (s.setPilot k v).gov = s.gov ∧ (s.setPilot k v).mon = s.mon ∧ (s.setPilot k v).idleSince = s.idleSince ∧
    (s.setPilot k v).reacts = s.reacts ∧ (s.setPilot k v).logSeq = s.logSeq ∧ (s.setPilot k v).errUntil = s.errUntil ∧
    (s.setPilot k v).errPin = s.errPin ∧ (s.setPilot k v).recorder = s.recorder ∧ (s.setPilot k v).recSlots = s.recSlots ∧
    (s.setPilot k v).life = s.life ∧ (s.setPilot k v).lifeShadow = s.lifeShadow ∧ (s.setPilot k v).lifeCopies = s.lifeCopies ∧
    (s.setPilot k v).lifeSave = s.lifeSave ∧ (s.setPilot k v).lifeNext = s.lifeNext ∧ (s.setPilot k v).lastSave = s.lastSave ∧
    (s.setPilot k v).flash = s.flash ∧ (s.setPilot k v).sys = s.sys ∧ (s.setPilot k v).tap = s.tap :=
  by repeat (first | exact rfl | refine ⟨rfl, ?_⟩)

@[simp] theorem State.setPound_frame (s : State) (k : Nat) (v : List Order) :
    (s.setPound k v).pending = s.pending ∧ (s.setPound k v).tick = s.tick ∧ (s.setPound k v).freeCtr = s.freeCtr ∧ (s.setPound k v).regs = s.regs ∧
    (s.setPound k v).wide = s.wide ∧ (s.setPound k v).raised = s.raised ∧ (s.setPound k v).faultLog = s.faultLog ∧ (s.setPound k v).pulses = s.pulses ∧
    (s.setPound k v).holdOn = s.holdOn ∧ (s.setPound k v).answered = s.answered ∧ (s.setPound k v).ucScrub = s.ucScrub ∧
    (s.setPound k v).govMon = s.govMon ∧ (s.setPound k v).pilots = s.pilots ∧ (s.setPound k v).pm = s.pm ∧ (s.setPound k v).ledgers = s.ledgers ∧
    (s.setPound k v).locks = s.locks ∧ (s.setPound k v).ctxs = s.ctxs ∧ (s.setPound k v).outs = s.outs ∧ (s.setPound k v).xbarWait = s.xbarWait ∧
    (s.setPound k v).xbarQueue = s.xbarQueue ∧ (s.setPound k v).xbarServed = s.xbarServed ∧ (s.setPound k v).owed = s.owed ∧
    (s.setPound k v).lastEntry = s.lastEntry ∧ (s.setPound k v).paths = s.paths ∧ (s.setPound k v).muteds = s.muteds ∧
    (s.setPound k v).fetches = s.fetches ∧ (s.setPound k v).synOrigin = s.synOrigin ∧ (s.setPound k v).maxPlays = s.maxPlays ∧
    (s.setPound k v).sdram = s.sdram ∧ (s.setPound k v).basinNext = s.basinNext ∧ (s.setPound k v).sbufs = s.sbufs ∧ (s.setPound k v).segs = s.segs ∧
    (s.setPound k v).mrkPins = s.mrkPins ∧ (s.setPound k v).mrkLines = s.mrkLines ∧ (s.setPound k v).fluxes = s.fluxes ∧
    (s.setPound k v).demods = s.demods ∧ (s.setPound k v).inputs = s.inputs ∧ (s.setPound k v).decMade = s.decMade ∧
    (s.setPound k v).winResults = s.winResults ∧ (s.setPound k v).jobsDue = s.jobsDue ∧ (s.setPound k v).partials = s.partials ∧
    (s.setPound k v).acqs = s.acqs ∧ (s.setPound k v).admQueue = s.admQueue ∧ (s.setPound k v).flitsOut = s.flitsOut ∧
    (s.setPound k v).localFires = s.localFires ∧ (s.setPound k v).armHeld = s.armHeld ∧ (s.setPound k v).kerns = s.kerns ∧
    (s.setPound k v).convs = s.convs ∧ (s.setPound k v).fuses = s.fuses ∧ (s.setPound k v).fuseJob = s.fuseJob ∧ (s.setPound k v).selfCal = s.selfCal ∧
    (s.setPound k v).twWait = s.twWait ∧ (s.setPound k v).time = s.time ∧ (s.setPound k v).meshPorts = s.meshPorts ∧
    (s.setPound k v).groupSeen = s.groupSeen ∧ (s.setPound k v).rings = s.rings ∧ (s.setPound k v).cmdSeq = s.cmdSeq ∧
    (s.setPound k v).ringTurn = s.ringTurn ∧ (s.setPound k v).noticesLost = s.noticesLost ∧ (s.setPound k v).hostWrite = s.hostWrite ∧
    (s.setPound k v).lanes = s.lanes ∧ (s.setPound k v).mbxs = s.mbxs ∧ (s.setPound k v).evtChs = s.evtChs ∧ (s.setPound k v).firings = s.firings ∧
    (s.setPound k v).groupTasks = s.groupTasks ∧ (s.setPound k v).evtOuts = s.evtOuts ∧ (s.setPound k v).evtIns = s.evtIns ∧
    (s.setPound k v).tmrs = s.tmrs ∧ (s.setPound k v).mcoreIrq = s.mcoreIrq ∧ (s.setPound k v).twin = s.twin ∧ (s.setPound k v).logs = s.logs ∧
    (s.setPound k v).logWait = s.logWait ∧ (s.setPound k v).twinBias = s.twinBias ∧ (s.setPound k v).mirrored = s.mirrored ∧
    (s.setPound k v).therm = s.therm ∧ (s.setPound k v).gov = s.gov ∧ (s.setPound k v).mon = s.mon ∧ (s.setPound k v).idleSince = s.idleSince ∧
    (s.setPound k v).reacts = s.reacts ∧ (s.setPound k v).logSeq = s.logSeq ∧ (s.setPound k v).errUntil = s.errUntil ∧
    (s.setPound k v).errPin = s.errPin ∧ (s.setPound k v).recorder = s.recorder ∧ (s.setPound k v).recSlots = s.recSlots ∧
    (s.setPound k v).life = s.life ∧ (s.setPound k v).lifeShadow = s.lifeShadow ∧ (s.setPound k v).lifeCopies = s.lifeCopies ∧
    (s.setPound k v).lifeSave = s.lifeSave ∧ (s.setPound k v).lifeNext = s.lifeNext ∧ (s.setPound k v).lastSave = s.lastSave ∧
    (s.setPound k v).flash = s.flash ∧ (s.setPound k v).sys = s.sys ∧ (s.setPound k v).tap = s.tap :=
  by repeat (first | exact rfl | refine ⟨rfl, ?_⟩)

@[simp] theorem State.setProgWord_frame (s : State) (k : Nat) (v : Word) :
    (s.setProgWord k v).pending = s.pending ∧ (s.setProgWord k v).tick = s.tick ∧ (s.setProgWord k v).freeCtr = s.freeCtr ∧
    (s.setProgWord k v).regs = s.regs ∧ (s.setProgWord k v).wide = s.wide ∧ (s.setProgWord k v).raised = s.raised ∧
    (s.setProgWord k v).faultLog = s.faultLog ∧ (s.setProgWord k v).pulses = s.pulses ∧ (s.setProgWord k v).holdOn = s.holdOn ∧
    (s.setProgWord k v).answered = s.answered ∧ (s.setProgWord k v).ucScrub = s.ucScrub ∧ (s.setProgWord k v).govMon = s.govMon ∧
    (s.setProgWord k v).pilots = s.pilots ∧ (s.setProgWord k v).pounds = s.pounds ∧ (s.setProgWord k v).ledgers = s.ledgers ∧
    (s.setProgWord k v).locks = s.locks ∧ (s.setProgWord k v).ctxs = s.ctxs ∧ (s.setProgWord k v).outs = s.outs ∧
    (s.setProgWord k v).xbarWait = s.xbarWait ∧ (s.setProgWord k v).xbarQueue = s.xbarQueue ∧ (s.setProgWord k v).xbarServed = s.xbarServed ∧
    (s.setProgWord k v).owed = s.owed ∧ (s.setProgWord k v).lastEntry = s.lastEntry ∧ (s.setProgWord k v).paths = s.paths ∧
    (s.setProgWord k v).muteds = s.muteds ∧ (s.setProgWord k v).fetches = s.fetches ∧ (s.setProgWord k v).synOrigin = s.synOrigin ∧
    (s.setProgWord k v).maxPlays = s.maxPlays ∧ (s.setProgWord k v).sdram = s.sdram ∧ (s.setProgWord k v).basinNext = s.basinNext ∧
    (s.setProgWord k v).sbufs = s.sbufs ∧ (s.setProgWord k v).segs = s.segs ∧ (s.setProgWord k v).mrkPins = s.mrkPins ∧
    (s.setProgWord k v).mrkLines = s.mrkLines ∧ (s.setProgWord k v).fluxes = s.fluxes ∧ (s.setProgWord k v).demods = s.demods ∧
    (s.setProgWord k v).inputs = s.inputs ∧ (s.setProgWord k v).decMade = s.decMade ∧ (s.setProgWord k v).winResults = s.winResults ∧
    (s.setProgWord k v).jobsDue = s.jobsDue ∧ (s.setProgWord k v).partials = s.partials ∧ (s.setProgWord k v).acqs = s.acqs ∧
    (s.setProgWord k v).admQueue = s.admQueue ∧ (s.setProgWord k v).flitsOut = s.flitsOut ∧ (s.setProgWord k v).localFires = s.localFires ∧
    (s.setProgWord k v).armHeld = s.armHeld ∧ (s.setProgWord k v).kerns = s.kerns ∧ (s.setProgWord k v).convs = s.convs ∧
    (s.setProgWord k v).fuses = s.fuses ∧ (s.setProgWord k v).fuseJob = s.fuseJob ∧ (s.setProgWord k v).selfCal = s.selfCal ∧
    (s.setProgWord k v).twWait = s.twWait ∧ (s.setProgWord k v).time = s.time ∧ (s.setProgWord k v).meshPorts = s.meshPorts ∧
    (s.setProgWord k v).groupSeen = s.groupSeen ∧ (s.setProgWord k v).rings = s.rings ∧ (s.setProgWord k v).cmdSeq = s.cmdSeq ∧
    (s.setProgWord k v).ringTurn = s.ringTurn ∧ (s.setProgWord k v).noticesLost = s.noticesLost ∧ (s.setProgWord k v).hostWrite = s.hostWrite ∧
    (s.setProgWord k v).lanes = s.lanes ∧ (s.setProgWord k v).mbxs = s.mbxs ∧ (s.setProgWord k v).evtChs = s.evtChs ∧
    (s.setProgWord k v).firings = s.firings ∧ (s.setProgWord k v).groupTasks = s.groupTasks ∧ (s.setProgWord k v).evtOuts = s.evtOuts ∧
    (s.setProgWord k v).evtIns = s.evtIns ∧ (s.setProgWord k v).tmrs = s.tmrs ∧ (s.setProgWord k v).mcoreIrq = s.mcoreIrq ∧
    (s.setProgWord k v).twin = s.twin ∧ (s.setProgWord k v).logs = s.logs ∧ (s.setProgWord k v).logWait = s.logWait ∧
    (s.setProgWord k v).twinBias = s.twinBias ∧ (s.setProgWord k v).mirrored = s.mirrored ∧ (s.setProgWord k v).therm = s.therm ∧
    (s.setProgWord k v).gov = s.gov ∧ (s.setProgWord k v).mon = s.mon ∧ (s.setProgWord k v).idleSince = s.idleSince ∧
    (s.setProgWord k v).reacts = s.reacts ∧ (s.setProgWord k v).logSeq = s.logSeq ∧ (s.setProgWord k v).errUntil = s.errUntil ∧
    (s.setProgWord k v).errPin = s.errPin ∧ (s.setProgWord k v).recorder = s.recorder ∧ (s.setProgWord k v).recSlots = s.recSlots ∧
    (s.setProgWord k v).life = s.life ∧ (s.setProgWord k v).lifeShadow = s.lifeShadow ∧ (s.setProgWord k v).lifeCopies = s.lifeCopies ∧
    (s.setProgWord k v).lifeSave = s.lifeSave ∧ (s.setProgWord k v).lifeNext = s.lifeNext ∧ (s.setProgWord k v).lastSave = s.lastSave ∧
    (s.setProgWord k v).flash = s.flash ∧ (s.setProgWord k v).sys = s.sys ∧ (s.setProgWord k v).tap = s.tap :=
  by repeat (first | exact rfl | refine ⟨rfl, ?_⟩)

@[simp] theorem State.setLedger_frame (s : State) (k : Nat) (v : Ledger) :
    (s.setLedger k v).pending = s.pending ∧ (s.setLedger k v).tick = s.tick ∧ (s.setLedger k v).freeCtr = s.freeCtr ∧ (s.setLedger k v).regs = s.regs ∧
    (s.setLedger k v).wide = s.wide ∧ (s.setLedger k v).raised = s.raised ∧ (s.setLedger k v).faultLog = s.faultLog ∧
    (s.setLedger k v).pulses = s.pulses ∧ (s.setLedger k v).holdOn = s.holdOn ∧ (s.setLedger k v).answered = s.answered ∧
    (s.setLedger k v).ucScrub = s.ucScrub ∧ (s.setLedger k v).govMon = s.govMon ∧ (s.setLedger k v).pilots = s.pilots ∧
    (s.setLedger k v).pounds = s.pounds ∧ (s.setLedger k v).pm = s.pm ∧ (s.setLedger k v).locks = s.locks ∧ (s.setLedger k v).ctxs = s.ctxs ∧
    (s.setLedger k v).outs = s.outs ∧ (s.setLedger k v).xbarWait = s.xbarWait ∧ (s.setLedger k v).xbarQueue = s.xbarQueue ∧
    (s.setLedger k v).xbarServed = s.xbarServed ∧ (s.setLedger k v).owed = s.owed ∧ (s.setLedger k v).lastEntry = s.lastEntry ∧
    (s.setLedger k v).paths = s.paths ∧ (s.setLedger k v).muteds = s.muteds ∧ (s.setLedger k v).fetches = s.fetches ∧
    (s.setLedger k v).synOrigin = s.synOrigin ∧ (s.setLedger k v).maxPlays = s.maxPlays ∧ (s.setLedger k v).sdram = s.sdram ∧
    (s.setLedger k v).basinNext = s.basinNext ∧ (s.setLedger k v).sbufs = s.sbufs ∧ (s.setLedger k v).segs = s.segs ∧
    (s.setLedger k v).mrkPins = s.mrkPins ∧ (s.setLedger k v).mrkLines = s.mrkLines ∧ (s.setLedger k v).fluxes = s.fluxes ∧
    (s.setLedger k v).demods = s.demods ∧ (s.setLedger k v).inputs = s.inputs ∧ (s.setLedger k v).decMade = s.decMade ∧
    (s.setLedger k v).winResults = s.winResults ∧ (s.setLedger k v).jobsDue = s.jobsDue ∧ (s.setLedger k v).partials = s.partials ∧
    (s.setLedger k v).acqs = s.acqs ∧ (s.setLedger k v).admQueue = s.admQueue ∧ (s.setLedger k v).flitsOut = s.flitsOut ∧
    (s.setLedger k v).localFires = s.localFires ∧ (s.setLedger k v).armHeld = s.armHeld ∧ (s.setLedger k v).kerns = s.kerns ∧
    (s.setLedger k v).convs = s.convs ∧ (s.setLedger k v).fuses = s.fuses ∧ (s.setLedger k v).fuseJob = s.fuseJob ∧
    (s.setLedger k v).selfCal = s.selfCal ∧ (s.setLedger k v).twWait = s.twWait ∧ (s.setLedger k v).time = s.time ∧
    (s.setLedger k v).meshPorts = s.meshPorts ∧ (s.setLedger k v).groupSeen = s.groupSeen ∧ (s.setLedger k v).rings = s.rings ∧
    (s.setLedger k v).cmdSeq = s.cmdSeq ∧ (s.setLedger k v).ringTurn = s.ringTurn ∧ (s.setLedger k v).noticesLost = s.noticesLost ∧
    (s.setLedger k v).hostWrite = s.hostWrite ∧ (s.setLedger k v).lanes = s.lanes ∧ (s.setLedger k v).mbxs = s.mbxs ∧
    (s.setLedger k v).evtChs = s.evtChs ∧ (s.setLedger k v).firings = s.firings ∧ (s.setLedger k v).groupTasks = s.groupTasks ∧
    (s.setLedger k v).evtOuts = s.evtOuts ∧ (s.setLedger k v).evtIns = s.evtIns ∧ (s.setLedger k v).tmrs = s.tmrs ∧
    (s.setLedger k v).mcoreIrq = s.mcoreIrq ∧ (s.setLedger k v).twin = s.twin ∧ (s.setLedger k v).logs = s.logs ∧ (s.setLedger k v).logWait = s.logWait ∧
    (s.setLedger k v).twinBias = s.twinBias ∧ (s.setLedger k v).mirrored = s.mirrored ∧ (s.setLedger k v).therm = s.therm ∧
    (s.setLedger k v).gov = s.gov ∧ (s.setLedger k v).mon = s.mon ∧ (s.setLedger k v).idleSince = s.idleSince ∧ (s.setLedger k v).reacts = s.reacts ∧
    (s.setLedger k v).logSeq = s.logSeq ∧ (s.setLedger k v).errUntil = s.errUntil ∧ (s.setLedger k v).errPin = s.errPin ∧
    (s.setLedger k v).recorder = s.recorder ∧ (s.setLedger k v).recSlots = s.recSlots ∧ (s.setLedger k v).life = s.life ∧
    (s.setLedger k v).lifeShadow = s.lifeShadow ∧ (s.setLedger k v).lifeCopies = s.lifeCopies ∧ (s.setLedger k v).lifeSave = s.lifeSave ∧
    (s.setLedger k v).lifeNext = s.lifeNext ∧ (s.setLedger k v).lastSave = s.lastSave ∧ (s.setLedger k v).flash = s.flash ∧
    (s.setLedger k v).sys = s.sys ∧ (s.setLedger k v).tap = s.tap :=
  by repeat (first | exact rfl | refine ⟨rfl, ?_⟩)

@[simp] theorem State.setLockLane_frame (s : State) (k : Nat) (v : LockLane) :
    (s.setLockLane k v).pending = s.pending ∧ (s.setLockLane k v).tick = s.tick ∧ (s.setLockLane k v).freeCtr = s.freeCtr ∧
    (s.setLockLane k v).regs = s.regs ∧ (s.setLockLane k v).wide = s.wide ∧ (s.setLockLane k v).raised = s.raised ∧
    (s.setLockLane k v).faultLog = s.faultLog ∧ (s.setLockLane k v).pulses = s.pulses ∧ (s.setLockLane k v).holdOn = s.holdOn ∧
    (s.setLockLane k v).answered = s.answered ∧ (s.setLockLane k v).ucScrub = s.ucScrub ∧ (s.setLockLane k v).govMon = s.govMon ∧
    (s.setLockLane k v).pilots = s.pilots ∧ (s.setLockLane k v).pounds = s.pounds ∧ (s.setLockLane k v).pm = s.pm ∧
    (s.setLockLane k v).ledgers = s.ledgers ∧ (s.setLockLane k v).ctxs = s.ctxs ∧ (s.setLockLane k v).outs = s.outs ∧
    (s.setLockLane k v).xbarWait = s.xbarWait ∧ (s.setLockLane k v).xbarQueue = s.xbarQueue ∧ (s.setLockLane k v).xbarServed = s.xbarServed ∧
    (s.setLockLane k v).owed = s.owed ∧ (s.setLockLane k v).lastEntry = s.lastEntry ∧ (s.setLockLane k v).paths = s.paths ∧
    (s.setLockLane k v).muteds = s.muteds ∧ (s.setLockLane k v).fetches = s.fetches ∧ (s.setLockLane k v).synOrigin = s.synOrigin ∧
    (s.setLockLane k v).maxPlays = s.maxPlays ∧ (s.setLockLane k v).sdram = s.sdram ∧ (s.setLockLane k v).basinNext = s.basinNext ∧
    (s.setLockLane k v).sbufs = s.sbufs ∧ (s.setLockLane k v).segs = s.segs ∧ (s.setLockLane k v).mrkPins = s.mrkPins ∧
    (s.setLockLane k v).mrkLines = s.mrkLines ∧ (s.setLockLane k v).fluxes = s.fluxes ∧ (s.setLockLane k v).demods = s.demods ∧
    (s.setLockLane k v).inputs = s.inputs ∧ (s.setLockLane k v).decMade = s.decMade ∧ (s.setLockLane k v).winResults = s.winResults ∧
    (s.setLockLane k v).jobsDue = s.jobsDue ∧ (s.setLockLane k v).partials = s.partials ∧ (s.setLockLane k v).acqs = s.acqs ∧
    (s.setLockLane k v).admQueue = s.admQueue ∧ (s.setLockLane k v).flitsOut = s.flitsOut ∧ (s.setLockLane k v).localFires = s.localFires ∧
    (s.setLockLane k v).armHeld = s.armHeld ∧ (s.setLockLane k v).kerns = s.kerns ∧ (s.setLockLane k v).convs = s.convs ∧
    (s.setLockLane k v).fuses = s.fuses ∧ (s.setLockLane k v).fuseJob = s.fuseJob ∧ (s.setLockLane k v).selfCal = s.selfCal ∧
    (s.setLockLane k v).twWait = s.twWait ∧ (s.setLockLane k v).time = s.time ∧ (s.setLockLane k v).meshPorts = s.meshPorts ∧
    (s.setLockLane k v).groupSeen = s.groupSeen ∧ (s.setLockLane k v).rings = s.rings ∧ (s.setLockLane k v).cmdSeq = s.cmdSeq ∧
    (s.setLockLane k v).ringTurn = s.ringTurn ∧ (s.setLockLane k v).noticesLost = s.noticesLost ∧ (s.setLockLane k v).hostWrite = s.hostWrite ∧
    (s.setLockLane k v).lanes = s.lanes ∧ (s.setLockLane k v).mbxs = s.mbxs ∧ (s.setLockLane k v).evtChs = s.evtChs ∧
    (s.setLockLane k v).firings = s.firings ∧ (s.setLockLane k v).groupTasks = s.groupTasks ∧ (s.setLockLane k v).evtOuts = s.evtOuts ∧
    (s.setLockLane k v).evtIns = s.evtIns ∧ (s.setLockLane k v).tmrs = s.tmrs ∧ (s.setLockLane k v).mcoreIrq = s.mcoreIrq ∧
    (s.setLockLane k v).twin = s.twin ∧ (s.setLockLane k v).logs = s.logs ∧ (s.setLockLane k v).logWait = s.logWait ∧
    (s.setLockLane k v).twinBias = s.twinBias ∧ (s.setLockLane k v).mirrored = s.mirrored ∧ (s.setLockLane k v).therm = s.therm ∧
    (s.setLockLane k v).gov = s.gov ∧ (s.setLockLane k v).mon = s.mon ∧ (s.setLockLane k v).idleSince = s.idleSince ∧
    (s.setLockLane k v).reacts = s.reacts ∧ (s.setLockLane k v).logSeq = s.logSeq ∧ (s.setLockLane k v).errUntil = s.errUntil ∧
    (s.setLockLane k v).errPin = s.errPin ∧ (s.setLockLane k v).recorder = s.recorder ∧ (s.setLockLane k v).recSlots = s.recSlots ∧
    (s.setLockLane k v).life = s.life ∧ (s.setLockLane k v).lifeShadow = s.lifeShadow ∧ (s.setLockLane k v).lifeCopies = s.lifeCopies ∧
    (s.setLockLane k v).lifeSave = s.lifeSave ∧ (s.setLockLane k v).lifeNext = s.lifeNext ∧ (s.setLockLane k v).lastSave = s.lastSave ∧
    (s.setLockLane k v).flash = s.flash ∧ (s.setLockLane k v).sys = s.sys ∧ (s.setLockLane k v).tap = s.tap :=
  by repeat (first | exact rfl | refine ⟨rfl, ?_⟩)

@[simp] theorem State.setCtx_frame (s : State) (k : Nat) (v : Ctx) :
    (s.setCtx k v).pending = s.pending ∧ (s.setCtx k v).tick = s.tick ∧ (s.setCtx k v).freeCtr = s.freeCtr ∧ (s.setCtx k v).regs = s.regs ∧
    (s.setCtx k v).wide = s.wide ∧ (s.setCtx k v).raised = s.raised ∧ (s.setCtx k v).faultLog = s.faultLog ∧ (s.setCtx k v).pulses = s.pulses ∧
    (s.setCtx k v).holdOn = s.holdOn ∧ (s.setCtx k v).answered = s.answered ∧ (s.setCtx k v).ucScrub = s.ucScrub ∧ (s.setCtx k v).govMon = s.govMon ∧
    (s.setCtx k v).pilots = s.pilots ∧ (s.setCtx k v).pounds = s.pounds ∧ (s.setCtx k v).pm = s.pm ∧ (s.setCtx k v).ledgers = s.ledgers ∧
    (s.setCtx k v).locks = s.locks ∧ (s.setCtx k v).outs = s.outs ∧ (s.setCtx k v).xbarWait = s.xbarWait ∧ (s.setCtx k v).xbarQueue = s.xbarQueue ∧
    (s.setCtx k v).xbarServed = s.xbarServed ∧ (s.setCtx k v).owed = s.owed ∧ (s.setCtx k v).lastEntry = s.lastEntry ∧ (s.setCtx k v).paths = s.paths ∧
    (s.setCtx k v).muteds = s.muteds ∧ (s.setCtx k v).fetches = s.fetches ∧ (s.setCtx k v).synOrigin = s.synOrigin ∧
    (s.setCtx k v).maxPlays = s.maxPlays ∧ (s.setCtx k v).sdram = s.sdram ∧ (s.setCtx k v).basinNext = s.basinNext ∧ (s.setCtx k v).sbufs = s.sbufs ∧
    (s.setCtx k v).segs = s.segs ∧ (s.setCtx k v).mrkPins = s.mrkPins ∧ (s.setCtx k v).mrkLines = s.mrkLines ∧ (s.setCtx k v).fluxes = s.fluxes ∧
    (s.setCtx k v).demods = s.demods ∧ (s.setCtx k v).inputs = s.inputs ∧ (s.setCtx k v).decMade = s.decMade ∧ (s.setCtx k v).winResults = s.winResults ∧
    (s.setCtx k v).jobsDue = s.jobsDue ∧ (s.setCtx k v).partials = s.partials ∧ (s.setCtx k v).acqs = s.acqs ∧ (s.setCtx k v).admQueue = s.admQueue ∧
    (s.setCtx k v).flitsOut = s.flitsOut ∧ (s.setCtx k v).localFires = s.localFires ∧ (s.setCtx k v).armHeld = s.armHeld ∧
    (s.setCtx k v).kerns = s.kerns ∧ (s.setCtx k v).convs = s.convs ∧ (s.setCtx k v).fuses = s.fuses ∧ (s.setCtx k v).fuseJob = s.fuseJob ∧
    (s.setCtx k v).selfCal = s.selfCal ∧ (s.setCtx k v).twWait = s.twWait ∧ (s.setCtx k v).time = s.time ∧ (s.setCtx k v).meshPorts = s.meshPorts ∧
    (s.setCtx k v).groupSeen = s.groupSeen ∧ (s.setCtx k v).rings = s.rings ∧ (s.setCtx k v).cmdSeq = s.cmdSeq ∧ (s.setCtx k v).ringTurn = s.ringTurn ∧
    (s.setCtx k v).noticesLost = s.noticesLost ∧ (s.setCtx k v).hostWrite = s.hostWrite ∧ (s.setCtx k v).lanes = s.lanes ∧ (s.setCtx k v).mbxs = s.mbxs ∧
    (s.setCtx k v).evtChs = s.evtChs ∧ (s.setCtx k v).firings = s.firings ∧ (s.setCtx k v).groupTasks = s.groupTasks ∧
    (s.setCtx k v).evtOuts = s.evtOuts ∧ (s.setCtx k v).evtIns = s.evtIns ∧ (s.setCtx k v).tmrs = s.tmrs ∧ (s.setCtx k v).mcoreIrq = s.mcoreIrq ∧
    (s.setCtx k v).twin = s.twin ∧ (s.setCtx k v).logs = s.logs ∧ (s.setCtx k v).logWait = s.logWait ∧ (s.setCtx k v).twinBias = s.twinBias ∧
    (s.setCtx k v).mirrored = s.mirrored ∧ (s.setCtx k v).therm = s.therm ∧ (s.setCtx k v).gov = s.gov ∧ (s.setCtx k v).mon = s.mon ∧
    (s.setCtx k v).idleSince = s.idleSince ∧ (s.setCtx k v).reacts = s.reacts ∧ (s.setCtx k v).logSeq = s.logSeq ∧ (s.setCtx k v).errUntil = s.errUntil ∧
    (s.setCtx k v).errPin = s.errPin ∧ (s.setCtx k v).recorder = s.recorder ∧ (s.setCtx k v).recSlots = s.recSlots ∧ (s.setCtx k v).life = s.life ∧
    (s.setCtx k v).lifeShadow = s.lifeShadow ∧ (s.setCtx k v).lifeCopies = s.lifeCopies ∧ (s.setCtx k v).lifeSave = s.lifeSave ∧
    (s.setCtx k v).lifeNext = s.lifeNext ∧ (s.setCtx k v).lastSave = s.lastSave ∧ (s.setCtx k v).flash = s.flash ∧ (s.setCtx k v).sys = s.sys ∧
    (s.setCtx k v).tap = s.tap :=
  by repeat (first | exact rfl | refine ⟨rfl, ?_⟩)

@[simp] theorem State.setOutPin_frame (s : State) (k : Nat) (v : List Int) :
    (s.setOutPin k v).pending = s.pending ∧ (s.setOutPin k v).tick = s.tick ∧ (s.setOutPin k v).freeCtr = s.freeCtr ∧ (s.setOutPin k v).regs = s.regs ∧
    (s.setOutPin k v).wide = s.wide ∧ (s.setOutPin k v).raised = s.raised ∧ (s.setOutPin k v).faultLog = s.faultLog ∧
    (s.setOutPin k v).pulses = s.pulses ∧ (s.setOutPin k v).holdOn = s.holdOn ∧ (s.setOutPin k v).answered = s.answered ∧
    (s.setOutPin k v).ucScrub = s.ucScrub ∧ (s.setOutPin k v).govMon = s.govMon ∧ (s.setOutPin k v).pilots = s.pilots ∧
    (s.setOutPin k v).pounds = s.pounds ∧ (s.setOutPin k v).pm = s.pm ∧ (s.setOutPin k v).ledgers = s.ledgers ∧ (s.setOutPin k v).locks = s.locks ∧
    (s.setOutPin k v).ctxs = s.ctxs ∧ (s.setOutPin k v).xbarWait = s.xbarWait ∧ (s.setOutPin k v).xbarQueue = s.xbarQueue ∧
    (s.setOutPin k v).xbarServed = s.xbarServed ∧ (s.setOutPin k v).owed = s.owed ∧ (s.setOutPin k v).lastEntry = s.lastEntry ∧
    (s.setOutPin k v).paths = s.paths ∧ (s.setOutPin k v).muteds = s.muteds ∧ (s.setOutPin k v).fetches = s.fetches ∧
    (s.setOutPin k v).synOrigin = s.synOrigin ∧ (s.setOutPin k v).maxPlays = s.maxPlays ∧ (s.setOutPin k v).sdram = s.sdram ∧
    (s.setOutPin k v).basinNext = s.basinNext ∧ (s.setOutPin k v).sbufs = s.sbufs ∧ (s.setOutPin k v).segs = s.segs ∧
    (s.setOutPin k v).mrkPins = s.mrkPins ∧ (s.setOutPin k v).mrkLines = s.mrkLines ∧ (s.setOutPin k v).fluxes = s.fluxes ∧
    (s.setOutPin k v).demods = s.demods ∧ (s.setOutPin k v).inputs = s.inputs ∧ (s.setOutPin k v).decMade = s.decMade ∧
    (s.setOutPin k v).winResults = s.winResults ∧ (s.setOutPin k v).jobsDue = s.jobsDue ∧ (s.setOutPin k v).partials = s.partials ∧
    (s.setOutPin k v).acqs = s.acqs ∧ (s.setOutPin k v).admQueue = s.admQueue ∧ (s.setOutPin k v).flitsOut = s.flitsOut ∧
    (s.setOutPin k v).localFires = s.localFires ∧ (s.setOutPin k v).armHeld = s.armHeld ∧ (s.setOutPin k v).kerns = s.kerns ∧
    (s.setOutPin k v).convs = s.convs ∧ (s.setOutPin k v).fuses = s.fuses ∧ (s.setOutPin k v).fuseJob = s.fuseJob ∧
    (s.setOutPin k v).selfCal = s.selfCal ∧ (s.setOutPin k v).twWait = s.twWait ∧ (s.setOutPin k v).time = s.time ∧
    (s.setOutPin k v).meshPorts = s.meshPorts ∧ (s.setOutPin k v).groupSeen = s.groupSeen ∧ (s.setOutPin k v).rings = s.rings ∧
    (s.setOutPin k v).cmdSeq = s.cmdSeq ∧ (s.setOutPin k v).ringTurn = s.ringTurn ∧ (s.setOutPin k v).noticesLost = s.noticesLost ∧
    (s.setOutPin k v).hostWrite = s.hostWrite ∧ (s.setOutPin k v).lanes = s.lanes ∧ (s.setOutPin k v).mbxs = s.mbxs ∧
    (s.setOutPin k v).evtChs = s.evtChs ∧ (s.setOutPin k v).firings = s.firings ∧ (s.setOutPin k v).groupTasks = s.groupTasks ∧
    (s.setOutPin k v).evtOuts = s.evtOuts ∧ (s.setOutPin k v).evtIns = s.evtIns ∧ (s.setOutPin k v).tmrs = s.tmrs ∧
    (s.setOutPin k v).mcoreIrq = s.mcoreIrq ∧ (s.setOutPin k v).twin = s.twin ∧ (s.setOutPin k v).logs = s.logs ∧ (s.setOutPin k v).logWait = s.logWait ∧
    (s.setOutPin k v).twinBias = s.twinBias ∧ (s.setOutPin k v).mirrored = s.mirrored ∧ (s.setOutPin k v).therm = s.therm ∧
    (s.setOutPin k v).gov = s.gov ∧ (s.setOutPin k v).mon = s.mon ∧ (s.setOutPin k v).idleSince = s.idleSince ∧ (s.setOutPin k v).reacts = s.reacts ∧
    (s.setOutPin k v).logSeq = s.logSeq ∧ (s.setOutPin k v).errUntil = s.errUntil ∧ (s.setOutPin k v).errPin = s.errPin ∧
    (s.setOutPin k v).recorder = s.recorder ∧ (s.setOutPin k v).recSlots = s.recSlots ∧ (s.setOutPin k v).life = s.life ∧
    (s.setOutPin k v).lifeShadow = s.lifeShadow ∧ (s.setOutPin k v).lifeCopies = s.lifeCopies ∧ (s.setOutPin k v).lifeSave = s.lifeSave ∧
    (s.setOutPin k v).lifeNext = s.lifeNext ∧ (s.setOutPin k v).lastSave = s.lastSave ∧ (s.setOutPin k v).flash = s.flash ∧
    (s.setOutPin k v).sys = s.sys ∧ (s.setOutPin k v).tap = s.tap :=
  by repeat (first | exact rfl | refine ⟨rfl, ?_⟩)

@[simp] theorem State.setLastEntryOf_frame (s : State) (k : Nat) (v : Option Tick) :
    (s.setLastEntryOf k v).pending = s.pending ∧ (s.setLastEntryOf k v).tick = s.tick ∧ (s.setLastEntryOf k v).freeCtr = s.freeCtr ∧
    (s.setLastEntryOf k v).regs = s.regs ∧ (s.setLastEntryOf k v).wide = s.wide ∧ (s.setLastEntryOf k v).raised = s.raised ∧
    (s.setLastEntryOf k v).faultLog = s.faultLog ∧ (s.setLastEntryOf k v).pulses = s.pulses ∧ (s.setLastEntryOf k v).holdOn = s.holdOn ∧
    (s.setLastEntryOf k v).answered = s.answered ∧ (s.setLastEntryOf k v).ucScrub = s.ucScrub ∧ (s.setLastEntryOf k v).govMon = s.govMon ∧
    (s.setLastEntryOf k v).pilots = s.pilots ∧ (s.setLastEntryOf k v).pounds = s.pounds ∧ (s.setLastEntryOf k v).pm = s.pm ∧
    (s.setLastEntryOf k v).ledgers = s.ledgers ∧ (s.setLastEntryOf k v).locks = s.locks ∧ (s.setLastEntryOf k v).ctxs = s.ctxs ∧
    (s.setLastEntryOf k v).outs = s.outs ∧ (s.setLastEntryOf k v).xbarWait = s.xbarWait ∧ (s.setLastEntryOf k v).xbarQueue = s.xbarQueue ∧
    (s.setLastEntryOf k v).xbarServed = s.xbarServed ∧ (s.setLastEntryOf k v).owed = s.owed ∧ (s.setLastEntryOf k v).paths = s.paths ∧
    (s.setLastEntryOf k v).muteds = s.muteds ∧ (s.setLastEntryOf k v).fetches = s.fetches ∧ (s.setLastEntryOf k v).synOrigin = s.synOrigin ∧
    (s.setLastEntryOf k v).maxPlays = s.maxPlays ∧ (s.setLastEntryOf k v).sdram = s.sdram ∧ (s.setLastEntryOf k v).basinNext = s.basinNext ∧
    (s.setLastEntryOf k v).sbufs = s.sbufs ∧ (s.setLastEntryOf k v).segs = s.segs ∧ (s.setLastEntryOf k v).mrkPins = s.mrkPins ∧
    (s.setLastEntryOf k v).mrkLines = s.mrkLines ∧ (s.setLastEntryOf k v).fluxes = s.fluxes ∧ (s.setLastEntryOf k v).demods = s.demods ∧
    (s.setLastEntryOf k v).inputs = s.inputs ∧ (s.setLastEntryOf k v).decMade = s.decMade ∧ (s.setLastEntryOf k v).winResults = s.winResults ∧
    (s.setLastEntryOf k v).jobsDue = s.jobsDue ∧ (s.setLastEntryOf k v).partials = s.partials ∧ (s.setLastEntryOf k v).acqs = s.acqs ∧
    (s.setLastEntryOf k v).admQueue = s.admQueue ∧ (s.setLastEntryOf k v).flitsOut = s.flitsOut ∧ (s.setLastEntryOf k v).localFires = s.localFires ∧
    (s.setLastEntryOf k v).armHeld = s.armHeld ∧ (s.setLastEntryOf k v).kerns = s.kerns ∧ (s.setLastEntryOf k v).convs = s.convs ∧
    (s.setLastEntryOf k v).fuses = s.fuses ∧ (s.setLastEntryOf k v).fuseJob = s.fuseJob ∧ (s.setLastEntryOf k v).selfCal = s.selfCal ∧
    (s.setLastEntryOf k v).twWait = s.twWait ∧ (s.setLastEntryOf k v).time = s.time ∧ (s.setLastEntryOf k v).meshPorts = s.meshPorts ∧
    (s.setLastEntryOf k v).groupSeen = s.groupSeen ∧ (s.setLastEntryOf k v).rings = s.rings ∧ (s.setLastEntryOf k v).cmdSeq = s.cmdSeq ∧
    (s.setLastEntryOf k v).ringTurn = s.ringTurn ∧ (s.setLastEntryOf k v).noticesLost = s.noticesLost ∧ (s.setLastEntryOf k v).hostWrite = s.hostWrite ∧
    (s.setLastEntryOf k v).lanes = s.lanes ∧ (s.setLastEntryOf k v).mbxs = s.mbxs ∧ (s.setLastEntryOf k v).evtChs = s.evtChs ∧
    (s.setLastEntryOf k v).firings = s.firings ∧ (s.setLastEntryOf k v).groupTasks = s.groupTasks ∧ (s.setLastEntryOf k v).evtOuts = s.evtOuts ∧
    (s.setLastEntryOf k v).evtIns = s.evtIns ∧ (s.setLastEntryOf k v).tmrs = s.tmrs ∧ (s.setLastEntryOf k v).mcoreIrq = s.mcoreIrq ∧
    (s.setLastEntryOf k v).twin = s.twin ∧ (s.setLastEntryOf k v).logs = s.logs ∧ (s.setLastEntryOf k v).logWait = s.logWait ∧
    (s.setLastEntryOf k v).twinBias = s.twinBias ∧ (s.setLastEntryOf k v).mirrored = s.mirrored ∧ (s.setLastEntryOf k v).therm = s.therm ∧
    (s.setLastEntryOf k v).gov = s.gov ∧ (s.setLastEntryOf k v).mon = s.mon ∧ (s.setLastEntryOf k v).idleSince = s.idleSince ∧
    (s.setLastEntryOf k v).reacts = s.reacts ∧ (s.setLastEntryOf k v).logSeq = s.logSeq ∧ (s.setLastEntryOf k v).errUntil = s.errUntil ∧
    (s.setLastEntryOf k v).errPin = s.errPin ∧ (s.setLastEntryOf k v).recorder = s.recorder ∧ (s.setLastEntryOf k v).recSlots = s.recSlots ∧
    (s.setLastEntryOf k v).life = s.life ∧ (s.setLastEntryOf k v).lifeShadow = s.lifeShadow ∧ (s.setLastEntryOf k v).lifeCopies = s.lifeCopies ∧
    (s.setLastEntryOf k v).lifeSave = s.lifeSave ∧ (s.setLastEntryOf k v).lifeNext = s.lifeNext ∧ (s.setLastEntryOf k v).lastSave = s.lastSave ∧
    (s.setLastEntryOf k v).flash = s.flash ∧ (s.setLastEntryOf k v).sys = s.sys ∧ (s.setLastEntryOf k v).tap = s.tap :=
  by repeat (first | exact rfl | refine ⟨rfl, ?_⟩)

@[simp] theorem State.setPath_frame (s : State) (k : Nat) (v : PathLane) :
    (s.setPath k v).pending = s.pending ∧ (s.setPath k v).tick = s.tick ∧ (s.setPath k v).freeCtr = s.freeCtr ∧ (s.setPath k v).regs = s.regs ∧
    (s.setPath k v).wide = s.wide ∧ (s.setPath k v).raised = s.raised ∧ (s.setPath k v).faultLog = s.faultLog ∧ (s.setPath k v).pulses = s.pulses ∧
    (s.setPath k v).holdOn = s.holdOn ∧ (s.setPath k v).answered = s.answered ∧ (s.setPath k v).ucScrub = s.ucScrub ∧ (s.setPath k v).govMon = s.govMon ∧
    (s.setPath k v).pilots = s.pilots ∧ (s.setPath k v).pounds = s.pounds ∧ (s.setPath k v).pm = s.pm ∧ (s.setPath k v).ledgers = s.ledgers ∧
    (s.setPath k v).locks = s.locks ∧ (s.setPath k v).ctxs = s.ctxs ∧ (s.setPath k v).outs = s.outs ∧ (s.setPath k v).xbarWait = s.xbarWait ∧
    (s.setPath k v).xbarQueue = s.xbarQueue ∧ (s.setPath k v).xbarServed = s.xbarServed ∧ (s.setPath k v).owed = s.owed ∧
    (s.setPath k v).lastEntry = s.lastEntry ∧ (s.setPath k v).muteds = s.muteds ∧ (s.setPath k v).fetches = s.fetches ∧
    (s.setPath k v).synOrigin = s.synOrigin ∧ (s.setPath k v).maxPlays = s.maxPlays ∧ (s.setPath k v).sdram = s.sdram ∧
    (s.setPath k v).basinNext = s.basinNext ∧ (s.setPath k v).sbufs = s.sbufs ∧ (s.setPath k v).segs = s.segs ∧ (s.setPath k v).mrkPins = s.mrkPins ∧
    (s.setPath k v).mrkLines = s.mrkLines ∧ (s.setPath k v).fluxes = s.fluxes ∧ (s.setPath k v).demods = s.demods ∧ (s.setPath k v).inputs = s.inputs ∧
    (s.setPath k v).decMade = s.decMade ∧ (s.setPath k v).winResults = s.winResults ∧ (s.setPath k v).jobsDue = s.jobsDue ∧
    (s.setPath k v).partials = s.partials ∧ (s.setPath k v).acqs = s.acqs ∧ (s.setPath k v).admQueue = s.admQueue ∧
    (s.setPath k v).flitsOut = s.flitsOut ∧ (s.setPath k v).localFires = s.localFires ∧ (s.setPath k v).armHeld = s.armHeld ∧
    (s.setPath k v).kerns = s.kerns ∧ (s.setPath k v).convs = s.convs ∧ (s.setPath k v).fuses = s.fuses ∧ (s.setPath k v).fuseJob = s.fuseJob ∧
    (s.setPath k v).selfCal = s.selfCal ∧ (s.setPath k v).twWait = s.twWait ∧ (s.setPath k v).time = s.time ∧ (s.setPath k v).meshPorts = s.meshPorts ∧
    (s.setPath k v).groupSeen = s.groupSeen ∧ (s.setPath k v).rings = s.rings ∧ (s.setPath k v).cmdSeq = s.cmdSeq ∧
    (s.setPath k v).ringTurn = s.ringTurn ∧ (s.setPath k v).noticesLost = s.noticesLost ∧ (s.setPath k v).hostWrite = s.hostWrite ∧
    (s.setPath k v).lanes = s.lanes ∧ (s.setPath k v).mbxs = s.mbxs ∧ (s.setPath k v).evtChs = s.evtChs ∧ (s.setPath k v).firings = s.firings ∧
    (s.setPath k v).groupTasks = s.groupTasks ∧ (s.setPath k v).evtOuts = s.evtOuts ∧ (s.setPath k v).evtIns = s.evtIns ∧ (s.setPath k v).tmrs = s.tmrs ∧
    (s.setPath k v).mcoreIrq = s.mcoreIrq ∧ (s.setPath k v).twin = s.twin ∧ (s.setPath k v).logs = s.logs ∧ (s.setPath k v).logWait = s.logWait ∧
    (s.setPath k v).twinBias = s.twinBias ∧ (s.setPath k v).mirrored = s.mirrored ∧ (s.setPath k v).therm = s.therm ∧ (s.setPath k v).gov = s.gov ∧
    (s.setPath k v).mon = s.mon ∧ (s.setPath k v).idleSince = s.idleSince ∧ (s.setPath k v).reacts = s.reacts ∧ (s.setPath k v).logSeq = s.logSeq ∧
    (s.setPath k v).errUntil = s.errUntil ∧ (s.setPath k v).errPin = s.errPin ∧ (s.setPath k v).recorder = s.recorder ∧
    (s.setPath k v).recSlots = s.recSlots ∧ (s.setPath k v).life = s.life ∧ (s.setPath k v).lifeShadow = s.lifeShadow ∧
    (s.setPath k v).lifeCopies = s.lifeCopies ∧ (s.setPath k v).lifeSave = s.lifeSave ∧ (s.setPath k v).lifeNext = s.lifeNext ∧
    (s.setPath k v).lastSave = s.lastSave ∧ (s.setPath k v).flash = s.flash ∧ (s.setPath k v).sys = s.sys ∧ (s.setPath k v).tap = s.tap :=
  by repeat (first | exact rfl | refine ⟨rfl, ?_⟩)

@[simp] theorem State.setMuted_frame (s : State) (k : Nat) (v : List Muted) :
    (s.setMuted k v).pending = s.pending ∧ (s.setMuted k v).tick = s.tick ∧ (s.setMuted k v).freeCtr = s.freeCtr ∧ (s.setMuted k v).regs = s.regs ∧
    (s.setMuted k v).wide = s.wide ∧ (s.setMuted k v).raised = s.raised ∧ (s.setMuted k v).faultLog = s.faultLog ∧ (s.setMuted k v).pulses = s.pulses ∧
    (s.setMuted k v).holdOn = s.holdOn ∧ (s.setMuted k v).answered = s.answered ∧ (s.setMuted k v).ucScrub = s.ucScrub ∧
    (s.setMuted k v).govMon = s.govMon ∧ (s.setMuted k v).pilots = s.pilots ∧ (s.setMuted k v).pounds = s.pounds ∧ (s.setMuted k v).pm = s.pm ∧
    (s.setMuted k v).ledgers = s.ledgers ∧ (s.setMuted k v).locks = s.locks ∧ (s.setMuted k v).ctxs = s.ctxs ∧ (s.setMuted k v).outs = s.outs ∧
    (s.setMuted k v).xbarWait = s.xbarWait ∧ (s.setMuted k v).xbarQueue = s.xbarQueue ∧ (s.setMuted k v).xbarServed = s.xbarServed ∧
    (s.setMuted k v).owed = s.owed ∧ (s.setMuted k v).lastEntry = s.lastEntry ∧ (s.setMuted k v).paths = s.paths ∧ (s.setMuted k v).fetches = s.fetches ∧
    (s.setMuted k v).synOrigin = s.synOrigin ∧ (s.setMuted k v).maxPlays = s.maxPlays ∧ (s.setMuted k v).sdram = s.sdram ∧
    (s.setMuted k v).basinNext = s.basinNext ∧ (s.setMuted k v).sbufs = s.sbufs ∧ (s.setMuted k v).segs = s.segs ∧ (s.setMuted k v).mrkPins = s.mrkPins ∧
    (s.setMuted k v).mrkLines = s.mrkLines ∧ (s.setMuted k v).fluxes = s.fluxes ∧ (s.setMuted k v).demods = s.demods ∧
    (s.setMuted k v).inputs = s.inputs ∧ (s.setMuted k v).decMade = s.decMade ∧ (s.setMuted k v).winResults = s.winResults ∧
    (s.setMuted k v).jobsDue = s.jobsDue ∧ (s.setMuted k v).partials = s.partials ∧ (s.setMuted k v).acqs = s.acqs ∧
    (s.setMuted k v).admQueue = s.admQueue ∧ (s.setMuted k v).flitsOut = s.flitsOut ∧ (s.setMuted k v).localFires = s.localFires ∧
    (s.setMuted k v).armHeld = s.armHeld ∧ (s.setMuted k v).kerns = s.kerns ∧ (s.setMuted k v).convs = s.convs ∧ (s.setMuted k v).fuses = s.fuses ∧
    (s.setMuted k v).fuseJob = s.fuseJob ∧ (s.setMuted k v).selfCal = s.selfCal ∧ (s.setMuted k v).twWait = s.twWait ∧ (s.setMuted k v).time = s.time ∧
    (s.setMuted k v).meshPorts = s.meshPorts ∧ (s.setMuted k v).groupSeen = s.groupSeen ∧ (s.setMuted k v).rings = s.rings ∧
    (s.setMuted k v).cmdSeq = s.cmdSeq ∧ (s.setMuted k v).ringTurn = s.ringTurn ∧ (s.setMuted k v).noticesLost = s.noticesLost ∧
    (s.setMuted k v).hostWrite = s.hostWrite ∧ (s.setMuted k v).lanes = s.lanes ∧ (s.setMuted k v).mbxs = s.mbxs ∧ (s.setMuted k v).evtChs = s.evtChs ∧
    (s.setMuted k v).firings = s.firings ∧ (s.setMuted k v).groupTasks = s.groupTasks ∧ (s.setMuted k v).evtOuts = s.evtOuts ∧
    (s.setMuted k v).evtIns = s.evtIns ∧ (s.setMuted k v).tmrs = s.tmrs ∧ (s.setMuted k v).mcoreIrq = s.mcoreIrq ∧ (s.setMuted k v).twin = s.twin ∧
    (s.setMuted k v).logs = s.logs ∧ (s.setMuted k v).logWait = s.logWait ∧ (s.setMuted k v).twinBias = s.twinBias ∧
    (s.setMuted k v).mirrored = s.mirrored ∧ (s.setMuted k v).therm = s.therm ∧ (s.setMuted k v).gov = s.gov ∧ (s.setMuted k v).mon = s.mon ∧
    (s.setMuted k v).idleSince = s.idleSince ∧ (s.setMuted k v).reacts = s.reacts ∧ (s.setMuted k v).logSeq = s.logSeq ∧
    (s.setMuted k v).errUntil = s.errUntil ∧ (s.setMuted k v).errPin = s.errPin ∧ (s.setMuted k v).recorder = s.recorder ∧
    (s.setMuted k v).recSlots = s.recSlots ∧ (s.setMuted k v).life = s.life ∧ (s.setMuted k v).lifeShadow = s.lifeShadow ∧
    (s.setMuted k v).lifeCopies = s.lifeCopies ∧ (s.setMuted k v).lifeSave = s.lifeSave ∧ (s.setMuted k v).lifeNext = s.lifeNext ∧
    (s.setMuted k v).lastSave = s.lastSave ∧ (s.setMuted k v).flash = s.flash ∧ (s.setMuted k v).sys = s.sys ∧ (s.setMuted k v).tap = s.tap :=
  by repeat (first | exact rfl | refine ⟨rfl, ?_⟩)

@[simp] theorem State.setPrefetch_frame (s : State) (k : Nat) (v : List Fetch) :
    (s.setPrefetch k v).pending = s.pending ∧ (s.setPrefetch k v).tick = s.tick ∧ (s.setPrefetch k v).freeCtr = s.freeCtr ∧
    (s.setPrefetch k v).regs = s.regs ∧ (s.setPrefetch k v).wide = s.wide ∧ (s.setPrefetch k v).raised = s.raised ∧
    (s.setPrefetch k v).faultLog = s.faultLog ∧ (s.setPrefetch k v).pulses = s.pulses ∧ (s.setPrefetch k v).holdOn = s.holdOn ∧
    (s.setPrefetch k v).answered = s.answered ∧ (s.setPrefetch k v).ucScrub = s.ucScrub ∧ (s.setPrefetch k v).govMon = s.govMon ∧
    (s.setPrefetch k v).pilots = s.pilots ∧ (s.setPrefetch k v).pounds = s.pounds ∧ (s.setPrefetch k v).pm = s.pm ∧
    (s.setPrefetch k v).ledgers = s.ledgers ∧ (s.setPrefetch k v).locks = s.locks ∧ (s.setPrefetch k v).ctxs = s.ctxs ∧
    (s.setPrefetch k v).outs = s.outs ∧ (s.setPrefetch k v).xbarWait = s.xbarWait ∧ (s.setPrefetch k v).xbarQueue = s.xbarQueue ∧
    (s.setPrefetch k v).xbarServed = s.xbarServed ∧ (s.setPrefetch k v).owed = s.owed ∧ (s.setPrefetch k v).lastEntry = s.lastEntry ∧
    (s.setPrefetch k v).paths = s.paths ∧ (s.setPrefetch k v).muteds = s.muteds ∧ (s.setPrefetch k v).synOrigin = s.synOrigin ∧
    (s.setPrefetch k v).maxPlays = s.maxPlays ∧ (s.setPrefetch k v).sdram = s.sdram ∧ (s.setPrefetch k v).basinNext = s.basinNext ∧
    (s.setPrefetch k v).sbufs = s.sbufs ∧ (s.setPrefetch k v).segs = s.segs ∧ (s.setPrefetch k v).mrkPins = s.mrkPins ∧
    (s.setPrefetch k v).mrkLines = s.mrkLines ∧ (s.setPrefetch k v).fluxes = s.fluxes ∧ (s.setPrefetch k v).demods = s.demods ∧
    (s.setPrefetch k v).inputs = s.inputs ∧ (s.setPrefetch k v).decMade = s.decMade ∧ (s.setPrefetch k v).winResults = s.winResults ∧
    (s.setPrefetch k v).jobsDue = s.jobsDue ∧ (s.setPrefetch k v).partials = s.partials ∧ (s.setPrefetch k v).acqs = s.acqs ∧
    (s.setPrefetch k v).admQueue = s.admQueue ∧ (s.setPrefetch k v).flitsOut = s.flitsOut ∧ (s.setPrefetch k v).localFires = s.localFires ∧
    (s.setPrefetch k v).armHeld = s.armHeld ∧ (s.setPrefetch k v).kerns = s.kerns ∧ (s.setPrefetch k v).convs = s.convs ∧
    (s.setPrefetch k v).fuses = s.fuses ∧ (s.setPrefetch k v).fuseJob = s.fuseJob ∧ (s.setPrefetch k v).selfCal = s.selfCal ∧
    (s.setPrefetch k v).twWait = s.twWait ∧ (s.setPrefetch k v).time = s.time ∧ (s.setPrefetch k v).meshPorts = s.meshPorts ∧
    (s.setPrefetch k v).groupSeen = s.groupSeen ∧ (s.setPrefetch k v).rings = s.rings ∧ (s.setPrefetch k v).cmdSeq = s.cmdSeq ∧
    (s.setPrefetch k v).ringTurn = s.ringTurn ∧ (s.setPrefetch k v).noticesLost = s.noticesLost ∧ (s.setPrefetch k v).hostWrite = s.hostWrite ∧
    (s.setPrefetch k v).lanes = s.lanes ∧ (s.setPrefetch k v).mbxs = s.mbxs ∧ (s.setPrefetch k v).evtChs = s.evtChs ∧
    (s.setPrefetch k v).firings = s.firings ∧ (s.setPrefetch k v).groupTasks = s.groupTasks ∧ (s.setPrefetch k v).evtOuts = s.evtOuts ∧
    (s.setPrefetch k v).evtIns = s.evtIns ∧ (s.setPrefetch k v).tmrs = s.tmrs ∧ (s.setPrefetch k v).mcoreIrq = s.mcoreIrq ∧
    (s.setPrefetch k v).twin = s.twin ∧ (s.setPrefetch k v).logs = s.logs ∧ (s.setPrefetch k v).logWait = s.logWait ∧
    (s.setPrefetch k v).twinBias = s.twinBias ∧ (s.setPrefetch k v).mirrored = s.mirrored ∧ (s.setPrefetch k v).therm = s.therm ∧
    (s.setPrefetch k v).gov = s.gov ∧ (s.setPrefetch k v).mon = s.mon ∧ (s.setPrefetch k v).idleSince = s.idleSince ∧
    (s.setPrefetch k v).reacts = s.reacts ∧ (s.setPrefetch k v).logSeq = s.logSeq ∧ (s.setPrefetch k v).errUntil = s.errUntil ∧
    (s.setPrefetch k v).errPin = s.errPin ∧ (s.setPrefetch k v).recorder = s.recorder ∧ (s.setPrefetch k v).recSlots = s.recSlots ∧
    (s.setPrefetch k v).life = s.life ∧ (s.setPrefetch k v).lifeShadow = s.lifeShadow ∧ (s.setPrefetch k v).lifeCopies = s.lifeCopies ∧
    (s.setPrefetch k v).lifeSave = s.lifeSave ∧ (s.setPrefetch k v).lifeNext = s.lifeNext ∧ (s.setPrefetch k v).lastSave = s.lastSave ∧
    (s.setPrefetch k v).flash = s.flash ∧ (s.setPrefetch k v).sys = s.sys ∧ (s.setPrefetch k v).tap = s.tap :=
  by repeat (first | exact rfl | refine ⟨rfl, ?_⟩)

@[simp] theorem State.setSbufCnt_frame (s : State) (k : Nat) (v : Nat × Nat) :
    (s.setSbufCnt k v).pending = s.pending ∧ (s.setSbufCnt k v).tick = s.tick ∧ (s.setSbufCnt k v).freeCtr = s.freeCtr ∧
    (s.setSbufCnt k v).regs = s.regs ∧ (s.setSbufCnt k v).wide = s.wide ∧ (s.setSbufCnt k v).raised = s.raised ∧
    (s.setSbufCnt k v).faultLog = s.faultLog ∧ (s.setSbufCnt k v).pulses = s.pulses ∧ (s.setSbufCnt k v).holdOn = s.holdOn ∧
    (s.setSbufCnt k v).answered = s.answered ∧ (s.setSbufCnt k v).ucScrub = s.ucScrub ∧ (s.setSbufCnt k v).govMon = s.govMon ∧
    (s.setSbufCnt k v).pilots = s.pilots ∧ (s.setSbufCnt k v).pounds = s.pounds ∧ (s.setSbufCnt k v).pm = s.pm ∧ (s.setSbufCnt k v).ledgers = s.ledgers ∧
    (s.setSbufCnt k v).locks = s.locks ∧ (s.setSbufCnt k v).ctxs = s.ctxs ∧ (s.setSbufCnt k v).outs = s.outs ∧ (s.setSbufCnt k v).xbarWait = s.xbarWait ∧
    (s.setSbufCnt k v).xbarQueue = s.xbarQueue ∧ (s.setSbufCnt k v).xbarServed = s.xbarServed ∧ (s.setSbufCnt k v).owed = s.owed ∧
    (s.setSbufCnt k v).lastEntry = s.lastEntry ∧ (s.setSbufCnt k v).paths = s.paths ∧ (s.setSbufCnt k v).muteds = s.muteds ∧
    (s.setSbufCnt k v).fetches = s.fetches ∧ (s.setSbufCnt k v).synOrigin = s.synOrigin ∧ (s.setSbufCnt k v).maxPlays = s.maxPlays ∧
    (s.setSbufCnt k v).sdram = s.sdram ∧ (s.setSbufCnt k v).basinNext = s.basinNext ∧ (s.setSbufCnt k v).segs = s.segs ∧
    (s.setSbufCnt k v).mrkPins = s.mrkPins ∧ (s.setSbufCnt k v).mrkLines = s.mrkLines ∧ (s.setSbufCnt k v).fluxes = s.fluxes ∧
    (s.setSbufCnt k v).demods = s.demods ∧ (s.setSbufCnt k v).inputs = s.inputs ∧ (s.setSbufCnt k v).decMade = s.decMade ∧
    (s.setSbufCnt k v).winResults = s.winResults ∧ (s.setSbufCnt k v).jobsDue = s.jobsDue ∧ (s.setSbufCnt k v).partials = s.partials ∧
    (s.setSbufCnt k v).acqs = s.acqs ∧ (s.setSbufCnt k v).admQueue = s.admQueue ∧ (s.setSbufCnt k v).flitsOut = s.flitsOut ∧
    (s.setSbufCnt k v).localFires = s.localFires ∧ (s.setSbufCnt k v).armHeld = s.armHeld ∧ (s.setSbufCnt k v).kerns = s.kerns ∧
    (s.setSbufCnt k v).convs = s.convs ∧ (s.setSbufCnt k v).fuses = s.fuses ∧ (s.setSbufCnt k v).fuseJob = s.fuseJob ∧
    (s.setSbufCnt k v).selfCal = s.selfCal ∧ (s.setSbufCnt k v).twWait = s.twWait ∧ (s.setSbufCnt k v).time = s.time ∧
    (s.setSbufCnt k v).meshPorts = s.meshPorts ∧ (s.setSbufCnt k v).groupSeen = s.groupSeen ∧ (s.setSbufCnt k v).rings = s.rings ∧
    (s.setSbufCnt k v).cmdSeq = s.cmdSeq ∧ (s.setSbufCnt k v).ringTurn = s.ringTurn ∧ (s.setSbufCnt k v).noticesLost = s.noticesLost ∧
    (s.setSbufCnt k v).hostWrite = s.hostWrite ∧ (s.setSbufCnt k v).lanes = s.lanes ∧ (s.setSbufCnt k v).mbxs = s.mbxs ∧
    (s.setSbufCnt k v).evtChs = s.evtChs ∧ (s.setSbufCnt k v).firings = s.firings ∧ (s.setSbufCnt k v).groupTasks = s.groupTasks ∧
    (s.setSbufCnt k v).evtOuts = s.evtOuts ∧ (s.setSbufCnt k v).evtIns = s.evtIns ∧ (s.setSbufCnt k v).tmrs = s.tmrs ∧
    (s.setSbufCnt k v).mcoreIrq = s.mcoreIrq ∧ (s.setSbufCnt k v).twin = s.twin ∧ (s.setSbufCnt k v).logs = s.logs ∧
    (s.setSbufCnt k v).logWait = s.logWait ∧ (s.setSbufCnt k v).twinBias = s.twinBias ∧ (s.setSbufCnt k v).mirrored = s.mirrored ∧
    (s.setSbufCnt k v).therm = s.therm ∧ (s.setSbufCnt k v).gov = s.gov ∧ (s.setSbufCnt k v).mon = s.mon ∧ (s.setSbufCnt k v).idleSince = s.idleSince ∧
    (s.setSbufCnt k v).reacts = s.reacts ∧ (s.setSbufCnt k v).logSeq = s.logSeq ∧ (s.setSbufCnt k v).errUntil = s.errUntil ∧
    (s.setSbufCnt k v).errPin = s.errPin ∧ (s.setSbufCnt k v).recorder = s.recorder ∧ (s.setSbufCnt k v).recSlots = s.recSlots ∧
    (s.setSbufCnt k v).life = s.life ∧ (s.setSbufCnt k v).lifeShadow = s.lifeShadow ∧ (s.setSbufCnt k v).lifeCopies = s.lifeCopies ∧
    (s.setSbufCnt k v).lifeSave = s.lifeSave ∧ (s.setSbufCnt k v).lifeNext = s.lifeNext ∧ (s.setSbufCnt k v).lastSave = s.lastSave ∧
    (s.setSbufCnt k v).flash = s.flash ∧ (s.setSbufCnt k v).sys = s.sys ∧ (s.setSbufCnt k v).tap = s.tap :=
  by repeat (first | exact rfl | refine ⟨rfl, ?_⟩)

@[simp] theorem State.setSeg_frame (s : State) (k : Nat) (v : BitVec 128) :
    (s.setSeg k v).pending = s.pending ∧ (s.setSeg k v).tick = s.tick ∧ (s.setSeg k v).freeCtr = s.freeCtr ∧ (s.setSeg k v).regs = s.regs ∧
    (s.setSeg k v).wide = s.wide ∧ (s.setSeg k v).raised = s.raised ∧ (s.setSeg k v).faultLog = s.faultLog ∧ (s.setSeg k v).pulses = s.pulses ∧
    (s.setSeg k v).holdOn = s.holdOn ∧ (s.setSeg k v).answered = s.answered ∧ (s.setSeg k v).ucScrub = s.ucScrub ∧ (s.setSeg k v).govMon = s.govMon ∧
    (s.setSeg k v).pilots = s.pilots ∧ (s.setSeg k v).pounds = s.pounds ∧ (s.setSeg k v).pm = s.pm ∧ (s.setSeg k v).ledgers = s.ledgers ∧
    (s.setSeg k v).locks = s.locks ∧ (s.setSeg k v).ctxs = s.ctxs ∧ (s.setSeg k v).outs = s.outs ∧ (s.setSeg k v).xbarWait = s.xbarWait ∧
    (s.setSeg k v).xbarQueue = s.xbarQueue ∧ (s.setSeg k v).xbarServed = s.xbarServed ∧ (s.setSeg k v).owed = s.owed ∧
    (s.setSeg k v).lastEntry = s.lastEntry ∧ (s.setSeg k v).paths = s.paths ∧ (s.setSeg k v).muteds = s.muteds ∧ (s.setSeg k v).fetches = s.fetches ∧
    (s.setSeg k v).synOrigin = s.synOrigin ∧ (s.setSeg k v).maxPlays = s.maxPlays ∧ (s.setSeg k v).sdram = s.sdram ∧
    (s.setSeg k v).basinNext = s.basinNext ∧ (s.setSeg k v).sbufs = s.sbufs ∧ (s.setSeg k v).mrkPins = s.mrkPins ∧ (s.setSeg k v).mrkLines = s.mrkLines ∧
    (s.setSeg k v).fluxes = s.fluxes ∧ (s.setSeg k v).demods = s.demods ∧ (s.setSeg k v).inputs = s.inputs ∧ (s.setSeg k v).decMade = s.decMade ∧
    (s.setSeg k v).winResults = s.winResults ∧ (s.setSeg k v).jobsDue = s.jobsDue ∧ (s.setSeg k v).partials = s.partials ∧ (s.setSeg k v).acqs = s.acqs ∧
    (s.setSeg k v).admQueue = s.admQueue ∧ (s.setSeg k v).flitsOut = s.flitsOut ∧ (s.setSeg k v).localFires = s.localFires ∧
    (s.setSeg k v).armHeld = s.armHeld ∧ (s.setSeg k v).kerns = s.kerns ∧ (s.setSeg k v).convs = s.convs ∧ (s.setSeg k v).fuses = s.fuses ∧
    (s.setSeg k v).fuseJob = s.fuseJob ∧ (s.setSeg k v).selfCal = s.selfCal ∧ (s.setSeg k v).twWait = s.twWait ∧ (s.setSeg k v).time = s.time ∧
    (s.setSeg k v).meshPorts = s.meshPorts ∧ (s.setSeg k v).groupSeen = s.groupSeen ∧ (s.setSeg k v).rings = s.rings ∧ (s.setSeg k v).cmdSeq = s.cmdSeq ∧
    (s.setSeg k v).ringTurn = s.ringTurn ∧ (s.setSeg k v).noticesLost = s.noticesLost ∧ (s.setSeg k v).hostWrite = s.hostWrite ∧
    (s.setSeg k v).lanes = s.lanes ∧ (s.setSeg k v).mbxs = s.mbxs ∧ (s.setSeg k v).evtChs = s.evtChs ∧ (s.setSeg k v).firings = s.firings ∧
    (s.setSeg k v).groupTasks = s.groupTasks ∧ (s.setSeg k v).evtOuts = s.evtOuts ∧ (s.setSeg k v).evtIns = s.evtIns ∧ (s.setSeg k v).tmrs = s.tmrs ∧
    (s.setSeg k v).mcoreIrq = s.mcoreIrq ∧ (s.setSeg k v).twin = s.twin ∧ (s.setSeg k v).logs = s.logs ∧ (s.setSeg k v).logWait = s.logWait ∧
    (s.setSeg k v).twinBias = s.twinBias ∧ (s.setSeg k v).mirrored = s.mirrored ∧ (s.setSeg k v).therm = s.therm ∧ (s.setSeg k v).gov = s.gov ∧
    (s.setSeg k v).mon = s.mon ∧ (s.setSeg k v).idleSince = s.idleSince ∧ (s.setSeg k v).reacts = s.reacts ∧ (s.setSeg k v).logSeq = s.logSeq ∧
    (s.setSeg k v).errUntil = s.errUntil ∧ (s.setSeg k v).errPin = s.errPin ∧ (s.setSeg k v).recorder = s.recorder ∧
    (s.setSeg k v).recSlots = s.recSlots ∧ (s.setSeg k v).life = s.life ∧ (s.setSeg k v).lifeShadow = s.lifeShadow ∧
    (s.setSeg k v).lifeCopies = s.lifeCopies ∧ (s.setSeg k v).lifeSave = s.lifeSave ∧ (s.setSeg k v).lifeNext = s.lifeNext ∧
    (s.setSeg k v).lastSave = s.lastSave ∧ (s.setSeg k v).flash = s.flash ∧ (s.setSeg k v).sys = s.sys ∧ (s.setSeg k v).tap = s.tap :=
  by repeat (first | exact rfl | refine ⟨rfl, ?_⟩)

@[simp] theorem State.setMrkPin_frame (s : State) (k : Nat) (v : MrkPin) :
    (s.setMrkPin k v).pending = s.pending ∧ (s.setMrkPin k v).tick = s.tick ∧ (s.setMrkPin k v).freeCtr = s.freeCtr ∧ (s.setMrkPin k v).regs = s.regs ∧
    (s.setMrkPin k v).wide = s.wide ∧ (s.setMrkPin k v).raised = s.raised ∧ (s.setMrkPin k v).faultLog = s.faultLog ∧
    (s.setMrkPin k v).pulses = s.pulses ∧ (s.setMrkPin k v).holdOn = s.holdOn ∧ (s.setMrkPin k v).answered = s.answered ∧
    (s.setMrkPin k v).ucScrub = s.ucScrub ∧ (s.setMrkPin k v).govMon = s.govMon ∧ (s.setMrkPin k v).pilots = s.pilots ∧
    (s.setMrkPin k v).pounds = s.pounds ∧ (s.setMrkPin k v).pm = s.pm ∧ (s.setMrkPin k v).ledgers = s.ledgers ∧ (s.setMrkPin k v).locks = s.locks ∧
    (s.setMrkPin k v).ctxs = s.ctxs ∧ (s.setMrkPin k v).outs = s.outs ∧ (s.setMrkPin k v).xbarWait = s.xbarWait ∧
    (s.setMrkPin k v).xbarQueue = s.xbarQueue ∧ (s.setMrkPin k v).xbarServed = s.xbarServed ∧ (s.setMrkPin k v).owed = s.owed ∧
    (s.setMrkPin k v).lastEntry = s.lastEntry ∧ (s.setMrkPin k v).paths = s.paths ∧ (s.setMrkPin k v).muteds = s.muteds ∧
    (s.setMrkPin k v).fetches = s.fetches ∧ (s.setMrkPin k v).synOrigin = s.synOrigin ∧ (s.setMrkPin k v).maxPlays = s.maxPlays ∧
    (s.setMrkPin k v).sdram = s.sdram ∧ (s.setMrkPin k v).basinNext = s.basinNext ∧ (s.setMrkPin k v).sbufs = s.sbufs ∧ (s.setMrkPin k v).segs = s.segs ∧
    (s.setMrkPin k v).mrkLines = s.mrkLines ∧ (s.setMrkPin k v).fluxes = s.fluxes ∧ (s.setMrkPin k v).demods = s.demods ∧
    (s.setMrkPin k v).inputs = s.inputs ∧ (s.setMrkPin k v).decMade = s.decMade ∧ (s.setMrkPin k v).winResults = s.winResults ∧
    (s.setMrkPin k v).jobsDue = s.jobsDue ∧ (s.setMrkPin k v).partials = s.partials ∧ (s.setMrkPin k v).acqs = s.acqs ∧
    (s.setMrkPin k v).admQueue = s.admQueue ∧ (s.setMrkPin k v).flitsOut = s.flitsOut ∧ (s.setMrkPin k v).localFires = s.localFires ∧
    (s.setMrkPin k v).armHeld = s.armHeld ∧ (s.setMrkPin k v).kerns = s.kerns ∧ (s.setMrkPin k v).convs = s.convs ∧ (s.setMrkPin k v).fuses = s.fuses ∧
    (s.setMrkPin k v).fuseJob = s.fuseJob ∧ (s.setMrkPin k v).selfCal = s.selfCal ∧ (s.setMrkPin k v).twWait = s.twWait ∧
    (s.setMrkPin k v).time = s.time ∧ (s.setMrkPin k v).meshPorts = s.meshPorts ∧ (s.setMrkPin k v).groupSeen = s.groupSeen ∧
    (s.setMrkPin k v).rings = s.rings ∧ (s.setMrkPin k v).cmdSeq = s.cmdSeq ∧ (s.setMrkPin k v).ringTurn = s.ringTurn ∧
    (s.setMrkPin k v).noticesLost = s.noticesLost ∧ (s.setMrkPin k v).hostWrite = s.hostWrite ∧ (s.setMrkPin k v).lanes = s.lanes ∧
    (s.setMrkPin k v).mbxs = s.mbxs ∧ (s.setMrkPin k v).evtChs = s.evtChs ∧ (s.setMrkPin k v).firings = s.firings ∧
    (s.setMrkPin k v).groupTasks = s.groupTasks ∧ (s.setMrkPin k v).evtOuts = s.evtOuts ∧ (s.setMrkPin k v).evtIns = s.evtIns ∧
    (s.setMrkPin k v).tmrs = s.tmrs ∧ (s.setMrkPin k v).mcoreIrq = s.mcoreIrq ∧ (s.setMrkPin k v).twin = s.twin ∧ (s.setMrkPin k v).logs = s.logs ∧
    (s.setMrkPin k v).logWait = s.logWait ∧ (s.setMrkPin k v).twinBias = s.twinBias ∧ (s.setMrkPin k v).mirrored = s.mirrored ∧
    (s.setMrkPin k v).therm = s.therm ∧ (s.setMrkPin k v).gov = s.gov ∧ (s.setMrkPin k v).mon = s.mon ∧ (s.setMrkPin k v).idleSince = s.idleSince ∧
    (s.setMrkPin k v).reacts = s.reacts ∧ (s.setMrkPin k v).logSeq = s.logSeq ∧ (s.setMrkPin k v).errUntil = s.errUntil ∧
    (s.setMrkPin k v).errPin = s.errPin ∧ (s.setMrkPin k v).recorder = s.recorder ∧ (s.setMrkPin k v).recSlots = s.recSlots ∧
    (s.setMrkPin k v).life = s.life ∧ (s.setMrkPin k v).lifeShadow = s.lifeShadow ∧ (s.setMrkPin k v).lifeCopies = s.lifeCopies ∧
    (s.setMrkPin k v).lifeSave = s.lifeSave ∧ (s.setMrkPin k v).lifeNext = s.lifeNext ∧ (s.setMrkPin k v).lastSave = s.lastSave ∧
    (s.setMrkPin k v).flash = s.flash ∧ (s.setMrkPin k v).sys = s.sys ∧ (s.setMrkPin k v).tap = s.tap :=
  by repeat (first | exact rfl | refine ⟨rfl, ?_⟩)

@[simp] theorem State.setMrkLine_frame (s : State) (k : Nat) (v : BitVec 4) :
    (s.setMrkLine k v).pending = s.pending ∧ (s.setMrkLine k v).tick = s.tick ∧ (s.setMrkLine k v).freeCtr = s.freeCtr ∧
    (s.setMrkLine k v).regs = s.regs ∧ (s.setMrkLine k v).wide = s.wide ∧ (s.setMrkLine k v).raised = s.raised ∧
    (s.setMrkLine k v).faultLog = s.faultLog ∧ (s.setMrkLine k v).pulses = s.pulses ∧ (s.setMrkLine k v).holdOn = s.holdOn ∧
    (s.setMrkLine k v).answered = s.answered ∧ (s.setMrkLine k v).ucScrub = s.ucScrub ∧ (s.setMrkLine k v).govMon = s.govMon ∧
    (s.setMrkLine k v).pilots = s.pilots ∧ (s.setMrkLine k v).pounds = s.pounds ∧ (s.setMrkLine k v).pm = s.pm ∧ (s.setMrkLine k v).ledgers = s.ledgers ∧
    (s.setMrkLine k v).locks = s.locks ∧ (s.setMrkLine k v).ctxs = s.ctxs ∧ (s.setMrkLine k v).outs = s.outs ∧ (s.setMrkLine k v).xbarWait = s.xbarWait ∧
    (s.setMrkLine k v).xbarQueue = s.xbarQueue ∧ (s.setMrkLine k v).xbarServed = s.xbarServed ∧ (s.setMrkLine k v).owed = s.owed ∧
    (s.setMrkLine k v).lastEntry = s.lastEntry ∧ (s.setMrkLine k v).paths = s.paths ∧ (s.setMrkLine k v).muteds = s.muteds ∧
    (s.setMrkLine k v).fetches = s.fetches ∧ (s.setMrkLine k v).synOrigin = s.synOrigin ∧ (s.setMrkLine k v).maxPlays = s.maxPlays ∧
    (s.setMrkLine k v).sdram = s.sdram ∧ (s.setMrkLine k v).basinNext = s.basinNext ∧ (s.setMrkLine k v).sbufs = s.sbufs ∧
    (s.setMrkLine k v).segs = s.segs ∧ (s.setMrkLine k v).mrkPins = s.mrkPins ∧ (s.setMrkLine k v).fluxes = s.fluxes ∧
    (s.setMrkLine k v).demods = s.demods ∧ (s.setMrkLine k v).inputs = s.inputs ∧ (s.setMrkLine k v).decMade = s.decMade ∧
    (s.setMrkLine k v).winResults = s.winResults ∧ (s.setMrkLine k v).jobsDue = s.jobsDue ∧ (s.setMrkLine k v).partials = s.partials ∧
    (s.setMrkLine k v).acqs = s.acqs ∧ (s.setMrkLine k v).admQueue = s.admQueue ∧ (s.setMrkLine k v).flitsOut = s.flitsOut ∧
    (s.setMrkLine k v).localFires = s.localFires ∧ (s.setMrkLine k v).armHeld = s.armHeld ∧ (s.setMrkLine k v).kerns = s.kerns ∧
    (s.setMrkLine k v).convs = s.convs ∧ (s.setMrkLine k v).fuses = s.fuses ∧ (s.setMrkLine k v).fuseJob = s.fuseJob ∧
    (s.setMrkLine k v).selfCal = s.selfCal ∧ (s.setMrkLine k v).twWait = s.twWait ∧ (s.setMrkLine k v).time = s.time ∧
    (s.setMrkLine k v).meshPorts = s.meshPorts ∧ (s.setMrkLine k v).groupSeen = s.groupSeen ∧ (s.setMrkLine k v).rings = s.rings ∧
    (s.setMrkLine k v).cmdSeq = s.cmdSeq ∧ (s.setMrkLine k v).ringTurn = s.ringTurn ∧ (s.setMrkLine k v).noticesLost = s.noticesLost ∧
    (s.setMrkLine k v).hostWrite = s.hostWrite ∧ (s.setMrkLine k v).lanes = s.lanes ∧ (s.setMrkLine k v).mbxs = s.mbxs ∧
    (s.setMrkLine k v).evtChs = s.evtChs ∧ (s.setMrkLine k v).firings = s.firings ∧ (s.setMrkLine k v).groupTasks = s.groupTasks ∧
    (s.setMrkLine k v).evtOuts = s.evtOuts ∧ (s.setMrkLine k v).evtIns = s.evtIns ∧ (s.setMrkLine k v).tmrs = s.tmrs ∧
    (s.setMrkLine k v).mcoreIrq = s.mcoreIrq ∧ (s.setMrkLine k v).twin = s.twin ∧ (s.setMrkLine k v).logs = s.logs ∧
    (s.setMrkLine k v).logWait = s.logWait ∧ (s.setMrkLine k v).twinBias = s.twinBias ∧ (s.setMrkLine k v).mirrored = s.mirrored ∧
    (s.setMrkLine k v).therm = s.therm ∧ (s.setMrkLine k v).gov = s.gov ∧ (s.setMrkLine k v).mon = s.mon ∧ (s.setMrkLine k v).idleSince = s.idleSince ∧
    (s.setMrkLine k v).reacts = s.reacts ∧ (s.setMrkLine k v).logSeq = s.logSeq ∧ (s.setMrkLine k v).errUntil = s.errUntil ∧
    (s.setMrkLine k v).errPin = s.errPin ∧ (s.setMrkLine k v).recorder = s.recorder ∧ (s.setMrkLine k v).recSlots = s.recSlots ∧
    (s.setMrkLine k v).life = s.life ∧ (s.setMrkLine k v).lifeShadow = s.lifeShadow ∧ (s.setMrkLine k v).lifeCopies = s.lifeCopies ∧
    (s.setMrkLine k v).lifeSave = s.lifeSave ∧ (s.setMrkLine k v).lifeNext = s.lifeNext ∧ (s.setMrkLine k v).lastSave = s.lastSave ∧
    (s.setMrkLine k v).flash = s.flash ∧ (s.setMrkLine k v).sys = s.sys ∧ (s.setMrkLine k v).tap = s.tap :=
  by repeat (first | exact rfl | refine ⟨rfl, ?_⟩)

@[simp] theorem State.setFluxLine_frame (s : State) (k : Nat) (v : FluxLine) :
    (s.setFluxLine k v).pending = s.pending ∧ (s.setFluxLine k v).tick = s.tick ∧ (s.setFluxLine k v).freeCtr = s.freeCtr ∧
    (s.setFluxLine k v).regs = s.regs ∧ (s.setFluxLine k v).wide = s.wide ∧ (s.setFluxLine k v).raised = s.raised ∧
    (s.setFluxLine k v).faultLog = s.faultLog ∧ (s.setFluxLine k v).pulses = s.pulses ∧ (s.setFluxLine k v).holdOn = s.holdOn ∧
    (s.setFluxLine k v).answered = s.answered ∧ (s.setFluxLine k v).ucScrub = s.ucScrub ∧ (s.setFluxLine k v).govMon = s.govMon ∧
    (s.setFluxLine k v).pilots = s.pilots ∧ (s.setFluxLine k v).pounds = s.pounds ∧ (s.setFluxLine k v).pm = s.pm ∧
    (s.setFluxLine k v).ledgers = s.ledgers ∧ (s.setFluxLine k v).locks = s.locks ∧ (s.setFluxLine k v).ctxs = s.ctxs ∧
    (s.setFluxLine k v).outs = s.outs ∧ (s.setFluxLine k v).xbarWait = s.xbarWait ∧ (s.setFluxLine k v).xbarQueue = s.xbarQueue ∧
    (s.setFluxLine k v).xbarServed = s.xbarServed ∧ (s.setFluxLine k v).owed = s.owed ∧ (s.setFluxLine k v).lastEntry = s.lastEntry ∧
    (s.setFluxLine k v).paths = s.paths ∧ (s.setFluxLine k v).muteds = s.muteds ∧ (s.setFluxLine k v).fetches = s.fetches ∧
    (s.setFluxLine k v).synOrigin = s.synOrigin ∧ (s.setFluxLine k v).maxPlays = s.maxPlays ∧ (s.setFluxLine k v).sdram = s.sdram ∧
    (s.setFluxLine k v).basinNext = s.basinNext ∧ (s.setFluxLine k v).sbufs = s.sbufs ∧ (s.setFluxLine k v).segs = s.segs ∧
    (s.setFluxLine k v).mrkPins = s.mrkPins ∧ (s.setFluxLine k v).mrkLines = s.mrkLines ∧ (s.setFluxLine k v).demods = s.demods ∧
    (s.setFluxLine k v).inputs = s.inputs ∧ (s.setFluxLine k v).decMade = s.decMade ∧ (s.setFluxLine k v).winResults = s.winResults ∧
    (s.setFluxLine k v).jobsDue = s.jobsDue ∧ (s.setFluxLine k v).partials = s.partials ∧ (s.setFluxLine k v).acqs = s.acqs ∧
    (s.setFluxLine k v).admQueue = s.admQueue ∧ (s.setFluxLine k v).flitsOut = s.flitsOut ∧ (s.setFluxLine k v).localFires = s.localFires ∧
    (s.setFluxLine k v).armHeld = s.armHeld ∧ (s.setFluxLine k v).kerns = s.kerns ∧ (s.setFluxLine k v).convs = s.convs ∧
    (s.setFluxLine k v).fuses = s.fuses ∧ (s.setFluxLine k v).fuseJob = s.fuseJob ∧ (s.setFluxLine k v).selfCal = s.selfCal ∧
    (s.setFluxLine k v).twWait = s.twWait ∧ (s.setFluxLine k v).time = s.time ∧ (s.setFluxLine k v).meshPorts = s.meshPorts ∧
    (s.setFluxLine k v).groupSeen = s.groupSeen ∧ (s.setFluxLine k v).rings = s.rings ∧ (s.setFluxLine k v).cmdSeq = s.cmdSeq ∧
    (s.setFluxLine k v).ringTurn = s.ringTurn ∧ (s.setFluxLine k v).noticesLost = s.noticesLost ∧ (s.setFluxLine k v).hostWrite = s.hostWrite ∧
    (s.setFluxLine k v).lanes = s.lanes ∧ (s.setFluxLine k v).mbxs = s.mbxs ∧ (s.setFluxLine k v).evtChs = s.evtChs ∧
    (s.setFluxLine k v).firings = s.firings ∧ (s.setFluxLine k v).groupTasks = s.groupTasks ∧ (s.setFluxLine k v).evtOuts = s.evtOuts ∧
    (s.setFluxLine k v).evtIns = s.evtIns ∧ (s.setFluxLine k v).tmrs = s.tmrs ∧ (s.setFluxLine k v).mcoreIrq = s.mcoreIrq ∧
    (s.setFluxLine k v).twin = s.twin ∧ (s.setFluxLine k v).logs = s.logs ∧ (s.setFluxLine k v).logWait = s.logWait ∧
    (s.setFluxLine k v).twinBias = s.twinBias ∧ (s.setFluxLine k v).mirrored = s.mirrored ∧ (s.setFluxLine k v).therm = s.therm ∧
    (s.setFluxLine k v).gov = s.gov ∧ (s.setFluxLine k v).mon = s.mon ∧ (s.setFluxLine k v).idleSince = s.idleSince ∧
    (s.setFluxLine k v).reacts = s.reacts ∧ (s.setFluxLine k v).logSeq = s.logSeq ∧ (s.setFluxLine k v).errUntil = s.errUntil ∧
    (s.setFluxLine k v).errPin = s.errPin ∧ (s.setFluxLine k v).recorder = s.recorder ∧ (s.setFluxLine k v).recSlots = s.recSlots ∧
    (s.setFluxLine k v).life = s.life ∧ (s.setFluxLine k v).lifeShadow = s.lifeShadow ∧ (s.setFluxLine k v).lifeCopies = s.lifeCopies ∧
    (s.setFluxLine k v).lifeSave = s.lifeSave ∧ (s.setFluxLine k v).lifeNext = s.lifeNext ∧ (s.setFluxLine k v).lastSave = s.lastSave ∧
    (s.setFluxLine k v).flash = s.flash ∧ (s.setFluxLine k v).sys = s.sys ∧ (s.setFluxLine k v).tap = s.tap :=
  by repeat (first | exact rfl | refine ⟨rfl, ?_⟩)

@[simp] theorem State.setDemod_frame (s : State) (k : Nat) (v : Demod) :
    (s.setDemod k v).pending = s.pending ∧ (s.setDemod k v).tick = s.tick ∧ (s.setDemod k v).freeCtr = s.freeCtr ∧ (s.setDemod k v).regs = s.regs ∧
    (s.setDemod k v).wide = s.wide ∧ (s.setDemod k v).raised = s.raised ∧ (s.setDemod k v).faultLog = s.faultLog ∧ (s.setDemod k v).pulses = s.pulses ∧
    (s.setDemod k v).holdOn = s.holdOn ∧ (s.setDemod k v).answered = s.answered ∧ (s.setDemod k v).ucScrub = s.ucScrub ∧
    (s.setDemod k v).govMon = s.govMon ∧ (s.setDemod k v).pilots = s.pilots ∧ (s.setDemod k v).pounds = s.pounds ∧ (s.setDemod k v).pm = s.pm ∧
    (s.setDemod k v).ledgers = s.ledgers ∧ (s.setDemod k v).locks = s.locks ∧ (s.setDemod k v).ctxs = s.ctxs ∧ (s.setDemod k v).outs = s.outs ∧
    (s.setDemod k v).xbarWait = s.xbarWait ∧ (s.setDemod k v).xbarQueue = s.xbarQueue ∧ (s.setDemod k v).xbarServed = s.xbarServed ∧
    (s.setDemod k v).owed = s.owed ∧ (s.setDemod k v).lastEntry = s.lastEntry ∧ (s.setDemod k v).paths = s.paths ∧ (s.setDemod k v).muteds = s.muteds ∧
    (s.setDemod k v).fetches = s.fetches ∧ (s.setDemod k v).synOrigin = s.synOrigin ∧ (s.setDemod k v).maxPlays = s.maxPlays ∧
    (s.setDemod k v).sdram = s.sdram ∧ (s.setDemod k v).basinNext = s.basinNext ∧ (s.setDemod k v).sbufs = s.sbufs ∧ (s.setDemod k v).segs = s.segs ∧
    (s.setDemod k v).mrkPins = s.mrkPins ∧ (s.setDemod k v).mrkLines = s.mrkLines ∧ (s.setDemod k v).fluxes = s.fluxes ∧
    (s.setDemod k v).inputs = s.inputs ∧ (s.setDemod k v).decMade = s.decMade ∧ (s.setDemod k v).winResults = s.winResults ∧
    (s.setDemod k v).jobsDue = s.jobsDue ∧ (s.setDemod k v).partials = s.partials ∧ (s.setDemod k v).acqs = s.acqs ∧
    (s.setDemod k v).admQueue = s.admQueue ∧ (s.setDemod k v).flitsOut = s.flitsOut ∧ (s.setDemod k v).localFires = s.localFires ∧
    (s.setDemod k v).armHeld = s.armHeld ∧ (s.setDemod k v).kerns = s.kerns ∧ (s.setDemod k v).convs = s.convs ∧ (s.setDemod k v).fuses = s.fuses ∧
    (s.setDemod k v).fuseJob = s.fuseJob ∧ (s.setDemod k v).selfCal = s.selfCal ∧ (s.setDemod k v).twWait = s.twWait ∧ (s.setDemod k v).time = s.time ∧
    (s.setDemod k v).meshPorts = s.meshPorts ∧ (s.setDemod k v).groupSeen = s.groupSeen ∧ (s.setDemod k v).rings = s.rings ∧
    (s.setDemod k v).cmdSeq = s.cmdSeq ∧ (s.setDemod k v).ringTurn = s.ringTurn ∧ (s.setDemod k v).noticesLost = s.noticesLost ∧
    (s.setDemod k v).hostWrite = s.hostWrite ∧ (s.setDemod k v).lanes = s.lanes ∧ (s.setDemod k v).mbxs = s.mbxs ∧ (s.setDemod k v).evtChs = s.evtChs ∧
    (s.setDemod k v).firings = s.firings ∧ (s.setDemod k v).groupTasks = s.groupTasks ∧ (s.setDemod k v).evtOuts = s.evtOuts ∧
    (s.setDemod k v).evtIns = s.evtIns ∧ (s.setDemod k v).tmrs = s.tmrs ∧ (s.setDemod k v).mcoreIrq = s.mcoreIrq ∧ (s.setDemod k v).twin = s.twin ∧
    (s.setDemod k v).logs = s.logs ∧ (s.setDemod k v).logWait = s.logWait ∧ (s.setDemod k v).twinBias = s.twinBias ∧
    (s.setDemod k v).mirrored = s.mirrored ∧ (s.setDemod k v).therm = s.therm ∧ (s.setDemod k v).gov = s.gov ∧ (s.setDemod k v).mon = s.mon ∧
    (s.setDemod k v).idleSince = s.idleSince ∧ (s.setDemod k v).reacts = s.reacts ∧ (s.setDemod k v).logSeq = s.logSeq ∧
    (s.setDemod k v).errUntil = s.errUntil ∧ (s.setDemod k v).errPin = s.errPin ∧ (s.setDemod k v).recorder = s.recorder ∧
    (s.setDemod k v).recSlots = s.recSlots ∧ (s.setDemod k v).life = s.life ∧ (s.setDemod k v).lifeShadow = s.lifeShadow ∧
    (s.setDemod k v).lifeCopies = s.lifeCopies ∧ (s.setDemod k v).lifeSave = s.lifeSave ∧ (s.setDemod k v).lifeNext = s.lifeNext ∧
    (s.setDemod k v).lastSave = s.lastSave ∧ (s.setDemod k v).flash = s.flash ∧ (s.setDemod k v).sys = s.sys ∧ (s.setDemod k v).tap = s.tap :=
  by repeat (first | exact rfl | refine ⟨rfl, ?_⟩)

@[simp] theorem State.setInp_frame (s : State) (k : Nat) (v : Input) :
    (s.setInp k v).pending = s.pending ∧ (s.setInp k v).tick = s.tick ∧ (s.setInp k v).freeCtr = s.freeCtr ∧ (s.setInp k v).regs = s.regs ∧
    (s.setInp k v).wide = s.wide ∧ (s.setInp k v).raised = s.raised ∧ (s.setInp k v).faultLog = s.faultLog ∧ (s.setInp k v).pulses = s.pulses ∧
    (s.setInp k v).holdOn = s.holdOn ∧ (s.setInp k v).answered = s.answered ∧ (s.setInp k v).ucScrub = s.ucScrub ∧ (s.setInp k v).govMon = s.govMon ∧
    (s.setInp k v).pilots = s.pilots ∧ (s.setInp k v).pounds = s.pounds ∧ (s.setInp k v).pm = s.pm ∧ (s.setInp k v).ledgers = s.ledgers ∧
    (s.setInp k v).locks = s.locks ∧ (s.setInp k v).ctxs = s.ctxs ∧ (s.setInp k v).outs = s.outs ∧ (s.setInp k v).xbarWait = s.xbarWait ∧
    (s.setInp k v).xbarQueue = s.xbarQueue ∧ (s.setInp k v).xbarServed = s.xbarServed ∧ (s.setInp k v).owed = s.owed ∧
    (s.setInp k v).lastEntry = s.lastEntry ∧ (s.setInp k v).paths = s.paths ∧ (s.setInp k v).muteds = s.muteds ∧ (s.setInp k v).fetches = s.fetches ∧
    (s.setInp k v).synOrigin = s.synOrigin ∧ (s.setInp k v).maxPlays = s.maxPlays ∧ (s.setInp k v).sdram = s.sdram ∧
    (s.setInp k v).basinNext = s.basinNext ∧ (s.setInp k v).sbufs = s.sbufs ∧ (s.setInp k v).segs = s.segs ∧ (s.setInp k v).mrkPins = s.mrkPins ∧
    (s.setInp k v).mrkLines = s.mrkLines ∧ (s.setInp k v).fluxes = s.fluxes ∧ (s.setInp k v).demods = s.demods ∧ (s.setInp k v).decMade = s.decMade ∧
    (s.setInp k v).winResults = s.winResults ∧ (s.setInp k v).jobsDue = s.jobsDue ∧ (s.setInp k v).partials = s.partials ∧ (s.setInp k v).acqs = s.acqs ∧
    (s.setInp k v).admQueue = s.admQueue ∧ (s.setInp k v).flitsOut = s.flitsOut ∧ (s.setInp k v).localFires = s.localFires ∧
    (s.setInp k v).armHeld = s.armHeld ∧ (s.setInp k v).kerns = s.kerns ∧ (s.setInp k v).convs = s.convs ∧ (s.setInp k v).fuses = s.fuses ∧
    (s.setInp k v).fuseJob = s.fuseJob ∧ (s.setInp k v).selfCal = s.selfCal ∧ (s.setInp k v).twWait = s.twWait ∧ (s.setInp k v).time = s.time ∧
    (s.setInp k v).meshPorts = s.meshPorts ∧ (s.setInp k v).groupSeen = s.groupSeen ∧ (s.setInp k v).rings = s.rings ∧ (s.setInp k v).cmdSeq = s.cmdSeq ∧
    (s.setInp k v).ringTurn = s.ringTurn ∧ (s.setInp k v).noticesLost = s.noticesLost ∧ (s.setInp k v).hostWrite = s.hostWrite ∧
    (s.setInp k v).lanes = s.lanes ∧ (s.setInp k v).mbxs = s.mbxs ∧ (s.setInp k v).evtChs = s.evtChs ∧ (s.setInp k v).firings = s.firings ∧
    (s.setInp k v).groupTasks = s.groupTasks ∧ (s.setInp k v).evtOuts = s.evtOuts ∧ (s.setInp k v).evtIns = s.evtIns ∧ (s.setInp k v).tmrs = s.tmrs ∧
    (s.setInp k v).mcoreIrq = s.mcoreIrq ∧ (s.setInp k v).twin = s.twin ∧ (s.setInp k v).logs = s.logs ∧ (s.setInp k v).logWait = s.logWait ∧
    (s.setInp k v).twinBias = s.twinBias ∧ (s.setInp k v).mirrored = s.mirrored ∧ (s.setInp k v).therm = s.therm ∧ (s.setInp k v).gov = s.gov ∧
    (s.setInp k v).mon = s.mon ∧ (s.setInp k v).idleSince = s.idleSince ∧ (s.setInp k v).reacts = s.reacts ∧ (s.setInp k v).logSeq = s.logSeq ∧
    (s.setInp k v).errUntil = s.errUntil ∧ (s.setInp k v).errPin = s.errPin ∧ (s.setInp k v).recorder = s.recorder ∧
    (s.setInp k v).recSlots = s.recSlots ∧ (s.setInp k v).life = s.life ∧ (s.setInp k v).lifeShadow = s.lifeShadow ∧
    (s.setInp k v).lifeCopies = s.lifeCopies ∧ (s.setInp k v).lifeSave = s.lifeSave ∧ (s.setInp k v).lifeNext = s.lifeNext ∧
    (s.setInp k v).lastSave = s.lastSave ∧ (s.setInp k v).flash = s.flash ∧ (s.setInp k v).sys = s.sys ∧ (s.setInp k v).tap = s.tap :=
  by repeat (first | exact rfl | refine ⟨rfl, ?_⟩)

@[simp] theorem State.setAcq_frame (s : State) (k : Nat) (v : Acq) :
    (s.setAcq k v).pending = s.pending ∧ (s.setAcq k v).tick = s.tick ∧ (s.setAcq k v).freeCtr = s.freeCtr ∧ (s.setAcq k v).regs = s.regs ∧
    (s.setAcq k v).wide = s.wide ∧ (s.setAcq k v).raised = s.raised ∧ (s.setAcq k v).faultLog = s.faultLog ∧ (s.setAcq k v).pulses = s.pulses ∧
    (s.setAcq k v).holdOn = s.holdOn ∧ (s.setAcq k v).answered = s.answered ∧ (s.setAcq k v).ucScrub = s.ucScrub ∧ (s.setAcq k v).govMon = s.govMon ∧
    (s.setAcq k v).pilots = s.pilots ∧ (s.setAcq k v).pounds = s.pounds ∧ (s.setAcq k v).pm = s.pm ∧ (s.setAcq k v).ledgers = s.ledgers ∧
    (s.setAcq k v).locks = s.locks ∧ (s.setAcq k v).ctxs = s.ctxs ∧ (s.setAcq k v).outs = s.outs ∧ (s.setAcq k v).xbarWait = s.xbarWait ∧
    (s.setAcq k v).xbarQueue = s.xbarQueue ∧ (s.setAcq k v).xbarServed = s.xbarServed ∧ (s.setAcq k v).owed = s.owed ∧
    (s.setAcq k v).lastEntry = s.lastEntry ∧ (s.setAcq k v).paths = s.paths ∧ (s.setAcq k v).muteds = s.muteds ∧ (s.setAcq k v).fetches = s.fetches ∧
    (s.setAcq k v).synOrigin = s.synOrigin ∧ (s.setAcq k v).maxPlays = s.maxPlays ∧ (s.setAcq k v).sdram = s.sdram ∧
    (s.setAcq k v).basinNext = s.basinNext ∧ (s.setAcq k v).sbufs = s.sbufs ∧ (s.setAcq k v).segs = s.segs ∧ (s.setAcq k v).mrkPins = s.mrkPins ∧
    (s.setAcq k v).mrkLines = s.mrkLines ∧ (s.setAcq k v).fluxes = s.fluxes ∧ (s.setAcq k v).demods = s.demods ∧ (s.setAcq k v).inputs = s.inputs ∧
    (s.setAcq k v).decMade = s.decMade ∧ (s.setAcq k v).winResults = s.winResults ∧ (s.setAcq k v).jobsDue = s.jobsDue ∧
    (s.setAcq k v).partials = s.partials ∧ (s.setAcq k v).admQueue = s.admQueue ∧ (s.setAcq k v).flitsOut = s.flitsOut ∧
    (s.setAcq k v).localFires = s.localFires ∧ (s.setAcq k v).armHeld = s.armHeld ∧ (s.setAcq k v).kerns = s.kerns ∧ (s.setAcq k v).convs = s.convs ∧
    (s.setAcq k v).fuses = s.fuses ∧ (s.setAcq k v).fuseJob = s.fuseJob ∧ (s.setAcq k v).selfCal = s.selfCal ∧ (s.setAcq k v).twWait = s.twWait ∧
    (s.setAcq k v).time = s.time ∧ (s.setAcq k v).meshPorts = s.meshPorts ∧ (s.setAcq k v).groupSeen = s.groupSeen ∧ (s.setAcq k v).rings = s.rings ∧
    (s.setAcq k v).cmdSeq = s.cmdSeq ∧ (s.setAcq k v).ringTurn = s.ringTurn ∧ (s.setAcq k v).noticesLost = s.noticesLost ∧
    (s.setAcq k v).hostWrite = s.hostWrite ∧ (s.setAcq k v).lanes = s.lanes ∧ (s.setAcq k v).mbxs = s.mbxs ∧ (s.setAcq k v).evtChs = s.evtChs ∧
    (s.setAcq k v).firings = s.firings ∧ (s.setAcq k v).groupTasks = s.groupTasks ∧ (s.setAcq k v).evtOuts = s.evtOuts ∧
    (s.setAcq k v).evtIns = s.evtIns ∧ (s.setAcq k v).tmrs = s.tmrs ∧ (s.setAcq k v).mcoreIrq = s.mcoreIrq ∧ (s.setAcq k v).twin = s.twin ∧
    (s.setAcq k v).logs = s.logs ∧ (s.setAcq k v).logWait = s.logWait ∧ (s.setAcq k v).twinBias = s.twinBias ∧ (s.setAcq k v).mirrored = s.mirrored ∧
    (s.setAcq k v).therm = s.therm ∧ (s.setAcq k v).gov = s.gov ∧ (s.setAcq k v).mon = s.mon ∧ (s.setAcq k v).idleSince = s.idleSince ∧
    (s.setAcq k v).reacts = s.reacts ∧ (s.setAcq k v).logSeq = s.logSeq ∧ (s.setAcq k v).errUntil = s.errUntil ∧ (s.setAcq k v).errPin = s.errPin ∧
    (s.setAcq k v).recorder = s.recorder ∧ (s.setAcq k v).recSlots = s.recSlots ∧ (s.setAcq k v).life = s.life ∧
    (s.setAcq k v).lifeShadow = s.lifeShadow ∧ (s.setAcq k v).lifeCopies = s.lifeCopies ∧ (s.setAcq k v).lifeSave = s.lifeSave ∧
    (s.setAcq k v).lifeNext = s.lifeNext ∧ (s.setAcq k v).lastSave = s.lastSave ∧ (s.setAcq k v).flash = s.flash ∧ (s.setAcq k v).sys = s.sys ∧
    (s.setAcq k v).tap = s.tap :=
  by repeat (first | exact rfl | refine ⟨rfl, ?_⟩)

@[simp] theorem State.setKern_frame (s : State) (k : Nat) (v : Kern) :
    (s.setKern k v).pending = s.pending ∧ (s.setKern k v).tick = s.tick ∧ (s.setKern k v).freeCtr = s.freeCtr ∧ (s.setKern k v).regs = s.regs ∧
    (s.setKern k v).wide = s.wide ∧ (s.setKern k v).raised = s.raised ∧ (s.setKern k v).faultLog = s.faultLog ∧ (s.setKern k v).pulses = s.pulses ∧
    (s.setKern k v).holdOn = s.holdOn ∧ (s.setKern k v).answered = s.answered ∧ (s.setKern k v).ucScrub = s.ucScrub ∧ (s.setKern k v).govMon = s.govMon ∧
    (s.setKern k v).pilots = s.pilots ∧ (s.setKern k v).pounds = s.pounds ∧ (s.setKern k v).pm = s.pm ∧ (s.setKern k v).ledgers = s.ledgers ∧
    (s.setKern k v).locks = s.locks ∧ (s.setKern k v).ctxs = s.ctxs ∧ (s.setKern k v).outs = s.outs ∧ (s.setKern k v).xbarWait = s.xbarWait ∧
    (s.setKern k v).xbarQueue = s.xbarQueue ∧ (s.setKern k v).xbarServed = s.xbarServed ∧ (s.setKern k v).owed = s.owed ∧
    (s.setKern k v).lastEntry = s.lastEntry ∧ (s.setKern k v).paths = s.paths ∧ (s.setKern k v).muteds = s.muteds ∧ (s.setKern k v).fetches = s.fetches ∧
    (s.setKern k v).synOrigin = s.synOrigin ∧ (s.setKern k v).maxPlays = s.maxPlays ∧ (s.setKern k v).sdram = s.sdram ∧
    (s.setKern k v).basinNext = s.basinNext ∧ (s.setKern k v).sbufs = s.sbufs ∧ (s.setKern k v).segs = s.segs ∧ (s.setKern k v).mrkPins = s.mrkPins ∧
    (s.setKern k v).mrkLines = s.mrkLines ∧ (s.setKern k v).fluxes = s.fluxes ∧ (s.setKern k v).demods = s.demods ∧ (s.setKern k v).inputs = s.inputs ∧
    (s.setKern k v).decMade = s.decMade ∧ (s.setKern k v).winResults = s.winResults ∧ (s.setKern k v).jobsDue = s.jobsDue ∧
    (s.setKern k v).partials = s.partials ∧ (s.setKern k v).acqs = s.acqs ∧ (s.setKern k v).admQueue = s.admQueue ∧
    (s.setKern k v).flitsOut = s.flitsOut ∧ (s.setKern k v).localFires = s.localFires ∧ (s.setKern k v).armHeld = s.armHeld ∧
    (s.setKern k v).convs = s.convs ∧ (s.setKern k v).fuses = s.fuses ∧ (s.setKern k v).fuseJob = s.fuseJob ∧ (s.setKern k v).selfCal = s.selfCal ∧
    (s.setKern k v).twWait = s.twWait ∧ (s.setKern k v).time = s.time ∧ (s.setKern k v).meshPorts = s.meshPorts ∧
    (s.setKern k v).groupSeen = s.groupSeen ∧ (s.setKern k v).rings = s.rings ∧ (s.setKern k v).cmdSeq = s.cmdSeq ∧
    (s.setKern k v).ringTurn = s.ringTurn ∧ (s.setKern k v).noticesLost = s.noticesLost ∧ (s.setKern k v).hostWrite = s.hostWrite ∧
    (s.setKern k v).lanes = s.lanes ∧ (s.setKern k v).mbxs = s.mbxs ∧ (s.setKern k v).evtChs = s.evtChs ∧ (s.setKern k v).firings = s.firings ∧
    (s.setKern k v).groupTasks = s.groupTasks ∧ (s.setKern k v).evtOuts = s.evtOuts ∧ (s.setKern k v).evtIns = s.evtIns ∧ (s.setKern k v).tmrs = s.tmrs ∧
    (s.setKern k v).mcoreIrq = s.mcoreIrq ∧ (s.setKern k v).twin = s.twin ∧ (s.setKern k v).logs = s.logs ∧ (s.setKern k v).logWait = s.logWait ∧
    (s.setKern k v).twinBias = s.twinBias ∧ (s.setKern k v).mirrored = s.mirrored ∧ (s.setKern k v).therm = s.therm ∧ (s.setKern k v).gov = s.gov ∧
    (s.setKern k v).mon = s.mon ∧ (s.setKern k v).idleSince = s.idleSince ∧ (s.setKern k v).reacts = s.reacts ∧ (s.setKern k v).logSeq = s.logSeq ∧
    (s.setKern k v).errUntil = s.errUntil ∧ (s.setKern k v).errPin = s.errPin ∧ (s.setKern k v).recorder = s.recorder ∧
    (s.setKern k v).recSlots = s.recSlots ∧ (s.setKern k v).life = s.life ∧ (s.setKern k v).lifeShadow = s.lifeShadow ∧
    (s.setKern k v).lifeCopies = s.lifeCopies ∧ (s.setKern k v).lifeSave = s.lifeSave ∧ (s.setKern k v).lifeNext = s.lifeNext ∧
    (s.setKern k v).lastSave = s.lastSave ∧ (s.setKern k v).flash = s.flash ∧ (s.setKern k v).sys = s.sys ∧ (s.setKern k v).tap = s.tap :=
  by repeat (first | exact rfl | refine ⟨rfl, ?_⟩)

@[simp] theorem State.setConv_frame (s : State) (k : Nat) (v : Conv) :
    (s.setConv k v).pending = s.pending ∧ (s.setConv k v).tick = s.tick ∧ (s.setConv k v).freeCtr = s.freeCtr ∧ (s.setConv k v).regs = s.regs ∧
    (s.setConv k v).wide = s.wide ∧ (s.setConv k v).raised = s.raised ∧ (s.setConv k v).faultLog = s.faultLog ∧ (s.setConv k v).pulses = s.pulses ∧
    (s.setConv k v).holdOn = s.holdOn ∧ (s.setConv k v).answered = s.answered ∧ (s.setConv k v).ucScrub = s.ucScrub ∧ (s.setConv k v).govMon = s.govMon ∧
    (s.setConv k v).pilots = s.pilots ∧ (s.setConv k v).pounds = s.pounds ∧ (s.setConv k v).pm = s.pm ∧ (s.setConv k v).ledgers = s.ledgers ∧
    (s.setConv k v).locks = s.locks ∧ (s.setConv k v).ctxs = s.ctxs ∧ (s.setConv k v).outs = s.outs ∧ (s.setConv k v).xbarWait = s.xbarWait ∧
    (s.setConv k v).xbarQueue = s.xbarQueue ∧ (s.setConv k v).xbarServed = s.xbarServed ∧ (s.setConv k v).owed = s.owed ∧
    (s.setConv k v).lastEntry = s.lastEntry ∧ (s.setConv k v).paths = s.paths ∧ (s.setConv k v).muteds = s.muteds ∧ (s.setConv k v).fetches = s.fetches ∧
    (s.setConv k v).synOrigin = s.synOrigin ∧ (s.setConv k v).maxPlays = s.maxPlays ∧ (s.setConv k v).sdram = s.sdram ∧
    (s.setConv k v).basinNext = s.basinNext ∧ (s.setConv k v).sbufs = s.sbufs ∧ (s.setConv k v).segs = s.segs ∧ (s.setConv k v).mrkPins = s.mrkPins ∧
    (s.setConv k v).mrkLines = s.mrkLines ∧ (s.setConv k v).fluxes = s.fluxes ∧ (s.setConv k v).demods = s.demods ∧ (s.setConv k v).inputs = s.inputs ∧
    (s.setConv k v).decMade = s.decMade ∧ (s.setConv k v).winResults = s.winResults ∧ (s.setConv k v).jobsDue = s.jobsDue ∧
    (s.setConv k v).partials = s.partials ∧ (s.setConv k v).acqs = s.acqs ∧ (s.setConv k v).admQueue = s.admQueue ∧
    (s.setConv k v).flitsOut = s.flitsOut ∧ (s.setConv k v).localFires = s.localFires ∧ (s.setConv k v).armHeld = s.armHeld ∧
    (s.setConv k v).kerns = s.kerns ∧ (s.setConv k v).fuses = s.fuses ∧ (s.setConv k v).fuseJob = s.fuseJob ∧ (s.setConv k v).selfCal = s.selfCal ∧
    (s.setConv k v).twWait = s.twWait ∧ (s.setConv k v).time = s.time ∧ (s.setConv k v).meshPorts = s.meshPorts ∧
    (s.setConv k v).groupSeen = s.groupSeen ∧ (s.setConv k v).rings = s.rings ∧ (s.setConv k v).cmdSeq = s.cmdSeq ∧
    (s.setConv k v).ringTurn = s.ringTurn ∧ (s.setConv k v).noticesLost = s.noticesLost ∧ (s.setConv k v).hostWrite = s.hostWrite ∧
    (s.setConv k v).lanes = s.lanes ∧ (s.setConv k v).mbxs = s.mbxs ∧ (s.setConv k v).evtChs = s.evtChs ∧ (s.setConv k v).firings = s.firings ∧
    (s.setConv k v).groupTasks = s.groupTasks ∧ (s.setConv k v).evtOuts = s.evtOuts ∧ (s.setConv k v).evtIns = s.evtIns ∧ (s.setConv k v).tmrs = s.tmrs ∧
    (s.setConv k v).mcoreIrq = s.mcoreIrq ∧ (s.setConv k v).twin = s.twin ∧ (s.setConv k v).logs = s.logs ∧ (s.setConv k v).logWait = s.logWait ∧
    (s.setConv k v).twinBias = s.twinBias ∧ (s.setConv k v).mirrored = s.mirrored ∧ (s.setConv k v).therm = s.therm ∧ (s.setConv k v).gov = s.gov ∧
    (s.setConv k v).mon = s.mon ∧ (s.setConv k v).idleSince = s.idleSince ∧ (s.setConv k v).reacts = s.reacts ∧ (s.setConv k v).logSeq = s.logSeq ∧
    (s.setConv k v).errUntil = s.errUntil ∧ (s.setConv k v).errPin = s.errPin ∧ (s.setConv k v).recorder = s.recorder ∧
    (s.setConv k v).recSlots = s.recSlots ∧ (s.setConv k v).life = s.life ∧ (s.setConv k v).lifeShadow = s.lifeShadow ∧
    (s.setConv k v).lifeCopies = s.lifeCopies ∧ (s.setConv k v).lifeSave = s.lifeSave ∧ (s.setConv k v).lifeNext = s.lifeNext ∧
    (s.setConv k v).lastSave = s.lastSave ∧ (s.setConv k v).flash = s.flash ∧ (s.setConv k v).sys = s.sys ∧ (s.setConv k v).tap = s.tap :=
  by repeat (first | exact rfl | refine ⟨rfl, ?_⟩)

@[simp] theorem State.setMeshPort_frame (s : State) (k : Nat) (v : MeshPort) :
    (s.setMeshPort k v).pending = s.pending ∧ (s.setMeshPort k v).tick = s.tick ∧ (s.setMeshPort k v).freeCtr = s.freeCtr ∧
    (s.setMeshPort k v).regs = s.regs ∧ (s.setMeshPort k v).wide = s.wide ∧ (s.setMeshPort k v).raised = s.raised ∧
    (s.setMeshPort k v).faultLog = s.faultLog ∧ (s.setMeshPort k v).pulses = s.pulses ∧ (s.setMeshPort k v).holdOn = s.holdOn ∧
    (s.setMeshPort k v).answered = s.answered ∧ (s.setMeshPort k v).ucScrub = s.ucScrub ∧ (s.setMeshPort k v).govMon = s.govMon ∧
    (s.setMeshPort k v).pilots = s.pilots ∧ (s.setMeshPort k v).pounds = s.pounds ∧ (s.setMeshPort k v).pm = s.pm ∧
    (s.setMeshPort k v).ledgers = s.ledgers ∧ (s.setMeshPort k v).locks = s.locks ∧ (s.setMeshPort k v).ctxs = s.ctxs ∧
    (s.setMeshPort k v).outs = s.outs ∧ (s.setMeshPort k v).xbarWait = s.xbarWait ∧ (s.setMeshPort k v).xbarQueue = s.xbarQueue ∧
    (s.setMeshPort k v).xbarServed = s.xbarServed ∧ (s.setMeshPort k v).owed = s.owed ∧ (s.setMeshPort k v).lastEntry = s.lastEntry ∧
    (s.setMeshPort k v).paths = s.paths ∧ (s.setMeshPort k v).muteds = s.muteds ∧ (s.setMeshPort k v).fetches = s.fetches ∧
    (s.setMeshPort k v).synOrigin = s.synOrigin ∧ (s.setMeshPort k v).maxPlays = s.maxPlays ∧ (s.setMeshPort k v).sdram = s.sdram ∧
    (s.setMeshPort k v).basinNext = s.basinNext ∧ (s.setMeshPort k v).sbufs = s.sbufs ∧ (s.setMeshPort k v).segs = s.segs ∧
    (s.setMeshPort k v).mrkPins = s.mrkPins ∧ (s.setMeshPort k v).mrkLines = s.mrkLines ∧ (s.setMeshPort k v).fluxes = s.fluxes ∧
    (s.setMeshPort k v).demods = s.demods ∧ (s.setMeshPort k v).inputs = s.inputs ∧ (s.setMeshPort k v).decMade = s.decMade ∧
    (s.setMeshPort k v).winResults = s.winResults ∧ (s.setMeshPort k v).jobsDue = s.jobsDue ∧ (s.setMeshPort k v).partials = s.partials ∧
    (s.setMeshPort k v).acqs = s.acqs ∧ (s.setMeshPort k v).admQueue = s.admQueue ∧ (s.setMeshPort k v).flitsOut = s.flitsOut ∧
    (s.setMeshPort k v).localFires = s.localFires ∧ (s.setMeshPort k v).armHeld = s.armHeld ∧ (s.setMeshPort k v).kerns = s.kerns ∧
    (s.setMeshPort k v).convs = s.convs ∧ (s.setMeshPort k v).fuses = s.fuses ∧ (s.setMeshPort k v).fuseJob = s.fuseJob ∧
    (s.setMeshPort k v).selfCal = s.selfCal ∧ (s.setMeshPort k v).twWait = s.twWait ∧ (s.setMeshPort k v).time = s.time ∧
    (s.setMeshPort k v).groupSeen = s.groupSeen ∧ (s.setMeshPort k v).rings = s.rings ∧ (s.setMeshPort k v).cmdSeq = s.cmdSeq ∧
    (s.setMeshPort k v).ringTurn = s.ringTurn ∧ (s.setMeshPort k v).noticesLost = s.noticesLost ∧ (s.setMeshPort k v).hostWrite = s.hostWrite ∧
    (s.setMeshPort k v).lanes = s.lanes ∧ (s.setMeshPort k v).mbxs = s.mbxs ∧ (s.setMeshPort k v).evtChs = s.evtChs ∧
    (s.setMeshPort k v).firings = s.firings ∧ (s.setMeshPort k v).groupTasks = s.groupTasks ∧ (s.setMeshPort k v).evtOuts = s.evtOuts ∧
    (s.setMeshPort k v).evtIns = s.evtIns ∧ (s.setMeshPort k v).tmrs = s.tmrs ∧ (s.setMeshPort k v).mcoreIrq = s.mcoreIrq ∧
    (s.setMeshPort k v).twin = s.twin ∧ (s.setMeshPort k v).logs = s.logs ∧ (s.setMeshPort k v).logWait = s.logWait ∧
    (s.setMeshPort k v).twinBias = s.twinBias ∧ (s.setMeshPort k v).mirrored = s.mirrored ∧ (s.setMeshPort k v).therm = s.therm ∧
    (s.setMeshPort k v).gov = s.gov ∧ (s.setMeshPort k v).mon = s.mon ∧ (s.setMeshPort k v).idleSince = s.idleSince ∧
    (s.setMeshPort k v).reacts = s.reacts ∧ (s.setMeshPort k v).logSeq = s.logSeq ∧ (s.setMeshPort k v).errUntil = s.errUntil ∧
    (s.setMeshPort k v).errPin = s.errPin ∧ (s.setMeshPort k v).recorder = s.recorder ∧ (s.setMeshPort k v).recSlots = s.recSlots ∧
    (s.setMeshPort k v).life = s.life ∧ (s.setMeshPort k v).lifeShadow = s.lifeShadow ∧ (s.setMeshPort k v).lifeCopies = s.lifeCopies ∧
    (s.setMeshPort k v).lifeSave = s.lifeSave ∧ (s.setMeshPort k v).lifeNext = s.lifeNext ∧ (s.setMeshPort k v).lastSave = s.lastSave ∧
    (s.setMeshPort k v).flash = s.flash ∧ (s.setMeshPort k v).sys = s.sys ∧ (s.setMeshPort k v).tap = s.tap :=
  by repeat (first | exact rfl | refine ⟨rfl, ?_⟩)

@[simp] theorem State.setRing_frame (s : State) (k : Nat) (v : Ring) :
    (s.setRing k v).pending = s.pending ∧ (s.setRing k v).tick = s.tick ∧ (s.setRing k v).freeCtr = s.freeCtr ∧ (s.setRing k v).regs = s.regs ∧
    (s.setRing k v).wide = s.wide ∧ (s.setRing k v).raised = s.raised ∧ (s.setRing k v).faultLog = s.faultLog ∧ (s.setRing k v).pulses = s.pulses ∧
    (s.setRing k v).holdOn = s.holdOn ∧ (s.setRing k v).answered = s.answered ∧ (s.setRing k v).ucScrub = s.ucScrub ∧ (s.setRing k v).govMon = s.govMon ∧
    (s.setRing k v).pilots = s.pilots ∧ (s.setRing k v).pounds = s.pounds ∧ (s.setRing k v).pm = s.pm ∧ (s.setRing k v).ledgers = s.ledgers ∧
    (s.setRing k v).locks = s.locks ∧ (s.setRing k v).ctxs = s.ctxs ∧ (s.setRing k v).outs = s.outs ∧ (s.setRing k v).xbarWait = s.xbarWait ∧
    (s.setRing k v).xbarQueue = s.xbarQueue ∧ (s.setRing k v).xbarServed = s.xbarServed ∧ (s.setRing k v).owed = s.owed ∧
    (s.setRing k v).lastEntry = s.lastEntry ∧ (s.setRing k v).paths = s.paths ∧ (s.setRing k v).muteds = s.muteds ∧ (s.setRing k v).fetches = s.fetches ∧
    (s.setRing k v).synOrigin = s.synOrigin ∧ (s.setRing k v).maxPlays = s.maxPlays ∧ (s.setRing k v).sdram = s.sdram ∧
    (s.setRing k v).basinNext = s.basinNext ∧ (s.setRing k v).sbufs = s.sbufs ∧ (s.setRing k v).segs = s.segs ∧ (s.setRing k v).mrkPins = s.mrkPins ∧
    (s.setRing k v).mrkLines = s.mrkLines ∧ (s.setRing k v).fluxes = s.fluxes ∧ (s.setRing k v).demods = s.demods ∧ (s.setRing k v).inputs = s.inputs ∧
    (s.setRing k v).decMade = s.decMade ∧ (s.setRing k v).winResults = s.winResults ∧ (s.setRing k v).jobsDue = s.jobsDue ∧
    (s.setRing k v).partials = s.partials ∧ (s.setRing k v).acqs = s.acqs ∧ (s.setRing k v).admQueue = s.admQueue ∧
    (s.setRing k v).flitsOut = s.flitsOut ∧ (s.setRing k v).localFires = s.localFires ∧ (s.setRing k v).armHeld = s.armHeld ∧
    (s.setRing k v).kerns = s.kerns ∧ (s.setRing k v).convs = s.convs ∧ (s.setRing k v).fuses = s.fuses ∧ (s.setRing k v).fuseJob = s.fuseJob ∧
    (s.setRing k v).selfCal = s.selfCal ∧ (s.setRing k v).twWait = s.twWait ∧ (s.setRing k v).time = s.time ∧ (s.setRing k v).meshPorts = s.meshPorts ∧
    (s.setRing k v).groupSeen = s.groupSeen ∧ (s.setRing k v).cmdSeq = s.cmdSeq ∧ (s.setRing k v).ringTurn = s.ringTurn ∧
    (s.setRing k v).noticesLost = s.noticesLost ∧ (s.setRing k v).hostWrite = s.hostWrite ∧ (s.setRing k v).lanes = s.lanes ∧
    (s.setRing k v).mbxs = s.mbxs ∧ (s.setRing k v).evtChs = s.evtChs ∧ (s.setRing k v).firings = s.firings ∧ (s.setRing k v).groupTasks = s.groupTasks ∧
    (s.setRing k v).evtOuts = s.evtOuts ∧ (s.setRing k v).evtIns = s.evtIns ∧ (s.setRing k v).tmrs = s.tmrs ∧ (s.setRing k v).mcoreIrq = s.mcoreIrq ∧
    (s.setRing k v).twin = s.twin ∧ (s.setRing k v).logs = s.logs ∧ (s.setRing k v).logWait = s.logWait ∧ (s.setRing k v).twinBias = s.twinBias ∧
    (s.setRing k v).mirrored = s.mirrored ∧ (s.setRing k v).therm = s.therm ∧ (s.setRing k v).gov = s.gov ∧ (s.setRing k v).mon = s.mon ∧
    (s.setRing k v).idleSince = s.idleSince ∧ (s.setRing k v).reacts = s.reacts ∧ (s.setRing k v).logSeq = s.logSeq ∧
    (s.setRing k v).errUntil = s.errUntil ∧ (s.setRing k v).errPin = s.errPin ∧ (s.setRing k v).recorder = s.recorder ∧
    (s.setRing k v).recSlots = s.recSlots ∧ (s.setRing k v).life = s.life ∧ (s.setRing k v).lifeShadow = s.lifeShadow ∧
    (s.setRing k v).lifeCopies = s.lifeCopies ∧ (s.setRing k v).lifeSave = s.lifeSave ∧ (s.setRing k v).lifeNext = s.lifeNext ∧
    (s.setRing k v).lastSave = s.lastSave ∧ (s.setRing k v).flash = s.flash ∧ (s.setRing k v).sys = s.sys ∧ (s.setRing k v).tap = s.tap :=
  by repeat (first | exact rfl | refine ⟨rfl, ?_⟩)

@[simp] theorem State.setLane_frame (s : State) (k : Nat) (v : Lane) :
    (s.setLane k v).pending = s.pending ∧ (s.setLane k v).tick = s.tick ∧ (s.setLane k v).freeCtr = s.freeCtr ∧ (s.setLane k v).regs = s.regs ∧
    (s.setLane k v).wide = s.wide ∧ (s.setLane k v).raised = s.raised ∧ (s.setLane k v).faultLog = s.faultLog ∧ (s.setLane k v).pulses = s.pulses ∧
    (s.setLane k v).holdOn = s.holdOn ∧ (s.setLane k v).answered = s.answered ∧ (s.setLane k v).ucScrub = s.ucScrub ∧ (s.setLane k v).govMon = s.govMon ∧
    (s.setLane k v).pilots = s.pilots ∧ (s.setLane k v).pounds = s.pounds ∧ (s.setLane k v).pm = s.pm ∧ (s.setLane k v).ledgers = s.ledgers ∧
    (s.setLane k v).locks = s.locks ∧ (s.setLane k v).ctxs = s.ctxs ∧ (s.setLane k v).outs = s.outs ∧ (s.setLane k v).xbarWait = s.xbarWait ∧
    (s.setLane k v).xbarQueue = s.xbarQueue ∧ (s.setLane k v).xbarServed = s.xbarServed ∧ (s.setLane k v).owed = s.owed ∧
    (s.setLane k v).lastEntry = s.lastEntry ∧ (s.setLane k v).paths = s.paths ∧ (s.setLane k v).muteds = s.muteds ∧ (s.setLane k v).fetches = s.fetches ∧
    (s.setLane k v).synOrigin = s.synOrigin ∧ (s.setLane k v).maxPlays = s.maxPlays ∧ (s.setLane k v).sdram = s.sdram ∧
    (s.setLane k v).basinNext = s.basinNext ∧ (s.setLane k v).sbufs = s.sbufs ∧ (s.setLane k v).segs = s.segs ∧ (s.setLane k v).mrkPins = s.mrkPins ∧
    (s.setLane k v).mrkLines = s.mrkLines ∧ (s.setLane k v).fluxes = s.fluxes ∧ (s.setLane k v).demods = s.demods ∧ (s.setLane k v).inputs = s.inputs ∧
    (s.setLane k v).decMade = s.decMade ∧ (s.setLane k v).winResults = s.winResults ∧ (s.setLane k v).jobsDue = s.jobsDue ∧
    (s.setLane k v).partials = s.partials ∧ (s.setLane k v).acqs = s.acqs ∧ (s.setLane k v).admQueue = s.admQueue ∧
    (s.setLane k v).flitsOut = s.flitsOut ∧ (s.setLane k v).localFires = s.localFires ∧ (s.setLane k v).armHeld = s.armHeld ∧
    (s.setLane k v).kerns = s.kerns ∧ (s.setLane k v).convs = s.convs ∧ (s.setLane k v).fuses = s.fuses ∧ (s.setLane k v).fuseJob = s.fuseJob ∧
    (s.setLane k v).selfCal = s.selfCal ∧ (s.setLane k v).twWait = s.twWait ∧ (s.setLane k v).time = s.time ∧ (s.setLane k v).meshPorts = s.meshPorts ∧
    (s.setLane k v).groupSeen = s.groupSeen ∧ (s.setLane k v).rings = s.rings ∧ (s.setLane k v).cmdSeq = s.cmdSeq ∧
    (s.setLane k v).ringTurn = s.ringTurn ∧ (s.setLane k v).noticesLost = s.noticesLost ∧ (s.setLane k v).hostWrite = s.hostWrite ∧
    (s.setLane k v).mbxs = s.mbxs ∧ (s.setLane k v).evtChs = s.evtChs ∧ (s.setLane k v).firings = s.firings ∧ (s.setLane k v).groupTasks = s.groupTasks ∧
    (s.setLane k v).evtOuts = s.evtOuts ∧ (s.setLane k v).evtIns = s.evtIns ∧ (s.setLane k v).tmrs = s.tmrs ∧ (s.setLane k v).mcoreIrq = s.mcoreIrq ∧
    (s.setLane k v).twin = s.twin ∧ (s.setLane k v).logs = s.logs ∧ (s.setLane k v).logWait = s.logWait ∧ (s.setLane k v).twinBias = s.twinBias ∧
    (s.setLane k v).mirrored = s.mirrored ∧ (s.setLane k v).therm = s.therm ∧ (s.setLane k v).gov = s.gov ∧ (s.setLane k v).mon = s.mon ∧
    (s.setLane k v).idleSince = s.idleSince ∧ (s.setLane k v).reacts = s.reacts ∧ (s.setLane k v).logSeq = s.logSeq ∧
    (s.setLane k v).errUntil = s.errUntil ∧ (s.setLane k v).errPin = s.errPin ∧ (s.setLane k v).recorder = s.recorder ∧
    (s.setLane k v).recSlots = s.recSlots ∧ (s.setLane k v).life = s.life ∧ (s.setLane k v).lifeShadow = s.lifeShadow ∧
    (s.setLane k v).lifeCopies = s.lifeCopies ∧ (s.setLane k v).lifeSave = s.lifeSave ∧ (s.setLane k v).lifeNext = s.lifeNext ∧
    (s.setLane k v).lastSave = s.lastSave ∧ (s.setLane k v).flash = s.flash ∧ (s.setLane k v).sys = s.sys ∧ (s.setLane k v).tap = s.tap :=
  by repeat (first | exact rfl | refine ⟨rfl, ?_⟩)

@[simp] theorem State.setMbx_frame (s : State) (k : Nat) (v : Option MbxPost) :
    (s.setMbx k v).pending = s.pending ∧ (s.setMbx k v).tick = s.tick ∧ (s.setMbx k v).freeCtr = s.freeCtr ∧ (s.setMbx k v).regs = s.regs ∧
    (s.setMbx k v).wide = s.wide ∧ (s.setMbx k v).raised = s.raised ∧ (s.setMbx k v).faultLog = s.faultLog ∧ (s.setMbx k v).pulses = s.pulses ∧
    (s.setMbx k v).holdOn = s.holdOn ∧ (s.setMbx k v).answered = s.answered ∧ (s.setMbx k v).ucScrub = s.ucScrub ∧ (s.setMbx k v).govMon = s.govMon ∧
    (s.setMbx k v).pilots = s.pilots ∧ (s.setMbx k v).pounds = s.pounds ∧ (s.setMbx k v).pm = s.pm ∧ (s.setMbx k v).ledgers = s.ledgers ∧
    (s.setMbx k v).locks = s.locks ∧ (s.setMbx k v).ctxs = s.ctxs ∧ (s.setMbx k v).outs = s.outs ∧ (s.setMbx k v).xbarWait = s.xbarWait ∧
    (s.setMbx k v).xbarQueue = s.xbarQueue ∧ (s.setMbx k v).xbarServed = s.xbarServed ∧ (s.setMbx k v).owed = s.owed ∧
    (s.setMbx k v).lastEntry = s.lastEntry ∧ (s.setMbx k v).paths = s.paths ∧ (s.setMbx k v).muteds = s.muteds ∧ (s.setMbx k v).fetches = s.fetches ∧
    (s.setMbx k v).synOrigin = s.synOrigin ∧ (s.setMbx k v).maxPlays = s.maxPlays ∧ (s.setMbx k v).sdram = s.sdram ∧
    (s.setMbx k v).basinNext = s.basinNext ∧ (s.setMbx k v).sbufs = s.sbufs ∧ (s.setMbx k v).segs = s.segs ∧ (s.setMbx k v).mrkPins = s.mrkPins ∧
    (s.setMbx k v).mrkLines = s.mrkLines ∧ (s.setMbx k v).fluxes = s.fluxes ∧ (s.setMbx k v).demods = s.demods ∧ (s.setMbx k v).inputs = s.inputs ∧
    (s.setMbx k v).decMade = s.decMade ∧ (s.setMbx k v).winResults = s.winResults ∧ (s.setMbx k v).jobsDue = s.jobsDue ∧
    (s.setMbx k v).partials = s.partials ∧ (s.setMbx k v).acqs = s.acqs ∧ (s.setMbx k v).admQueue = s.admQueue ∧ (s.setMbx k v).flitsOut = s.flitsOut ∧
    (s.setMbx k v).localFires = s.localFires ∧ (s.setMbx k v).armHeld = s.armHeld ∧ (s.setMbx k v).kerns = s.kerns ∧ (s.setMbx k v).convs = s.convs ∧
    (s.setMbx k v).fuses = s.fuses ∧ (s.setMbx k v).fuseJob = s.fuseJob ∧ (s.setMbx k v).selfCal = s.selfCal ∧ (s.setMbx k v).twWait = s.twWait ∧
    (s.setMbx k v).time = s.time ∧ (s.setMbx k v).meshPorts = s.meshPorts ∧ (s.setMbx k v).groupSeen = s.groupSeen ∧ (s.setMbx k v).rings = s.rings ∧
    (s.setMbx k v).cmdSeq = s.cmdSeq ∧ (s.setMbx k v).ringTurn = s.ringTurn ∧ (s.setMbx k v).noticesLost = s.noticesLost ∧
    (s.setMbx k v).hostWrite = s.hostWrite ∧ (s.setMbx k v).lanes = s.lanes ∧ (s.setMbx k v).evtChs = s.evtChs ∧ (s.setMbx k v).firings = s.firings ∧
    (s.setMbx k v).groupTasks = s.groupTasks ∧ (s.setMbx k v).evtOuts = s.evtOuts ∧ (s.setMbx k v).evtIns = s.evtIns ∧ (s.setMbx k v).tmrs = s.tmrs ∧
    (s.setMbx k v).mcoreIrq = s.mcoreIrq ∧ (s.setMbx k v).twin = s.twin ∧ (s.setMbx k v).logs = s.logs ∧ (s.setMbx k v).logWait = s.logWait ∧
    (s.setMbx k v).twinBias = s.twinBias ∧ (s.setMbx k v).mirrored = s.mirrored ∧ (s.setMbx k v).therm = s.therm ∧ (s.setMbx k v).gov = s.gov ∧
    (s.setMbx k v).mon = s.mon ∧ (s.setMbx k v).idleSince = s.idleSince ∧ (s.setMbx k v).reacts = s.reacts ∧ (s.setMbx k v).logSeq = s.logSeq ∧
    (s.setMbx k v).errUntil = s.errUntil ∧ (s.setMbx k v).errPin = s.errPin ∧ (s.setMbx k v).recorder = s.recorder ∧
    (s.setMbx k v).recSlots = s.recSlots ∧ (s.setMbx k v).life = s.life ∧ (s.setMbx k v).lifeShadow = s.lifeShadow ∧
    (s.setMbx k v).lifeCopies = s.lifeCopies ∧ (s.setMbx k v).lifeSave = s.lifeSave ∧ (s.setMbx k v).lifeNext = s.lifeNext ∧
    (s.setMbx k v).lastSave = s.lastSave ∧ (s.setMbx k v).flash = s.flash ∧ (s.setMbx k v).sys = s.sys ∧ (s.setMbx k v).tap = s.tap :=
  by repeat (first | exact rfl | refine ⟨rfl, ?_⟩)

@[simp] theorem State.setEvtCh_frame (s : State) (k : Nat) (v : EvtCh) :
    (s.setEvtCh k v).pending = s.pending ∧ (s.setEvtCh k v).tick = s.tick ∧ (s.setEvtCh k v).freeCtr = s.freeCtr ∧ (s.setEvtCh k v).regs = s.regs ∧
    (s.setEvtCh k v).wide = s.wide ∧ (s.setEvtCh k v).raised = s.raised ∧ (s.setEvtCh k v).faultLog = s.faultLog ∧ (s.setEvtCh k v).pulses = s.pulses ∧
    (s.setEvtCh k v).holdOn = s.holdOn ∧ (s.setEvtCh k v).answered = s.answered ∧ (s.setEvtCh k v).ucScrub = s.ucScrub ∧
    (s.setEvtCh k v).govMon = s.govMon ∧ (s.setEvtCh k v).pilots = s.pilots ∧ (s.setEvtCh k v).pounds = s.pounds ∧ (s.setEvtCh k v).pm = s.pm ∧
    (s.setEvtCh k v).ledgers = s.ledgers ∧ (s.setEvtCh k v).locks = s.locks ∧ (s.setEvtCh k v).ctxs = s.ctxs ∧ (s.setEvtCh k v).outs = s.outs ∧
    (s.setEvtCh k v).xbarWait = s.xbarWait ∧ (s.setEvtCh k v).xbarQueue = s.xbarQueue ∧ (s.setEvtCh k v).xbarServed = s.xbarServed ∧
    (s.setEvtCh k v).owed = s.owed ∧ (s.setEvtCh k v).lastEntry = s.lastEntry ∧ (s.setEvtCh k v).paths = s.paths ∧ (s.setEvtCh k v).muteds = s.muteds ∧
    (s.setEvtCh k v).fetches = s.fetches ∧ (s.setEvtCh k v).synOrigin = s.synOrigin ∧ (s.setEvtCh k v).maxPlays = s.maxPlays ∧
    (s.setEvtCh k v).sdram = s.sdram ∧ (s.setEvtCh k v).basinNext = s.basinNext ∧ (s.setEvtCh k v).sbufs = s.sbufs ∧ (s.setEvtCh k v).segs = s.segs ∧
    (s.setEvtCh k v).mrkPins = s.mrkPins ∧ (s.setEvtCh k v).mrkLines = s.mrkLines ∧ (s.setEvtCh k v).fluxes = s.fluxes ∧
    (s.setEvtCh k v).demods = s.demods ∧ (s.setEvtCh k v).inputs = s.inputs ∧ (s.setEvtCh k v).decMade = s.decMade ∧
    (s.setEvtCh k v).winResults = s.winResults ∧ (s.setEvtCh k v).jobsDue = s.jobsDue ∧ (s.setEvtCh k v).partials = s.partials ∧
    (s.setEvtCh k v).acqs = s.acqs ∧ (s.setEvtCh k v).admQueue = s.admQueue ∧ (s.setEvtCh k v).flitsOut = s.flitsOut ∧
    (s.setEvtCh k v).localFires = s.localFires ∧ (s.setEvtCh k v).armHeld = s.armHeld ∧ (s.setEvtCh k v).kerns = s.kerns ∧
    (s.setEvtCh k v).convs = s.convs ∧ (s.setEvtCh k v).fuses = s.fuses ∧ (s.setEvtCh k v).fuseJob = s.fuseJob ∧ (s.setEvtCh k v).selfCal = s.selfCal ∧
    (s.setEvtCh k v).twWait = s.twWait ∧ (s.setEvtCh k v).time = s.time ∧ (s.setEvtCh k v).meshPorts = s.meshPorts ∧
    (s.setEvtCh k v).groupSeen = s.groupSeen ∧ (s.setEvtCh k v).rings = s.rings ∧ (s.setEvtCh k v).cmdSeq = s.cmdSeq ∧
    (s.setEvtCh k v).ringTurn = s.ringTurn ∧ (s.setEvtCh k v).noticesLost = s.noticesLost ∧ (s.setEvtCh k v).hostWrite = s.hostWrite ∧
    (s.setEvtCh k v).lanes = s.lanes ∧ (s.setEvtCh k v).mbxs = s.mbxs ∧ (s.setEvtCh k v).firings = s.firings ∧
    (s.setEvtCh k v).groupTasks = s.groupTasks ∧ (s.setEvtCh k v).evtOuts = s.evtOuts ∧ (s.setEvtCh k v).evtIns = s.evtIns ∧
    (s.setEvtCh k v).tmrs = s.tmrs ∧ (s.setEvtCh k v).mcoreIrq = s.mcoreIrq ∧ (s.setEvtCh k v).twin = s.twin ∧ (s.setEvtCh k v).logs = s.logs ∧
    (s.setEvtCh k v).logWait = s.logWait ∧ (s.setEvtCh k v).twinBias = s.twinBias ∧ (s.setEvtCh k v).mirrored = s.mirrored ∧
    (s.setEvtCh k v).therm = s.therm ∧ (s.setEvtCh k v).gov = s.gov ∧ (s.setEvtCh k v).mon = s.mon ∧ (s.setEvtCh k v).idleSince = s.idleSince ∧
    (s.setEvtCh k v).reacts = s.reacts ∧ (s.setEvtCh k v).logSeq = s.logSeq ∧ (s.setEvtCh k v).errUntil = s.errUntil ∧
    (s.setEvtCh k v).errPin = s.errPin ∧ (s.setEvtCh k v).recorder = s.recorder ∧ (s.setEvtCh k v).recSlots = s.recSlots ∧
    (s.setEvtCh k v).life = s.life ∧ (s.setEvtCh k v).lifeShadow = s.lifeShadow ∧ (s.setEvtCh k v).lifeCopies = s.lifeCopies ∧
    (s.setEvtCh k v).lifeSave = s.lifeSave ∧ (s.setEvtCh k v).lifeNext = s.lifeNext ∧ (s.setEvtCh k v).lastSave = s.lastSave ∧
    (s.setEvtCh k v).flash = s.flash ∧ (s.setEvtCh k v).sys = s.sys ∧ (s.setEvtCh k v).tap = s.tap :=
  by repeat (first | exact rfl | refine ⟨rfl, ?_⟩)

@[simp] theorem State.setEvtOut_frame (s : State) (k : Nat) (v : Option (Tick × Tick)) :
    (s.setEvtOut k v).pending = s.pending ∧ (s.setEvtOut k v).tick = s.tick ∧ (s.setEvtOut k v).freeCtr = s.freeCtr ∧ (s.setEvtOut k v).regs = s.regs ∧
    (s.setEvtOut k v).wide = s.wide ∧ (s.setEvtOut k v).raised = s.raised ∧ (s.setEvtOut k v).faultLog = s.faultLog ∧
    (s.setEvtOut k v).pulses = s.pulses ∧ (s.setEvtOut k v).holdOn = s.holdOn ∧ (s.setEvtOut k v).answered = s.answered ∧
    (s.setEvtOut k v).ucScrub = s.ucScrub ∧ (s.setEvtOut k v).govMon = s.govMon ∧ (s.setEvtOut k v).pilots = s.pilots ∧
    (s.setEvtOut k v).pounds = s.pounds ∧ (s.setEvtOut k v).pm = s.pm ∧ (s.setEvtOut k v).ledgers = s.ledgers ∧ (s.setEvtOut k v).locks = s.locks ∧
    (s.setEvtOut k v).ctxs = s.ctxs ∧ (s.setEvtOut k v).outs = s.outs ∧ (s.setEvtOut k v).xbarWait = s.xbarWait ∧
    (s.setEvtOut k v).xbarQueue = s.xbarQueue ∧ (s.setEvtOut k v).xbarServed = s.xbarServed ∧ (s.setEvtOut k v).owed = s.owed ∧
    (s.setEvtOut k v).lastEntry = s.lastEntry ∧ (s.setEvtOut k v).paths = s.paths ∧ (s.setEvtOut k v).muteds = s.muteds ∧
    (s.setEvtOut k v).fetches = s.fetches ∧ (s.setEvtOut k v).synOrigin = s.synOrigin ∧ (s.setEvtOut k v).maxPlays = s.maxPlays ∧
    (s.setEvtOut k v).sdram = s.sdram ∧ (s.setEvtOut k v).basinNext = s.basinNext ∧ (s.setEvtOut k v).sbufs = s.sbufs ∧ (s.setEvtOut k v).segs = s.segs ∧
    (s.setEvtOut k v).mrkPins = s.mrkPins ∧ (s.setEvtOut k v).mrkLines = s.mrkLines ∧ (s.setEvtOut k v).fluxes = s.fluxes ∧
    (s.setEvtOut k v).demods = s.demods ∧ (s.setEvtOut k v).inputs = s.inputs ∧ (s.setEvtOut k v).decMade = s.decMade ∧
    (s.setEvtOut k v).winResults = s.winResults ∧ (s.setEvtOut k v).jobsDue = s.jobsDue ∧ (s.setEvtOut k v).partials = s.partials ∧
    (s.setEvtOut k v).acqs = s.acqs ∧ (s.setEvtOut k v).admQueue = s.admQueue ∧ (s.setEvtOut k v).flitsOut = s.flitsOut ∧
    (s.setEvtOut k v).localFires = s.localFires ∧ (s.setEvtOut k v).armHeld = s.armHeld ∧ (s.setEvtOut k v).kerns = s.kerns ∧
    (s.setEvtOut k v).convs = s.convs ∧ (s.setEvtOut k v).fuses = s.fuses ∧ (s.setEvtOut k v).fuseJob = s.fuseJob ∧
    (s.setEvtOut k v).selfCal = s.selfCal ∧ (s.setEvtOut k v).twWait = s.twWait ∧ (s.setEvtOut k v).time = s.time ∧
    (s.setEvtOut k v).meshPorts = s.meshPorts ∧ (s.setEvtOut k v).groupSeen = s.groupSeen ∧ (s.setEvtOut k v).rings = s.rings ∧
    (s.setEvtOut k v).cmdSeq = s.cmdSeq ∧ (s.setEvtOut k v).ringTurn = s.ringTurn ∧ (s.setEvtOut k v).noticesLost = s.noticesLost ∧
    (s.setEvtOut k v).hostWrite = s.hostWrite ∧ (s.setEvtOut k v).lanes = s.lanes ∧ (s.setEvtOut k v).mbxs = s.mbxs ∧
    (s.setEvtOut k v).evtChs = s.evtChs ∧ (s.setEvtOut k v).firings = s.firings ∧ (s.setEvtOut k v).groupTasks = s.groupTasks ∧
    (s.setEvtOut k v).evtIns = s.evtIns ∧ (s.setEvtOut k v).tmrs = s.tmrs ∧ (s.setEvtOut k v).mcoreIrq = s.mcoreIrq ∧ (s.setEvtOut k v).twin = s.twin ∧
    (s.setEvtOut k v).logs = s.logs ∧ (s.setEvtOut k v).logWait = s.logWait ∧ (s.setEvtOut k v).twinBias = s.twinBias ∧
    (s.setEvtOut k v).mirrored = s.mirrored ∧ (s.setEvtOut k v).therm = s.therm ∧ (s.setEvtOut k v).gov = s.gov ∧ (s.setEvtOut k v).mon = s.mon ∧
    (s.setEvtOut k v).idleSince = s.idleSince ∧ (s.setEvtOut k v).reacts = s.reacts ∧ (s.setEvtOut k v).logSeq = s.logSeq ∧
    (s.setEvtOut k v).errUntil = s.errUntil ∧ (s.setEvtOut k v).errPin = s.errPin ∧ (s.setEvtOut k v).recorder = s.recorder ∧
    (s.setEvtOut k v).recSlots = s.recSlots ∧ (s.setEvtOut k v).life = s.life ∧ (s.setEvtOut k v).lifeShadow = s.lifeShadow ∧
    (s.setEvtOut k v).lifeCopies = s.lifeCopies ∧ (s.setEvtOut k v).lifeSave = s.lifeSave ∧ (s.setEvtOut k v).lifeNext = s.lifeNext ∧
    (s.setEvtOut k v).lastSave = s.lastSave ∧ (s.setEvtOut k v).flash = s.flash ∧ (s.setEvtOut k v).sys = s.sys ∧ (s.setEvtOut k v).tap = s.tap :=
  by repeat (first | exact rfl | refine ⟨rfl, ?_⟩)

@[simp] theorem State.setEvtIn_frame (s : State) (k : Nat) (v : Option Bool) :
    (s.setEvtIn k v).pending = s.pending ∧ (s.setEvtIn k v).tick = s.tick ∧ (s.setEvtIn k v).freeCtr = s.freeCtr ∧ (s.setEvtIn k v).regs = s.regs ∧
    (s.setEvtIn k v).wide = s.wide ∧ (s.setEvtIn k v).raised = s.raised ∧ (s.setEvtIn k v).faultLog = s.faultLog ∧ (s.setEvtIn k v).pulses = s.pulses ∧
    (s.setEvtIn k v).holdOn = s.holdOn ∧ (s.setEvtIn k v).answered = s.answered ∧ (s.setEvtIn k v).ucScrub = s.ucScrub ∧
    (s.setEvtIn k v).govMon = s.govMon ∧ (s.setEvtIn k v).pilots = s.pilots ∧ (s.setEvtIn k v).pounds = s.pounds ∧ (s.setEvtIn k v).pm = s.pm ∧
    (s.setEvtIn k v).ledgers = s.ledgers ∧ (s.setEvtIn k v).locks = s.locks ∧ (s.setEvtIn k v).ctxs = s.ctxs ∧ (s.setEvtIn k v).outs = s.outs ∧
    (s.setEvtIn k v).xbarWait = s.xbarWait ∧ (s.setEvtIn k v).xbarQueue = s.xbarQueue ∧ (s.setEvtIn k v).xbarServed = s.xbarServed ∧
    (s.setEvtIn k v).owed = s.owed ∧ (s.setEvtIn k v).lastEntry = s.lastEntry ∧ (s.setEvtIn k v).paths = s.paths ∧ (s.setEvtIn k v).muteds = s.muteds ∧
    (s.setEvtIn k v).fetches = s.fetches ∧ (s.setEvtIn k v).synOrigin = s.synOrigin ∧ (s.setEvtIn k v).maxPlays = s.maxPlays ∧
    (s.setEvtIn k v).sdram = s.sdram ∧ (s.setEvtIn k v).basinNext = s.basinNext ∧ (s.setEvtIn k v).sbufs = s.sbufs ∧ (s.setEvtIn k v).segs = s.segs ∧
    (s.setEvtIn k v).mrkPins = s.mrkPins ∧ (s.setEvtIn k v).mrkLines = s.mrkLines ∧ (s.setEvtIn k v).fluxes = s.fluxes ∧
    (s.setEvtIn k v).demods = s.demods ∧ (s.setEvtIn k v).inputs = s.inputs ∧ (s.setEvtIn k v).decMade = s.decMade ∧
    (s.setEvtIn k v).winResults = s.winResults ∧ (s.setEvtIn k v).jobsDue = s.jobsDue ∧ (s.setEvtIn k v).partials = s.partials ∧
    (s.setEvtIn k v).acqs = s.acqs ∧ (s.setEvtIn k v).admQueue = s.admQueue ∧ (s.setEvtIn k v).flitsOut = s.flitsOut ∧
    (s.setEvtIn k v).localFires = s.localFires ∧ (s.setEvtIn k v).armHeld = s.armHeld ∧ (s.setEvtIn k v).kerns = s.kerns ∧
    (s.setEvtIn k v).convs = s.convs ∧ (s.setEvtIn k v).fuses = s.fuses ∧ (s.setEvtIn k v).fuseJob = s.fuseJob ∧ (s.setEvtIn k v).selfCal = s.selfCal ∧
    (s.setEvtIn k v).twWait = s.twWait ∧ (s.setEvtIn k v).time = s.time ∧ (s.setEvtIn k v).meshPorts = s.meshPorts ∧
    (s.setEvtIn k v).groupSeen = s.groupSeen ∧ (s.setEvtIn k v).rings = s.rings ∧ (s.setEvtIn k v).cmdSeq = s.cmdSeq ∧
    (s.setEvtIn k v).ringTurn = s.ringTurn ∧ (s.setEvtIn k v).noticesLost = s.noticesLost ∧ (s.setEvtIn k v).hostWrite = s.hostWrite ∧
    (s.setEvtIn k v).lanes = s.lanes ∧ (s.setEvtIn k v).mbxs = s.mbxs ∧ (s.setEvtIn k v).evtChs = s.evtChs ∧ (s.setEvtIn k v).firings = s.firings ∧
    (s.setEvtIn k v).groupTasks = s.groupTasks ∧ (s.setEvtIn k v).evtOuts = s.evtOuts ∧ (s.setEvtIn k v).tmrs = s.tmrs ∧
    (s.setEvtIn k v).mcoreIrq = s.mcoreIrq ∧ (s.setEvtIn k v).twin = s.twin ∧ (s.setEvtIn k v).logs = s.logs ∧ (s.setEvtIn k v).logWait = s.logWait ∧
    (s.setEvtIn k v).twinBias = s.twinBias ∧ (s.setEvtIn k v).mirrored = s.mirrored ∧ (s.setEvtIn k v).therm = s.therm ∧ (s.setEvtIn k v).gov = s.gov ∧
    (s.setEvtIn k v).mon = s.mon ∧ (s.setEvtIn k v).idleSince = s.idleSince ∧ (s.setEvtIn k v).reacts = s.reacts ∧ (s.setEvtIn k v).logSeq = s.logSeq ∧
    (s.setEvtIn k v).errUntil = s.errUntil ∧ (s.setEvtIn k v).errPin = s.errPin ∧ (s.setEvtIn k v).recorder = s.recorder ∧
    (s.setEvtIn k v).recSlots = s.recSlots ∧ (s.setEvtIn k v).life = s.life ∧ (s.setEvtIn k v).lifeShadow = s.lifeShadow ∧
    (s.setEvtIn k v).lifeCopies = s.lifeCopies ∧ (s.setEvtIn k v).lifeSave = s.lifeSave ∧ (s.setEvtIn k v).lifeNext = s.lifeNext ∧
    (s.setEvtIn k v).lastSave = s.lastSave ∧ (s.setEvtIn k v).flash = s.flash ∧ (s.setEvtIn k v).sys = s.sys ∧ (s.setEvtIn k v).tap = s.tap :=
  by repeat (first | exact rfl | refine ⟨rfl, ?_⟩)

@[simp] theorem State.setTmr_frame (s : State) (k : Nat) (v : BitVec 48 × Tick) :
    (s.setTmr k v).pending = s.pending ∧ (s.setTmr k v).tick = s.tick ∧ (s.setTmr k v).freeCtr = s.freeCtr ∧ (s.setTmr k v).regs = s.regs ∧
    (s.setTmr k v).wide = s.wide ∧ (s.setTmr k v).raised = s.raised ∧ (s.setTmr k v).faultLog = s.faultLog ∧ (s.setTmr k v).pulses = s.pulses ∧
    (s.setTmr k v).holdOn = s.holdOn ∧ (s.setTmr k v).answered = s.answered ∧ (s.setTmr k v).ucScrub = s.ucScrub ∧ (s.setTmr k v).govMon = s.govMon ∧
    (s.setTmr k v).pilots = s.pilots ∧ (s.setTmr k v).pounds = s.pounds ∧ (s.setTmr k v).pm = s.pm ∧ (s.setTmr k v).ledgers = s.ledgers ∧
    (s.setTmr k v).locks = s.locks ∧ (s.setTmr k v).ctxs = s.ctxs ∧ (s.setTmr k v).outs = s.outs ∧ (s.setTmr k v).xbarWait = s.xbarWait ∧
    (s.setTmr k v).xbarQueue = s.xbarQueue ∧ (s.setTmr k v).xbarServed = s.xbarServed ∧ (s.setTmr k v).owed = s.owed ∧
    (s.setTmr k v).lastEntry = s.lastEntry ∧ (s.setTmr k v).paths = s.paths ∧ (s.setTmr k v).muteds = s.muteds ∧ (s.setTmr k v).fetches = s.fetches ∧
    (s.setTmr k v).synOrigin = s.synOrigin ∧ (s.setTmr k v).maxPlays = s.maxPlays ∧ (s.setTmr k v).sdram = s.sdram ∧
    (s.setTmr k v).basinNext = s.basinNext ∧ (s.setTmr k v).sbufs = s.sbufs ∧ (s.setTmr k v).segs = s.segs ∧ (s.setTmr k v).mrkPins = s.mrkPins ∧
    (s.setTmr k v).mrkLines = s.mrkLines ∧ (s.setTmr k v).fluxes = s.fluxes ∧ (s.setTmr k v).demods = s.demods ∧ (s.setTmr k v).inputs = s.inputs ∧
    (s.setTmr k v).decMade = s.decMade ∧ (s.setTmr k v).winResults = s.winResults ∧ (s.setTmr k v).jobsDue = s.jobsDue ∧
    (s.setTmr k v).partials = s.partials ∧ (s.setTmr k v).acqs = s.acqs ∧ (s.setTmr k v).admQueue = s.admQueue ∧ (s.setTmr k v).flitsOut = s.flitsOut ∧
    (s.setTmr k v).localFires = s.localFires ∧ (s.setTmr k v).armHeld = s.armHeld ∧ (s.setTmr k v).kerns = s.kerns ∧ (s.setTmr k v).convs = s.convs ∧
    (s.setTmr k v).fuses = s.fuses ∧ (s.setTmr k v).fuseJob = s.fuseJob ∧ (s.setTmr k v).selfCal = s.selfCal ∧ (s.setTmr k v).twWait = s.twWait ∧
    (s.setTmr k v).time = s.time ∧ (s.setTmr k v).meshPorts = s.meshPorts ∧ (s.setTmr k v).groupSeen = s.groupSeen ∧ (s.setTmr k v).rings = s.rings ∧
    (s.setTmr k v).cmdSeq = s.cmdSeq ∧ (s.setTmr k v).ringTurn = s.ringTurn ∧ (s.setTmr k v).noticesLost = s.noticesLost ∧
    (s.setTmr k v).hostWrite = s.hostWrite ∧ (s.setTmr k v).lanes = s.lanes ∧ (s.setTmr k v).mbxs = s.mbxs ∧ (s.setTmr k v).evtChs = s.evtChs ∧
    (s.setTmr k v).firings = s.firings ∧ (s.setTmr k v).groupTasks = s.groupTasks ∧ (s.setTmr k v).evtOuts = s.evtOuts ∧
    (s.setTmr k v).evtIns = s.evtIns ∧ (s.setTmr k v).mcoreIrq = s.mcoreIrq ∧ (s.setTmr k v).twin = s.twin ∧ (s.setTmr k v).logs = s.logs ∧
    (s.setTmr k v).logWait = s.logWait ∧ (s.setTmr k v).twinBias = s.twinBias ∧ (s.setTmr k v).mirrored = s.mirrored ∧ (s.setTmr k v).therm = s.therm ∧
    (s.setTmr k v).gov = s.gov ∧ (s.setTmr k v).mon = s.mon ∧ (s.setTmr k v).idleSince = s.idleSince ∧ (s.setTmr k v).reacts = s.reacts ∧
    (s.setTmr k v).logSeq = s.logSeq ∧ (s.setTmr k v).errUntil = s.errUntil ∧ (s.setTmr k v).errPin = s.errPin ∧ (s.setTmr k v).recorder = s.recorder ∧
    (s.setTmr k v).recSlots = s.recSlots ∧ (s.setTmr k v).life = s.life ∧ (s.setTmr k v).lifeShadow = s.lifeShadow ∧
    (s.setTmr k v).lifeCopies = s.lifeCopies ∧ (s.setTmr k v).lifeSave = s.lifeSave ∧ (s.setTmr k v).lifeNext = s.lifeNext ∧
    (s.setTmr k v).lastSave = s.lastSave ∧ (s.setTmr k v).flash = s.flash ∧ (s.setTmr k v).sys = s.sys ∧ (s.setTmr k v).tap = s.tap :=
  by repeat (first | exact rfl | refine ⟨rfl, ?_⟩)

@[simp] theorem State.setLog_frame (s : State) (k : Nat) (v : List (BitVec 3 × BitVec 48)) :
    (s.setLog k v).pending = s.pending ∧ (s.setLog k v).tick = s.tick ∧ (s.setLog k v).freeCtr = s.freeCtr ∧ (s.setLog k v).regs = s.regs ∧
    (s.setLog k v).wide = s.wide ∧ (s.setLog k v).raised = s.raised ∧ (s.setLog k v).faultLog = s.faultLog ∧ (s.setLog k v).pulses = s.pulses ∧
    (s.setLog k v).holdOn = s.holdOn ∧ (s.setLog k v).answered = s.answered ∧ (s.setLog k v).ucScrub = s.ucScrub ∧ (s.setLog k v).govMon = s.govMon ∧
    (s.setLog k v).pilots = s.pilots ∧ (s.setLog k v).pounds = s.pounds ∧ (s.setLog k v).pm = s.pm ∧ (s.setLog k v).ledgers = s.ledgers ∧
    (s.setLog k v).locks = s.locks ∧ (s.setLog k v).ctxs = s.ctxs ∧ (s.setLog k v).outs = s.outs ∧ (s.setLog k v).xbarWait = s.xbarWait ∧
    (s.setLog k v).xbarQueue = s.xbarQueue ∧ (s.setLog k v).xbarServed = s.xbarServed ∧ (s.setLog k v).owed = s.owed ∧
    (s.setLog k v).lastEntry = s.lastEntry ∧ (s.setLog k v).paths = s.paths ∧ (s.setLog k v).muteds = s.muteds ∧ (s.setLog k v).fetches = s.fetches ∧
    (s.setLog k v).synOrigin = s.synOrigin ∧ (s.setLog k v).maxPlays = s.maxPlays ∧ (s.setLog k v).sdram = s.sdram ∧
    (s.setLog k v).basinNext = s.basinNext ∧ (s.setLog k v).sbufs = s.sbufs ∧ (s.setLog k v).segs = s.segs ∧ (s.setLog k v).mrkPins = s.mrkPins ∧
    (s.setLog k v).mrkLines = s.mrkLines ∧ (s.setLog k v).fluxes = s.fluxes ∧ (s.setLog k v).demods = s.demods ∧ (s.setLog k v).inputs = s.inputs ∧
    (s.setLog k v).decMade = s.decMade ∧ (s.setLog k v).winResults = s.winResults ∧ (s.setLog k v).jobsDue = s.jobsDue ∧
    (s.setLog k v).partials = s.partials ∧ (s.setLog k v).acqs = s.acqs ∧ (s.setLog k v).admQueue = s.admQueue ∧ (s.setLog k v).flitsOut = s.flitsOut ∧
    (s.setLog k v).localFires = s.localFires ∧ (s.setLog k v).armHeld = s.armHeld ∧ (s.setLog k v).kerns = s.kerns ∧ (s.setLog k v).convs = s.convs ∧
    (s.setLog k v).fuses = s.fuses ∧ (s.setLog k v).fuseJob = s.fuseJob ∧ (s.setLog k v).selfCal = s.selfCal ∧ (s.setLog k v).twWait = s.twWait ∧
    (s.setLog k v).time = s.time ∧ (s.setLog k v).meshPorts = s.meshPorts ∧ (s.setLog k v).groupSeen = s.groupSeen ∧ (s.setLog k v).rings = s.rings ∧
    (s.setLog k v).cmdSeq = s.cmdSeq ∧ (s.setLog k v).ringTurn = s.ringTurn ∧ (s.setLog k v).noticesLost = s.noticesLost ∧
    (s.setLog k v).hostWrite = s.hostWrite ∧ (s.setLog k v).lanes = s.lanes ∧ (s.setLog k v).mbxs = s.mbxs ∧ (s.setLog k v).evtChs = s.evtChs ∧
    (s.setLog k v).firings = s.firings ∧ (s.setLog k v).groupTasks = s.groupTasks ∧ (s.setLog k v).evtOuts = s.evtOuts ∧
    (s.setLog k v).evtIns = s.evtIns ∧ (s.setLog k v).tmrs = s.tmrs ∧ (s.setLog k v).mcoreIrq = s.mcoreIrq ∧ (s.setLog k v).twin = s.twin ∧
    (s.setLog k v).logWait = s.logWait ∧ (s.setLog k v).twinBias = s.twinBias ∧ (s.setLog k v).mirrored = s.mirrored ∧ (s.setLog k v).therm = s.therm ∧
    (s.setLog k v).gov = s.gov ∧ (s.setLog k v).mon = s.mon ∧ (s.setLog k v).idleSince = s.idleSince ∧ (s.setLog k v).reacts = s.reacts ∧
    (s.setLog k v).logSeq = s.logSeq ∧ (s.setLog k v).errUntil = s.errUntil ∧ (s.setLog k v).errPin = s.errPin ∧ (s.setLog k v).recorder = s.recorder ∧
    (s.setLog k v).recSlots = s.recSlots ∧ (s.setLog k v).life = s.life ∧ (s.setLog k v).lifeShadow = s.lifeShadow ∧
    (s.setLog k v).lifeCopies = s.lifeCopies ∧ (s.setLog k v).lifeSave = s.lifeSave ∧ (s.setLog k v).lifeNext = s.lifeNext ∧
    (s.setLog k v).lastSave = s.lastSave ∧ (s.setLog k v).flash = s.flash ∧ (s.setLog k v).sys = s.sys ∧ (s.setLog k v).tap = s.tap :=
  by repeat (first | exact rfl | refine ⟨rfl, ?_⟩)

@[simp] theorem State.setLogStall_frame (s : State) (k : Nat) (v : Option Tick) :
    (s.setLogStall k v).pending = s.pending ∧ (s.setLogStall k v).tick = s.tick ∧ (s.setLogStall k v).freeCtr = s.freeCtr ∧
    (s.setLogStall k v).regs = s.regs ∧ (s.setLogStall k v).wide = s.wide ∧ (s.setLogStall k v).raised = s.raised ∧
    (s.setLogStall k v).faultLog = s.faultLog ∧ (s.setLogStall k v).pulses = s.pulses ∧ (s.setLogStall k v).holdOn = s.holdOn ∧
    (s.setLogStall k v).answered = s.answered ∧ (s.setLogStall k v).ucScrub = s.ucScrub ∧ (s.setLogStall k v).govMon = s.govMon ∧
    (s.setLogStall k v).pilots = s.pilots ∧ (s.setLogStall k v).pounds = s.pounds ∧ (s.setLogStall k v).pm = s.pm ∧
    (s.setLogStall k v).ledgers = s.ledgers ∧ (s.setLogStall k v).locks = s.locks ∧ (s.setLogStall k v).ctxs = s.ctxs ∧
    (s.setLogStall k v).outs = s.outs ∧ (s.setLogStall k v).xbarWait = s.xbarWait ∧ (s.setLogStall k v).xbarQueue = s.xbarQueue ∧
    (s.setLogStall k v).xbarServed = s.xbarServed ∧ (s.setLogStall k v).owed = s.owed ∧ (s.setLogStall k v).lastEntry = s.lastEntry ∧
    (s.setLogStall k v).paths = s.paths ∧ (s.setLogStall k v).muteds = s.muteds ∧ (s.setLogStall k v).fetches = s.fetches ∧
    (s.setLogStall k v).synOrigin = s.synOrigin ∧ (s.setLogStall k v).maxPlays = s.maxPlays ∧ (s.setLogStall k v).sdram = s.sdram ∧
    (s.setLogStall k v).basinNext = s.basinNext ∧ (s.setLogStall k v).sbufs = s.sbufs ∧ (s.setLogStall k v).segs = s.segs ∧
    (s.setLogStall k v).mrkPins = s.mrkPins ∧ (s.setLogStall k v).mrkLines = s.mrkLines ∧ (s.setLogStall k v).fluxes = s.fluxes ∧
    (s.setLogStall k v).demods = s.demods ∧ (s.setLogStall k v).inputs = s.inputs ∧ (s.setLogStall k v).decMade = s.decMade ∧
    (s.setLogStall k v).winResults = s.winResults ∧ (s.setLogStall k v).jobsDue = s.jobsDue ∧ (s.setLogStall k v).partials = s.partials ∧
    (s.setLogStall k v).acqs = s.acqs ∧ (s.setLogStall k v).admQueue = s.admQueue ∧ (s.setLogStall k v).flitsOut = s.flitsOut ∧
    (s.setLogStall k v).localFires = s.localFires ∧ (s.setLogStall k v).armHeld = s.armHeld ∧ (s.setLogStall k v).kerns = s.kerns ∧
    (s.setLogStall k v).convs = s.convs ∧ (s.setLogStall k v).fuses = s.fuses ∧ (s.setLogStall k v).fuseJob = s.fuseJob ∧
    (s.setLogStall k v).selfCal = s.selfCal ∧ (s.setLogStall k v).twWait = s.twWait ∧ (s.setLogStall k v).time = s.time ∧
    (s.setLogStall k v).meshPorts = s.meshPorts ∧ (s.setLogStall k v).groupSeen = s.groupSeen ∧ (s.setLogStall k v).rings = s.rings ∧
    (s.setLogStall k v).cmdSeq = s.cmdSeq ∧ (s.setLogStall k v).ringTurn = s.ringTurn ∧ (s.setLogStall k v).noticesLost = s.noticesLost ∧
    (s.setLogStall k v).hostWrite = s.hostWrite ∧ (s.setLogStall k v).lanes = s.lanes ∧ (s.setLogStall k v).mbxs = s.mbxs ∧
    (s.setLogStall k v).evtChs = s.evtChs ∧ (s.setLogStall k v).firings = s.firings ∧ (s.setLogStall k v).groupTasks = s.groupTasks ∧
    (s.setLogStall k v).evtOuts = s.evtOuts ∧ (s.setLogStall k v).evtIns = s.evtIns ∧ (s.setLogStall k v).tmrs = s.tmrs ∧
    (s.setLogStall k v).mcoreIrq = s.mcoreIrq ∧ (s.setLogStall k v).twin = s.twin ∧ (s.setLogStall k v).logs = s.logs ∧
    (s.setLogStall k v).twinBias = s.twinBias ∧ (s.setLogStall k v).mirrored = s.mirrored ∧ (s.setLogStall k v).therm = s.therm ∧
    (s.setLogStall k v).gov = s.gov ∧ (s.setLogStall k v).mon = s.mon ∧ (s.setLogStall k v).idleSince = s.idleSince ∧
    (s.setLogStall k v).reacts = s.reacts ∧ (s.setLogStall k v).logSeq = s.logSeq ∧ (s.setLogStall k v).errUntil = s.errUntil ∧
    (s.setLogStall k v).errPin = s.errPin ∧ (s.setLogStall k v).recorder = s.recorder ∧ (s.setLogStall k v).recSlots = s.recSlots ∧
    (s.setLogStall k v).life = s.life ∧ (s.setLogStall k v).lifeShadow = s.lifeShadow ∧ (s.setLogStall k v).lifeCopies = s.lifeCopies ∧
    (s.setLogStall k v).lifeSave = s.lifeSave ∧ (s.setLogStall k v).lifeNext = s.lifeNext ∧ (s.setLogStall k v).lastSave = s.lastSave ∧
    (s.setLogStall k v).flash = s.flash ∧ (s.setLogStall k v).sys = s.sys ∧ (s.setLogStall k v).tap = s.tap :=
  by repeat (first | exact rfl | refine ⟨rfl, ?_⟩)

@[simp] theorem State.setMirrorLedger_frame (s : State) (k : Nat) (v : List Word) :
    (s.setMirrorLedger k v).pending = s.pending ∧ (s.setMirrorLedger k v).tick = s.tick ∧ (s.setMirrorLedger k v).freeCtr = s.freeCtr ∧
    (s.setMirrorLedger k v).regs = s.regs ∧ (s.setMirrorLedger k v).wide = s.wide ∧ (s.setMirrorLedger k v).raised = s.raised ∧
    (s.setMirrorLedger k v).faultLog = s.faultLog ∧ (s.setMirrorLedger k v).pulses = s.pulses ∧ (s.setMirrorLedger k v).holdOn = s.holdOn ∧
    (s.setMirrorLedger k v).answered = s.answered ∧ (s.setMirrorLedger k v).ucScrub = s.ucScrub ∧ (s.setMirrorLedger k v).govMon = s.govMon ∧
    (s.setMirrorLedger k v).pilots = s.pilots ∧ (s.setMirrorLedger k v).pounds = s.pounds ∧ (s.setMirrorLedger k v).pm = s.pm ∧
    (s.setMirrorLedger k v).ledgers = s.ledgers ∧ (s.setMirrorLedger k v).locks = s.locks ∧ (s.setMirrorLedger k v).ctxs = s.ctxs ∧
    (s.setMirrorLedger k v).outs = s.outs ∧ (s.setMirrorLedger k v).xbarWait = s.xbarWait ∧ (s.setMirrorLedger k v).xbarQueue = s.xbarQueue ∧
    (s.setMirrorLedger k v).xbarServed = s.xbarServed ∧ (s.setMirrorLedger k v).owed = s.owed ∧ (s.setMirrorLedger k v).lastEntry = s.lastEntry ∧
    (s.setMirrorLedger k v).paths = s.paths ∧ (s.setMirrorLedger k v).muteds = s.muteds ∧ (s.setMirrorLedger k v).fetches = s.fetches ∧
    (s.setMirrorLedger k v).synOrigin = s.synOrigin ∧ (s.setMirrorLedger k v).maxPlays = s.maxPlays ∧ (s.setMirrorLedger k v).sdram = s.sdram ∧
    (s.setMirrorLedger k v).basinNext = s.basinNext ∧ (s.setMirrorLedger k v).sbufs = s.sbufs ∧ (s.setMirrorLedger k v).segs = s.segs ∧
    (s.setMirrorLedger k v).mrkPins = s.mrkPins ∧ (s.setMirrorLedger k v).mrkLines = s.mrkLines ∧ (s.setMirrorLedger k v).fluxes = s.fluxes ∧
    (s.setMirrorLedger k v).demods = s.demods ∧ (s.setMirrorLedger k v).inputs = s.inputs ∧ (s.setMirrorLedger k v).decMade = s.decMade ∧
    (s.setMirrorLedger k v).winResults = s.winResults ∧ (s.setMirrorLedger k v).jobsDue = s.jobsDue ∧ (s.setMirrorLedger k v).partials = s.partials ∧
    (s.setMirrorLedger k v).acqs = s.acqs ∧ (s.setMirrorLedger k v).admQueue = s.admQueue ∧ (s.setMirrorLedger k v).flitsOut = s.flitsOut ∧
    (s.setMirrorLedger k v).localFires = s.localFires ∧ (s.setMirrorLedger k v).armHeld = s.armHeld ∧ (s.setMirrorLedger k v).kerns = s.kerns ∧
    (s.setMirrorLedger k v).convs = s.convs ∧ (s.setMirrorLedger k v).fuses = s.fuses ∧ (s.setMirrorLedger k v).fuseJob = s.fuseJob ∧
    (s.setMirrorLedger k v).selfCal = s.selfCal ∧ (s.setMirrorLedger k v).twWait = s.twWait ∧ (s.setMirrorLedger k v).time = s.time ∧
    (s.setMirrorLedger k v).meshPorts = s.meshPorts ∧ (s.setMirrorLedger k v).groupSeen = s.groupSeen ∧ (s.setMirrorLedger k v).rings = s.rings ∧
    (s.setMirrorLedger k v).cmdSeq = s.cmdSeq ∧ (s.setMirrorLedger k v).ringTurn = s.ringTurn ∧ (s.setMirrorLedger k v).noticesLost = s.noticesLost ∧
    (s.setMirrorLedger k v).hostWrite = s.hostWrite ∧ (s.setMirrorLedger k v).lanes = s.lanes ∧ (s.setMirrorLedger k v).mbxs = s.mbxs ∧
    (s.setMirrorLedger k v).evtChs = s.evtChs ∧ (s.setMirrorLedger k v).firings = s.firings ∧ (s.setMirrorLedger k v).groupTasks = s.groupTasks ∧
    (s.setMirrorLedger k v).evtOuts = s.evtOuts ∧ (s.setMirrorLedger k v).evtIns = s.evtIns ∧ (s.setMirrorLedger k v).tmrs = s.tmrs ∧
    (s.setMirrorLedger k v).mcoreIrq = s.mcoreIrq ∧ (s.setMirrorLedger k v).twin = s.twin ∧ (s.setMirrorLedger k v).logs = s.logs ∧
    (s.setMirrorLedger k v).logWait = s.logWait ∧ (s.setMirrorLedger k v).twinBias = s.twinBias ∧ (s.setMirrorLedger k v).therm = s.therm ∧
    (s.setMirrorLedger k v).gov = s.gov ∧ (s.setMirrorLedger k v).mon = s.mon ∧ (s.setMirrorLedger k v).idleSince = s.idleSince ∧
    (s.setMirrorLedger k v).reacts = s.reacts ∧ (s.setMirrorLedger k v).logSeq = s.logSeq ∧ (s.setMirrorLedger k v).errUntil = s.errUntil ∧
    (s.setMirrorLedger k v).errPin = s.errPin ∧ (s.setMirrorLedger k v).recorder = s.recorder ∧ (s.setMirrorLedger k v).recSlots = s.recSlots ∧
    (s.setMirrorLedger k v).life = s.life ∧ (s.setMirrorLedger k v).lifeShadow = s.lifeShadow ∧ (s.setMirrorLedger k v).lifeCopies = s.lifeCopies ∧
    (s.setMirrorLedger k v).lifeSave = s.lifeSave ∧ (s.setMirrorLedger k v).lifeNext = s.lifeNext ∧ (s.setMirrorLedger k v).lastSave = s.lastSave ∧
    (s.setMirrorLedger k v).flash = s.flash ∧ (s.setMirrorLedger k v).sys = s.sys ∧ (s.setMirrorLedger k v).tap = s.tap :=
  by repeat (first | exact rfl | refine ⟨rfl, ?_⟩)

@[simp] theorem State.setRecSlot_frame (s : State) (k : Nat) (v : Option Rec) :
    (s.setRecSlot k v).pending = s.pending ∧ (s.setRecSlot k v).tick = s.tick ∧ (s.setRecSlot k v).freeCtr = s.freeCtr ∧
    (s.setRecSlot k v).regs = s.regs ∧ (s.setRecSlot k v).wide = s.wide ∧ (s.setRecSlot k v).raised = s.raised ∧
    (s.setRecSlot k v).faultLog = s.faultLog ∧ (s.setRecSlot k v).pulses = s.pulses ∧ (s.setRecSlot k v).holdOn = s.holdOn ∧
    (s.setRecSlot k v).answered = s.answered ∧ (s.setRecSlot k v).ucScrub = s.ucScrub ∧ (s.setRecSlot k v).govMon = s.govMon ∧
    (s.setRecSlot k v).pilots = s.pilots ∧ (s.setRecSlot k v).pounds = s.pounds ∧ (s.setRecSlot k v).pm = s.pm ∧ (s.setRecSlot k v).ledgers = s.ledgers ∧
    (s.setRecSlot k v).locks = s.locks ∧ (s.setRecSlot k v).ctxs = s.ctxs ∧ (s.setRecSlot k v).outs = s.outs ∧ (s.setRecSlot k v).xbarWait = s.xbarWait ∧
    (s.setRecSlot k v).xbarQueue = s.xbarQueue ∧ (s.setRecSlot k v).xbarServed = s.xbarServed ∧ (s.setRecSlot k v).owed = s.owed ∧
    (s.setRecSlot k v).lastEntry = s.lastEntry ∧ (s.setRecSlot k v).paths = s.paths ∧ (s.setRecSlot k v).muteds = s.muteds ∧
    (s.setRecSlot k v).fetches = s.fetches ∧ (s.setRecSlot k v).synOrigin = s.synOrigin ∧ (s.setRecSlot k v).maxPlays = s.maxPlays ∧
    (s.setRecSlot k v).sdram = s.sdram ∧ (s.setRecSlot k v).basinNext = s.basinNext ∧ (s.setRecSlot k v).sbufs = s.sbufs ∧
    (s.setRecSlot k v).segs = s.segs ∧ (s.setRecSlot k v).mrkPins = s.mrkPins ∧ (s.setRecSlot k v).mrkLines = s.mrkLines ∧
    (s.setRecSlot k v).fluxes = s.fluxes ∧ (s.setRecSlot k v).demods = s.demods ∧ (s.setRecSlot k v).inputs = s.inputs ∧
    (s.setRecSlot k v).decMade = s.decMade ∧ (s.setRecSlot k v).winResults = s.winResults ∧ (s.setRecSlot k v).jobsDue = s.jobsDue ∧
    (s.setRecSlot k v).partials = s.partials ∧ (s.setRecSlot k v).acqs = s.acqs ∧ (s.setRecSlot k v).admQueue = s.admQueue ∧
    (s.setRecSlot k v).flitsOut = s.flitsOut ∧ (s.setRecSlot k v).localFires = s.localFires ∧ (s.setRecSlot k v).armHeld = s.armHeld ∧
    (s.setRecSlot k v).kerns = s.kerns ∧ (s.setRecSlot k v).convs = s.convs ∧ (s.setRecSlot k v).fuses = s.fuses ∧
    (s.setRecSlot k v).fuseJob = s.fuseJob ∧ (s.setRecSlot k v).selfCal = s.selfCal ∧ (s.setRecSlot k v).twWait = s.twWait ∧
    (s.setRecSlot k v).time = s.time ∧ (s.setRecSlot k v).meshPorts = s.meshPorts ∧ (s.setRecSlot k v).groupSeen = s.groupSeen ∧
    (s.setRecSlot k v).rings = s.rings ∧ (s.setRecSlot k v).cmdSeq = s.cmdSeq ∧ (s.setRecSlot k v).ringTurn = s.ringTurn ∧
    (s.setRecSlot k v).noticesLost = s.noticesLost ∧ (s.setRecSlot k v).hostWrite = s.hostWrite ∧ (s.setRecSlot k v).lanes = s.lanes ∧
    (s.setRecSlot k v).mbxs = s.mbxs ∧ (s.setRecSlot k v).evtChs = s.evtChs ∧ (s.setRecSlot k v).firings = s.firings ∧
    (s.setRecSlot k v).groupTasks = s.groupTasks ∧ (s.setRecSlot k v).evtOuts = s.evtOuts ∧ (s.setRecSlot k v).evtIns = s.evtIns ∧
    (s.setRecSlot k v).tmrs = s.tmrs ∧ (s.setRecSlot k v).mcoreIrq = s.mcoreIrq ∧ (s.setRecSlot k v).twin = s.twin ∧ (s.setRecSlot k v).logs = s.logs ∧
    (s.setRecSlot k v).logWait = s.logWait ∧ (s.setRecSlot k v).twinBias = s.twinBias ∧ (s.setRecSlot k v).mirrored = s.mirrored ∧
    (s.setRecSlot k v).therm = s.therm ∧ (s.setRecSlot k v).gov = s.gov ∧ (s.setRecSlot k v).mon = s.mon ∧ (s.setRecSlot k v).idleSince = s.idleSince ∧
    (s.setRecSlot k v).reacts = s.reacts ∧ (s.setRecSlot k v).logSeq = s.logSeq ∧ (s.setRecSlot k v).errUntil = s.errUntil ∧
    (s.setRecSlot k v).errPin = s.errPin ∧ (s.setRecSlot k v).recorder = s.recorder ∧ (s.setRecSlot k v).life = s.life ∧
    (s.setRecSlot k v).lifeShadow = s.lifeShadow ∧ (s.setRecSlot k v).lifeCopies = s.lifeCopies ∧ (s.setRecSlot k v).lifeSave = s.lifeSave ∧
    (s.setRecSlot k v).lifeNext = s.lifeNext ∧ (s.setRecSlot k v).lastSave = s.lastSave ∧ (s.setRecSlot k v).flash = s.flash ∧
    (s.setRecSlot k v).sys = s.sys ∧ (s.setRecSlot k v).tap = s.tap :=
  by repeat (first | exact rfl | refine ⟨rfl, ?_⟩)

@[simp] theorem State.setLifeWord_frame (s : State) (k : Nat) (v : Word) :
    (s.setLifeWord k v).pending = s.pending ∧ (s.setLifeWord k v).tick = s.tick ∧ (s.setLifeWord k v).freeCtr = s.freeCtr ∧
    (s.setLifeWord k v).regs = s.regs ∧ (s.setLifeWord k v).wide = s.wide ∧ (s.setLifeWord k v).raised = s.raised ∧
    (s.setLifeWord k v).faultLog = s.faultLog ∧ (s.setLifeWord k v).pulses = s.pulses ∧ (s.setLifeWord k v).holdOn = s.holdOn ∧
    (s.setLifeWord k v).answered = s.answered ∧ (s.setLifeWord k v).ucScrub = s.ucScrub ∧ (s.setLifeWord k v).govMon = s.govMon ∧
    (s.setLifeWord k v).pilots = s.pilots ∧ (s.setLifeWord k v).pounds = s.pounds ∧ (s.setLifeWord k v).pm = s.pm ∧
    (s.setLifeWord k v).ledgers = s.ledgers ∧ (s.setLifeWord k v).locks = s.locks ∧ (s.setLifeWord k v).ctxs = s.ctxs ∧
    (s.setLifeWord k v).outs = s.outs ∧ (s.setLifeWord k v).xbarWait = s.xbarWait ∧ (s.setLifeWord k v).xbarQueue = s.xbarQueue ∧
    (s.setLifeWord k v).xbarServed = s.xbarServed ∧ (s.setLifeWord k v).owed = s.owed ∧ (s.setLifeWord k v).lastEntry = s.lastEntry ∧
    (s.setLifeWord k v).paths = s.paths ∧ (s.setLifeWord k v).muteds = s.muteds ∧ (s.setLifeWord k v).fetches = s.fetches ∧
    (s.setLifeWord k v).synOrigin = s.synOrigin ∧ (s.setLifeWord k v).maxPlays = s.maxPlays ∧ (s.setLifeWord k v).sdram = s.sdram ∧
    (s.setLifeWord k v).basinNext = s.basinNext ∧ (s.setLifeWord k v).sbufs = s.sbufs ∧ (s.setLifeWord k v).segs = s.segs ∧
    (s.setLifeWord k v).mrkPins = s.mrkPins ∧ (s.setLifeWord k v).mrkLines = s.mrkLines ∧ (s.setLifeWord k v).fluxes = s.fluxes ∧
    (s.setLifeWord k v).demods = s.demods ∧ (s.setLifeWord k v).inputs = s.inputs ∧ (s.setLifeWord k v).decMade = s.decMade ∧
    (s.setLifeWord k v).winResults = s.winResults ∧ (s.setLifeWord k v).jobsDue = s.jobsDue ∧ (s.setLifeWord k v).partials = s.partials ∧
    (s.setLifeWord k v).acqs = s.acqs ∧ (s.setLifeWord k v).admQueue = s.admQueue ∧ (s.setLifeWord k v).flitsOut = s.flitsOut ∧
    (s.setLifeWord k v).localFires = s.localFires ∧ (s.setLifeWord k v).armHeld = s.armHeld ∧ (s.setLifeWord k v).kerns = s.kerns ∧
    (s.setLifeWord k v).convs = s.convs ∧ (s.setLifeWord k v).fuses = s.fuses ∧ (s.setLifeWord k v).fuseJob = s.fuseJob ∧
    (s.setLifeWord k v).selfCal = s.selfCal ∧ (s.setLifeWord k v).twWait = s.twWait ∧ (s.setLifeWord k v).time = s.time ∧
    (s.setLifeWord k v).meshPorts = s.meshPorts ∧ (s.setLifeWord k v).groupSeen = s.groupSeen ∧ (s.setLifeWord k v).rings = s.rings ∧
    (s.setLifeWord k v).cmdSeq = s.cmdSeq ∧ (s.setLifeWord k v).ringTurn = s.ringTurn ∧ (s.setLifeWord k v).noticesLost = s.noticesLost ∧
    (s.setLifeWord k v).hostWrite = s.hostWrite ∧ (s.setLifeWord k v).lanes = s.lanes ∧ (s.setLifeWord k v).mbxs = s.mbxs ∧
    (s.setLifeWord k v).evtChs = s.evtChs ∧ (s.setLifeWord k v).firings = s.firings ∧ (s.setLifeWord k v).groupTasks = s.groupTasks ∧
    (s.setLifeWord k v).evtOuts = s.evtOuts ∧ (s.setLifeWord k v).evtIns = s.evtIns ∧ (s.setLifeWord k v).tmrs = s.tmrs ∧
    (s.setLifeWord k v).mcoreIrq = s.mcoreIrq ∧ (s.setLifeWord k v).twin = s.twin ∧ (s.setLifeWord k v).logs = s.logs ∧
    (s.setLifeWord k v).logWait = s.logWait ∧ (s.setLifeWord k v).twinBias = s.twinBias ∧ (s.setLifeWord k v).mirrored = s.mirrored ∧
    (s.setLifeWord k v).therm = s.therm ∧ (s.setLifeWord k v).gov = s.gov ∧ (s.setLifeWord k v).mon = s.mon ∧
    (s.setLifeWord k v).idleSince = s.idleSince ∧ (s.setLifeWord k v).reacts = s.reacts ∧ (s.setLifeWord k v).logSeq = s.logSeq ∧
    (s.setLifeWord k v).errUntil = s.errUntil ∧ (s.setLifeWord k v).errPin = s.errPin ∧ (s.setLifeWord k v).recorder = s.recorder ∧
    (s.setLifeWord k v).recSlots = s.recSlots ∧ (s.setLifeWord k v).lifeShadow = s.lifeShadow ∧ (s.setLifeWord k v).lifeCopies = s.lifeCopies ∧
    (s.setLifeWord k v).lifeSave = s.lifeSave ∧ (s.setLifeWord k v).lifeNext = s.lifeNext ∧ (s.setLifeWord k v).lastSave = s.lastSave ∧
    (s.setLifeWord k v).flash = s.flash ∧ (s.setLifeWord k v).sys = s.sys ∧ (s.setLifeWord k v).tap = s.tap :=
  by repeat (first | exact rfl | refine ⟨rfl, ?_⟩)

@[simp] theorem State.setShadowWord_frame (s : State) (k : Nat) (v : Word) :
    (s.setShadowWord k v).pending = s.pending ∧ (s.setShadowWord k v).tick = s.tick ∧ (s.setShadowWord k v).freeCtr = s.freeCtr ∧
    (s.setShadowWord k v).regs = s.regs ∧ (s.setShadowWord k v).wide = s.wide ∧ (s.setShadowWord k v).raised = s.raised ∧
    (s.setShadowWord k v).faultLog = s.faultLog ∧ (s.setShadowWord k v).pulses = s.pulses ∧ (s.setShadowWord k v).holdOn = s.holdOn ∧
    (s.setShadowWord k v).answered = s.answered ∧ (s.setShadowWord k v).ucScrub = s.ucScrub ∧ (s.setShadowWord k v).govMon = s.govMon ∧
    (s.setShadowWord k v).pilots = s.pilots ∧ (s.setShadowWord k v).pounds = s.pounds ∧ (s.setShadowWord k v).pm = s.pm ∧
    (s.setShadowWord k v).ledgers = s.ledgers ∧ (s.setShadowWord k v).locks = s.locks ∧ (s.setShadowWord k v).ctxs = s.ctxs ∧
    (s.setShadowWord k v).outs = s.outs ∧ (s.setShadowWord k v).xbarWait = s.xbarWait ∧ (s.setShadowWord k v).xbarQueue = s.xbarQueue ∧
    (s.setShadowWord k v).xbarServed = s.xbarServed ∧ (s.setShadowWord k v).owed = s.owed ∧ (s.setShadowWord k v).lastEntry = s.lastEntry ∧
    (s.setShadowWord k v).paths = s.paths ∧ (s.setShadowWord k v).muteds = s.muteds ∧ (s.setShadowWord k v).fetches = s.fetches ∧
    (s.setShadowWord k v).synOrigin = s.synOrigin ∧ (s.setShadowWord k v).maxPlays = s.maxPlays ∧ (s.setShadowWord k v).sdram = s.sdram ∧
    (s.setShadowWord k v).basinNext = s.basinNext ∧ (s.setShadowWord k v).sbufs = s.sbufs ∧ (s.setShadowWord k v).segs = s.segs ∧
    (s.setShadowWord k v).mrkPins = s.mrkPins ∧ (s.setShadowWord k v).mrkLines = s.mrkLines ∧ (s.setShadowWord k v).fluxes = s.fluxes ∧
    (s.setShadowWord k v).demods = s.demods ∧ (s.setShadowWord k v).inputs = s.inputs ∧ (s.setShadowWord k v).decMade = s.decMade ∧
    (s.setShadowWord k v).winResults = s.winResults ∧ (s.setShadowWord k v).jobsDue = s.jobsDue ∧ (s.setShadowWord k v).partials = s.partials ∧
    (s.setShadowWord k v).acqs = s.acqs ∧ (s.setShadowWord k v).admQueue = s.admQueue ∧ (s.setShadowWord k v).flitsOut = s.flitsOut ∧
    (s.setShadowWord k v).localFires = s.localFires ∧ (s.setShadowWord k v).armHeld = s.armHeld ∧ (s.setShadowWord k v).kerns = s.kerns ∧
    (s.setShadowWord k v).convs = s.convs ∧ (s.setShadowWord k v).fuses = s.fuses ∧ (s.setShadowWord k v).fuseJob = s.fuseJob ∧
    (s.setShadowWord k v).selfCal = s.selfCal ∧ (s.setShadowWord k v).twWait = s.twWait ∧ (s.setShadowWord k v).time = s.time ∧
    (s.setShadowWord k v).meshPorts = s.meshPorts ∧ (s.setShadowWord k v).groupSeen = s.groupSeen ∧ (s.setShadowWord k v).rings = s.rings ∧
    (s.setShadowWord k v).cmdSeq = s.cmdSeq ∧ (s.setShadowWord k v).ringTurn = s.ringTurn ∧ (s.setShadowWord k v).noticesLost = s.noticesLost ∧
    (s.setShadowWord k v).hostWrite = s.hostWrite ∧ (s.setShadowWord k v).lanes = s.lanes ∧ (s.setShadowWord k v).mbxs = s.mbxs ∧
    (s.setShadowWord k v).evtChs = s.evtChs ∧ (s.setShadowWord k v).firings = s.firings ∧ (s.setShadowWord k v).groupTasks = s.groupTasks ∧
    (s.setShadowWord k v).evtOuts = s.evtOuts ∧ (s.setShadowWord k v).evtIns = s.evtIns ∧ (s.setShadowWord k v).tmrs = s.tmrs ∧
    (s.setShadowWord k v).mcoreIrq = s.mcoreIrq ∧ (s.setShadowWord k v).twin = s.twin ∧ (s.setShadowWord k v).logs = s.logs ∧
    (s.setShadowWord k v).logWait = s.logWait ∧ (s.setShadowWord k v).twinBias = s.twinBias ∧ (s.setShadowWord k v).mirrored = s.mirrored ∧
    (s.setShadowWord k v).therm = s.therm ∧ (s.setShadowWord k v).gov = s.gov ∧ (s.setShadowWord k v).mon = s.mon ∧
    (s.setShadowWord k v).idleSince = s.idleSince ∧ (s.setShadowWord k v).reacts = s.reacts ∧ (s.setShadowWord k v).logSeq = s.logSeq ∧
    (s.setShadowWord k v).errUntil = s.errUntil ∧ (s.setShadowWord k v).errPin = s.errPin ∧ (s.setShadowWord k v).recorder = s.recorder ∧
    (s.setShadowWord k v).recSlots = s.recSlots ∧ (s.setShadowWord k v).life = s.life ∧ (s.setShadowWord k v).lifeCopies = s.lifeCopies ∧
    (s.setShadowWord k v).lifeSave = s.lifeSave ∧ (s.setShadowWord k v).lifeNext = s.lifeNext ∧ (s.setShadowWord k v).lastSave = s.lastSave ∧
    (s.setShadowWord k v).flash = s.flash ∧ (s.setShadowWord k v).sys = s.sys ∧ (s.setShadowWord k v).tap = s.tap :=
  by repeat (first | exact rfl | refine ⟨rfl, ?_⟩)

@[simp] theorem State.setLifeCopy_frame (s : State) (k : Nat) (v : Option (Nat × Store Word)) :
    (s.setLifeCopy k v).pending = s.pending ∧ (s.setLifeCopy k v).tick = s.tick ∧ (s.setLifeCopy k v).freeCtr = s.freeCtr ∧
    (s.setLifeCopy k v).regs = s.regs ∧ (s.setLifeCopy k v).wide = s.wide ∧ (s.setLifeCopy k v).raised = s.raised ∧
    (s.setLifeCopy k v).faultLog = s.faultLog ∧ (s.setLifeCopy k v).pulses = s.pulses ∧ (s.setLifeCopy k v).holdOn = s.holdOn ∧
    (s.setLifeCopy k v).answered = s.answered ∧ (s.setLifeCopy k v).ucScrub = s.ucScrub ∧ (s.setLifeCopy k v).govMon = s.govMon ∧
    (s.setLifeCopy k v).pilots = s.pilots ∧ (s.setLifeCopy k v).pounds = s.pounds ∧ (s.setLifeCopy k v).pm = s.pm ∧
    (s.setLifeCopy k v).ledgers = s.ledgers ∧ (s.setLifeCopy k v).locks = s.locks ∧ (s.setLifeCopy k v).ctxs = s.ctxs ∧
    (s.setLifeCopy k v).outs = s.outs ∧ (s.setLifeCopy k v).xbarWait = s.xbarWait ∧ (s.setLifeCopy k v).xbarQueue = s.xbarQueue ∧
    (s.setLifeCopy k v).xbarServed = s.xbarServed ∧ (s.setLifeCopy k v).owed = s.owed ∧ (s.setLifeCopy k v).lastEntry = s.lastEntry ∧
    (s.setLifeCopy k v).paths = s.paths ∧ (s.setLifeCopy k v).muteds = s.muteds ∧ (s.setLifeCopy k v).fetches = s.fetches ∧
    (s.setLifeCopy k v).synOrigin = s.synOrigin ∧ (s.setLifeCopy k v).maxPlays = s.maxPlays ∧ (s.setLifeCopy k v).sdram = s.sdram ∧
    (s.setLifeCopy k v).basinNext = s.basinNext ∧ (s.setLifeCopy k v).sbufs = s.sbufs ∧ (s.setLifeCopy k v).segs = s.segs ∧
    (s.setLifeCopy k v).mrkPins = s.mrkPins ∧ (s.setLifeCopy k v).mrkLines = s.mrkLines ∧ (s.setLifeCopy k v).fluxes = s.fluxes ∧
    (s.setLifeCopy k v).demods = s.demods ∧ (s.setLifeCopy k v).inputs = s.inputs ∧ (s.setLifeCopy k v).decMade = s.decMade ∧
    (s.setLifeCopy k v).winResults = s.winResults ∧ (s.setLifeCopy k v).jobsDue = s.jobsDue ∧ (s.setLifeCopy k v).partials = s.partials ∧
    (s.setLifeCopy k v).acqs = s.acqs ∧ (s.setLifeCopy k v).admQueue = s.admQueue ∧ (s.setLifeCopy k v).flitsOut = s.flitsOut ∧
    (s.setLifeCopy k v).localFires = s.localFires ∧ (s.setLifeCopy k v).armHeld = s.armHeld ∧ (s.setLifeCopy k v).kerns = s.kerns ∧
    (s.setLifeCopy k v).convs = s.convs ∧ (s.setLifeCopy k v).fuses = s.fuses ∧ (s.setLifeCopy k v).fuseJob = s.fuseJob ∧
    (s.setLifeCopy k v).selfCal = s.selfCal ∧ (s.setLifeCopy k v).twWait = s.twWait ∧ (s.setLifeCopy k v).time = s.time ∧
    (s.setLifeCopy k v).meshPorts = s.meshPorts ∧ (s.setLifeCopy k v).groupSeen = s.groupSeen ∧ (s.setLifeCopy k v).rings = s.rings ∧
    (s.setLifeCopy k v).cmdSeq = s.cmdSeq ∧ (s.setLifeCopy k v).ringTurn = s.ringTurn ∧ (s.setLifeCopy k v).noticesLost = s.noticesLost ∧
    (s.setLifeCopy k v).hostWrite = s.hostWrite ∧ (s.setLifeCopy k v).lanes = s.lanes ∧ (s.setLifeCopy k v).mbxs = s.mbxs ∧
    (s.setLifeCopy k v).evtChs = s.evtChs ∧ (s.setLifeCopy k v).firings = s.firings ∧ (s.setLifeCopy k v).groupTasks = s.groupTasks ∧
    (s.setLifeCopy k v).evtOuts = s.evtOuts ∧ (s.setLifeCopy k v).evtIns = s.evtIns ∧ (s.setLifeCopy k v).tmrs = s.tmrs ∧
    (s.setLifeCopy k v).mcoreIrq = s.mcoreIrq ∧ (s.setLifeCopy k v).twin = s.twin ∧ (s.setLifeCopy k v).logs = s.logs ∧
    (s.setLifeCopy k v).logWait = s.logWait ∧ (s.setLifeCopy k v).twinBias = s.twinBias ∧ (s.setLifeCopy k v).mirrored = s.mirrored ∧
    (s.setLifeCopy k v).therm = s.therm ∧ (s.setLifeCopy k v).gov = s.gov ∧ (s.setLifeCopy k v).mon = s.mon ∧
    (s.setLifeCopy k v).idleSince = s.idleSince ∧ (s.setLifeCopy k v).reacts = s.reacts ∧ (s.setLifeCopy k v).logSeq = s.logSeq ∧
    (s.setLifeCopy k v).errUntil = s.errUntil ∧ (s.setLifeCopy k v).errPin = s.errPin ∧ (s.setLifeCopy k v).recorder = s.recorder ∧
    (s.setLifeCopy k v).recSlots = s.recSlots ∧ (s.setLifeCopy k v).life = s.life ∧ (s.setLifeCopy k v).lifeShadow = s.lifeShadow ∧
    (s.setLifeCopy k v).lifeSave = s.lifeSave ∧ (s.setLifeCopy k v).lifeNext = s.lifeNext ∧ (s.setLifeCopy k v).lastSave = s.lastSave ∧
    (s.setLifeCopy k v).flash = s.flash ∧ (s.setLifeCopy k v).sys = s.sys ∧ (s.setLifeCopy k v).tap = s.tap :=
  by repeat (first | exact rfl | refine ⟨rfl, ?_⟩)

@[simp] theorem State.setFlashByte_frame (s : State) (k : Nat) (v : BitVec 8) :
    (s.setFlashByte k v).pending = s.pending ∧ (s.setFlashByte k v).tick = s.tick ∧ (s.setFlashByte k v).freeCtr = s.freeCtr ∧
    (s.setFlashByte k v).regs = s.regs ∧ (s.setFlashByte k v).wide = s.wide ∧ (s.setFlashByte k v).raised = s.raised ∧
    (s.setFlashByte k v).faultLog = s.faultLog ∧ (s.setFlashByte k v).pulses = s.pulses ∧ (s.setFlashByte k v).holdOn = s.holdOn ∧
    (s.setFlashByte k v).answered = s.answered ∧ (s.setFlashByte k v).ucScrub = s.ucScrub ∧ (s.setFlashByte k v).govMon = s.govMon ∧
    (s.setFlashByte k v).pilots = s.pilots ∧ (s.setFlashByte k v).pounds = s.pounds ∧ (s.setFlashByte k v).pm = s.pm ∧
    (s.setFlashByte k v).ledgers = s.ledgers ∧ (s.setFlashByte k v).locks = s.locks ∧ (s.setFlashByte k v).ctxs = s.ctxs ∧
    (s.setFlashByte k v).outs = s.outs ∧ (s.setFlashByte k v).xbarWait = s.xbarWait ∧ (s.setFlashByte k v).xbarQueue = s.xbarQueue ∧
    (s.setFlashByte k v).xbarServed = s.xbarServed ∧ (s.setFlashByte k v).owed = s.owed ∧ (s.setFlashByte k v).lastEntry = s.lastEntry ∧
    (s.setFlashByte k v).paths = s.paths ∧ (s.setFlashByte k v).muteds = s.muteds ∧ (s.setFlashByte k v).fetches = s.fetches ∧
    (s.setFlashByte k v).synOrigin = s.synOrigin ∧ (s.setFlashByte k v).maxPlays = s.maxPlays ∧ (s.setFlashByte k v).sdram = s.sdram ∧
    (s.setFlashByte k v).basinNext = s.basinNext ∧ (s.setFlashByte k v).sbufs = s.sbufs ∧ (s.setFlashByte k v).segs = s.segs ∧
    (s.setFlashByte k v).mrkPins = s.mrkPins ∧ (s.setFlashByte k v).mrkLines = s.mrkLines ∧ (s.setFlashByte k v).fluxes = s.fluxes ∧
    (s.setFlashByte k v).demods = s.demods ∧ (s.setFlashByte k v).inputs = s.inputs ∧ (s.setFlashByte k v).decMade = s.decMade ∧
    (s.setFlashByte k v).winResults = s.winResults ∧ (s.setFlashByte k v).jobsDue = s.jobsDue ∧ (s.setFlashByte k v).partials = s.partials ∧
    (s.setFlashByte k v).acqs = s.acqs ∧ (s.setFlashByte k v).admQueue = s.admQueue ∧ (s.setFlashByte k v).flitsOut = s.flitsOut ∧
    (s.setFlashByte k v).localFires = s.localFires ∧ (s.setFlashByte k v).armHeld = s.armHeld ∧ (s.setFlashByte k v).kerns = s.kerns ∧
    (s.setFlashByte k v).convs = s.convs ∧ (s.setFlashByte k v).fuses = s.fuses ∧ (s.setFlashByte k v).fuseJob = s.fuseJob ∧
    (s.setFlashByte k v).selfCal = s.selfCal ∧ (s.setFlashByte k v).twWait = s.twWait ∧ (s.setFlashByte k v).time = s.time ∧
    (s.setFlashByte k v).meshPorts = s.meshPorts ∧ (s.setFlashByte k v).groupSeen = s.groupSeen ∧ (s.setFlashByte k v).rings = s.rings ∧
    (s.setFlashByte k v).cmdSeq = s.cmdSeq ∧ (s.setFlashByte k v).ringTurn = s.ringTurn ∧ (s.setFlashByte k v).noticesLost = s.noticesLost ∧
    (s.setFlashByte k v).hostWrite = s.hostWrite ∧ (s.setFlashByte k v).lanes = s.lanes ∧ (s.setFlashByte k v).mbxs = s.mbxs ∧
    (s.setFlashByte k v).evtChs = s.evtChs ∧ (s.setFlashByte k v).firings = s.firings ∧ (s.setFlashByte k v).groupTasks = s.groupTasks ∧
    (s.setFlashByte k v).evtOuts = s.evtOuts ∧ (s.setFlashByte k v).evtIns = s.evtIns ∧ (s.setFlashByte k v).tmrs = s.tmrs ∧
    (s.setFlashByte k v).mcoreIrq = s.mcoreIrq ∧ (s.setFlashByte k v).twin = s.twin ∧ (s.setFlashByte k v).logs = s.logs ∧
    (s.setFlashByte k v).logWait = s.logWait ∧ (s.setFlashByte k v).twinBias = s.twinBias ∧ (s.setFlashByte k v).mirrored = s.mirrored ∧
    (s.setFlashByte k v).therm = s.therm ∧ (s.setFlashByte k v).gov = s.gov ∧ (s.setFlashByte k v).mon = s.mon ∧
    (s.setFlashByte k v).idleSince = s.idleSince ∧ (s.setFlashByte k v).reacts = s.reacts ∧ (s.setFlashByte k v).logSeq = s.logSeq ∧
    (s.setFlashByte k v).errUntil = s.errUntil ∧ (s.setFlashByte k v).errPin = s.errPin ∧ (s.setFlashByte k v).recorder = s.recorder ∧
    (s.setFlashByte k v).recSlots = s.recSlots ∧ (s.setFlashByte k v).life = s.life ∧ (s.setFlashByte k v).lifeShadow = s.lifeShadow ∧
    (s.setFlashByte k v).lifeCopies = s.lifeCopies ∧ (s.setFlashByte k v).lifeSave = s.lifeSave ∧ (s.setFlashByte k v).lifeNext = s.lifeNext ∧
    (s.setFlashByte k v).lastSave = s.lastSave ∧ (s.setFlashByte k v).sys = s.sys ∧ (s.setFlashByte k v).tap = s.tap :=
  by repeat (first | exact rfl | refine ⟨rfl, ?_⟩)

@[simp] theorem State.fresh_frame (s : State)  :
    (s.fresh).pending = s.pending ∧ (s.fresh).tick = s.tick ∧ (s.fresh).regs = s.regs ∧ (s.fresh).wide = s.wide ∧ (s.fresh).raised = s.raised ∧
    (s.fresh).faultLog = s.faultLog ∧ (s.fresh).pulses = s.pulses ∧ (s.fresh).holdOn = s.holdOn ∧ (s.fresh).answered = s.answered ∧
    (s.fresh).ucScrub = s.ucScrub ∧ (s.fresh).govMon = s.govMon ∧ (s.fresh).pilots = s.pilots ∧ (s.fresh).pounds = s.pounds ∧ (s.fresh).pm = s.pm ∧
    (s.fresh).ledgers = s.ledgers ∧ (s.fresh).locks = s.locks ∧ (s.fresh).ctxs = s.ctxs ∧ (s.fresh).outs = s.outs ∧ (s.fresh).xbarWait = s.xbarWait ∧
    (s.fresh).xbarQueue = s.xbarQueue ∧ (s.fresh).xbarServed = s.xbarServed ∧ (s.fresh).owed = s.owed ∧ (s.fresh).lastEntry = s.lastEntry ∧
    (s.fresh).paths = s.paths ∧ (s.fresh).muteds = s.muteds ∧ (s.fresh).fetches = s.fetches ∧ (s.fresh).synOrigin = s.synOrigin ∧
    (s.fresh).maxPlays = s.maxPlays ∧ (s.fresh).sdram = s.sdram ∧ (s.fresh).basinNext = s.basinNext ∧ (s.fresh).sbufs = s.sbufs ∧
    (s.fresh).segs = s.segs ∧ (s.fresh).mrkPins = s.mrkPins ∧ (s.fresh).mrkLines = s.mrkLines ∧ (s.fresh).fluxes = s.fluxes ∧
    (s.fresh).demods = s.demods ∧ (s.fresh).inputs = s.inputs ∧ (s.fresh).decMade = s.decMade ∧ (s.fresh).winResults = s.winResults ∧
    (s.fresh).jobsDue = s.jobsDue ∧ (s.fresh).partials = s.partials ∧ (s.fresh).acqs = s.acqs ∧ (s.fresh).admQueue = s.admQueue ∧
    (s.fresh).flitsOut = s.flitsOut ∧ (s.fresh).localFires = s.localFires ∧ (s.fresh).armHeld = s.armHeld ∧ (s.fresh).kerns = s.kerns ∧
    (s.fresh).convs = s.convs ∧ (s.fresh).fuses = s.fuses ∧ (s.fresh).fuseJob = s.fuseJob ∧ (s.fresh).selfCal = s.selfCal ∧ (s.fresh).twWait = s.twWait ∧
    (s.fresh).time = s.time ∧ (s.fresh).meshPorts = s.meshPorts ∧ (s.fresh).groupSeen = s.groupSeen ∧ (s.fresh).rings = s.rings ∧
    (s.fresh).cmdSeq = s.cmdSeq ∧ (s.fresh).ringTurn = s.ringTurn ∧ (s.fresh).noticesLost = s.noticesLost ∧ (s.fresh).hostWrite = s.hostWrite ∧
    (s.fresh).lanes = s.lanes ∧ (s.fresh).mbxs = s.mbxs ∧ (s.fresh).evtChs = s.evtChs ∧ (s.fresh).firings = s.firings ∧
    (s.fresh).groupTasks = s.groupTasks ∧ (s.fresh).evtOuts = s.evtOuts ∧ (s.fresh).evtIns = s.evtIns ∧ (s.fresh).tmrs = s.tmrs ∧
    (s.fresh).mcoreIrq = s.mcoreIrq ∧ (s.fresh).twin = s.twin ∧ (s.fresh).logs = s.logs ∧ (s.fresh).logWait = s.logWait ∧
    (s.fresh).twinBias = s.twinBias ∧ (s.fresh).mirrored = s.mirrored ∧ (s.fresh).therm = s.therm ∧ (s.fresh).gov = s.gov ∧ (s.fresh).mon = s.mon ∧
    (s.fresh).idleSince = s.idleSince ∧ (s.fresh).reacts = s.reacts ∧ (s.fresh).logSeq = s.logSeq ∧ (s.fresh).errUntil = s.errUntil ∧
    (s.fresh).errPin = s.errPin ∧ (s.fresh).recorder = s.recorder ∧ (s.fresh).recSlots = s.recSlots ∧ (s.fresh).life = s.life ∧
    (s.fresh).lifeShadow = s.lifeShadow ∧ (s.fresh).lifeCopies = s.lifeCopies ∧ (s.fresh).lifeSave = s.lifeSave ∧ (s.fresh).lifeNext = s.lifeNext ∧
    (s.fresh).lastSave = s.lastSave ∧ (s.fresh).flash = s.flash ∧ (s.fresh).sys = s.sys ∧ (s.fresh).tap = s.tap :=
  by repeat (first | exact rfl | refine ⟨rfl, ?_⟩)

@[simp] theorem State.pulse_frame (s : State) (n : Nat) :
    (s.pulse n).pending = s.pending ∧ (s.pulse n).tick = s.tick ∧ (s.pulse n).freeCtr = s.freeCtr ∧ (s.pulse n).regs = s.regs ∧
    (s.pulse n).wide = s.wide ∧ (s.pulse n).raised = s.raised ∧ (s.pulse n).faultLog = s.faultLog ∧ (s.pulse n).holdOn = s.holdOn ∧
    (s.pulse n).answered = s.answered ∧ (s.pulse n).ucScrub = s.ucScrub ∧ (s.pulse n).govMon = s.govMon ∧ (s.pulse n).pilots = s.pilots ∧
    (s.pulse n).pounds = s.pounds ∧ (s.pulse n).pm = s.pm ∧ (s.pulse n).ledgers = s.ledgers ∧ (s.pulse n).locks = s.locks ∧ (s.pulse n).ctxs = s.ctxs ∧
    (s.pulse n).outs = s.outs ∧ (s.pulse n).xbarWait = s.xbarWait ∧ (s.pulse n).xbarQueue = s.xbarQueue ∧ (s.pulse n).xbarServed = s.xbarServed ∧
    (s.pulse n).owed = s.owed ∧ (s.pulse n).lastEntry = s.lastEntry ∧ (s.pulse n).paths = s.paths ∧ (s.pulse n).muteds = s.muteds ∧
    (s.pulse n).fetches = s.fetches ∧ (s.pulse n).synOrigin = s.synOrigin ∧ (s.pulse n).maxPlays = s.maxPlays ∧ (s.pulse n).sdram = s.sdram ∧
    (s.pulse n).basinNext = s.basinNext ∧ (s.pulse n).sbufs = s.sbufs ∧ (s.pulse n).segs = s.segs ∧ (s.pulse n).mrkPins = s.mrkPins ∧
    (s.pulse n).mrkLines = s.mrkLines ∧ (s.pulse n).fluxes = s.fluxes ∧ (s.pulse n).demods = s.demods ∧ (s.pulse n).inputs = s.inputs ∧
    (s.pulse n).decMade = s.decMade ∧ (s.pulse n).winResults = s.winResults ∧ (s.pulse n).jobsDue = s.jobsDue ∧ (s.pulse n).partials = s.partials ∧
    (s.pulse n).acqs = s.acqs ∧ (s.pulse n).admQueue = s.admQueue ∧ (s.pulse n).flitsOut = s.flitsOut ∧ (s.pulse n).localFires = s.localFires ∧
    (s.pulse n).armHeld = s.armHeld ∧ (s.pulse n).kerns = s.kerns ∧ (s.pulse n).convs = s.convs ∧ (s.pulse n).fuses = s.fuses ∧
    (s.pulse n).fuseJob = s.fuseJob ∧ (s.pulse n).selfCal = s.selfCal ∧ (s.pulse n).twWait = s.twWait ∧ (s.pulse n).time = s.time ∧
    (s.pulse n).meshPorts = s.meshPorts ∧ (s.pulse n).groupSeen = s.groupSeen ∧ (s.pulse n).rings = s.rings ∧ (s.pulse n).cmdSeq = s.cmdSeq ∧
    (s.pulse n).ringTurn = s.ringTurn ∧ (s.pulse n).noticesLost = s.noticesLost ∧ (s.pulse n).hostWrite = s.hostWrite ∧ (s.pulse n).lanes = s.lanes ∧
    (s.pulse n).mbxs = s.mbxs ∧ (s.pulse n).evtChs = s.evtChs ∧ (s.pulse n).firings = s.firings ∧ (s.pulse n).groupTasks = s.groupTasks ∧
    (s.pulse n).evtOuts = s.evtOuts ∧ (s.pulse n).evtIns = s.evtIns ∧ (s.pulse n).tmrs = s.tmrs ∧ (s.pulse n).mcoreIrq = s.mcoreIrq ∧
    (s.pulse n).twin = s.twin ∧ (s.pulse n).logs = s.logs ∧ (s.pulse n).logWait = s.logWait ∧ (s.pulse n).twinBias = s.twinBias ∧
    (s.pulse n).mirrored = s.mirrored ∧ (s.pulse n).therm = s.therm ∧ (s.pulse n).gov = s.gov ∧ (s.pulse n).mon = s.mon ∧
    (s.pulse n).idleSince = s.idleSince ∧ (s.pulse n).reacts = s.reacts ∧ (s.pulse n).logSeq = s.logSeq ∧ (s.pulse n).errUntil = s.errUntil ∧
    (s.pulse n).errPin = s.errPin ∧ (s.pulse n).recorder = s.recorder ∧ (s.pulse n).recSlots = s.recSlots ∧ (s.pulse n).life = s.life ∧
    (s.pulse n).lifeShadow = s.lifeShadow ∧ (s.pulse n).lifeCopies = s.lifeCopies ∧ (s.pulse n).lifeSave = s.lifeSave ∧
    (s.pulse n).lifeNext = s.lifeNext ∧ (s.pulse n).lastSave = s.lastSave ∧ (s.pulse n).flash = s.flash ∧ (s.pulse n).sys = s.sys ∧
    (s.pulse n).tap = s.tap :=
  by repeat (first | exact rfl | refine ⟨rfl, ?_⟩)

@[simp] theorem State.answer_frame (s : State) (w : Word) :
    (s.answer w).pending = s.pending ∧ (s.answer w).tick = s.tick ∧ (s.answer w).freeCtr = s.freeCtr ∧ (s.answer w).regs = s.regs ∧
    (s.answer w).wide = s.wide ∧ (s.answer w).raised = s.raised ∧ (s.answer w).faultLog = s.faultLog ∧ (s.answer w).pulses = s.pulses ∧
    (s.answer w).holdOn = s.holdOn ∧ (s.answer w).ucScrub = s.ucScrub ∧ (s.answer w).govMon = s.govMon ∧ (s.answer w).pilots = s.pilots ∧
    (s.answer w).pounds = s.pounds ∧ (s.answer w).pm = s.pm ∧ (s.answer w).ledgers = s.ledgers ∧ (s.answer w).locks = s.locks ∧
    (s.answer w).ctxs = s.ctxs ∧ (s.answer w).outs = s.outs ∧ (s.answer w).xbarWait = s.xbarWait ∧ (s.answer w).xbarQueue = s.xbarQueue ∧
    (s.answer w).xbarServed = s.xbarServed ∧ (s.answer w).owed = s.owed ∧ (s.answer w).lastEntry = s.lastEntry ∧ (s.answer w).paths = s.paths ∧
    (s.answer w).muteds = s.muteds ∧ (s.answer w).fetches = s.fetches ∧ (s.answer w).synOrigin = s.synOrigin ∧ (s.answer w).maxPlays = s.maxPlays ∧
    (s.answer w).sdram = s.sdram ∧ (s.answer w).basinNext = s.basinNext ∧ (s.answer w).sbufs = s.sbufs ∧ (s.answer w).segs = s.segs ∧
    (s.answer w).mrkPins = s.mrkPins ∧ (s.answer w).mrkLines = s.mrkLines ∧ (s.answer w).fluxes = s.fluxes ∧ (s.answer w).demods = s.demods ∧
    (s.answer w).inputs = s.inputs ∧ (s.answer w).decMade = s.decMade ∧ (s.answer w).winResults = s.winResults ∧ (s.answer w).jobsDue = s.jobsDue ∧
    (s.answer w).partials = s.partials ∧ (s.answer w).acqs = s.acqs ∧ (s.answer w).admQueue = s.admQueue ∧ (s.answer w).flitsOut = s.flitsOut ∧
    (s.answer w).localFires = s.localFires ∧ (s.answer w).armHeld = s.armHeld ∧ (s.answer w).kerns = s.kerns ∧ (s.answer w).convs = s.convs ∧
    (s.answer w).fuses = s.fuses ∧ (s.answer w).fuseJob = s.fuseJob ∧ (s.answer w).selfCal = s.selfCal ∧ (s.answer w).twWait = s.twWait ∧
    (s.answer w).time = s.time ∧ (s.answer w).meshPorts = s.meshPorts ∧ (s.answer w).groupSeen = s.groupSeen ∧ (s.answer w).rings = s.rings ∧
    (s.answer w).cmdSeq = s.cmdSeq ∧ (s.answer w).ringTurn = s.ringTurn ∧ (s.answer w).noticesLost = s.noticesLost ∧
    (s.answer w).hostWrite = s.hostWrite ∧ (s.answer w).lanes = s.lanes ∧ (s.answer w).mbxs = s.mbxs ∧ (s.answer w).evtChs = s.evtChs ∧
    (s.answer w).firings = s.firings ∧ (s.answer w).groupTasks = s.groupTasks ∧ (s.answer w).evtOuts = s.evtOuts ∧ (s.answer w).evtIns = s.evtIns ∧
    (s.answer w).tmrs = s.tmrs ∧ (s.answer w).mcoreIrq = s.mcoreIrq ∧ (s.answer w).twin = s.twin ∧ (s.answer w).logs = s.logs ∧
    (s.answer w).logWait = s.logWait ∧ (s.answer w).twinBias = s.twinBias ∧ (s.answer w).mirrored = s.mirrored ∧ (s.answer w).therm = s.therm ∧
    (s.answer w).gov = s.gov ∧ (s.answer w).mon = s.mon ∧ (s.answer w).idleSince = s.idleSince ∧ (s.answer w).reacts = s.reacts ∧
    (s.answer w).logSeq = s.logSeq ∧ (s.answer w).errUntil = s.errUntil ∧ (s.answer w).errPin = s.errPin ∧ (s.answer w).recorder = s.recorder ∧
    (s.answer w).recSlots = s.recSlots ∧ (s.answer w).life = s.life ∧ (s.answer w).lifeShadow = s.lifeShadow ∧ (s.answer w).lifeCopies = s.lifeCopies ∧
    (s.answer w).lifeSave = s.lifeSave ∧ (s.answer w).lifeNext = s.lifeNext ∧ (s.answer w).lastSave = s.lastSave ∧ (s.answer w).flash = s.flash ∧
    (s.answer w).sys = s.sys ∧ (s.answer w).tap = s.tap :=
  by repeat (first | exact rfl | refine ⟨rfl, ?_⟩)

@[simp] theorem State.wideVal_setWideVal (s : State) (j k : Nat) (v : BitVec 48) :
    (s.setWideVal j v).wideVal k = if k = j then v else s.wideVal k := Store.read_write ..
@[simp] theorem State.modWideVal_eq (s : State) (k : Nat) (f : (BitVec 48) → (BitVec 48)) : s.modWideVal k f = s.setWideVal k (f (s.wideVal k)) := rfl
@[simp] theorem State.pilot_setPilot (s : State) (j k : Nat) (v : Pilot) :
    (s.setPilot j v).pilot k = if k = j then v else s.pilot k := Store.read_write ..
@[simp] theorem State.modPilot_eq (s : State) (k : Nat) (f : Pilot → Pilot) : s.modPilot k f = s.setPilot k (f (s.pilot k)) := rfl
@[simp] theorem State.pound_setPound (s : State) (j k : Nat) (v : List Order) :
    (s.setPound j v).pound k = if k = j then v else s.pound k := Store.read_write ..
@[simp] theorem State.modPound_eq (s : State) (k : Nat) (f : (List Order) → (List Order)) : s.modPound k f = s.setPound k (f (s.pound k)) := rfl
@[simp] theorem State.progWord_setProgWord (s : State) (j k : Nat) (v : Word) :
    (s.setProgWord j v).progWord k = if k = j then v else s.progWord k := Store.read_write ..
@[simp] theorem State.modProgWord_eq (s : State) (k : Nat) (f : Word → Word) : s.modProgWord k f = s.setProgWord k (f (s.progWord k)) := rfl
@[simp] theorem State.ledger_setLedger (s : State) (j k : Nat) (v : Ledger) :
    (s.setLedger j v).ledger k = if k = j then v else s.ledger k := Store.read_write ..
@[simp] theorem State.modLedger_eq (s : State) (k : Nat) (f : Ledger → Ledger) : s.modLedger k f = s.setLedger k (f (s.ledger k)) := rfl
@[simp] theorem State.lockLane_setLockLane (s : State) (j k : Nat) (v : LockLane) :
    (s.setLockLane j v).lockLane k = if k = j then v else s.lockLane k := Store.read_write ..
@[simp] theorem State.modLockLane_eq (s : State) (k : Nat) (f : LockLane → LockLane) : s.modLockLane k f = s.setLockLane k (f (s.lockLane k)) := rfl
@[simp] theorem State.ctx_setCtx (s : State) (j k : Nat) (v : Ctx) :
    (s.setCtx j v).ctx k = if k = j then v else s.ctx k := Store.read_write ..
@[simp] theorem State.modCtx_eq (s : State) (k : Nat) (f : Ctx → Ctx) : s.modCtx k f = s.setCtx k (f (s.ctx k)) := rfl
@[simp] theorem State.outPin_setOutPin (s : State) (j k : Nat) (v : List Int) :
    (s.setOutPin j v).outPin k = if k = j then v else s.outPin k := Store.read_write ..
@[simp] theorem State.modOutPin_eq (s : State) (k : Nat) (f : (List Int) → (List Int)) : s.modOutPin k f = s.setOutPin k (f (s.outPin k)) := rfl
@[simp] theorem State.lastEntryOf_setLastEntryOf (s : State) (j k : Nat) (v : Option Tick) :
    (s.setLastEntryOf j v).lastEntryOf k = if k = j then v else s.lastEntryOf k := Store.read_write ..
@[simp] theorem State.modLastEntryOf_eq (s : State) (k : Nat) (f : (Option Tick) → (Option Tick)) : s.modLastEntryOf k f = s.setLastEntryOf k (f (s.lastEntryOf k)) := rfl
@[simp] theorem State.path_setPath (s : State) (j k : Nat) (v : PathLane) :
    (s.setPath j v).path k = if k = j then v else s.path k := Store.read_write ..
@[simp] theorem State.modPath_eq (s : State) (k : Nat) (f : PathLane → PathLane) : s.modPath k f = s.setPath k (f (s.path k)) := rfl
@[simp] theorem State.muted_setMuted (s : State) (j k : Nat) (v : List Muted) :
    (s.setMuted j v).muted k = if k = j then v else s.muted k := Store.read_write ..
@[simp] theorem State.modMuted_eq (s : State) (k : Nat) (f : (List Muted) → (List Muted)) : s.modMuted k f = s.setMuted k (f (s.muted k)) := rfl
@[simp] theorem State.prefetch_setPrefetch (s : State) (j k : Nat) (v : List Fetch) :
    (s.setPrefetch j v).prefetch k = if k = j then v else s.prefetch k := Store.read_write ..
@[simp] theorem State.modPrefetch_eq (s : State) (k : Nat) (f : (List Fetch) → (List Fetch)) : s.modPrefetch k f = s.setPrefetch k (f (s.prefetch k)) := rfl
@[simp] theorem State.sbufCnt_setSbufCnt (s : State) (j k : Nat) (v : Nat × Nat) :
    (s.setSbufCnt j v).sbufCnt k = if k = j then v else s.sbufCnt k := Store.read_write ..
@[simp] theorem State.modSbufCnt_eq (s : State) (k : Nat) (f : (Nat × Nat) → (Nat × Nat)) : s.modSbufCnt k f = s.setSbufCnt k (f (s.sbufCnt k)) := rfl
@[simp] theorem State.seg_setSeg (s : State) (j k : Nat) (v : BitVec 128) :
    (s.setSeg j v).seg k = if k = j then v else s.seg k := Store.read_write ..
@[simp] theorem State.modSeg_eq (s : State) (k : Nat) (f : (BitVec 128) → (BitVec 128)) : s.modSeg k f = s.setSeg k (f (s.seg k)) := rfl
@[simp] theorem State.mrkPin_setMrkPin (s : State) (j k : Nat) (v : MrkPin) :
    (s.setMrkPin j v).mrkPin k = if k = j then v else s.mrkPin k := Store.read_write ..
@[simp] theorem State.modMrkPin_eq (s : State) (k : Nat) (f : MrkPin → MrkPin) : s.modMrkPin k f = s.setMrkPin k (f (s.mrkPin k)) := rfl
@[simp] theorem State.mrkLine_setMrkLine (s : State) (j k : Nat) (v : BitVec 4) :
    (s.setMrkLine j v).mrkLine k = if k = j then v else s.mrkLine k := Store.read_write ..
@[simp] theorem State.modMrkLine_eq (s : State) (k : Nat) (f : (BitVec 4) → (BitVec 4)) : s.modMrkLine k f = s.setMrkLine k (f (s.mrkLine k)) := rfl
@[simp] theorem State.fluxLine_setFluxLine (s : State) (j k : Nat) (v : FluxLine) :
    (s.setFluxLine j v).fluxLine k = if k = j then v else s.fluxLine k := Store.read_write ..
@[simp] theorem State.modFluxLine_eq (s : State) (k : Nat) (f : FluxLine → FluxLine) : s.modFluxLine k f = s.setFluxLine k (f (s.fluxLine k)) := rfl
@[simp] theorem State.demod_setDemod (s : State) (j k : Nat) (v : Demod) :
    (s.setDemod j v).demod k = if k = j then v else s.demod k := Store.read_write ..
@[simp] theorem State.modDemod_eq (s : State) (k : Nat) (f : Demod → Demod) : s.modDemod k f = s.setDemod k (f (s.demod k)) := rfl
@[simp] theorem State.inp_setInp (s : State) (j k : Nat) (v : Input) :
    (s.setInp j v).inp k = if k = j then v else s.inp k := Store.read_write ..
@[simp] theorem State.modInp_eq (s : State) (k : Nat) (f : Input → Input) : s.modInp k f = s.setInp k (f (s.inp k)) := rfl
@[simp] theorem State.acq_setAcq (s : State) (j k : Nat) (v : Acq) :
    (s.setAcq j v).acq k = if k = j then v else s.acq k := Store.read_write ..
@[simp] theorem State.modAcq_eq (s : State) (k : Nat) (f : Acq → Acq) : s.modAcq k f = s.setAcq k (f (s.acq k)) := rfl
@[simp] theorem State.kern_setKern (s : State) (j k : Nat) (v : Kern) :
    (s.setKern j v).kern k = if k = j then v else s.kern k := Store.read_write ..
@[simp] theorem State.modKern_eq (s : State) (k : Nat) (f : Kern → Kern) : s.modKern k f = s.setKern k (f (s.kern k)) := rfl
@[simp] theorem State.conv_setConv (s : State) (j k : Nat) (v : Conv) :
    (s.setConv j v).conv k = if k = j then v else s.conv k := Store.read_write ..
@[simp] theorem State.modConv_eq (s : State) (k : Nat) (f : Conv → Conv) : s.modConv k f = s.setConv k (f (s.conv k)) := rfl
@[simp] theorem State.meshPort_setMeshPort (s : State) (j k : Nat) (v : MeshPort) :
    (s.setMeshPort j v).meshPort k = if k = j then v else s.meshPort k := Store.read_write ..
@[simp] theorem State.modMeshPort_eq (s : State) (k : Nat) (f : MeshPort → MeshPort) : s.modMeshPort k f = s.setMeshPort k (f (s.meshPort k)) := rfl
@[simp] theorem State.ring_setRing (s : State) (j k : Nat) (v : Ring) :
    (s.setRing j v).ring k = if k = j then v else s.ring k := Store.read_write ..
@[simp] theorem State.modRing_eq (s : State) (k : Nat) (f : Ring → Ring) : s.modRing k f = s.setRing k (f (s.ring k)) := rfl
@[simp] theorem State.lane_setLane (s : State) (j k : Nat) (v : Lane) :
    (s.setLane j v).lane k = if k = j then v else s.lane k := Store.read_write ..
@[simp] theorem State.modLane_eq (s : State) (k : Nat) (f : Lane → Lane) : s.modLane k f = s.setLane k (f (s.lane k)) := rfl
@[simp] theorem State.mbx_setMbx (s : State) (j k : Nat) (v : Option MbxPost) :
    (s.setMbx j v).mbx k = if k = j then v else s.mbx k := Store.read_write ..
@[simp] theorem State.modMbx_eq (s : State) (k : Nat) (f : (Option MbxPost) → (Option MbxPost)) : s.modMbx k f = s.setMbx k (f (s.mbx k)) := rfl
@[simp] theorem State.evtCh_setEvtCh (s : State) (j k : Nat) (v : EvtCh) :
    (s.setEvtCh j v).evtCh k = if k = j then v else s.evtCh k := Store.read_write ..
@[simp] theorem State.modEvtCh_eq (s : State) (k : Nat) (f : EvtCh → EvtCh) : s.modEvtCh k f = s.setEvtCh k (f (s.evtCh k)) := rfl
@[simp] theorem State.evtOut_setEvtOut (s : State) (j k : Nat) (v : Option (Tick × Tick)) :
    (s.setEvtOut j v).evtOut k = if k = j then v else s.evtOut k := Store.read_write ..
@[simp] theorem State.modEvtOut_eq (s : State) (k : Nat) (f : (Option (Tick × Tick)) → (Option (Tick × Tick))) : s.modEvtOut k f = s.setEvtOut k (f (s.evtOut k)) := rfl
@[simp] theorem State.evtIn_setEvtIn (s : State) (j k : Nat) (v : Option Bool) :
    (s.setEvtIn j v).evtIn k = if k = j then v else s.evtIn k := Store.read_write ..
@[simp] theorem State.modEvtIn_eq (s : State) (k : Nat) (f : (Option Bool) → (Option Bool)) : s.modEvtIn k f = s.setEvtIn k (f (s.evtIn k)) := rfl
@[simp] theorem State.tmr_setTmr (s : State) (j k : Nat) (v : BitVec 48 × Tick) :
    (s.setTmr j v).tmr k = if k = j then v else s.tmr k := Store.read_write ..
@[simp] theorem State.modTmr_eq (s : State) (k : Nat) (f : (BitVec 48 × Tick) → (BitVec 48 × Tick)) : s.modTmr k f = s.setTmr k (f (s.tmr k)) := rfl
@[simp] theorem State.log_setLog (s : State) (j k : Nat) (v : List (BitVec 3 × BitVec 48)) :
    (s.setLog j v).log k = if k = j then v else s.log k := Store.read_write ..
@[simp] theorem State.modLog_eq (s : State) (k : Nat) (f : (List (BitVec 3 × BitVec 48)) → (List (BitVec 3 × BitVec 48))) : s.modLog k f = s.setLog k (f (s.log k)) := rfl
@[simp] theorem State.logStall_setLogStall (s : State) (j k : Nat) (v : Option Tick) :
    (s.setLogStall j v).logStall k = if k = j then v else s.logStall k := Store.read_write ..
@[simp] theorem State.modLogStall_eq (s : State) (k : Nat) (f : (Option Tick) → (Option Tick)) : s.modLogStall k f = s.setLogStall k (f (s.logStall k)) := rfl
@[simp] theorem State.mirrorLedger_setMirrorLedger (s : State) (j k : Nat) (v : List Word) :
    (s.setMirrorLedger j v).mirrorLedger k = if k = j then v else s.mirrorLedger k := Store.read_write ..
@[simp] theorem State.modMirrorLedger_eq (s : State) (k : Nat) (f : (List Word) → (List Word)) : s.modMirrorLedger k f = s.setMirrorLedger k (f (s.mirrorLedger k)) := rfl
@[simp] theorem State.recSlot_setRecSlot (s : State) (j k : Nat) (v : Option Rec) :
    (s.setRecSlot j v).recSlot k = if k = j then v else s.recSlot k := Store.read_write ..
@[simp] theorem State.modRecSlot_eq (s : State) (k : Nat) (f : (Option Rec) → (Option Rec)) : s.modRecSlot k f = s.setRecSlot k (f (s.recSlot k)) := rfl
@[simp] theorem State.lifeWord_setLifeWord (s : State) (j k : Nat) (v : Word) :
    (s.setLifeWord j v).lifeWord k = if k = j then v else s.lifeWord k := Store.read_write ..
@[simp] theorem State.modLifeWord_eq (s : State) (k : Nat) (f : Word → Word) : s.modLifeWord k f = s.setLifeWord k (f (s.lifeWord k)) := rfl
@[simp] theorem State.shadowWord_setShadowWord (s : State) (j k : Nat) (v : Word) :
    (s.setShadowWord j v).shadowWord k = if k = j then v else s.shadowWord k := Store.read_write ..
@[simp] theorem State.modShadowWord_eq (s : State) (k : Nat) (f : Word → Word) : s.modShadowWord k f = s.setShadowWord k (f (s.shadowWord k)) := rfl
@[simp] theorem State.lifeCopy_setLifeCopy (s : State) (j k : Nat) (v : Option (Nat × Store Word)) :
    (s.setLifeCopy j v).lifeCopy k = if k = j then v else s.lifeCopy k := Store.read_write ..
@[simp] theorem State.modLifeCopy_eq (s : State) (k : Nat) (f : (Option (Nat × Store Word)) → (Option (Nat × Store Word))) : s.modLifeCopy k f = s.setLifeCopy k (f (s.lifeCopy k)) := rfl
@[simp] theorem State.flashByte_setFlashByte (s : State) (j k : Nat) (v : BitVec 8) :
    (s.setFlashByte j v).flashByte k = if k = j then v else s.flashByte k := Store.read_write ..
@[simp] theorem State.modFlashByte_eq (s : State) (k : Nat) (f : (BitVec 8) → (BitVec 8)) : s.modFlashByte k f = s.setFlashByte k (f (s.flashByte k)) := rfl

end Sys2Proof.Machine
end

