-- ==== Sys2Proof/Laws/Execute.lean ====
section
/-! SUPPORT. What the shared operations of the pilot and of a kernel engine do when their instruction executes, and the closed forms
of saturation and narrowing: cite these instead of unfolding the operations. -/

namespace Sys2Proof.Machine

/-- A pilot command whose instruction executes: its body on the pilot, or nothing where the word at the PC is another instruction. -/
theorem State.pilotDo_executes {s : State} {b : Nat} {i : PInstr} {n : Nat} (h : s.executes b i n)
    (body : PInstr → Option (Pilot → Nat → State → State)) :
    s.pilotDo b body = match body i with | none => s | some f => f (s.pilot b) n s := by
  obtain ⟨h1, h2, h3, h4⟩ := h
  unfold State.pilotDo
  simp only [h1, h2, h3]
  cases body i with
  | none => rfl
  | some f =>
    cases hs : (s.pilot b).stages with
    | nil => simp
    | cons g t => simp [h4 g t hs]

/-- A pilot that may emit holds its order, and coverage resumes with it. -/
theorem State.emit_may (s : State) (b : Nat) (p : Pilot) (k : OrdKind) (h : p.mayEmit) :
    s.emit b p k = (s.coverFrom b p, p.holding k) := by
  unfold State.emit
  split
  · next hs => simp [State.coverFrom, Pilot.holding, Pilot.orderAt, hs]
  · next g t hs =>
    have hl := h g t hs
    rw [if_neg (by rw [hl]; decide)]
    simp [State.coverFrom, Pilot.holding, Pilot.orderAt, hs]

/-- The repeat level that ends elsewhere stays. -/
theorem repEnd_other {l : List RepLevel} {a : BitVec 14} (h : ∀ x t, l = x :: t → x.last ≠ a) : repEnd l a = (l, none) := by
  cases l with
  | nil => rfl
  | cons x t => simp [repEnd, h x t rfl]

/-- A kernel command whose instruction is at the PC: every way its body may answer. -/
theorem State.kernDo_at {s : State} {n : Nat} {w : Word} (h : s.kernAt n w) (op : Nat) (hop : w.toNat / 2 ^ 26 = op)
    (hk : kernOps.contains op = true) (body : Word → Kern → State → KRes) :
    s.kernDo n false op body = match body w (s.kern n) s with
      | .illegal => s.kernFault n Src.KRN_ILLEGAL 1 (s.kern n).pc
      | .stack => s.kernFault n Src.KRN_STACK 2 (s.kern n).pc
      | .ok k s' =>
        ((s'.setKern n { k.advance (s.kern n).pc with vis := (s.kern n).full, lastPc := (s.kern n).pc }).kernLeave n).showKern n
      | .branch k s' dest =>
        ((s'.setKern n { k with pc := (s.kern n).pc + 1, slots := 2, dest := dest, vis := (s.kern n).full,
                                lastPc := (s.kern n).pc }).kernLeave n).showKern n
      | .goto k s' pc =>
        (((s'.setKern n { k.leaveSlot { k with pc := pc } with vis := (s.kern n).full, lastPc := (s.kern n).pc }).kernLeave n).showKern
          n).modKern n (fun k => { k with vis := k.full }) := by
  obtain ⟨h1, h2, h3, h4⟩ := h
  have h5 : (kernBranch (w.toNat / 2 ^ 26) && (s.kern n).slots != 0) = false := by
    cases hb : kernBranch (w.toNat / 2 ^ 26) with
    | false => rfl
    | true => simp [h4 hb]
  subst hop
  unfold State.kernDo
  simp only [h1, h2, h3, hk, h5]
  cases body w (s.kern n) s <;> simp

/-- Saturation to 48 bits happens exactly out of range. -/
theorem satFlag48 (v : Int) : satFlag 48 v = (decide (v < -2 ^ 47) || decide (2 ^ 47 ≤ v)) := by
  rw [Bool.eq_iff_iff]
  simp only [satFlag, satInt, Bool.or_eq_true, decide_eq_true_eq]
  norm_num
  omega

/-- Narrowing to 18 bits: shift with rounding half up, then wrap or saturate (R212). -/
theorem narrow18_eq (a : BitVec 48) (sh : Nat) (sat : Bool) : narrow18 a sh sat =
    let r : Int := if sh = 0 then a.toInt else (a.toInt + 2 ^ (sh - 1)) / 2 ^ sh
    ((if sat = true ∧ r < -131072 then 0x20000 else if sat = true ∧ 131071 < r then 0x1FFFF else BitVec.ofInt 18 r),
      sat && (decide (r < -131072) || decide (131071 < r))) := by
  simp only [narrow18, roundShift]
  generalize (if sh = 0 then a.toInt else (a.toInt + 2 ^ (sh - 1)) / 2 ^ sh) = r
  cases sat
  · simp
  · by_cases h1 : r < -131072
    · have : satInt 18 r = -131072 := by simp [satInt]; omega
      simp [h1, satFlag, this]; omega
    · by_cases h2 : 131071 < r
      · have : satInt 18 r = 131071 := by simp [satInt]; omega
        simp [h1, h2, satFlag, this]; omega
      · have : satInt 18 r = r := by simp [satInt]; omega
        simp [h1, h2, satFlag, this]

end Sys2Proof.Machine
end

