-- ==== Sys2Proof/Laws/Keeps.lean ====
section
/-! SUPPORT. The named operations keep every store in canonical form. -/

namespace Sys2Proof.Machine

theorem State.when_canonical {s : State} (h : s.Canonical) (c : Bool) {f : State → State} (hf : s.Canonical → (f s).Canonical) :
    (s.when c f).Canonical := by
  cases c
  · exact h
  · exact hf h

theorem State.each_canonical {α : Type} {s : State} (h : s.Canonical) (l : List α) {f : State → α → State}
    (hf : ∀ s a, s.Canonical → (f s a).Canonical) : (s.each l f).Canonical := by
  induction l generalizing s with
  | nil => exact h
  | cons a l ih => exact ih (hf s a h)

theorem State.wr_canonical {s : State} (h : s.Canonical) (a : Nat) (w : Word) : (s.wr a w).Canonical :=
  { h with regs := Store.wf_write _ h.regs a w }

theorem State.set_canonical {s : State} (h : s.Canonical) (f : Rf) (v : Nat) : (s.set f v).Canonical := State.wr_canonical h _ _

theorem State.setBit_canonical {s : State} (h : s.Canonical) (f : Rf) (b : Bool) : (s.setBit f b).Canonical :=
  State.set_canonical h _ _

theorem State.bump_canonical {s : State} (h : s.Canonical) (f : Rf) (n : Nat) : (s.bump f n).Canonical := State.set_canonical h _ _

theorem State.setPair_canonical {s : State} (h : s.Canonical) (a : Nat) (v : BitVec 48) : (s.setPair a v).Canonical :=
  State.wr_canonical (State.wr_canonical h _ _) _ _

theorem State.lower_canonical {s : State} (h : s.Canonical) (f : Rf) (v : Int) : (s.lower f v).Canonical := by
  simp only [State.lower]
  split
  · exact State.set_canonical h _ _
  · exact h

theorem State.latchHi_canonical {s : State} (h : s.Canonical) (a : Nat) : (s.latchHi a).Canonical := State.wr_canonical h _ _

theorem State.fresh_canonical {s : State} (h : s.Canonical) : s.fresh.Canonical := { h with }
theorem State.pulse_canonical {s : State} (h : s.Canonical) (p : Nat) : (s.pulse p).Canonical := { h with }
theorem State.answer_canonical {s : State} (h : s.Canonical) (w : Word) : (s.answer w).Canonical := { h with }

theorem State.raise_canonical {s : State} (h : s.Canonical) (src : Nat) (l : List Nat) : (s.raise src l).Canonical := by
  simp only [State.raise]
  split
  · exact h
  · exact { h with }

theorem State.monitor_canonical {s : State} (h : s.Canonical) (id : Nat) (b : Bool) : (s.monitor id b).Canonical := by
  have hm := Store.wf_write (fun _ => false) h.govMon id b
  simp only [State.monitor]
  apply State.setBit_canonical
  split
  · exact { h with govMon := hm }
  · exact { h with govMon := hm }

theorem State.setWideVal_canonical {s : State} (h : s.Canonical) (k : Nat) (v : BitVec 48) : (s.setWideVal k v).Canonical :=
  { h with wide := Store.wf_write _ h.wide k v }

theorem State.modWideVal_canonical {s : State} (h : s.Canonical) (k : Nat) (g : BitVec 48 → BitVec 48) : (s.modWideVal k g).Canonical :=
  State.setWideVal_canonical h _ _

theorem State.setPilot_canonical {s : State} (h : s.Canonical) (k : Nat) (v : Pilot) : (s.setPilot k v).Canonical :=
  { h with pilots := Store.wf_write _ h.pilots k v }

theorem State.modPilot_canonical {s : State} (h : s.Canonical) (k : Nat) (g : Pilot → Pilot) : (s.modPilot k g).Canonical :=
  State.setPilot_canonical h _ _

theorem State.setPound_canonical {s : State} (h : s.Canonical) (k : Nat) (v : List Order) : (s.setPound k v).Canonical :=
  { h with pounds := Store.wf_write _ h.pounds k v }

theorem State.modPound_canonical {s : State} (h : s.Canonical) (k : Nat) (g : List Order → List Order) : (s.modPound k g).Canonical :=
  State.setPound_canonical h _ _

theorem State.setProgWord_canonical {s : State} (h : s.Canonical) (k : Nat) (v : Word) : (s.setProgWord k v).Canonical :=
  { h with pm := Store.wf_write _ h.pm k v }

theorem State.modProgWord_canonical {s : State} (h : s.Canonical) (k : Nat) (g : Word → Word) : (s.modProgWord k g).Canonical :=
  State.setProgWord_canonical h _ _

theorem State.setLedger_canonical {s : State} (h : s.Canonical) (k : Nat) (v : Ledger) : (s.setLedger k v).Canonical :=
  { h with ledgers := Store.wf_write _ h.ledgers k v }

theorem State.modLedger_canonical {s : State} (h : s.Canonical) (k : Nat) (g : Ledger → Ledger) : (s.modLedger k g).Canonical :=
  State.setLedger_canonical h _ _

theorem State.setLockLane_canonical {s : State} (h : s.Canonical) (k : Nat) (v : LockLane) : (s.setLockLane k v).Canonical :=
  { h with locks := Store.wf_write _ h.locks k v }

theorem State.modLockLane_canonical {s : State} (h : s.Canonical) (k : Nat) (g : LockLane → LockLane) : (s.modLockLane k g).Canonical :=
  State.setLockLane_canonical h _ _

theorem State.setCtx_canonical {s : State} (h : s.Canonical) (k : Nat) (v : Ctx) : (s.setCtx k v).Canonical :=
  { h with ctxs := Store.wf_write _ h.ctxs k v }

theorem State.modCtx_canonical {s : State} (h : s.Canonical) (k : Nat) (g : Ctx → Ctx) : (s.modCtx k g).Canonical :=
  State.setCtx_canonical h _ _

theorem State.setOutPin_canonical {s : State} (h : s.Canonical) (k : Nat) (v : List Int) : (s.setOutPin k v).Canonical :=
  { h with outs := Store.wf_write _ h.outs k v }

theorem State.modOutPin_canonical {s : State} (h : s.Canonical) (k : Nat) (g : List Int → List Int) : (s.modOutPin k g).Canonical :=
  State.setOutPin_canonical h _ _

theorem State.setLastEntryOf_canonical {s : State} (h : s.Canonical) (k : Nat) (v : Option Tick) : (s.setLastEntryOf k v).Canonical :=
  { h with lastEntry := Store.wf_write _ h.lastEntry k v }

theorem State.modLastEntryOf_canonical {s : State} (h : s.Canonical) (k : Nat) (g : Option Tick → Option Tick) : (s.modLastEntryOf k g).Canonical :=
  State.setLastEntryOf_canonical h _ _

theorem State.setPath_canonical {s : State} (h : s.Canonical) (k : Nat) (v : PathLane) : (s.setPath k v).Canonical :=
  { h with paths := Store.wf_write _ h.paths k v }

theorem State.modPath_canonical {s : State} (h : s.Canonical) (k : Nat) (g : PathLane → PathLane) : (s.modPath k g).Canonical :=
  State.setPath_canonical h _ _

theorem State.setMuted_canonical {s : State} (h : s.Canonical) (k : Nat) (v : List Muted) : (s.setMuted k v).Canonical :=
  { h with muteds := Store.wf_write _ h.muteds k v }

theorem State.modMuted_canonical {s : State} (h : s.Canonical) (k : Nat) (g : List Muted → List Muted) : (s.modMuted k g).Canonical :=
  State.setMuted_canonical h _ _

theorem State.setPrefetch_canonical {s : State} (h : s.Canonical) (k : Nat) (v : List Fetch) : (s.setPrefetch k v).Canonical :=
  { h with fetches := Store.wf_write _ h.fetches k v }

theorem State.modPrefetch_canonical {s : State} (h : s.Canonical) (k : Nat) (g : List Fetch → List Fetch) : (s.modPrefetch k g).Canonical :=
  State.setPrefetch_canonical h _ _

theorem State.setSbufCnt_canonical {s : State} (h : s.Canonical) (k : Nat) (v : Nat × Nat) : (s.setSbufCnt k v).Canonical :=
  { h with sbufs := Store.wf_write _ h.sbufs k v }

theorem State.modSbufCnt_canonical {s : State} (h : s.Canonical) (k : Nat) (g : Nat × Nat → Nat × Nat) : (s.modSbufCnt k g).Canonical :=
  State.setSbufCnt_canonical h _ _

theorem State.setSeg_canonical {s : State} (h : s.Canonical) (k : Nat) (v : BitVec 128) : (s.setSeg k v).Canonical :=
  { h with segs := Store.wf_write _ h.segs k v }

theorem State.modSeg_canonical {s : State} (h : s.Canonical) (k : Nat) (g : BitVec 128 → BitVec 128) : (s.modSeg k g).Canonical :=
  State.setSeg_canonical h _ _

theorem State.setMrkPin_canonical {s : State} (h : s.Canonical) (k : Nat) (v : MrkPin) : (s.setMrkPin k v).Canonical :=
  { h with mrkPins := Store.wf_write _ h.mrkPins k v }

theorem State.modMrkPin_canonical {s : State} (h : s.Canonical) (k : Nat) (g : MrkPin → MrkPin) : (s.modMrkPin k g).Canonical :=
  State.setMrkPin_canonical h _ _

theorem State.setMrkLine_canonical {s : State} (h : s.Canonical) (k : Nat) (v : BitVec 4) : (s.setMrkLine k v).Canonical :=
  { h with mrkLines := Store.wf_write _ h.mrkLines k v }

theorem State.modMrkLine_canonical {s : State} (h : s.Canonical) (k : Nat) (g : BitVec 4 → BitVec 4) : (s.modMrkLine k g).Canonical :=
  State.setMrkLine_canonical h _ _

theorem State.setFluxLine_canonical {s : State} (h : s.Canonical) (k : Nat) (v : FluxLine) : (s.setFluxLine k v).Canonical :=
  { h with fluxes := Store.wf_write _ h.fluxes k v }

theorem State.modFluxLine_canonical {s : State} (h : s.Canonical) (k : Nat) (g : FluxLine → FluxLine) : (s.modFluxLine k g).Canonical :=
  State.setFluxLine_canonical h _ _

theorem State.setDemod_canonical {s : State} (h : s.Canonical) (k : Nat) (v : Demod) : (s.setDemod k v).Canonical :=
  { h with demods := Store.wf_write _ h.demods k v }

theorem State.modDemod_canonical {s : State} (h : s.Canonical) (k : Nat) (g : Demod → Demod) : (s.modDemod k g).Canonical :=
  State.setDemod_canonical h _ _

theorem State.setInp_canonical {s : State} (h : s.Canonical) (k : Nat) (v : Input) : (s.setInp k v).Canonical :=
  { h with inputs := Store.wf_write _ h.inputs k v }

theorem State.modInp_canonical {s : State} (h : s.Canonical) (k : Nat) (g : Input → Input) : (s.modInp k g).Canonical :=
  State.setInp_canonical h _ _

theorem State.setAcq_canonical {s : State} (h : s.Canonical) (k : Nat) (v : Acq) : (s.setAcq k v).Canonical :=
  { h with acqs := Store.wf_write _ h.acqs k v }

theorem State.modAcq_canonical {s : State} (h : s.Canonical) (k : Nat) (g : Acq → Acq) : (s.modAcq k g).Canonical :=
  State.setAcq_canonical h _ _

theorem State.setKern_canonical {s : State} (h : s.Canonical) (k : Nat) (v : Kern) : (s.setKern k v).Canonical :=
  { h with kerns := Store.wf_write _ h.kerns k v }

theorem State.modKern_canonical {s : State} (h : s.Canonical) (k : Nat) (g : Kern → Kern) : (s.modKern k g).Canonical :=
  State.setKern_canonical h _ _

theorem State.setConv_canonical {s : State} (h : s.Canonical) (k : Nat) (v : Conv) : (s.setConv k v).Canonical :=
  { h with convs := Store.wf_write _ h.convs k v }

theorem State.modConv_canonical {s : State} (h : s.Canonical) (k : Nat) (g : Conv → Conv) : (s.modConv k g).Canonical :=
  State.setConv_canonical h _ _

theorem State.setMeshPort_canonical {s : State} (h : s.Canonical) (k : Nat) (v : MeshPort) : (s.setMeshPort k v).Canonical :=
  { h with meshPorts := Store.wf_write _ h.meshPorts k v }

theorem State.modMeshPort_canonical {s : State} (h : s.Canonical) (k : Nat) (g : MeshPort → MeshPort) : (s.modMeshPort k g).Canonical :=
  State.setMeshPort_canonical h _ _

theorem State.setRing_canonical {s : State} (h : s.Canonical) (k : Nat) (v : Ring) : (s.setRing k v).Canonical :=
  { h with rings := Store.wf_write _ h.rings k v }

theorem State.modRing_canonical {s : State} (h : s.Canonical) (k : Nat) (g : Ring → Ring) : (s.modRing k g).Canonical :=
  State.setRing_canonical h _ _

theorem State.setLane_canonical {s : State} (h : s.Canonical) (k : Nat) (v : Lane) : (s.setLane k v).Canonical :=
  { h with lanes := Store.wf_write _ h.lanes k v }

theorem State.modLane_canonical {s : State} (h : s.Canonical) (k : Nat) (g : Lane → Lane) : (s.modLane k g).Canonical :=
  State.setLane_canonical h _ _

theorem State.setMbx_canonical {s : State} (h : s.Canonical) (k : Nat) (v : Option MbxPost) : (s.setMbx k v).Canonical :=
  { h with mbxs := Store.wf_write _ h.mbxs k v }

theorem State.modMbx_canonical {s : State} (h : s.Canonical) (k : Nat) (g : Option MbxPost → Option MbxPost) : (s.modMbx k g).Canonical :=
  State.setMbx_canonical h _ _

theorem State.setEvtCh_canonical {s : State} (h : s.Canonical) (k : Nat) (v : EvtCh) : (s.setEvtCh k v).Canonical :=
  { h with evtChs := Store.wf_write _ h.evtChs k v }

theorem State.modEvtCh_canonical {s : State} (h : s.Canonical) (k : Nat) (g : EvtCh → EvtCh) : (s.modEvtCh k g).Canonical :=
  State.setEvtCh_canonical h _ _

theorem State.setEvtOut_canonical {s : State} (h : s.Canonical) (k : Nat) (v : Option (Tick × Tick)) : (s.setEvtOut k v).Canonical :=
  { h with evtOuts := Store.wf_write _ h.evtOuts k v }

theorem State.modEvtOut_canonical {s : State} (h : s.Canonical) (k : Nat) (g : Option (Tick × Tick) → Option (Tick × Tick)) : (s.modEvtOut k g).Canonical :=
  State.setEvtOut_canonical h _ _

theorem State.setEvtIn_canonical {s : State} (h : s.Canonical) (k : Nat) (v : Option Bool) : (s.setEvtIn k v).Canonical :=
  { h with evtIns := Store.wf_write _ h.evtIns k v }

theorem State.modEvtIn_canonical {s : State} (h : s.Canonical) (k : Nat) (g : Option Bool → Option Bool) : (s.modEvtIn k g).Canonical :=
  State.setEvtIn_canonical h _ _

theorem State.setTmr_canonical {s : State} (h : s.Canonical) (k : Nat) (v : BitVec 48 × Tick) : (s.setTmr k v).Canonical :=
  { h with tmrs := Store.wf_write _ h.tmrs k v }

theorem State.modTmr_canonical {s : State} (h : s.Canonical) (k : Nat) (g : BitVec 48 × Tick → BitVec 48 × Tick) : (s.modTmr k g).Canonical :=
  State.setTmr_canonical h _ _

theorem State.setLog_canonical {s : State} (h : s.Canonical) (k : Nat) (v : List (BitVec 3 × BitVec 48)) : (s.setLog k v).Canonical :=
  { h with logs := Store.wf_write _ h.logs k v }

theorem State.modLog_canonical {s : State} (h : s.Canonical) (k : Nat) (g : List (BitVec 3 × BitVec 48) → List (BitVec 3 × BitVec 48)) : (s.modLog k g).Canonical :=
  State.setLog_canonical h _ _

theorem State.setLogStall_canonical {s : State} (h : s.Canonical) (k : Nat) (v : Option Tick) : (s.setLogStall k v).Canonical :=
  { h with logWait := Store.wf_write _ h.logWait k v }

theorem State.modLogStall_canonical {s : State} (h : s.Canonical) (k : Nat) (g : Option Tick → Option Tick) : (s.modLogStall k g).Canonical :=
  State.setLogStall_canonical h _ _

theorem State.setMirrorLedger_canonical {s : State} (h : s.Canonical) (k : Nat) (v : List Word) : (s.setMirrorLedger k v).Canonical :=
  { h with mirrored := Store.wf_write _ h.mirrored k v }

theorem State.modMirrorLedger_canonical {s : State} (h : s.Canonical) (k : Nat) (g : List Word → List Word) : (s.modMirrorLedger k g).Canonical :=
  State.setMirrorLedger_canonical h _ _

theorem State.setRecSlot_canonical {s : State} (h : s.Canonical) (k : Nat) (v : Option Rec) : (s.setRecSlot k v).Canonical :=
  { h with recSlots := Store.wf_write _ h.recSlots k v }

theorem State.modRecSlot_canonical {s : State} (h : s.Canonical) (k : Nat) (g : Option Rec → Option Rec) : (s.modRecSlot k g).Canonical :=
  State.setRecSlot_canonical h _ _

theorem State.setLifeWord_canonical {s : State} (h : s.Canonical) (k : Nat) (v : Word) : (s.setLifeWord k v).Canonical :=
  { h with life := Store.wf_write _ h.life k v }

theorem State.modLifeWord_canonical {s : State} (h : s.Canonical) (k : Nat) (g : Word → Word) : (s.modLifeWord k g).Canonical :=
  State.setLifeWord_canonical h _ _

theorem State.setShadowWord_canonical {s : State} (h : s.Canonical) (k : Nat) (v : Word) : (s.setShadowWord k v).Canonical :=
  { h with lifeShadow := Store.wf_write _ h.lifeShadow k v }

theorem State.modShadowWord_canonical {s : State} (h : s.Canonical) (k : Nat) (g : Word → Word) : (s.modShadowWord k g).Canonical :=
  State.setShadowWord_canonical h _ _

theorem State.setLifeCopy_canonical {s : State} (h : s.Canonical) (k : Nat) (v : Option (Nat × Store Word))
    (hv : ∀ c, v = some c → lifeWf c.2 = true) : (s.setLifeCopy k v).Canonical :=
  { h with
    lifeCopies := Store.wf_write _ h.lifeCopies k v
    copies := by
      intro p hp c hc
      have hp : p ∈ Store.write (fun _ => none) s.lifeCopies k v := hp
      by_cases hn : v = none
      · simp only [Store.write, hn, if_true] at hp
        exact h.copies p (List.mem_filter.mp hp).1 c hc
      · simp only [Store.write, hn, if_false] at hp
        rcases Store.mem_insert hp with rfl | hp
        · exact hv c hc
        · exact h.copies p (List.mem_filter.mp hp).1 c hc }

theorem State.setFlashByte_canonical {s : State} (h : s.Canonical) (k : Nat) (v : BitVec 8) : (s.setFlashByte k v).Canonical :=
  { h with flash := Store.wf_write _ h.flash k v }

theorem State.modFlashByte_canonical {s : State} (h : s.Canonical) (k : Nat) (g : BitVec 8 → BitVec 8) : (s.modFlashByte k g).Canonical :=
  State.setFlashByte_canonical h _ _

theorem State.capture_canonical {s : State} (h : s.Canonical) (a : Nat) (v : BitVec 48) : (s.capture a v).Canonical :=
  State.wr_canonical (State.setWideVal_canonical h _ _) _ _

theorem State.lifeBump_canonical {s : State} (h : s.Canonical) (i n : Nat) : (s.lifeBump i n).Canonical :=
  State.modLifeWord_canonical h _ _

theorem State.lifeMargin_canonical {s : State} (h : s.Canonical) (l : Nat) (v : Int) : (s.lifeMargin l v).Canonical := by
  simp only [State.lifeMargin]
  split
  · exact State.modLifeWord_canonical h _ _
  · exact h

theorem State.markPartial_canonical {s : State} (h : s.Canonical) (b cz : Nat) : (s.markPartial b cz).Canonical := by
  simp only [State.markPartial]
  split
  · exact State.setLedger_canonical h _ _
  · exact h

theorem State.abandon_canonical {s : State} (h : s.Canonical) (b cz : Nat) (u : Tick) : (s.abandon b cz u).Canonical := by
  simp only [State.abandon]
  split
  · exact h
  · exact State.setLedger_canonical h _ _

/-- Writing SDRAM keeps its canonical form (R124, R240). -/
theorem State.dramWrite_canonical {s : State} (h : s.Canonical) (a : Nat) (bs : List (BitVec 8)) :
    (s.dramWrite a bs).Canonical := { h with sdram := Store.wf_writeList _ h.sdram a bs }

/-- After reset SDRAM is in canonical form. -/
theorem State.reset_sdram_wf : Memory.wf State.reset.sdram = true := rfl

end Sys2Proof.Machine
end

