-- ==== Sys2Proof/WellFormed.lean ====
section
/-! DEFINITION. Which commands an event of the hardware can look like: the lists they carry have lengths the spec allows. -/

namespace Sys2Proof

/-- A fetch brings up to eight descriptors (R265). -/
def wfFetch (descs : List (BitVec 512)) : Bool := decide (descs.length ≤ 8)

/-- A MIRROR run carries up to 16 blocks of two words (R338). -/
def wfMirror (data : List Word) : Bool := decide (data.length ≤ 32)

/-- A mailbox message carries up to 16 words (R320). -/
def wfMessage (data : List Word) : Bool := decide (data.length ≤ 16)

/-- The boundary register is shifted in as long as it is captured (R422). -/
def wfBoundary (pins load : List Bool) : Bool := decide (pins.length = load.length)

/-- A host memory access answered with an error carries no data (R284). -/
def wfHostData (data : List Word) (err : Bool) : Bool := !err || data.isEmpty

/-- A well-formed command. Every other command carries numbers only, each within its type's range. -/
def Instr.wf : Instr → Bool
  | .descriptorFetch _ descs _ => wfFetch descs
  | .mirrorReceive _ _ data _ => wfMirror data
  | .mailboxMessageReceive _ _ data _ => wfMessage data
  | .tapSamplePreload pins load => wfBoundary pins load
  | .hostDataAccess _ data err => wfHostData data err
  | _ => true

end Sys2Proof
end

