-- ==== Sys2Proof/Tests/Slice0.lean ====
section
/-! SUPPORT. The model's own tests: ill-formed operands refused, instruction words of the spec decoded, the spec's own examples run,
and for every statement with hypotheses a concrete state and operands that meet them. -/

namespace Sys2Proof.Tests

open Sys2Proof Sys2Proof.Machine

-- many evaluations at once would each take a thread of their own
set_option Elab.async false

/-! ## Helpers -/

/-- A test of what a command answers. -/
def after (o : Host.Outcome State Fault Refusal) (p : State → Bool) : Bool :=
  match o with
  | .next t => p t
  | _ => false

/-- The state after reset with pilot 0 in RUN and instruction `i` at its PC. -/
def pilotState (i : PInstr) : State :=
  let e := encodePilot i
  (((State.reset.set (PLT_STAT.STATE 0) plt.run).setProgWord 0 e.1).setProgWord 1 (e.2.getD 0))

/-- Pilot 0 of a state changed. -/
def withPilot (s : State) (f : Pilot → Pilot) : State := s.setPilot 0 (f (s.pilot 0))

/-- The state after reset with kernel engine 0 running and the word `w` at its PC. -/
def kernState (w : Word) : State := (State.reset.setBit (KRN_CTRL.RUN 0) true).wr (R.KRN_PMEM 0 0) w

/-- Kernel engine 0 of a state changed. -/
def withKern (s : State) (f : Kern → Kern) : State := s.setKern 0 (f (s.kern 0))

/-- A kernel word of opcode `op` with the remaining bits `n`. -/
def kop (op n : Nat) : Word := BitVec.ofNat 32 (op * 2 ^ 26 + n)

/-- What `State.executes` asks, computed. -/
def executesB (s : State) (b : Nat) (i : PInstr) (n : Nat) : Bool :=
  let p := s.pilot b
  s.pltReady b p && s.pinstr b p.pc == some (i, n) && !s.aheadLimit b p &&
    (match p.stages with | [] => true | g :: _ => g.allows p.pc i)

theorem executes_of {s : State} {b : Nat} {i : PInstr} {n : Nat} (h : executesB s b i n = true) : s.executes b i n := by
  simp only [executesB, Bool.and_eq_true, beq_iff_eq, Bool.not_eq_true'] at h
  refine ⟨h.1.1.1, h.1.1.2, h.1.2, fun g t e => ?_⟩
  have := h.2
  rw [e] at this
  exact this

/-- What `State.kernAt` asks, computed. -/
def kernAtB (s : State) (n : Nat) (w : Word) : Bool :=
  let k := s.kern n
  s.bit (KRN_CTRL.RUN n) && !k.waiting && s.rd (R.KRN_PMEM n k.pc.toNat) == w && (!kernBranch (w.toNat / 2 ^ 26) || k.slots == 0)

theorem kernAt_of {s : State} {n : Nat} {w : Word} (h : kernAtB s n w = true) : s.kernAt n w := by
  simp only [kernAtB, Bool.and_eq_true, Bool.or_eq_true, beq_iff_eq, Bool.not_eq_true'] at h
  refine ⟨h.1.1.1, h.1.1.2, h.1.2, fun e => ?_⟩
  rcases h.2 with f | f
  · rw [e] at f; cases f
  · exact f

/-- What `Pilot.mayEmit` asks, computed. -/
def mayEmitB (p : Pilot) : Bool := match p.stages with | [] => true | g :: _ => !Tick.le (g.tb + 64) p.tc

theorem mayEmit_of {p : Pilot} (h : mayEmitB p = true) : p.mayEmit := by
  intro g t e
  simp only [mayEmitB, e, Bool.not_eq_true'] at h
  exact h

/-- A statement about what an option holds, computed. -/
theorem of_all {α : Type} {o : Option α} {p : α → Prop} [DecidablePred p] (h : o.all (fun a => decide (p a)) = true) :
    ∀ a, o = some a → p a := by
  intro a e
  simpa [e] using h

/-- Field `f` of acquisition unit 0's configuration in force. -/
def withCfg (s : State) (f : Rf) (v : Nat) : State :=
  let a := s.acq 0
  s.setAcq 0 { a with cfg := Store.write regReset a.cfg f.addr (fieldSet (Store.read regReset a.cfg f.addr) f.lo f.len v) }

/-- Acquisition unit 0 of a state changed. -/
def withAcq (s : State) (f : Acq → Acq) : State := s.setAcq 0 (f (s.acq 0))

/-- The state after reset with unit 0 in state `st` at tick `t`. -/
def acqStateAt (st : Nat) (t : Tick) : State := { State.reset with tick := t }.set (ACQ_STAT.STATE 0) st

/-- The state after reset with the host's port up and ring 0 of kind `k` in state `st`. -/
def ringState (k st : Nat) : State :=
  ((State.reset.setBit HIF_STAT.LINK_UP true).set (RING_CFG.KIND 0) k).set (RING_STAT.STATE 0) st

/-- Ring 0 of a state changed. -/
def withRing (s : State) (f : Ring → Ring) : State := s.setRing 0 (f (s.ring 0))

/-- A command of type `ty` with words 1 to 3. -/
def aCmd (ty : Nat) (w1 w2 w3 : BitVec 64) (stage : Nat) : Cmd :=
  { seq := 0, index := 0, desc := [BitVec.ofNat 64 ty, w1, w2, w3, 0, 0, 0, 0], stage := stage, buf := [], detail := 0, left := w1,
    marks := [] }

/-- The state after reset, READY, with command `c` in flight on the running command ring 0. -/
def cmdState (c : Cmd) : State := withRing ((ringState rk.command rst.run).set BOOT_STAT.STAGE stg.ready) (fun r => { r with cmds := [c] })

/-- The state after reset, READY, at tick `t`. -/
def readyAt (t : Tick) : State := { State.reset with tick := t }.set BOOT_STAT.STAGE stg.ready

/-- The state READY at tick `t` with lane 0 in state `st`, its own state changed. -/
def laneState (st : Nat) (t : Tick) (f : Lane → Lane) : State :=
  let s := (readyAt t).set (LANE_STAT.STATE 0) st
  s.setLane 0 (f (s.lane 0))

/-- The state READY at tick `t` with mesh port 0 up and in use in a mesh of 2 × 1 × 1 devices, its own state changed. -/
def portState (t : Tick) (f : MeshPort → MeshPort) : State :=
  let s := (((readyAt t).setBit (PORT_STAT.UP 0) true).set MESH_STAT.USE 1).set MESH_CFG.NXM1 1
  s.setMeshPort 0 (f (s.meshPort 0))

/-- The state READY at tick `t` with the twin in role `r`, its own state changed. -/
def twinState (r : Nat) (t : Tick) (f : TwinSt → TwinSt) : State :=
  let s := (readyAt t).set TWIN_STAT.ROLE r
  { s with twin := f s.twin }

/-- Values for the witnesses. -/
def aDecision : Decision :=
  { dev := 0, remote := false, src := 0, state := 1, valid := true, kern := false, status := 0, endTick := 100, byDec := false }
def aWinRes : WinRes :=
  { src := 0, o := 0, endTick := 0, status := 0, i := 0, q := 0, state := 1, shot := 0, slot := 0, captured := true, early := false,
    sub := 0, trace := [] }
def aJob : Job := { res := aWinRes, entry := 0, lostPp := false, answered := false }
def aFault : FaultIn := { src := Src.HIF_RING, tick := 0, slots := [], injected := false }
def aLog : LogEntry :=
  { src := Src.HIF_RING, sev := 1, coincident := false, injected := false, first := true, react := 0, lseq := 0, tick := 0, slots := [],
    timeNs := 0 }
def aRec : Rec := { seq := 0, words := [], good := true }
def aFlit : Flit := { word := 0, joined := 0, origin := 6 }
def aMsg : MeshMsg := { dst := 1, ttl := 5, ra := false, orig := 0, mbx := 0, words := [0], origin := none, source := none }
def anOrder : Order := { tick := 100, kind := .biasSet 5, lane := 0, ctx := 0, bid := 0xFF, excess := false, lead := 0 }
def anEntry : Entry := { first := 10, cover := .sample [7], acts := [], present := 0, sat := false }
def aPlay : Play :=
  { seg := 0, lane := 0, start := 0, begun := 0, desc := 0, amp := 0, ph := 0, pos := 0, pass := 0, loops := none, muted := false,
    dead := false, block := none, cutAt := none }
def aFetch : Fetch := .new 0 1000 0 1000 false (0x50#128 <<< 32 ||| 1#128 <<< 96)
def anItem : XbarItem := { dec := aDecision, ready := 0, entry := 0, deliver := 0 }
def aWin : Win :=
  { o := 0, close := none, cut := false, base := 0, length := 4, shift := 0, sub := 0, sel := false, cal := 0, nstate := false,
    leakEn := false, leakState := false, lines := [], accI := 0, accQ := 0, parI := 0, parQ := 0, parN := 0, settling := false,
    lost := false, freq := false, off := false, ovr := false, shot := 0, captured := false, trace := [] }
def aFuseJob : FuseJob := { slot := 1, deltas := [], trims := [] }
def aFiring : Firing := { ch := 0, stamp := 0, tick := 0, seen := [] }

/-! ## Ill-formed operands are refused (one term per check of WellFormed) -/

theorem test_wf_fetch : Instr.wf (.descriptorFetch 0 (List.replicate 9 0) false) = false := by decide
theorem test_wf_mirror : Instr.wf (.mirrorReceive 0 0 (List.replicate 33 0) true) = false := by decide
theorem test_wf_message : Instr.wf (.mailboxMessageReceive 0 0 (List.replicate 17 0) true) = false := by decide
theorem test_wf_boundary : Instr.wf (.tapSamplePreload [true] []) = false := by decide
theorem test_wf_hostData : Instr.wf (.hostDataAccess 0 [1] true) = false := by decide
theorem test_wf_accepts : Instr.wf (.descriptorFetch 0 (List.replicate 8 0) false) = true := by decide

/-! ## Words of the spec's example program of R104, at addresses 0 to 10 -/

theorem test_decode_wait : decodePilot 0x60000451 0xA1092405 = some (.wait (.imm 1105), 1) := by decide +kernel
theorem test_decode_brd : decodePilot 0xA1092405 0x006A0000 =
    some (.brd { bid := 9, mask := 2, dflt := false, rem := true, loff := 5, de := 106, src := 0 }, 2) := by decide +kernel
theorem test_decode_join : decodePilot 0xA2000000 0 = some (.join, 1) := by decide +kernel
theorem test_decode_wait_long : decodePilot 0x60048F4F 0 = some (.wait (.imm 298831), 1) := by decide +kernel
theorem test_decode_shot : decodePilot 0xC0000000 0 = some (.shot 0, 1) := by decide +kernel
theorem test_decode_play : decodePilot 0x80480066 0 = some (.play 2 102 (.var 4) (.imm 0), 1) := by decide +kernel
theorem test_decode_ldp : decodePilot 0x20408001 0x40000000 = some (.ldp 4 0 1, 1) := by decide +kernel
theorem test_decode_jmp : decodePilot 0x40000000 0 = some (.jmp 0, 1) := by decide +kernel

/-! ## Worked examples of the spec -/

/-- Example of chapter 20: the flux pulse lock of FLX[37], the probe lock of PRB[9], and BERTH[37]'s ledger. -/
theorem test_addresses : (LOCK_LATE_CNT.COUNT 101).addr = 0x354188 ∧ (LOCK_LATE_CNT.COUNT 137).addr = 0x909408 ∧
    R.SHL_LAST_DONE 37 = 0x354200 := by decide +kernel

/-- Example of R141: the word 0x0C00_0000_0000 five ticks after the origin, with the offset 0x4000_0000. -/
theorem test_oscillator_example : oscPhase 0x0C0000000000 100 105 8 0 + 0x40000000 = 0x20000000 ∧
    oscPhase 0x0C0000000000 100 105 8 1 + 0x40000000 = 0x2C000000 := by decide +kernel

/-- Example of R238 and R239: ACQ[0]'s figure is 23,400 MB/s, and a COMMIT of ACQ[1] at 25,600 MB/s is rejected with EXCESS
13,000. -/
def admissionExample : State :=
  let s := ((((({ State.reset with maxPlays := 8 }.set (ACQ_TONES.MASK 0) 0xFFFF).setBit (ACQ_CFG.PT 0) true).setBit
    (ACQ_CFG.ST 0) true).setBit (ACQ_CFG.AV 0) true).setBit (ACQ_CFG.RAW 0) true).set (ACQ_CFG.PERIOD 0) 600
  let s := (s.set (ACQ_RAW.RLEN 0) 768).set (ACQ_ADM.MBPS 0) 23400
  let s := (((s.set (ACQ_TONES.MASK 1) 0xFFFF).setBit (ACQ_CFG.ST 1) true).setBit (ACQ_CFG.DT 1) true).set (ACQ_CFG.PERIOD 1) 600
  { s.set (ACQ_BUF_SIZE.VALUE 1) 0xFFFFFF with admQueue := [.unit 1] }

theorem test_admission_figures : admissionExample.acqFigure 0 = 23400 ∧ admissionExample.acqFigure 1 = 25600 := by decide +kernel
theorem test_admission_rejects : after (exec .admissionDecide admissionExample)
    (fun t => t.get ADM_REJ.CAUSE == 1 && t.get ADM_REJ.UNIT == 1 && t.get ADM_REJ.EXCESS == 13000) = true := by decide +kernel

/-- Example of R327: e = −20 ps, in steps of 0.25 ps, with I = 0 moves TRIM by the slew limit of 16 steps. -/
theorem test_servo_example : (State.reset.timeServo (-80)).getInt TIME_TRIM.TRIM = 16 := by decide +kernel

/-- Example of R395: LATE_BARGE, FLX_SC and UC_CE raised in one tick are logged in that order. -/
theorem test_fault_order : after (exec .faultRaise { readyAt 1000002 with raised :=
      [{ src := 13, tick := 1000002, slots := [7], injected := false }, { src := 21, tick := 1000002, slots := [40], injected := false },
       { src := 2, tick := 1000002, slots := [5, 0x4240, 0x000F, 0, 2, 1], injected := false }] })
    (fun t => t.faultLog.map (fun e => (e.src, e.coincident)) == [(2, true), (21, true), (13, true)]) = true := by decide +kernel

/-! ## Single steps -/

theorem test_step_takes_front : (match step { State.reset with pending := [.eventPulse, .faultRaise] } with
    | .next t => t.pending == [.faultRaise] | _ => false) = true := by decide +kernel
theorem test_step_ticks : (match step State.reset with | .next t => t.tick == 1 | _ => false) = true := by decide +kernel
theorem test_tick_wraps : (match step { State.reset with tick := 0xFFFFFFFFFFFF } with | .next t => t.tick == 0 | _ => false) = true := by
  decide +kernel
theorem test_fetch_stops : exec (.descriptorFetch 0 (List.replicate 9 0) false) State.reset = .fault .illFormed := rfl
theorem test_pilot_add_carries : after (exec (.add 0) (withPilot (pilotState (.alu .add 1 2 (.imm 1)))
    (fun p => p.setV 2 0xFFFFFFFF))) (fun t => let p := t.pilot 0; p.z && p.c && !p.n && p.pc == 2) = true := by decide +kernel
theorem test_pilot_sub_borrows : after (exec (.sub 0) (pilotState (.alu .sub 1 1 (.imm 1))))
    (fun t => let p := t.pilot 0; p.v 1 == 0xFFFFFFFF && p.c && p.n) = true := by decide +kernel
theorem test_kernel_mul : after (exec (.krnLdi 0 false) (kernState (kop 0x06 0x3FFFF)))
    (fun t => (t.kern 0).pc == 1) = true := by decide +kernel

/-! ## For every statement with hypotheses, a state and operands that meet them, clause by clause -/

theorem witness_StepKeepsCanonicalForm : ∃ s t, s.Canonical ∧ step s = .next t :=
  ⟨{ State.reset with tick := 5 }, _, by constructor <;> first | (intro p h; cases h) | decide +kernel, rfl⟩

theorem witness_AddressModification_reversed : let am : BitVec 32 := 0x8010; let m : BitVec 2 := 3; let q := 4
    m ≠ 0 ∧ 1 ≤ q ∧ q ≤ 14 ∧ (am.setWidth 15).toNat = 2 ^ q ∧ am.getLsbD 15 = true := by decide

theorem witness_EmptyQueueTicks :
   (let s : State := State.reset
    s.pending = []) :=
  by decide +kernel

theorem witness_PilotComputations :
   (let b : Fin 64 := 0
    let d : BitVec 4 := 1
    let a : BitVec 4 := 2
    let s : State := pilotState (.mov d a)
    let n : Nat := 1
    s.executes b (.mov d a) n) ∧
   (let b : Fin 64 := 0
    let d : BitVec 4 := 1
    let w : Word := 0x80000000
    let s : State := pilotState (.movi d w)
    let n : Nat := 2
    s.executes b (.movi d w) n) ∧
   (let b : Fin 64 := 0
    let d : BitVec 4 := 1
    let a : BitVec 4 := 2
    let r : Opnd := .var 3
    let s : State := pilotState (.alu .add d a r)
    let n : Nat := 1
    s.executes b (.alu .add d a r) n) ∧
   (let b : Fin 64 := 0
    let d : BitVec 4 := 1
    let a : BitVec 4 := 2
    let r : Opnd := .var 3
    let s : State := pilotState (.alu .sub d a r)
    let n : Nat := 1
    s.executes b (.alu .sub d a r) n) ∧
   (let b : Fin 64 := 0
    let d : BitVec 4 := 1
    let a : BitVec 4 := 2
    let r : Opnd := .var 3
    let s : State := pilotState (.alu .and d a r)
    let n : Nat := 1
    s.executes b (.alu .and d a r) n) ∧
   (let b : Fin 64 := 0
    let d : BitVec 4 := 1
    let a : BitVec 4 := 2
    let r : Opnd := .var 3
    let s : State := pilotState (.alu .or d a r)
    let n : Nat := 1
    s.executes b (.alu .or d a r) n) ∧
   (let b : Fin 64 := 0
    let d : BitVec 4 := 1
    let a : BitVec 4 := 2
    let r : Opnd := .var 3
    let s : State := pilotState (.alu .xor d a r)
    let n : Nat := 1
    s.executes b (.alu .xor d a r) n) ∧
   (let b : Fin 64 := 0
    let d : BitVec 4 := 1
    let a : BitVec 4 := 2
    let r : Opnd := .var 3
    let s : State := pilotState (.alu .shl d a r)
    let n : Nat := 1
    s.executes b (.alu .shl d a r) n) ∧
   (let b : Fin 64 := 0
    let d : BitVec 4 := 1
    let a : BitVec 4 := 2
    let r : Opnd := .var 3
    let s : State := pilotState (.alu .shr d a r)
    let n : Nat := 1
    s.executes b (.alu .shr d a r) n) ∧
   (let b : Fin 64 := 0
    let d : BitVec 4 := 1
    let a : BitVec 4 := 2
    let r : Opnd := .var 3
    let s : State := pilotState (.alu .sar d a r)
    let n : Nat := 1
    s.executes b (.alu .sar d a r) n) ∧
   (let b : Fin 64 := 0
    let d : BitVec 4 := 1
    let a : BitVec 4 := 2
    let r : Opnd := .var 3
    let s : State := pilotState (.alu .mul d a r)
    let n : Nat := 1
    s.executes b (.alu .mul d a r) n) ∧
   (let b : Fin 64 := 0
    let d : BitVec 4 := 1
    let a : BitVec 4 := 2
    let r : Opnd := .var 3
    let s : State := pilotState (.alu .mulq d a r)
    let n : Nat := 1
    s.executes b (.alu .mulq d a r) n) ∧
   (let b : Fin 64 := 0
    let a : BitVec 4 := 2
    let r : Opnd := .var 3
    let s : State := pilotState (.cmp a r)
    let n : Nat := 1
    s.executes b (.cmp a r) n) ∧
   (let b : Fin 64 := 0
    let a : BitVec 4 := 2
    let r : Opnd := .var 3
    let s : State := pilotState (.tst a r)
    let n : Nat := 1
    s.executes b (.tst a r) n) :=
  ⟨executes_of (by decide +kernel),
   executes_of (by decide +kernel),
   executes_of (by decide +kernel),
   executes_of (by decide +kernel),
   executes_of (by decide +kernel),
   executes_of (by decide +kernel),
   executes_of (by decide +kernel),
   executes_of (by decide +kernel),
   executes_of (by decide +kernel),
   executes_of (by decide +kernel),
   executes_of (by decide +kernel),
   executes_of (by decide +kernel),
   executes_of (by decide +kernel),
   executes_of (by decide +kernel)⟩

theorem witness_PilotReadsAndGoesOn :
   (let b : Fin 64 := 0
    let d : BitVec 4 := 0
    let s : State := pilotState (.gettc d)
    let n : Nat := 1
    s.executes b (.gettc d) n) ∧
   (let b : Fin 64 := 0
    let d : BitVec 4 := 0
    let s : State := pilotState (.gettk d)
    let n : Nat := 1
    s.executes b (.gettk d) n ∧ s.lockstep b = false) ∧
   (let b : Fin 64 := 0
    let d : BitVec 4 := 0
    let s : State := pilotState (.getd d)
    let n : Nat := 1
    s.executes b (.getd d) n) ∧
   (let b : Fin 64 := 0
    let d : BitVec 4 := 0
    let s : State := pilotState (.getsid d)
    let n : Nat := 1
    s.executes b (.getsid d) n) ∧
   (let s : State := pilotState .nop
    let b : Fin 64 := 0
    let n : Nat := 1
    s.executes b .nop n) ∧
   (let b : Fin 64 := 0
    let d : BitVec 4 := 0
    let a : BitVec 4 := 0
    let o : Word := 1023
    let s : State := pilotState (.ldp d a o)
    let n : Nat := 2
    let p := s.pilot b
    let k := (p.v a + o).toNat
    s.executes b (.ldp d a o) n ∧ s.lockstep b = false ∧ k < 1024) ∧
   (let b : Fin 64 := 0
    let d : BitVec 4 := 0
    let a : BitVec 4 := 0
    let o : Word := 1024
    let s : State := pilotState (.ldp d a o)
    let n : Nat := 2
    let p := s.pilot b
    let k := (p.v a + o).toNat
    s.executes b (.ldp d a o) n ∧ s.lockstep b = false ∧ 1024 ≤ k) ∧
   (let b : Fin 64 := 0
    let d : BitVec 4 := 0
    let a : BitVec 4 := 0
    let o : Word := 1023
    let s : State := pilotState (.stp d a o)
    let n : Nat := 2
    let p := s.pilot b
    let k := (p.v a + o).toNat
    s.executes b (.stp d a o) n ∧ k < 1024) ∧
   (let b : Fin 64 := 0
    let d : BitVec 4 := 0
    let a : BitVec 4 := 0
    let o : Word := 1024
    let s : State := pilotState (.stp d a o)
    let n : Nat := 2
    let p := s.pilot b
    let k := (p.v a + o).toNat
    s.executes b (.stp d a o) n ∧ 1024 ≤ k) ∧
   (let p : Pilot := Pilot.init
    let n : Nat := 1
    (∀ l t, p.reps = l :: t → l.last ≠ p.pc) ∧ p.pc.toNat + n < 16384) ∧
   (let p : Pilot := { Pilot.init with reps := [{ first := 0, last := 0, left := 2 }] }
    let l := ({ first := 0, last := 0, left := 2 } : RepLevel)
    let t := ([] : List RepLevel)
    p.reps = l :: t ∧ l.last = p.pc ∧ 1 < l.left.toNat) ∧
   (let p : Pilot := { Pilot.init with reps := [{ first := 0, last := 0, left := 1 }] }
    let n : Nat := 1
    let l := ({ first := 0, last := 0, left := 1 } : RepLevel)
    let t := ([] : List RepLevel)
    p.reps = l :: t ∧ l.last = p.pc ∧ l.left.toNat ≤ 1 ∧ p.pc.toNat + n < 16384) ∧
   (let p : Pilot := { Pilot.init with pc := 16383 }
    let n : Nat := 1
    (∀ l t, p.reps = l :: t → l.last ≠ p.pc) ∧ 16384 ≤ p.pc.toNat + n) :=
  ⟨executes_of (by decide +kernel),
   ⟨executes_of (by decide +kernel), by decide +kernel⟩,
   executes_of (by decide +kernel),
   executes_of (by decide +kernel),
   executes_of (by decide +kernel),
   ⟨executes_of (by decide +kernel), by decide +kernel⟩,
   ⟨executes_of (by decide +kernel), by decide +kernel⟩,
   ⟨executes_of (by decide +kernel), by decide +kernel⟩,
   ⟨executes_of (by decide +kernel), by decide +kernel⟩,
   ⟨(by intro l t h; cases h), by decide +kernel⟩,
   by decide +kernel,
   by decide +kernel,
   ⟨(by intro l t h; cases h), by decide +kernel⟩⟩

theorem witness_PilotControlAndTime :
   (let b : Fin 64 := 0
    let t : BitVec 14 := 0
    let s : State := pilotState (.jmp t)
    let n : Nat := 1
    s.executes b (.jmp t) n) ∧
   (let b : Fin 64 := 0
    let t : BitVec 14 := 0
    let c : BitVec 3 := 1
    let s : State := pilotState (.jcc c t)
    let n : Nat := 1
    let p := s.pilot b
    let holds : Bool := [p.z, !p.z, p.n, !p.n, p.c, !p.c, p.d, !p.d].getD c.toNat false
    s.executes b (.jcc c t) n ∧ holds = true) ∧
   (let b : Fin 64 := 0
    let t : BitVec 14 := 0
    let c : BitVec 3 := 0
    let s : State := pilotState (.jcc c t)
    let n : Nat := 1
    let p := s.pilot b
    let holds : Bool := [p.z, !p.z, p.n, !p.n, p.c, !p.c, p.d, !p.d].getD c.toNat false
    s.executes b (.jcc c t) n ∧ holds = false) ∧
   (let b : Fin 64 := 0
    let t : BitVec 14 := 0
    let s : State := pilotState (.call t)
    let n : Nat := 1
    let p := s.pilot b
    s.executes b (.call t) n ∧ p.calls.length < 8) ∧
   (let b : Fin 64 := 0
    let t : BitVec 14 := 0
    let s : State := withPilot (pilotState (.call t)) (fun p => { p with calls := List.replicate 8 (1, 0) })
    let n : Nat := 1
    let p := s.pilot b
    s.executes b (.call t) n ∧ 8 ≤ p.calls.length) ∧
   (let s : State := withPilot (pilotState .ret) (fun p => { p with calls := [(5, 0)] })
    let b : Fin 64 := 0
    let n : Nat := 1
    let r := (5 : BitVec 14)
    let k := (0 : Nat)
    let u := ([] : List (BitVec 14 × Nat))
    let p := s.pilot b
    s.executes b .ret n ∧ p.calls = (r, k) :: u) ∧
   (let s : State := pilotState .ret
    let b : Fin 64 := 0
    let n : Nat := 1
    let p := s.pilot b
    s.executes b .ret n ∧ p.calls = []) ∧
   (let b : Fin 64 := 0
    let t : BitVec 14 := 1
    let o : Opnd := .imm 3
    let s : State := pilotState (.rep o t)
    let n : Nat := 2
    let p := s.pilot b
    s.executes b (.rep o t) n ∧ p.pc.toNat < t.toNat ∧ p.val o ≠ 0 ∧ p.reps.length < 4) ∧
   (let b : Fin 64 := 0
    let t : BitVec 14 := 1
    let o : Opnd := .imm 3
    let s : State := withPilot (pilotState (.rep o t)) (fun p => { p with reps := List.replicate 4 { first := 0, last := 9, left := 2 } })
    let n : Nat := 2
    let p := s.pilot b
    s.executes b (.rep o t) n ∧ p.pc.toNat < t.toNat ∧ p.val o ≠ 0 ∧ 4 ≤ p.reps.length) ∧
   (let b : Fin 64 := 0
    let t : BitVec 14 := 1
    let o : Opnd := .imm 0
    let s : State := pilotState (.rep o t)
    let n : Nat := 2
    let q := { (pilotState (.rep (.imm 0) 1)).pilot 0 with pc := 2 }
    let p := s.pilot b
    s.executes b (.rep o t) n ∧ p.pc.toNat < t.toNat ∧ p.val o = 0 ∧ p.past t (s.plen b t) = some q) ∧
   (let b : Fin 64 := 0
    let t : BitVec 14 := 0
    let o : Opnd := .imm 3
    let s : State := pilotState (.rep o t)
    let n : Nat := 2
    let p := s.pilot b
    s.executes b (.rep o t) n ∧ t.toNat ≤ p.pc.toNat) ∧
   (let b : Fin 64 := 0
    let w : WideOpnd := .imm 4
    let s : State := pilotState (.wait w)
    let n : Nat := 2
    let p := s.pilot b
    s.executes b (.wait w) n ∧ Tick.before (p.tc + p.wide w) p.tc = false) ∧
   (let b : Fin 64 := 0
    let w : WideOpnd := .imm 0xFFFFFFFFFFFF
    let s : State := pilotState (.wait w)
    let n : Nat := 2
    let p := s.pilot b
    s.executes b (.wait w) n ∧ Tick.before (p.tc + p.wide w) p.tc = true) ∧
   (let b : Fin 64 := 0
    let w : WideOpnd := .imm 4
    let s : State := pilotState (.atOrigin w)
    let n : Nat := 2
    let p := s.pilot b
    s.executes b (.atOrigin w) n ∧ Tick.before (p.origin + p.wide w) p.tc = false) ∧
   (let b : Fin 64 := 0
    let w : WideOpnd := .imm 0xFFFFFFFFFFFF
    let s : State := pilotState (.atOrigin w)
    let n : Nat := 2
    let p := s.pilot b
    s.executes b (.atOrigin w) n ∧ Tick.before (p.origin + p.wide w) p.tc = true) ∧
   (let b : Fin 64 := 0
    let w : WideOpnd := .imm 4
    let s : State := pilotState (.tsync w)
    let n : Nat := 2
    s.executes b (.tsync w) n ∧ s.lockstep b = false) ∧
   (let b : Fin 64 := 0
    let ch : BitVec 8 := 0
    let lead : BitVec 16 := 0
    let s : State := pilotState (.waite ch lead)
    let n : Nat := 1
    s.executes b (.waite ch lead) n ∧ s.lockstep b = false) ∧
   (let b : Fin 64 := 0
    let o : DecOpnd := { bid := 0, mask := 0xF, dflt := false, rem := false, loff := 0, de := 100, src := 3 }
    let s : State := pilotState (.waitd o)
    let n : Nat := 2
    let src := (3 : BitVec 8)
    let dev := (0 : BitVec 12)
    let rem := false
    s.executes b (.waitd o) n ∧ s.lockstep b = false ∧ s.decSource b o = some (src, dev, rem)) ∧
   (let s : State := State.reset.set (PLT_STAT.STATE 0) plt.runAhead
    let b : Fin 64 := 0
    let p := s.pilot b
    s.get (PLT_STAT.STATE b) = plt.runAhead ∧ s.aheadLimit b p = false) ∧
   (let s : State := (State.reset.set (PLT_STAT.STATE 0) plt.run).setPilot 0 { Pilot.init with tc := 2 ^ 40 }
    let b : Fin 64 := 0
    let n : Nat := 1
    let p := s.pilot b
    s.pltReady b p = true ∧ s.aheadLimit b p = true ∧ s.pinstr b p.pc = some (.nop, n)) :=
  ⟨executes_of (by decide +kernel),
   ⟨executes_of (by decide +kernel), by decide +kernel⟩,
   ⟨executes_of (by decide +kernel), by decide +kernel⟩,
   ⟨executes_of (by decide +kernel), by decide +kernel⟩,
   ⟨executes_of (by decide +kernel), by decide +kernel⟩,
   ⟨executes_of (by decide +kernel), by decide +kernel⟩,
   ⟨executes_of (by decide +kernel), by decide +kernel⟩,
   ⟨executes_of (by decide +kernel), by decide +kernel⟩,
   ⟨executes_of (by decide +kernel), by decide +kernel⟩,
   ⟨executes_of (by decide +kernel), by decide +kernel⟩,
   ⟨executes_of (by decide +kernel), by decide +kernel⟩,
   ⟨executes_of (by decide +kernel), by decide +kernel⟩,
   ⟨executes_of (by decide +kernel), by decide +kernel⟩,
   ⟨executes_of (by decide +kernel), by decide +kernel⟩,
   ⟨executes_of (by decide +kernel), by decide +kernel⟩,
   ⟨executes_of (by decide +kernel), by decide +kernel⟩,
   ⟨executes_of (by decide +kernel), by decide +kernel⟩,
   ⟨executes_of (by decide +kernel), by decide +kernel⟩,
   by decide +kernel,
   by decide +kernel⟩

theorem witness_PilotOrders :
   (let b : Fin 64 := 0
    let t3 : BitVec 3 := 7
    let seg : BitVec 17 := 0x1FFFF
    let x : Opnd := .var 1
    let y : Opnd := .var 2
    let s : State := pilotState (.play t3 seg x y)
    let n : Nat := 2
    let p := s.pilot b
    p.mayEmit ∧ s.executes b (.play t3 seg x y) n) ∧
   (let b : Fin 64 := 0
    let t3 : BitVec 3 := 7
    let f : WideOpnd := .imm 0x0000FFFFFFFFFFFF
    let s : State := pilotState (.freq t3 f)
    let n : Nat := 2
    let p := s.pilot b
    p.mayEmit ∧ s.executes b (.freq t3 f) n) ∧
   (let b : Fin 64 := 0
    let t3 : BitVec 3 := 7
    let x : Opnd := .var 1
    let s : State := pilotState (.phase t3 x)
    let n : Nat := 1
    let p := s.pilot b
    p.mayEmit ∧ s.executes b (.phase t3 x) n) ∧
   (let b : Fin 64 := 0
    let t2 : BitVec 2 := 0
    let seg : BitVec 17 := 0x1FFFF
    let x : Opnd := .var 1
    let y : Opnd := .var 2
    let s : State := pilotState (.probe t2 seg x y)
    let n : Nat := 2
    let p := s.pilot b
    p.mayEmit ∧ s.executes b (.probe t2 seg x y) n) ∧
   (let b : Fin 64 := 0
    let t2 : BitVec 2 := 0
    let f : WideOpnd := .imm 0xFFFFFFFFFFFF
    let s : State := pilotState (.freqp t2 f)
    let n : Nat := 2
    let p := s.pilot b
    p.mayEmit ∧ s.executes b (.freqp t2 f) n) ∧
   (let b : Fin 64 := 0
    let t2 : BitVec 2 := 0
    let x : Opnd := .var 1
    let s : State := pilotState (.phasep t2 x)
    let n : Nat := 1
    let p := s.pilot b
    p.mayEmit ∧ s.executes b (.phasep t2 x) n) ∧
   (let b : Fin 64 := 0
    let seg : BitVec 17 := 0x1FFFF
    let x : Opnd := .var 1
    let s : State := pilotState (.flux seg x)
    let n : Nat := 1
    let p := s.pilot b
    p.mayEmit ∧ s.executes b (.flux seg x) n) ∧
   (let b : Fin 64 := 0
    let x : Opnd := .var 1
    let s : State := pilotState (.bias x)
    let n : Nat := 1
    let p := s.pilot b
    p.mayEmit ∧ s.executes b (.bias x) n) ∧
   (let b : Fin 64 := 0
    let m : BitVec 2 := 0
    let e4 : BitVec 4 := 0
    let s : State := pilotState (.mark e4 m)
    let n : Nat := 1
    let p := s.pilot b
    p.mayEmit ∧ s.executes b (.mark e4 m) n) ∧
   (let b : Fin 64 := 0
    let w : BitVec 2 := 0
    let mask : BitVec 4 := 0b1001
    let s : State := pilotState (.mopen mask w)
    let n : Nat := 1
    let p := s.pilot b
    p.mayEmit ∧ s.executes b (.mopen mask w) n ∧ (∀ k, k < 4 → mask.getLsbD k = true → winOpen p.tc (p.win k) = none)) ∧
   (let b : Fin 64 := 0
    let mask : BitVec 4 := 0b1001
    let s : State := withPilot (pilotState (.mclose mask)) (fun p => { p with tc := 100, wins := [(0, some (96, false)), (3, some (60, false))] })
    let n : Nat := 1
    let p := s.pilot b
    p.mayEmit ∧ s.executes b (.mclose mask) n ∧ (∀ k, k < 4 → mask.getLsbD k = true → ∃ o, winOpen p.tc (p.win k) = some o ∧ 4 ≤ Tick.diff o p.tc ∧ Tick.diff o p.tc ≤ 4096)) ∧
   (let b : Fin 64 := 0
    let t3 : BitVec 3 := 7
    let seg : BitVec 17 := 0x1FFFF
    let x : Opnd := .var 1
    let y : Opnd := .var 2
    let s : State := withPilot (pilotState (.play t3 seg x y)) (fun p => { p with tc := 100, stages := [{ ctx := 0, tb := 36, bid := 0, altB := 9, phase := .a, lo := 0, hi := 20, cont := none, shotA := none, shotB := none, inner := none, heldA := false }] })
    let n : Nat := 2
    let g := ({ ctx := 0, tb := 36, bid := 0, altB := 9, phase := .a, lo := 0, hi := 20, cont := none, shotA := none, shotB := none, inner := none, heldA := false } : Stage)
    let u := ([] : List Stage)
    let p := s.pilot b
    s.executes b (.play t3 seg x y) n ∧ p.stages = g :: u ∧ Tick.le (g.tb + 64) p.tc = true) :=
  ⟨⟨mayEmit_of (by decide +kernel), executes_of (by decide +kernel)⟩,
   ⟨mayEmit_of (by decide +kernel), executes_of (by decide +kernel)⟩,
   ⟨mayEmit_of (by decide +kernel), executes_of (by decide +kernel)⟩,
   ⟨mayEmit_of (by decide +kernel), executes_of (by decide +kernel)⟩,
   ⟨mayEmit_of (by decide +kernel), executes_of (by decide +kernel)⟩,
   ⟨mayEmit_of (by decide +kernel), executes_of (by decide +kernel)⟩,
   ⟨mayEmit_of (by decide +kernel), executes_of (by decide +kernel)⟩,
   ⟨mayEmit_of (by decide +kernel), executes_of (by decide +kernel)⟩,
   ⟨mayEmit_of (by decide +kernel), executes_of (by decide +kernel)⟩,
   ⟨mayEmit_of (by decide +kernel), executes_of (by decide +kernel), (by
    intro k hk _
    match k, hk with
    | 0, _ => decide +kernel
    | 1, _ => decide +kernel
    | 2, _ => decide +kernel
    | 3, _ => decide +kernel)⟩,
   ⟨mayEmit_of (by decide +kernel), executes_of (by decide +kernel), (by
    intro k hk hm
    match k, hk with
    | 0, _ => exact ⟨96, by decide +kernel⟩
    | 1, _ => exact absurd hm (by decide +kernel)
    | 2, _ => exact absurd hm (by decide +kernel)
    | 3, _ => exact ⟨60, by decide +kernel⟩)⟩,
   ⟨executes_of (by decide +kernel), by decide +kernel⟩⟩

theorem witness_PilotBranchesAndShots :
   (let b : Fin 64 := 0
    let o : DecOpnd := { bid := 4, mask := 0xF, dflt := true, rem := false, loff := 64, de := 100, src := 3 }
    let s : State := pilotState (.brd o)
    let n : Nat := 2
    let c : Nat := 0
    let src : BitVec 8 := 3
    let dev : BitVec 12 := 0
    let rem : Bool := false
    let p := s.pilot b
    s.executes b (.brd o) n ∧ p.stages = [] ∧ s.decSource b o = some (src, dev, rem) ∧ s.pickCtx b p = some c) ∧
   (let s : State := pilotState .join
    let b : Fin 64 := 0
    let n : Nat := 1
    let p := s.pilot b
    s.executes b .join n ∧ p.stages = []) ∧
   (let b : Fin 64 := 0
    let l : BitVec 14 := 5
    let s : State := withPilot (pilotState (.shot l)) (fun p => { p with left := 2 })
    let n : Nat := 1
    let p := s.pilot b
    s.executes b (.shot l) n ∧ p.stages = [] ∧ p.wins = [] ∧ (p.endless = true ∨ p.left ≠ 1) ∧ s.holdOn = false ∧ s.bit (PLT_CTRL.STOP_BND b) = false) ∧
   (let b : Fin 64 := 0
    let l : BitVec 14 := 5
    let s : State := withPilot (pilotState (.shot l)) (fun p => { p with left := 1 })
    let n : Nat := 1
    let p := s.pilot b
    s.executes b (.shot l) n ∧ p.stages = [] ∧ p.endless = false ∧ p.left = 1) ∧
   (let s : State := pilotState .halt
    let b : Fin 64 := 0
    let n : Nat := 1
    let p := s.pilot b
    s.executes b .halt n ∧ p.stages = [] ∧ p.wins = []) ∧
   (let s : State := withPilot State.reset (fun p => { p with start := some (7, 3, 8, 2) })
    let b : Fin 64 := 0
    let tick := (7 : Tick)
    let entry := (3 : BitVec 14)
    let shot := (8 : Word)
    let count := (2 : Word)
    let p := s.pilot b
    p.start = some (tick, entry, shot, count)) :=
  ⟨⟨executes_of (by decide +kernel), by decide +kernel⟩,
   ⟨executes_of (by decide +kernel), by decide +kernel⟩,
   ⟨executes_of (by decide +kernel), by decide +kernel⟩,
   ⟨executes_of (by decide +kernel), by decide +kernel⟩,
   ⟨executes_of (by decide +kernel), by decide +kernel⟩,
   by decide +kernel⟩

theorem witness_PilotStopsSnapshotsAndHolds :
   (let s : State := (State.reset.set (PLT_STAT.STATE 0) plt.run).setBit (PLT_CTRL.STOP 0) true
    let b : Fin 64 := 0
    let p := s.pilot b
    s.bit (PLT_CTRL.STOP b) = true ∧ p.trap = none ∧ p.start = none ∧ s.get (PLT_STAT.STATE b) ≠ plt.idle ∧ s.get (PLT_STAT.STATE b) ≠ plt.stopped) ∧
   (let s : State := State.reset.setBit (PLT_CTRL.SNAP 0) true
    let b : Fin 64 := 0
    let p := s.pilot b
    s.bit (PLT_CTRL.SNAP b) = true ∧ p.trap = none ∧ s.bit (PLT_CTRL.STOP b) = false) ∧
   (let s : State := withPilot State.reset (fun p => { p with wait := .held 5 })
    let b : Fin 64 := 0
    let l : BitVec 14 := 5
    let p := s.pilot b
    p.wait = .held l ∧ p.latch = none ∧ s.holdOn = false ∧ s.bit (PLT_CTRL.STOP_BND b) = false) :=
  ⟨by decide +kernel,
   by decide +kernel,
   by decide +kernel⟩

theorem witness_PilotRegisterCommands :
   (let s : State := State.reset
    let b : Fin 64 := 0
    s.pltIdle b = true) ∧
   (let s : State := State.reset.set (PLT_STAT.STATE 0) plt.run
    let b : Fin 64 := 0
    s.pltIdle b = false) ∧
   (let s : State := State.reset.setPound 0 [anOrder]
    let b : Fin 64 := 0
    let idx : BitVec 6 := 0
    let o : Order := anOrder
    (s.pound b)[idx.toNat]? = some o) ∧
   (let s : State := State.reset
    let b : Fin 64 := 0
    let level : BitVec 8 := 5
    s.get (UC_VER.PATCH b) < level.toNat ∧ s.pltIdle b = true ∧ (s.pilot b).busy = false) ∧
   (let s : State := State.reset.set (PLT_STAT.STATE 0) plt.run
    let b : Fin 64 := 0
    let level : BitVec 8 := 5
    s.get (UC_VER.PATCH b) < level.toNat ∧ s.pltIdle b = false) :=
  ⟨by decide +kernel,
   by decide +kernel,
   by decide +kernel,
   by decide +kernel,
   by decide +kernel⟩

theorem witness_OrdersAndEntriesMove :
   (let s : State := withPilot State.reset (fun p => { p with latch := some anOrder })
    let b : Fin 64 := 0
    let o : Order := anOrder
    (s.pilot b).latch = some o ∧ (s.pound b).length < 64) ∧
   (let s : State := (withPilot (State.reset.set (PLT_STAT.STATE 0) plt.run) (fun p => { p with latch := some anOrder })).setPound 0 (List.replicate 64 anOrder)
    let b : Fin 64 := 0
    let o : Order := anOrder
    (s.pilot b).latch = some o ∧ 64 ≤ (s.pound b).length ∧ s.get (PLT_STAT.STATE b) = plt.run) ∧
   (let s : State := (State.reset.setPound 0 [anOrder]).setPath (pathKey 0 0 0) { PathLane.init with live := true, cur := 99 }
    let b : Fin 64 := 0
    let o : Order := anOrder
    let rest : List Order := []
    s.pound b = o :: rest ∧ s.reached b o = false) ∧
   (let s : State := (State.reset.setPound 0 [anOrder]).setPath (pathKey 0 0 0) { PathLane.init with live := true, cur := 100 }
    let b : Fin 64 := 0
    let o : Order := anOrder
    let rest : List Order := []
    s.pound b = o :: rest ∧ s.reached b o = true) ∧
   (let s : State := State.reset.setLockLane 0 { LockLane.init with st := .idle, formed := [(0, anEntry)] }
    let l : Fin 192 := 0
    let lane : Nat := 0
    let e : Entry := anEntry
    let rest : List (Nat × Entry) := []
    let k := s.lockLane l
    k.formed = (lane, e) :: rest ∧ k.st ≠ .off ∧ 2 ≤ Tick.diff s.tick e.first) :=
  ⟨by decide +kernel,
   by decide +kernel,
   by decide +kernel,
   by decide +kernel,
   by decide +kernel⟩

theorem witness_SynthesisFormsTheNextTick :
   (let s : State := (withPilot State.reset (fun p => { p with tc := 9 })).setPath (pathKey 0 0 0) { PathLane.init with live := true, cur := 5 }
    let b : Fin 64 := 0
    let limit : Tick := 9
    let s0 := s.settlePath b 0 false
    let k := s0.path (pathKey b 0 0)
    k.live = true ∧ s0.laneRoom b 0 = true ∧ k.cutAt = none ∧ k.opens = [] ∧ k.sched = [] ∧ k.acts = [] ∧ (∀ t ∈ pathTones 0, (k.tone t).play = none) ∧ s0.formLimit b 0 k = some limit ∧ Tick.before k.cur limit = true ∧ s0.takenUpTo b 0 0 k.cur = true) ∧
   (let s : State := ((withPilot State.reset (fun p => { p with tc := 9 })).setBit (FLX_CFG.PD_EN 0) false).setPath (pathKey 0 2 0)
      { PathLane.init with live := true, cur := 5, tones := [(12, { Tone.init with play := some ({ aPlay with desc := 0x50#128 <<< 32, block := some false }) })] }
    let b : Fin 64 := 0
    let limit : Tick := 9
    let pl : Play := { aPlay with desc := 0x50#128 <<< 32, block := some false }
    let s2 := s.settlePath b 2 false
    let f := s2.path (pathKey b 2 0)
    let v := envI (s2.basinSample (desc.addr pl.desc % 2 ^ 24 + pl.pos))
    f.live = true ∧ s2.laneRoom (64 + b) 0 = true ∧ f.cutAt = none ∧ f.opens = [] ∧ f.sched = [] ∧ f.acts = [] ∧ (f.tone 12).play = some pl ∧ pl.cutAt = none ∧ pl.dead = false ∧ pl.muted = false ∧ desc.src pl.desc = 0 ∧ pl.block = some false ∧ pl.pos + 1 < desc.length pl.desc ∧ s2.bit (FLX_CFG.PD_EN b) = false ∧ (mulQ17 v pl.amp).2 = false ∧ s2.formLimit b 0 f = some limit ∧ Tick.before f.cur limit = true ∧ s2.takenUpTo b 2 0 f.cur = true) :=
  ⟨by decide +kernel,
   by decide +kernel⟩

theorem witness_BargeReleasedInItsTick :
   (let s : State := (({ State.reset with tick := 10 }.set BOOT_STAT.STAGE stg.ready).setBit (FLX_CFG.CLAMPED 0) false).setLockLane 0 { LockLane.init with st := .run, main := [anEntry] }
    let l : Fin 144 := 0
    let b : Fin 64 := 0
    let e : Entry := anEntry
    let v : List Int := [7]
    let k := s.lockLane l
    let free := (s.ctx (2 * b)).busy = false ∧ (s.ctx (2 * b + 1)).busy = false
    let quiet := k.st = .run ∧ k.idleAt = none ∧ k.episode = none ∧ Tick.before s.tick k.since = false ∧ free
    let onTimeSample := onTime k.main s.tick = some e ∧ e.cover = .sample v ∧ e.acts = []
    let still := (s.ledger b).stopAt = none ∧ (s.ledger b).opening = none ∧ s.muted b = []
    l.val = b.val ∧ quiet ∧ still ∧ onTimeSample ∧ s.twinMuted b = false ∧ v.any (· != 0) = true) ∧
   (let s : State := (({ State.reset with tick := 12 }.set BOOT_STAT.STAGE stg.ready).setBit (FLX_CFG.CLAMPED 0) false).setLockLane 0 { LockLane.init with st := .run, main := [anEntry] }
    let l : Fin 144 := 0
    let b : Fin 64 := 0
    let k := s.lockLane l
    let free := (s.ctx (2 * b)).busy = false ∧ (s.ctx (2 * b + 1)).busy = false
    let quiet := k.st = .run ∧ k.idleAt = none ∧ k.episode = none ∧ Tick.before s.tick k.since = false ∧ free
    let still := (s.ledger b).stopAt = none ∧ (s.ledger b).opening = none ∧ s.muted b = []
    l.val = b.val ∧ quiet ∧ still ∧ onTime k.main s.tick = none) ∧
   (let s : State := (({ State.reset with tick := 10 }.set BOOT_STAT.STAGE stg.ready).setBit (FLX_CFG.CLAMPED 0) false).setLockLane 64 { LockLane.init with st := .run, main := [anEntry] }
    let l : Fin 144 := 64
    let b : Fin 64 := 0
    let e : Entry := anEntry
    let v : List Int := [7]
    let k := s.lockLane l
    let free := (s.ctx (2 * b)).busy = false ∧ (s.ctx (2 * b + 1)).busy = false
    let quiet := k.st = .run ∧ k.idleAt = none ∧ k.episode = none ∧ Tick.before s.tick k.since = false ∧ free
    let onTimeSample := onTime k.main s.tick = some e ∧ e.cover = .sample v ∧ e.acts = []
    l.val = 64 + b.val ∧ quiet ∧ onTimeSample ∧ s.twinMuted b = false ∧ s.bit (FLX_CFG.CLAMPED b) = false ∧ v.headD 0 ≠ 0) :=
  ⟨by decide +kernel,
   by decide +kernel,
   by decide +kernel⟩

theorem witness_ReadsThatLatchAndMarkerPins :
   (let s : State := { State.reset with tick := 9 }.setMrkPin 0 { MrkPin.init with due := [(9, .level true)] }
    let n : Fin 16 := 0
    let d : Tick := 9
    let v : Bool := true
    let m := s.mrkPin n
    m.due = [(d, .level v)] ∧ Tick.le d s.tick = true) ∧
   (let s : State := { State.reset with tick := 8 }.setMrkPin 0 { MrkPin.init with due := [(9, .level true)] }
    let n : Fin 16 := 0
    let d : Tick := 9
    let v : Bool := true
    let m := s.mrkPin n
    m.due = [(d, .level v)] ∧ Tick.le d s.tick = false) ∧
   (let s : State := { State.reset with tick := 9 }.setMrkPin 0 { MrkPin.init with due := [(9, .pulse)] }
    let n : Fin 16 := 0
    let d : Tick := 9
    let m := s.mrkPin n
    m.due = [(d, .pulse)] ∧ Tick.le d s.tick = true) ∧
   (let s : State := { State.reset with tick := 9 }.setMrkPin 0 { MrkPin.init with pulseEnd := some 9 }
    let n : Fin 16 := 0
    let d : Tick := 9
    let m := s.mrkPin n
    m.pulseEnd = some d ∧ Tick.le d s.tick = true) ∧
   (let s : State := { State.reset with tick := 8 }.setMrkPin 0 { MrkPin.init with pulseEnd := some 9 }
    let n : Fin 16 := 0
    let d : Tick := 9
    let m := s.mrkPin n
    m.pulseEnd = some d ∧ Tick.le d s.tick = false) :=
  ⟨by decide +kernel,
   by decide +kernel,
   by decide +kernel,
   by decide +kernel,
   by decide +kernel⟩

theorem witness_SegmentsAndStreams :
   (let word : Fin 0xC00000 := 0xBFFFFC
    4 * word.val < 0x2FFFFF4) ∧
   (let word : Fin 0xC00000 := 0xBFFFFD
    0x2FFFFF4 ≤ 4 * word.val) ∧
   (let s : State := State.reset
    s.standbyMute Src.BASIN_DED = false) ∧
   (let s : State := State.reset.setPrefetch 0 [aFetch]
    let b : Fin 64 := 0
    let t : Fin 13 := 0
    let f : Fetch := aFetch
    let key := b.val * 13 + t.val
    s.prefetch key = [f] ∧ f.jump = false ∧ f.open_ = true ∧ desc.src f.desc = 1 ∧ desc.link f.desc = false ∧ f.blocks.length < 64 ∧
      s.standbyMute Src.DRAM_UE = false) ∧
   (let f : Fetch := { aFetch with desc := 0x10000#128 <<< 32 ||| 1#128 <<< 96, next := 64, blocks := (List.range 64).map (fun i => (i, none)) }
    let s : State := State.reset.setPrefetch 0 [f]
    let b : Fin 64 := 0
    let t : Fin 13 := 0
    let key := b.val * 13 + t.val
    s.prefetch key = [f] ∧ f.jump = false ∧ f.open_ = true ∧ desc.src f.desc = 1 ∧ desc.link f.desc = false ∧ 64 ≤ f.blocks.length) :=
  ⟨by decide +kernel,
   by decide +kernel,
   by decide +kernel,
   by decide +kernel,
   by decide +kernel⟩

theorem witness_OutputsEnableAndMix :
   (let s : State := State.reset
    let b : Fin 64 := 0
    s.bit (DRV_CFG.EN b) = false) ∧
   (let s : State := State.reset
    let n : Fin 16 := 0
    s.bit (PRB_CFG.EN n) = false) ∧
   (let s : State := State.reset.setBit (DRV_CFG.EN 0) true
    let b : Fin 64 := 0
    s.bit (DRV_CFG.EN b) = true) ∧
   (let s : State := State.reset.setBit (PRB_CFG.EN 0) true
    let n : Fin 16 := 0
    s.bit (PRB_CFG.EN n) = true) ∧
   (let s : State := State.reset.setPath (pathKey 0 0 0) { PathLane.init with tones := [(0, { Tone.init with play := some aPlay })] }
    let b : Fin 64 := 0
    let w : Word := 0
    let j := s.wr (R.SYN_JMP b) (w &&& 0x003FFFFF)
    j.bit (SYN_JMP.PRB b) = false ∧ j.bit (SYN_JMP.AT b) = false ∧ ((j.path (pathKey b 0 0)).tone (j.get (SYN_JMP.TONE b))).play.isSome = true ∧ (∀ lane ∈ [1, 2, 3, 4], (j.path (pathKey b 0 lane)).live = false)) :=
  ⟨by decide +kernel,
   by decide +kernel,
   by decide +kernel,
   by decide +kernel,
   by decide +kernel⟩

theorem witness_FluxLinesEnableAndTakeBias :
   (let s : State := State.reset
    let b : Fin 64 := 0
    s.bit (FLX_CFG.EN b) = false) ∧
   (let s : State := State.reset.setBit (FLX_CFG.EN 0) true
    let b : Fin 64 := 0
    s.bit (FLX_CFG.EN b) = true) ∧
   (let s : State := State.reset
    let b : Fin 64 := 0
    let ok := s.pltIdle b = true ∧ s.bit (FLX_STAT.QUIET b) = true
    ok) ∧
   (let s : State := State.reset.set (PLT_STAT.STATE 0) plt.run
    let b : Fin 64 := 0
    let ok := s.pltIdle b = true ∧ s.bit (FLX_STAT.QUIET b) = true
    ¬ok) ∧
   (let s : State := { State.reset with tick := 9 }.setFluxLine 0 { FluxLine.init with hold := some (9, 5) }
    let b : Fin 64 := 0
    let u : Tick := 9
    let c : BitVec 18 := 5
    let f := s.fluxLine b
    f.hold = some (u, c) ∧ Tick.le u s.tick = true) ∧
   (let s : State := { State.reset with tick := 8 }.setFluxLine 0 { FluxLine.init with hold := some (9, 5) }
    let b : Fin 64 := 0
    let u : Tick := 9
    let c : BitVec 18 := 5
    let f := s.fluxLine b
    f.hold = some (u, c) ∧ Tick.le u s.tick = false) ∧
   (let s : State := State.reset.setBit (FLX_CFG.EN 0) true
    let b : Fin 64 := 0
    let f := s.fluxLine b
    s.bit (FLX_CFG.EN b) = true ∧ f.park = none ∧ s.bit (FLX_CFG.RC_BUSY b) = false ∧ f.actTick ≠ some s.tick ∧ s.twinRole ≠ 3) ∧
   (let s : State := State.reset
    let b : Fin 64 := 0
    let f := s.fluxLine b
    (s.bit (FLX_CFG.EN b) = false ∨ f.park ≠ none ∨ s.bit (FLX_CFG.RC_BUSY b) = true)) ∧
   (let s : State := (((({ State.reset with tick := 1500 }.setBit (FLX_CFG.EN 0) true).setBit (FLX_CFG.CLAMPED 0) false).set (FLX_BIAS_TGT.CODE 0) 9).setFluxLine 0 { FluxLine.init with armed := true }).setBit (FLX_SLEW.EN 0) false
    let b : Fin 64 := 0
    let f := s.fluxLine b
    let cur := s.getInt (FLX_BIAS_CUR.CODE b)
    let tgt := s.getInt (FLX_BIAS_TGT.CODE b)
    let moves := s.strobeTick b = true ∧ s.twinRole ≠ 3 ∧ f.park = none ∧ f.rc = none ∧ f.closing = none ∧ s.bit (FLX_CFG.EN b) = true ∧ f.armed = true ∧ s.bit (FLX_CFG.CLAMPED b) = false ∧ f.slewFrom = none ∧ s.calForced (176 + b) = false ∧ cur ≠ tgt
    moves ∧ s.bit (FLX_SLEW.EN b) = false) ∧
   (let s : State := (((({ State.reset with tick := 1500 }.setBit (FLX_CFG.EN 0) true).setBit (FLX_CFG.CLAMPED 0) false).set (FLX_BIAS_TGT.CODE 0) 9).setFluxLine 0 { FluxLine.init with armed := true }).setBit (FLX_SLEW.EN 0) true
    let b : Fin 64 := 0
    let f := s.fluxLine b
    let cur := s.getInt (FLX_BIAS_CUR.CODE b)
    let tgt := s.getInt (FLX_BIAS_TGT.CODE b)
    let moves := s.strobeTick b = true ∧ s.twinRole ≠ 3 ∧ f.park = none ∧ f.rc = none ∧ f.closing = none ∧ s.bit (FLX_CFG.EN b) = true ∧ f.armed = true ∧ s.bit (FLX_CFG.CLAMPED b) = false ∧ f.slewFrom = none ∧ s.calForced (176 + b) = false ∧ cur ≠ tgt
    moves ∧ s.bit (FLX_SLEW.EN b) = true) ∧
   (let s : State := { State.reset with tick := 1499 }
    let b : Fin 64 := 0
    s.strobeTick b = false) :=
  ⟨by decide +kernel,
   by decide +kernel,
   by decide +kernel,
   by decide +kernel,
   by decide +kernel,
   by decide +kernel,
   by decide +kernel,
   by decide +kernel,
   by decide +kernel,
   by decide +kernel,
   by decide +kernel⟩

theorem witness_FluxRangeShortAndPark :
   (let s : State := State.reset.setBit (FLX_CFG.CLAMPED 0) false
    let b : Fin 64 := 0
    let w : Word := 0
    let f := s.fluxLine b
    let free := s.pltIdle b = true ∧ (s.lockLane (64 + b)).st ≠ .run ∧ f.rc = none ∧ f.park = none ∧ f.closing = none
    free ∧ s.bit (FLX_CFG.CLAMPED b) = false ∧ w.toNat / 2 ^ 20 % 4 ≠ 3) ∧
   (let s : State := State.reset
    let b : Fin 64 := 0
    let w : Word := 0
    let f := s.fluxLine b
    let free := s.pltIdle b = true ∧ (s.lockLane (64 + b)).st ≠ .run ∧ f.rc = none ∧ f.park = none ∧ f.closing = none
    free ∧ (s.bit (FLX_CFG.CLAMPED b) = true ∨ w.toNat / 2 ^ 20 % 4 = 3)) ∧
   (let s : State := ({ State.reset with tick := 9 }.setBit (FLX_CFG.EN 0) true).setFluxLine 0 { FluxLine.init with rc := some (.clampClose, 9) }
    let b : Fin 64 := 0
    let u : Tick := 9
    let f := s.fluxLine b
    f.rc = some (.clampClose, u) ∧ Tick.le u s.tick = true ∧ s.bit (FLX_CFG.EN b) = true) ∧
   (let s : State := { State.reset with tick := 70 }.setBit (FLX_CFG.SC_ACT 0) false |>.setFluxLine 0 { FluxLine.init with limSince := some 6 }
    let b : Fin 64 := 0
    let u : Tick := 6
    let f := s.fluxLine b
    f.limSince = some u ∧ f.inSc = false ∧ 64 ≤ Tick.diff u s.tick ∧ s.bit (FLX_CFG.SC_ACT b) = false) ∧
   (let s : State := ({ State.reset with tick := 70 }.setBit (FLX_CFG.SC_ACT 0) true).setFluxLine 0 { FluxLine.init with limSince := some 6 }
    let b : Fin 64 := 0
    let u : Tick := 6
    let f := s.fluxLine b
    f.limSince = some u ∧ f.inSc = false ∧ 64 ≤ Tick.diff u s.tick ∧ s.bit (FLX_CFG.SC_ACT b) = true) ∧
   (let s : State := { State.reset with tick := 1506 }.setFluxLine 0 { FluxLine.init with freeSince := some 6, inSc := true }
    let b : Fin 64 := 0
    let u : Tick := 6
    let f := s.fluxLine b
    f.freeSince = some u ∧ f.inSc = true ∧ 1500 ≤ Tick.diff u s.tick) ∧
   (let s : State := ({ State.reset with tick := 6 }.set (FLX_BIAS_CUR.CODE 0) 8193).setFluxLine 0 { FluxLine.init with park := some 6 }
    let b : Fin 64 := 0
    let u : Tick := 6
    let f := s.fluxLine b
    let c := s.getInt (FLX_BIAS_CUR.CODE b)
    let c' := if c < 0 then min 0 (c + 8192) else max 0 (c - 8192)
    f.park = some u ∧ Tick.le u s.tick = true ∧ c' ≠ 0) ∧
   (let s : State := ({ State.reset with tick := 6 }.set (FLX_BIAS_CUR.CODE 0) 8192).setFluxLine 0 { FluxLine.init with park := some 6 }
    let b : Fin 64 := 0
    let u : Tick := 6
    let f := s.fluxLine b
    let c := s.getInt (FLX_BIAS_CUR.CODE b)
    let c' := if c < 0 then min 0 (c + 8192) else max 0 (c - 8192)
    f.park = some u ∧ Tick.le u s.tick = true ∧ c' = 0) :=
  ⟨by decide +kernel,
   by decide +kernel,
   by decide +kernel,
   by decide +kernel,
   by decide +kernel,
   by decide +kernel,
   by decide +kernel,
   by decide +kernel⟩

theorem witness_ConverterRotation :
   (let s : State := State.reset.set (CAL_CONV.STATE 0) convSt.due
    let c : Fin 30 := 0
    let i : Fin 240 := 0
    let p := 240 + c.val
    s.convState p = convSt.spareIdle ∧ s.get (CAL_CONV.PARTNER p) = noPartner ∧ (s.conv p).spareDue = false ∧ s.bit CAL_CTRL.PAUSE = false ∧ s.bit CAL_STAT.SELF_BUSY = false ∧ s.longestDue p = some i) ∧
   (let s : State := { State.reset with tick := 1500 }.set (CAL_CONV.STATE 0) convSt.parallel
    let i : Fin 240 := 0
    let k := s.conv i
    (s.convState i = convSt.parallel ∨ s.convState i = convSt.ret) ∧ 1500 ≤ Tick.diff k.at_ s.tick) ∧
   (let s : State := (({ State.reset with tick := 1500 }.set (CAL_CONV.STATE 0) convSt.parallel).set (CAL_CONV.PARTNER 0) 240).setConv 0 { Conv.init with aligned := true }
    let i : Fin 240 := 0
    let q := s.get (CAL_CONV.PARTNER i)
    let k := s.conv i
    s.convState i = convSt.parallel ∧ k.aligned = true ∧ s.handoverInstant i = true ∧ 240 ≤ q ∧ q < 270) ∧
   (let s : State := { State.reset with tick := 270001 }.set (CAL_CONV.STATE 0) convSt.offline
    let i : Fin 240 := 0
    let k := s.conv i
    s.convState i = convSt.offline ∧ 270001 ≤ Tick.diff k.at_ s.tick) ∧
   (let s : State := (({ State.reset with tick := 1500 }.set (CAL_CONV.STATE 0) convSt.ret).set (CAL_CONV.PARTNER 0) 240).setConv 0 { Conv.init with aligned := true }
    let i : Fin 240 := 0
    let q := s.get (CAL_CONV.PARTNER i)
    let k := s.conv i
    s.convState i = convSt.ret ∧ k.aligned = true ∧ s.handoverInstant i = true ∧ 240 ≤ q ∧ q < 270) ∧
   (let s : State := ({ State.reset with tick := 3000000000 }.set (CAL_CONV.STATE 0) convSt.parallel)
    let i : Fin 240 := 0
    let k := s.conv i
    s.convState i = convSt.parallel ∧ ((Nat.max 1 (s.get CAL_DEADLINE.MS) * 1500000 : Nat) : Int) ≤ Tick.diff k.at_ s.tick ∧ k.aligned = false) ∧
   (let s : State := { State.reset with tick := 6 }.setConv 240 { Conv.init with calEnd := some 6 }
    let c : Fin 30 := 0
    let u : Tick := 6
    let p := 240 + c.val
    (s.conv p).calEnd = some u ∧ Tick.le u s.tick = true) ∧
   (let s : State := State.reset.setBit CAL_CFG.EN true
    s.bit CAL_CFG.EN = true) :=
  ⟨by decide +kernel,
   by decide +kernel,
   by decide +kernel,
   by decide +kernel,
   by decide +kernel,
   by decide +kernel,
   by decide +kernel,
   by decide +kernel⟩

theorem witness_CalibrationCommands :
   (let s : State := State.reset
    let n : Fin 16 := 0
    let step : BitVec 2 := 1
    (step = 1 ∨ step = 2) ∧ s.bit (RDI_SCAL_STAT.BUSY n) = false) ∧
   (let s : State := ({ State.reset with tick := 32774 }.setBit (RDI_CFG.EN 0) true).setInp 0 { Input.init with scal := some (1, false, 6, false, false) }
    let n : Fin 16 := 0
    let src : Bool := false
    let u : Tick := 6
    (s.inp n).scal = some (1, src, u, false, false) ∧ s.bit (RDI_CFG.EN n) = true ∧ 32768 ≤ Tick.diff u s.tick) ∧
   (let s : State := State.reset
    s.bit CAL_STAT.SELF_BUSY = false) ∧
   (let s : State := { State.reset with tick := 6, selfCal := some (6, []) }
    let u : Tick := 6
    let set : List Nat := []
    s.selfCal = some (u, set) ∧ Tick.le u s.tick = true) ∧
   (let s : State := State.reset
    let k : Nat := 1
    s.bit TH_STAT.WARN = false ∧ s.fuseJob = none ∧ s.fuses.findIdx? (fun g => !g.used) = some k) ∧
   (let key : BitVec 8 := 0xA4
    key ≠ 0xA5) ∧
   (let s : State := { State.reset with fuseJob := some aFuseJob }
    let j : FuseJob := aFuseJob
    s.fuseJob = some j ∧ j.slot < s.fuses.length) :=
  ⟨by decide +kernel,
   by decide +kernel,
   by decide +kernel,
   by decide +kernel,
   by decide +kernel,
   by decide +kernel,
   by decide +kernel⟩

theorem witness_FrontEndChanges :
   (let s : State := State.reset
    let n : Fin 16 := 0
    let att : BitVec 6 := 63
    s.get (RDI_ATT.ATT n) = att.toNat) ∧
   (let s : State := State.reset
    let n : Fin 16 := 0
    let att : BitVec 6 := 5
    s.get (RDI_ATT.ATT n) ≠ att.toNat) ∧
   (let s : State := State.reset
    let n : Fin 16 := 0
    let v : Bool := false
    s.bit (RDI_CFG.INJ n) = v) ∧
   (let s : State := State.reset
    let n : Fin 16 := 0
    let v : Bool := true
    s.bit (RDI_CFG.INJ n) ≠ v) ∧
   (let s : State := State.reset
    let n : Fin 16 := 0
    let i := s.inp n
    s.bit (RDI_CFG.EN n) = false ∧ i.offs = [(none, none)]) ∧
   (let s : State := State.reset.setBit (RDI_CFG.EN 0) true
    let n : Fin 16 := 0
    s.bit (RDI_CFG.EN n) = true) ∧
   (let s : State := State.reset
    let n : Fin 16 := 0
    s.bit (RDI_CFG.EN n) = false) :=
  ⟨by decide +kernel,
   by decide +kernel,
   by decide +kernel,
   by decide +kernel,
   by decide +kernel,
   by decide +kernel,
   by decide +kernel⟩

theorem witness_SamplesBecomeDecisions :
   (let xs : List (Int × Int × Bool) := [(0, 0, true), (0, 0, false)]
    (∃ p ∈ xs, p.2.2 = false)) ∧
   (let w : Win := aWin
    let i : Nat := 3
    i < w.length) ∧
   (let w : Win := aWin
    let i : Nat := 4
    w.length ≤ i) ∧
   (let acc : Int := -131072 * 2 ^ 15
    let sh : Nat := 0
    let r := (acc + 2 ^ (14 + sh)) / 2 ^ (15 + sh)
    (-131072 ≤ r) ∧ r ≤ 131071) ∧
   (let acc : Int := -131073 * 2 ^ 15
    let sh : Nat := 0
    let r := (acc + 2 ^ (14 + sh)) / 2 ^ (15 + sh)
    r < -131072) ∧
   (let acc : Int := 131072 * 2 ^ 15
    let sh : Nat := 0
    let r := (acc + 2 ^ (14 + sh)) / 2 ^ (15 + sh)
    131071 < r) ∧
   (let w : Win := aWin
    w.sel = false) :=
  ⟨by decide +kernel,
   by decide +kernel,
   by decide +kernel,
   by decide +kernel,
   by decide +kernel,
   by decide +kernel,
   by decide +kernel⟩

theorem witness_LinearDiscriminator :
   (let s : State := State.reset
    let n : Fin 16 := 0
    let k : Fin 16 := 0
    let src := 16 * n.val + k.val
    (∀ x ∈ (s.demod src).wins, x.close.isNone = false)) :=
  by decide +kernel

theorem witness_AddressModification :
   (let am : BitVec 32 := 24
    let m : BitVec 2 := 1
    let L := (am.setWidth 15).toNat
    m ≠ 0 ∧ L ≠ 0 ∧ (am.getLsbD 15 = false ∨ ∀ q, 1 ≤ q → q ≤ 14 → L ≠ 2 ^ q)) ∧
   (let am : BitVec 32 := 0
    let m : BitVec 2 := 1
    let L := (am.setWidth 15).toNat
    m ≠ 0 ∧ L = 0) :=
  ⟨by decide +kernel,
   by decide +kernel⟩

theorem witness_KernelEngineGoesOn :
   (let k : Kern := Kern.init
    k.reps = [] ∧ k.slots = 0 ∧ k.leaving = false) ∧
   (let s : State := State.reset
    let n : Fin 16 := 0
    let k : Kern := { Kern.init with reps := [(0, 0, 2)] }
    let f : BitVec 12 := 0
    let c : Nat := 2
    let rest : List (BitVec 12 × BitVec 12 × Nat) := []
    let e := s.kern n
    k.reps = (f, e.pc, c) :: rest ∧ 1 < c ∧ k.slots = 0 ∧ k.leaving = false) ∧
   (let s : State := State.reset
    let n : Fin 16 := 0
    let k : Kern := { Kern.init with reps := [(0, 0, 1)] }
    let f : BitVec 12 := 0
    let e := s.kern n
    k.reps = (f, e.pc, 1) :: [] ∧ k.slots = 0 ∧ k.leaving = false) ∧
   (let k : Kern := { Kern.init with slots := 2, dest := some 7 }
    k.reps = [] ∧ k.slots = 2 ∧ k.leaving = false) ∧
   (let k : Kern := { Kern.init with slots := 1, dest := some 7 }
    let t : BitVec 12 := 7
    k.reps = [] ∧ k.slots = 1 ∧ k.dest = some t ∧ k.leaving = false) ∧
   (let k : Kern := { Kern.init with slots := 1, dest := some 7, leaving := true, handler := 3 }
    let t : BitVec 12 := 7
    k.reps = [] ∧ k.slots = 1 ∧ k.dest = some t ∧ k.leaving = true ∧ k.handler = 3 ∧ k.job = none) :=
  ⟨by decide +kernel,
   by decide +kernel,
   by decide +kernel,
   by decide +kernel,
   by decide +kernel,
   by decide +kernel⟩

theorem witness_KernelMultiplies :
   (let n : Fin 16 := 0
    let w : Word := kop 0x10 (0)
    let s : State := kernState w
    s.kernAt n w ∧ w.toNat / 2 ^ 26 = 0x10 ∧ w.toNat % 4 ≠ 3) ∧
   (let n : Fin 16 := 0
    let w : Word := kop 0x11 (1)
    let s : State := kernState w
    s.kernAt n w ∧ w.toNat / 2 ^ 26 = 0x11 ∧ w.toNat % 4 ≠ 3) ∧
   (let n : Fin 16 := 0
    let w : Word := kop 0x12 (2)
    let s : State := kernState w
    s.kernAt n w ∧ w.toNat / 2 ^ 26 = 0x12 ∧ w.toNat % 4 ≠ 3) ∧
   (let n : Fin 16 := 0
    let w : Word := kop 0x10 (3)
    let s : State := kernState w
    s.kernAt n w ∧ w.toNat / 2 ^ 26 = 0x10 ∧ w.toNat % 4 = 3) :=
  ⟨⟨kernAt_of (by decide +kernel), by decide +kernel⟩,
   ⟨kernAt_of (by decide +kernel), by decide +kernel⟩,
   ⟨kernAt_of (by decide +kernel), by decide +kernel⟩,
   ⟨kernAt_of (by decide +kernel), by decide +kernel⟩⟩

theorem witness_KernelMemoryAndMoves :
   (let n : Fin 16 := 0
    let w : Word := 0
    let s : State := kernState w
    let a : BitVec 15 := 0x5FFF
    s.kernAt n w ∧ a.toNat < 0x6000) ∧
   (let n : Fin 16 := 0
    let w : Word := 0
    let s : State := kernState w
    let a : BitVec 15 := 0x6000
    s.kernAt n w ∧ 0x6000 ≤ a.toNat ∧ a.toNat < 0x7000) ∧
   (let n : Fin 16 := 0
    let w : Word := 0
    let s : State := kernState w
    let a : BitVec 15 := 0x7000
    s.kernAt n w ∧ 0x7000 ≤ a.toNat) ∧
   (let n : Fin 16 := 0
    let w : Word := kop 0x00 (0)
    let s : State := kernState w
    let op := w.toNat / 2 ^ 26
    s.kernAt n w ∧ op = 0x00) ∧
   (let n : Fin 16 := 0
    let w : Word := kop 0x01 (0)
    let s : State := kernState w
    let op := w.toNat / 2 ^ 26
    s.kernAt n w ∧ op = 0x01) ∧
   (let n : Fin 16 := 0
    let w : Word := kop 0x02 (0)
    let s : State := kernState w
    let op := w.toNat / 2 ^ 26
    s.kernAt n w ∧ op = 0x02) ∧
   (let n : Fin 16 := 0
    let w : Word := kop 0x03 (47 * 64)
    let s : State := kernState w
    let op := w.toNat / 2 ^ 26
    let sh := (w.extractLsb' 6 6).toNat
    s.kernAt n w ∧ op = 0x03 ∧ sh ≤ 47) ∧
   (let n : Fin 16 := 0
    let w : Word := kop 0x04 (47 * 64)
    let s : State := kernState w
    let op := w.toNat / 2 ^ 26
    let sh := (w.extractLsb' 6 6).toNat
    s.kernAt n w ∧ op = 0x04 ∧ sh ≤ 47) ∧
   (let n : Fin 16 := 0
    let w : Word := kop 0x03 (48 * 64)
    let s : State := kernState w
    let op := w.toNat / 2 ^ 26
    let sh := (w.extractLsb' 6 6).toNat
    s.kernAt n w ∧ op = 0x03 ∧ 47 < sh) ∧
   (let n : Fin 16 := 0
    let w : Word := kop 0x05 (0)
    let s : State := kernState w
    let op := w.toNat / 2 ^ 26
    s.kernAt n w ∧ op = 0x05) ∧
   (let n : Fin 16 := 0
    let w : Word := kop 0x06 (0)
    let s : State := kernState w
    let op := w.toNat / 2 ^ 26
    s.kernAt n w ∧ op = 0x06) ∧
   (let n : Fin 16 := 0
    let w : Word := kop 0x07 (4)
    let s : State := kernState w
    let op := w.toNat / 2 ^ 26
    s.kernAt n w ∧ op = 0x07 ∧ w.toNat % 16 = 4) ∧
   (let n : Fin 16 := 0
    let w : Word := kop 0x07 (8)
    let s : State := kernState w
    let op := w.toNat / 2 ^ 26
    s.kernAt n w ∧ op = 0x07 ∧ 5 ≤ w.toNat % 16 ∧ w.toNat % 16 ≤ 8) ∧
   (let n : Fin 16 := 0
    let w : Word := kop 0x07 (3)
    let s : State := kernState w
    let e := s.kern n
    let op := w.toNat / 2 ^ 26
    s.kernAt n w ∧ op = 0x07 ∧ w.toNat % 16 ≤ 3 ∧ e.job = none) ∧
   (let n : Fin 16 := 0
    let w : Word := kop 0x07 (0)
    let s : State := withKern (kernState w) (fun k => { k with job := some aJob })
    let j := aJob
    let e := s.kern n
    let op := w.toNat / 2 ^ 26
    s.kernAt n w ∧ op = 0x07 ∧ w.toNat % 16 = 0 ∧ e.job = some j) ∧
   (let n : Fin 16 := 0
    let w : Word := kop 0x07 (1)
    let s : State := withKern (kernState w) (fun k => { k with job := some aJob })
    let j := aJob
    let e := s.kern n
    let op := w.toNat / 2 ^ 26
    s.kernAt n w ∧ op = 0x07 ∧ w.toNat % 16 = 1 ∧ e.job = some j) ∧
   (let n : Fin 16 := 0
    let w : Word := kop 0x07 (9)
    let s : State := kernState w
    let op := w.toNat / 2 ^ 26
    s.kernAt n w ∧ op = 0x07 ∧ 9 ≤ w.toNat % 16) ∧
   (let n : Fin 16 := 0
    let w : Word := kop 0x08 (0)
    let s : State := kernState w
    let op := w.toNat / 2 ^ 26
    s.kernAt n w ∧ op = 0x08) ∧
   (let n : Fin 16 := 0
    let w : Word := kop 0x09 (0)
    let s : State := kernState w
    let op := w.toNat / 2 ^ 26
    s.kernAt n w ∧ op = 0x09) ∧
   (let n : Fin 16 := 0
    let w : Word := kop 0x0A (47 * 64)
    let s : State := kernState w
    let op := w.toNat / 2 ^ 26
    let sh := (w.extractLsb' 6 6).toNat
    s.kernAt n w ∧ op = 0x0A ∧ sh ≤ 47) ∧
   (let n : Fin 16 := 0
    let w : Word := kop 0x0B (0)
    let s : State := kernState w
    let op := w.toNat / 2 ^ 26
    s.kernAt n w ∧ op = 0x0B) ∧
   (let n : Fin 16 := 0
    let w : Word := kop 0x0C (0)
    let s : State := kernState w
    let op := w.toNat / 2 ^ 26
    s.kernAt n w ∧ op = 0x0C) ∧
   (let n : Fin 16 := 0
    let w : Word := kop 0x0D (0)
    let s : State := kernState w
    let op := w.toNat / 2 ^ 26
    s.kernAt n w ∧ op = 0x0D) ∧
   (let n : Fin 16 := 0
    let w : Word := kop 0x0E (0)
    let s : State := kernState w
    let op := w.toNat / 2 ^ 26
    s.kernAt n w ∧ op = 0x0E) :=
  ⟨⟨kernAt_of (by decide +kernel), by decide +kernel⟩,
   ⟨kernAt_of (by decide +kernel), by decide +kernel⟩,
   ⟨kernAt_of (by decide +kernel), by decide +kernel⟩,
   ⟨kernAt_of (by decide +kernel), by decide +kernel⟩,
   ⟨kernAt_of (by decide +kernel), by decide +kernel⟩,
   ⟨kernAt_of (by decide +kernel), by decide +kernel⟩,
   ⟨kernAt_of (by decide +kernel), by decide +kernel⟩,
   ⟨kernAt_of (by decide +kernel), by decide +kernel⟩,
   ⟨kernAt_of (by decide +kernel), by decide +kernel⟩,
   ⟨kernAt_of (by decide +kernel), by decide +kernel⟩,
   ⟨kernAt_of (by decide +kernel), by decide +kernel⟩,
   ⟨kernAt_of (by decide +kernel), by decide +kernel⟩,
   ⟨kernAt_of (by decide +kernel), by decide +kernel⟩,
   ⟨kernAt_of (by decide +kernel), by decide +kernel⟩,
   ⟨kernAt_of (by decide +kernel), by decide +kernel⟩,
   ⟨kernAt_of (by decide +kernel), by decide +kernel⟩,
   ⟨kernAt_of (by decide +kernel), by decide +kernel⟩,
   ⟨kernAt_of (by decide +kernel), by decide +kernel⟩,
   ⟨kernAt_of (by decide +kernel), by decide +kernel⟩,
   ⟨kernAt_of (by decide +kernel), by decide +kernel⟩,
   ⟨kernAt_of (by decide +kernel), by decide +kernel⟩,
   ⟨kernAt_of (by decide +kernel), by decide +kernel⟩,
   ⟨kernAt_of (by decide +kernel), by decide +kernel⟩,
   ⟨kernAt_of (by decide +kernel), by decide +kernel⟩⟩

theorem witness_KernelSumsAndDecisions :
   (let n : Fin 16 := 0
    let w : Word := kop 0x14 (0)
    let s : State := kernState w
    let op := w.toNat / 2 ^ 26
    s.kernAt n w ∧ op = 0x14) ∧
   (let n : Fin 16 := 0
    let w : Word := kop 0x15 (0)
    let s : State := kernState w
    let op := w.toNat / 2 ^ 26
    s.kernAt n w ∧ op = 0x15) ∧
   (let n : Fin 16 := 0
    let w : Word := kop 0x16 (30 * 2 ^ 18)
    let s : State := kernState w
    let op := w.toNat / 2 ^ 26
    let p := (w.extractLsb' 18 5).toNat
    s.kernAt n w ∧ op = 0x16 ∧ p ≠ 31) ∧
   (let n : Fin 16 := 0
    let w : Word := kop 0x16 (31 * 2 ^ 18)
    let s : State := kernState w
    let op := w.toNat / 2 ^ 26
    let p := (w.extractLsb' 18 5).toNat
    s.kernAt n w ∧ op = 0x16 ∧ p = 31) ∧
   (let n : Fin 16 := 0
    let w : Word := kop 0x17 (47)
    let s : State := kernState w
    let op := w.toNat / 2 ^ 26
    let sh := (w.setWidth 7).toInt
    s.kernAt n w ∧ op = 0x17 ∧ 0 ≤ sh ∧ sh ≤ 47) ∧
   (let n : Fin 16 := 0
    let w : Word := kop 0x17 (81)
    let s : State := kernState w
    let op := w.toNat / 2 ^ 26
    let sh := (w.setWidth 7).toInt
    s.kernAt n w ∧ op = 0x17 ∧ (-47 ≤ sh) ∧ sh < 0) ∧
   (let n : Fin 16 := 0
    let w : Word := kop 0x17 (48)
    let s : State := kernState w
    let op := w.toNat / 2 ^ 26
    let sh := (w.setWidth 7).toInt
    s.kernAt n w ∧ op = 0x17 ∧ (sh < -47 ∨ 47 < sh)) ∧
   (let n : Fin 16 := 0
    let w : Word := kop 0x18 (0)
    let s : State := kernState w
    let op := w.toNat / 2 ^ 26
    s.kernAt n w ∧ op = 0x18) ∧
   (let n : Fin 16 := 0
    let w : Word := kop 0x19 (2 ^ 22)
    let s : State := withKern (kernState w) (fun k => { k with vis := { k.vis with acc := [(0, 5)] } })
    let e := s.kern n
    let op := w.toNat / 2 ^ 26
    let d := kf.d w
    let a := (e.vis.ar (kf.a w)).toInt
    s.kernAt n w ∧ op = 0x19 ∧ a < (e.vis.ar d).toInt) ∧
   (let n : Fin 16 := 0
    let w : Word := kop 0x19 (0)
    let s : State := kernState w
    let e := s.kern n
    let op := w.toNat / 2 ^ 26
    let d := kf.d w
    let a := (e.vis.ar (kf.a w)).toInt
    s.kernAt n w ∧ op = 0x19 ∧ (e.vis.ar d).toInt ≤ a) ∧
   (let n : Fin 16 := 0
    let w : Word := kop 0x1A (0)
    let s : State := kernState w
    let e := s.kern n
    let op := w.toNat / 2 ^ 26
    s.kernAt n w ∧ op = 0x1A ∧ e.fifo = []) ∧
   (let n : Fin 16 := 0
    let w : Word := kop 0x1A (0)
    let i := (1 : BitVec 18)
    let q := (2 : BitVec 18)
    let k := (0 : Nat)
    let s : State := withKern (kernState w) (fun k => { k with fifo := [(1, 2, 0, true)] })
    let last := true
    let rest := ([] : List (BitVec 18 × BitVec 18 × Nat × Bool))
    let e := s.kern n
    let op := w.toNat / 2 ^ 26
    s.kernAt n w ∧ op = 0x1A ∧ e.fifo = (i, q, k, last) :: rest) ∧
   (let n : Fin 16 := 0
    let w : Word := kop 0x1B (0)
    let s : State := kernState w
    let e := s.kern n
    let op := w.toNat / 2 ^ 26
    s.kernAt n w ∧ op = 0x1B ∧ e.job = none) ∧
   (let n : Fin 16 := 0
    let w : Word := kop 0x1B (0)
    let s : State := withKern (kernState w) (fun k => { k with job := some { aJob with answered := true } })
    let j := { aJob with answered := true }
    let e := s.kern n
    let op := w.toNat / 2 ^ 26
    s.kernAt n w ∧ op = 0x1B ∧ e.job = some j ∧ j.answered = true) ∧
   (let n : Fin 16 := 0
    let w : Word := kop 0x1B (0)
    let s : State := withKern (kernState w) (fun k => { k with job := some aJob })
    let j := aJob
    let e := s.kern n
    let op := w.toNat / 2 ^ 26
    s.kernAt n w ∧ op = 0x1B ∧ e.job = some j ∧ j.answered = false ∧ e.leaving = false) ∧
   (let n : Fin 16 := 0
    let w : Word := kop 0x1C (0)
    let s : State := kernState w
    let op := w.toNat / 2 ^ 26
    s.kernAt n w ∧ op = 0x1C) :=
  ⟨⟨kernAt_of (by decide +kernel), by decide +kernel⟩,
   ⟨kernAt_of (by decide +kernel), by decide +kernel⟩,
   ⟨kernAt_of (by decide +kernel), by decide +kernel⟩,
   ⟨kernAt_of (by decide +kernel), by decide +kernel⟩,
   ⟨kernAt_of (by decide +kernel), by decide +kernel⟩,
   ⟨kernAt_of (by decide +kernel), by decide +kernel⟩,
   ⟨kernAt_of (by decide +kernel), by decide +kernel⟩,
   ⟨kernAt_of (by decide +kernel), by decide +kernel⟩,
   ⟨kernAt_of (by decide +kernel), by decide +kernel⟩,
   ⟨kernAt_of (by decide +kernel), by decide +kernel⟩,
   ⟨kernAt_of (by decide +kernel), by decide +kernel⟩,
   ⟨kernAt_of (by decide +kernel), by decide +kernel⟩,
   ⟨kernAt_of (by decide +kernel), by decide +kernel⟩,
   ⟨kernAt_of (by decide +kernel), by decide +kernel⟩,
   ⟨kernAt_of (by decide +kernel), by decide +kernel⟩,
   ⟨kernAt_of (by decide +kernel), by decide +kernel⟩⟩

theorem witness_KernelCallStack :
   (let n : Fin 16 := 0
    let w : Word := kop 0x21 (0)
    let s : State := withKern (kernState w) (fun k => { k with calls := [1, 2, 3, 4] })
    let e := s.kern n
    let op := w.toNat / 2 ^ 26
    s.kernAt n w ∧ (s.kern n).reps = [] ∧ op = 0x21 ∧ 4 ≤ e.calls.length) ∧
   (let n : Fin 16 := 0
    let w : Word := kop 0x21 (0)
    let s : State := kernState w
    let e := s.kern n
    let op := w.toNat / 2 ^ 26
    s.kernAt n w ∧ (s.kern n).reps = [] ∧ op = 0x21 ∧ e.calls.length < 4) ∧
   (let n : Fin 16 := 0
    let w : Word := kop 0x22 (0)
    let s : State := kernState w
    let e := s.kern n
    let op := w.toNat / 2 ^ 26
    s.kernAt n w ∧ (s.kern n).reps = [] ∧ op = 0x22 ∧ e.calls = []) ∧
   (let n : Fin 16 := 0
    let w : Word := kop 0x22 (0)
    let s : State := withKern (kernState w) (fun k => { k with calls := [1] })
    let a := (1 : BitVec 12)
    let rest := ([] : List (BitVec 12))
    let e := s.kern n
    let op := w.toNat / 2 ^ 26
    s.kernAt n w ∧ (s.kern n).reps = [] ∧ op = 0x22 ∧ e.calls = a :: rest) :=
  ⟨⟨kernAt_of (by decide +kernel), by decide +kernel⟩,
   ⟨kernAt_of (by decide +kernel), by decide +kernel⟩,
   ⟨kernAt_of (by decide +kernel), by decide +kernel⟩,
   ⟨kernAt_of (by decide +kernel), by decide +kernel⟩⟩

theorem witness_KernelBranchesAndRepeats :
   (let n : Fin 16 := 0
    let w : Word := kop 0x20 (0)
    let s : State := kernState w
    let e := s.kern n
    let op := w.toNat / 2 ^ 26
    s.kernAt n w ∧ op = 0x20 ∧ (∀ l ∈ e.reps, e.pc.toNat + 2 ≤ l.2.1.toNat)) ∧
   (let n : Fin 16 := 0
    let w : Word := kop 0x20 (0)
    let s : State := withKern (kernState w) (fun k => { k with reps := [(0, 1, 2)] })
    let e := s.kern n
    let op := w.toNat / 2 ^ 26
    s.kernAt n w ∧ op = 0x20 ∧ (∃ l ∈ e.reps, l.2.1.toNat < e.pc.toNat + 2)) ∧
   (let n : Fin 16 := 0
    let w : Word := kop 0x21 (0)
    let s : State := withKern (kernState w) (fun k => { k with reps := [(0, 9, 2)] })
    let e := s.kern n
    let op := w.toNat / 2 ^ 26
    s.kernAt n w ∧ op = 0x21 ∧ e.reps ≠ []) ∧
   (let n : Fin 16 := 0
    let w : Word := kop 0x22 (0)
    let s : State := withKern (kernState w) (fun k => { k with reps := [(0, 9, 2)] })
    let e := s.kern n
    let op := w.toNat / 2 ^ 26
    s.kernAt n w ∧ op = 0x22 ∧ e.reps ≠ []) ∧
   (let n : Fin 16 := 0
    let w : Word := kop 0x23 (0)
    let s : State := withKern (kernState w) (fun k => { k with handler := 2 })
    let e := s.kern n
    let op := w.toNat / 2 ^ 26
    s.kernAt n w ∧ op = 0x23 ∧ e.reps = [] ∧ e.handler ≠ 0) ∧
   (let n : Fin 16 := 0
    let w : Word := kop 0x23 (0)
    let s : State := kernState w
    let e := s.kern n
    let op := w.toNat / 2 ^ 26
    s.kernAt n w ∧ op = 0x23 ∧ (e.reps ≠ [] ∨ e.handler = 0)) ∧
   (let n : Fin 16 := 0
    let w : Word := kop 0x24 (1)
    let s : State := kernState w
    let e := s.kern n
    let op := w.toNat / 2 ^ 26
    let last : BitVec 12 := w.setWidth 12
    s.kernAt n w ∧ op = 0x24 ∧ e.pc.toNat < last.toNat ∧ e.reps.length < 3) ∧
   (let n : Fin 16 := 0
    let w : Word := kop 0x24 (0)
    let s : State := kernState w
    let e := s.kern n
    let op := w.toNat / 2 ^ 26
    let last : BitVec 12 := w.setWidth 12
    s.kernAt n w ∧ op = 0x24 ∧ last.toNat ≤ e.pc.toNat) ∧
   (let n : Fin 16 := 0
    let w : Word := kop 0x24 (1)
    let s : State := withKern (kernState w) (fun k => { k with reps := [(0, 9, 2), (0, 9, 2), (0, 9, 2)] })
    let e := s.kern n
    let op := w.toNat / 2 ^ 26
    let last : BitVec 12 := w.setWidth 12
    s.kernAt n w ∧ op = 0x24 ∧ e.pc.toNat < last.toNat ∧ 3 ≤ e.reps.length) ∧
   (let n : Fin 16 := 0
    let w : Word := kop 0x25 (1)
    let s : State := withKern (kernState w) (fun k => { k with ax := [(0, 3)] })
    let e := s.kern n
    let op := w.toNat / 2 ^ 26
    let last : BitVec 12 := w.setWidth 12
    let cnt := (e.axr (w.extractLsb' 23 3)).toNat
    s.kernAt n w ∧ op = 0x25 ∧ e.pc.toNat < last.toNat ∧ e.reps.length < 3 ∧ cnt ≠ 0) ∧
   (let n : Fin 16 := 0
    let w : Word := kop 0x25 (1)
    let s : State := kernState w
    let e := s.kern n
    let op := w.toNat / 2 ^ 26
    let last : BitVec 12 := w.setWidth 12
    let cnt := (e.axr (w.extractLsb' 23 3)).toNat
    s.kernAt n w ∧ op = 0x25 ∧ e.pc.toNat < last.toNat ∧ e.reps = [] ∧ e.slots = 0 ∧ e.leaving = false ∧ cnt = 0) ∧
   (let n : Fin 16 := 0
    let w : Word := kop 0x26 (0)
    let s : State := kernState w
    let e := s.kern n
    let op := w.toNat / 2 ^ 26
    s.kernAt n w ∧ op = 0x26 ∧ e.reps = [] ∧ e.slots = 0 ∧ e.leaving = false) ∧
   (let n : Fin 16 := 0
    let w : Word := kop 0x26 (0)
    let s : State := withKern (kernState w) (fun k => { k with reps := [(0, 9, 2)] })
    let e := s.kern n
    let op := w.toNat / 2 ^ 26
    s.kernAt n w ∧ op = 0x26 ∧ e.reps ≠ []) ∧
   (let n : Fin 16 := 0
    let w : Word := 0
    let s : State := kernState w
    s.kernAt n w) :=
  ⟨⟨kernAt_of (by decide +kernel), by decide +kernel⟩,
   ⟨kernAt_of (by decide +kernel), by decide +kernel⟩,
   ⟨kernAt_of (by decide +kernel), by decide +kernel⟩,
   ⟨kernAt_of (by decide +kernel), by decide +kernel⟩,
   ⟨kernAt_of (by decide +kernel), by decide +kernel⟩,
   ⟨kernAt_of (by decide +kernel), by decide +kernel⟩,
   ⟨kernAt_of (by decide +kernel), by decide +kernel⟩,
   ⟨kernAt_of (by decide +kernel), by decide +kernel⟩,
   ⟨kernAt_of (by decide +kernel), by decide +kernel⟩,
   ⟨kernAt_of (by decide +kernel), by decide +kernel⟩,
   ⟨kernAt_of (by decide +kernel), by decide +kernel⟩,
   ⟨kernAt_of (by decide +kernel), by decide +kernel⟩,
   ⟨kernAt_of (by decide +kernel), by decide +kernel⟩,
   kernAt_of (by decide +kernel)⟩

theorem witness_KernelJobsAndControl :
   (let s : State := State.reset
    s.jobsDue = []) ∧
   (let s : State := { State.reset.setBit (KRN_CTRL.RUN 0) true with tick := 14, jobsDue := [aWinRes] }
    let n : Fin 16 := 0
    let r : WinRes := aWinRes
    let rest : List WinRes := []
    let e := s.kern n
    let run := s.bit (KRN_CTRL.RUN n)
    s.jobsDue = r :: rest ∧ r.src / 16 = n.val ∧ Tick.le (r.endTick + 14) s.tick = true ∧ s.partials = [] ∧ run = true ∧ e.queue.length < 32 ∧ Store.read (fun _ => false) e.ppLost (r.src % 16) = false) ∧
   (let s : State := { State.reset with tick := 14, partials := [(0, 3, 0, 1, 5, 6)] }
    let n : Fin 16 := 0
    let pt : Nat × Nat × Tick × Nat × Int × Int := (0, 3, 0, 1, 5, 6)
    let pts : List (Nat × Nat × Tick × Nat × Int × Int) := []
    let e := s.kern n
    s.partials = pt :: pts ∧ pt.1 = n.val ∧ Tick.le (pt.2.2.1 + 14) s.tick = true ∧ e.fifo.length < 512) ∧
   (let s : State := { State.reset with tick := 14, partials := [(0, 3, 0, 1, 5, 6)] }.setKern 0 { Kern.init with fifo := List.replicate 512 (0, 0, 0, false) }
    let n : Fin 16 := 0
    let pt : Nat × Nat × Tick × Nat × Int × Int := (0, 3, 0, 1, 5, 6)
    let pts : List (Nat × Nat × Tick × Nat × Int × Int) := []
    let e := s.kern n
    s.partials = pt :: pts ∧ pt.1 = n.val ∧ Tick.le (pt.2.2.1 + 14) s.tick = true ∧ 512 ≤ e.fifo.length) ∧
   (let s : State := { State.reset.setBit (KRN_CTRL.RUN 0) true with tick := 2 ^ 40 }.setKern 0 { Kern.init with job := some aJob }
    let n : Fin 16 := 0
    let j : Job := aJob
    let e := s.kern n
    let run := s.bit (KRN_CTRL.RUN n)
    let kdue := j.entry + BitVec.ofNat 48 (max 1 (s.get (KRN_CFG.TMO n)))
    e.job = some j ∧ j.answered = false ∧ Tick.le kdue s.tick = true ∧ run = true) ∧
   (let s : State := State.reset
    let n : Fin 16 := 0
    let e := s.kern n
    e.job = none ∧ e.queue = []) ∧
   (let s : State := State.reset
    let n : Fin 16 := 0
    let run := s.bit (KRN_CTRL.RUN n)
    run = false) ∧
   (let s : State := State.reset.setBit (KRN_CTRL.RUN 0) true
    let n : Fin 16 := 0
    let run := s.bit (KRN_CTRL.RUN n)
    run = true) ∧
   (let s : State := State.reset
    let n : Fin 16 := 0
    let wd : Fin 36864 := 32767
    let run := s.bit (KRN_CTRL.RUN n)
    run = false ∧ wd.val < 32768) ∧
   (let s : State := State.reset
    let n : Fin 16 := 0
    let wd : Fin 36864 := 32768
    let run := s.bit (KRN_CTRL.RUN n)
    run = false ∧ 32768 ≤ wd.val) ∧
   (let s : State := State.reset.setBit (KRN_CTRL.RUN 0) true
    let n : Fin 16 := 0
    let wd : Fin 36864 := 0x5FFF
    let run := s.bit (KRN_CTRL.RUN n)
    run = true ∧ (wd.val < 0x6000 ∨ 32768 ≤ wd.val)) ∧
   (let s : State := ((State.reset.setBit (KRN_CTRL.RUN 0) true).setBit (KRN_CTRL.SWAP 0) true).setBit (KRN_CFG.SWAP_VEC 0) true
    let n : Fin 16 := 0
    let e := s.kern n
    let run := s.bit (KRN_CTRL.RUN n)
    let accepts := run = true ∧ e.handler = 0 ∧ e.reps = [] ∧ e.slots = 0
    accepts ∧ s.bit (KRN_CTRL.SWAP n) = true ∧ s.bit (KRN_CFG.SWAP_VEC n) = true) ∧
   (let s : State := (State.reset.setBit (KRN_CTRL.RUN 0) true).setKern 0 { Kern.init with queue := [aJob] }
    let n : Fin 16 := 0
    let j : Job := aJob
    let js : List Job := []
    let e := s.kern n
    let run := s.bit (KRN_CTRL.RUN n)
    let accepts := run = true ∧ e.handler = 0 ∧ e.reps = [] ∧ e.slots = 0
    accepts ∧ s.bit (KRN_CTRL.SWAP n) = false ∧ e.queue = j :: js) ∧
   (let s : State := (State.reset.setBit (KRN_CTRL.RUN 0) true).setBit (KRN_CTRL.HREQ 0) true
    let n : Fin 16 := 0
    let e := s.kern n
    let run := s.bit (KRN_CTRL.RUN n)
    let accepts := run = true ∧ e.handler = 0 ∧ e.reps = [] ∧ e.slots = 0
    accepts ∧ s.bit (KRN_CTRL.SWAP n) = false ∧ e.queue = [] ∧ s.bit (KRN_CTRL.HREQ n) = true) ∧
   (let s : State := State.reset.setBit (KRN_CTRL.RUN 0) true
    let n : Fin 16 := 0
    let e := s.kern n
    let run := s.bit (KRN_CTRL.RUN n)
    let accepts := run = true ∧ e.handler = 0 ∧ e.reps = [] ∧ e.slots = 0
    accepts ∧ s.bit (KRN_CTRL.SWAP n) = false ∧ e.queue = [] ∧ s.bit (KRN_CTRL.HREQ n) = false) ∧
   (let s : State := State.reset
    let n : Fin 16 := 0
    let e := s.kern n
    let run := s.bit (KRN_CTRL.RUN n)
    (e.handler ≠ 0 ∨ e.reps ≠ [] ∨ e.slots ≠ 0 ∨ run = false)) :=
  ⟨by decide +kernel,
   by decide +kernel,
   by decide +kernel,
   by decide +kernel,
   by decide +kernel,
   by decide +kernel,
   by decide +kernel,
   by decide +kernel,
   by decide +kernel,
   by decide +kernel,
   by decide +kernel,
   by decide +kernel,
   by decide +kernel,
   by decide +kernel,
   by decide +kernel,
   by decide +kernel⟩

theorem witness_DecisionsThroughTheCrossbar :
   (let s : State := State.reset
    s.decMade = []) ∧
   (let s : State := { State.reset with decMade := [(aDecision, 0)] }
    let src : Fin 256 := 0
    let d : Decision := aDecision
    let nominal : Tick := 0
    let rest : List (Decision × Tick) := []
    s.decMade = (d, nominal) :: rest ∧ d.src.toNat = src.val ∧ Tick.before nominal s.tick = false) ∧
   (let s : State := { State.reset with xbarWait := [anItem] }
    let src : Fin 256 := 0
    let x : XbarItem := anItem
    let xs : List XbarItem := []
    s.xbarWait = x :: xs ∧ x.dec.src.toNat = src.val ∧ Tick.le (s.entryTick x.dec x.entry) s.tick = true) ∧
   (let s : State := { State.reset with xbarWait := [{ anItem with entry := 5 }] }
    let src : Fin 256 := 0
    let x : XbarItem := { anItem with entry := 5 }
    let xs : List XbarItem := []
    s.xbarWait = x :: xs ∧ x.dec.src.toNat = src.val ∧ Tick.le (s.entryTick x.dec x.entry) s.tick = false) ∧
   (let s : State := State.reset.setLastEntryOf 0 (some 5)
    let d : Decision := { aDecision with kern := true }
    let e := (5 : Tick)
    d.kern = true ∧ s.lastEntryOf d.src.toNat = some e) :=
  ⟨by decide +kernel,
   by decide +kernel,
   by decide +kernel,
   by decide +kernel,
   by decide +kernel⟩

theorem witness_BranchesResolve :
   (let s : State := { State.reset with tick := 98 }.setCtx 0 { Ctx.init with claimed := true, busy := true, e := 100, tb := 100, mask := 0xF }
    let b : Fin 64 := 0
    let c : Fin 2 := 0
    let d : Decision := aDecision
    let k := s.ctx (2 * b + c)
    let open_ := k.busy = true ∧ k.res = none ∧ k.outer = none ∧ s.lockstep b = false ∧ k.kept = none
    open_ ∧ d.from k.src k.dev k.rem = true ∧ d.endTick = k.e ∧ d.valid = true ∧ Tick.le s.tick (k.tb - 2) = true ∧ Tick.before (k.tb - 2) s.tick = false) ∧
   (let s : State := { State.reset with tick := 98 }.setCtx 0 { Ctx.init with claimed := true, busy := true, e := 101, tb := 100, mask := 0xF }
    let b : Fin 64 := 0
    let c : Fin 2 := 0
    let d : Decision := aDecision
    let k := s.ctx (2 * b + c)
    let open_ := k.busy = true ∧ k.res = none ∧ k.outer = none ∧ s.lockstep b = false ∧ k.kept = none
    open_ ∧ d.from k.src k.dev k.rem = true ∧ d.endTick ≠ k.e) ∧
   (let s : State := State.reset.setCtx 0 { Ctx.init with claimed := true, busy := true, src := 3 }
    let b : Fin 64 := 0
    let c : Fin 2 := 0
    let d : Decision := aDecision
    let k := s.ctx (2 * b + c)
    d.from k.src k.dev k.rem = false) ∧
   (let s : State := { State.reset with tick := 98 }.setCtx 0 { Ctx.init with claimed := true, busy := true, e := 100, tb := 100, mask := 0xF }
    let b : Fin 64 := 0
    let c : Fin 2 := 0
    let k := s.ctx (2 * b + c)
    let open_ := k.busy = true ∧ k.res = none ∧ k.outer = none ∧ s.lockstep b = false ∧ k.kept = none
    open_ ∧ Tick.le (k.tb - 2) s.tick = true) ∧
   (let s : State := { State.reset with tick := 97 }.setCtx 0 { Ctx.init with claimed := true, busy := true, e := 100, tb := 100, mask := 0xF }
    let b : Fin 64 := 0
    let c : Fin 2 := 0
    let k := s.ctx (2 * b + c)
    Tick.le (k.tb - 2) s.tick = false) ∧
   (let s : State := withPilot { State.reset with tick := 98 } (fun p => { p with tc := 100, wait := .decision 3 0 false 50 0xF false none })
    let b : Fin 64 := 0
    let src : BitVec 8 := 3
    let dev : BitVec 12 := 0
    let rem : Bool := false
    let e : Tick := 50
    let mask : BitVec 4 := 0xF
    let dflt : Bool := false
    let p := s.pilot b
    p.wait = .decision src dev rem e mask dflt none ∧ Tick.le (p.tc - 2) s.tick = true ∧ p.reps = [] ∧ p.pc.toNat + s.plen b p.pc < 16384) ∧
   (let s : State := withPilot { State.reset with tick := 97 } (fun p => { p with tc := 100, wait := .decision 3 0 false 50 0xF false none })
    let b : Fin 64 := 0
    let p := s.pilot b
    Tick.le (p.tc - 2) s.tick = false) ∧
   (let s : State := { State.reset with tick := 163 }.setCtx 0 { Ctx.init with claimed := true, busy := true, tb := 100, res := some true }
    let b : Fin 64 := 0
    let c : Fin 2 := 0
    let k := s.ctx (2 * b + c)
    k.busy = true ∧ k.res ≠ none ∧ Tick.before s.tick (k.tb + 63) = false) ∧
   (let s : State := State.reset
    let b : Fin 64 := 0
    let c : Fin 2 := 0
    let k := s.ctx (2 * b + c)
    (k.busy = false ∨ k.res = none ∨ Tick.before s.tick (k.tb + 63) = true)) :=
  ⟨by decide +kernel,
   by decide +kernel,
   by decide +kernel,
   by decide +kernel,
   by decide +kernel,
   by decide +kernel,
   by decide +kernel,
   by decide +kernel,
   by decide +kernel⟩

theorem witness_AdmissionKeepsWithinTheLimit :
   (let s : State := State.reset
    let n : Fin 16 := 0
    s.acqBusy n = false) ∧
   (let s : State := acqStateAt acqSt.armed 0
    let n : Fin 16 := 0
    s.acqBusy n = true) ∧
   (let s : State := State.reset
    s.admQueue = []) ∧
   (let s : State := { State.reset with admQueue := [.plays 3] }
    let n : Fin 16 := 0
    let v : BitVec 8 := 3
    let l : BitVec 24 := 0
    let rest : List AdmReq := []
    let total (x : State) : Nat := admTotal x.maxPlays x.admFigures
    let q (r : AdmReq) : Prop := s.admQueue = r :: rest
    total s ≤ s.admLimit ∧ (q (.unit n) ∨ q (.plays v.toNat) ∨ q (.limit l.toNat))) ∧
   (let s : State := { (State.reset.set (ACQ_BUF_SIZE.VALUE 0) 1) with admQueue := [.unit 0] }
    let n : Fin 16 := 0
    let rest : List AdmReq := []
    let fig := s.acqFigure n
    let new := admTotal s.maxPlays (listSet s.admFigures n fig)
    let q (r : AdmReq) : Prop := s.admQueue = r :: rest
    q (.unit n) ∧ s.acqBusy n = false ∧ s.acqBadConfig n = false ∧ new ≤ s.admLimit) ∧
   (let s : State := { (((State.reset.set (ACQ_BUF_SIZE.VALUE 0) 0xFFFFFF).setBit (ACQ_CFG.PT 0) true).set (ACQ_TONES.MASK 0) 0xFFFF) with admQueue := [.unit 0] }
    let n : Fin 16 := 0
    let rest : List AdmReq := []
    let fig := s.acqFigure n
    let new := admTotal s.maxPlays (listSet s.admFigures n fig)
    let q (r : AdmReq) : Prop := s.admQueue = r :: rest
    q (.unit n) ∧ s.acqBusy n = false ∧ s.acqBadConfig n = false ∧ s.admLimit < new) ∧
   (let s : State := { State.reset with admQueue := [.plays 3] }
    let v : BitVec 8 := 3
    let rest : List AdmReq := []
    let q (r : AdmReq) : Prop := s.admQueue = r :: rest
    q (.plays v.toNat) ∧ admTotal v.toNat s.admFigures ≤ s.admLimit) ∧
   (let s : State := { State.reset with admQueue := [.plays 14] }
    let v : BitVec 8 := 14
    let rest : List AdmReq := []
    let q (r : AdmReq) : Prop := s.admQueue = r :: rest
    q (.plays v.toNat) ∧ s.admLimit < admTotal v.toNat s.admFigures) ∧
   (let s : State := { State.reset with admQueue := [.limit 5], maxPlays := 1 }
    let l : BitVec 24 := 5
    let rest : List AdmReq := []
    let total (x : State) : Nat := admTotal x.maxPlays x.admFigures
    let q (r : AdmReq) : Prop := s.admQueue = r :: rest
    q (.limit l.toNat) ∧ min 90000 l.toNat < total s) :=
  ⟨by decide +kernel,
   by decide +kernel,
   by decide +kernel,
   by decide +kernel,
   by decide +kernel,
   by decide +kernel,
   by decide +kernel,
   by decide +kernel,
   by decide +kernel⟩

theorem witness_UnitsArmAndFire :
   (let s : State := acqStateAt acqSt.ready 0
    let n : Fin 16 := 0
    let st := s.acqState n
    let ready := (st = acqSt.ready ∨ st = acqSt.done) ∧ s.acqHeld = false
    ready ∧ s.acqBit n (ACQ_GRP.ARM_AT n) = false ∧ s.acqBit n (ACQ_GRP.MASTER n) = false) ∧
   (let s : State := (withCfg (withCfg (withCfg (acqStateAt acqSt.ready 0) (ACQ_GRP.ARM_AT 0) 1) (ACQ_GRP.EN 0) 1) (ACQ_GRP.MASTER 0) 1).setPair (R.ACQ_ARM_TICK_LO 0) 5
    let n : Fin 16 := 0
    let st := s.acqState n
    let ready := (st = acqSt.ready ∨ st = acqSt.done) ∧ s.acqHeld = false
    ready ∧ s.acqBit n (ACQ_GRP.ARM_AT n) = true ∧ Tick.before s.tick (s.pair (R.ACQ_ARM_TICK_LO n)) = true ∧ s.acqBit n (ACQ_GRP.EN n) = true ∧ s.acqBit n (ACQ_GRP.MASTER n) = true) ∧
   (let s : State := State.reset
    let n : Fin 16 := 0
    let st := s.acqState n
    let ready := (st = acqSt.ready ∨ st = acqSt.done) ∧ s.acqHeld = false
    ¬ready) ∧
   (let s : State := withAcq (acqStateAt acqSt.done 5) (fun a => { a with armAt := some 5 })
    let n : Fin 16 := 0
    let t0 : Tick := 5
    let a := s.acq n
    let st := s.acqState n
    a.armAt = some t0 ∧ (st = acqSt.ready ∨ st = acqSt.done) ∧ Tick.le t0 s.tick = true) ∧
   (let s : State := withAcq (acqStateAt acqSt.done 4) (fun a => { a with armAt := some 5 })
    let n : Fin 16 := 0
    let t0 : Tick := 5
    let a := s.acq n
    a.armAt = some t0 ∧ Tick.le t0 s.tick = false) ∧
   (let s : State := withCfg (withAcq (acqStateAt acqSt.armed 0) (fun a => { a with running := true })) (TRG_TIMER.MODE 0 0) 2
    let n : Fin 16 := 0
    let a := s.acq n
    let st := s.acqState n
    let armed := st = acqSt.armed ∧ a.running = true
    let time := a.since + BitVec.ofNat 48 (s.acqGet n (TRG_TIMER.TIME n a.idx))
    let mode := s.acqGet n (TRG_TIMER.MODE n a.idx)
    armed ∧ Tick.before s.tick time = false ∧ mode = 2) ∧
   (let s : State := withCfg (withAcq (acqStateAt acqSt.armed 0) (fun a => { a with running := true })) (TRG_TIMER.TIME 0 0) 1
    let n : Fin 16 := 0
    let a := s.acq n
    let st := s.acqState n
    let armed := st = acqSt.armed ∧ a.running = true
    let time := a.since + BitVec.ofNat 48 (s.acqGet n (TRG_TIMER.TIME n a.idx))
    armed ∧ Tick.before s.tick time = true) ∧
   (let s : State := withAcq (acqStateAt acqSt.armed 1) (fun a => { a with running := true })
    let n : Fin 16 := 0
    let a := s.acq n
    let st := s.acqState n
    let armed := st = acqSt.armed ∧ a.running = true
    let mode := s.acqGet n (TRG_TIMER.MODE n a.idx)
    armed ∧ s.acqGet n (TRG_COND.SRC n a.idx) = 0 ∧ mode = 0 ∧ s.acqGet n (TRG_COUNT.COUNT n a.idx) ≤ 1 ∧ Tick.before s.tick (a.since + 1) = false ∧ s.acqBit n (TRG_COND.LAST n a.idx) = true ∧ s.acqBit n (ACQ_GRP.EN n) = false) ∧
   (let s : State := withAcq (acqStateAt acqSt.fired 5) (fun a => { a with fire := some 5 })
    let n : Fin 16 := 0
    let f : Tick := 5
    let a := s.acq n
    let st := s.acqState n
    a.fire = some f ∧ st = acqSt.fired ∧ Tick.le f s.tick = true) ∧
   (let s : State := withAcq (acqStateAt acqSt.fired 4) (fun a => { a with fire := some 5 })
    let n : Fin 16 := 0
    let f : Tick := 5
    let a := s.acq n
    a.fire = some f ∧ Tick.le f s.tick = false) ∧
   (let s : State := acqStateAt acqSt.capture 0
    let n : Fin 16 := 0
    s.acqBusy n = true) ∧
   (let s : State := State.reset
    let n : Fin 16 := 0
    s.acqBusy n = false) ∧
   (let s : State := { State.reset with armHeld := [(0, 5)] }
    let n : Fin 16 := 0
    let t0 : Tick := 5
    let rest : List (Nat × Tick) := []
    s.armHeld = (n.val, t0) :: rest ∧ Tick.diff s.tick t0 ≤ 2 ^ 26) ∧
   (let s : State := State.reset
    s.armHeld = []) ∧
   (let s : State := State.reset
    let p : Fin 6 := 0
    let w : BitVec 64 := 0
    (s.bit (PORT_STAT.UP p) = false ∨ flit.type w ≠ 2)) ∧
   (let s : State := State.reset.setBit (PORT_STAT.UP 0) true
    let p : Fin 6 := 0
    let w : BitVec 64 := 2
    s.bit (PORT_STAT.UP p) = true ∧ flit.type w = 2) ∧
   (let s : State := State.reset.setBit (PORT_STAT.UP 0) true
    let p : Fin 6 := 0
    let w : BitVec 64 := 3
    s.bit (PORT_STAT.UP p) = true ∧ flit.type w = 3) ∧
   (let s : State := { State.reset with localFires := [(1, 5, 0)] }
    let f : Tick := 5
    let g : BitVec 8 := 1
    let fires : List (BitVec 8 × Tick × Tick) := []
    s.localFires = (g, f, s.tick) :: fires) ∧
   (let s : State := acqStateAt acqSt.armed 0
    let n : Fin 16 := 0
    let f : Tick := 2
    let st := s.acqState n
    st = acqSt.armed ∧ 2 ≤ Tick.diff s.tick f) ∧
   (let s : State := acqStateAt acqSt.armed 0
    let n : Fin 16 := 0
    let f : Tick := 1
    let st := s.acqState n
    st = acqSt.armed ∧ Tick.diff s.tick f < 2) ∧
   (let s : State := withAcq (acqStateAt acqSt.fired 0) (fun a => { a with fire := some 5 })
    let n : Fin 16 := 0
    let f : Tick := 5
    let f0 : Tick := 5
    let a := s.acq n
    let st := s.acqState n
    st = acqSt.fired ∧ a.fire = some f0 ∧ Tick.before f f0 = false) ∧
   (let s : State := withAcq (acqStateAt acqSt.fired 0) (fun a => { a with fire := some 5 })
    let n : Fin 16 := 0
    let f : Tick := 4
    let f0 : Tick := 5
    let a := s.acq n
    let st := s.acqState n
    st = acqSt.fired ∧ a.fire = some f0 ∧ Tick.before f f0 = true ∧ 2 ≤ Tick.diff s.tick f) ∧
   (let s : State := State.reset
    let n : Fin 16 := 0
    let st := s.acqState n
    st ≠ acqSt.armed ∧ st ≠ acqSt.fired) :=
  ⟨by decide +kernel,
   by decide +kernel,
   by decide +kernel,
   by decide +kernel,
   by decide +kernel,
   by decide +kernel,
   by decide +kernel,
   by decide +kernel,
   by decide +kernel,
   by decide +kernel,
   by decide +kernel,
   by decide +kernel,
   by decide +kernel,
   by decide +kernel,
   by decide +kernel,
   by decide +kernel,
   by decide +kernel,
   by decide +kernel,
   by decide +kernel,
   by decide +kernel,
   by decide +kernel,
   by decide +kernel,
   by decide +kernel⟩

theorem witness_RecordsReachTheBuffer :
   (let s : State := State.reset
    let n : Fin 16 := 0
    let a := s.acq n
    a.done = []) ∧
   (let s : State := withAcq State.reset (fun a => { a with done := [({ aWinRes with early := true }, aDecision)] })
    let n : Fin 16 := 0
    let r : WinRes := { aWinRes with early := true }
    let d : Decision := aDecision
    let rest : List (WinRes × Decision) := []
    let a := s.acq n
    a.done = (r, d) :: rest ∧ r.early = true) ∧
   (let s : State := withAcq (withCfg (withCfg State.reset (ACQ_CFG.ST 0) 1) (ACQ_BUF_SIZE.VALUE 0) 1) (fun a => { a with done := [(aWinRes, aDecision)] })
    let n : Fin 16 := 0
    let r : WinRes := aWinRes
    let d : Decision := aDecision
    let rest : List (WinRes × Decision) := []
    let a := s.acq n
    let base := s.acqGet n (ACQ_BUF_BASE.VALUE n) * 4096
    let size := s.acqGet n (ACQ_BUF_SIZE.VALUE n) % 2 ^ 24 * 4096
    let held := ((a.recs.filter (fun x => x.1 == base)).map (fun x => x.2.2.2)).sum
    let only (f : Rf) : Bool := s.acqBit n f
    let stateOnly := only (ACQ_CFG.RAW n) = false ∧ only (ACQ_CFG.DT n) = false ∧ only (ACQ_CFG.PT n) = false ∧ only (ACQ_CFG.ST n) = true ∧ only (ACQ_CFG.AV n) = false
    a.done = (r, d) :: rest ∧ r.early = false ∧ stateOnly ∧ held + 16 + 32 ≤ size ∧ a.bufPos + 16 ≤ size) ∧
   (let s : State := withAcq (withCfg State.reset (ACQ_CFG.ST 0) 1) (fun a => { a with done := [(aWinRes, aDecision)] })
    let n : Fin 16 := 0
    let r : WinRes := aWinRes
    let d : Decision := aDecision
    let rest : List (WinRes × Decision) := []
    let a := s.acq n
    let base := s.acqGet n (ACQ_BUF_BASE.VALUE n) * 4096
    let size := s.acqGet n (ACQ_BUF_SIZE.VALUE n) % 2 ^ 24 * 4096
    let held := ((a.recs.filter (fun x => x.1 == base)).map (fun x => x.2.2.2)).sum
    let only (f : Rf) : Bool := s.acqBit n f
    let stateOnly := only (ACQ_CFG.RAW n) = false ∧ only (ACQ_CFG.DT n) = false ∧ only (ACQ_CFG.PT n) = false ∧ only (ACQ_CFG.ST n) = true ∧ only (ACQ_CFG.AV n) = false
    a.done = (r, d) :: rest ∧ r.early = false ∧ stateOnly ∧ size < held + 16 + 32 ∧ a.lostRun = false) ∧
   (let s : State := withAcq (withCfg State.reset (ACQ_CFG.RAW 0) 1) (fun a => { a with done := [(aWinRes, aDecision)] })
    let n : Fin 16 := 0
    let r : WinRes := aWinRes
    let d : Decision := aDecision
    let rest : List (WinRes × Decision) := []
    let a := s.acq n
    let only (f : Rf) : Bool := s.acqBit n f
    a.done = (r, d) :: rest ∧ r.early = false ∧ only (ACQ_CFG.RAW n) = true ∧ s.acqGet n (ACQ_RAW.TONE n) = r.src % 16 ∧ Tick.le (r.o + BitVec.ofInt 48 (BitVec.ofNat 13 (s.acqGet n (ACQ_RAW.OFF n))).toInt + BitVec.ofNat 48 (s.acqGet n (ACQ_RAW.RLEN n)) + 8) s.tick = false) ∧
   (let s : State := State.reset
    let n : Fin 16 := 0
    let a := s.acq n
    (a.ending = none ∨ a.done ≠ [])) ∧
   (let s : State := withAcq State.reset (fun a => { a with ending := some (0, 1) })
    let n : Fin 16 := 0
    let e : Tick := 0
    let cause : Nat := 1
    let a := s.acq n
    a.ending = some (e, cause) ∧ a.done = []) :=
  ⟨by decide +kernel,
   by decide +kernel,
   by decide +kernel,
   by decide +kernel,
   by decide +kernel,
   by decide +kernel,
   by decide +kernel⟩

theorem witness_RingsMoveDescriptors :
   (let s : State := ringState rk.command rst.run
    let i : Fin 64 := 0
    let w : Word := 1
    let st := s.ringSt i
    st ≠ rst.disabled ∧ ringCfgFixed w ≠ ringCfgFixed (s.rd (R.RING_CFG i))) ∧
   (let s : State := State.reset
    let i : Fin 64 := 0
    let w : Word := 5
    let st := s.ringSt i
    st = rst.disabled ∧ w.toNat % 4 = rk.completion ∧ w.getLsbD 2 = true) ∧
   (let s : State := State.reset
    let i : Fin 64 := 0
    let w : Word := 0
    let st := s.ringSt i
    st = rst.disabled ∧ w.getLsbD 2 = false) ∧
   (let s : State := State.reset
    let i : Fin 64 := 0
    let st := s.ringSt i
    (st = rst.disabled ∨ st = rst.draining)) ∧
   (let s : State := ringState rk.command rst.run
    let i : Fin 64 := 0
    let idx : BitVec 17 := 1
    let r := s.ring i
    let st := s.ringSt i
    let size := s.ringSize i
    st = rst.run ∧ s.ringKind i = rk.command ∧ idx.toNat < 2 * size ∧ s.ringDist i r.cidx idx.toNat ≤ size) ∧
   (let s : State := ringState rk.command rst.run
    let i : Fin 64 := 0
    let idx : BitVec 17 := 32
    let st := s.ringSt i
    let size := s.ringSize i
    st = rst.run ∧ s.ringKind i = rk.command ∧ 2 * size ≤ idx.toNat) ∧
   (let s : State := ringState rk.result rst.run
    let i : Fin 64 := 0
    let idx : BitVec 17 := 0
    let r := s.ring i
    let st := s.ringSt i
    let size := s.ringSize i
    st = rst.run ∧ s.ringKind i = rk.result ∧ s.noticesLost = 0 ∧ idx.toNat < 2 * size ∧ s.ringDist i r.cidx idx.toNat ≤ s.ringDist i r.cidx r.pidx) ∧
   (let descs : List (BitVec 512) := List.replicate 9 0
    8 < descs.length) ∧
   (let s : State := withRing (ringState rk.command rst.run) (fun r => { r with pidx := 1 })
    let i : Fin 64 := 0
    let x : BitVec 512 := 1 <<< 511
    let r := s.ring i
    let st := s.ringSt i
    let at_ := s.ringWrap i (r.cidx + r.fetched.length)
    s.ringKind i = rk.command ∧ st = rst.run ∧ r.refetch = none ∧ s.toFetch i ≠ 0 ∧ s.hostUp = true ∧ descPhase (descWords x) = s.ringPhase i at_) ∧
   (let s : State := withRing (ringState rk.command rst.run) (fun r => { r with pidx := 1 })
    let i : Fin 64 := 0
    let x : BitVec 512 := 0
    let r := s.ring i
    let st := s.ringSt i
    let at_ := s.ringWrap i (r.cidx + r.fetched.length)
    s.ringKind i = rk.command ∧ st = rst.run ∧ r.refetch = none ∧ s.toFetch i ≠ 0 ∧ s.hostUp = true ∧ descPhase (descWords x) ≠ s.ringPhase i at_) ∧
   (let s : State := withRing (ringState rk.command rst.run) (fun r => { r with pidx := 1 })
    let i : Fin 64 := 0
    let r := s.ring i
    let st := s.ringSt i
    s.ringKind i = rk.command ∧ st = rst.run ∧ r.refetch = none ∧ s.toFetch i ≠ 0 ∧ s.hostUp = true) ∧
   (let s : State := withRing (ringState rk.command rst.run) (fun r => { r with pidx := 1, refetch := some 2 })
    let i : Fin 64 := 0
    let x : BitVec 512 := 1 <<< 511
    let k : Nat := 2
    let r := s.ring i
    let st := s.ringSt i
    let at_ := s.ringWrap i (r.cidx + r.fetched.length)
    r.refetch = some k ∧ st = rst.run ∧ s.hostUp = true ∧ descPhase (descWords x) = s.ringPhase i at_) ∧
   (let s : State := withRing (ringState rk.command rst.run) (fun r => { r with pidx := 1, refetch := some 2 })
    let i : Fin 64 := 0
    let x : BitVec 512 := 0
    let k : Nat := 2
    let r := s.ring i
    let st := s.ringSt i
    let at_ := s.ringWrap i (r.cidx + r.fetched.length)
    r.refetch = some k ∧ st = rst.run ∧ s.hostUp = true ∧ descPhase (descWords x) ≠ s.ringPhase i at_ ∧ k < 3) ∧
   (let s : State := withRing (ringState rk.command rst.run) (fun r => { r with pidx := 1, refetch := some 3 })
    let i : Fin 64 := 0
    let x : BitVec 512 := 0
    let k : Nat := 3
    let r := s.ring i
    let st := s.ringSt i
    let at_ := s.ringWrap i (r.cidx + r.fetched.length)
    r.refetch = some k ∧ st = rst.run ∧ s.hostUp = true ∧ descPhase (descWords x) ≠ s.ringPhase i at_ ∧ 3 ≤ k) ∧
   (let s : State := ringState rk.result rst.run
    let i : Fin 64 := 0
    let st := s.ringSt i
    st = rst.run ∧ s.ringKind i = rk.result) ∧
   (let s : State := (ringState rk.completion rst.run).set (RING_STAT.STATE 1) rst.run
    let i : Fin 64 := 0
    let b : Fin 64 := 1
    let st := s.ringSt i
    st = rst.run ∧ s.ringKind i = rk.completion ∧ s.ringKind b = rk.command ∧ s.ringSt b ≠ rst.disabled ∧ s.get (RING_CFG.CRING b) = i) ∧
   (let s : State := ringState rk.command rst.run
    let i : Fin 64 := 0
    let r := s.ring i
    let st := s.ringSt i
    st = rst.run ∧ s.ringKind i = rk.command ∧ r.fetched = []) ∧
   (let s : State := ringState rk.command rst.draining
    let i : Fin 64 := 0
    let r := s.ring i
    let st := s.ringSt i
    st = rst.draining ∧ r.cmds = []) ∧
   (let s : State := State.reset
    let i : Fin 64 := 0
    let r := s.ring i
    let st := s.ringSt i
    (st ≠ rst.draining ∨ r.cmds ≠ [])) ∧
   (let s : State := State.reset
    let i : Fin 64 := 0
    let st := s.ringSt i
    st ≠ rst.halted) ∧
   (let s : State := ringState rk.command rst.halted
    let i : Fin 64 := 0
    let r := s.ring i
    let st := s.ringSt i
    st = rst.halted ∧ r.held = [] ∧ s.noticesLost = 0) ∧
   (let s : State := State.reset
    let i : Fin 64 := 0
    let r := s.ring i
    r.pidx < 2 ^ 17 ∧ r.cidx < 2 ^ 17) ∧
   (let s : State := withRing { State.reset with tick := 2 ^ 47 - 1 } (fun r => { r with irqDue := true, lastIrq := some 0 })
    let i : Fin 64 := 0
    let u : Tick := 0
    let r := s.ring i
    r.irqDue = true ∧ r.lastIrq = some u ∧ ((s.get (RING_IRQ.HOLDOFF i) * 1500 : Nat) : Int) ≤ Tick.diff u s.tick) ∧
   (let s : State := State.reset
    let i : Fin 64 := 0
    let r := s.ring i
    r.irqDue = false) ∧
   (let s : State := State.reset
    let i : Fin 64 := 0
    s.ringKind i ≠ rk.result) ∧
   (let s : State := withAcq ((ringState rk.result rst.run).set (RING_DATA_SIZE.SIZE 0) 1) (fun a => { a with recs := [(0, 4096, 0, 16)] })
    let i : Fin 64 := 0
    let n : Fin 16 := 0
    let r := s.ring i
    let st := s.ringSt i
    s.ringKind i = rk.result ∧ st = rst.run ∧ s.ringRoom i = true ∧ s.hostUp = true ∧ s.acqGet n (ACQ_RES.RING n) = i ∧ (s.acq n).recs = [(0, 4096, 0, 16)] ∧ r.areas = [] ∧ r.dataPos = 0 ∧ 1 ≤ s.get (RING_DATA_SIZE.SIZE i)) ∧
   (let s : State := State.reset
    let b : Fin 64 := 0
    (s.ledger b).batch = none) ∧
   (let s : State := State.reset.setLedger 0 { Ledger.init with batch := some (0, 0), ended := true }
    let i : Fin 64 := 0
    let b : Fin 64 := 0
    let seq : Nat := 0
    (s.ledger b).batch = some (i.val, seq) ∧ (s.ledger b).ended = true) :=
  ⟨by decide +kernel,
   by decide +kernel,
   by decide +kernel,
   by decide +kernel,
   by decide +kernel,
   by decide +kernel,
   by decide +kernel,
   by decide +kernel,
   by decide +kernel,
   by decide +kernel,
   by decide +kernel,
   by decide +kernel,
   by decide +kernel,
   by decide +kernel,
   by decide +kernel,
   by decide +kernel,
   by decide +kernel,
   by decide +kernel,
   by decide +kernel,
   by decide +kernel,
   by decide +kernel,
   by decide +kernel,
   by decide +kernel,
   by decide +kernel,
   by decide +kernel,
   by decide +kernel,
   by decide +kernel,
   by decide +kernel⟩

theorem witness_CommandsLoad :
   (let s : State := State.reset
    (∀ j : Fin 64, s.mayIssue j = false)) ∧
   (let s : State := withRing (((ringState rk.command rst.run).set BOOT_STAT.STAGE stg.ready).set (RING_CFG.CRING 0) 1) (fun r => { r with fetched := [[9, 0, 0, 0, 0, 0, 0, 0]] })
    let i : Fin 64 := 0
    let d : Descriptor := [9, 0, 0, 0, 0, 0, 0, 0]
    let rest : List Descriptor := []
    let r := s.ring i
    s.mayIssue i = true ∧ (∀ j : Fin 64, j ≠ i → s.mayIssue j = false) ∧ r.fetched = d :: rest ∧ s.rejects d = none ∧ s.get (RING_CFG.CRING i) ≠ i) ∧
   (let s : State := State.reset
    let i : Fin 64 := 0
    let r := s.ring i
    r.cmds = []) ∧
   (let s : State := cmdState (aCmd ct.writeParam 1 (1 <<< 10) 0 0)
    let i : Fin 64 := 0
    let c : Cmd := aCmd ct.writeParam 1 (1 <<< 10) 0 0
    let r := s.ring i
    r.cmds = [c] ∧ 0 < c.wants ∧ s.hostUp = true ∧ c.type ≠ ct.readState) ∧
   (let s : State := cmdState (aCmd ct.loadProgram 0 1 0 0)
    let i : Fin 64 := 0
    let c : Cmd := aCmd ct.loadProgram 0 1 0 0
    let r := s.ring i
    let only (ty : Nat) : Prop := r.cmds = [c] ∧ c.type = ty
    only ct.loadProgram ∧ dfld c.desc 3 16 15 ≤ c.detail + c.buf.length ∧ dfld c.desc 3 0 14 + c.detail + c.buf.length ≤ 16384) ∧
   (let s : State := cmdState (aCmd ct.loadKernel 0 0 0 0)
    let i : Fin 64 := 0
    let c : Cmd := aCmd ct.loadKernel 0 0 0 0
    let r := s.ring i
    let only (ty : Nat) : Prop := r.cmds = [c] ∧ c.type = ty
    only ct.loadKernel ∧ c.stage = 0 ∧ dfld c.desc 2 4 2 = 0 ∧ (dw c.desc 2).getLsbD 6 = false ∧ dfld c.desc 3 0 15 + c.detail + c.buf.length ≤ 4096) ∧
   (let s : State := cmdState (aCmd ct.writeParam 1 (1 <<< 21) 0 0)
    let i : Fin 64 := 0
    let c : Cmd := aCmd ct.writeParam 1 (1 <<< 21) 0 0
    let r := s.ring i
    let only (ty : Nat) : Prop := r.cmds = [c] ∧ c.type = ty
    only ct.writeParam ∧ (dw c.desc 2).getLsbD 21 = true ∧ c.detail = 0 ∧ dfld c.desc 2 0 10 + dfld c.desc 2 10 11 ≤ 1024) ∧
   (let s : State := cmdState (aCmd ct.loadSegment 0 0 (1 <<< 32) 0)
    let i : Fin 64 := 0
    let c : Cmd := aCmd ct.loadSegment 0 0 (1 <<< 32) 0
    let r := s.ring i
    let only (ty : Nat) : Prop := r.cmds = [c] ∧ c.type = ty
    only ct.loadSegment ∧ dfld c.desc 2 36 2 = 0 ∧ dfld c.desc 3 0 32 ≤ c.detail + 8 * (c.buf.length / 9) ∧ (dw c.desc 3).getLsbD 32 = true) ∧
   (let s : State := cmdState (aCmd ct.loadSegment 0 (1 <<< 36) 0 0)
    let i : Fin 64 := 0
    let c : Cmd := aCmd ct.loadSegment 0 (1 <<< 36) 0 0
    let r := s.ring i
    let only (ty : Nat) : Prop := r.cmds = [c] ∧ c.type = ty
    only ct.loadSegment ∧ dfld c.desc 2 36 2 = 1) ∧
   (let s : State := cmdState (aCmd ct.streamSegment 0 0 0 0)
    let i : Fin 64 := 0
    let c : Cmd := aCmd ct.streamSegment 0 0 0 0
    let r := s.ring i
    let only (ty : Nat) : Prop := r.cmds = [c] ∧ c.type = ty
    only ct.streamSegment ∧ c.stage = 0) ∧
   (let s : State := cmdState (aCmd ct.streamSegment 0 0 0 0)
    let i : Fin 64 := 0
    let c : Cmd := aCmd ct.streamSegment 0 0 0 0
    let r := s.ring i
    let only (ty : Nat) : Prop := r.cmds = [c] ∧ c.type = ty
    only ct.streamSegment ∧ c.stage = 0 ∧ (dfld c.desc 3 0 32 : Int) ≤ s.sbufFree (dfld c.desc 2 0 6)) ∧
   (let s : State := (cmdState (aCmd ct.streamSegment 0 0 8 0)).set (SBUF_SIZE.SIZE 0) 0
    let i : Fin 64 := 0
    let c : Cmd := aCmd ct.streamSegment 0 0 8 0
    let r := s.ring i
    let only (ty : Nat) : Prop := r.cmds = [c] ∧ c.type = ty
    only ct.streamSegment ∧ c.stage = 0 ∧ s.sbufFree (dfld c.desc 2 0 6) < (dfld c.desc 3 0 32 : Int)) ∧
   (let s : State := cmdState (aCmd ct.streamSegment 0 0 0 1)
    let i : Fin 64 := 0
    let c : Cmd := aCmd ct.streamSegment 0 0 0 1
    let r := s.ring i
    let only (ty : Nat) : Prop := r.cmds = [c] ∧ c.type = ty
    only ct.streamSegment ∧ c.stage ≠ 0 ∧ dfld c.desc 3 0 32 ≤ c.detail + 8 * (c.buf.length / 9) + c.marks.getD 0 0) :=
  ⟨by decide +kernel,
   by decide +kernel,
   by decide +kernel,
   by decide +kernel,
   by decide +kernel,
   by decide +kernel,
   by decide +kernel,
   by decide +kernel,
   by decide +kernel,
   by decide +kernel,
   by decide +kernel,
   by decide +kernel,
   by decide +kernel⟩

theorem witness_CommandsStartStopAndRead :
   (let s : State := State.reset
    let i : Fin 64 := 0
    let r := s.ring i
    r.cmds = []) ∧
   (let s : State := (cmdState (aCmd ct.startBatch 1 0 0 0)).setBit (PLT_STAT.UC_VALID 0) false
    let i : Fin 64 := 0
    let c : Cmd := aCmd ct.startBatch 1 0 0 0
    let b : Fin 64 := 0
    let r := s.ring i
    let only (ty : Nat) : Prop := r.cmds = [c] ∧ c.type = ty
    let left (bs : List Nat) : Prop := maskBerths c.left = bs
    only ct.startBatch ∧ c.stage = 0 ∧ left [b.val] ∧ s.startWaits b = true) ∧
   (let s : State := withPilot ((cmdState (aCmd ct.startBatch 1 0 0 0)).setBit (PLT_STAT.UC_VALID 0) true) (fun p => { p with busy := true })
    let i : Fin 64 := 0
    let c : Cmd := aCmd ct.startBatch 1 0 0 0
    let b : Fin 64 := 0
    let r := s.ring i
    let only (ty : Nat) : Prop := r.cmds = [c] ∧ c.type = ty
    let left (bs : List Nat) : Prop := maskBerths c.left = bs
    only ct.startBatch ∧ c.stage = 0 ∧ left [b.val] ∧ s.startWaits b = false ∧ s.berthBusy b = true) ∧
   (let s : State := (cmdState (aCmd ct.startBatch 1 0 0 0)).setBit (PLT_STAT.UC_VALID 0) true
    let i : Fin 64 := 0
    let c : Cmd := aCmd ct.startBatch 1 0 0 0
    let b : Fin 64 := 0
    let r := s.ring i
    let only (ty : Nat) : Prop := r.cmds = [c] ∧ c.type = ty
    let left (bs : List Nat) : Prop := maskBerths c.left = bs
    only ct.startBatch ∧ c.stage = 0 ∧ left [b.val] ∧ s.startWaits b = false ∧ s.berthBusy b = false ∧ s.get PWR_STAT.STATE = 0) ∧
   (let s : State := (cmdState (aCmd ct.startBatch 1 (1 <<< 48) 0 1)).setBit (PLT_STAT.UC_VALID 0) true
    let i : Fin 64 := 0
    let c : Cmd := aCmd ct.startBatch 1 (1 <<< 48) 0 1
    let b : Fin 64 := 0
    let r := s.ring i
    let only (ty : Nat) : Prop := r.cmds = [c] ∧ c.type = ty
    let left (bs : List Nat) : Prop := maskBerths c.left = bs
    only ct.startBatch ∧ c.stage = 1 ∧ left [b.val] ∧ s.pltIdle b = true ∧ s.startWaits b = false ∧ s.berthBusy b = false ∧ (dw c.desc 2).getLsbD 48 = true ∧ s.twinRole = 0) ∧
   (let s : State := (cmdState (aCmd ct.startBatch 1 255 0 1)).setBit (PLT_STAT.UC_VALID 0) true
    let i : Fin 64 := 0
    let c : Cmd := aCmd ct.startBatch 1 255 0 1
    let b : Fin 64 := 0
    let r := s.ring i
    let only (ty : Nat) : Prop := r.cmds = [c] ∧ c.type = ty
    let left (bs : List Nat) : Prop := maskBerths c.left = bs
    only ct.startBatch ∧ c.stage = 1 ∧ left [b.val] ∧ s.pltIdle b = true ∧ s.startWaits b = false ∧ s.berthBusy b = false ∧ (dw c.desc 2).getLsbD 48 = false ∧ Tick.diff s.tick ((dw c.desc 2).setWidth 48) < 256) ∧
   (let s : State := (cmdState (aCmd ct.startBatch 1 0 0 1)).set (PLT_STAT.STATE 0) plt.run
    let i : Fin 64 := 0
    let c : Cmd := aCmd ct.startBatch 1 0 0 1
    let b : Fin 64 := 0
    let r := s.ring i
    let only (ty : Nat) : Prop := r.cmds = [c] ∧ c.type = ty
    let left (bs : List Nat) : Prop := maskBerths c.left = bs
    only ct.startBatch ∧ c.stage = 1 ∧ left [b.val] ∧ s.pltIdle b = false) ∧
   (let s : State := withPilot (cmdState (aCmd ct.stop 1 0 0 0)) (fun p => { p with busy := true })
    let i : Fin 64 := 0
    let c : Cmd := aCmd ct.stop 1 0 0 0
    let b : Fin 64 := 0
    let r := s.ring i
    let only (ty : Nat) : Prop := r.cmds = [c] ∧ c.type = ty
    only ct.stop ∧ c.stage = 0 ∧ dw c.desc 1 = 1#64 <<< b.val ∧ dw c.desc 2 = 0 ∧ s.berthBusy b = true) ∧
   (let s : State := cmdState ({ aCmd ct.stop 1 0 0 1 with marks := [0] })
    let i : Fin 64 := 0
    let c : Cmd := { aCmd ct.stop 1 0 0 1 with marks := [0] }
    let b : Fin 64 := 0
    let r := s.ring i
    let only (ty : Nat) : Prop := r.cmds = [c] ∧ c.type = ty
    only ct.stop ∧ c.stage = 1 ∧ c.marks = [b.val] ∧ dw c.desc 2 = 0 ∧ s.bit (PLT_CTRL.STOP b) = false ∧ s.bit (PLT_CTRL.STOP_BND b) = false) ∧
   (let s : State := cmdState (aCmd ct.readState 0 1 1 0)
    let i : Fin 64 := 0
    let c : Cmd := aCmd ct.readState 0 1 1 0
    let b : Fin 64 := 0
    let r := s.ring i
    let only (ty : Nat) : Prop := r.cmds = [c] ∧ c.type = ty
    only ct.readState ∧ c.stage = 0 ∧ (dw c.desc 2).getLsbD 0 = true ∧ dw c.desc 3 = 1#64 <<< b.val) ∧
   (let s : State := cmdState (aCmd ct.readState 0 0 (1 <<< 32) 0)
    let i : Fin 64 := 0
    let c : Cmd := aCmd ct.readState 0 0 (1 <<< 32) 0
    let r := s.ring i
    let only (ty : Nat) : Prop := r.cmds = [c] ∧ c.type = ty
    only ct.readState ∧ c.stage = 0 ∧ (dw c.desc 2).getLsbD 0 = false ∧ dfld c.desc 3 32 11 = 1 ∧ s.regDown (dfld c.desc 3 0 26) = false) ∧
   (let s : State := cmdState (aCmd ct.fence 0 0 0 0)
    let i : Fin 64 := 0
    let c : Cmd := aCmd ct.fence 0 0 0 0
    let r := s.ring i
    let only (ty : Nat) : Prop := r.cmds = [c] ∧ c.type = ty
    only ct.fence) ∧
   (let s : State := cmdState (aCmd ct.fence 0 0 0 1)
    let i : Fin 64 := 0
    let c : Cmd := aCmd ct.fence 0 0 0 1
    let r := s.ring i
    let only (ty : Nat) : Prop := r.cmds = [c] ∧ c.type = ty
    only ct.fence ∧ c.stage = 1 ∧ dw c.desc 1 = 0 ∧ (dw c.desc 2).getLsbD 0 = false) ∧
   (let s : State := cmdState (aCmd ct.fence 0 0 0 0)
    let i : Fin 64 := 0
    let c : Cmd := aCmd ct.fence 0 0 0 0
    let r := s.ring i
    let only (ty : Nat) : Prop := r.cmds = [c] ∧ c.type = ty
    only ct.fence ∧ c.stage = 0) ∧
   (let s : State := (cmdState (aCmd ct.calRequest 0 0 0 0)).setBit CAL_STAT.SELF_BUSY true
    let i : Fin 64 := 0
    let c : Cmd := aCmd ct.calRequest 0 0 0 0
    let r := s.ring i
    let only (ty : Nat) : Prop := r.cmds = [c] ∧ c.type = ty
    let cal (k : Nat) : Prop := only ct.calRequest ∧ dfld c.desc 2 0 2 = k ∧ c.stage = 0
    cal 0 ∧ s.bit CAL_STAT.SELF_BUSY = true) ∧
   (let s : State := cmdState (aCmd ct.calRequest 0 0 0 0)
    let i : Fin 64 := 0
    let c : Cmd := aCmd ct.calRequest 0 0 0 0
    let r := s.ring i
    let only (ty : Nat) : Prop := r.cmds = [c] ∧ c.type = ty
    let cal (k : Nat) : Prop := only ct.calRequest ∧ dfld c.desc 2 0 2 = k ∧ c.stage = 0
    cal 0 ∧ s.bit CAL_STAT.SELF_BUSY = false) ∧
   (let s : State := (cmdState (aCmd ct.calRequest 0 1 0 0)).setBit (RDI_SCAL_STAT.BUSY 0) true
    let i : Fin 64 := 0
    let c : Cmd := aCmd ct.calRequest 0 1 0 0
    let r := s.ring i
    let only (ty : Nat) : Prop := r.cmds = [c] ∧ c.type = ty
    let cal (k : Nat) : Prop := only ct.calRequest ∧ dfld c.desc 2 0 2 = k ∧ c.stage = 0
    cal 1 ∧ s.bit (RDI_SCAL_STAT.BUSY (dfld c.desc 2 4 4)) = true) ∧
   (let s : State := cmdState (aCmd ct.calRequest 0 1 0 0)
    let i : Fin 64 := 0
    let c : Cmd := aCmd ct.calRequest 0 1 0 0
    let r := s.ring i
    let only (ty : Nat) : Prop := r.cmds = [c] ∧ c.type = ty
    let cal (k : Nat) : Prop := only ct.calRequest ∧ dfld c.desc 2 0 2 = k ∧ c.stage = 0
    cal 1 ∧ s.bit (RDI_SCAL_STAT.BUSY (dfld c.desc 2 4 4)) = false) ∧
   (let s : State := (cmdState (aCmd ct.calRequest 0 2 0 0)).set (CAL_CONV.STATE 0) convSt.failed
    let i : Fin 64 := 0
    let c : Cmd := aCmd ct.calRequest 0 2 0 0
    let r := s.ring i
    let only (ty : Nat) : Prop := r.cmds = [c] ∧ c.type = ty
    let cal (k : Nat) : Prop := only ct.calRequest ∧ dfld c.desc 2 0 2 = k ∧ c.stage = 0
    cal 2 ∧ s.convState (dfld c.desc 2 16 9) = convSt.failed) ∧
   (let s : State := cmdState (aCmd ct.calRequest 0 2 0 0)
    let i : Fin 64 := 0
    let c : Cmd := aCmd ct.calRequest 0 2 0 0
    let r := s.ring i
    let only (ty : Nat) : Prop := r.cmds = [c] ∧ c.type = ty
    let cal (k : Nat) : Prop := only ct.calRequest ∧ dfld c.desc 2 0 2 = k ∧ c.stage = 0
    cal 2 ∧ s.convState (dfld c.desc 2 16 9) = convSt.inService ∧ s.get (CAL_CONV.PARTNER (dfld c.desc 2 16 9)) = noPartner) ∧
   (let s : State := cmdState (aCmd ct.calRequest 0 3 0 0)
    let i : Fin 64 := 0
    let c : Cmd := aCmd ct.calRequest 0 3 0 0
    let r := s.ring i
    let only (ty : Nat) : Prop := r.cmds = [c] ∧ c.type = ty
    let cal (k : Nat) : Prop := only ct.calRequest ∧ dfld c.desc 2 0 2 = k ∧ c.stage = 0
    cal 3 ∧ dfld c.desc 2 32 8 ≠ 0xA5) ∧
   (let s : State := cmdState (aCmd ct.calRequest 0 3 0 1)
    let i : Fin 64 := 0
    let c : Cmd := aCmd ct.calRequest 0 3 0 1
    let r := s.ring i
    let only (ty : Nat) : Prop := r.cmds = [c] ∧ c.type = ty
    only ct.calRequest ∧ dfld c.desc 2 0 2 = 3 ∧ c.stage = 1 ∧ s.fuseJob = none) :=
  ⟨by decide +kernel,
   by decide +kernel,
   by decide +kernel,
   by decide +kernel,
   by decide +kernel,
   by decide +kernel,
   by decide +kernel,
   by decide +kernel,
   by decide +kernel,
   by decide +kernel,
   by decide +kernel,
   by decide +kernel,
   by decide +kernel,
   by decide +kernel,
   by decide +kernel,
   by decide +kernel,
   by decide +kernel,
   by decide +kernel,
   by decide +kernel,
   by decide +kernel,
   by decide +kernel,
   by decide +kernel⟩

theorem witness_LanesTrainAndLoseLock :
   (let s : State := readyAt 0
    let l : Fin 32 := 0
    let st := s.laneSt l
    st = ln.off ∧ s.laneAwake l = true ∧ s.get (LANE_CTRL.LOOP l) = 0) ∧
   (let s : State := readyAt 0
    let l : Fin 32 := 0
    let tx : Bool := false
    let rx : Bool := false
    let st := s.laneSt l
    st = ln.off ∧ (tx && rx) = false) ∧
   (let s : State := laneState ln.cdr 0 (fun k => k)
    let l : Fin 32 := 0
    let tx : Bool := true
    let rx : Bool := false
    let st := s.laneSt l
    st ≠ ln.off ∧ (tx && rx) = false) ∧
   (let s : State := readyAt 0
    let l : Fin 32 := 0
    let st := s.laneSt l
    st = ln.off) ∧
   (let s : State := laneState ln.cdr 0 (fun k => k)
    let l : Fin 32 := 0
    let st := s.laneSt l
    st ≠ ln.off ∧ s.get (LANE_CTRL.LOOP l) = 0) ∧
   (let s : State := laneState ln.cdr 0 (fun k => k)
    let l : Fin 32 := 0
    let v : BitVec 3 := 3
    let st := s.laneSt l
    st ≠ ln.off ∧ 1 ≤ v.toNat ∧ v.toNat ≤ 3) ∧
   (let s : State := laneState ln.loopback 0 (fun k => k)
    let l : Fin 32 := 0
    let v : BitVec 3 := 0
    let st := s.laneSt l
    st = ln.loopback ∧ v = 0) ∧
   (let s : State := readyAt 0
    let l : Fin 32 := 0
    let g : BitVec 2 := 2
    let st := s.laneSt l
    (g = 1 ∨ g = 2) ∧ st ≠ ln.loopback ∧ st ≠ ln.cdr) ∧
   (let s : State := laneState ln.loopback 0 (fun k => k)
    let l : Fin 32 := 0
    let st := s.laneSt l
    st = ln.loopback ∧ s.get (LANE_CTRL.PRBS_CHK l) = 0) ∧
   (let s : State := laneState ln.cdr 0 (fun k => k)
    let l : Fin 32 := 0
    let st := s.laneSt l
    st = ln.cdr) ∧
   (let s : State := readyAt 0
    let l : Fin 32 := 0
    let st := s.laneSt l
    st ≠ ln.cdr) ∧
   (let s : State := laneState ln.hunt 0 (fun k => k)
    let l : Fin 32 := 0
    let st := s.laneSt l
    st = ln.hunt) ∧
   (let s : State := readyAt 0
    let l : Fin 32 := 0
    let st := s.laneSt l
    st ≠ ln.hunt) ∧
   (let s : State := laneState ln.up 0 (fun k => k)
    let l : Fin 32 := 0
    let bad : Word := 16
    let st := s.laneSt l
    (st = ln.locked ∨ st = ln.up) ∧ 16 ≤ bad.toNat) ∧
   (let s : State := laneState ln.locked 0 (fun k => k)
    let l : Fin 32 := 0
    let bad : Word := 15
    let st := s.laneSt l
    (st = ln.locked ∨ st = ln.up) ∧ bad.toNat < 16) ∧
   (let s : State := laneState ln.locked 0 (fun k => k)
    let l : Fin 32 := 0
    let blk : BitVec 64 := 0x2000033
    let st := s.laneSt l
    st = ln.locked ∧ blk.extractLsb' 0 8 = 0x33 ∧ blk.getLsbD 25 = true) ∧
   (let s : State := readyAt 0
    let l : Fin 32 := 0
    let st := s.laneSt l
    st ≠ ln.locked ∧ st ≠ ln.up) ∧
   (let s : State := laneState ln.locked 0 (fun k => k)
    let l : Fin 32 := 0
    let st := s.laneSt l
    st = ln.locked) ∧
   (let s : State := laneState ln.up 27034 (fun k => { k with lastAlive := some 0 })
    let l : Fin 32 := 0
    let st := s.laneSt l
    let k := s.lane l
    st = ln.up ∧ s.since k.lastAlive 27034 = true) ∧
   (let s : State := laneState ln.up 27033 (fun k => { k with lastAlive := some 0 })
    let l : Fin 32 := 0
    let k := s.lane l
    s.since k.lastAlive 27034 = false) ∧
   (let s : State := laneState ln.hunt 150000000 (fun k => { k with noUp := some 0 })
    let l : Fin 32 := 0
    let st := s.laneSt l
    let k := s.lane l
    (st = ln.cdr ∨ st = ln.hunt ∨ st = ln.locked) ∧ s.since k.noUp 150000000 = true ∧ k.absentTold = false) ∧
   (let s : State := laneState ln.hunt 149999999 (fun k => { k with noUp := some 0 })
    let l : Fin 32 := 0
    let k := s.lane l
    s.since k.noUp 150000000 = false) ∧
   (let s : State := laneState ln.absent 15000000 (fun k => { k with lastRetry := some 0 })
    let l : Fin 32 := 0
    let st := s.laneSt l
    let k := s.lane l
    st = ln.absent ∧ s.since k.lastRetry 15000000 = true) ∧
   (let s : State := laneState ln.absent 14999999 (fun k => { k with lastRetry := some 0 })
    let l : Fin 32 := 0
    let st := s.laneSt l
    let k := s.lane l
    (st ≠ ln.absent ∨ s.since k.lastRetry 15000000 = false)) ∧
   (let s : State := laneState ln.cdr 15000000 (fun k => { k with noLock := some 0 })
    let l : Fin 32 := 0
    let st := s.laneSt l
    let k := s.lane l
    (st = ln.cdr ∨ st = ln.hunt ∨ st = ln.absent) ∧ s.since k.noLock 15000000 = true ∧ k.lostTold = false) ∧
   (let s : State := laneState ln.cdr 15000000 (fun k => { k with lostTold := true })
    let l : Fin 32 := 0
    let k := s.lane l
    k.lostTold = true) ∧
   (let s : State := laneState ln.up 0 (fun k => k)
    let l : Fin 32 := 0
    let type : BitVec 8 := 1
    let st := s.laneSt l
    (st = ln.locked ∨ st = ln.up) ∧ type.toNat ∉ [0x0F, 0x33, 0x3C, 0x55, 0x5A]) ∧
   (let type : BitVec 8 := 0x5A
    type.toNat ∈ [0x0F, 0x33, 0x3C, 0x55, 0x5A]) ∧
   (let s : State := laneState ln.up 0 (fun k => k)
    let l : Fin 32 := 0
    let errs : Word := 0x80000000
    let st := s.laneSt l
    let k := s.lane l
    errs.getLsbD 31 = true ∧ k.eye = none ∧ st ≠ ln.off ∧ st ≠ ln.eidle) ∧
   (let s : State := laneState ln.up (2 ^ 47 - 1) (fun k => { k with eye := some 0 })
    let l : Fin 32 := 0
    let k := s.lane l
    let span := 256 + (2 ^ (s.get (LANE_EYE_CTRL.DWELL l) + 16) + 19) / 20
    s.since k.eye span = true) ∧
   (let s : State := readyAt 0
    let l : Fin 32 := 0
    let k := s.lane l
    let span := 256 + (2 ^ (s.get (LANE_EYE_CTRL.DWELL l) + 16) + 19) / 20
    s.since k.eye span = false) :=
  ⟨by decide +kernel,
   by decide +kernel,
   by decide +kernel,
   by decide +kernel,
   by decide +kernel,
   by decide +kernel,
   by decide +kernel,
   by decide +kernel,
   by decide +kernel,
   by decide +kernel,
   by decide +kernel,
   by decide +kernel,
   by decide +kernel,
   by decide +kernel,
   by decide +kernel,
   by decide +kernel,
   by decide +kernel,
   by decide +kernel,
   by decide +kernel,
   by decide +kernel,
   by decide +kernel,
   by decide +kernel,
   by decide +kernel,
   by decide +kernel,
   by decide +kernel,
   by decide +kernel,
   by decide +kernel,
   by decide +kernel,
   by decide +kernel,
   by decide +kernel,
   by decide +kernel⟩

theorem witness_LanesIdle :
   (let l : Fin 32 := 0
    l.val % 4 = 0) ∧
   (let l : Fin 32 := 1
    l.val % 4 ≠ 0) ∧
   (let s : State := ((laneState ln.up 0 (fun k => k)).setBit (LANE_CTRL.EIDLE 0) true).setBit (PORT_STAT.UP 0) true
    let p : Fin 8 := 0
    s.bit (LANE_CTRL.EIDLE (4 * p)) = true ∧ s.bit (PORT_STAT.UP p) = true ∧ s.portEmpty p = true) ∧
   (let s : State := readyAt 0
    let p : Fin 8 := 0
    (s.bit (PORT_STAT.UP p) = false ∨ s.portEmpty p = false)) ∧
   (let s : State := laneState ln.up 0 (fun k => k)
    let l : Fin 32 := 0
    let st := s.laneSt l
    st = ln.up) ∧
   (let s : State := laneState ln.eidle 0 (fun k => k)
    let l : Fin 32 := 0
    let st := s.laneSt l
    st = ln.eidle) ∧
   (let s : State := readyAt 0
    let l : Fin 32 := 0
    let st := s.laneSt l
    st ≠ ln.up ∧ st ≠ ln.eidle) ∧
   (let s : State := laneState ln.eidle 1500000 (fun k => { k with keepSent := some 0 })
    let l : Fin 32 := 0
    let st := s.laneSt l
    let k := s.lane l
    st = ln.eidle ∧ s.since k.keepSent 1500000 = true) ∧
   (let s : State := laneState ln.eidle 1499999 (fun k => { k with keepSent := some 0 })
    let l : Fin 32 := 0
    let k := s.lane l
    s.since k.keepSent 1500000 = false) ∧
   (let s : State := laneState ln.eidle 6000000 (fun k => { k with keepSeen := some 0 })
    let l : Fin 32 := 0
    let st := s.laneSt l
    let k := s.lane l
    st = ln.eidle ∧ s.since k.keepSeen 6000000 = true) ∧
   (let s : State := laneState ln.eidle 5999999 (fun k => { k with keepSeen := some 0 })
    let l : Fin 32 := 0
    let k := s.lane l
    s.since k.keepSeen 6000000 = false) ∧
   (let s : State := laneState ln.eidle 0 (fun k => k)
    let l : Fin 32 := 0
    let p : Fin 8 := 0
    let st := s.laneSt l
    l.val / 4 = p.val ∧ st = ln.eidle) ∧
   (let s : State := laneState ln.up 0 (fun k => k)
    let l : Fin 32 := 0
    let p : Fin 8 := 0
    let st := s.laneSt l
    l.val / 4 = p.val ∧ st ≠ ln.eidle) ∧
   (let s : State := laneState ln.exit 192 (fun k => { k with exit := some 0 })
    let l : Fin 32 := 0
    let st := s.laneSt l
    let k := s.lane l
    st = ln.exit ∧ s.since k.exit 192 = true) ∧
   (let s : State := laneState ln.exit 191 (fun k => { k with exit := some 0 })
    let l : Fin 32 := 0
    let st := s.laneSt l
    let k := s.lane l
    (st ≠ ln.exit ∨ s.since k.exit 192 = false)) :=
  ⟨by decide +kernel,
   by decide +kernel,
   by decide +kernel,
   by decide +kernel,
   by decide +kernel,
   by decide +kernel,
   by decide +kernel,
   by decide +kernel,
   by decide +kernel,
   by decide +kernel,
   by decide +kernel,
   by decide +kernel,
   by decide +kernel,
   by decide +kernel,
   by decide +kernel⟩

theorem witness_MeshCarriesFlits :
   (let s : State := portState 26 (fun q => { q with queue := [aFlit] })
    let p : Fin 6 := 0
    let f : Flit := aFlit
    let rest : List Flit := []
    let q := s.meshPort p
    (∀ x, q.lastSent = some x → x.1 ≠ s.tick) ∧ s.flitsOut = [] ∧ s.meshCarries p = true ∧ q.queue = f :: rest ∧ Tick.before f.joined s.tick = true) ∧
   (let s : State := portState 26 (fun q => q)
    let p : Fin 6 := 0
    let q := s.meshPort p
    s.flitsOut = [] ∧ (s.meshCarries p = false ∨ q.queue = [])) ∧
   (let s : State := State.reset
    let p : Fin 6 := 0
    let carries : Prop := s.bit (PORT_STAT.UP p) = true ∧ (s.meshUse p = true ∨ (s.get MESH_STAT.HOLD).testBit p = true)
    ¬carries) ∧
   (let s : State := portState 26 (fun q => q)
    let p : Fin 6 := 0
    let w : BitVec 64 := 8
    let carries : Prop := s.bit (PORT_STAT.UP p) = true ∧ (s.meshUse p = true ∨ (s.get MESH_STAT.HOLD).testBit p = true)
    carries ∧ (flit.type w = 0 ∨ 8 ≤ flit.type w)) ∧
   (let s : State := portState 26 (fun q => q)
    let p : Fin 6 := 0
    let w : BitVec 64 := 1
    let carries : Prop := s.bit (PORT_STAT.UP p) = true ∧ (s.meshUse p = true ∨ (s.get MESH_STAT.HOLD).testBit p = true)
    let onTime : Prop := (s.tick - 26).toNat % 8 = (w.extractLsb' 4 3).toNat
    carries ∧ flit.type w = 1 ∧ onTime ∧ flit.dst w = s.meshAddr) ∧
   (let s : State := portState 27 (fun q => q)
    let p : Fin 6 := 0
    let w : BitVec 64 := 1
    let q := s.meshPort p
    let carries : Prop := s.bit (PORT_STAT.UP p) = true ∧ (s.meshUse p = true ∨ (s.get MESH_STAT.HOLD).testBit p = true)
    let onTime : Prop := (s.tick - 26).toNat % 8 = (w.extractLsb' 4 3).toNat
    carries ∧ flit.type w = 1 ∧ ¬onTime ∧ flit.dst w = s.meshAddr ∧ q.lateTold = false) ∧
   (let s : State := portState 26 (fun q => q)
    let p : Fin 6 := 0
    let w : BitVec 64 := 0x100101
    let carries : Prop := s.bit (PORT_STAT.UP p) = true ∧ (s.meshUse p = true ∨ (s.get MESH_STAT.HOLD).testBit p = true)
    let onTime : Prop := (s.tick - 26).toNat % 8 = (w.extractLsb' 4 3).toNat
    carries ∧ flit.type w = 1 ∧ onTime ∧ flit.dst w ≠ s.meshAddr ∧ flit.ttl w ≤ 1) ∧
   (let s : State := portState 26 (fun q => q)
    let p : Fin 6 := 0
    let o : Fin 6 := 0
    let w : BitVec 64 := 0x200101
    let ra : Bool := false
    let carries : Prop := s.bit (PORT_STAT.UP p) = true ∧ (s.meshUse p = true ∨ (s.get MESH_STAT.HOLD).testBit p = true)
    let onTime : Prop := (s.tick - 26).toNat % 8 = (w.extractLsb' 4 3).toNat
    carries ∧ flit.type w = 1 ∧ onTime ∧ flit.dst w ≠ s.meshAddr ∧ 2 ≤ flit.ttl w ∧ s.meshRoute (flit.dst w) (flit.ra w) (some p) = some (o.val, ra) ∧ (s.meshPort o).queue.length < 64) ∧
   (let s : State := portState (2 ^ 47 - 1) (fun q => { q with holdFrom := some 0 })
    let p : Fin 6 := 0
    let u : Tick := 0
    let q := s.meshPort p
    q.holdFrom = some u ∧ ((Nat.max 1 (s.get MESH_HOLD.US) * 1500 : Nat) : Int) ≤ Tick.diff u s.tick) ∧
   (let s : State := State.reset
    let p : Fin 6 := 0
    let q := s.meshPort p
    q.holdFrom = none) :=
  ⟨⟨of_all (by decide +kernel), by decide +kernel⟩,
   by decide +kernel,
   by decide +kernel,
   by decide +kernel,
   by decide +kernel,
   by decide +kernel,
   by decide +kernel,
   by decide +kernel,
   by decide +kernel,
   by decide +kernel⟩

theorem witness_MailboxMessagesTravel :
   (let s : State := portState 26 (fun q => { q with msgs := [aMsg] })
    let p : Fin 6 := 0
    let m : MeshMsg := aMsg
    let rest : List MeshMsg := []
    let q := s.meshPort p
    q.msgs = m :: rest ∧ s.meshCarries p = true ∧ q.credits ≠ 0) ∧
   (let s : State := State.reset
    let p : Fin 6 := 0
    let q := s.meshPort p
    (q.msgs = [] ∨ q.credits = 0 ∨ s.meshCarries p = false)) ∧
   (let s : State := portState 26 (fun q => q)
    let p : Fin 6 := 0
    let up := s.bit (PORT_STAT.UP p)
    up = true) ∧
   (let s : State := State.reset
    let p : Fin 6 := 0
    let up := s.bit (PORT_STAT.UP p)
    up = false) ∧
   (let s : State := State.reset
    let p : Fin 6 := 0
    let w : BitVec 64 := 0
    let up := s.bit (PORT_STAT.UP p)
    (up = false ∨ flit.type w ≠ 4)) ∧
   (let s : State := portState 26 (fun q => q)
    let p : Fin 6 := 0
    let w : BitVec 64 := 4
    let up := s.bit (PORT_STAT.UP p)
    up = true ∧ flit.type w = 4) ∧
   (let s : State := ((portState 26 (fun q => q)).set (MBX_CFG.PROD 0) 2).setBit (MBX_CFG.NOTIFY 0) false
    let p : Fin 6 := 0
    let w : BitVec 64 := 4
    let data : List Word := [7]
    let up := s.bit (PORT_STAT.UP p)
    let b := (w.extractLsb' 37 5).toNat
    let whole : Prop := up = true ∧ flit.type w = 4 ∧ data.length = (w.extractLsb' 42 4).toNat + 1
    whole ∧ flit.dst w = s.meshAddr ∧ s.mbxProd b = 2 ∧ s.mbxDown b = false ∧ s.mbxCons b ≠ 2 ∧ s.bit (MBX_CFG.NOTIFY b) = false) ∧
   (let s : State := (portState 26 (fun q => q)).set (MBX_CFG.PROD 0) 0
    let p : Fin 6 := 0
    let w : BitVec 64 := 4
    let data : List Word := [7]
    let up := s.bit (PORT_STAT.UP p)
    let b := (w.extractLsb' 37 5).toNat
    let whole : Prop := up = true ∧ flit.type w = 4 ∧ data.length = (w.extractLsb' 42 4).toNat + 1
    whole ∧ flit.dst w = s.meshAddr ∧ s.mbxProd b ≠ 2) ∧
   (let s : State := portState 26 (fun q => q)
    let p : Fin 6 := 0
    let o : Fin 6 := 0
    let w : BitVec 64 := 0x200104
    let data : List Word := [7]
    let ra : Bool := false
    let up := s.bit (PORT_STAT.UP p)
    let whole : Prop := up = true ∧ flit.type w = 4 ∧ data.length = (w.extractLsb' 42 4).toNat + 1
    whole ∧ flit.dst w ≠ s.meshAddr ∧ 2 ≤ flit.ttl w ∧ s.meshRoute (flit.dst w) (flit.ra w) (some p) = some (o.val, ra)) :=
  ⟨by decide +kernel,
   by decide +kernel,
   by decide +kernel,
   by decide +kernel,
   by decide +kernel,
   by decide +kernel,
   by decide +kernel,
   by decide +kernel,
   by decide +kernel⟩

theorem witness_TimeFollowsTheParent :
   (let s : State := { portState 26 (fun q => q) with time := { TimeSt.init with nbs := [(0, { hops := 1, normal := true, locked := true })] } }
    let p : Fin 8 := 0
    let due : Prop := ∀ v, s.time.lastReq = some v → 96000 ≤ Tick.diff v s.tick
    due ∧ s.bit TIME_CFG.MASTER = false ∧ s.timeChoice = some p.val) ∧
   (let s : State := (readyAt 0).setBit TIME_CFG.MASTER true
    let due : Prop := ∀ v, s.time.lastReq = some v → 96000 ≤ Tick.diff v s.tick
    (s.bit TIME_CFG.MASTER = true ∨ ¬due)) ∧
   (let s : State := portState 26 (fun q => q)
    let p : Fin 8 := 0
    let blk : BitVec 64 := 0x055
    s.timePort p = true ∧ blk.extractLsb' 0 9 = 0x055) ∧
   (let s : State := State.reset
    let p : Fin 8 := 0
    s.timePort p = false) ∧
   (let s : State := State.reset
    s.time.waiting = none) ∧
   (let s : State := { readyAt 0 with time := { TimeSt.init with waiting := some (1, 0, 0) } }
    let p : Fin 8 := 0
    let blk : BitVec 64 := 0
    let k : BitVec 8 := 1
    let x : BitVec 56 := 0
    s.time.waiting = some (k, p.val, x) ∧ blk.extractLsb' 9 8 ≠ k) ∧
   (let s : State := { portState 26 (fun q => q) with time := { TimeSt.init with waiting := some (1, 0, 0), parent := some 0 } }
    let p : Fin 8 := 0
    let blk : BitVec 64 := 0x355
    let k : BitVec 8 := 1
    let x : BitVec 56 := 0
    s.time.waiting = some (k, p.val, x) ∧ s.timePort p = true ∧ blk.extractLsb' 0 9 = 0x155 ∧ blk.extractLsb' 9 8 = k ∧ s.time.parent = some p.val ∧ blk.extractLsb' 17 5 ≠ 31) ∧
   (let s : State := { readyAt 24000 with time := { TimeSt.init with waiting := some (1, 0, 0), lastReq := some 0 } }
    let p : Fin 8 := 0
    let k : BitVec 8 := 1
    let u : Tick := 0
    let x : BitVec 56 := 0
    s.time.waiting = some (k, p.val, x) ∧ s.time.lastReq = some u ∧ 24000 ≤ Tick.diff u s.tick) ∧
   (let s : State := State.reset
    s.timeNormal = true) ∧
   (let s : State := portState 26 (fun q => q)
    s.timeNormal = false) ∧
   (let s : State := { portState 26 (fun q => q) with time := { TimeSt.init with normal := true } }
    let free : Prop := s.bit TIME_CFG.MASTER = false ∧ s.singleDevice = false
    free ∧ s.time.normal = true) ∧
   (let s : State := (readyAt 0).setBit TIME_CFG.MASTER true
    s.bit TIME_CFG.MASTER = true) ∧
   (let s : State := State.reset
    s.bit TIME_CFG.MASTER = false) ∧
   (let s : State := { portState 4096 (fun q => q) with time := { TimeSt.init with hist := List.replicate 16 0, parent := some 0, nbs := [(0, { hops := 1, normal := true, locked := true })], ticks := 5 } }
    s.timeAgreed = true ∧ s.timeQuiet = true ∧ s.tick.toNat % 4096 = 0) ∧
   (let s : State := ({ portState 4096 (fun q => q) with time := { TimeSt.init with hist := List.replicate 16 0, parent := some 0, nbs := [(0, { hops := 1, normal := true, locked := true })], ticks := 5 } }).set (PLT_STAT.STATE 0) plt.run
    s.timeAgreed = true ∧ s.timeQuiet = false) ∧
   (let s : State := { readyAt 0 with time := { TimeSt.init with reload := some 5 } }
    let d : BitVec 64 := 5
    s.time.reload = some d ∧ s.tick.toNat % 4096 = 0) ∧
   (let s : State := State.reset
    (s.time.reload = none ∨ s.tick.toNat % 4096 ≠ 0)) ∧
   (let s : State := { readyAt 0 with time := { TimeSt.init with c := 0 } }
    s.timeNormal = true ∧ ((s.time.c - timeInc).extractLsb' 32 32).msb = true ∧ s.timeNs.msb = false ∧ s.time.wrapDone = false) ∧
   (let s : State := { readyAt 0 with time := { TimeSt.init with wrapDone := true } }
    (s.timeNs.msb = true ∨ s.time.wrapDone = true)) :=
  ⟨⟨of_all (by decide +kernel), by decide +kernel⟩,
   Or.inl (by decide +kernel),
   by decide +kernel,
   by decide +kernel,
   by decide +kernel,
   by decide +kernel,
   by decide +kernel,
   by decide +kernel,
   by decide +kernel,
   by decide +kernel,
   by decide +kernel,
   by decide +kernel,
   by decide +kernel,
   by decide +kernel,
   by decide +kernel,
   by decide +kernel,
   by decide +kernel,
   by decide +kernel,
   by decide +kernel⟩

theorem witness_PostAndClearInOneTick :
   (let s : State := (readyAt 0).set (MBX_CFG.CONS 0) 1
    let m : Fin 32 := 0
    let a : Fin 2 := 0
    let b : Fin 2 := 1
    (∀ p, s.mbx m = some p → p.tick ≠ s.tick) ∧ s.mbxDown m = false ∧ s.mbxProd m = a.val ∧ s.mbxCons m = b.val) :=
  ⟨of_all (by decide +kernel), by decide +kernel⟩

theorem witness_MailboxesPostAndClear :
   (let s : State := State.reset
    let m : Fin 32 := 0
    s.mbxDown m = true) ∧
   (let s : State := readyAt 0
    let m : Fin 32 := 0
    let a : Fin 2 := 1
    let up : Prop := s.mbxDown m = false
    let prod : Prop := s.mbxProd m = a.val
    up ∧ ¬prod) ∧
   (let s : State := readyAt 0
    let m : Fin 32 := 0
    let a : Fin 2 := 0
    let up : Prop := s.mbxDown m = false
    let prod : Prop := s.mbxProd m = a.val
    up ∧ prod ∧ s.mbxCons m ≠ 2) ∧
   (let s : State := (readyAt 0).set (MBX_CFG.CONS 0) 1
    let m : Fin 32 := 0
    let a : Fin 2 := 0
    let cons : Prop := s.mbxCons m = a.val
    ¬cons) ∧
   (let s : State := State.reset
    let m : Fin 32 := 0
    let full := s.bit (MBX_CTRL.FULL m)
    full = false) ∧
   (let s : State := ((readyAt 0).set (MBX_CFG.CONS 0) 1).setBit (MBX_CTRL.FULL 0) true
    let m : Fin 32 := 0
    let a : Fin 2 := 1
    let full := s.bit (MBX_CTRL.FULL m)
    let cons : Prop := s.mbxCons m = a.val
    let earlier : Prop := ∀ p, s.mbx m = some p → p.tick ≠ s.tick
    earlier ∧ cons ∧ full = true) ∧
   (let s : State := readyAt 0
    let m : Fin 32 := 0
    let i : Fin 16 := 1
    let a : Fin 2 := 0
    let up : Prop := s.mbxDown m = false
    let cons : Prop := s.mbxCons m = a.val
    up ∧ (¬cons ∨ s.get (MBX_CTRL.LEN m) ≠ i.val)) ∧
   (let s : State := (((readyAt 0).set (MBX_CFG.CONS 0) 1).setBit (MBX_CTRL.FULL 0) true).set (MBX_CTRL.LEN 0) 3
    let m : Fin 32 := 0
    let i : Fin 16 := 3
    let a : Fin 2 := 1
    let full := s.bit (MBX_CTRL.FULL m)
    let up : Prop := s.mbxDown m = false
    let cons : Prop := s.mbxCons m = a.val
    let earlier : Prop := ∀ p, s.mbx m = some p → p.tick ≠ s.tick
    earlier ∧ up ∧ cons ∧ full = true ∧ s.get (MBX_CTRL.LEN m) = i.val) ∧
   (let s : State := readyAt 0
    let m : Fin 32 := 0
    let a : Fin 2 := 0
    let up : Prop := s.mbxDown m = false
    let prod : Prop := s.mbxProd m = a.val
    up ∧ prod) :=
  ⟨by decide +kernel,
   by decide +kernel,
   by decide +kernel,
   by decide +kernel,
   by decide +kernel,
   ⟨of_all (by decide +kernel), by decide +kernel⟩,
   by decide +kernel,
   ⟨of_all (by decide +kernel), by decide +kernel⟩,
   by decide +kernel⟩

theorem witness_EventsFireAndReachTasks :
   (let s : State := State.reset
    s.stage = stg.por) ∧
   (let s : State := readyAt 0
    let pin : Fin 8 := 0
    let level : Bool := false
    s.stage ≠ stg.por ∧ (s.evtIn pin = none ∨ s.evtIn pin = some level)) ∧
   (let s : State := (readyAt 0).setEvtIn 0 (some true)
    let pin : Fin 8 := 0
    let level : Bool := false
    let l : Bool := true
    s.stage ≠ stg.por ∧ s.evtIn pin = some l ∧ l ≠ level) ∧
   (let s : State := ({ State.reset with tick := 9 }.setBit (EVT_TMR_EN.EN 0) true).setTmr 0 (9, 5)
    let i : Fin 4 := 0
    let u : Tick := 5
    s.bit (EVT_TMR_EN.EN i) = true ∧ s.tmr i = (s.tick, u) ∧ Tick.before u s.tick = true) ∧
   (let s : State := State.reset
    let i : Fin 4 := 0
    (s.bit (EVT_TMR_EN.EN i) = false ∨ (s.tmr i).1 ≠ s.tick)) ∧
   (let s : State := State.reset
    s.pulses = []) ∧
   (let s : State := { readyAt 0 with pulses := [(0, 0)] }
    let u : Tick := 0
    let line : Fin 461 := 0
    s.pulses = [(line.val, u)] ∧ Tick.le u s.tick = true ∧ (s.bit (EVT_PROD.EN line) = false ∨ s.chOn (s.get (EVT_PROD.CH line)) = false)) ∧
   (let s : State := ({ readyAt 5 with pulses := [(0, 5)] }.setBit (EVT_PROD.EN 0) true).setEvtCh 0 { EvtCh.init with count := 0 }
    let c : Fin 256 := 0
    let u : Tick := 5
    let line : Fin 461 := 0
    let k := s.evtCh c
    let w := u.toNat / 15000
    let quiet : Prop := k.window = w → k.count < 1024
    let routed : Prop := s.pulses = [(line.val, u)] ∧ Tick.le u s.tick = true ∧ s.bit (EVT_PROD.EN line) = true ∧ s.get (EVT_PROD.CH line) = c.val ∧ s.chOn c = true
    routed ∧ quiet ∧ k.fired = none) ∧
   (let s : State := ({ readyAt 5 with pulses := [(0, 5)] }.setBit (EVT_PROD.EN 0) true).setEvtCh 0 { EvtCh.init with fired := some 0 }
    let c : Fin 256 := 0
    let u : Tick := 5
    let v : Tick := 0
    let line : Fin 461 := 0
    let k := s.evtCh c
    let w := u.toNat / 15000
    let quiet : Prop := k.window = w → k.count < 1024
    let routed : Prop := s.pulses = [(line.val, u)] ∧ Tick.le u s.tick = true ∧ s.bit (EVT_PROD.EN line) = true ∧ s.get (EVT_PROD.CH line) = c.val ∧ s.chOn c = true
    routed ∧ quiet ∧ k.fired = some v ∧ Tick.before u (v + 15) = true ∧ k.pend = none ∧ (k.fromPend = false ∨ v ≠ u)) ∧
   (let s : State := ({ readyAt 5 with pulses := [(0, 5)] }.setBit (EVT_PROD.EN 0) true).setEvtCh 0 { EvtCh.init with fired := some 0, pend := some 3 }
    let c : Fin 256 := 0
    let u : Tick := 5
    let v : Tick := 0
    let line : Fin 461 := 0
    let k := s.evtCh c
    let w := u.toNat / 15000
    let quiet : Prop := k.window = w → k.count < 1024
    let routed : Prop := s.pulses = [(line.val, u)] ∧ Tick.le u s.tick = true ∧ s.bit (EVT_PROD.EN line) = true ∧ s.get (EVT_PROD.CH line) = c.val ∧ s.chOn c = true
    routed ∧ quiet ∧ k.fired = some v ∧ Tick.before u (v + 15) = true ∧ k.pend ≠ none) ∧
   (let s : State := ({ readyAt 5 with pulses := [(0, 5)] }.setBit (EVT_PROD.EN 0) true).setEvtCh 0 { EvtCh.init with count := 1024 }
    let c : Fin 256 := 0
    let u : Tick := 5
    let line : Fin 461 := 0
    let k := s.evtCh c
    let w := u.toNat / 15000
    let routed : Prop := s.pulses = [(line.val, u)] ∧ Tick.le u s.tick = true ∧ s.bit (EVT_PROD.EN line) = true ∧ s.get (EVT_PROD.CH line) = c.val ∧ s.chOn c = true
    routed ∧ k.window = w ∧ 1024 ≤ k.count) ∧
   (let s : State := State.reset
    let c : Fin 256 := 0
    let k := s.evtCh c
    k.fired = none) ∧
   (let s : State := (readyAt 14).setEvtCh 0 { EvtCh.init with fired := some 0 }
    let c : Fin 256 := 0
    let v : Tick := 0
    let k := s.evtCh c
    k.fired = some v ∧ Tick.before s.tick (v + 15) = true) ∧
   (let s : State := (readyAt 15).setEvtCh 0 { EvtCh.init with fired := some 0 }
    let c : Fin 256 := 0
    let v : Tick := 0
    let k := s.evtCh c
    k.fired = some v ∧ Tick.before s.tick (v + 15) = false ∧ k.pend = none) ∧
   (let s : State := (readyAt 15).setEvtCh 0 { EvtCh.init with fired := some 0, pend := some 3 }
    let c : Fin 256 := 0
    let u : Tick := 3
    let v : Tick := 0
    let k := s.evtCh c
    k.fired = some v ∧ Tick.before s.tick (v + 15) = false ∧ k.pend = some u) ∧
   (let s : State := State.reset
    s.firings = []) ∧
   (let s : State := ({ { State.reset with tick := 2 } with firings := [aFiring] }).setBit (EVT_TASK.EN_A 216) true
    let q : Fin 221 := 216
    let f : Firing := aFiring
    let reaches (f : Firing) : Prop := 2 ≤ Tick.diff f.tick s.tick ∧ Tick.diff f.tick s.tick ≤ 8 ∧ q.val ∉ f.seen ∧ s.takes q f.ch = true
    s.firings = [f] ∧ reaches f ∧ s.taskDown q = true) ∧
   (let s : State := (({ readyAt 2 with firings := [aFiring] }).setBit (EVT_TASK.EN_A 64) true).setBit (SYN_JMP.GO 0) true
    let q : Fin 221 := 64
    let f : Firing := aFiring
    let reaches (f : Firing) : Prop := 2 ≤ Tick.diff f.tick s.tick ∧ Tick.diff f.tick s.tick ≤ 8 ∧ q.val ∉ f.seen ∧ s.takes q f.ch = true
    s.firings = [f] ∧ reaches f ∧ s.taskDown q = false ∧ s.taskBusy q f.ch = true) ∧
   (let s : State := ({ readyAt 2 with firings := [aFiring] }).setBit (EVT_TASK.EN_A 64) true
    let q : Fin 221 := 64
    let f : Firing := aFiring
    let reaches (f : Firing) : Prop := 2 ≤ Tick.diff f.tick s.tick ∧ Tick.diff f.tick s.tick ≤ 8 ∧ q.val ∉ f.seen ∧ s.takes q f.ch = true
    s.firings = [f] ∧ reaches f ∧ s.taskDown q = false ∧ s.taskBusy q f.ch = false) ∧
   (let s : State := ({ readyAt 2 with firings := [aFiring, aFiring] }).setBit (EVT_TASK.EN_A 64) true
    let q : Fin 221 := 64
    let f : Firing := aFiring
    let g : Firing := aFiring
    let reaches (f : Firing) : Prop := 2 ≤ Tick.diff f.tick s.tick ∧ Tick.diff f.tick s.tick ≤ 8 ∧ q.val ∉ f.seen ∧ s.takes q f.ch = true
    s.firings = [f, g] ∧ reaches f ∧ reaches g ∧ s.taskDown q = false ∧ s.taskBusy q f.ch = false) ∧
   (let q : Fin 221 := 151
    let j : Fin 8 := 7
    q.val = 144 + j.val) ∧
   (let s : State := State.reset
    s.groupTasks = []) ∧
   (let s : State := { readyAt 0 with groupTasks := [(31, true, 0)] }
    let u : Tick := 0
    let grp : Fin 32 := 31
    Tick.le u s.tick = true ∧ s.groupTasks = [(grp.val, true, u)]) ∧
   (let s : State := { readyAt 0 with groupTasks := [(31, true, 0), (31, false, 0)] }
    let u : Tick := 0
    let grp : Fin 32 := 31
    Tick.le u s.tick = true ∧ s.groupTasks = [(grp.val, true, u), (grp.val, false, u)]) ∧
   (let s : State := { readyAt 0 with groupTasks := [(31, false, 0)] }
    let u : Tick := 0
    let grp : Fin 32 := 31
    Tick.le u s.tick = true ∧ s.groupTasks = [(grp.val, false, u)]) ∧
   (let s : State := State.reset
    let pin : Fin 8 := 0
    s.evtOut pin = none) ∧
   (let s : State := (readyAt 0).setEvtOut 0 (some (3, 5))
    let pin : Fin 8 := 0
    let u : Tick := 5
    let v : Tick := 3
    s.evtOut pin = some (v, u)) ∧
   (let s : State := readyAt 1
    s.tick.toNat % 15000 ≠ 0) ∧
   (let s : State := State.reset
    s.tick.toNat % 15000 = 0) :=
  ⟨by decide +kernel,
   by decide +kernel,
   by decide +kernel,
   by decide +kernel,
   by decide +kernel,
   by decide +kernel,
   by decide +kernel,
   by decide +kernel,
   by decide +kernel,
   by decide +kernel,
   by decide +kernel,
   by decide +kernel,
   by decide +kernel,
   by decide +kernel,
   by decide +kernel,
   by decide +kernel,
   by decide +kernel,
   by decide +kernel,
   by decide +kernel,
   by decide +kernel,
   by decide +kernel,
   by decide +kernel,
   by decide +kernel,
   by decide +kernel,
   by decide +kernel,
   by decide +kernel,
   by decide +kernel,
   by decide +kernel,
   by decide +kernel⟩

theorem witness_TwinTakesOverAndYields :
   (let s : State := twinState role.standby 0 (fun tw => tw)
    let r := s.twinRole
    r = role.standby) ∧
   (let s : State := twinState role.taking 0 (fun tw => tw)
    let r := s.twinRole
    r = role.taking) ∧
   (let s : State := State.reset
    let r := s.twinRole
    r ≠ role.standby ∧ r ≠ role.taking) ∧
   (let s : State := twinState role.taking 1500 (fun tw => { tw with detect := some 0 })
    let d : Tick := 0
    let r := s.twinRole
    let w := s.twin
    r = role.taking ∧ w.detect = some d ∧ w.closed = false ∧ s.tick.toNat % 1500 = 0 ∧ Tick.le (d + 2) s.tick = true) ∧
   (let s : State := State.reset
    let r := s.twinRole
    let w := s.twin
    (w.detect = none ∨ r ≠ role.taking ∨ s.tick.toNat % 1500 ≠ 0)) ∧
   (let s : State := twinState role.taking 60000 (fun tw => { tw with fall := some 0 })
    let d : Tick := 0
    let r := s.twinRole
    let w := s.twin
    r = role.taking ∧ w.fall = some d ∧ s.tick.toNat % 1500 = 0 ∧ Tick.le (d + BitVec.ofNat 48 s.rfSettle) s.tick = true) ∧
   (let s : State := State.reset
    let r := s.twinRole
    let w := s.twin
    (w.fall = none ∨ r ≠ role.taking ∨ s.tick.toNat % 1500 ≠ 0)) ∧
   (let s : State := State.reset
    let r := s.twinRole
    let w := s.twin
    (r ≠ role.active ∨ w.yieldAt ≠ none)) ∧
   (let s : State := (twinState role.active 0 (fun tw => tw)).set TWIN_STAT.PROLE role.standby
    let r := s.twinRole
    let w := s.twin
    r = role.active ∧ w.yieldAt = none ∧ s.partnerRole = role.standby) ∧
   (let s : State := twinState role.active 0 (fun tw => tw)
    let r := s.twinRole
    let w := s.twin
    r = role.active ∧ w.yieldAt = none ∧ s.partnerRole ≠ role.standby) ∧
   (let s : State := State.reset
    let w := s.twin
    w.yieldAt = none) ∧
   (let s : State := twinState role.active 74999 (fun tw => { tw with yieldAt := some 0 })
    let d : Tick := 0
    let r := s.twinRole
    let w := s.twin
    w.yieldAt = some d ∧ r ≠ role.out ∧ Tick.diff d s.tick < 75000) ∧
   (let s : State := twinState role.active 75000 (fun tw => { tw with yieldAt := some 0 })
    let d : Tick := 0
    let w := s.twin
    w.yieldAt = some d ∧ 75000 ≤ Tick.diff d s.tick) ∧
   (let s : State := readyAt 0
    let r := s.twinRole
    let w := s.twin
    let fresh : Prop := s.bit TWIN_STAT.PARTNER_TAKE = false ∧ w.sensed = none
    (¬fresh ∨ (r ≠ role.active ∧ r ≠ role.taking))) ∧
   (let s : State := twinState role.active 0 (fun tw => tw)
    let r := s.twinRole
    let w := s.twin
    let meets : Prop := w.claimed = true ∧ ∃ f, w.fall = some f ∧ -8 ≤ Tick.diff f s.tick ∧ Tick.diff f s.tick ≤ 8
    let fresh : Prop := s.bit TWIN_STAT.PARTNER_TAKE = false ∧ w.sensed = none
    ¬meets ∧ fresh ∧ r = role.active) ∧
   (let s : State := twinState role.taking 0 (fun tw => tw)
    let r := s.twinRole
    let w := s.twin
    let meets : Prop := w.claimed = true ∧ ∃ f, w.fall = some f ∧ -8 ≤ Tick.diff f s.tick ∧ Tick.diff f s.tick ≤ 8
    let fresh : Prop := s.bit TWIN_STAT.PARTNER_TAKE = false ∧ w.sensed = none
    ¬meets ∧ fresh ∧ r = role.taking) ∧
   (let s : State := ((twinState role.active 8 (fun tw => { tw with claimed := true, fall := some 0 })).setBit TWIN_CFG.PRIMARY true).set (LANE_PARTNER.DEV 28) 1
    let r := s.twinRole
    let w := s.twin
    let meets : Prop := w.claimed = true ∧ ∃ f, w.fall = some f ∧ -8 ≤ Tick.diff f s.tick ∧ Tick.diff f s.tick ≤ 8
    let lower : Prop := s.get MESH_CFG.ADDR < s.get (LANE_PARTNER.DEV 28)
    let fresh : Prop := s.bit TWIN_STAT.PARTNER_TAKE = false ∧ w.sensed = none
    meets ∧ fresh ∧ (r = role.active ∨ r = role.taking) ∧ s.bit TWIN_CFG.PRIMARY = true ∧ lower) ∧
   (let s : State := ((twinState role.active 8 (fun tw => { tw with claimed := true, fall := some 0 })).setBit TWIN_CFG.PRIMARY false)
    let r := s.twinRole
    let w := s.twin
    let meets : Prop := w.claimed = true ∧ ∃ f, w.fall = some f ∧ -8 ≤ Tick.diff f s.tick ∧ Tick.diff f s.tick ≤ 8
    let lower : Prop := s.get MESH_CFG.ADDR < s.get (LANE_PARTNER.DEV 28)
    let fresh : Prop := s.bit TWIN_STAT.PARTNER_TAKE = false ∧ w.sensed = none
    meets ∧ fresh ∧ (r = role.active ∨ r = role.taking) ∧ s.bit TWIN_CFG.PRIMARY = false ∧ ¬lower) ∧
   (let s : State := State.reset
    let w := s.twin
    w.sensed = none) ∧
   (let s : State := twinState role.active 3000 (fun tw => { tw with sensed := some 0 })
    let d : Tick := 0
    let w := s.twin
    w.sensed = some d ∧ Tick.le (BitVec.ofNat 48 ((d.toNat / 1500 + 2) * 1500)) s.tick = true) ∧
   (let s : State := twinState role.active 2999 (fun tw => { tw with sensed := some 0 })
    let d : Tick := 0
    let w := s.twin
    w.sensed = some d ∧ Tick.le (BitVec.ofNat 48 ((d.toNat / 1500 + 2) * 1500)) s.tick = false) ∧
   (let s : State := ((twinState role.out 0 (fun tw => tw)).setBit TWIN_CFG.EN true).setBit TWIN_CFG.PRIMARY true
    let r := s.twinRole
    let w := s.twin
    s.bit TWIN_CFG.EN = true ∧ s.bit TWIN_CFG.PRIMARY = true ∧ r = role.out ∧ s.stage = stg.ready ∧ s.bit TWIN_STAT.PARTNER_TAKE = false ∧ w.claimed = false) ∧
   (let s : State := State.reset
    let r := s.twinRole
    let w := s.twin
    (s.bit TWIN_CFG.EN = false ∨ s.bit TWIN_CFG.PRIMARY = false ∨ r ≠ role.out ∨ s.bit TWIN_STAT.PARTNER_TAKE = true ∨ w.claimed = true)) :=
  ⟨by decide +kernel,
   by decide +kernel,
   by decide +kernel,
   by decide +kernel,
   by decide +kernel,
   by decide +kernel,
   by decide +kernel,
   by decide +kernel,
   by decide +kernel,
   by decide +kernel,
   by decide +kernel,
   by decide +kernel,
   by decide +kernel,
   by decide +kernel,
   ⟨fun h => absurd h.1 (by decide +kernel), by decide +kernel⟩,
   ⟨fun h => absurd h.1 (by decide +kernel), by decide +kernel⟩,
   ⟨⟨by decide +kernel, 0, by decide +kernel, by decide +kernel⟩, by decide +kernel⟩,
   ⟨⟨by decide +kernel, 0, by decide +kernel, by decide +kernel⟩, by decide +kernel⟩,
   by decide +kernel,
   by decide +kernel,
   by decide +kernel,
   by decide +kernel,
   by decide +kernel⟩

theorem witness_TwinHeartbeatsLogsAndCopies :
   (let s : State := (twinState role.active 1500 (fun tw => tw)).setBit TWIN_CFG.EN true
    let q := s.twin
    s.bit TWIN_CFG.EN = true ∧ s.tick.toNat % 1500 = 0 ∧ q.sent = 0) ∧
   (let s : State := State.reset
    (s.bit TWIN_CFG.EN = false ∨ s.tick.toNat % 1500 ≠ 0)) ∧
   (let s : State := State.reset
    let w : BitVec 64 := 0
    let heard : Prop := s.bit TWIN_CFG.EN = true ∧ s.bit (PORT_STAT.UP 7) = true ∧ w.extractLsb' 0 4 = 8
    ¬heard) ∧
   (let s : State := ((twinState role.active 1500 (fun tw => tw)).setBit TWIN_CFG.EN true).setBit (PORT_STAT.UP 7) true
    let w : BitVec 64 := 8
    let heard : Prop := s.bit TWIN_CFG.EN = true ∧ s.bit (PORT_STAT.UP 7) = true ∧ w.extractLsb' 0 4 = 8
    heard ∧ w.getLsbD 8 = false) ∧
   (let s : State := ((twinState role.standby 1500 (fun tw => tw)).setBit TWIN_CFG.EN true).setBit (PORT_STAT.UP 7) true
    let w : BitVec 64 := 0x108
    let r := s.twinRole
    let heard : Prop := s.bit TWIN_CFG.EN = true ∧ s.bit (PORT_STAT.UP 7) = true ∧ w.extractLsb' 0 4 = 8
    heard ∧ w.getLsbD 8 = true ∧ r = role.standby) ∧
   (let s : State := State.reset
    let q := s.twin
    let st := s.tick - BitVec.ofNat 48 (s.tick.toNat % 1500)
    let missing : Prop := s.bit TWIN_CFG.EN = true ∧ 64 ≤ s.tick.toNat % 1500 ∧ ∀ t, q.strobe = some t → Tick.le st t = false
    ¬missing) ∧
   (let s : State := (twinState role.active 1564 (fun tw => tw)).setBit TWIN_CFG.EN true
    let r := s.twinRole
    let q := s.twin
    let st := s.tick - BitVec.ofNat 48 (s.tick.toNat % 1500)
    let missing : Prop := s.bit TWIN_CFG.EN = true ∧ 64 ≤ s.tick.toNat % 1500 ∧ ∀ t, q.strobe = some t → Tick.le st t = false
    missing ∧ (r ≠ role.standby ∨ q.misses < 3)) ∧
   (let s : State := (twinState role.standby 1564 (fun tw => { tw with misses := 3 })).setBit TWIN_CFG.EN true
    let r := s.twinRole
    let q := s.twin
    let st := s.tick - BitVec.ofNat 48 (s.tick.toNat % 1500)
    let missing : Prop := s.bit TWIN_CFG.EN = true ∧ 64 ≤ s.tick.toNat % 1500 ∧ ∀ t, q.strobe = some t → Tick.le st t = false
    missing ∧ r = role.standby ∧ 3 ≤ q.misses) ∧
   (let s : State := State.reset
    let r := s.twinRole
    (r ≠ role.standby ∨ s.bit (PORT_STAT.UP 7) = false)) ∧
   (let s : State := (twinState role.standby 0 (fun tw => tw)).setBit (PORT_STAT.UP 7) true
    let w : BitVec 64 := 10
    let r := s.twinRole
    r = role.standby ∧ s.bit (PORT_STAT.UP 7) = true ∧ w.extractLsb' 0 4 = 10 ∧ w.extractLsb' 10 3 ≠ 4) ∧
   (let s : State := (twinState role.standby 0 (fun tw => tw)).setBit (PORT_STAT.UP 7) true
    let w : BitVec 64 := 11
    let r := s.twinRole
    r = role.standby ∧ s.bit (PORT_STAT.UP 7) = true ∧ w.extractLsb' 0 4 = 11) ∧
   (let s : State := State.reset
    let r := s.twinRole
    r ≠ role.sync ∧ r ≠ role.standby ∧ (r ≠ role.out ∨ s.partnerRole ≠ role.active)) ∧
   (let s : State := (twinState role.out 0 (fun tw => tw)).set TWIN_STAT.PROLE role.active
    let r := s.twinRole
    r = role.out ∧ s.partnerRole = role.active) ∧
   (let s : State := twinState role.sync 0 (fun tw => tw)
    let addr : BitVec 28 := 0
    let data : List Word := []
    let r := s.twinRole
    (r = role.sync ∨ r = role.standby) ∧ addr.toNat + data.length ≤ 2 ^ 20) ∧
   (let s : State := (twinState role.active 0 (fun tw => tw)).set TWIN_STAT.PROLE role.out
    let r := s.twinRole
    let phase := s.get TWIN_STAT.PHASE
    r = role.active ∧ s.partnerRole = role.out ∧ phase = 0) ∧
   (let s : State := State.reset
    let r := s.twinRole
    let phase := s.get TWIN_STAT.PHASE
    (r ≠ role.active ∨ s.partnerRole ≠ role.out ∨ phase ≠ 0)) ∧
   (let s : State := (twinState role.active 0 (fun tw => tw)).set TWIN_STAT.PHASE 1
    let phase := s.get TWIN_STAT.PHASE
    phase = 1) ∧
   (let s : State := State.reset
    let phase := s.get TWIN_STAT.PHASE
    phase ≠ 1) ∧
   (let s : State := State.reset
    let phase := s.get TWIN_STAT.PHASE
    phase ≠ 2) ∧
   (let s : State := (twinState role.active 0 (fun tw => tw)).set TWIN_STAT.PHASE 2
    let phase := s.get TWIN_STAT.PHASE
    phase = 2) ∧
   (let s : State := (twinState role.active 0 (fun tw => tw)).set TWIN_STAT.PHASE 2
    let q := s.twin
    let phase := s.get TWIN_STAT.PHASE
    phase = 2 ∧ q.tries < 2) ∧
   (let s : State := (twinState role.active 0 (fun tw => { tw with tries := 2 })).set TWIN_STAT.PHASE 2
    let q := s.twin
    let phase := s.get TWIN_STAT.PHASE
    phase = 2 ∧ 2 ≤ q.tries) :=
  ⟨by decide +kernel,
   by decide +kernel,
   by decide +kernel,
   by decide +kernel,
   by decide +kernel,
   fun h => absurd h.1 (by decide +kernel),
   ⟨⟨by decide +kernel, by decide +kernel, of_all (by decide +kernel)⟩, by decide +kernel⟩,
   ⟨⟨by decide +kernel, by decide +kernel, of_all (by decide +kernel)⟩, by decide +kernel⟩,
   by decide +kernel,
   by decide +kernel,
   by decide +kernel,
   by decide +kernel,
   by decide +kernel,
   by decide +kernel,
   by decide +kernel,
   by decide +kernel,
   by decide +kernel,
   by decide +kernel,
   by decide +kernel,
   by decide +kernel,
   by decide +kernel,
   by decide +kernel⟩

theorem witness_TemperatureLevels :
   (let s : State := (readyAt 0).set PWR_STAT.STATE 3
    s.get PWR_STAT.STATE = 3) ∧
   (let s : State := State.reset
    s.get PWR_STAT.STATE ≠ 3 ∧ s.get TH_SENS_BROKEN.BROKEN = 0) ∧
   (let s : State := { readyAt 0 with therm := { ThermSt.init with off := [(31, 1000)] } }
    let r : Fin 32 := 31
    s.sensBroken r = false ∧ 1000 ≤ s.therm.off_ r) ∧
   (let s : State := State.reset
    let r : Fin 32 := 0
    (s.sensBroken r = true ∨ s.therm.off_ r < 1000)) ∧
   (let s : State := { readyAt 0 with therm := { ThermSt.init with above := [0, 0, 64] } }
    let lv : Fin 3 := 2
    let ready (run : List Nat) (i : Nat) : Prop := 64 ≤ run.getD i 0 ∧ ∀ t, s.therm.changed.getD i none = some t → 96000 ≤ Tick.diff t s.tick
    ready s.therm.above lv ∧ s.levelOn lv = false) ∧
   (let s : State := State.reset
    let lv : Fin 3 := 0
    (s.levelOn lv = true ∨ s.therm.above.getD lv 0 < 64)) ∧
   (let s : State := { (readyAt 0).setBit TH_STAT.THROTTLE true with therm := { ThermSt.init with below := [0, 64, 0] } }
    let lo : Fin 2 := 1
    let ready (run : List Nat) (i : Nat) : Prop := 64 ≤ run.getD i 0 ∧ ∀ t, s.therm.changed.getD i none = some t → 96000 ≤ Tick.diff t s.tick
    ready s.therm.below lo ∧ s.levelOn lo = true) ∧
   (let s : State := State.reset
    let lo : Fin 2 := 0
    (s.levelOn lo = false ∨ s.therm.below.getD lo 0 < 64)) ∧
   (let s : State := { readyAt 1500 with sys := { SysSt.init with clampedAt := some 0, shutStep := 1 } }
    let u : Tick := 0
    s.sys.clampedAt = some u ∧ s.sys.shutStep = 1 ∧ 1500 ≤ Tick.diff u s.tick) ∧
   (let s : State := State.reset
    (s.sys.clampedAt = none ∨ s.sys.shutStep ≠ 1)) ∧
   (let s : State := { readyAt 1500 with sys := { SysSt.init with shut := some 0, shutStep := 2 } }
    let u : Tick := 0
    s.sys.shut = some u ∧ s.sys.shutStep = 2) ∧
   (let s : State := State.reset
    (s.sys.shut = none ∨ s.sys.shutStep ≠ 2)) :=
  ⟨by decide +kernel,
   by decide +kernel,
   by decide +kernel,
   by decide +kernel,
   ⟨⟨by decide +kernel, of_all (by decide +kernel)⟩, by decide +kernel⟩,
   by decide +kernel,
   ⟨⟨by decide +kernel, of_all (by decide +kernel)⟩, by decide +kernel⟩,
   by decide +kernel,
   by decide +kernel,
   by decide +kernel,
   by decide +kernel,
   by decide +kernel⟩

theorem witness_GovernorStates :
   (let s : State := { (((readyAt 0).setBit GOV_STAT.REQ true).setBit GOV_CFG.EN true) with gov := { GovSt.init with started := true } }
    let u : Tick := 0
    let g := s.gov
    let vs := s.get GOV_STAT.VSET
    s.bit GOV_STAT.REQ = true ∧ s.govFree = true ∧ vs < s.vmax ∧ (g.lastStep = none ∨ (g.lastStep = some u ∧ ((max 150 (s.get GOV_CFG.UP_INT) * 1500 : Nat) : Int) ≤ Tick.diff u s.tick))) ∧
   (let s : State := State.reset
    s.bit GOV_STAT.REQ = false) ∧
   (let s : State := { ((((readyAt 0).set GOV_CFG.DOWN_HOLD 0).setBit GOV_STAT.REQ false).setBit GOV_CFG.EN true) with gov := { GovSt.init with started := true } }
    let u : Tick := 0
    let g := s.gov
    let vs := s.get GOV_STAT.VSET
    s.bit GOV_STAT.REQ = false ∧ s.govFree = true ∧ s.get GOV_CFG.VMIN < vs ∧ ((s.get GOV_CFG.DOWN_HOLD * 1500000 : Nat) : Int) ≤ Tick.diff g.reqAt s.tick ∧ (g.lastStep = none ∨ (g.lastStep = some u ∧ 15000000 ≤ Tick.diff u s.tick))) ∧
   (let s : State := State.reset
    let vs := s.get GOV_STAT.VSET
    (s.bit GOV_STAT.REQ = true ∨ s.govFree = false ∨ vs ≤ s.get GOV_CFG.VMIN)) ∧
   (let s : State := State.reset
    let g := s.gov
    g.busy = none) ∧
   (let s : State := { readyAt 0 with gov := { GovSt.init with busy := some (50, 0) } }
    let v : Nat := 50
    let n : Nat := 0
    let g := s.gov
    g.busy = some (v, n) ∧ g.failedAt = none) ∧
   (let s : State := { readyAt 0 with gov := { GovSt.init with busy := some (50, 2) } }
    let v : Nat := 50
    let n : Nat := 2
    let g := s.gov
    g.busy = some (v, n) ∧ g.failedAt = none ∧ n < 3) ∧
   (let s : State := { readyAt 0 with gov := { GovSt.init with busy := some (50, 3) } }
    let v : Nat := 50
    let n : Nat := 3
    let g := s.gov
    g.busy = some (v, n) ∧ g.failedAt = none ∧ 3 ≤ n) ∧
   (let s : State := { readyAt 1499999 with gov := { GovSt.init with busy := some (50, 3), failedAt := some 0 } }
    let v : Nat := 50
    let n : Nat := 3
    let u : Tick := 0
    let g := s.gov
    g.busy = some (v, n) ∧ g.failedAt = some u ∧ Tick.diff u s.tick < 1500000) ∧
   (let s : State := { readyAt 1500000 with gov := { GovSt.init with busy := some (50, 3), failedAt := some 0 } }
    let v : Nat := 50
    let n : Nat := 3
    let u : Tick := 0
    let g := s.gov
    g.busy = some (v, n) ∧ g.failedAt = some u ∧ 1500000 ≤ Tick.diff u s.tick) ∧
   (let s : State := { readyAt 1499999 with gov := { GovSt.init with lastPoll := some 0 } }
    let g := s.gov
    let polled : Prop := ∀ t, g.lastPoll = some t → 1500000 ≤ Tick.diff t s.tick
    ¬polled) ∧
   (let s : State := State.reset
    let g := s.gov
    let polled : Prop := ∀ t, g.lastPoll = some t → 1500000 ≤ Tick.diff t s.tick
    polled) ∧
   (let s : State := State.reset
    let tgt : BitVec 2 := 0
    let st := s.get PWR_STAT.STATE
    (st ≠ 3 ∨ tgt = 3)) ∧
   (let s : State := (readyAt 0).set PWR_STAT.STATE 3
    let tgt : BitVec 2 := 0
    let st := s.get PWR_STAT.STATE
    st = 3 ∧ tgt ≠ 3) ∧
   (let s : State := State.reset
    let st := s.get PWR_STAT.STATE
    (s.get PWR_CTRL.TARGET ≤ st ∨ s.mayRest = false)) ∧
   (let s : State := (readyAt 0).set PWR_CTRL.TARGET 1
    let st := s.get PWR_STAT.STATE
    st < s.get PWR_CTRL.TARGET ∧ s.mayRest = true) ∧
   (let s : State := (readyAt 0).set PWR_STAT.STATE 3
    let st := s.get PWR_STAT.STATE
    st = 3 ∧ (s.sys.wake = false ∨ s.stage ≠ stg.ready ∨ s.get BOOT_STAT.CAUSE ≠ 3)) ∧
   (let s : State := { ((readyAt 0).set PWR_STAT.STATE 3).set BOOT_STAT.CAUSE 3 with sys := { SysSt.init with wake := true } }
    let st := s.get PWR_STAT.STATE
    st = 3 ∧ s.sys.wake = true ∧ s.stage = stg.ready ∧ s.get BOOT_STAT.CAUSE = 3) ∧
   (let s : State := (readyAt 0).set PWR_STAT.STATE 2
    let st := s.get PWR_STAT.STATE
    st ≠ 3 ∧ s.get PWR_CTRL.TARGET < st) ∧
   (let s : State := State.reset
    let st := s.get PWR_STAT.STATE
    st ≠ 3 ∧ st ≤ s.get PWR_CTRL.TARGET) ∧
   (let s : State := State.reset
    let st := s.get PWR_STAT.STATE
    (st ≠ 3 ∨ s.sys.wake = false)) ∧
   (let s : State := { (readyAt 0).set PWR_STAT.STATE 3 with sys := { SysSt.init with wake := true } }
    let st := s.get PWR_STAT.STATE
    st = 3 ∧ s.sys.wake = true ∧ s.get BOOT_STAT.CAUSE ≠ 3) ∧
   (let s : State := State.reset
    let st := s.get PWR_STAT.STATE
    (st ≠ 3 ∨ s.bit (PORT_STAT.UP 6) = false)) ∧
   (let s : State := { ((readyAt 1500000).set PWR_STAT.STATE 3).setBit (PORT_STAT.UP 6) true with sys := { SysSt.init with sleepIdle := some 0 } }
    let u : Tick := 0
    let st := s.get PWR_STAT.STATE
    st = 3 ∧ s.bit (PORT_STAT.UP 6) = true ∧ s.sys.sleepIdle = some u ∧ 1500000 ≤ Tick.diff u s.tick) ∧
   (let s : State := State.reset
    let m := s.mon
    m.urgent = none ∧ s.bit MON_CFG.EN = false) ∧
   (let s : State := { (readyAt 0).setBit MON_CFG.EN true with mon := { (readyAt 0).mon with n := 0 } }
    let m := s.mon
    let slot := s.rd (R.MON_SEQ m.slot)
    m.urgent = none ∧ s.bit MON_CFG.EN = true ∧ m.n + 1 < monCount slot) ∧
   (let s : State := { (readyAt 0).setBit MON_CFG.EN true with mon := { (readyAt 0).mon with n := 255 } }
    let m := s.mon
    let slot := s.rd (R.MON_SEQ m.slot)
    m.urgent = none ∧ s.bit MON_CFG.EN = true ∧ monCount slot ≤ m.n + 1) ∧
   (let s : State := { (readyAt 0).setBit MON_CFG.EN true with mon := { (readyAt 0).mon with urgent := some (0, 0) } }
    let v : Nat := 0
    let n : Nat := 0
    let m := s.mon
    let urgent := s.rd R.MON_URG
    m.urgent = some (n, v) ∧ n + 1 < monCount urgent) ∧
   (let s : State := { (readyAt 0).setBit MON_CFG.EN true with mon := { (readyAt 0).mon with urgent := some (255, 0) } }
    let v : Nat := 0
    let n : Nat := 255
    let m := s.mon
    let urgent := s.rd R.MON_URG
    m.urgent = some (n, v) ∧ monCount urgent ≤ n + 1) ∧
   (let s : State := { (readyAt 0).setBit MON_CFG.EN true with mon := { (readyAt 0).mon with urgent := some (0, 0) } }
    let w : Word := 0x80000000
    let v : Nat := 0
    let n : Nat := 0
    let m := s.mon
    m.urgent = some (n, v) ∧ w.getLsbD 31 = true) ∧
   (let s : State := { (readyAt 0).setBit MON_CFG.EN true with mon := { (readyAt 0).mon with urgent := some (0, 0) } }
    let w : Word := 0
    let v : Nat := 0
    let n : Nat := 0
    let m := s.mon
    m.urgent = some (n, v) ∧ w.getLsbD 31 = false) ∧
   (let s : State := State.reset
    let w : Word := 0x80000000
    let m := s.mon
    m.urgent = none ∧ w.getLsbD 31 = true) :=
  ⟨by decide +kernel,
   by decide +kernel,
   by decide +kernel,
   by decide +kernel,
   by decide +kernel,
   by decide +kernel,
   by decide +kernel,
   by decide +kernel,
   by decide +kernel,
   by decide +kernel,
   fun h => absurd (h 0 (by decide +kernel)) (by decide +kernel),
   of_all (by decide +kernel),
   by decide +kernel,
   by decide +kernel,
   by decide +kernel,
   by decide +kernel,
   by decide +kernel,
   by decide +kernel,
   by decide +kernel,
   by decide +kernel,
   by decide +kernel,
   by decide +kernel,
   by decide +kernel,
   by decide +kernel,
   by decide +kernel,
   by decide +kernel,
   by decide +kernel,
   by decide +kernel,
   by decide +kernel,
   by decide +kernel,
   by decide +kernel,
   by decide +kernel⟩

theorem witness_FaultsAreLoggedAndReact :
   (let s : State := State.reset
    s.raised = []) ∧
   (let s : State := { readyAt 0 with raised := [{ aFault with tick := 1 }] }
    let f : FaultIn := { aFault with tick := 1 }
    s.raised = [f] ∧ Tick.le f.tick s.tick = false) ∧
   (let s : State := { readyAt 0 with raised := [aFault] }
    let f : FaultIn := aFault
    let log := s.faultLog
    s.raised = [f] ∧ Tick.le f.tick s.tick = true ∧ f.src < 192 ∧ log.length ≤ 64) ∧
   (let s : State := { (readyAt 0).set (FLT_REACT.SEV (Src.HIF_RING - 1)) 0 with raised := [{ aFault with src := Src.HIF_RING - 1 }, aFault] }
    let f : FaultIn := aFault
    let g : FaultIn := { aFault with src := Src.HIF_RING - 1 }
    s.raised = [g, f] ∧ f.tick = g.tick ∧ Tick.le f.tick s.tick = true ∧ f.src < 192 ∧ g.src < 192 ∧ (s.faultSevNow g.src < s.faultSevNow f.src ∨ (s.faultSevNow g.src = s.faultSevNow f.src ∧ f.src < g.src))) ∧
   (let s : State := State.reset
    s.reacts = []) ∧
   (let s : State := { readyAt 1 with reacts := [{ aLog with react := 1 }] }
    let e : LogEntry := { aLog with react := 1 }
    s.reacts = [e] ∧ Tick.le (e.tick + 2) s.tick = false) ∧
   (let s : State := { readyAt 2 with reacts := [{ aLog with react := 0b10000 }] }
    let e : LogEntry := { aLog with react := 0b10000 }
    let due : Prop := s.reacts = [e] ∧ Tick.le (e.tick + 2) s.tick = true
    due ∧ e.react = 0b10000) ∧
   (let s : State := { readyAt 2 with reacts := [{ aLog with react := 1 }] }
    let e : LogEntry := { aLog with react := 1 }
    let due : Prop := s.reacts = [e] ∧ Tick.le (e.tick + 2) s.tick = true
    due ∧ e.react = 0b00001) ∧
   (let s : State := ({ readyAt 2 with reacts := [{ aLog with src := Src.UNDERRUN, slots := [5], react := 2 }] }).set (PLT_STAT.STATE 5) plt.run
    let e : LogEntry := { aLog with src := Src.UNDERRUN, slots := [5], react := 2 }
    let b : Fin 64 := 5
    let due : Prop := s.reacts = [e] ∧ Tick.le (e.tick + 2) s.tick = true
    due ∧ e.react = 0b00010 ∧ targetOf e.src e.slots = some (.berth b) ∧ s.pilotActive b = true) ∧
   (let s : State := { readyAt 2 with reacts := [{ aLog with react := 8 }] }
    let e : LogEntry := { aLog with react := 8 }
    let due : Prop := s.reacts = [e] ∧ Tick.le (e.tick + 2) s.tick = true
    due ∧ e.react = 0b01000 ∧ s.sys.resetting = none) ∧
   (let s : State := State.reset
    let elapsed : Prop := ∀ v, s.errUntil = some v → Tick.le v s.tick = true
    (s.errPin = false ∨ s.bit FLT_CTRL.ERR_HOLD = true ∨ ¬elapsed)) ∧
   (let s : State := { readyAt 0 with errPin := true }
    let elapsed : Prop := ∀ v, s.errUntil = some v → Tick.le v s.tick = true
    elapsed ∧ s.errPin = true ∧ s.bit FLT_CTRL.ERR_HOLD = false) ∧
   (let s : State := State.reset
    s.bit SEC_STAT.FACTORY = false) ∧
   (let s : State := (readyAt 0).setBit SEC_STAT.FACTORY true
    let src : BitVec 8 := 0
    s.bit SEC_STAT.FACTORY = true ∧ faultAssigned src.toNat = true) ∧
   (let s : State := State.reset
    let idx : BitVec 6 := 0
    let log := s.faultLog
    log.reverse[idx.toNat]? = none) ∧
   (let s : State := { readyAt 0 with faultLog := [aLog] }
    let e : LogEntry := aLog
    let idx : BitVec 6 := 0
    let log := s.faultLog
    log.reverse[idx.toNat]? = some e) :=
  ⟨by decide +kernel,
   by decide +kernel,
   by decide +kernel,
   by decide +kernel,
   by decide +kernel,
   by decide +kernel,
   by decide +kernel,
   by decide +kernel,
   by decide +kernel,
   by decide +kernel,
   Or.inl (by decide +kernel),
   ⟨of_all (by decide +kernel), by decide +kernel⟩,
   by decide +kernel,
   by decide +kernel,
   by decide +kernel,
   by decide +kernel⟩

theorem witness_RecordsAndLifetimeCounters :
   (let s : State := State.reset
    let q := s.recorder
    (q.queue = [] ∨ q.erasing ≠ none)) ∧
   (let s : State := { readyAt 0 with recorder := { RecSt.init with queue := [aRec] } }
    let r : Rec := aRec
    let rest : List Rec := []
    let q := s.recorder
    q.queue = r :: rest ∧ q.erasing = none) ∧
   (let s : State := State.reset
    let q := s.recorder
    q.erasing = none) ∧
   (let s : State := { readyAt 0 with recorder := { RecSt.init with erasing := some 3 } }
    let sec : Nat := 3
    let q := s.recorder
    q.erasing = some sec) ∧
   (let s : State := State.reset
    let q := s.recorder
    q.copy = none) ∧
   (let s : State := { readyAt 0 with recorder := { RecSt.init with copy := some 3 } }
    let seq : Word := 3
    let q := s.recorder
    (∀ p ∈ s.recSlots, ∀ x, p.2 = some x → x.good = false ∨ x.seq ≠ seq) ∧ q.copy = some seq) ∧
   (let s : State := { { readyAt 0 with recorder := { RecSt.init with copy := some 0 } } with recSlots := [(0, some aRec)] }
    let r : Rec := aRec
    let seq : Word := 0
    let k : Nat := 0
    let q := s.recorder
    q.copy = some seq ∧ s.recSlots = [(k, some r)] ∧ r.good = true ∧ r.seq = seq) ∧
   (let s : State := (readyAt 0).setBit REC_CTRL.FLUSH true
    s.bit REC_CTRL.FLUSH = true) ∧
   (let s : State := State.reset
    let q := s.recorder
    s.bit REC_CTRL.FLUSH = false ∧ s.get PWR_STAT.STATE ≠ 3 ∧ q.queue.length < 256 ∧ q.dropRun = false) ∧
   (let s : State := State.reset
    Tick.diff s.lastSave s.tick < 900000000000) ∧
   (let s : State := readyAt 900000000000
    900000000000 ≤ Tick.diff s.lastSave s.tick ∧ s.lifeSave = none) ∧
   (let s : State := State.reset
    s.lifeSave = none) ∧
   (let s : State := { readyAt 0 with lifeSave := some (1, 2, []) }
    let sec : Nat := 1
    let gen : Nat := 2
    let set : Store Word := []
    let q := s.recorder
    s.lifeSave = some (sec, gen, set) ∧ q.flush = none) ∧
   (let s : State := State.reset
    s.get LIF_SEL.IDX < 364) :=
  ⟨by decide +kernel,
   by decide +kernel,
   by decide +kernel,
   by decide +kernel,
   by decide +kernel,
   ⟨(fun _ h => by cases h), by decide +kernel⟩,
   by decide +kernel,
   by decide +kernel,
   by decide +kernel,
   by decide +kernel,
   by decide +kernel,
   by decide +kernel,
   by decide +kernel,
   by decide +kernel⟩

theorem witness_ResetsAndStartUp :
   (let s : State := State.reset
    let y := s.sys
    y.pinLow = true) ∧
   (let s : State := { readyAt 0 with sys := { SysSt.init with pinLow := false } }
    let y := s.sys
    y.pinLow = false) ∧
   (let key : BitVec 8 := 0
    key ≠ 0x5A) ∧
   (let s : State := State.reset
    let y := s.sys
    (y.resetting = none ∨ s.allClamped = false)) ∧
   (let s : State := { readyAt 0 with sys := { SysSt.init with resetting := some (2, 0) } }
    let cz : Nat := 2
    let u : Tick := 0
    let y := s.sys
    y.resetting = some (cz, u) ∧ cz < 8 ∧ s.allClamped = true) ∧
   (let rail : Fin 6 := 5
    rail = 5) ∧
   (let rail : Fin 6 := 0
    rail ≠ 5) ∧
   (let s : State := readyAt 0
    s.stage = stg.ready) ∧
   (let s : State := State.reset
    s.stage ≠ stg.ready) ∧
   (let s : State := State.reset
    let y := s.sys
    (y.resetting ≠ none ∨ y.pinLow = true ∨ 8 ≤ s.stage)) ∧
   (let s : State := { State.reset.set BOOT_STAT.STAGE 0 with sys := { SysSt.init with pinLow := false } }
    let y := s.sys
    let at_ (n : Nat) : Prop := y.resetting = none ∧ y.pinLow = false ∧ s.stage = n
    at_ 0) ∧
   (let s : State := { State.reset.set BOOT_STAT.STAGE 1 with sys := { SysSt.init with pinLow := false } }
    let y := s.sys
    let at_ (n : Nat) : Prop := y.resetting = none ∧ y.pinLow = false ∧ s.stage = n
    at_ 1) ∧
   (let s : State := { State.reset.set BOOT_STAT.STAGE 2 with sys := { SysSt.init with pinLow := false } }
    let i0 : Option (BitVec 24) := some 4
    let i1 : Option (BitVec 24) := some 5
    let k : Nat := 1
    let v : BitVec 24 := 5
    let y := s.sys
    let at_ (n : Nat) : Prop := y.resetting = none ∧ y.pinLow = false ∧ s.stage = n
    at_ 2 ∧ newestSlot i0 i1 = some (k, v)) ∧
   (let s : State := { State.reset.set BOOT_STAT.STAGE 2 with sys := { SysSt.init with pinLow := false } }
    let i0 : Option (BitVec 24) := none
    let i1 : Option (BitVec 24) := none
    let y := s.sys
    let at_ (n : Nat) : Prop := y.resetting = none ∧ y.pinLow = false ∧ s.stage = n
    at_ 2 ∧ i0 = none ∧ i1 = none) ∧
   (let s : State := { State.reset.set BOOT_STAT.STAGE 3 with sys := { SysSt.init with pinLow := false } }
    let i2 : Option (BitVec 24) := some 4
    let i3 : Option (BitVec 24) := none
    let k : Nat := 0
    let v : BitVec 24 := 4
    let y := s.sys
    let at_ (n : Nat) : Prop := y.resetting = none ∧ y.pinLow = false ∧ s.stage = n
    at_ 3 ∧ newestSlot i2 i3 = some (k, v)) ∧
   (let s : State := { State.reset.set BOOT_STAT.STAGE 4 with sys := { SysSt.init with pinLow := false } }
    let y := s.sys
    let at_ (n : Nat) : Prop := y.resetting = none ∧ y.pinLow = false ∧ s.stage = n
    at_ 4) ∧
   (let s : State := { State.reset.set BOOT_STAT.STAGE 5 with sys := { SysSt.init with pinLow := false } }
    let y := s.sys
    let at_ (n : Nat) : Prop := y.resetting = none ∧ y.pinLow = false ∧ s.stage = n
    at_ 5) ∧
   (let s : State := { State.reset.set BOOT_STAT.STAGE 6 with sys := { SysSt.init with pinLow := false } }
    let y := s.sys
    let at_ (n : Nat) : Prop := y.resetting = none ∧ y.pinLow = false ∧ s.stage = n
    at_ 6) ∧
   (let s : State := { State.reset.set BOOT_STAT.STAGE 7 with sys := { SysSt.init with pinLow := false } }
    let y := s.sys
    let at_ (n : Nat) : Prop := y.resetting = none ∧ y.pinLow = false ∧ s.stage = n
    at_ 7) :=
  ⟨by decide +kernel,
   by decide +kernel,
   by decide +kernel,
   by decide +kernel,
   by decide +kernel,
   by decide +kernel,
   by decide +kernel,
   by decide +kernel,
   by decide +kernel,
   by decide +kernel,
   by decide +kernel,
   by decide +kernel,
   by decide +kernel,
   by decide +kernel,
   by decide +kernel,
   by decide +kernel,
   by decide +kernel,
   by decide +kernel,
   by decide +kernel⟩

theorem witness_FlashWindowTestPortAndDebug :
   (let s : State := (readyAt 0).set BOOT_FLW_ADDR.ADDR 0x400000
    let y := s.sys
    let at_ := s.get BOOT_FLW_ADDR.ADDR / 4 * 4
    let free : Prop := s.flashReach at_ = true ∧ y.flash = none
    free) ∧
   (let s : State := State.reset
    let y := s.sys
    let at_ := s.get BOOT_FLW_ADDR.ADDR / 4 * 4
    let free : Prop := s.flashReach at_ = true ∧ y.flash = none
    ¬free) ∧
   (let s : State := (readyAt 0).set BOOT_FLW_ADDR.ADDR 0x400003
    let at_ := s.get BOOT_FLW_ADDR.ADDR / 4 * 4
    s.flashReach at_ = true) ∧
   (let s : State := State.reset
    let at_ := s.get BOOT_FLW_ADDR.ADDR / 4 * 4
    s.flashReach at_ = false) ∧
   (let s : State := State.reset
    let y := s.sys
    y.flash = none) ∧
   (let s : State := { readyAt 0 with sys := { SysSt.init with flash := some (false, 5) } }
    let a : Nat := 5
    let y := s.sys
    y.flash = some (false, a)) ∧
   (let s : State := { readyAt 0 with sys := { SysSt.init with flash := some (true, 5) } }
    let a : Nat := 5
    let y := s.sys
    y.flash = some (true, a)) ∧
   (let s : State := State.reset
    let held := s.tap.held
    held = true) ∧
   (let s : State := { readyAt 0 with tap := { Tap.init with held := false } }
    let held := s.tap.held
    held = false) ∧
   (let s : State := { (readyAt 0).setBit SEC_STAT.FACTORY true with tap := { Tap.init with held := false } }
    let held := s.tap.held
    held = false ∧ s.bit SEC_STAT.FACTORY = true) ∧
   (let s : State := { readyAt 0 with tap := { Tap.init with held := false } }
    let held := s.tap.held
    held = false ∧ s.bit SEC_STAT.FACTORY = false) ∧
   (let s : State := { readyAt 0 with tap := { Tap.init with held := false } }
    let v : Word := 0
    let held := s.tap.held
    held = false ∧ v ≠ 0x0D1B0A7E) ∧
   (let s : State := { readyAt 0 with tap := { Tap.init with held := false } }
    let y := s.sys
    let held := s.tap.held
    held = false ∧ s.bit SEC_STAT.DBG_OPEN = false ∧ y.zeroing = none) ∧
   (let s : State := { readyAt 0 with tap := { Tap.init with held := false } }
    let held := s.tap.held
    held = false ∧ s.bit SEC_STAT.DBG_OPEN = false) ∧
   (let s : State := { { (readyAt 0).setBit SEC_STAT.DBG_OPEN true with tap := { Tap.init with held := false } } with sys := { SysSt.init with badTokens := 3 } }
    let y := s.sys
    let held := s.tap.held
    held = false ∧ s.bit SEC_STAT.DBG_OPEN = true ∧ 3 ≤ y.badTokens) ∧
   (let s : State := { (readyAt 0).setBit SEC_STAT.DBG_OPEN true with tap := { Tap.init with held := false } }
    let y := s.sys
    let held := s.tap.held
    held = false ∧ s.bit SEC_STAT.DBG_OPEN = true ∧ y.badTokens < 3) ∧
   (let s : State := State.reset
    let y := s.sys
    y.zeroing = none) ∧
   (let s : State := { readyAt 0 with sys := { SysSt.init with zeroing := some 0 } }
    let u : Tick := 0
    let y := s.sys
    y.zeroing = some u) :=
  ⟨by decide +kernel,
   by decide +kernel,
   by decide +kernel,
   by decide +kernel,
   by decide +kernel,
   by decide +kernel,
   by decide +kernel,
   by decide +kernel,
   by decide +kernel,
   by decide +kernel,
   by decide +kernel,
   by decide +kernel,
   by decide +kernel,
   by decide +kernel,
   by decide +kernel,
   by decide +kernel,
   by decide +kernel,
   by decide +kernel⟩

theorem witness_RegisterAccesses :
   (let s : State := State.reset
    let a : BitVec 26 := 0x4000
    let awake : Prop := s.get PWR_STAT.STATE ≠ 3
    awake ∧ s.regDown a.toNat = true) ∧
   (let s : State := readyAt 0
    let a : BitVec 26 := 1
    let awake : Prop := s.get PWR_STAT.STATE ≠ 3
    let up (x : Nat) : Prop := awake ∧ s.regDown x = false
    up a.toNat ∧ (a.toNat % 4 ≠ 0 ∨ (isBasin a.toNat = false ∧ regRow a.toNat = none))) ∧
   (let s : State := readyAt 0
    let b : Fin 64 := 63
    let i : Fin 1024 := 1023
    let awake : Prop := s.get PWR_STAT.STATE ≠ 3
    let up (x : Nat) : Prop := awake ∧ s.regDown x = false
    up (R.PARAM b i)) ∧
   (let s : State := readyAt 0
    let awake : Prop := s.get PWR_STAT.STATE ≠ 3
    let up (x : Nat) : Prop := awake ∧ s.regDown x = false
    up R.TIME_STAT) ∧
   (let s : State := readyAt 0
    let awake : Prop := s.get PWR_STAT.STATE ≠ 3
    let up (x : Nat) : Prop := awake ∧ s.regDown x = false
    up R.MESH_HOLD) ∧
   (let s : State := readyAt 0
    let awake : Prop := s.get PWR_STAT.STATE ≠ 3
    let up (x : Nat) : Prop := awake ∧ s.regDown x = false
    up R.EVT_SWFIRE) ∧
   (let s : State := readyAt 0
    let v : Word := 0x80000000
    let b : Fin 64 := 63
    let awake : Prop := s.get PWR_STAT.STATE ≠ 3
    let up (x : Nat) : Prop := awake ∧ s.regDown x = false
    up (R.SYN_JMP b) ∧ v.getLsbD 31 = true) ∧
   (let s : State := readyAt 0
    let awake : Prop := s.get PWR_STAT.STATE ≠ 3
    let up (x : Nat) : Prop := awake ∧ s.regDown x = false
    up R.REC_SEL) ∧
   (let s : State := State.reset
    s.tap.held = true) ∧
   (let s : State := { readyAt 0 with tap := { Tap.init with held := false } }
    s.tap.held = false ∧ s.bit SEC_STAT.DBG_OPEN = false) ∧
   (let s : State := { (readyAt 0).setBit SEC_STAT.DBG_OPEN true with tap := { Tap.init with held := false } }
    let b : Fin 64 := 63
    let i : Fin 1024 := 1023
    let awake : Prop := s.get PWR_STAT.STATE ≠ 3
    let up (x : Nat) : Prop := awake ∧ s.regDown x = false
    s.tap.held = false ∧ s.bit SEC_STAT.DBG_OPEN = true ∧ up (R.PARAM b i)) :=
  ⟨by decide +kernel,
   by decide +kernel,
   by decide +kernel,
   by decide +kernel,
   by decide +kernel,
   by decide +kernel,
   by decide +kernel,
   by decide +kernel,
   by decide +kernel,
   by decide +kernel,
   by decide +kernel⟩

theorem witness_ResetState :
   (let b := (63 : Nat)
    b < 64) ∧
   (let n := (191 : Nat)
    n < 192) ∧
   (let m := (31 : Nat)
    m < 32) ∧
   (let c := (255 : Nat)
    c < 256) :=
  ⟨by decide +kernel,
   by decide +kernel,
   by decide +kernel,
   by decide +kernel⟩

theorem witness_CommandsStayInTheirPlace :
   (let c : Instr := .eventPulse
    let s : State := State.reset
    let t : State := State.reset
    exec c s = .next t) :=
  by rfl

theorem witness_PilotWordsDecodeAsEncoded :
   (let i : PInstr := .movi 3 7
    i.encodable = true) :=
  by decide +kernel

end Sys2Proof.Tests
end

section
/-! PROOF. The release of one tick (R15, R41, R43, R163): what a margin, a monitor and a late tick write, the release of a lane in
RUN, and the drive and flux outputs. -/

namespace Sys2Proof.Machine

/-! ## Registers, and effects under a condition -/

theorem State.when_cases (s : State) (c : Bool) (f : State → State) : s.when c f = s ∨ s.when c f = f s := by
  cases c
  · exact .inl rfl
  · exact .inr rfl

/-- A single-bit field just set. -/
theorem State.bit_setBit_true (s : State) {f : Rf} (hlen : f.len = 1) (hlo : f.lo < 32) : (s.setBit f true).bit f = true := by
  rw [State.bit, State.setBit_eq, State.get_set_same _ _ _ (by omega), hlen]
  rfl

/-- A counter just bumped saturates at its greatest value. -/
theorem State.get_bump_same (s : State) (f : Rf) (n : Nat) (h : f.lo + f.len ≤ 32) :
    (s.bump f n).get f = Nat.min (s.get f + n) (2 ^ f.len - 1) := by
  rw [State.bump, State.get_set_same _ _ _ h]
  exact Nat.mod_eq_of_lt (Nat.lt_of_le_of_lt (Nat.min_le_right ..) (Nat.sub_lt (Nat.two_pow_pos _) Nat.one_pos))

@[simp] theorem State.ledger_setLockLane (s : State) (l : Nat) (k : LockLane) (b : Nat) :
    (s.setLockLane l k).ledger b = s.ledger b := by
  simp only [State.ledger, State.setLockLane_frame]

@[simp] theorem State.get_setLockLane (s : State) (l : Nat) (k : LockLane) (f : Rf) : (s.setLockLane l k).get f = s.get f := by
  simp only [State.get, State.rd, State.setLockLane_frame]

/-! ## What a release may write -/

/-- The state without what the release of a tick may write: lanes, registers and the values behind them, outputs, faults, lifetime
counts, the governor, shot ledgers and flux lines. -/
def State.base (s : State) : State :=
  { s with locks := [], regs := [], wide := [], outs := [], raised := [], life := [], govMon := [], gov := .init,
           ledgers := [], fluxes := [] }

theorem State.eq_of_base_eq {s t : State} (h : t.base = s.base) :
    t = { s with locks := t.locks, regs := t.regs, wide := t.wide, outs := t.outs, raised := t.raised, life := t.life,
                 govMon := t.govMon, gov := t.gov, ledgers := t.ledgers, fluxes := t.fluxes } :=
  congrArg (fun u : State => { u with
    locks := t.locks, regs := t.regs, wide := t.wide, outs := t.outs, raised := t.raised, life := t.life, govMon := t.govMon,
    gov := t.gov, ledgers := t.ledgers, fluxes := t.fluxes }) h

/-- A release of a sample, which leaves the values behind the registers and the ledgers. -/
theorem State.eq_of_base_eq_onTime {s t : State} (h : t.base = s.base) (hwide : t.wide = s.wide) (hledgers : t.ledgers = s.ledgers) :
    t = { s with locks := t.locks, regs := t.regs, outs := t.outs, raised := t.raised, life := t.life, govMon := t.govMon,
                 gov := t.gov, fluxes := t.fluxes } :=
  (State.eq_of_base_eq h).trans (by rw [hwide, hledgers])

/-- A release of a sample to a drive output, which leaves the flux lines too. -/
theorem State.eq_of_base_eq_sample {s t : State} (h : t.base = s.base) (hwide : t.wide = s.wide) (hledgers : t.ledgers = s.ledgers)
    (hfluxes : t.fluxes = s.fluxes) :
    t = { s with locks := t.locks, regs := t.regs, outs := t.outs, raised := t.raised, life := t.life, govMon := t.govMon,
                 gov := t.gov } :=
  (State.eq_of_base_eq_onTime h hwide hledgers).trans (by rw [hfluxes])

/-- A late tick at a drive output, which leaves flux lines, faults and lifetime counts. -/
theorem State.eq_of_base_eq_late {s t : State} (h : t.base = s.base) (hfluxes : t.fluxes = s.fluxes) (hraised : t.raised = s.raised)
    (hlife : t.life = s.life) :
    t = { s with locks := t.locks, regs := t.regs, outs := t.outs, wide := t.wide, ledgers := t.ledgers, govMon := t.govMon,
                 gov := t.gov } :=
  (State.eq_of_base_eq h).trans (by rw [hfluxes, hraised, hlife])

@[simp] theorem State.base_set (s : State) (f : Rf) (v : Nat) : (s.set f v).base = s.base := rfl
@[simp] theorem State.base_setBit (s : State) (f : Rf) (v : Bool) : (s.setBit f v).base = s.base := rfl
@[simp] theorem State.base_bump (s : State) (f : Rf) (n : Nat) : (s.bump f n).base = s.base := rfl
@[simp] theorem State.base_setLockLane (s : State) (l : Nat) (k : LockLane) : (s.setLockLane l k).base = s.base := rfl
@[simp] theorem State.base_setOutPin (s : State) (l : Nat) (v : List Int) : (s.setOutPin l v).base = s.base := rfl
@[simp] theorem State.base_setFluxLine (s : State) (b : Nat) (v : FluxLine) : (s.setFluxLine b v).base = s.base := rfl
@[simp] theorem State.base_wr (s : State) (a : Nat) (w : Word) : (s.wr a w).base = s.base := rfl
@[simp] theorem State.base_setWideVal (s : State) (a : Nat) (v : BitVec 48) : (s.setWideVal a v).base = s.base := rfl

/-! ## Margins (R36, R38, R39) -/

/-- Lowering a minimum sets its field, or nothing. -/
theorem State.lower_cases (s : State) (f : Rf) (v : Int) : s.lower f v = s ∨ ∃ w, s.lower f v = s.set f w := by
  unfold State.lower
  simp only
  split
  · exact .inr ⟨_, rfl⟩
  · exact .inl rfl

theorem lockOfLane_of_lt {l : Nat} (h : l < 128) : lockOfLane l = l := if_pos h

/-- What a margin of a drive or flux lane does, as an induction: a predicate holds after it that its lock's and the device's minimum,
the lifetime set, a fault and the mark of a notice in the lane keep. -/
theorem State.margin_induct {P : State → Prop} {s : State} {l : Nat} (m : Int) (hl : l < 128) (h0 : P s)
    (hset : ∀ u f v, f.addr = R.LOCK_LM_MIN l ∨ f.addr = R.LM_DEV_MIN → P u → P (u.set f v))
    (hlife : ∀ u i w, P u → P (u.setLifeWord i w)) (hraise : ∀ u q, P u → P { u with raised := q })
    (hnote : ∀ u, P u → P (u.setLockLane l { u.lockLane l with noticed := true })) : P (s.margin l m) := by
  have hlower : ∀ u f v, f.addr = R.LOCK_LM_MIN l ∨ f.addr = R.LM_DEV_MIN → P u → P (u.lower f v) := by
    intro u f v hf hu
    obtain h | ⟨w, h⟩ := u.lower_cases f v
    · rwa [h]
    · rw [h]
      exact hset u f w hf hu
  have hmeasured : P ((s.lower (LOCK_LM_MIN.MIN l) m).lifeMargin l m) := by
    unfold State.lifeMargin
    simp only
    split
    · exact hlife _ _ _ (hlower _ _ _ (.inl rfl) h0)
    · exact hlower _ _ _ (.inl rfl) h0
  have hraised : ∀ u src slots, P u → P (u.raise src slots) := by
    intro u src slots hu
    unfold State.raise
    split
    · exact hu
    · exact hraise _ _ hu
  have hnoticed : ∀ u, P u → P (if 2 ≤ m ∧ m < u.noticeTh ∧ !(u.lockLane l).noticed then
      (u.raise Src.LM_LOW (slot l ++ slotInt m)).modLockLane l (fun k => { k with noticed := true }) else u) := by
    intro u hu
    split
    · exact hnote _ (hraised _ _ _ hu)
    · exact hu
  unfold State.margin
  simp only [lockOfLane_of_lt hl, hl, if_true]
  refine hnoticed _ ?_
  split
  · exact hset _ _ _ (.inr rfl) (hlower _ _ _ (.inr rfl) hmeasured)
  · exact hmeasured

/-- A margin leaves outputs, shot ledgers, flux lines and what no release writes. -/
theorem State.margin_frame (s : State) {l : Nat} (m : Int) (hl : l < 128) :
    (s.margin l m).base = s.base ∧ (s.margin l m).outs = s.outs ∧ (s.margin l m).wide = s.wide ∧
    (s.margin l m).ledgers = s.ledgers ∧ (s.margin l m).fluxes = s.fluxes :=
  State.margin_induct
    (P := fun u => u.base = s.base ∧ u.outs = s.outs ∧ u.wide = s.wide ∧ u.ledgers = s.ledgers ∧ u.fluxes = s.fluxes)
    m hl ⟨rfl, rfl, rfl, rfl, rfl⟩ (fun _ _ _ _ h => h) (fun _ _ _ h => h) (fun _ _ h => h) (fun _ h => h)

/-- Of the registers, a margin writes the lock's and the device's minimum. -/
theorem State.rd_margin_ne (s : State) {l a : Nat} (m : Int) (hl : l < 128) (h1 : a ≠ R.LOCK_LM_MIN l) (h2 : a ≠ R.LM_DEV_MIN) :
    (s.margin l m).rd a = s.rd a :=
  State.margin_induct (P := fun u => u.rd a = s.rd a) m hl rfl
    (fun u f v hf h => by rw [u.rd_set_ne f v (by rcases hf with hf | hf <;> rw [hf] <;> assumption), h])
    (fun _ _ _ h => h) (fun _ _ h => h) (fun _ h => h)

/-- Of the lock lanes, a margin writes its own. -/
theorem State.lockLane_margin_ne (s : State) {l j : Nat} (m : Int) (hl : l < 128) (hj : j ≠ l) :
    (s.margin l m).lockLane j = s.lockLane j :=
  State.margin_induct (P := fun u => u.lockLane j = s.lockLane j) m hl rfl
    (fun _ _ _ _ h => h) (fun _ _ _ h => h) (fun _ _ h => h) (fun u h => by rw [State.lockLane_setLockLane, if_neg hj, h])

/-! ## Margin monitors (R38) -/

/-- A monitor's report sets its flag, the governor's request and when it changed. -/
theorem State.monitor_eq (s : State) (id : Nat) (below : Bool) :
    ∃ g m v, s.monitor id below = { s with gov := g, govMon := m }.setBit GOV_STAT.REQ v := by
  unfold State.monitor
  simp only
  split
  · exact ⟨s.gov, _, _, rfl⟩
  · exact ⟨_, _, _, rfl⟩

@[simp] theorem State.monitor_frame (s : State) (id : Nat) (below : Bool) :
    (s.monitor id below).base = s.base ∧ (s.monitor id below).outs = s.outs ∧ (s.monitor id below).wide = s.wide ∧
    (s.monitor id below).ledgers = s.ledgers ∧ (s.monitor id below).fluxes = s.fluxes ∧ (s.monitor id below).locks = s.locks ∧
    (s.monitor id below).raised = s.raised ∧ (s.monitor id below).life = s.life := by
  obtain ⟨g, m, v, h⟩ := s.monitor_eq id below
  rw [h]
  exact ⟨rfl, rfl, rfl, rfl, rfl, rfl, rfl, rfl⟩

theorem State.get_monitor (s : State) (id : Nat) (below : Bool) {f : Rf} (hf : f.addr ≠ R.GOV_STAT) :
    (s.monitor id below).get f = s.get f := by
  obtain ⟨g, m, v, h⟩ := s.monitor_eq id below
  rw [h, State.setBit_eq, State.get_set_ne _ _ _ _ hf]
  rfl

/-- Output `id` shows the samples `v`, and the margin monitor of its lock reports. -/
def State.shown (s : State) (id : Nat) (v : List Int) (below : Bool) : State := (s.setOutPin id v).monitor id below

@[simp] theorem State.shown_frame (s : State) (id : Nat) (v : List Int) (below : Bool) :
    (s.shown id v below).base = s.base ∧ (s.shown id v below).wide = s.wide ∧ (s.shown id v below).ledgers = s.ledgers ∧
    (s.shown id v below).fluxes = s.fluxes ∧ (s.shown id v below).locks = s.locks ∧ (s.shown id v below).raised = s.raised ∧
    (s.shown id v below).life = s.life := by
  simp [State.shown]

theorem State.outPin_shown (s : State) (id : Nat) (v : List Int) (below : Bool) (j : Nat) :
    (s.shown id v below).outPin j = if j = id then v else s.outPin j := by
  rw [← State.outPin_setOutPin, State.shown, State.outPin]
  simp only [State.monitor_frame]
  rfl

theorem State.get_shown (s : State) (id : Nat) (v : List Int) (below : Bool) {f : Rf} (hf : f.addr ≠ R.GOV_STAT) :
    (s.shown id v below).get f = s.get f := by
  rw [State.shown, State.get_monitor _ _ _ hf]
  simp only [State.get, State.rd, State.setOutPin_frame]

/-- Of the outputs, the one shown changes. -/
theorem State.othersSame_outPin_shown {s u : State} (id : Nat) (v : List Int) (below : Bool) (h : u.outs = s.outs) :
    s.othersSame (u.shown id v below) State.outPin id := by
  intro j hj
  rw [State.outPin_shown, if_neg hj, State.outPin, h, State.outPin]

/-! ## Late ticks (R41, R43) -/

theorem State.markPartial_cases (s : State) (b cz : Nat) :
    s.markPartial b cz = s ∨ ∃ c, s.markPartial b cz = s.setLedger b { s.ledger b with state := 3, cause := c } := by
  unfold State.markPartial
  simp only
  split
  · exact .inr ⟨_, rfl⟩
  · exact .inl rfl

@[simp] theorem State.markPartial_frame (s : State) (b cz : Nat) :
    (s.markPartial b cz).base = s.base ∧ (s.markPartial b cz).outs = s.outs ∧ (s.markPartial b cz).wide = s.wide ∧
    (s.markPartial b cz).fluxes = s.fluxes ∧ (s.markPartial b cz).locks = s.locks ∧ (s.markPartial b cz).regs = s.regs ∧
    (s.markPartial b cz).raised = s.raised ∧ (s.markPartial b cz).life = s.life := by
  obtain h | ⟨c, h⟩ := s.markPartial_cases b cz <;> rw [h] <;> exact ⟨rfl, rfl, rfl, rfl, rfl, rfl, rfl, rfl⟩

/-- A mark on the shot in flight leaves the boundary that opens the next shot. -/
@[simp] theorem State.opening_markPartial (s : State) (b cz j : Nat) :
    ((s.markPartial b cz).ledger j).opening = (s.ledger j).opening := by
  obtain h | ⟨c, h⟩ := s.markPartial_cases b cz
  · rw [h]
  · by_cases hj : j = b <;> simp [h, hj]

/-- Lane `l` opens an episode of `n` late ticks from `t`, and counts them. -/
def State.lateCounted (s : State) (l : Nat) (t : Tick) (n : Nat) : State :=
  (s.setLockLane l { s.lockLane l with episode := some { first := t, count := n } }).bump (LOCK_LATE_CNT.COUNT l) n

/-- The late ticks of lane `l` in its registers: counted, the first one captured unless LATE was set before, and LATE. -/
def State.lateShown (s : State) (l : Nat) (t : Tick) (n : Nat) : State :=
  let s := s.lateCounted l t n
  (s.when (!s.bit (LOCK_STAT.LATE l)) (·.capture (R.LOCK_LATE_TICK_LO l) t)).setBit (LOCK_STAT.LATE l) true

/-- Late ticks of a drive or flux lane with no episode open. -/
theorem State.lateTicks_eq {s : State} {l : Nat} (t : Tick) (n : Nat) (hl : l < 128) (hep : (s.lockLane l).episode = none) :
    s.lateTicks l t n = (s.lateShown l t n).markPartial (berthOfLane l) cause.lateBarge := by
  simp [State.lateTicks, State.lateShown, State.lateCounted, State.endEpisode, lockOfLane_of_lt hl, hep, show ¬ 128 ≤ l by omega]

theorem State.lateShown_cases (s : State) (l : Nat) (t : Tick) (n : Nat) :
    s.lateShown l t n = (s.lateCounted l t n).setBit (LOCK_STAT.LATE l) true ∨
    s.lateShown l t n = ((s.lateCounted l t n).capture (R.LOCK_LATE_TICK_LO l) t).setBit (LOCK_STAT.LATE l) true :=
  (State.when_cases ..).imp (congrArg (State.setBit · (LOCK_STAT.LATE l) true)) (congrArg (State.setBit · (LOCK_STAT.LATE l) true))

@[simp] theorem State.lateShown_frame (s : State) (l : Nat) (t : Tick) (n : Nat) :
    (s.lateShown l t n).base = s.base ∧ (s.lateShown l t n).outs = s.outs ∧ (s.lateShown l t n).ledgers = s.ledgers ∧
    (s.lateShown l t n).fluxes = s.fluxes ∧ (s.lateShown l t n).raised = s.raised ∧ (s.lateShown l t n).life = s.life := by
  obtain h | h := s.lateShown_cases l t n <;> simp [h, State.lateCounted, State.capture]

/-- Of the lock lanes, a late tick writes its own. -/
theorem State.lockLane_lateShown_ne (s : State) {l j : Nat} (t : Tick) (n : Nat) (hj : j ≠ l) :
    (s.lateShown l t n).lockLane j = s.lockLane j := by
  have hlocks : (s.lateShown l t n).locks = (s.lateCounted l t n).locks := by
    obtain h | h := s.lateShown_cases l t n <;> simp [h, State.capture]
  rw [State.lockLane, hlocks]
  exact Store.read_write_ne _ _ _ hj

@[simp] theorem State.lockLane_markPartial (s : State) (b cz j : Nat) : (s.markPartial b cz).lockLane j = s.lockLane j := by
  simp only [State.lockLane, State.markPartial_frame]

@[simp] theorem State.get_markPartial (s : State) (b cz : Nat) (f : Rf) : (s.markPartial b cz).get f = s.get f := by
  simp only [State.get, State.rd, State.markPartial_frame]

theorem State.bit_lateShown (s : State) (l : Nat) (t : Tick) (n : Nat) : (s.lateShown l t n).bit (LOCK_STAT.LATE l) = true :=
  State.bit_setBit_true _ rfl (by decide : 4 < 32)

theorem State.get_lateShown_count (s : State) (l : Nat) (t : Tick) (n : Nat) : (s.lateShown l t n).get (LOCK_LATE_CNT.COUNT l) =
    Nat.min (s.get (LOCK_LATE_CNT.COUNT l) + n) (2 ^ (LOCK_LATE_CNT.COUNT l).len - 1) := by
  have hstat : (LOCK_LATE_CNT.COUNT l).addr ≠ (LOCK_STAT.LATE l).addr := by
    simp [LOCK_LATE_CNT.COUNT, LOCK_STAT.LATE, R.LOCK_LATE_CNT, R.LOCK_STAT]
  have htick : (LOCK_LATE_CNT.COUNT l).addr ≠ R.LOCK_LATE_TICK_LO l := by
    simp [LOCK_LATE_CNT.COUNT, R.LOCK_LATE_CNT, R.LOCK_LATE_TICK_LO]
  have hcapture : ∀ u : State, (u.capture (R.LOCK_LATE_TICK_LO l) t).get (LOCK_LATE_CNT.COUNT l) = u.get (LOCK_LATE_CNT.COUNT l) :=
    fun u => State.get_wr_ne (u.setWideVal _ _) _ _ _ htick
  have hcount : (s.lateCounted l t n).get (LOCK_LATE_CNT.COUNT l) =
      Nat.min (s.get (LOCK_LATE_CNT.COUNT l) + n) (2 ^ (LOCK_LATE_CNT.COUNT l).len - 1) := by
    rw [State.lateCounted, State.get_bump_same _ (LOCK_LATE_CNT.COUNT l) _ (Nat.le_refl 32), State.get_setLockLane]
  obtain h | h := s.lateShown_cases l t n <;> rw [h, State.setBit_eq, State.get_set_ne _ _ _ _ hstat]
  · exact hcount
  · rw [hcapture, hcount]

/-! ## What muting rests on (R134, R337, R341, R346) -/

/-- Whether the twin mutes a berth's outputs rests on registers from the mesh's on and on what no release writes. -/
theorem State.twinMuted_congr {s t : State} (b : Nat) (hb : t.base = s.base) (hr : ∀ a, 0xB00000 ≤ a → t.rd a = s.rd a) :
    t.twinMuted b = s.twinMuted b := by
  have hsys : t.sys = s.sys := (congrArg State.sys hb : t.base.sys = s.base.sys)
  have hwait : t.twWait = s.twWait := (congrArg State.twWait hb : t.base.twWait = s.base.twWait)
  have hrole : t.rd R.TWIN_STAT = s.rd R.TWIN_STAT := hr _ (by decide)
  have hstage : t.rd R.BOOT_STAT = s.rd R.BOOT_STAT := hr _ (by decide)
  have hpwr : t.rd R.PWR_STAT = s.rd R.PWR_STAT := hr _ (by decide)
  simp only [State.twinMuted, State.outMuted, State.twinRole, State.get, TWIN_STAT.ROLE, BOOT_STAT.STAGE, PWR_STAT.STATE, hsys,
    hwait, hrole, hstage, hpwr]

theorem State.muted_congr {s t : State} (b : Nat) (hb : t.base = s.base) : t.muted b = s.muted b := by
  have hmuteds : t.muteds = s.muteds := (congrArg State.muteds hb : t.base.muteds = s.base.muteds)
  rw [State.muted, hmuteds, State.muted]

/-! ## The release of a lane in RUN (R15, R41) -/

/-- Lane `l` is in RUN with coverage expected, nothing stopping, no late episode open, and its main lane the one released. -/
structure State.LaneRuns (s : State) (l : Nat) : Prop where
  run : (s.lockLane l).st = .run
  notStopping : (s.lockLane l).idleAt = none
  noEpisode : (s.lockLane l).episode = none
  begun : Tick.before s.tick (s.lockLane l).since = false
  main : s.chosenLane (berthOfLane l) s.tick = 0

/-- With both contexts of the berth free the main lane is released. -/
theorem State.chosenLane_of_free {s : State} {b : Nat} (t : Tick) (h0 : (s.ctx (2 * b)).busy = false)
    (h1 : (s.ctx (2 * b + 1)).busy = false) : s.chosenLane b t = 0 := by
  simp [State.chosenLane, State.holders, h0, h1]

/-- A lane without the entries and missed entries that tick `t` ends. -/
def LockLane.released (t : Tick) (k : LockLane) : LockLane :=
  { k with
    main := k.main.filter (fun e => !e.past t),
    stage := (k.stage.map (fun p => (p.1, p.2.filter (fun e => !e.past t)))).filter (fun p => !p.2.isEmpty),
    missed := if k.episode.isSome then k.missed else k.missed.filter (fun e => !e.past t) }

/-- Entry `e` releases the samples `v` in lane `l` in this tick, without actions. -/
structure State.ReleasesSample (s : State) (l : Nat) (e : Entry) (v : List Int) : Prop extends s.LaneRuns l where
  entry : onTime (s.lockLane l).main s.tick = some e
  cover : e.cover = .sample v
  noActions : e.acts = []

/-- The state after lane `l` has released `e`: its margin is measured, what the tick ends is gone. -/
def State.sampleReleased (s : State) (l : Nat) (e : Entry) : State :=
  let u := s.margin l (Tick.diff e.present s.tick)
  u.setLockLane l ((u.lockLane l).released s.tick)

/-- What lane `l` contributes when it releases the samples `v` of `e`. -/
def State.sampleOut (s : State) (l : Nat) (e : Entry) (v : List Int) : LaneOut :=
  let m := Tick.diff e.present s.tick
  { v := v, sample := true, sat := e.sat, below := decide (m < (s.margin l m).govTh) }

/-- The state after lane `l` has released nothing: the tick counts as late, what it ends is gone. -/
def State.lateReleased (s : State) (l : Nat) : State :=
  let u := s.lateTicks l s.tick 1
  u.setLockLane l ((u.lockLane l).released s.tick)

/-- A sample entry present in time gives its samples. -/
theorem State.releaseLane_onTime {s : State} {l : Nat} {e : Entry} {v : List Int} (h : s.ReleasesSample l e v) :
    s.releaseLane l = (s.sampleReleased l e, s.sampleOut l e v) := by
  obtain ⟨⟨hrun, hstop, hep, hsince, hmain⟩, he, hv, ha⟩ := h
  simp [State.releaseLane, State.sampleReleased, State.sampleOut, LockLane.lane, hrun, hstop, hep, hsince, hmain, he, hv, ha,
    LockLane.released]

/-- With no entry in time the lane gives zero. -/
theorem State.releaseLane_late {s : State} {l : Nat} (hk : s.LaneRuns l) (he : onTime (s.lockLane l).main s.tick = none) :
    s.releaseLane l = (s.lateReleased l, { LaneOut.zero with below := true }) := by
  obtain ⟨hrun, hstop, -, hsince, hmain⟩ := hk
  simp [State.releaseLane, State.lateReleased, LockLane.lane, hrun, hstop, hsince, hmain, he, LockLane.released]

theorem State.sampleReleased_frame (s : State) {l : Nat} (e : Entry) (hl : l < 128) :
    (s.sampleReleased l e).base = s.base ∧ (s.sampleReleased l e).outs = s.outs ∧ (s.sampleReleased l e).wide = s.wide ∧
    (s.sampleReleased l e).ledgers = s.ledgers ∧ (s.sampleReleased l e).fluxes = s.fluxes := by
  simp [State.sampleReleased, s.margin_frame _ hl]

theorem State.lockLane_sampleReleased_ne (s : State) {l j : Nat} (e : Entry) (hl : l < 128) (hj : j ≠ l) :
    (s.sampleReleased l e).lockLane j = s.lockLane j := by
  rw [State.sampleReleased, State.lockLane_setLockLane, if_neg hj, s.lockLane_margin_ne _ hl hj]

theorem State.rd_sampleReleased_ne (s : State) {l a : Nat} (e : Entry) (hl : l < 128) (h1 : a ≠ R.LOCK_LM_MIN l)
    (h2 : a ≠ R.LM_DEV_MIN) :
    (s.sampleReleased l e).rd a = s.rd a :=
  s.rd_margin_ne _ hl h1 h2

theorem State.twinMuted_sampleReleased (s : State) {l : Nat} (b : Nat) (e : Entry) (hl : l < 128) :
    (s.sampleReleased l e).twinMuted b = s.twinMuted b := by
  obtain ⟨hbase, -⟩ := s.sampleReleased_frame e hl
  refine State.twinMuted_congr b hbase fun a ha => s.rd_sampleReleased_ne e hl ?_ ?_
  · unfold R.LOCK_LM_MIN lockBase
    split <;> omega
  · unfold R.LM_DEV_MIN
    omega

theorem State.lateReleased_frame {s : State} {l : Nat} (hl : l < 128) (hep : (s.lockLane l).episode = none) :
    (s.lateReleased l).base = s.base ∧ (s.lateReleased l).outs = s.outs ∧ (s.lateReleased l).fluxes = s.fluxes ∧
    (s.lateReleased l).raised = s.raised ∧ (s.lateReleased l).life = s.life := by
  simp [State.lateReleased, State.lateTicks_eq _ _ hl hep]

theorem State.lockLane_lateReleased_ne {s : State} {l j : Nat} (hl : l < 128) (hep : (s.lockLane l).episode = none) (hj : j ≠ l) :
    (s.lateReleased l).lockLane j = s.lockLane j := by
  rw [State.lateReleased, State.lockLane_setLockLane, if_neg hj, State.lateTicks_eq _ _ hl hep, State.lockLane_markPartial,
    s.lockLane_lateShown_ne _ _ hj]

theorem State.get_lateReleased {s : State} {l : Nat} (f : Rf) (hl : l < 128) (hep : (s.lockLane l).episode = none) :
    (s.lateReleased l).get f = (s.lateShown l s.tick 1).get f := by
  rw [State.lateReleased, State.get_setLockLane, State.lateTicks_eq _ _ hl hep, State.get_markPartial]

theorem State.opening_lateReleased {s : State} {l : Nat} (b : Nat) (hl : l < 128) (hep : (s.lockLane l).episode = none) :
    ((s.lateReleased l).ledger b).opening = (s.ledger b).opening := by
  rw [State.lateReleased, State.ledger_setLockLane, State.lateTicks_eq _ _ hl hep, State.opening_markPartial]
  simp only [State.ledger, State.lateShown_frame]

/-! ## The drive output (R15, R143, R147) -/

/-- Saturation of the lane's samples in the drive's registers. -/
def State.driveSat (s : State) (b : Nat) (o : LaneOut) : State :=
  s.when o.sat (fun s => (s.setBit (DRV_STAT.SAT b) true).bump (DRV_SAT_CNT.COUNT b))

/-- What the output of berth `b` makes of the lane's release, and the margin monitor's report. -/
def State.driveOutput (s : State) (b : Nat) (o : LaneOut) : State :=
  let s := s.driveSat b o
  let live := !s.twinMuted b
  let s := s.when (o.sample && live) (·.setBit (DRV_CFG.SW_CLOSED b) true)
  s.shown b (if live && s.bit (DRV_CFG.SW_CLOSED b) && o.v.any (· != 0) then o.v else []) o.below

/-- With no stop, opening boundary or muted tick due, the drive lock's release is its lane's, then the output's. -/
theorem State.releaseDrive_eq {s u : State} {b : Nat} {o : LaneOut} (hstop : (s.ledger b).stopAt = none)
    (hopen : (s.ledger b).opening = none) (hlane : s.releaseLane b = (u, o)) (hopen' : (u.ledger b).opening = none)
    (hmute : u.muted b = []) : s.releaseDrive b = u.driveOutput b o := by
  have hstopDue : s.stopDue b = s := by simp [State.stopDue, hstop]
  have hdue : s.openDue b = s := by simp [State.openDue, hopen]
  have hdue' : u.openDue b = u := by simp [State.openDue, hopen']
  have hmuted : u.releaseMuted b = u := by simp [State.releaseMuted, hmute]
  simp only [State.releaseDrive, laneDrive, hstopDue, hdue, hlane, hdue', hmuted]
  rfl

theorem State.driveSat_cases (s : State) (b : Nat) (o : LaneOut) :
    s.driveSat b o = s ∨ s.driveSat b o = (s.setBit (DRV_STAT.SAT b) true).bump (DRV_SAT_CNT.COUNT b) :=
  State.when_cases ..

@[simp] theorem State.driveSat_frame (s : State) (b : Nat) (o : LaneOut) :
    (s.driveSat b o).base = s.base ∧ (s.driveSat b o).outs = s.outs ∧ (s.driveSat b o).wide = s.wide ∧
    (s.driveSat b o).ledgers = s.ledgers ∧ (s.driveSat b o).fluxes = s.fluxes ∧ (s.driveSat b o).locks = s.locks := by
  obtain h | h := s.driveSat_cases b o <;> simp [h]

theorem State.twinMuted_driveSat (s : State) {b : Nat} (j : Nat) (o : LaneOut) (hb : b < 64) :
    (s.driveSat b o).twinMuted j = s.twinMuted j := by
  refine State.twinMuted_congr j (by simp) fun a ha => ?_
  have hcnt : a ≠ (DRV_SAT_CNT.COUNT b).addr := by simp only [DRV_SAT_CNT.COUNT, R.DRV_SAT_CNT]; omega
  have hstat : a ≠ (DRV_STAT.SAT b).addr := by simp only [DRV_STAT.SAT, R.DRV_STAT]; omega
  obtain h | h := s.driveSat_cases b o
  · rw [h]
  · rw [h, State.bump, State.rd_set_ne _ _ _ hcnt, State.setBit_eq, State.rd_set_ne _ _ _ hstat]

/-- A live output closes its series switch for a sample and shows it. -/
theorem State.driveOutput_sample {s : State} {b : Nat} {o : LaneOut} (hb : b < 64) (hlive : s.twinMuted b = false)
    (hsample : o.sample = true) (hv : o.v.any (· != 0) = true) :
    s.driveOutput b o = ((s.driveSat b o).setBit (DRV_CFG.SW_CLOSED b) true).shown b o.v o.below := by
  have hclosed : ((s.driveSat b o).setBit (DRV_CFG.SW_CLOSED b) true).bit (DRV_CFG.SW_CLOSED b) = true :=
    State.bit_setBit_true _ rfl (by decide : 4 < 32)
  simp only [State.driveOutput, s.twinMuted_driveSat b o hb, hlive, hsample, Bool.not_false, Bool.and_true, State.when_true,
    hclosed, hv, if_true]

/-- Without a release the output shows zero. -/
theorem State.driveOutput_zero (s : State) (b : Nat) (below : Bool) :
    s.driveOutput b { LaneOut.zero with below := below } = s.shown b [] below := by
  simp [State.driveOutput, State.driveSat, LaneOut.zero]

section
variable {s : State} {b : Nat} (hb : b < 64) (hstop : (s.ledger b).stopAt = none) (hopen : (s.ledger b).opening = none)
  (hmute : s.muted b = [])
include hb hstop hopen hmute

/-- The drive lock releases a sample entry present in time. -/
theorem State.releaseDrive_onTime {e : Entry} {v : List Int} (h : s.ReleasesSample b e v) (hlive : s.twinMuted b = false)
    (hv : v.any (· != 0) = true) :
    s.releaseDrive b = (((s.sampleReleased b e).driveSat b (s.sampleOut b e v)).setBit (DRV_CFG.SW_CLOSED b) true).shown b v
      (s.sampleOut b e v).below := by
  have hl : b < 128 := by omega
  obtain ⟨hbase, -, -, hledgers, -⟩ := s.sampleReleased_frame e hl
  have hopen' : ((s.sampleReleased b e).ledger b).opening = none := by rw [State.ledger, hledgers]; exact hopen
  have hmute' : (s.sampleReleased b e).muted b = [] := by rw [State.muted_congr b hbase, hmute]
  have hlive' : (s.sampleReleased b e).twinMuted b = false := by rw [s.twinMuted_sampleReleased b e hl, hlive]
  rw [State.releaseDrive_eq hstop hopen (State.releaseLane_onTime h) hopen' hmute']
  exact State.driveOutput_sample hb hlive' rfl hv

/-- The drive lock has no entry to release. -/
theorem State.releaseDrive_late (hk : s.LaneRuns b) (he : onTime (s.lockLane b).main s.tick = none) :
    s.releaseDrive b = (s.lateReleased b).shown b [] true := by
  have hl : b < 128 := by omega
  obtain ⟨hbase, -⟩ := State.lateReleased_frame hl hk.noEpisode
  have hopen' : ((s.lateReleased b).ledger b).opening = none := by rw [State.opening_lateReleased b hl hk.noEpisode, hopen]
  have hmute' : (s.lateReleased b).muted b = [] := by rw [State.muted_congr b hbase, hmute]
  rw [State.releaseDrive_eq hstop hopen (State.releaseLane_late hk he) hopen' hmute', State.driveOutput_zero]

/-- A live drive output shows the entry's samples through a closed series switch. -/
theorem State.releaseDrive_shows_samples {e : Entry} {v : List Int} (h : s.ReleasesSample b e v) (hlive : s.twinMuted b = false)
    (hv : v.any (· != 0) = true) :
    let t := s.releaseDrive b
    t.outPin b = v ∧ t.bit (DRV_CFG.SW_CLOSED b) = true ∧ s.othersSame t State.outPin b ∧ s.othersSame t State.lockLane b ∧
      t = { s with locks := t.locks, regs := t.regs, outs := t.outs, raised := t.raised, life := t.life, govMon := t.govMon,
                   gov := t.gov } := by
  have hl : b < 128 := by omega
  have hgov : (DRV_CFG.SW_CLOSED b).addr ≠ R.GOV_STAT := by simp only [DRV_CFG.SW_CLOSED, R.DRV_CFG, R.GOV_STAT]; omega
  obtain ⟨hbase, houts, hwide, hledgers, hfluxes⟩ := s.sampleReleased_frame e hl
  rw [State.releaseDrive_onTime hb hstop hopen hmute h hlive hv]
  refine ⟨?_, ?_, State.othersSame_outPin_shown _ _ _ (by simpa using houts), fun j hj => ?_,
    State.eq_of_base_eq_sample (by simpa using hbase) (by simpa using hwide) (by simpa using hledgers) (by simpa using hfluxes)⟩
  · rw [State.outPin_shown, if_pos rfl]
  · rw [State.bit, State.get_shown _ _ _ _ hgov]
    exact State.bit_setBit_true _ rfl (by decide : 4 < 32)
  · rw [← s.lockLane_sampleReleased_ne e hl hj]
    simp only [State.lockLane, State.shown_frame, State.setBit_frame, State.driveSat_frame]

/-- With no entry in time the drive output shows zero and its lock counts a late tick. -/
theorem State.releaseDrive_shows_zero (hk : s.LaneRuns b) (he : onTime (s.lockLane b).main s.tick = none) :
    let t := s.releaseDrive b
    t.outPin b = [] ∧ t.bit (LOCK_STAT.LATE b) = true ∧
      t.get (LOCK_LATE_CNT.COUNT b) = Nat.min (s.get (LOCK_LATE_CNT.COUNT b) + 1) (2 ^ (LOCK_LATE_CNT.COUNT b).len - 1) ∧
      s.othersSame t State.outPin b ∧ s.othersSame t State.lockLane b ∧
      t = { s with locks := t.locks, regs := t.regs, outs := t.outs, wide := t.wide, ledgers := t.ledgers, govMon := t.govMon,
                   gov := t.gov } := by
  have hl : b < 128 := by omega
  have hstat : (LOCK_STAT.LATE b).addr ≠ R.GOV_STAT := by
    simp only [LOCK_STAT.LATE, R.LOCK_STAT, lockBase, if_pos hb, R.GOV_STAT]; omega
  have hcnt : (LOCK_LATE_CNT.COUNT b).addr ≠ R.GOV_STAT := by
    simp only [LOCK_LATE_CNT.COUNT, R.LOCK_LATE_CNT, lockBase, if_pos hb, R.GOV_STAT]; omega
  obtain ⟨hbase, houts, hfluxes, hraised, hlife⟩ := State.lateReleased_frame hl hk.noEpisode
  rw [State.releaseDrive_late hb hstop hopen hmute hk he]
  refine ⟨?_, ?_, ?_, State.othersSame_outPin_shown _ _ _ houts, fun j hj => ?_,
    State.eq_of_base_eq_late (by simpa using hbase) (by simpa using hfluxes) (by simpa using hraised) (by simpa using hlife)⟩
  · rw [State.outPin_shown, if_pos rfl]
  · rw [State.bit, State.get_shown _ _ _ _ hstat, State.get_lateReleased _ hl hk.noEpisode]
    exact s.bit_lateShown b s.tick 1
  · rw [State.get_shown _ _ _ _ hcnt, State.get_lateReleased _ hl hk.noEpisode, State.get_lateShown_count]
  · rw [← State.lockLane_lateReleased_ne hl hk.noEpisode hj]
    simp only [State.lockLane, State.shown_frame]

end

/-! ## The flux pulse (R161, R163) -/

/-- The sum of the stage and the pulse `p` in the overflow registers of line `b`. -/
def State.fluxSum (s : State) (b : Nat) (p : Int) : State :=
  s.when (satFlag 18 (((s.fluxLine b).stageAt (s.tick + 5)).toInt + p))
    (fun s => (s.setBit (FLX_STAT.OVR b) true).bump (FLX_OVR_CNT.COUNT b))

@[simp] theorem State.fluxSum_frame (s : State) (b : Nat) (p : Int) :
    (s.fluxSum b p).base = s.base ∧ (s.fluxSum b p).outs = s.outs ∧ (s.fluxSum b p).wide = s.wide ∧
    (s.fluxSum b p).ledgers = s.ledgers := by
  have h : s.fluxSum b p = s ∨ s.fluxSum b p = (s.setBit (FLX_STAT.OVR b) true).bump (FLX_OVR_CNT.COUNT b) := State.when_cases ..
  obtain h | h := h <;> simp [h]

/-- A pulse at an open clamp is shown, and goes to the output stage. -/
theorem State.releaseFlux_open {s u : State} {b : Nat} {o : LaneOut} {p : Int} (hlane : s.releaseLane (64 + b) = (u, o))
    (hlive : u.twinMuted b = false) (hclamp : u.bit (FLX_CFG.CLAMPED b) = false) (hp : o.v.headD 0 = p) (hp0 : p ≠ 0) :
    s.releaseFlux b = ((u.fluxSum b p).setFluxLine b { u.fluxLine b with pulse := BitVec.ofInt 18 p }).shown (64 + b) [p] o.below := by
  have hp0' : (p == 0) = false := by simpa using hp0
  simp only [State.releaseFlux, laneFlux, State.fluxSum, State.shown, hlane, hlive, hclamp, hp, hp0', Bool.false_and, Bool.false_or,
    Bool.not_false, Bool.true_and, State.when_false, Bool.false_eq_true, if_false]

/-- The flux pulse lock shows the first sample of an entry present in time while the clamp is open. -/
theorem State.releaseFlux_shows_sample {s : State} {b : Nat} {e : Entry} {v : List Int} (hb : b < 64)
    (h : s.ReleasesSample (64 + b) e v) (hlive : s.twinMuted b = false) (hclamp : s.bit (FLX_CFG.CLAMPED b) = false)
    (hv : v.headD 0 ≠ 0) :
    let t := s.releaseFlux b
    t.outPin (64 + b) = [v.headD 0] ∧ s.othersSame t State.outPin (64 + b) ∧
      t = { s with locks := t.locks, regs := t.regs, outs := t.outs, raised := t.raised, life := t.life, govMon := t.govMon,
                   gov := t.gov, fluxes := t.fluxes } := by
  have hl : 64 + b < 128 := by omega
  have hlive' : (s.sampleReleased (64 + b) e).twinMuted b = false := by rw [s.twinMuted_sampleReleased b e hl, hlive]
  have hclamp' : (s.sampleReleased (64 + b) e).bit (FLX_CFG.CLAMPED b) = false := by
    rw [State.bit, State.get, s.rd_sampleReleased_ne e hl, ← State.get, ← State.bit, hclamp]
    · simp only [FLX_CFG.CLAMPED, R.FLX_CFG, R.LOCK_LM_MIN, lockBase]
      split <;> omega
    · simp only [FLX_CFG.CLAMPED, R.FLX_CFG, R.LM_DEV_MIN]
      omega
  obtain ⟨hbase, houts, hwide, hledgers, -⟩ := s.sampleReleased_frame e hl
  rw [State.releaseFlux_open (p := v.headD 0) (State.releaseLane_onTime h) hlive' hclamp' rfl hv]
  refine ⟨?_, State.othersSame_outPin_shown _ _ _ (by simpa using houts),
    State.eq_of_base_eq_onTime (by simpa using hbase) (by simpa using hwide) (by simpa using hledgers)⟩
  rw [State.outPin_shown, if_pos rfl]

/-! ## BARGE_RELEASE -/

/-- BARGE_RELEASE has one meaning, whichever lock it is of. -/
theorem exec_bargeRelease (l : Fin 144) (s : State) : exec (.bargeRelease l) s = execBargeRelease l s := rfl

theorem exec_bargeRelease_drive {l : Fin 144} {b : Fin 64} (s : State) (h : l.val = b.val) :
    exec (.bargeRelease l) s = .next (s.releaseDrive b) := by
  rw [exec_bargeRelease, execBargeRelease, if_pos (by omega), h]

theorem exec_bargeRelease_flux {l : Fin 144} {b : Fin 64} (s : State) (h : l.val = 64 + b.val) :
    exec (.bargeRelease l) s = .next (s.releaseFlux b) := by
  rw [exec_bargeRelease, execBargeRelease, if_neg (by omega), if_pos (by omega), h, Nat.add_sub_cancel_left]

/-- Settles O12: the release of the lane, then what the output makes of it. -/
theorem bargeReleasedInItsTick : Obligations.BargeReleasedInItsTick := by
  unfold Obligations.BargeReleasedInItsTick
  intro s l b e v k free quiet onTimeSample still
  have hb : b.val < 64 := b.isLt
  have hdrive : berthOfLane b = b := Nat.mod_eq_of_lt hb
  have hflux : berthOfLane (64 + b) = b := by rw [berthOfLane, Nat.add_mod_left, Nat.mod_eq_of_lt hb]
  have hruns : ∀ j, l.val = j → berthOfLane j = b → quiet → s.LaneRuns j := by
    rintro j rfl hj ⟨hrun, hidle, hep, hsince, h0, h1⟩
    exact ⟨hrun, hidle, hep, hsince, by rw [hj, State.chosenLane_of_free s.tick h0 h1]⟩
  refine ⟨?_, ?_, ?_⟩
  · rintro hl hquiet ⟨hstop, hopen, hmute⟩ ⟨he, hcover, hacts⟩ hlive hv
    simp only [k, hl] at he
    exact ⟨_, exec_bargeRelease_drive s hl,
      State.releaseDrive_shows_samples hb hstop hopen hmute ⟨hruns b hl hdrive hquiet, he, hcover, hacts⟩ hlive hv⟩
  · rintro hl hquiet ⟨hstop, hopen, hmute⟩ he
    simp only [k, hl] at he
    exact ⟨_, exec_bargeRelease_drive s hl, State.releaseDrive_shows_zero hb hstop hopen hmute (hruns b hl hdrive hquiet) he⟩
  · rintro hl hquiet ⟨he, hcover, hacts⟩ hlive hclamp hv
    simp only [k, hl] at he
    exact ⟨_, exec_bargeRelease_flux s hl,
      State.releaseFlux_shows_sample hb ⟨hruns (64 + b) hl hflux hquiet, he, hcover, hacts⟩ hlive hclamp hv⟩

end Sys2Proof.Machine
end

section
/-! PROOF. Reading the state after effects under a condition or over a list, and fields that share no bit. -/

namespace Sys2Proof.Machine

variable {α β : Type} {s t : State} {f g : Rf}

/-! ## Effects under a condition, and over a list -/

/-- A predicate outlives an effect under a condition that keeps it. -/
theorem State.when_keeps {P : State → Prop} {e : State → State} (c : Bool) (he : P s → P (e s)) (h : P s) : P (s.when c e) := by
  cases c
  · exact h
  · exact he h

/-- A predicate outlives effects over a list that each keep it. -/
theorem State.each_keeps {P : State → Prop} {e : State → α → State} (l : List α) (he : ∀ u a, P u → P (e u a)) (h : P s) :
    P (s.each l e) := by
  induction l generalizing s with
  | nil => exact h
  | cons a l ih => exact ih (he s a h)

/-- What an effect leaves alone, it leaves alone under a condition. -/
theorem State.when_same {e : State → State} (c : Bool) (p : State → β) (h : p (e s) = p s) : p (s.when c e) = p s :=
  State.when_keeps (P := fun u => p u = p s) c (fun _ => h) rfl

/-- What each effect leaves alone, they all leave alone. -/
theorem State.each_same {e : State → α → State} (l : List α) (p : State → β) (h : ∀ u a, p (e u a) = p u) :
    p (s.each l e) = p s :=
  State.each_keeps (P := fun u => p u = p s) l (fun u a hu => (h u a).trans hu) rfl

/-- Lock lanes after one change to each lane of a list. -/
theorem State.lockLane_each_modLockLane (e : LockLane → LockLane) (j : Nat) :
    ∀ {l : List Nat} (s : State), l.Nodup →
      (s.each l (fun u i => u.modLockLane i e)).lockLane j = if j ∈ l then e (s.lockLane j) else s.lockLane j
  | [], _, _ => rfl
  | a :: l, s, h => by
    obtain ⟨ha, hl⟩ := List.nodup_cons.mp h
    rw [State.each_cons, State.lockLane_each_modLockLane e j _ hl, State.modLockLane_eq, State.lockLane_setLockLane]
    by_cases hj : j = a
    · subst hj; simp [ha]
    · simp [hj]

/-! ## Register fields -/

/-- A field that shares no bit with the one set. -/
theorem State.get_set_apart (v : Nat) (hw : g.lo + g.len ≤ 32) (h : f.apart g) : (s.set f v).get g = s.get g := by
  obtain h | h := h
  · exact s.get_set_ne f g v (Ne.symm h)
  · exact s.get_set_disjoint f g v hw h

theorem State.bit_set_apart (v : Nat) (hw : g.lo + g.len ≤ 32) (h : f.apart g) : (s.set f v).bit g = s.bit g := by
  rw [State.bit, State.get_set_apart v hw h, State.bit]

theorem State.bit_setBit_apart (v : Bool) (hw : g.lo + g.len ≤ 32) (h : f.apart g) : (s.setBit f v).bit g = s.bit g :=
  State.bit_set_apart _ hw h

/-- A single-bit field just set, to either value. -/
theorem State.bit_setBit_same (s : State) (v : Bool) (hlen : f.len = 1) (hlo : f.lo < 32) : (s.setBit f v).bit f = v := by
  rw [State.bit, State.setBit_eq, State.get_set_same _ _ _ (by omega), hlen]
  cases v <;> rfl

/-- A field just set to a value that fits. -/
theorem State.get_set_of_lt (s : State) {v : Nat} (h : f.lo + f.len ≤ 32) (hv : v < 2 ^ f.len) : (s.set f v).get f = v := by
  rw [State.get_set_same _ _ _ h, Nat.mod_eq_of_lt hv]

theorem State.rd_of_regs_eq (h : t.regs = s.regs) (a : Nat) : t.rd a = s.rd a := by
  rw [State.rd, h, State.rd]

theorem State.get_of_regs_eq (h : t.regs = s.regs) (f : Rf) : t.get f = s.get f := by
  rw [State.get, State.rd_of_regs_eq h, State.get]

theorem State.lockLane_of_locks_eq (h : t.locks = s.locks) (j : Nat) : t.lockLane j = s.lockLane j := by
  rw [State.lockLane, h, State.lockLane]

@[simp] theorem State.lockLane_set (s : State) (f : Rf) (v j : Nat) : (s.set f v).lockLane j = s.lockLane j :=
  State.lockLane_of_locks_eq rfl j

@[simp] theorem State.lockLane_setBit (s : State) (f : Rf) (v : Bool) (j : Nat) : (s.setBit f v).lockLane j = s.lockLane j :=
  s.lockLane_set f _ j

@[simp] theorem State.lockLane_setOutPin (s : State) (i j : Nat) (v : List Int) : (s.setOutPin i v).lockLane j = s.lockLane j :=
  State.lockLane_of_locks_eq rfl j

@[simp] theorem State.get_setOutPin (s : State) (i : Nat) (v : List Int) (f : Rf) : (s.setOutPin i v).get f = s.get f :=
  State.get_of_regs_eq rfl f

theorem State.outPin_of_outs_eq (h : t.outs = s.outs) (j : Nat) : t.outPin j = s.outPin j := by
  rw [State.outPin, h, State.outPin]

theorem State.fieldsOnly_of_regs_eq (h : t.regs = s.regs) (fs : List Rf) : s.fieldsOnly t fs :=
  fun g _ _ => State.get_of_regs_eq h g

/-- Setting a listed field stays within the list. -/
theorem State.fieldsOnly.set {fs : List Rf} (h : s.fieldsOnly t fs) (hf : f ∈ fs) (v : Nat) : s.fieldsOnly (t.set f v) fs :=
  fun g hw hg => (State.get_set_apart v hw (hg f hf)).trans (h g hw hg)

end Sys2Proof.Machine
end

section
/-! PROOF. The queue of commands and the tick of an empty queue (R5, R26, R324). -/

namespace Sys2Proof.Machine

/-- Settles O1: `step` runs the front command by its definition. -/
theorem frontCommandRuns : Obligations.FrontCommandRuns := fun _ _ _ => rfl

/-! ## One tick -/

/-- The state at tick `t`. -/
def State.withTick (s : State) (t : Tick) : State := { s with tick := t }

section
variable {P : State → Prop} {s : State} (hset : ∀ u f v, P u → P (State.set u f v))
include hset

/-- Showing the time is a matter of register fields. -/
theorem State.showTime_keeps (h : P s) : P s.showTime := hset _ _ _ (hset _ _ _ (hset _ _ _ h))

/-- TIME's tick writes the time servo and register fields. -/
theorem State.timeTick_keeps (h : ∀ v, P { s with time := v }) : P s.timeTick :=
  State.showTime_keeps hset (hset _ _ _ (hset _ _ _ (h _)))

/-- Besides counting, the clock's tick is a matter of register fields. -/
theorem State.clockTick_keeps (h : P (s.timeTick.withTick (s.tick + 1))) : P s.clockTick := by
  have hstall := State.each_keeps (P := P) (e := fun s b =>
      s.when (s.get (PLT_STAT.STATE b) == plt.poundFull) (·.bump (PND_STALL_CNT.COUNT b))) (List.range 64)
    (fun u b hu => State.when_keeps (P := P) _ (hset _ _ _) hu) h
  have hrestart := State.each_keeps (P := P) (e := fun s l =>
      s.when (s.bit (LANE_CTRL.RESTART l)) (·.setBit (LANE_CTRL.RESTART l) false)) (List.range 32)
    (fun u l hu => State.when_keeps (P := P) _ (hset _ _ _) hu) hstall
  exact hset _ _ _ (hset _ _ _ hrestart)

end

/-- The state without TICK, registers and the time servo. -/
def State.exceptClock (s : State) : State := { s with tick := 0, regs := [], time := .init }

@[simp] theorem State.exceptClock_set (s : State) (f : Rf) (v : Nat) : (s.set f v).exceptClock = s.exceptClock := rfl
@[simp] theorem State.exceptClock_withTick (s : State) (t : Tick) : (s.withTick t).exceptClock = s.exceptClock := rfl
@[simp] theorem State.exceptClock_time (s : State) (t : TimeSt) : { s with time := t }.exceptClock = s.exceptClock := rfl

theorem State.eq_of_exceptClock_eq {s t : State} (h : t.exceptClock = s.exceptClock) :
    t = { s with tick := t.tick, regs := t.regs, time := t.time } :=
  congrArg (fun u : State => { u with tick := t.tick, regs := t.regs, time := t.time }) h

theorem State.tick_clockTick (s : State) : s.clockTick.tick = s.tick + 1 :=
  State.clockTick_keeps (P := fun u => u.tick = s.tick + 1) (fun _ _ _ h => h) rfl

theorem State.exceptClock_clockTick (s : State) : s.clockTick.exceptClock = s.exceptClock := by
  have hset : ∀ (u : State) (f : Rf) (v : Nat), u.exceptClock = s.exceptClock → (u.set f v).exceptClock = s.exceptClock := by
    simp
  have htime : s.timeTick.exceptClock = s.exceptClock :=
    State.timeTick_keeps (P := fun u => u.exceptClock = s.exceptClock) hset (by simp)
  exact State.clockTick_keeps (P := fun u => u.exceptClock = s.exceptClock) hset ((State.exceptClock_withTick _ _).trans htime)

/-- Settles O2: with nothing waiting a step is the clock's tick. -/
theorem emptyQueueTicks : Obligations.EmptyQueueTicks := by
  intro s hs
  have hstep : step s = .next s.clockTick := by simp only [step, hs]
  exact ⟨_, hstep, s.tick_clockTick, State.eq_of_exceptClock_eq s.exceptClock_clockTick⟩

end Sys2Proof.Machine
end

section
/-! PROOF. Reads with side effects and the marker pins (R26, R39, R43, R130). -/

namespace Sys2Proof.Machine

/-! ## Reads -/

theorem Tick.high_lt (t : Tick) : t.toNat / 2 ^ 32 < 2 ^ 16 := by
  have := t.isLt
  omega

/-- A read of TPL_TICK_LO holds the high half of TICK. -/
theorem exec_tplTickLoRead (s : State) : ∃ t, exec .tplTickLoRead s = .next t ∧ t.answered = some (s.tick.setWidth 32) ∧
    t.get TPL_TICK_HI.TICK_HI = s.tick.toNat / 2 ^ 32 ∧ s.fieldsOnly t [TPL_TICK_HI.TICK_HI] ∧
    t = { s with regs := t.regs, answered := t.answered } :=
  ⟨_, rfl, rfl, s.get_set_of_lt (f := TPL_TICK_HI.TICK_HI) (by decide) (Tick.high_lt _),
    State.fieldsOnly.set (State.fieldsOnly_of_regs_eq rfl _) (List.mem_singleton_self _) _, rfl⟩

/-- The device's minimum cleared. -/
def State.devMinCleared (s : State) : State := (s.set LM_DEV_MIN.MIN 0x7FFF).set LM_DEV_MIN.LOCK_ID 0xFF

/-- Every lock may raise LM_LOW again. -/
def State.noticesCleared (s : State) : State :=
  s.each (List.range 192) (fun u l => u.modLockLane l (fun k => { k with noticed := false }))

theorem State.lockLane_noticesCleared (s : State) {i : Nat} (hi : i < 192) :
    s.noticesCleared.lockLane i = { s.lockLane i with noticed := false } := by
  rw [State.noticesCleared, State.lockLane_each_modLockLane _ _ _ List.nodup_range, if_pos (List.mem_range.mpr hi)]

theorem State.noticesCleared_eq (s : State) : s.noticesCleared = { s with locks := s.noticesCleared.locks } :=
  State.each_keeps (P := fun u => u = { s with locks := u.locks }) _ (fun u l h => by rw [h]; rfl) rfl

theorem State.regs_noticesCleared (s : State) : s.noticesCleared.regs = s.regs :=
  State.each_same _ State.regs fun _ _ => rfl

/-- The state after a read of LM_DEV_MIN. -/
def State.devMinRead (s : State) : State := s.devMinCleared.noticesCleared.answer (s.rd R.LM_DEV_MIN)

theorem State.regs_devMinRead (s : State) : s.devMinRead.regs = s.devMinCleared.regs := by
  rw [State.devMinRead, State.answer, State.regs_noticesCleared]

theorem State.lockLane_devMinRead (s : State) {i : Nat} (hi : i < 192) :
    s.devMinRead.lockLane i = { s.lockLane i with noticed := false } := by
  have hlocks : s.devMinRead.locks = s.devMinCleared.noticesCleared.locks := by
    simp only [State.devMinRead, State.answer_frame]
  have hlane : s.devMinCleared.lockLane i = s.lockLane i := State.lockLane_of_locks_eq rfl i
  simp only [State.lockLane_of_locks_eq hlocks, State.lockLane_noticesCleared _ hi, hlane]

/-- An answer to a read that has changed registers and lock lanes. -/
theorem State.answer_eq {s t : State} (h : t = { s with regs := t.regs, locks := t.locks }) (w : Word) :
    t.answer w = { s with regs := (t.answer w).regs, locks := (t.answer w).locks, answered := (t.answer w).answered } :=
  congrArg (State.answer · w) h

theorem State.devMinRead_eq (s : State) :
    s.devMinRead = { s with regs := s.devMinRead.regs, locks := s.devMinRead.locks, answered := s.devMinRead.answered } :=
  State.answer_eq ((State.noticesCleared_eq _).trans (by rw [s.devMinCleared.regs_noticesCleared]; rfl)) _

/-- A read of LM_DEV_MIN clears it. -/
theorem exec_lmDevMinRead (s : State) : ∃ t, exec .lmDevMinRead s = .next t ∧ t.answered = some (s.rd R.LM_DEV_MIN) ∧
    t.get LM_DEV_MIN.MIN = 0x7FFF ∧ t.get LM_DEV_MIN.LOCK_ID = 0xFF ∧
    (∀ i : Fin 192, t.lockLane i = { s.lockLane i with noticed := false }) ∧
    s.fieldsOnly t [LM_DEV_MIN.MIN, LM_DEV_MIN.LOCK_ID] ∧
    t = { s with regs := t.regs, locks := t.locks, answered := t.answered } := by
  have hget : ∀ f, s.devMinRead.get f = s.devMinCleared.get f := State.get_of_regs_eq s.regs_devMinRead
  have hfields : s.fieldsOnly s.devMinCleared [LM_DEV_MIN.MIN, LM_DEV_MIN.LOCK_ID] :=
    ((State.fieldsOnly_of_regs_eq rfl _).set (by simp) _).set (by simp) _
  refine ⟨s.devMinRead, rfl, rfl, ?_, ?_, fun i => ?_, fun g hw hg => ?_, s.devMinRead_eq⟩
  · rw [hget, State.devMinCleared, State.get_set_apart _ (by decide) (.inr (.inr (by decide))),
      State.get_set_of_lt _ (by decide) (by decide)]
  · rw [hget, State.devMinCleared, State.get_set_of_lt _ (by decide) (by decide)]
  · exact s.lockLane_devMinRead i.isLt
  · rw [hget, hfields g hw hg]

/-- A read of LOCK_LATE_TICK_LO latches the high half. -/
theorem exec_lockLateTickRead (s : State) (l : Fin 144) : ∃ t, exec (.lockLateTickRead l) s = .next t ∧
    t.answered = some (s.rd (R.LOCK_LATE_TICK_LO l)) ∧
    t.rd (R.LOCK_LATE_TICK_LO l + 4) = ((s.wideVal (R.LOCK_LATE_TICK_LO l)).extractLsb' 32 16).setWidth 32 ∧
    (∀ a, a ≠ R.LOCK_LATE_TICK_LO l + 4 → t.rd a = s.rd a) ∧ t = { s with regs := t.regs, answered := t.answered } :=
  ⟨_, rfl, rfl, s.rd_wr_same .., fun _ h => s.rd_wr_ne _ h, rfl⟩

/-! ## Marker pins -/

theorem exec_mrkSelWrite (s : State) (n : Fin 16) (w : Word) : exec (.mrkSelWrite n w) s =
    .next ((s.wr (R.MRK_SEL n) (w &&& 0x00FF07FF)).setMrkPin n { s.mrkPin n with
      due := (s.mrkPin n).due ++ [(s.tick + 4, .sel (w &&& 0x00FF07FF)
        ((s.mrkLine (fieldOf (w &&& 0x00FF07FF) 2 6)).getLsbD (fieldOf (w &&& 0x00FF07FF) 8 2)))] }) := rfl

/-- The one item of a pin takes effect if it is due, and stays if it is not. -/
theorem exec_mrkPinUpdate_single {s : State} {n : Fin 16} {d : Tick} {ev : MrkEv} (h : (s.mrkPin n).due = [(d, ev)]) :
    (Tick.le d s.tick = true → exec (.mrkPinUpdate n) s = .next (s.setMrkPin n (match ev with
      | .level v => { s.mrkPin n with due := [], line := v }
      | .pulse => { s.mrkPin n with
          due := [], pulseEnd := some (d + BitVec.ofNat 48 (Nat.max 1 (fieldOf (s.mrkPin n).sel 16 8))) }
      | .sel w v => { s.mrkPin n with due := [], sel := w, line := v, pulseEnd := none }))) ∧
    (Tick.le d s.tick = false → exec (.mrkPinUpdate n) s = .next (s.setMrkPin n (s.mrkPin n))) := by
  have hexec : exec (.mrkPinUpdate n) s = execMrkPinUpdate n s := rfl
  rw [hexec, execMrkPinUpdate]
  refine ⟨fun hd => ?_, fun hd => ?_⟩
  · cases ev <;> simp [h, hd]
  · have hkeep : (s.mrkPin n).due.filter (fun i => !Tick.le i.1 s.tick) = (s.mrkPin n).due := by simp [h, hd]
    have hnone : (s.mrkPin n).due.filter (fun i => Tick.le i.1 s.tick) = [] := by simp [h, hd]
    rw [hkeep, hnone]
    rfl

theorem exec_mrkPulseEnd {s : State} {n : Fin 16} {d : Tick} (h : (s.mrkPin n).pulseEnd = some d) :
    exec (.mrkPulseEnd n) s =
      .next (s.setMrkPin n (if Tick.le d s.tick then { s.mrkPin n with pulseEnd := none } else s.mrkPin n)) := by
  have hexec : exec (.mrkPulseEnd n) s = execMrkPulseEnd n s := rfl
  rw [hexec, execMrkPulseEnd]
  simp only [State.modMrkPin_eq, h]

/-- Settles O13: each read's own rule, and the pin's by whether its item is due. -/
theorem readsThatLatchAndMarkerPins : Obligations.ReadsThatLatchAndMarkerPins := by
  refine ⟨fun s l => ⟨exec_tplTickLoRead s, exec_lmDevMinRead s, exec_lockLateTickRead s l⟩, fun s n w d v => ⟨?_, ?_, ?_, ?_, ?_, ?_⟩⟩
  · exact fun h hd => (exec_mrkPinUpdate_single h).1 hd
  · exact fun h hd => (exec_mrkPinUpdate_single h).2 hd
  · exact fun h hd => (exec_mrkPinUpdate_single h).1 hd
  · exact fun h hd => by rw [exec_mrkPulseEnd h, if_pos hd]
  · exact fun h hd => by rw [exec_mrkPulseEnd h, hd]; rfl
  · exact exec_mrkSelWrite s n w

end Sys2Proof.Machine
end

section
/-! PROOF. The device after reset (R61, R337, R389, R416, R446; the reset column of the register tables). -/

namespace Sys2Proof.Machine

/-- After reset a field reads as its register's table has it. -/
theorem State.get_reset (f : Rf) : State.reset.get f = fieldOf (regReset f.addr) f.lo f.len := rfl

/-- After reset every sparse store is unlisted, which is canonical. -/
theorem State.canonical_reset : State.reset.Canonical := by
  constructor
  case copies => exact fun p hp => nomatch hp
  case save => exact fun c hc => nomatch hc
  all_goals rfl

/-! ## Reset words of the rows that stand once for each berth, source, mailbox and channel

The register map and the table of fault sources are closed: each word is read off by evaluation. -/

theorem regReset_pilot : ∀ b, b < 64 → regReset (R.PLT_STAT b) = 0 ∧ regReset (R.PLT_TIME_CFG b) = 0x40010000 ∧
    regReset (R.DRV_CFG b) = 0 := by decide +kernel

theorem regReset_fltReact : ∀ n, n < 192 → regReset (R.FLT_REACT n) = BitVec.ofNat 32 (reactReset n) := by decide +kernel

theorem regReset_mbxCfg : ∀ m, m < 32 → regReset (R.MBX_CFG m) = if m < 16 then 0x14 else 0x11 := by decide +kernel

theorem regReset_evtChCfg : ∀ c, c < 256 → regReset (R.EVT_CH_CFG c) = 1 := by decide +kernel

/-- The reset word of a source's reactions in its fields: severity, ASSIGNED, and CHIP_RESET of the fatal ones but THERM_SHUTDOWN. -/
theorem reactReset_fields : ∀ n, n < 192 →
    fieldOf (BitVec.ofNat 32 (reactReset n)) 0 2 = faultSev n ∧
    (fieldOf (BitVec.ofNat 32 (reactReset n)) 31 1 != 0) = faultAssigned n ∧
    (fieldOf (BitVec.ofNat 32 (reactReset n)) 5 1 != 0) = (faultAssigned n && faultSev n == 3 && n != 98) := by decide +kernel

/-! ## Fields after reset -/

theorem State.pilot_reset {b : Nat} (hb : b < 64) : State.reset.get (PLT_STAT.STATE b) = 0 ∧
    State.reset.get (PLT_TIME_CFG.MAX_LEAD b) = 0x10000 ∧ State.reset.get (PLT_TIME_CFG.RESUME_LEAD b) = 64 ∧
    State.reset.bit (DRV_CFG.EN b) = false := by
  obtain ⟨hstat, htime, hdrv⟩ := regReset_pilot b hb
  simp only [State.bit, State.get_reset, PLT_STAT.STATE, PLT_TIME_CFG.MAX_LEAD, PLT_TIME_CFG.RESUME_LEAD, DRV_CFG.EN, hstat,
    htime, hdrv]
  decide

theorem State.fltReact_reset {n : Nat} (hn : n < 192) : State.reset.get (FLT_REACT.SEV n) = faultSev n ∧
    State.reset.bit (FLT_REACT.ASSIGNED n) = faultAssigned n ∧
    State.reset.bit (FLT_REACT.CHIP_RESET n) = (faultAssigned n && faultSev n == 3 && n != 98) := by
  simp only [State.bit, State.get_reset, FLT_REACT.SEV, FLT_REACT.ASSIGNED, FLT_REACT.CHIP_RESET, regReset_fltReact n hn]
  exact reactReset_fields n hn

theorem State.mbxCfg_reset {m : Nat} (hm : m < 32) : State.reset.get (MBX_CFG.PROD m) = (if m < 16 then 0 else 1) ∧
    State.reset.get (MBX_CFG.CONS m) = (if m < 16 then 1 else 0) ∧ State.reset.bit (MBX_CFG.NOTIFY m) = true := by
  simp only [State.bit, State.get_reset, MBX_CFG.PROD, MBX_CFG.CONS, MBX_CFG.NOTIFY, regReset_mbxCfg m hm]
  split <;> decide

theorem State.evtChCfg_reset {c : Nat} (hc : c < 256) : State.reset.bit (EVT_CH_CFG.EN c) = true := by
  simp only [State.bit, State.get_reset, EVT_CH_CFG.EN, regReset_evtChCfg c hc]
  decide

/-- Settles O57: every store is unlisted, and every register named reads the reset column of its table. -/
theorem resetState : Obligations.ResetState := by
  refine ⟨State.canonical_reset, rfl, rfl, rfl, rfl, rfl, rfl, rfl, fun _ => rfl, fun _ => rfl, fun _ => rfl,
    fun _ => State.pilot_reset, fun _ => State.fltReact_reset, fun _ => State.mbxCfg_reset, fun _ => State.evtChCfg_reset, ?_⟩
  decide +kernel

end Sys2Proof.Machine
end

section
/-! PROOF. The state of a lock lane and LOCK_STAT (R32). -/

namespace Sys2Proof.Machine

/-- Where a lock's registers begin within 4 KiB (R445, R451). -/
theorem lockBase_mod (ℓ : Nat) : lockBase ℓ % 0x1000 = 0x100 ∨ lockBase ℓ % 0x1000 = 0x180 ∨ lockBase ℓ % 0x1000 = 0x400 := by
  unfold lockBase
  split
  · omega
  · split <;> omega

/-- LOCK_STAT of any lock is no register at another place within 4 KiB. -/
theorem lockStat_ne {a : Nat} (h : a % 0x1000 ≠ 0x100 ∧ a % 0x1000 ≠ 0x180 ∧ a % 0x1000 ≠ 0x400) (ℓ : Nat) : R.LOCK_STAT ℓ ≠ a := by
  have := lockBase_mod ℓ
  unfold R.LOCK_STAT
  omega

theorem State.showLock_eq (s : State) (ℓ : Nat) : ∃ v, s.showLock ℓ = s.set (LOCK_STAT.STATE ℓ) v := by
  unfold State.showLock
  split
  · exact ⟨_, rfl⟩
  · exact ⟨_, rfl⟩

/-- A lane's state is set in the lane, and shown in LOCK_STAT.STATE of its lock. -/
theorem State.setLockSt_eq (s : State) (l : Nat) (st : LockSt) : ∃ v,
    s.setLockSt l st = (s.setLockLane l { s.lockLane l with st := st }).set (LOCK_STAT.STATE (lockOfLane l)) v :=
  State.showLock_eq _ _

theorem State.lockLane_setLockSt (s : State) (l j : Nat) (st : LockSt) :
    (s.setLockSt l st).lockLane j = if j = l then { s.lockLane l with st := st } else s.lockLane j := by
  obtain ⟨v, h⟩ := s.setLockSt_eq l st
  rw [h, State.lockLane_set, State.lockLane_setLockLane]

/-- Of the registers, LOCK_STAT.STATE of the lane's lock shows it. -/
theorem State.get_setLockSt_apart (s : State) {l : Nat} (st : LockSt) {g : Rf} (hw : g.lo + g.len ≤ 32)
    (h : (LOCK_STAT.STATE (lockOfLane l)).apart g) : (s.setLockSt l st).get g = s.get g := by
  obtain ⟨v, hv⟩ := s.setLockSt_eq l st
  rw [hv, State.get_set_apart _ hw h, State.get_setLockLane]

theorem State.fieldsOnly.setLockSt {s t : State} {fs : List Rf} (h : s.fieldsOnly t fs) {l : Nat}
    (hf : LOCK_STAT.STATE (lockOfLane l) ∈ fs) (st : LockSt) : s.fieldsOnly (t.setLockSt l st) fs :=
  fun g hw hg => (t.get_setLockSt_apart st hw (hg _ hf)).trans (h g hw hg)

end Sys2Proof.Machine
end

section
/-! PROOF. Enables, mixer settings, jumps and the frame origin (R32, R137, R139, R141, R146, R147). -/

namespace Sys2Proof.Machine

/-! ## What enables and disables write -/

/-- The state without registers, lock lanes and outputs. -/
def State.exceptOutputs (s : State) : State := { s with regs := [], locks := [], outs := [] }

theorem State.eq_of_exceptOutputs_eq {s t : State} (h : t.exceptOutputs = s.exceptOutputs) :
    t = { s with regs := t.regs, locks := t.locks, outs := t.outs } :=
  congrArg (fun u : State => { u with regs := t.regs, locks := t.locks, outs := t.outs }) h

/-- An enable leaves the outputs as they were. -/
theorem State.eq_of_exceptOutputs_eq_enable {s t : State} (h : t.exceptOutputs = s.exceptOutputs) (houts : t.outs = s.outs) :
    t = { s with regs := t.regs, locks := t.locks } :=
  (State.eq_of_exceptOutputs_eq h).trans (by rw [houts])

@[simp] theorem State.exceptOutputs_setBit (s : State) (f : Rf) (v : Bool) : (s.setBit f v).exceptOutputs = s.exceptOutputs := rfl
@[simp] theorem State.exceptOutputs_setOutPin (s : State) (i : Nat) (v : List Int) :
    (s.setOutPin i v).exceptOutputs = s.exceptOutputs := rfl
@[simp] theorem State.exceptOutputs_setLockLane (s : State) (l : Nat) (k : LockLane) :
    (s.setLockLane l k).exceptOutputs = s.exceptOutputs := rfl

@[simp] theorem State.exceptOutputs_setLockSt (s : State) (l : Nat) (st : LockSt) :
    (s.setLockSt l st).exceptOutputs = s.exceptOutputs := by
  obtain ⟨v, h⟩ := s.setLockSt_eq l st
  rw [h]
  rfl

@[simp] theorem State.outs_setLockSt (s : State) (l : Nat) (st : LockSt) : (s.setLockSt l st).outs = s.outs := by
  obtain ⟨v, h⟩ := s.setLockSt_eq l st
  simp only [h, State.set_frame, State.setLockLane_frame]

/-! ## Drive outputs (R32, R147) -/

theorem drvCfg_ne_lockStat (b ℓ : Nat) : R.LOCK_STAT ℓ ≠ R.DRV_CFG b :=
  lockStat_ne (by unfold R.DRV_CFG; omega) ℓ

theorem State.bit_drvCfg_setLockSt (s : State) (b l : Nat) (st : LockSt) {g : Rf} (ha : g.addr = R.DRV_CFG b)
    (hw : g.lo + g.len ≤ 32) : (s.setLockSt l st).bit g = s.bit g := by
  rw [State.bit, s.get_setLockSt_apart st hw (.inl (by rw [ha]; exact drvCfg_ne_lockStat b _)), State.bit]

theorem exec_drvEnSet {s : State} {b : Fin 64} (h : s.bit (DRV_CFG.EN b) = false) :
    exec (.drvEnSet b) s = .next ((s.setBit (DRV_CFG.EN b) true).setLockSt b .idle) := by
  have hexec : exec (.drvEnSet b) s = execDrvEnSet b s := rfl
  simp only [hexec, execDrvEnSet, h, Bool.false_eq_true, if_false, laneDrive]

/-- EN set: the lock lane goes to IDLE. -/
theorem State.drvEnabled (s : State) {b : Nat} (hb : b < 64) :
    let t := (s.setBit (DRV_CFG.EN b) true).setLockSt b .idle
    t.bit (DRV_CFG.EN b) = true ∧ t.lockLane b = { s.lockLane b with st := .idle } ∧ s.othersSame t State.lockLane b ∧
    s.fieldsOnly t [DRV_CFG.EN b, LOCK_STAT.STATE b] ∧ t = { s with regs := t.regs, locks := t.locks } := by
  have hlock : lockOfLane b = b := lockOfLane_of_lt (by omega)
  have hen : s.fieldsOnly (s.setBit (DRV_CFG.EN b) true) [DRV_CFG.EN b, LOCK_STAT.STATE b] :=
    (State.fieldsOnly_of_regs_eq rfl _).set (by simp) _
  refine ⟨?_, ?_, fun j hj => ?_, hen.setLockSt (by simp [hlock]) _, State.eq_of_exceptOutputs_eq_enable (by simp) (by simp)⟩
  · rw [State.bit_drvCfg_setLockSt _ b _ _ rfl (by decide : 0 + 1 ≤ 32), State.bit_setBit_same _ _ rfl (by decide : 0 < 32)]
  · simp only [State.lockLane_setLockSt, State.lockLane_setBit, if_true]
  · rw [State.lockLane_setLockSt, if_neg hj, State.lockLane_setBit]

/-- The state after EN of drive output `b` was cleared. -/
def State.drvDisabled (s : State) (b : Nat) : State :=
  let u := (s.setBit (DRV_CFG.EN b) false).setBit (DRV_CFG.SW_CLOSED b) false
  ((u.setLockLane b (u.lockLane b).mute).setLockSt b .off).setOutPin b []

theorem exec_drvEnClear (s : State) (b : Fin 64) : exec (.drvEnClear b) s = .next (s.drvDisabled b) := rfl

/-- EN clear: EN and the switch clear, the lock lane is OFF, the output zero. -/
theorem State.drvDisabled_spec (s : State) (b : Nat) :
    let t := s.drvDisabled b
    t.bit (DRV_CFG.EN b) = false ∧ t.bit (DRV_CFG.SW_CLOSED b) = false ∧ (t.lockLane b).st = .off ∧ t.outPin b = [] ∧
    s.othersSame t State.lockLane b ∧ s.othersSame t State.outPin b ∧
    t = { s with regs := t.regs, locks := t.locks, outs := t.outs } := by
  have hbit : ∀ g : Rf, g.addr = R.DRV_CFG b → g.lo + g.len ≤ 32 →
      (s.drvDisabled b).bit g = ((s.setBit (DRV_CFG.EN b) false).setBit (DRV_CFG.SW_CLOSED b) false).bit g := by
    intro g ha hw
    rw [State.drvDisabled, State.bit, State.get_setOutPin, ← State.bit, State.bit_drvCfg_setLockSt _ b _ _ ha hw, State.bit,
      State.get_setLockLane, State.bit]
  have hlane : ∀ j, (s.drvDisabled b).lockLane j =
      if j = b then { (s.lockLane b).mute with st := .off } else s.lockLane j := by
    intro j
    rw [State.drvDisabled, State.lockLane_setOutPin, State.lockLane_setLockSt]
    by_cases hj : j = b <;> simp [hj]
  refine ⟨?_, ?_, ?_, ?_, fun j hj => ?_, fun j hj => ?_, State.eq_of_exceptOutputs_eq (by simp [State.drvDisabled])⟩
  · rw [hbit _ rfl (by decide : 0 + 1 ≤ 32), State.bit_setBit_apart _ (by decide : 0 + 1 ≤ 32) (.inr (.inr (by decide : 0 + 1 ≤ 4))),
      State.bit_setBit_same _ _ rfl (by decide : 0 < 32)]
  · rw [hbit _ rfl (by decide : 4 + 1 ≤ 32), State.bit_setBit_same _ _ rfl (by decide : 4 < 32)]
  · rw [hlane, if_pos rfl]
  · rw [State.drvDisabled, State.outPin_setOutPin, if_pos rfl]
  · rw [hlane, if_neg hj]
  · rw [State.drvDisabled, State.outPin_setOutPin, if_neg hj, State.outPin_of_outs_eq (State.outs_setLockSt ..)]
    exact State.outPin_of_outs_eq (by simp only [State.setLockLane_frame, State.setBit_frame]) j

end Sys2Proof.Machine
end

section
/-! PROOF. Probe enables, mixer settings, jumps and the frame origin (R32, R137, R139, R141, R146). -/

namespace Sys2Proof.Machine

/-! ## Probe outputs (R32) -/

theorem State.bit_prbCfg_setLockSt (s : State) (n l : Nat) (st : LockSt) {g : Rf} (ha : g.addr = R.PRB_CFG n)
    (hw : g.lo + g.len ≤ 32) : (s.setLockSt l st).bit g = s.bit g := by
  have hne : R.LOCK_STAT (lockOfLane l) ≠ R.PRB_CFG n := lockStat_ne (by unfold R.PRB_CFG; omega) _
  rw [State.bit, s.get_setLockSt_apart st hw (.inl (by rw [ha]; exact hne)), State.bit]

/-- The probe lanes of a list of berths, each brought to state `st` by a step that leaves the state of a lane or sets it to `st`. -/
theorem State.probeLanes_st {st : LockSt} {e : State → Nat → State}
    (hset : ∀ u b, ((e u b).lockLane (laneProbe b)).st = st)
    (hkeep : ∀ u b j, (u.lockLane j).st = st → ((e u b).lockLane j).st = st) {b : Nat} {l : List Nat} {s : State} (h : b ∈ l) :
    ((s.each l e).lockLane (laneProbe b)).st = st := by
  induction l generalizing s with
  | nil => exact absurd h (List.not_mem_nil)
  | cons a l ih =>
    rw [State.each_cons]
    obtain rfl | h := List.mem_cons.mp h
    · exact State.each_keeps (P := fun u => (u.lockLane (laneProbe b)).st = st) l (fun u a => hkeep u a _) (hset s b)
    · exact ih h

theorem mem_probeBerths (n : Nat) (i : Fin 4) : 4 * n + i.val ∈ probeBerths n := by
  have := i.isLt
  simp only [probeBerths, List.mem_cons, List.not_mem_nil, or_false]
  omega

theorem State.st_setLockSt (s : State) (l : Nat) (st : LockSt) : ((s.setLockSt l st).lockLane l).st = st := by
  rw [State.lockLane_setLockSt, if_pos rfl]

theorem State.st_setLockSt_of_st {s : State} {l j : Nat} {st : LockSt} (h : (s.lockLane j).st = st) :
    ((s.setLockSt l st).lockLane j).st = st := by
  rw [State.lockLane_setLockSt]
  split
  · rfl
  · exact h

/-- EN set: the lanes of the four berths go to IDLE. -/
def State.prbEnabled (s : State) (n : Nat) : State :=
  (s.setBit (PRB_CFG.EN n) true).each (probeBerths n) (fun u b => u.setLockSt (laneProbe b) .idle)

theorem exec_prbEnSet {s : State} {n : Fin 16} (h : s.bit (PRB_CFG.EN n) = false) :
    exec (.prbEnSet n) s = .next (s.prbEnabled n) := by
  have hexec : exec (.prbEnSet n) s = execPrbEnSet n s := rfl
  simp only [hexec, execPrbEnSet, h, Bool.false_eq_true, if_false, State.prbEnabled, State.each]

theorem State.prbEnabled_spec (s : State) (n : Nat) :
    let t := s.prbEnabled n
    t.bit (PRB_CFG.EN n) = true ∧ (∀ i : Fin 4, (t.lockLane (128 + 4 * n + i.val)).st = .idle) ∧
    t = { s with regs := t.regs, locks := t.locks } := by
  refine ⟨?_, fun i => ?_, State.eq_of_exceptOutputs_eq_enable ?_ ?_⟩
  · rw [State.prbEnabled, State.each_same _ (·.bit (PRB_CFG.EN n))
      fun u b => u.bit_prbCfg_setLockSt n _ _ rfl (by decide : 0 + 1 ≤ 32), State.bit_setBit_same _ _ rfl (by decide : 0 < 32)]
  · rw [show 128 + 4 * n + i.val = laneProbe (4 * n + i.val) from Nat.add_assoc ..]
    exact State.probeLanes_st (fun u b => u.st_setLockSt _ _) (fun u b j => State.st_setLockSt_of_st) (mem_probeBerths n i)
  · exact State.each_same _ State.exceptOutputs fun u b => u.exceptOutputs_setLockSt _ _
  · exact State.each_same _ State.outs fun u b => u.outs_setLockSt _ _

/-- A lane turned off, with the samples of its entries discarded. -/
def State.laneOff (s : State) (l : Nat) : State := (s.modLockLane l (·.mute)).setLockSt l .off

/-- EN clear: EN and the switch clear, the four lanes off, the output zero. -/
def State.prbDisabled (s : State) (n : Nat) : State :=
  (((s.setBit (PRB_CFG.EN n) false).setBit (PRB_CFG.SW_CLOSED n) false).each (probeBerths n)
    (fun u b => u.laneOff (laneProbe b))).setOutPin (128 + n) []

theorem exec_prbEnClear (s : State) (n : Fin 16) : exec (.prbEnClear n) s = .next (s.prbDisabled n) := rfl

theorem State.st_laneOff_of_st {s : State} {l j : Nat} (h : (s.lockLane j).st = .off) : ((s.laneOff l).lockLane j).st = .off := by
  refine State.st_setLockSt_of_st ?_
  rw [State.modLockLane_eq, State.lockLane_setLockLane]
  split
  · next hj => rw [← hj]; exact h
  · exact h

theorem State.bit_prbCfg_laneOff (s : State) (n l : Nat) {g : Rf} (ha : g.addr = R.PRB_CFG n) (hw : g.lo + g.len ≤ 32) :
    (s.laneOff l).bit g = s.bit g := by
  rw [State.laneOff, State.bit_prbCfg_setLockSt _ n l _ ha hw, State.modLockLane_eq, State.bit, State.get_setLockLane, State.bit]

theorem State.prbDisabled_spec (s : State) (n : Nat) :
    let t := s.prbDisabled n
    t.bit (PRB_CFG.EN n) = false ∧ t.bit (PRB_CFG.SW_CLOSED n) = false ∧
    (∀ i : Fin 4, (t.lockLane (128 + 4 * n + i.val)).st = .off) ∧ t.outPin (128 + n) = [] ∧
    t = { s with regs := t.regs, locks := t.locks, outs := t.outs } := by
  have hbit : ∀ g : Rf, g.addr = R.PRB_CFG n → g.lo + g.len ≤ 32 →
      (s.prbDisabled n).bit g = ((s.setBit (PRB_CFG.EN n) false).setBit (PRB_CFG.SW_CLOSED n) false).bit g := by
    intro g ha hw
    rw [State.prbDisabled, State.bit, State.get_setOutPin, ← State.bit]
    exact State.each_same _ (·.bit g) fun u b => u.bit_prbCfg_laneOff n _ ha hw
  refine ⟨?_, ?_, fun i => ?_, ?_, State.eq_of_exceptOutputs_eq ?_⟩
  · rw [hbit _ rfl (by decide : 0 + 1 ≤ 32), State.bit_setBit_apart _ (by decide : 0 + 1 ≤ 32) (.inr (.inr (by decide : 0 + 1 ≤ 4))),
      State.bit_setBit_same _ _ rfl (by decide : 0 < 32)]
  · rw [hbit _ rfl (by decide : 4 + 1 ≤ 32), State.bit_setBit_same _ _ rfl (by decide : 4 < 32)]
  · rw [show 128 + 4 * n + i.val = laneProbe (4 * n + i.val) from Nat.add_assoc .., State.prbDisabled, State.lockLane_setOutPin]
    exact State.probeLanes_st (fun u b => State.st_setLockSt ..) (fun u b j => State.st_laneOff_of_st) (mem_probeBerths n i)
  · rw [State.prbDisabled, State.outPin_setOutPin, if_pos rfl]
  · rw [State.prbDisabled, State.exceptOutputs_setOutPin, State.each_same _ State.exceptOutputs fun u b => by simp [State.laneOff]]
    simp

/-! ## Mixer settings (R146) -/

theorem exec_drvMixWrite (s : State) (b : Fin 64) (mix : Bool) : exec (.drvMixWrite b mix) s =
    .next (if s.bit (DRV_CFG.EN b) then s.setBit (DRV_STAT.CFG_REJ b) true else s.setBit (DRV_CFG.MIX b) mix) := rfl

theorem exec_prbMixWrite (s : State) (n : Fin 16) (mix : Bool) : exec (.prbMixWrite n mix) s =
    .next (if s.bit (PRB_CFG.EN n) then s.setBit (PRB_STAT.CFG_REJ n) true else s.setBit (PRB_CFG.MIX n) mix) := rfl

/-! ## Jumps (R137, R139) -/

@[simp] theorem PathLane.tone_setTone (k : PathLane) (t i : Nat) (v : Tone) :
    (k.setTone t v).tone i = if i = t then v else k.tone i :=
  Store.read_write ..

/-- The state without registers, path lanes and prefetchers. -/
def State.exceptJumps (s : State) : State := { s with regs := [], paths := [], fetches := [] }

theorem State.eq_of_exceptJumps_eq {s t : State} (h : t.exceptJumps = s.exceptJumps) :
    t = { s with regs := t.regs, paths := t.paths, fetches := t.fetches } :=
  congrArg (fun u : State => { u with regs := t.regs, paths := t.paths, fetches := t.fetches }) h

theorem State.path_of_paths_eq {s t : State} (h : t.paths = s.paths) (j : Nat) : t.path j = s.path j := by
  rw [State.path, h, State.path]

@[simp] theorem State.path_wr (s : State) (a : Nat) (v : Word) (j : Nat) : (s.wr a v).path j = s.path j :=
  State.path_of_paths_eq rfl j

@[simp] theorem State.exceptJumps_wr (s : State) (a : Nat) (v : Word) : (s.wr a v).exceptJumps = s.exceptJumps := rfl

@[simp] theorem State.exceptJumps_bump (s : State) (f : Rf) : (s.bump f).exceptJumps = s.exceptJumps := rfl

@[simp] theorem State.exceptJumps_setPath (s : State) (i : Nat) (k : PathLane) : (s.setPath i k).exceptJumps = s.exceptJumps := rfl

@[simp] theorem State.exceptJumps_setPrefetch (s : State) (i : Nat) (l : List Fetch) :
    (s.setPrefetch i l).exceptJumps = s.exceptJumps := rfl

@[simp] theorem State.exceptJumps_startFetch (s : State) (b t : Nat) (f : Fetch) : (s.startFetch b t f).exceptJumps = s.exceptJumps := rfl

@[simp] theorem State.path_setPrefetch (s : State) (i : Nat) (l : List Fetch) (j : Nat) : (s.setPrefetch i l).path j = s.path j :=
  State.path_of_paths_eq rfl j

@[simp] theorem State.path_startFetch (s : State) (b t : Nat) (f : Fetch) (j : Nat) : (s.startFetch b t f).path j = s.path j :=
  s.path_setPrefetch _ _ j

/-- A jump request for a tone that plays is registered with the tick its lane is computing; beside that it touches prefetchers
and counts a request it replaces. -/
theorem State.jumpLane_playing {s : State} {b p lane i : Nat} (seg : BitVec 17)
    (h : ((s.path (pathKey b p lane)).tone i).play.isSome = true) :
    let t := s.jumpLane b p lane i seg none
    ((t.path (pathKey b p lane)).tone i).jump = some (seg, (s.path (pathKey b p lane)).cur) ∧ t.exceptJumps = s.exceptJumps := by
  obtain ⟨pl, hpl⟩ := Option.isSome_iff_exists.mp h
  refine ⟨?_, ?_⟩
  · have hpath : (s.jumpLane b p lane i seg none).path (pathKey b p lane) = (s.path (pathKey b p lane)).setTone i
        { (s.path (pathKey b p lane)).tone i with jump := some (seg, (s.path (pathKey b p lane)).cur) } := by
      simp only [State.jumpLane, hpl]
      refine (State.when_same _ (·.path (pathKey b p lane)) (State.path_startFetch ..)).trans ?_
      rw [State.modPrefetch_eq, State.path_setPrefetch, State.path_setPath, if_pos rfl]
    rw [hpath, PathLane.tone_setTone, if_pos rfl]
  · simp only [State.jumpLane, hpl]
    refine (State.when_same _ State.exceptJumps (State.exceptJumps_startFetch ..)).trans ?_
    rw [State.modPrefetch_eq, State.exceptJumps_setPrefetch, State.exceptJumps_setPath]
    exact State.when_same _ State.exceptJumps (State.exceptJumps_bump ..)

/-- With no lane of a stage live, a request for a tone that plays goes to the main lane. -/
theorem State.jumpRequest_main {s : State} {b : Nat} (hprb : s.bit (SYN_JMP.PRB b) = false) (hat : s.bit (SYN_JMP.AT b) = false)
    (hplay : ((s.path (pathKey b 0 0)).tone (s.get (SYN_JMP.TONE b))).play.isSome = true)
    (hstage : ∀ lane ∈ [1, 2, 3, 4], (s.path (pathKey b 0 lane)).live = false) :
    s.jumpRequest b = s.jumpLane b 0 0 (s.get (SYN_JMP.TONE b)) (BitVec.ofNat 17 (s.get (SYN_JMP.SEG b))) none := by
  have hlive : ∀ lane ∈ [1, 2, 3, 4], ((lane == 0 || (s.path (pathKey b 0 lane)).live && (s.path (pathKey b 0 lane)).begun) &&
      ((s.path (pathKey b 0 lane)).tone (s.get (SYN_JMP.TONE b))).play.isSome) = false := by
    intro lane hl
    have hne : (lane == 0) = false := by
      simp only [List.mem_cons, List.not_mem_nil, or_false] at hl
      exact beq_eq_false_iff_ne.mpr (by omega)
    simp [hstage lane hl, hne]
  have hnone : [1, 2, 3, 4].filter (fun lane => (lane == 0 || (s.path (pathKey b 0 lane)).live &&
      (s.path (pathKey b 0 lane)).begun) && ((s.path (pathKey b 0 lane)).tone (s.get (SYN_JMP.TONE b))).play.isSome) = [] :=
    List.filter_eq_nil_iff.mpr fun lane hl => by simp [hlive lane hl]
  simp only [State.jumpRequest, hprb, hat, Bool.false_eq_true, if_false, hnone, List.isEmpty_nil, if_true]
  simp [hplay, State.each]

/-! ## The enables, mixer settings, jumps and the origin together -/

/-- SYN_JMP with the fields of a write. -/
theorem exec_synJmpGo (s : State) (b : Fin 64) (w : Word) :
    exec (.synJmpGo b w) s = .next ((s.wr (R.SYN_JMP b) (w &&& 0x003FFFFF)).jumpRequest b) := rfl

/-- The frame origin with its high half written. -/
def State.withOriginHigh (s : State) (hi : BitVec 16) : State :=
  let u := s.set SYN_ORIGIN_HI.ORIGIN hi.toNat
  { u with synOrigin := u.pair R.SYN_ORIGIN_LO }

theorem State.get_withOriginHigh (s : State) (hi : BitVec 16) (f : Rf) :
    (s.withOriginHigh hi).get f = (s.set SYN_ORIGIN_HI.ORIGIN hi.toNat).get f := State.get_of_regs_eq rfl f

theorem State.withOriginHigh_spec (s : State) (hi : BitVec 16) :
    let t := s.withOriginHigh hi
    t.get SYN_ORIGIN_HI.ORIGIN = hi.toNat ∧ t.synOrigin = t.pair R.SYN_ORIGIN_LO ∧
    s.fieldsOnly t [SYN_ORIGIN_HI.ORIGIN] ∧ t = { s with regs := t.regs, synOrigin := t.synOrigin } := by
  refine ⟨?_, rfl, fun g hw hg => ?_, rfl⟩
  · rw [State.get_withOriginHigh, s.get_set_of_lt (by decide) hi.isLt]
  · rw [State.get_withOriginHigh, State.get_set_apart _ hw (hg _ (List.mem_singleton.mpr rfl))]

/-- Settles O15: each clause is the law of its operation above. -/
theorem outputsEnableAndMix : Obligations.OutputsEnableAndMix := by
  unfold Obligations.OutputsEnableAndMix
  intro s b n mix w hi
  refine ⟨fun h => ⟨_, exec_drvEnSet h, s.drvEnabled b.isLt⟩, ⟨_, exec_drvEnClear s b, s.drvDisabled_spec b⟩,
    fun h => ⟨_, exec_prbEnSet h, s.prbEnabled_spec n⟩, ⟨_, exec_prbEnClear s n, s.prbDisabled_spec n⟩,
    fun h => ?_, fun h => ?_, fun h => ?_, fun h => ?_, fun hprb hat hplay hstage => ?_, ⟨_, rfl, s.withOriginHigh_spec hi⟩⟩
  · rw [exec_drvMixWrite, h]; rfl
  · rw [exec_drvMixWrite, h]; rfl
  · rw [exec_prbMixWrite, h]; rfl
  · rw [exec_prbMixWrite, h]; rfl
  · obtain ⟨hjump, hsame⟩ := State.jumpLane_playing (BitVec.ofNat 17 _) hplay
    refine ⟨_, (exec_synJmpGo s b w).trans (congrArg _ (State.jumpRequest_main hprb hat hplay hstage)), ?_, ?_⟩
    · rw [hjump, State.path_wr]
    · exact State.eq_of_exceptJumps_eq (hsame.trans (State.exceptJumps_wr ..))

end Sys2Proof.Machine
end

section
/-! PROOF. Predicates that operations on faults, minima and a context's lanes keep. -/

namespace Sys2Proof.Machine

/-! ## Faults raised and minima lowered (R36, R391) -/

section
variable {P : State → Prop} {s t : State}

theorem State.raise_keeps (src : Nat) (slots : List Nat) (h : ∀ u l, P u → P { u with raised := u.raised ++ l }) (h0 : P s) :
    P (s.raise src slots) := by
  unfold State.raise
  split
  · exact h0
  · exact h _ _ h0

theorem State.lower_keeps {f : Rf} (v : Int) (h : ∀ w, P (s.set f w)) (h0 : P s) : P (s.lower f v) := by
  obtain h' | ⟨w, h'⟩ := s.lower_cases f v
  · rwa [h']
  · rw [h']
    exact h w

theorem State.standbyMute_of_role (h : t.get TWIN_STAT.ROLE = s.get TWIN_STAT.ROLE) (src : Nat) :
    t.standbyMute src = s.standbyMute src := by
  rw [State.standbyMute, State.twinRole, h, State.standbyMute, State.twinRole]

theorem State.mem_raised_raise_of_mem {x : FaultIn} (src : Nat) (slots : List Nat) (h : x ∈ s.raised) :
    x ∈ (s.raise src slots).raised := by
  unfold State.raise
  split
  · exact h
  · exact List.mem_append_left _ h

/-- A fault that no standby twin mutes is raised with its tick. -/
theorem State.mem_raised_raise {src : Nat} (slots : List Nat) (h : s.standbyMute src = false) :
    { src := src, tick := s.tick, slots := slots, injected := false } ∈ (s.raise src slots).raised := by
  unfold State.raise
  rw [h]
  exact List.mem_append_right _ (List.mem_singleton.mpr rfl)

end

/-! ## The lanes of a context (R56, R59, R107) -/

/-- A context that has been freed: its outcome stays. -/
def Ctx.freed (k : Ctx) : Ctx := { k with claimed := false, busy := false, cut := none, outer := none }

/-- A predicate kept by what the lanes of a context are made of: the lanes of locks and paths, muted ticks, prefetchers, and
CTXn_BUSY. -/
structure LanesKeep (P : State → Prop) : Prop where
  busy0 : ∀ u ℓ v, P u → P (u.setBit (LOCK_STAT.CTX0_BUSY ℓ) v)
  busy1 : ∀ u ℓ v, P u → P (u.setBit (LOCK_STAT.CTX1_BUSY ℓ) v)
  lock : ∀ u i k, P u → P (u.setLockLane i k)
  path : ∀ u i k, P u → P (u.setPath i k)
  muted : ∀ u i l, P u → P (u.setMuted i l)
  fetch : ∀ u i l, P u → P (u.setPrefetch i l)

namespace LanesKeep

variable {P : State → Prop} (hP : LanesKeep P) {s : State}
include hP

theorem showCtx (b : Nat) (h : P s) : P (s.showCtx b) :=
  hP.busy1 _ _ _ (hP.busy0 _ _ _ (hP.busy1 _ _ _ (hP.busy0 _ _ _ (hP.busy1 _ _ _ (hP.busy0 _ _ _ h)))))

/-- Freeing clears the context, and then its lanes. -/
theorem freeCtx {b c : Nat} (h : P (s.modCtx (2 * b + c) Ctx.freed)) : P (s.freeCtx b c) := by
  refine hP.showCtx b ?_
  refine State.each_keeps _ (fun u t => hP.fetch u _ _) ?_
  refine hP.muted _ _ _ ?_
  refine State.each_keeps _ (fun u p hu => hP.path _ _ _ (hP.path _ _ _ hu)) ?_
  exact State.each_keeps _ (fun u l => hP.lock u _ _) h

/-- Arming sets the context, and then the lanes of its two alternatives. -/
theorem armCtx (hctx : ∀ u i k, P u → P (u.setCtx i k)) (b : Nat) (o : Order) (e : Tick) (src : BitVec 8) (dev : BitVec 12) (rem : Bool)
    (mask : BitVec 4) (dflt : Bool) (h : P s) : P (s.armCtx b o e src dev rem mask dflt) := by
  unfold State.armCtx
  extract_lets free c outer blank armed idle start staged closed
  have hstaged : P staged := State.each_keeps _ (fun u p hu => hP.path _ _ _ (hP.path _ _ _ hu)) (hctx _ _ _ h)
  have hclosed : P closed := by
    unfold closed
    cases outer with
    | none => exact hstaged
    | some i => exact State.each_keeps _ (fun u p => hP.path u _ _) hstaged
  clear_value outer closed
  cases outer with
  | none => exact hP.showCtx b hclosed
  | some i =>
    dsimp only
    split
    · exact hP.freeCtx (hctx _ _ _ hclosed)
    · exact hP.showCtx b hclosed

end LanesKeep

end Sys2Proof.Machine
end

section
/-! PROOF. Orders enter the pound and leave it, and entries arrive at their lock (R30 to R33, R40, R41, R105). -/

namespace Sys2Proof.Machine

/-! ## ORDER_EMIT (R40, R105) -/

/-- The pilot runs on, and the least lead seen is kept. -/
def State.leadLowered (s : State) (b : Nat) (lead : Int) : State :=
  (s.when (s.get (PLT_STAT.STATE b) == plt.poundFull) (·.set (PLT_STAT.STATE b) plt.run)).lower (PND_LEAD_MIN.MIN b) lead

/-- A short lead is counted and raised, and a stream beyond the limit raised. -/
def State.leadNoted (s : State) (b : Nat) (lead : Int) (excess : Bool) : State :=
  ((s.leadLowered b lead).when (lead < 48) (fun s =>
    (s.bump (PND_SHORT_CNT.COUNT b)).raise Src.ORDER_SHORT (slot b ++ slotInt lead))).when excess (·.raise Src.STREAM_OVER (slot b))

/-- The state after the order at EMIT entered the pound as `e`. -/
def State.pounded (s : State) (b : Nat) (o e : Order) (start : Bool) : State :=
  let u := ((s.setPilot b { s.pilot b with latch := none }).leadNoted b e.lead e.excess).orderFetch b o start
  (u.setPound b (u.pound b ++ [e])).showPound b

theorem exec_orderEmit {s : State} {b : Fin 64} {o : Order} (h : (s.pilot b).latch = some o) (hroom : (s.pound b).length < 64) :
    ∃ excess start, exec (.orderEmit b) s =
      .next (s.pounded b o { o with excess := excess, lead := Tick.diff s.tick o.tick } start) := by
  have hexec : exec (.orderEmit b) s = execOrderEmit b s := rfl
  rw [hexec, execOrderEmit]
  simp only [h, if_neg (Nat.not_le.mpr hroom)]
  exact ⟨_, _, rfl⟩

theorem exec_orderEmit_full {s : State} {b : Fin 64} {o : Order} (h : (s.pilot b).latch = some o) (hfull : 64 ≤ (s.pound b).length)
    (hrun : s.get (PLT_STAT.STATE b) = plt.run) : exec (.orderEmit b) s = .next (s.set (PLT_STAT.STATE b) plt.poundFull) := by
  have hexec : exec (.orderEmit b) s = execOrderEmit b s := rfl
  rw [hexec, execOrderEmit]
  simp only [h, if_pos hfull, hrun, beq_self_eq_true, State.when_true]

/-- The registers in which a lead is noted are neither the pound's nor the twin's. -/
theorem leadRegs_ne (b : Nat) : ∀ a ∈ [R.PLT_STAT b, R.PND_LEAD_MIN b, R.PND_SHORT_CNT b], a ≠ R.TWIN_STAT ∧ a ≠ R.PND_STAT b := by
  simp only [List.forall_mem_cons, R.PLT_STAT, R.PND_LEAD_MIN, R.PND_SHORT_CNT, R.TWIN_STAT, R.PND_STAT]
  refine ⟨by omega, by omega, by omega, by simp⟩

section
variable {P : State → Prop} {s : State} {b : Nat}
  (hset : ∀ u f v, f.addr ∈ [R.PLT_STAT b, R.PND_LEAD_MIN b, R.PND_SHORT_CNT b] → P u → P (u.set f v))
include hset

theorem State.leadLowered_keeps (lead : Int) (h : P s) : P (s.leadLowered b lead) := by
  have hrun : P (s.when (s.get (PLT_STAT.STATE b) == plt.poundFull) (·.set (PLT_STAT.STATE b) plt.run)) :=
    State.when_keeps _ (hset _ _ _ (by simp [PLT_STAT.STATE])) h
  exact State.lower_keeps _ (fun w => hset _ _ w (by simp [PND_LEAD_MIN.MIN]) hrun) hrun

theorem State.leadNoted_keeps (lead : Int) (excess : Bool) (hraise : ∀ u l, P u → P { u with raised := u.raised ++ l }) (h : P s) :
    P (s.leadNoted b lead excess) := by
  refine State.when_keeps _ (State.raise_keeps _ _ hraise) ?_
  refine State.when_keeps _ (fun hu => State.raise_keeps _ _ hraise ?_) (State.leadLowered_keeps hset lead h)
  exact hset _ (PND_SHORT_CNT.COUNT b) _ (by simp [PND_SHORT_CNT.COUNT]) hu

end

/-- A lead below 48 raises ORDER_SHORT (R40). -/
theorem State.mem_raised_leadNoted {s : State} {b : Nat} {lead : Int} (excess : Bool) (hlead : lead < 48)
    (hmute : s.standbyMute Src.ORDER_SHORT = false) :
    { src := Src.ORDER_SHORT, tick := s.tick, slots := slot b ++ slotInt lead, injected := false } ∈
      (s.leadNoted b lead excess).raised := by
  have hset (u : State) (f : Rf) (v : Nat) (hf : f.addr ∈ [R.PLT_STAT b, R.PND_LEAD_MIN b, R.PND_SHORT_CNT b])
      (hu : u.get TWIN_STAT.ROLE = s.get TWIN_STAT.ROLE ∧ u.tick = s.tick) :
      (u.set f v).get TWIN_STAT.ROLE = s.get TWIN_STAT.ROLE ∧ (u.set f v).tick = s.tick :=
    ⟨(u.get_set_ne _ _ _ (leadRegs_ne b _ hf).1.symm).trans hu.1, hu.2⟩
  obtain ⟨hrole, htick⟩ : ((s.leadLowered b lead).bump (PND_SHORT_CNT.COUNT b)).get TWIN_STAT.ROLE = s.get TWIN_STAT.ROLE ∧
      ((s.leadLowered b lead).bump (PND_SHORT_CNT.COUNT b)).tick = s.tick :=
    hset _ _ _ (by simp [PND_SHORT_CNT.COUNT]) (State.leadLowered_keeps
      (P := fun u => u.get TWIN_STAT.ROLE = s.get TWIN_STAT.ROLE ∧ u.tick = s.tick) hset lead ⟨rfl, rfl⟩)
  have hmem := State.mem_raised_raise (slot b ++ slotInt lead) ((State.standbyMute_of_role hrole _).trans hmute)
  rw [htick] at hmem
  rw [State.leadNoted, decide_eq_true hlead, State.when_true]
  exact State.when_keeps (P := fun u => _ ∈ u.raised) _ (State.mem_raised_raise_of_mem _ _) hmem

/-- The state without pilots, pounds, registers, faults and prefetchers. -/
def State.exceptEmit (s : State) : State := { s with pilots := [], pounds := [], regs := [], raised := [], fetches := [] }

theorem State.eq_of_exceptEmit_eq {s t : State} (h : t.exceptEmit = s.exceptEmit) :
    t = { s with pilots := t.pilots, pounds := t.pounds, regs := t.regs, raised := t.raised, fetches := t.fetches } :=
  congrArg (fun u : State => { u with
    pilots := t.pilots, pounds := t.pounds, regs := t.regs, raised := t.raised, fetches := t.fetches }) h

theorem State.orderFetch_keeps {P : State → Prop} {s : State} (b : Nat) (o : Order) (start : Bool)
    (hfetch : ∀ u i l, P u → P (u.setPrefetch i l)) (h : P s) : P (s.orderFetch b o start) := by
  unfold State.orderFetch
  split
  · exact h
  · exact State.when_keeps _ (hfetch _ _ _) (hfetch _ _ _ h)

/-- What the notes of an order keep until it is in the pound, where its prefetcher may have begun. -/
theorem State.orderNoted_keeps {P : State → Prop} {s : State} {b : Nat} (lead : Int) (excess : Bool) (o : Order) (start : Bool)
    (hset : ∀ u f v, P u → P (u.set f v)) (hraise : ∀ u l, P u → P { u with raised := u.raised ++ l })
    (hfetch : ∀ u i l, P u → P (u.setPrefetch i l)) (h : P s) : P ((s.leadNoted b lead excess).orderFetch b o start) :=
  State.orderFetch_keeps _ _ _ hfetch (State.leadNoted_keeps (fun u f v _ => hset u f v) _ _ hraise h)

theorem State.pound_of_pounds_eq {s t : State} (h : t.pounds = s.pounds) (j : Nat) : t.pound j = s.pound j := by
  rw [State.pound, h, State.pound]

theorem State.pilot_of_pilots_eq {s t : State} (h : t.pilots = s.pilots) (j : Nat) : t.pilot j = s.pilot j := by
  rw [State.pilot, h, State.pilot]

@[simp] theorem State.exceptEmit_set (s : State) (f : Rf) (v : Nat) : (s.set f v).exceptEmit = s.exceptEmit := rfl
/-- Of a state, the pound's signs are registers. -/
theorem State.showPound_eq (s : State) (b : Nat) : ∃ v w, s.showPound b = (s.set (PND_STAT.OCC b) v).set (PND_STAT.FULL b) w :=
  ⟨_, _, rfl⟩

@[simp] theorem State.showPound_frame (s : State) (b : Nat) :
    (s.showPound b).pounds = s.pounds ∧ (s.showPound b).pilots = s.pilots ∧ (s.showPound b).raised = s.raised ∧
    (s.showPound b).exceptEmit = s.exceptEmit := by
  obtain ⟨v, w, h⟩ := s.showPound_eq b
  simp only [h, State.set_frame, State.exceptEmit_set, and_self]

/-- PND_STAT.OCC counts the orders of a pound that holds at most 127. -/
theorem State.get_occ_showPound (s : State) (b : Nat) (h : (s.pound b).length < 128) :
    (s.showPound b).get (PND_STAT.OCC b) = (s.pound b).length := by
  unfold State.showPound
  rw [State.setBit_eq, State.get_set_apart _ (by decide : 0 + 7 ≤ 32) (.inr (.inr (by decide : 0 + 7 ≤ 7))),
    State.get_set_of_lt _ (by decide : 0 + 7 ≤ 32) h]

theorem State.pounded_spec {s : State} {b : Nat} {o e : Order} (start : Bool) (hroom : (s.pound b).length < 64) :
    let t := s.pounded b o e start
    t.pound b = s.pound b ++ [e] ∧ t.pilot b = { s.pilot b with latch := none } ∧
    t.get (PND_STAT.OCC b) = (s.pound b).length + 1 ∧
    (e.lead < 48 → s.standbyMute Src.ORDER_SHORT = false →
      { src := Src.ORDER_SHORT, tick := s.tick, slots := slot b ++ slotInt e.lead, injected := false } ∈ t.raised) ∧
    t = { s with pilots := t.pilots, pounds := t.pounds, regs := t.regs, raised := t.raised, fetches := t.fetches } := by
  have hsame {β : Type} (p : State → β) (hset : ∀ u f v, p (u.set f v) = p u)
      (hraise : ∀ (u : State) l, p { u with raised := u.raised ++ l } = p u) (hfetch : ∀ u i l, p (u.setPrefetch i l) = p u) :
      p (((s.setPilot b { s.pilot b with latch := none }).leadNoted b e.lead e.excess).orderFetch b o start) =
        p (s.setPilot b { s.pilot b with latch := none }) :=
    State.orderNoted_keeps (P := fun u => p u = p (s.setPilot b { s.pilot b with latch := none })) _ _ _ _
      (fun u f v => (hset u f v).trans) (fun u l => (hraise u l).trans) (fun u i l => (hfetch u i l).trans) rfl
  have hpounds := hsame State.pounds (fun _ _ _ => rfl) (fun _ _ => rfl) (fun _ _ _ => rfl)
  have hpilots := hsame State.pilots (fun _ _ _ => rfl) (fun _ _ => rfl) (fun _ _ _ => rfl)
  have hrest := hsame State.exceptEmit (fun _ _ _ => rfl) (fun _ _ => rfl) (fun _ _ _ => rfl)
  have hraised : e.lead < 48 → s.standbyMute Src.ORDER_SHORT = false →
      { src := Src.ORDER_SHORT, tick := s.tick, slots := slot b ++ slotInt e.lead, injected := false } ∈
        (((s.setPilot b { s.pilot b with latch := none }).leadNoted b e.lead e.excess).orderFetch b o start).raised :=
    fun hlead hmute => State.orderFetch_keeps (P := fun u => _ ∈ u.raised) _ _ _ (fun _ _ _ h => h)
      (State.mem_raised_leadNoted (s := s.setPilot b { s.pilot b with latch := none }) _ hlead hmute)
  have hb : ∀ u : State, u.pounds = s.pounds → (u.setPound b (u.pound b ++ [e])).pound b = s.pound b ++ [e] := fun u hu => by
    rw [State.pound_setPound, if_pos rfl, State.pound_of_pounds_eq hu]
  refine ⟨?_, ?_, ?_, ?_, State.eq_of_exceptEmit_eq ?_⟩
  · rw [State.pounded, State.pound_of_pounds_eq (State.showPound_frame ..).1, hb _ hpounds]
  · rw [State.pounded, State.pilot_of_pilots_eq (State.showPound_frame ..).2.1]
    exact (State.pilot_of_pilots_eq hpilots b).trans (by rw [State.pilot_setPilot, if_pos rfl])
  · have hlen : (s.pound b ++ [e]).length = (s.pound b).length + 1 := by simp
    rw [State.pounded, State.get_occ_showPound _ _ (by rw [hb _ hpounds, hlen]; omega), hb _ hpounds, hlen]
  · rw [State.pounded, (State.showPound_frame ..).2.2.1]
    exact hraised
  · rw [State.pounded, (State.showPound_frame ..).2.2.2]
    exact hrest

/-! ## ORDER_TAKE_IN (R30, R33) -/

/-- The state without what taking in an order writes. -/
def State.exceptTaken (s : State) : State :=
  { s with pounds := [], regs := [], paths := [], ctxs := [], locks := [], fetches := [], muteds := [] }

theorem State.eq_of_exceptTaken_eq {s t : State} (h : t.exceptTaken = s.exceptTaken) :
    t = { s with pounds := t.pounds, regs := t.regs, paths := t.paths, ctxs := t.ctxs, locks := t.locks, fetches := t.fetches,
                 muteds := t.muteds } :=
  congrArg (fun u : State => { u with
    pounds := t.pounds, regs := t.regs, paths := t.paths, ctxs := t.ctxs, locks := t.locks, fetches := t.fetches,
    muteds := t.muteds }) h

@[simp] theorem State.exceptTaken_set (s : State) (f : Rf) (v : Nat) : (s.set f v).exceptTaken = s.exceptTaken := rfl
@[simp] theorem State.exceptTaken_setPound (s : State) (b : Nat) (l : List Order) : (s.setPound b l).exceptTaken = s.exceptTaken := rfl

/-- Pounds and what taking in leaves are kept by the lanes of a context. -/
theorem lanesKeep_taken (l : Store (List Order)) (r : State) : LanesKeep (fun u => u.pounds = l ∧ u.exceptTaken = r) where
  busy0 _ _ _ h := h
  busy1 _ _ _ h := h
  lock _ _ _ h := h
  path _ _ _ h := h
  muted _ _ _ h := h
  fetch _ _ _ h := h

theorem State.taken_setCtx {l : Store (List Order)} {r u : State} (i : Nat) (k : Ctx) (h : u.pounds = l ∧ u.exceptTaken = r) :
    (u.setCtx i k).pounds = l ∧ (u.setCtx i k).exceptTaken = r := h

/-- The pound without its first order. -/
def State.popped (s : State) (b : Nat) (rest : List Order) : State := (s.setPound b rest).showPound b

theorem State.popped_frame (s : State) (b : Nat) (rest : List Order) :
    (s.popped b rest).pounds = (s.setPound b rest).pounds ∧ (s.popped b rest).exceptTaken = s.exceptTaken := by
  obtain ⟨v, w, h⟩ := (s.setPound b rest).showPound_eq b
  simp only [State.popped, h, State.set_frame, State.exceptTaken_set, State.exceptTaken_setPound, and_self]

@[simp] theorem State.path_popped (s : State) (b : Nat) (rest : List Order) (j : Nat) : (s.popped b rest).path j = s.path j := by
  obtain ⟨v, w, h⟩ := (s.setPound b rest).showPound_eq b
  exact State.path_of_paths_eq (by simp only [State.popped, h, State.set_frame, State.setPound_frame]) j

/-- A state that differs in nothing else pops the pound. -/
theorem State.popped_spec {s t : State} {b : Nat} {rest : List Order}
    (h : t.pounds = (s.setPound b rest).pounds ∧ t.exceptTaken = s.exceptTaken) :
    t.pound b = rest ∧ s.othersSame t State.pound b ∧
    t = { s with pounds := t.pounds, regs := t.regs, paths := t.paths, ctxs := t.ctxs, locks := t.locks, fetches := t.fetches,
                 muteds := t.muteds } := by
  refine ⟨?_, fun j hj => ?_, State.eq_of_exceptTaken_eq h.2⟩
  · rw [State.pound_of_pounds_eq h.1, State.pound_setPound, if_pos rfl]
  · rw [State.pound_of_pounds_eq h.1, State.pound_setPound, if_neg hj]

/-- An order joins the schedule of its lane. -/
def State.scheduled (s : State) (key : Nat) (o : Order) : State := s.modPath key (fun k => { k with sched := k.sched ++ [o] })

theorem State.sched_scheduled (s : State) (key : Nat) (o : Order) :
    ((s.scheduled key o).path key).sched = (s.path key).sched ++ [o] := by
  rw [State.scheduled, State.modPath_eq, State.path_setPath, if_pos rfl]

theorem exec_orderTakeIn_waits {s : State} {b : Fin 64} {o : Order} {rest : List Order} (h : s.pound b = o :: rest)
    (hreached : s.reached b o = false) : exec (.orderTakeIn b) s = .next s := by
  have hexec : exec (.orderTakeIn b) s = execOrderTakeIn b s := rfl
  simp only [hexec, execOrderTakeIn, h, hreached, Bool.not_false, if_true]

/-- ORDER_TAKE_IN of an order its lane has reached: the pound without it, in which it acts by its kind. -/
theorem exec_orderTakeIn {s : State} {b : Fin 64} {o : Order} {rest : List Order} (h : s.pound b = o :: rest)
    (hreached : s.reached b o = true) : ∃ t, exec (.orderTakeIn b) s = .next t ∧
      (t.pounds = (s.setPound b rest).pounds ∧ t.exceptTaken = s.exceptTaken) ∧
      (match o.kind with
        | .branchArm .. => True
        | .shotBoundary .. => True
        | k => (t.path (pathKey b k.path o.laneNo)).sched = (s.path (pathKey b k.path o.laneNo)).sched ++ [o]) := by
  have hexec : exec (.orderTakeIn b) s = execOrderTakeIn b s := rfl
  have hpopped := s.popped_frame b rest
  have hlane : ∀ key, ((s.popped b rest).scheduled key o).pounds = (s.setPound b rest).pounds ∧
      ((s.popped b rest).scheduled key o).exceptTaken = s.exceptTaken := fun key => (lanesKeep_taken _ _).path _ _ _ hpopped
  have hsched : ∀ key, (((s.popped b rest).scheduled key o).path key).sched = (s.path key).sched ++ [o] := fun key => by
    rw [State.sched_scheduled, State.path_popped]
  rw [hexec, execOrderTakeIn]
  simp only [h, hreached, Bool.not_true, Bool.false_eq_true, if_false]
  cases o.kind with
  | branchArm e src dev rem mask dflt =>
    exact ⟨_, rfl, (lanesKeep_taken _ _).armCtx (fun _ _ _ => State.taken_setCtx _ _) _ _ _ _ _ _ _ _ hpopped, trivial⟩
  | shotBoundary shot last halt =>
    dsimp only
    split
    · exact ⟨_, rfl, hlane _, trivial⟩
    · exact ⟨_, rfl, State.each_keeps (P := fun u => u.pounds = (s.setPound b rest).pounds ∧ u.exceptTaken = s.exceptTaken) _
        (fun u p => (lanesKeep_taken _ _).path u _ _) (State.taken_setCtx _ _ hpopped), trivial⟩
  | _ => exact ⟨_, rfl, hlane _, hsched _⟩

end Sys2Proof.Machine
end

section
/-! PROOF. Entries arrive at their lock (R31, R32, R41). -/

namespace Sys2Proof.Machine

/-! ## Differences of ticks (R27) -/

/-- A difference of ticks lies within 2^47 and is that of their numbers modulo 2^48. -/
theorem Tick.diff_spec (a b : Tick) : -2 ^ 47 < Tick.diff a b ∧ Tick.diff a b ≤ 2 ^ 47 ∧
    ∃ k : Int, Tick.diff a b = b.toNat - a.toNat + 2 ^ 48 * k := by
  have ha := a.isLt
  have hb := b.isLt
  unfold Tick.diff
  simp only [BitVec.toNat_sub]
  have hmod := Nat.div_add_mod (2 ^ 48 - a.toNat + b.toNat) (2 ^ 48)
  have hlt := Nat.mod_lt (2 ^ 48 - a.toNat + b.toNat) (show 0 < 2 ^ 48 by decide)
  generalize (2 ^ 48 - a.toNat + b.toNat) / 2 ^ 48 = q at hmod
  generalize (2 ^ 48 - a.toNat + b.toNat) % 2 ^ 48 = r at hmod hlt ⊢
  split
  · exact ⟨by omega, by omega, 1 - q, by omega⟩
  · exact ⟨by omega, by omega, -q, by omega⟩

/-- A tick two or more ahead is the later of itself and the next. -/
theorem Tick.max_eq_left_of_ahead {t a : Tick} (h : 2 ≤ Tick.diff t a) : Tick.max a (t + 1) = a := by
  have hbefore : Tick.before a (t + 1) = false := by
    obtain ⟨_, hle, k, hk⟩ := Tick.diff_spec t a
    obtain ⟨_, hle', k', hk'⟩ := Tick.diff_spec a (t + 1)
    have hsucc : (t + 1).toNat = (t.toNat + 1) % 2 ^ 48 := BitVec.toNat_add ..
    refine decide_eq_false ?_
    omega
  rw [Tick.max, hbefore]
  rfl

/-! ## The entries of a lane -/

@[simp] theorem LockLane.setLane_frame (k : LockLane) (lane : Nat) (l : List Entry) :
    (k.setLane lane l).formed = k.formed ∧ (k.setLane lane l).st = k.st ∧ (k.setLane lane l).since = k.since := by
  unfold LockLane.setLane
  split <;> exact ⟨rfl, rfl, rfl⟩

@[simp] theorem LockLane.lane_setLane (k : LockLane) (lane : Nat) (l : List Entry) : (k.setLane lane l).lane lane = l := by
  unfold LockLane.setLane LockLane.lane
  split
  · rfl
  · exact Store.read_write_same ..

/-- The entry is the newest of its lane. -/
def LockLane.put (k : LockLane) (lane : Nat) (e : Entry) : LockLane := k.setLane lane (k.lane lane ++ [e])

/-! ## LOCK_ENTRY_ARRIVE in time -/

/-- A lock's first entry moves it to RUN from the entry's tick. -/
def State.started (s : State) (l : Nat) (t : Tick) : State :=
  (s.setLockSt l .run).modLockLane l (fun k => { k with since := Tick.max t (s.tick + 1) })

/-- The state after the first entry formed for lane `lane` of lock lane `l` arrived as `e`. -/
def State.arrived (s : State) (l lane : Nat) (e : Entry) (rest : List (Nat × Entry)) (start : Bool) : State :=
  ((s.modLockLane l (fun k => { k with formed := rest })).when start (·.started l e.first)).modLockLane l (·.put lane e)

/-- The entry starts its lock: the lock is IDLE, and the entry is no open idle one. -/
def Entry.starts (e : Entry) (st : LockSt) : Bool := st == .idle && !(match e.cover with | .openIdle => true | _ => false)

theorem Entry.starts_iff (e : Entry) (st : LockSt) : e.starts st = true ↔ st = .idle ∧ e.cover ≠ .openIdle := by
  unfold Entry.starts
  cases e.cover <;> simp

/-- A lane that is not OFF is in RUN after an entry, unless it was IDLE and the entry is an open idle one. -/
theorem Entry.st_of_starts (e : Entry) {st : LockSt} (h : st ≠ .off) :
    (if e.starts st then .run else st) = if st = .idle ∧ e.cover = .openIdle then LockSt.idle else .run := by
  simp only [e.starts_iff]
  cases st with
  | off => exact absurd rfl h
  | idle => by_cases he : e.cover = .openIdle <;> simp [he]
  | run => simp

theorem exec_lockEntryArrive {s : State} {l : Fin 192} {lane : Nat} {e : Entry} {rest : List (Nat × Entry)}
    (hformed : (s.lockLane l).formed = (lane, e) :: rest) (hst : (s.lockLane l).st ≠ .off) (hearly : 2 ≤ Tick.diff s.tick e.first) :
    exec (.lockEntryArrive l) s = .next (s.arrived l lane { e with present := s.tick } rest (e.starts (s.lockLane l).st)) := by
  have hexec : exec (.lockEntryArrive l) s = execLockEntryArrive l s := rfl
  have htick : (s.setLockLane l { s.lockLane l with formed := rest }).tick = s.tick := (State.setLockLane_frame ..).2.1
  have hlate : decide (Tick.diff s.tick e.first < 2) = false := decide_eq_false (by omega)
  rw [hexec, execLockEntryArrive]
  simp only [hformed, htick, hlate, Bool.and_false, Bool.false_and, State.when_false, Bool.not_false,
    if_true]
  cases hk : (s.lockLane l).st with
  | off => exact absurd hk hst
  | idle =>
    simp only [State.arrived, State.modLockLane_eq, hk]
    rfl
  | run =>
    simp only [State.arrived, State.modLockLane_eq, hk]
    rfl

theorem LockLane.put_spec (k : LockLane) (lane : Nat) (e : Entry) :
    (k.put lane e).formed = k.formed ∧ (k.put lane e).st = k.st ∧ (k.put lane e).since = k.since ∧
    (k.put lane e).lane lane = k.lane lane ++ [e] := by
  simp [LockLane.put]

/-- The lane after an arrival, and the lanes of others. -/
theorem State.lockLane_arrived (s : State) (l lane : Nat) (e : Entry) (rest : List (Nat × Entry)) (start : Bool) (j : Nat)
    (hahead : 2 ≤ Tick.diff s.tick e.first) :
    (s.arrived l lane e rest start).lockLane j =
      if j = l then
        ({ s.lockLane l with
           formed := rest
           st := if start then .run else (s.lockLane l).st
           since := if start then e.first else (s.lockLane l).since } : LockLane).put lane e
      else s.lockLane j := by
  have hmax := Tick.max_eq_left_of_ahead hahead
  unfold State.arrived
  cases start with
  | false =>
    simp only [State.when_false, State.modLockLane_eq, State.lockLane_setLockLane, if_true, Bool.false_eq_true, if_false]
    split <;> rfl
  | true =>
    simp only [State.when_true, State.started, State.modLockLane_eq, State.lockLane_setLockLane, State.lockLane_setLockSt,
      State.setLockLane_frame, hmax, if_true]
    split <;> rfl

/-- The state without registers and lock lanes. -/
def State.exceptLocks (s : State) : State := { s with regs := [], locks := [] }

theorem State.eq_of_exceptLocks_eq {s t : State} (h : t.exceptLocks = s.exceptLocks) :
    t = { s with locks := t.locks, regs := t.regs } :=
  congrArg (fun u : State => { u with locks := t.locks, regs := t.regs }) h

@[simp] theorem State.exceptLocks_setLockLane (s : State) (l : Nat) (k : LockLane) :
    (s.setLockLane l k).exceptLocks = s.exceptLocks := rfl

@[simp] theorem State.exceptLocks_set (s : State) (f : Rf) (v : Nat) : (s.set f v).exceptLocks = s.exceptLocks := rfl

@[simp] theorem State.exceptLocks_setLockSt (s : State) (l : Nat) (st : LockSt) :
    (s.setLockSt l st).exceptLocks = s.exceptLocks := by
  obtain ⟨v, h⟩ := s.setLockSt_eq l st
  simp only [h, State.exceptLocks_set, State.exceptLocks_setLockLane]

/-- An arrival writes its lane, and LOCK_STAT.STATE of the lane's lock. -/
theorem State.arrived_frame (s : State) (l lane : Nat) (e : Entry) (rest : List (Nat × Entry)) (start : Bool) :
    (s.arrived l lane e rest start).exceptLocks = s.exceptLocks ∧
    s.fieldsOnly (s.arrived l lane e rest start) [LOCK_STAT.STATE (lockOfLane l)] := by
  have hlane : ∀ (u : State) (k : LockLane), s.fieldsOnly u [LOCK_STAT.STATE (lockOfLane l)] →
      s.fieldsOnly (u.setLockLane l k) [LOCK_STAT.STATE (lockOfLane l)] := fun u k h g hw hg =>
    (u.get_setLockLane l k g).trans (h g hw hg)
  have hformed : s.fieldsOnly (s.modLockLane l (fun k => { k with formed := rest })) [LOCK_STAT.STATE (lockOfLane l)] :=
    hlane _ _ (State.fieldsOnly_of_regs_eq rfl _)
  unfold State.arrived
  cases start with
  | false => exact ⟨by simp, hlane _ _ hformed⟩
  | true => exact ⟨by simp [State.started], hlane _ _ (hlane _ _ (hformed.setLockSt (by simp) _))⟩

/-- Settles O10: an order enters the pound or stalls the pilot, is taken in once its lane has come to it, and an entry that
arrives in time is the newest of its lane. -/
theorem ordersAndEntriesMove : Obligations.OrdersAndEntriesMove := by
  unfold Obligations.OrdersAndEntriesMove
  refine ⟨fun s b o rest => ⟨fun hlatch hroom => ?_, exec_orderEmit_full, exec_orderTakeIn_waits, fun hpound hreached => ?_⟩,
    fun s l lane e rest => ?_⟩
  · obtain ⟨excess, start, hexec⟩ := exec_orderEmit hlatch hroom
    obtain ⟨hpound, hpilot, hocc, hraised, hframe⟩ := State.pounded_spec start hroom
    exact ⟨_, _, hexec, hpound, rfl, hpilot, hocc, hraised, hframe⟩
  · obtain ⟨t, hexec, htaken, hsched⟩ := exec_orderTakeIn hpound hreached
    obtain ⟨hpopped, hothers, hframe⟩ := State.popped_spec htaken
    exact ⟨t, hexec, hpopped, hothers, hsched, hframe⟩
  · intro k hformed hst hearly
    have hlane := fun start => s.lockLane_arrived l lane { e with present := s.tick } rest start (hahead := hearly)
    obtain ⟨hput, hstate, hsince, hentries⟩ := LockLane.put_spec
      ({ k with
         formed := rest
         st := if e.starts k.st then .run else k.st
         since := if e.starts k.st then e.first else k.since } : LockLane) lane { e with present := s.tick }
    obtain ⟨hrest, hfields⟩ := s.arrived_frame l lane { e with present := s.tick } rest (e.starts k.st)
    refine ⟨_, exec_lockEntryArrive hformed hst hearly, ?_, ?_, ?_, ?_, ?_, hfields, State.eq_of_exceptLocks_eq hrest⟩
    · rw [hlane, if_pos rfl, hput]
    · rw [hlane, if_pos rfl, hentries]
      rfl
    · rw [hlane, if_pos rfl, hstate]
      exact e.st_of_starts hst
    · intro hidle hcover
      rw [hlane, if_pos rfl, hsince]
      exact if_pos ((e.starts_iff _).mpr ⟨hidle, hcover⟩)
    · intro j hj
      rw [hlane, if_neg hj]

end Sys2Proof.Machine
end

section
/-! PROOF. The next tick of a path (R31, R65, R128, R143, R149). -/

namespace Sys2Proof.Machine

theorem foldl_same {α β : Type} {f : α → β → α} {a : α} {l : List β} (h : ∀ x ∈ l, f a x = a) : l.foldl f a = a := by
  induction l with
  | nil => rfl
  | cons x l ih =>
    rw [List.foldl_cons, h x List.mem_cons_self]
    exact ih fun y hy => h y (List.mem_cons_of_mem x hy)

/-! ## A main lane with nothing scheduled -/

/-- A lane that no stop and no open cursor waits for, and that nothing is scheduled in. -/
structure PathLane.Plain (k : PathLane) : Prop where
  cutAt : k.cutAt = none
  opens : k.opens = []
  sched : k.sched = []
  acts : k.acts = []

theorem PathLane.Plain.skipOpens {k : PathLane} (h : k.Plain) : k.skipOpens = k := by
  have hopens := h.opens
  cases k
  simp_all [PathLane.skipOpens]

theorem PathLane.Plain.withoutActs {k : PathLane} (h : k.Plain) : { k with acts := [] } = k := by
  rw [← h.acts]

theorem PathLane.Plain.cleared {k : PathLane} (h : k.Plain) : { k with sched := [], acts := [] } = k := by
  have hsched := h.sched
  have hacts := h.acts
  cases k
  simp_all

/-- SYNTHESIS_TICK of a plain main lane that may form its next tick. -/
theorem exec_synthesisTick_main {s : State} {b : Fin 64} {p : Fin 3} (flaws : List (Fin 13 × Fin 4 × Bool)) {limit : Tick}
    {u : State} {k : PathLane} (hu : s.settlePath b p false = u) (hk : u.path (pathKey b p 0) = k) (hplain : k.Plain)
    (hlive : k.live = true) (hroom : u.laneRoom (pathLock b p) 0 = true) (hlimit : u.formLimit b 0 k = some limit) :
    exec (.synthesisTick b p 0 flaws) s = .next (u.formTick b p 0 k limit flaws) := by
  have hexec : exec (.synthesisTick b p 0 flaws) s = execSynthesisTick b p 0 flaws s := rfl
  have hzero : ((0 : Fin 5).val == 0) = true := rfl
  have hstage : u.beginStage b p 0 k = some k := if_pos (.inl rfl)
  have hcut : ¬ k.cutAt = some k.cur := by simp [hplain.cutAt]
  rw [hexec, execSynthesisTick, hzero]
  simp only [State.when_true, hu, Fin.val_zero, hk, hplain.skipOpens, hlive, hroom, Bool.not_true, Bool.or_self, Bool.false_eq_true,
    if_false, if_neg hcut, hstage, hplain.opens, hlimit]

/-- A tick of a lane with nothing scheduled, when reading its blocks and muting leave the lane as `k'` and no data is awaited. -/
theorem State.formTick_plain {s : State} {b p : Nat} {k k' : PathLane} {limit : Tick} (flaws : List (Fin 13 × Fin 4 × Bool))
    (hplain : k.Plain) (hbefore : Tick.before k.cur limit = true) (htaken : s.takenUpTo b p 0 k.cur = true)
    (hread : ∀ t ∈ pathTones p, s.readBlock flaws k t = (s, k)) (hdata : ∀ t ∈ pathTones p, s.dataAwaited b k t = false)
    (hmute : (pathTones p).foldl (fun (x : State × PathLane) t => x.1.muteTone b 0 x.2 t) (s, k) = (s, k')) :
    s.formTick b p 0 k limit flaws = s.formEntry b p 0 k' limit := by
  have hreads : (pathTones p).foldl (fun (x : State × PathLane) t => x.1.readBlock flaws x.2 t) (s, k) = (s, k) :=
    foldl_same hread
  have hany : (pathTones p).any (fun t => s.dataAwaited b k t) = false := by simpa using hdata
  unfold State.formTick
  simp only [hbefore, htaken, Bool.not_true, Bool.or_self, Bool.false_eq_true, if_false, hplain.sched, List.filter_nil, List.foldl_nil,
    hplain.acts, hplain.cleared, hreads, hany, hmute]

/-! ## What a tick writes -/

/-- The state without what forming a tick writes. -/
def State.exceptSynth (s : State) : State := { s with locks := [], paths := [], regs := [], wide := [], fetches := [] }

/-- Forming idle ticks of a drive lane leaves its prefetchers. -/
theorem State.eq_of_exceptSynth_eq_drive {s t : State} (h : t.exceptSynth = s.exceptSynth) (hfetches : t.fetches = s.fetches) :
    t = { s with locks := t.locks, paths := t.paths, regs := t.regs, wide := t.wide } :=
  (congrArg (fun u : State => { u with
    locks := t.locks, paths := t.paths, regs := t.regs, wide := t.wide, fetches := t.fetches }) h).trans
    (by rw [State.exceptSynth, hfetches])

/-- Forming a flux sample leaves the values behind the registers. -/
theorem State.eq_of_exceptSynth_eq_flux {s t : State} (h : t.exceptSynth = s.exceptSynth) (hwide : t.wide = s.wide) :
    t = { s with locks := t.locks, paths := t.paths, regs := t.regs, fetches := t.fetches } :=
  (congrArg (fun u : State => { u with
    locks := t.locks, paths := t.paths, regs := t.regs, wide := t.wide, fetches := t.fetches }) h).trans
    (by rw [State.exceptSynth, hwide])

/-- The registers of the tones are written, and the values behind them. -/
theorem State.showTones_keeps {P : State → Prop} {s : State} (b p : Nat) (k : PathLane) (hset : ∀ u f v, P u → P (u.set f v))
    (hwr : ∀ u a v, P u → P (u.wr a v)) (hwide : ∀ u a v, P u → P (u.setWideVal a v)) (h : P s) : P (s.showTones b p k) := by
  refine State.each_keeps _ (fun u t hu => ?_) h
  have hfreq : P ((u.capture (R.SYN_TONE_FREQ_LO b t) (k.tone t).freq).wr (R.SYN_TONE_PHASE b t) (k.tone t).phase) :=
    hwr _ _ _ (hwr _ _ _ (hwide _ _ _ hu))
  dsimp only
  split
  · exact hset _ _ _ (hset _ _ _ hfreq)
  · exact hset _ _ _ hfreq

theorem State.showTones_frame (s : State) (b p : Nat) (k : PathLane) :
    (s.showTones b p k).locks = s.locks ∧ (s.showTones b p k).paths = s.paths ∧ (s.showTones b p k).fetches = s.fetches ∧
    (s.showTones b p k).exceptSynth = s.exceptSynth :=
  State.showTones_keeps
    (P := fun u => u.locks = s.locks ∧ u.paths = s.paths ∧ u.fetches = s.fetches ∧ u.exceptSynth = s.exceptSynth)
    b p k (fun _ _ _ h => h) (fun _ _ _ h => h) (fun _ _ _ h => h) ⟨rfl, rfl, rfl, rfl⟩

@[simp] theorem State.exceptSynth_setLockLane (s : State) (l : Nat) (k : LockLane) :
    (s.setLockLane l k).exceptSynth = s.exceptSynth := rfl

@[simp] theorem State.exceptSynth_setPath (s : State) (i : Nat) (k : PathLane) : (s.setPath i k).exceptSynth = s.exceptSynth := rfl

@[simp] theorem State.exceptSynth_setBit (s : State) (f : Rf) (v : Bool) : (s.setBit f v).exceptSynth = s.exceptSynth := rfl

theorem State.fetches_setPath (s : State) (i : Nat) (k : PathLane) : (s.setPath i k).fetches = s.fetches := rfl

theorem State.fetches_setLockLane (s : State) (l : Nat) (k : LockLane) : (s.setLockLane l k).fetches = s.fetches := rfl

/-! ## A drive lane in which nothing plays (R31, R128) -/

theorem PathLane.starts_of_quiet {k : PathLane} {ts : List Nat} (h : ∀ t ∈ ts, (k.tone t).play = none) : k.starts ts = 0 :=
  foldl_same fun t ht => by simp only [h t ht]

/-- The ticks an idle run covers: up to its limit or the first order that waits, at most 65,535. -/
def State.idleRun (s : State) (b p : Nat) (k : PathLane) (limit : Tick) : Nat :=
  Nat.min 65535 (Tick.diff k.cur ((s.waiting b p 0).foldl (fun m o => Tick.min m o.tick) limit)).toNat

/-- The entry of an idle run. -/
def idleEntry (first : Tick) (n : Nat) : Entry := { first := first, cover := .idle n, acts := [], present := 0, sat := false }

/-- The state after an idle run of `n` ticks was formed in a main drive lane. -/
def State.idled (s : State) (b : Nat) (k : PathLane) (n : Nat) : State :=
  let k' := { k with cur := k.cur + BitVec.ofNat 48 n }
  ((s.form b 0 (idleEntry k.cur n)).showTones b 0 k').setPath (pathKey b 0 0) k'

theorem State.formEntry_idle {s : State} {b : Nat} {k : PathLane} (limit : Tick) (hplain : k.Plain)
    (hquiet : ∀ t ∈ pathTones 0, (k.tone t).play = none) :
    s.formEntry b 0 0 k limit = s.idled b k (s.idleRun b 0 k limit) := by
  have hplaying : (pathTones 0).any (fun t => (k.tone t).play.isSome) = false := by
    rw [List.any_eq_false]
    intro t ht
    simp [hquiet t ht]
  have hk := hplain.withoutActs
  unfold State.formEntry
  simp only [PathLane.starts_of_quiet hquiet, or_true, if_true, hk]
  simp only [hplain.acts, hplain.sched, hplaying, List.nil_append,
    List.isEmpty_nil, Bool.not_false, Bool.and_true, Nat.reduceEqDiff, if_false, if_true, beq_self_eq_true,
    State.when_true, State.idled]
  rfl

theorem State.idled_spec (s : State) (b : Nat) (k : PathLane) (n : Nat) :
    let t := s.idled b k n
    (t.lockLane b).formed = (s.lockLane b).formed ++ [(0, idleEntry k.cur n)] ∧
    (t.path (pathKey b 0 0)).cur = k.cur + BitVec.ofNat 48 n ∧
    t = { s with locks := t.locks, paths := t.paths, regs := t.regs, wide := t.wide } := by
  obtain ⟨hlocks, hpaths, hfetches, hrest⟩ := (s.form b 0 (idleEntry k.cur n)).showTones_frame b 0
    { k with cur := k.cur + BitVec.ofNat 48 n }
  refine ⟨?_, ?_, State.eq_of_exceptSynth_eq_drive ?_ ?_⟩
  · have hlane : (s.idled b k n).lockLane b = (s.form b 0 (idleEntry k.cur n)).lockLane b :=
      State.lockLane_of_locks_eq (by simp only [State.idled, State.setPath_frame, hlocks]) b
    rw [hlane, State.form, State.modLockLane_eq, State.lockLane_setLockLane, if_pos rfl]
  · rw [State.idled, State.path_setPath, if_pos rfl]
  · rw [State.idled, State.exceptSynth_setPath, hrest, State.form, State.modLockLane_eq, State.exceptSynth_setLockLane]
  · rw [State.idled, State.fetches_setPath, hfetches, State.form, State.modLockLane_eq, State.fetches_setLockLane]

/-- A tick of a drive lane in which nothing plays forms a run of idle ticks. -/
theorem State.formTick_idle {s : State} {b : Nat} {k : PathLane} {limit : Tick} (flaws : List (Fin 13 × Fin 4 × Bool))
    (hplain : k.Plain) (hbefore : Tick.before k.cur limit = true) (htaken : s.takenUpTo b 0 0 k.cur = true)
    (hquiet : ∀ t ∈ pathTones 0, (k.tone t).play = none) :
    s.formTick b 0 0 k limit flaws = s.idled b k (s.idleRun b 0 k limit) := by
  rw [State.formTick_plain (k' := k) flaws hplain hbefore htaken
    (fun t ht => by simp only [State.readBlock, hquiet t ht]) (fun t ht => by simp only [State.dataAwaited, hquiet t ht])
    (foldl_same fun t ht => by simp only [State.muteTone, hquiet t ht]), State.formEntry_idle limit hplain hquiet]

/-! ## A flux pulse of the basin, the filter bypassed (R148, R149) -/

/-- A play in the midst of a basin segment whose block has been read well. -/
structure Play.Basin (pl : Play) : Prop where
  cutAt : pl.cutAt = none
  dead : pl.dead = false
  muted : pl.muted = false
  src : desc.src pl.desc = 0
  block : pl.block = some false
  more : pl.pos + 1 < desc.length pl.desc

/-- The envelope sample such a play reads. -/
def State.basinEnv (s : State) (pl : Play) : BitVec 36 := s.basinSample (desc.addr pl.desc % 2 ^ 24 + pl.pos)

theorem Play.Basin.readEnv {pl : Play} (h : pl.Basin) (s : State) (b t : Nat) : s.readEnv b t pl = .value (s.basinEnv pl) := by
  simp only [State.readEnv, h.dead, h.muted, h.src, h.block, Bool.or_self, Bool.false_eq_true, if_false, if_true, Option.some.injEq,
    State.basinEnv]

theorem Play.Basin.unmuted {pl : Play} (h : pl.Basin) : { pl with muted := false } = pl := by
  rw [← h.muted]

theorem Tone.with_play {tn : Tone} {pl : Play} (h : tn.play = some pl) : { tn with play := some pl } = tn := by
  rw [← h]

/-- The play one tick on. -/
def Play.next (pl : Play) : Play :=
  { pl with pos := pl.pos + 1, block := if (desc.addr pl.desc + pl.pos + 1) % 8 = 0 then none else some false }

theorem Play.Basin.stepTone {pl : Play} (h : pl.Basin) (s : State) (b lane : Nat) (β : Tick) {k : PathLane} {t : Nat}
    (hplay : (k.tone t).play = some pl) : s.stepTone b lane β k t = (s, k.setTone t { k.tone t with play := some pl.next }) := by
  simp only [State.stepTone, hplay, h.cutAt, h.dead, h.more, h.block, Bool.false_eq_true, if_false, if_true, reduceCtorEq, Play.next,
    decide_eq_true_eq]

theorem Play.Basin.muteTone {pl : Play} (h : pl.Basin) (s : State) (b lane : Nat) {k : PathLane} {t : Nat}
    (hplay : (k.tone t).play = some pl) : s.muteTone b lane k t = (s, k.setTone t (k.tone t)) := by
  have hread : (s.readEnv b t pl == .missing) = false := by rw [h.readEnv]; rfl
  simp only [State.muteTone, hplay, hread, h.muted, Bool.false_and, Bool.or_false, State.when_false]
  rw [h.unmuted, Tone.with_play hplay]

/-- The entry of one flux sample. -/
def fluxEntry (first : Tick) (v : Int) : Entry := { first := first, cover := .sample [v], acts := [], present := 0, sat := false }

/-- The lane one tick of a play on, its filter quiet. -/
def PathLane.fluxStep (k : PathLane) (pl : Play) : PathLane :=
  { { k with filt := .quiet }.setTone 12 { k.tone 12 with play := some pl.next } with cur := k.cur + 1 }

/-- The state after a sample of a flux pulse was formed in the main flux lane. -/
def State.pulsed (s : State) (b : Nat) (k : PathLane) (pl : Play) : State :=
  let k' := k.fluxStep pl
  let u := (s.setBit (FLX_STAT.QUIET b) true).form (64 + b) 0 (fluxEntry k.cur (mulQ17 (envI (s.basinEnv pl)) pl.amp).1.toInt)
  (u.setPath (pathKey b 2 0) k').trimFetch b 12 k'

theorem State.formEntry_flux {s : State} {b : Nat} {k : PathLane} {pl : Play} (limit : Tick) (hplain : k.Plain) (hpl : pl.Basin)
    (hplay : (k.tone 12).play = some pl) (hbypass : s.bit (FLX_CFG.PD_EN b) = false)
    (hsat : (mulQ17 (envI (s.basinEnv pl)) pl.amp).2 = false) :
    s.formEntry b 2 0 k limit = s.pulsed b k pl := by
  have hts : pathTones 2 = [12] := rfl
  have hk := hplain.withoutActs
  have hfilter : ∀ f u, s.filter b f u = (.quiet, u, false) := fun f u => by
    simp only [State.filter, hbypass, Bool.not_false, if_true]
  have hplay' : ({ k with filt := .quiet, acts := [] }.tone 12).play = some pl := hplay
  unfold State.formEntry
  simp only [hts, hk]
  simp only [hplay, hpl.readEnv, hsat, hfilter, List.any_cons, List.any_nil, Option.isSome_some, if_true, Bool.true_or,
    Bool.not_true, Bool.false_and, Bool.false_or, State.when_false, beq_self_eq_true, State.when_true, Bool.false_eq_true, if_false,
    hpl.stepTone _ _ _ _ hplay', State.each_cons, State.each_nil,
    State.pulsed, PathLane.fluxStep, hplain.acts]
  rfl

/-- What has been played leaves the prefetcher of the tone. -/
theorem State.trimFetch_keeps {P : State → Prop} {s : State} (b t : Nat) (k : PathLane)
    (hfetch : ∀ u i l, P u → P (u.setPrefetch i l)) (h : P s) : P (s.trimFetch b t k) := by
  unfold State.trimFetch
  split
  · exact h
  · exact hfetch _ _ _ h

theorem State.trimFetch_frame (s : State) (b t : Nat) (k : PathLane) :
    (s.trimFetch b t k).locks = s.locks ∧ (s.trimFetch b t k).paths = s.paths ∧ (s.trimFetch b t k).wide = s.wide ∧
    (s.trimFetch b t k).exceptSynth = s.exceptSynth :=
  State.trimFetch_keeps
    (P := fun u => u.locks = s.locks ∧ u.paths = s.paths ∧ u.wide = s.wide ∧ u.exceptSynth = s.exceptSynth)
    b t k (fun _ _ _ h => h) ⟨rfl, rfl, rfl, rfl⟩

theorem State.locks_setPath (s : State) (i : Nat) (k : PathLane) : (s.setPath i k).locks = s.locks := rfl

theorem State.wide_formed (s : State) (f : Rf) (v : Bool) (l i : Nat) (k : LockLane) (p : PathLane) :
    (((s.setBit f v).setLockLane l k).setPath i p).wide = s.wide := rfl

theorem State.pulsed_spec (s : State) (b : Nat) (k : PathLane) (pl : Play) :
    let t := s.pulsed b k pl
    (t.lockLane (64 + b)).formed = (s.lockLane (64 + b)).formed ++
      [(0, fluxEntry k.cur (mulQ17 (envI (s.basinEnv pl)) pl.amp).1.toInt)] ∧
    (t.path (pathKey b 2 0)).cur = k.cur + 1 ∧ ((t.path (pathKey b 2 0)).tone 12).play = some pl.next ∧
    t = { s with locks := t.locks, paths := t.paths, regs := t.regs, fetches := t.fetches } := by
  have htone : ((k.fluxStep pl).tone 12).play = some pl.next := by
    have h := PathLane.tone_setTone { k with filt := .quiet } 12 12 { k.tone 12 with play := some pl.next }
    rw [if_pos rfl] at h
    exact congrArg Tone.play h
  unfold State.pulsed
  extract_lets k' u
  obtain ⟨hlocks, hpaths, hwide, hrest⟩ := (u.setPath (pathKey b 2 0) k').trimFetch_frame b 12 k'
  have hpath : ((u.setPath (pathKey b 2 0) k').trimFetch b 12 k').path (pathKey b 2 0) = k.fluxStep pl := by
    rw [State.path_of_paths_eq hpaths, State.path_setPath, if_pos rfl]
  refine ⟨?_, by rw [hpath]; rfl, by rw [hpath, htone], State.eq_of_exceptSynth_eq_flux (hrest.trans ?_) (hwide.trans ?_)⟩
  · rw [State.lockLane_of_locks_eq (hlocks.trans (State.locks_setPath ..))]
    unfold u
    rw [State.form, State.modLockLane_eq, State.lockLane_setLockLane, if_pos rfl, State.lockLane_setBit]
  · unfold u
    rw [State.exceptSynth_setPath, State.form, State.modLockLane_eq, State.exceptSynth_setLockLane, State.exceptSynth_setBit]
  · exact State.wide_formed ..

/-- A tick of a flux lane in a basin pulse, the filter bypassed, forms its sample: the product of envelope and amplitude. -/
theorem State.formTick_flux {s : State} {b : Nat} {k : PathLane} {pl : Play} {limit : Tick}
    (flaws : List (Fin 13 × Fin 4 × Bool)) (hplain : k.Plain) (hpl : pl.Basin) (hplay : (k.tone 12).play = some pl)
    (hbypass : s.bit (FLX_CFG.PD_EN b) = false) (hsat : (mulQ17 (envI (s.basinEnv pl)) pl.amp).2 = false)
    (hbefore : Tick.before k.cur limit = true) (htaken : s.takenUpTo b 2 0 k.cur = true) :
    s.formTick b 2 0 k limit flaws = s.pulsed b (k.setTone 12 (k.tone 12)) pl := by
  have hts : pathTones 2 = [12] := rfl
  have htone : (k.setTone 12 (k.tone 12)).tone 12 = k.tone 12 := by rw [PathLane.tone_setTone, if_pos rfl]
  have hplain' : (k.setTone 12 (k.tone 12)).Plain := ⟨hplain.cutAt, hplain.opens, hplain.sched, hplain.acts⟩
  rw [State.formTick_plain (k' := k.setTone 12 (k.tone 12)) flaws hplain hbefore htaken, State.formEntry_flux limit hplain' hpl
    (by rw [htone, hplay]) hbypass hsat]
  · intro t ht
    obtain rfl := List.mem_singleton.mp ht
    simp only [State.readBlock, hplay, hpl.dead, hpl.muted, hpl.src, hpl.block, Option.isSome_some, bne_self_eq_false, Bool.or_self,
      Bool.or_true, if_true]
  · intro t ht
    obtain rfl := List.mem_singleton.mp ht
    simp only [State.dataAwaited, hplay, hpl.readEnv]
  · simp only [hts, List.foldl_cons, List.foldl_nil, hpl.muteTone _ _ _ hplay]

/-- Settles O11: nothing playing forms an idle run, and a flux pulse its sample. -/
theorem synthesisFormsTheNextTick : Obligations.SynthesisFormsTheNextTick := by
  unfold Obligations.SynthesisFormsTheNextTick
  intro s b flaws limit pl s0 k upTo n s2 f v e fresh
  refine ⟨fun hlive hroom hcut hopens hsched hacts hquiet hlimit hbefore htaken => ?_,
    fun hlive hroom hcut hopens hsched hacts hplay hcutAt hdead hmuted hsrc hblock hmore hbypass hsat hlimit hbefore htaken => ?_⟩
  · have hplain : k.Plain := ⟨hcut, hopens, hsched, hacts⟩
    refine ⟨_, exec_synthesisTick_main (p := 0) flaws rfl rfl hplain hlive hroom hlimit, ?_⟩
    rw [show (0 : Fin 3).val = 0 from rfl, State.formTick_idle flaws hplain hbefore htaken hquiet]
    exact s0.idled_spec b k n
  · have hplain : f.Plain := ⟨hcut, hopens, hsched, hacts⟩
    have hpl : pl.Basin := ⟨hcutAt, hdead, hmuted, hsrc, hblock, hmore⟩
    refine ⟨_, exec_synthesisTick_main (p := 2) flaws rfl rfl hplain hlive hroom hlimit, ?_⟩
    rw [show (2 : Fin 3).val = 2 from rfl, State.formTick_flux flaws hplain hpl hplay hbypass hsat hbefore htaken]
    exact s2.pulsed_spec b (f.setTone 12 (f.tone 12)) pl

end Sys2Proof.Machine
end

section
/-! PROOF. What the resolution of a branch can write (R51, R54, R57, R58, R81, R82). -/

namespace Sys2Proof.Machine

/-- A field of another register than LOCK_STAT lies apart from every BR_LATE. -/
theorem apart_brLate {f : Rf} (h : f.addr % 0x1000 ≠ 0x100 ∧ f.addr % 0x1000 ≠ 0x180 ∧ f.addr % 0x1000 ≠ 0x400) (ℓ : Nat) :
    f.apart (LOCK_STAT.BR_LATE ℓ) :=
  .inl (lockStat_ne h ℓ).symm

/-- A predicate kept by all that the resolution of a branch writes beside the outcome of a context. -/
structure BranchKeep (P : State → Prop) : Prop extends LanesKeep P where
  set : ∀ u f v, (∀ ℓ, f.apart (LOCK_STAT.BR_LATE ℓ)) → P u → P (u.set f v)
  brLate : ∀ u ℓ, P u → P (u.setBit (LOCK_STAT.BR_LATE ℓ) true)
  ctx : ∀ u i k, k.res = (u.ctx i).res → k.late = (u.ctx i).late → P u → P (u.setCtx i k)
  demod : ∀ u i d, P u → P (u.setDemod i d)
  pilot : ∀ u b p, P u → P (u.setPilot b p)
  ledger : ∀ u b g, P u → P (u.setLedger b g)
  raise : ∀ u l, P u → P { u with raised := u.raised ++ l }

namespace BranchKeep

variable {P : State → Prop} (hP : BranchKeep P) {s : State}
include hP

/-! ## The pilot goes on (R82, R88, R91) -/

theorem pltStat (b v : Nat) (h : P s) : P (s.set (PLT_STAT.STATE b) v) :=
  hP.set _ _ _ (apart_brLate (by simp only [PLT_STAT.STATE, R.PLT_STAT]; omega)) h

theorem stopBnd (b : Nat) (v : Bool) (h : P s) : P (s.setBit (PLT_CTRL.STOP_BND b) v) :=
  hP.set _ _ _ (apart_brLate (by simp only [PLT_CTRL.STOP_BND, R.PLT_CTRL]; omega)) h

theorem pilotFault (b src : Nat) (h : P s) : P (s.pilotFault b src) := State.raise_keeps _ _ hP.raise h

theorem openCursor (b : Nat) (p : Pilot) (h : P s) : P (s.openCursor b p) :=
  State.each_keeps _ (fun u _ => hP.path u _ _) (hP.pilot _ _ _ h)

theorem endBatch (b : Nat) (p : Pilot) (code : Nat) (h : P s) : P (s.endBatch b p code) :=
  hP.stopBnd _ _ (hP.pltStat _ _ (hP.ledger _ _ _ (hP.pilot _ _ _ (hP.openCursor _ _ h))))

theorem afterShot (b : Nat) (p : Pilot) (l : BitVec 14) (h : P s) : P (s.afterShot b p l) := by
  unfold State.afterShot
  extract_lets left p'
  clear_value p'
  split
  · exact hP.endBatch _ _ _ h
  · split
    · exact hP.pltStat _ _ (hP.openCursor _ _ h)
    · split
      · exact hP.endBatch _ _ _ h
      · exact hP.pilot _ _ _ h

theorem boundaryWins (b : Nat) (p : Pilot) (h : P s) : P (s.boundaryWins b p).1 :=
  State.each_keeps _ (fun _ _ => hP.pilotFault _ _) h

theorem leaveBranch (b : Nat) (p : Pilot) (g : Stage) (lane : Bool) (k : Ctx) (cont : Option (BitVec 14)) (h : P s) :
    P (s.leaveBranch b p g lane k cont) := by
  unfold State.leaveBranch
  dsimp only
  split
  · exact hP.afterShot _ _ _ (hP.boundaryWins _ _ (hP.pltStat _ _ h))
  · exact hP.pilot _ _ _ (hP.pltStat _ _ h)

theorem pilotJoin (b : Nat) (h : P s) : P (s.pilotJoin b) := by
  unfold State.pilotJoin
  extract_lets p
  split
  · exact h
  · split
    · dsimp only
      split
      · exact hP.leaveBranch _ _ _ _ _ _ h
      · exact h
    · next g₁ g₂ _ =>
      generalize (if g₁.inner.isSome then (g₂, g₁) else (g₁, g₂)) = both
      obtain ⟨g, outer⟩ := both
      dsimp only
      split
      · exact h
      · split
        · split
          · exact hP.leaveBranch _ _ _ _ _ _ h
          · exact h
        · exact hP.leaveBranch _ _ _ _ _ _ h
    · exact h

/-! ## Paths and demodulators follow (R81, R172) -/

theorem settleDemods (b : Nat) (h : P s) : P (s.settleDemods b) := State.each_keeps _ (fun u _ => hP.demod u _ _) h

end BranchKeep

/-- The main lane goes on from lane `lane` of context `c`, or stays. -/
theorem State.settlePath_cases (s : State) (b p : Nat) (force : Bool) :
    s.settlePath b p force = s ∨ ∃ k, s.settlePath b p force = s.setPath (pathKey b p 0) k := by
  have hchosen : ∀ (stay wait : Bool) (k : PathLane),
      (if stay then s else if wait then s else s.setPath (pathKey b p 0) k) = s ∨
      ∃ k', (if stay then s else if wait then s else s.setPath (pathKey b p 0) k) = s.setPath (pathKey b p 0) k' := by
    intro stay wait k
    cases stay
    · cases wait
      · exact .inr ⟨k, rfl⟩
      · exact .inl rfl
    · exact .inl rfl
  unfold State.settlePath
  extract_lets m
  split
  · exact .inl rfl
  · split
    · exact .inl rfl
    · exact hchosen _ _ _

theorem LanesKeep.settlePath {P : State → Prop} (hP : LanesKeep P) {s : State} (b p : Nat) (force : Bool) (h : P s) :
    P (s.settlePath b p force) := by
  obtain h' | ⟨k, h'⟩ := s.settlePath_cases b p force
  · rwa [h']
  · rw [h']
    exact hP.path _ _ _ h

theorem LanesKeep.settlePaths {P : State → Prop} (hP : LanesKeep P) {s : State} (b : Nat) (force : Bool) (h : P s) :
    P (s.each [0, 1, 2] (fun s p => s.settlePath b p force)) :=
  State.each_keeps _ (fun _ _ => hP.settlePath _ _ _) h

/-! ## Resolving a context -/

/-- Context `c` of berth `b` has its outcome, and the berth's locks count it. -/
def State.resolveMark (s : State) (b c : Nat) (lane late : Bool) : State :=
  let s := s.modCtx (2 * b + c) (fun k => { k with res := some lane, late := late })
  let s := s.each (berthLocks b) (fun s ℓ => s.bump (LOCK_BR_CNT.COUNT ℓ))
  s.when late (fun s => s.each (berthLocks b) (fun s ℓ => (s.setBit (LOCK_STAT.BR_LATE ℓ) true).bump (LOCK_BR_LATE_CNT.COUNT ℓ)))

/-- The context nested in the one resolved to `lane` is discarded or resolves too; then demodulators, paths and the pilot follow. -/
def State.resolveRest (s : State) (b fuel c : Nat) (lane : Bool) : State :=
  let inner := s.ctx (2 * b + (1 - c))
  let s := match inner.outer with
    | some (oc, ol) =>
      if inner.busy && oc == c then
        if ol != lane then s.freeCtx b (1 - c)
        else match inner.kept with
          | some (st, true, t) =>
            if inner.res.isNone && Tick.le t (inner.tb - 2) then s.resolveCtx b fuel (1 - c) (inner.mask.getLsbD st.toNat) false else s
          | _ => s
      else s
    | none => s
  let s := s.settleDemods b
  let s := s.each [0, 1, 2] (fun s p => s.settlePath b p false)
  (s.pilotJoin b).showCtx b

theorem State.resolveCtx_succ (s : State) (b fuel c : Nat) (lane late : Bool) :
    s.resolveCtx b (fuel + 1) c lane late = (s.resolveMark b c lane late).resolveRest b fuel c lane := rfl

theorem lockBrCnt_apart (ℓ ℓ' : Nat) : (LOCK_BR_CNT.COUNT ℓ).apart (LOCK_STAT.BR_LATE ℓ') :=
  apart_brLate (by
    have := lockBase_mod ℓ
    simp only [LOCK_BR_CNT.COUNT, R.LOCK_BR_CNT]
    omega) ℓ'

theorem lockBrLateCnt_apart (ℓ ℓ' : Nat) : (LOCK_BR_LATE_CNT.COUNT ℓ).apart (LOCK_STAT.BR_LATE ℓ') :=
  apart_brLate (by
    have := lockBase_mod ℓ
    simp only [LOCK_BR_LATE_CNT.COUNT, R.LOCK_BR_LATE_CNT]
    omega) ℓ'

/-- Marking an outcome counts it in registers. -/
theorem State.resolveMark_keeps {P : State → Prop} {s : State} {b c : Nat} {lane : Bool} (late : Bool)
    (hset : ∀ u f v, (∀ ℓ, f.apart (LOCK_STAT.BR_LATE ℓ)) → P u → P (u.set f v))
    (hbrLate : ∀ u ℓ, P u → P (u.setBit (LOCK_STAT.BR_LATE ℓ) true))
    (h : P (s.modCtx (2 * b + c) (fun k => { k with res := some lane, late := late }))) : P (s.resolveMark b c lane late) := by
  have hcounted := State.each_keeps (e := fun u ℓ => u.bump (LOCK_BR_CNT.COUNT ℓ)) (berthLocks b)
    (fun u ℓ => hset u _ _ (lockBrCnt_apart ℓ)) h
  have hlate : ∀ u, P u → P (u.each (berthLocks b) (fun u ℓ =>
      (u.setBit (LOCK_STAT.BR_LATE ℓ) true).bump (LOCK_BR_LATE_CNT.COUNT ℓ))) := fun u =>
    State.each_keeps _ fun v ℓ hv => hset _ _ _ (lockBrLateCnt_apart ℓ) (hbrLate v ℓ hv)
  unfold State.resolveMark
  exact State.when_keeps late (hlate _) hcounted

namespace BranchKeep

variable {P : State → Prop} (hP : BranchKeep P) {s : State}
include hP

theorem freeCtx (b c : Nat) (h : P s) : P (s.freeCtx b c) := hP.toLanesKeep.freeCtx (hP.ctx _ _ _ rfl rfl h)

theorem resolveMark {b c : Nat} {lane : Bool} (late : Bool)
    (h : P (s.modCtx (2 * b + c) (fun k => { k with res := some lane, late := late }))) : P (s.resolveMark b c lane late) :=
  State.resolveMark_keeps late hP.set hP.brLate h

theorem resolveRest {b fuel c : Nat} {lane : Bool} (hinner : ∀ u l, P u → P (u.resolveCtx b fuel (1 - c) l false)) (h : P s) :
    P (s.resolveRest b fuel c lane) := by
  unfold State.resolveRest
  extract_lets inner nested settled joined
  have hnested : P nested := by
    unfold nested
    split
    · split
      · split
        · exact hP.freeCtx _ _ h
        · split
          · split
            · exact hinner _ _ h
            · exact h
          · exact h
      · exact h
    · exact h
  clear_value nested
  exact hP.showCtx _ (hP.pilotJoin _ (hP.settlePaths _ _ (hP.settleDemods _ hnested)))

/-- A resolution keeps what any outcome of a context of the berth keeps. -/
theorem resolveCtx {b : Nat} (hctx : ∀ u c k, P u → P (u.setCtx (2 * b + c) k)) (fuel c : Nat) (lane late : Bool) (h : P s) :
    P (s.resolveCtx b fuel c lane late) := by
  induction fuel generalizing s c lane late with
  | zero => exact h
  | succ fuel ih =>
    rw [State.resolveCtx_succ]
    exact hP.resolveRest (fun u l => ih _ _ _) (hP.resolveMark late (hctx _ _ _ h))

/-- A resolution of context `c` keeps what any outcome of the other context of the berth keeps, once the outcome is marked. -/
theorem resolveCtx_marked {b c : Nat} {lane late : Bool} (hctx : ∀ u k, P u → P (u.setCtx (2 * b + (1 - c)) k))
    (h : P (s.resolveMark b c lane late)) : P (s.resolveCtx b 2 c lane late) := by
  rw [State.resolveCtx_succ]
  refine hP.resolveRest (fun u l hu => ?_) h
  rw [State.resolveCtx_succ]
  exact hP.resolveRest (fun _ _ hw => hw) (hP.resolveMark false (hctx _ _ hu))

end BranchKeep

end Sys2Proof.Machine
end

section
/-! PROOF. Branches resolve on their decision or by default, WAITD has the same default, and contexts are freed
(R51, R53, R54, R56, R73). -/

namespace Sys2Proof.Machine

/-! ## What a resolution keeps -/

theorem State.ctx_of_ctxs_eq {s t : State} (h : t.ctxs = s.ctxs) (j : Nat) : t.ctx j = s.ctx j := by
  rw [State.ctx, h, State.ctx]

/-- An outcome stays, as long as no context is given another. -/
theorem branchKeep_outcome (i : Nat) (r : Option Bool) (late : Bool) :
    BranchKeep (fun u => (u.ctx i).res = r ∧ (u.ctx i).late = late) where
  busy0 _ _ _ h := h
  busy1 _ _ _ h := h
  lock _ _ _ h := h
  path _ _ _ h := h
  muted _ _ _ h := h
  fetch _ _ _ h := h
  set _ _ _ _ h := h
  brLate _ _ h := h
  ctx u j k hres hlate h := by
    rw [State.ctx_setCtx]
    split
    · next hj => rwa [hres, hlate, ← hj]
    · exact h
  demod _ _ _ h := h
  pilot _ _ _ h := h
  ledger _ _ _ h := h
  raise _ _ h := h

/-- Faults raised stay. -/
theorem branchKeep_raised (x : FaultIn) : BranchKeep (fun u => x ∈ u.raised) where
  busy0 _ _ _ h := h
  busy1 _ _ _ h := h
  lock _ _ _ h := h
  path _ _ _ h := h
  muted _ _ _ h := h
  fetch _ _ _ h := h
  set _ _ _ _ h := h
  brLate _ _ h := h
  ctx _ _ _ _ _ h := h
  demod _ _ _ h := h
  pilot _ _ _ h := h
  ledger _ _ _ h := h
  raise _ _ h := List.mem_append_left _ h

/-- BR_LATE of a lock stays set. -/
theorem branchKeep_brLate (ℓ : Nat) : BranchKeep (fun u => u.bit (LOCK_STAT.BR_LATE ℓ) = true) where
  busy0 u _ v h := (u.bit_setBit_apart v (by decide : 5 + 1 ≤ 32) (.inr (.inl (by decide : 2 + 1 ≤ 5)))).trans h
  busy1 u _ v h := (u.bit_setBit_apart v (by decide : 5 + 1 ≤ 32) (.inr (.inl (by decide : 3 + 1 ≤ 5)))).trans h
  lock _ _ _ h := h
  path _ _ _ h := h
  muted _ _ _ h := h
  fetch _ _ _ h := h
  set u f v hf h := (u.bit_set_apart v (by decide : 5 + 1 ≤ 32) (hf ℓ)).trans h
  brLate u ℓ' h := by
    by_cases ha : R.LOCK_STAT ℓ' = R.LOCK_STAT ℓ
    · have hsame : LOCK_STAT.BR_LATE ℓ' = LOCK_STAT.BR_LATE ℓ := congrArg (fun a => (⟨a, 5, 1⟩ : Rf)) ha
      rw [hsame]
      exact u.bit_setBit_true rfl (by decide : 5 < 32)
    · exact (u.bit_setBit_apart true (by decide : 5 + 1 ≤ 32) (.inl ha)).trans h
  ctx _ _ _ _ _ h := h
  demod _ _ _ h := h
  pilot _ _ _ h := h
  ledger _ _ _ h := h
  raise _ _ h := h

theorem State.ctx_resolveMark (s : State) (b c : Nat) (lane late : Bool) :
    (s.resolveMark b c lane late).ctx (2 * b + c) = { s.ctx (2 * b + c) with res := some lane, late := late } := by
  have hctxs := State.resolveMark_keeps (P := fun u => u.ctxs =
    (s.modCtx (2 * b + c) (fun k => { k with res := some lane, late := late })).ctxs) late (fun _ _ _ _ h => h) (fun _ _ h => h) rfl
  rw [State.ctx_of_ctxs_eq hctxs, State.modCtx_eq, State.ctx_setCtx, if_pos rfl]

/-- A default sets BR_LATE of the drive lock. -/
theorem State.brLate_resolveMark (s : State) (b c : Nat) (lane : Bool) :
    (s.resolveMark b c lane true).bit (LOCK_STAT.BR_LATE b) = true := by
  have hP := branchKeep_brLate b
  have hfirst : ∀ u : State, ((u.setBit (LOCK_STAT.BR_LATE b) true).bump (LOCK_BR_LATE_CNT.COUNT b)).bit (LOCK_STAT.BR_LATE b) = true :=
    fun u => hP.set _ _ _ (lockBrLateCnt_apart b) (u.bit_setBit_true rfl (by decide : 5 < 32))
  rw [State.resolveMark, State.when_true, berthLocks, State.each_cons]
  exact State.each_keeps (P := fun u => u.bit (LOCK_STAT.BR_LATE b) = true) _
    (fun u ℓ hu => hP.set _ _ _ (lockBrLateCnt_apart ℓ) (hP.brLate u ℓ hu)) (hfirst _)

/-- A resolved context has its outcome. -/
theorem State.outcome_resolveCtx (s : State) (b : Nat) (c : Fin 2) (lane late : Bool) :
    ((s.resolveCtx b 2 c lane late).ctx (2 * b + c)).res = some lane ∧
    ((s.resolveCtx b 2 c lane late).ctx (2 * b + c)).late = late := by
  refine (branchKeep_outcome (2 * b + c) (some lane) late).resolveCtx_marked (fun u k h => ?_) ?_
  · have hne : 2 * b + c.val ≠ 2 * b + (1 - c.val) := by
      have := c.isLt
      omega
    rwa [State.ctx_setCtx, if_neg hne]
  · rw [State.ctx_resolveMark]
    exact ⟨rfl, rfl⟩

/-! ## A decision reaches a context (R51, R53) -/

/-- An outer context that waits for its decision. -/
structure State.Waits (s : State) (b c : Nat) : Prop where
  busy : (s.ctx (2 * b + c)).busy = true
  res : (s.ctx (2 * b + c)).res = none
  outer : (s.ctx (2 * b + c)).outer = none
  lockstep : s.lockstep b = false
  kept : (s.ctx (2 * b + c)).kept = none

/-- A valid decision with the context's source and end tick, in time, resolves it. -/
theorem State.ctxDecision_match {s : State} {b : Nat} {c : Fin 2} {d : Decision} (h : s.Waits b c)
    (hfrom : d.from (s.ctx (2 * b + c)).src (s.ctx (2 * b + c)).dev (s.ctx (2 * b + c)).rem = true)
    (hend : d.endTick = (s.ctx (2 * b + c)).e) (hvalid : d.valid = true)
    (htime : Tick.le s.tick ((s.ctx (2 * b + c)).tb - 2) = true)
    (hnot : Tick.before ((s.ctx (2 * b + c)).tb - 2) s.tick = false) :
    ∃ u : State, s.ctxDecision d b c = u.resolveCtx b 2 c ((s.ctx (2 * b + c)).mask.getLsbD d.state.toNat) false := by
  have htick : ∀ k, (s.setCtx (2 * b + c) k).tick = s.tick := fun _ => rfl
  unfold State.ctxDecision State.ctxReady
  simp only [h.busy, h.res, h.outer, h.lockstep, h.kept, hfrom, hend, hvalid, hnot, htick, htime, Bool.not_true, Bool.or_self,
    Bool.false_eq_true, if_false, ne_eq, not_true_eq_false, Option.isSome_none, Option.isNone_none, State.when_false,
    Bool.and_self, if_true]
  exact ⟨_, rfl⟩

/-- A decision with another end tick is counted as missed. -/
theorem State.ctxDecision_miss {s : State} {b c : Nat} {d : Decision} (h : s.Waits b c)
    (hfrom : d.from (s.ctx (2 * b + c)).src (s.ctx (2 * b + c)).dev (s.ctx (2 * b + c)).rem = true)
    (hend : d.endTick ≠ (s.ctx (2 * b + c)).e) :
    s.ctxDecision d b c = s.each (berthLocks b) (fun s ℓ => s.bump (LOCK_BR_MISS_CNT.COUNT ℓ)) := by
  unfold State.ctxDecision
  simp only [h.busy, h.res, h.lockstep, hfrom, Bool.not_true, Bool.or_self, Bool.false_eq_true, if_false, if_pos hend,
    Option.isNone_none, if_true]

theorem State.ctxDecision_other {s : State} {b c : Nat} {d : Decision}
    (hfrom : d.from (s.ctx (2 * b + c)).src (s.ctx (2 * b + c)).dev (s.ctx (2 * b + c)).rem = false) : s.ctxDecision d b c = s := by
  unfold State.ctxDecision
  simp only [hfrom, Bool.not_false, Bool.or_true, if_true]

/-- The state without registers. -/
def State.exceptRegs (s : State) : State := { s with regs := [] }

theorem State.eq_of_exceptRegs_eq {s t : State} (h : t.exceptRegs = s.exceptRegs) : t = { s with regs := t.regs } :=
  congrArg (fun u : State => { u with regs := t.regs }) h

/-- The locks of a berth lie at three places. -/
theorem lockBrMissCnt_ne (b : Fin 64) : R.LOCK_BR_MISS_CNT b ≠ R.LOCK_BR_MISS_CNT (64 + b) ∧
    R.LOCK_BR_MISS_CNT b ≠ R.LOCK_BR_MISS_CNT (128 + b / 4) := by
  have hb := b.isLt
  simp only [R.LOCK_BR_MISS_CNT, lockBase, if_pos hb, if_neg (show ¬ 64 + b.val < 64 by omega), if_pos (show 64 + b.val < 128 by omega),
    if_neg (show ¬ 128 + b.val / 4 < 64 by omega), if_neg (show ¬ 128 + b.val / 4 < 128 by omega)]
  omega

/-- Missed decisions of a berth are counted in its drive lock, and nothing but registers changes. -/
theorem State.misses_spec (s : State) (b : Fin 64) :
    let t := s.each (berthLocks b) (fun s ℓ => s.bump (LOCK_BR_MISS_CNT.COUNT ℓ))
    t = { s with regs := t.regs } ∧
    t.get (LOCK_BR_MISS_CNT.COUNT b) = min (s.get (LOCK_BR_MISS_CNT.COUNT b) + 1) (2 ^ 32 - 1) := by
  obtain ⟨hflux, hprobe⟩ := lockBrMissCnt_ne b
  refine ⟨State.eq_of_exceptRegs_eq (State.each_same _ State.exceptRegs fun _ _ => rfl), ?_⟩
  have hother : ∀ (u : State) ℓ, R.LOCK_BR_MISS_CNT b ≠ R.LOCK_BR_MISS_CNT ℓ →
      (u.bump (LOCK_BR_MISS_CNT.COUNT ℓ)).get (LOCK_BR_MISS_CNT.COUNT b) = u.get (LOCK_BR_MISS_CNT.COUNT b) := fun u ℓ hne =>
    u.get_set_ne _ _ _ hne
  simp only [berthLocks, State.each_cons, State.each_nil]
  rw [hother _ _ hprobe, hother _ _ hflux, State.get_bump_same _ _ _ (by decide : 0 + 32 ≤ 32)]
  rfl

end Sys2Proof.Machine
end

section
/-! PROOF. Defaults of branches and of WAITD, and the end of a context (R54, R56, R59, R73). -/

namespace Sys2Proof.Machine

/-! ## BRANCH_DEFAULT (R54) -/

/-- The default a decision is owed to. -/
def Ctx.owed (k : Ctx) (b : Nat) : Owed := { berth := b, bid := k.bid, src := k.src, dev := k.dev, rem := k.rem, e := k.e, tb := k.tb }

/-- The defaults whose decisions have not come. -/
def State.setOwed (s : State) (l : List Owed) : State := { s with owed := l }

@[simp] theorem State.setOwed_frame (s : State) (l : List Owed) :
    (s.setOwed l).pilots = s.pilots ∧ (s.setOwed l).pm = s.pm ∧ (s.setOwed l).raised = s.raised ∧ (s.setOwed l).owed = l :=
  ⟨rfl, rfl, rfl, rfl⟩

/-- LATE_DECISION raised, and the margin owed until the decision comes. -/
def State.defaulted (s : State) (b : Nat) (bid : BitVec 8) (o : Owed) : State :=
  (s.lateDecision b bid 0xFFFF).setOwed (s.owed ++ [o])

theorem exec_branchDefault {s : State} {b : Fin 64} {c : Fin 2} (h : s.Waits b c)
    (htime : Tick.le ((s.ctx (2 * b + c)).tb - 2) s.tick = true) :
    let k := s.ctx (2 * b + c)
    exec (.branchDefault b c) s = .next ((s.defaulted b k.bid (k.owed b)).resolveCtx b 2 c k.dflt true) := by
  have hexec : exec (.branchDefault b c) s = execBranchDefault b c s := rfl
  rw [hexec, execBranchDefault, if_pos htime]
  unfold State.defaultCtx State.ctxReady
  simp only [h.busy, h.res, h.outer, h.lockstep, h.kept, Option.isNone_none, Bool.and_self, Bool.not_true, Bool.or_self,
    Bool.false_eq_true, if_false]
  rfl

theorem exec_branchDefault_early {s : State} {b : Fin 64} {c : Fin 2}
    (htime : Tick.le ((s.ctx (2 * b + c)).tb - 2) s.tick = false) : exec (.branchDefault b c) s = .next s := by
  have hexec : exec (.branchDefault b c) s = execBranchDefault b c s := rfl
  rw [hexec, execBranchDefault, htime]
  rfl

/-- LATE_DECISION waits at the collector's input. -/
theorem State.mem_raised_defaulted {s : State} (b : Nat) (bid : BitVec 8) (o : Owed) (h : s.standbyMute Src.LATE_DECISION = false) :
    { src := Src.LATE_DECISION, tick := s.tick, slots := slot b ++ slot bid.toNat ++ slot 0xFFFF, injected := false } ∈
      (s.defaulted b bid o).raised := by
  have hmark := (s.raise Src.LATE_DECISION (slot b ++ slot bid.toNat ++ slot 0xFFFF)).markPartial_frame b cause.lateDecision
  obtain ⟨_, _, _, _, _, _, hraised, _⟩ := hmark
  have hmem := State.mem_raised_raise (slot b ++ slot bid.toNat ++ slot 0xFFFF) h
  rwa [← hraised] at hmem

/-! ## WAITD_DEADLINE (R73) -/

theorem exec_waitdDeadline_early {s : State} {b : Fin 64} (htime : Tick.le ((s.pilot b).tc - 2) s.tick = false) :
    exec (.waitdDeadline b) s = .next s := by
  have hexec : exec (.waitdDeadline b) s = execWaitdDeadline b s := rfl
  rw [hexec, execWaitdDeadline, htime]
  rfl

/-- A pilot outside every repeat block goes on to the next instruction. -/
theorem State.advance_plain (s : State) (b : Nat) {p : Pilot} {n : Nat} (hreps : p.reps = []) (hpc : p.pc.toNat + n < 16384) :
    s.advance b p n = s.setPilot b { p with reps := [], pc := p.pc + BitVec.ofNat 14 n } := by
  unfold State.advance Pilot.past
  simp only [hreps, repEnd, if_pos hpc]

/-- A late decision is a fault raised and a mark in a ledger. -/
theorem State.lateDecision_keeps {P : State → Prop} {s : State} (b : Nat) (bid : BitVec 8) (margin : Nat)
    (hraise : ∀ u l, P u → P { u with raised := u.raised ++ l }) (hledger : ∀ u i g, P u → P (u.setLedger i g)) (h : P s) :
    P (s.lateDecision b bid margin) := by
  have hraised : P (s.raise Src.LATE_DECISION (slot b ++ slot bid.toNat ++ slot margin)) := State.raise_keeps _ _ hraise h
  unfold State.lateDecision
  obtain h' | ⟨g, h'⟩ := State.markPartial_cases (s.raise Src.LATE_DECISION (slot b ++ slot bid.toNat ++ slot margin)) b
    cause.lateDecision
  · rwa [h']
  · rw [h']
    exact hledger _ _ _ hraised

theorem State.defaulted_frame (s : State) (b : Nat) (bid : BitVec 8) (o : Owed) :
    (s.defaulted b bid o).pilots = s.pilots ∧ (s.defaulted b bid o).pm = s.pm ∧ (s.defaulted b bid o).owed = s.owed ++ [o] := by
  obtain ⟨hpilots, hpm⟩ := State.lateDecision_keeps (s := s) (P := fun u => u.pilots = s.pilots ∧ u.pm = s.pm) b bid 0xFFFF (fun _ _ h => h)
    (fun _ _ _ h => h) ⟨rfl, rfl⟩
  simp only [State.defaulted, State.setOwed_frame, hpilots, hpm, and_self]

theorem State.plen_of_pm_eq {s t : State} (h : t.pm = s.pm) (b : Nat) (a : BitVec 14) : t.plen b a = s.plen b a := by
  rw [State.plen, State.pword, State.progWord, h, State.plen, State.pword, State.progWord]

/-- A WAITD resolved moves its pilot past it. -/
theorem State.resolveWaitd_plain {s : State} {b : Nat} (state : BitVec 2) (valid late d : Bool) (slack : Nat)
    (hreps : (s.pilot b).reps = []) (hpc : (s.pilot b).pc.toNat + s.plen b (s.pilot b).pc < 16384) :
    ∃ p : Pilot, s.resolveWaitd b state valid late d slack = (s.set (PLT_STAT.STATE b) plt.run).setPilot b p ∧
      p.wait = .none ∧ p.d = d := by
  unfold State.resolveWaitd State.pilotResume
  dsimp only
  refine ⟨_, State.advance_plain _ _ ?_ ?_, rfl, rfl⟩
  · exact hreps
  · exact hpc

theorem State.waitdDefault_eq {s : State} {b : Nat} {src : BitVec 8} {dev : BitVec 12} {rem : Bool} {e : Tick} {mask : BitVec 4}
    {dflt : Bool} (hwait : (s.pilot b).wait = .decision src dev rem e mask dflt none) :
    s.waitdDefault b = (s.defaulted b 0xFF
      { berth := b, bid := 0xFF, src := src, dev := dev, rem := rem, e := e, tb := (s.pilot b).tc }).resolveWaitd b 0 false true dflt 0 := by
  unfold State.waitdDefault
  simp only [hwait]
  rfl

/-- What a WAITD leaves behind that takes its default: the pilot runs on, past it, and the margin is owed. -/
theorem State.waitdDefault_spec {s : State} {b : Nat} {src : BitVec 8} {dev : BitVec 12} {rem : Bool} {e : Tick} {mask : BitVec 4}
    {dflt : Bool} (hwait : (s.pilot b).wait = .decision src dev rem e mask dflt none) (hreps : (s.pilot b).reps = [])
    (hpc : (s.pilot b).pc.toNat + s.plen b (s.pilot b).pc < 16384) :
    let t := s.waitdDefault b
    (t.pilot b).wait = .none ∧ (t.pilot b).d = dflt ∧
    t.owed = s.owed ++ [{ berth := b, bid := 0xFF, src := src, dev := dev, rem := rem, e := e, tb := (s.pilot b).tc }] := by
  intro t
  have ht : t = _ := State.waitdDefault_eq hwait
  generalize ({ berth := b, bid := 0xFF, src := src, dev := dev, rem := rem, e := e, tb := (s.pilot b).tc } : Owed) = o at ht ⊢
  obtain ⟨hpilots, hpm, howed⟩ := s.defaulted_frame b 0xFF o
  have hpilot := State.pilot_of_pilots_eq hpilots b
  obtain ⟨p, hp, hnone, hd⟩ := State.resolveWaitd_plain (s := s.defaulted b 0xFF o) 0 false true dflt 0 (by rw [hpilot, hreps])
    (by rw [hpilot, State.plen_of_pm_eq hpm]; exact hpc)
  rw [ht, hp, State.pilot_setPilot, if_pos rfl]
  exact ⟨hnone, hd, howed⟩

theorem exec_waitdDeadline {s : State} {b : Fin 64} (htime : Tick.le ((s.pilot b).tc - 2) s.tick = true) :
    exec (.waitdDeadline b) s = .next (s.waitdDefault b) := by
  have hexec : exec (.waitdDeadline b) s = execWaitdDeadline b s := rfl
  rw [hexec, execWaitdDeadline, if_pos htime]

/-! ## CONTEXT_FREE (R56, R59) -/

/-- The state without what freeing a context writes. -/
def State.exceptFreed (s : State) : State :=
  { s with regs := [], ctxs := [], demods := [], locks := [], paths := [], fetches := [], muteds := [] }

theorem State.eq_of_exceptFreed_eq {s t : State} (h : t.exceptFreed = s.exceptFreed) :
    t = { s with regs := t.regs, ctxs := t.ctxs, demods := t.demods, locks := t.locks, paths := t.paths, fetches := t.fetches,
                 muteds := t.muteds } :=
  congrArg (fun u : State => { u with
    regs := t.regs, ctxs := t.ctxs, demods := t.demods, locks := t.locks, paths := t.paths, fetches := t.fetches,
    muteds := t.muteds }) h

/-- What is left of a state, and its contexts, are kept by a context's lanes. -/
theorem lanesKeep_freed (x : Store Ctx) (r : State) : LanesKeep (fun u => u.ctxs = x ∧ u.exceptFreed = r) where
  busy0 _ _ _ h := h
  busy1 _ _ _ h := h
  lock _ _ _ h := h
  path _ _ _ h := h
  muted _ _ _ h := h
  fetch _ _ _ h := h

/-- Freeing context `c` after the berth's demodulators have followed it. -/
theorem State.freed_spec {s u : State} {b c : Nat} (hctx : u.ctx (2 * b + c) = s.ctx (2 * b + c)) (hrest : u.exceptFreed = s.exceptFreed) :
    let t := (u.settleDemods b).freeCtx b c
    (t.ctx (2 * b + c)).busy = false ∧ (t.ctx (2 * b + c)).claimed = false ∧ (t.ctx (2 * b + c)).res = (s.ctx (2 * b + c)).res ∧
    t = { s with regs := t.regs, ctxs := t.ctxs, demods := t.demods, locks := t.locks, paths := t.paths, fetches := t.fetches,
                 muteds := t.muteds } := by
  have hdemods : (u.settleDemods b).ctxs = u.ctxs ∧ (u.settleDemods b).exceptFreed = u.exceptFreed :=
    State.each_keeps (P := fun w => w.ctxs = u.ctxs ∧ w.exceptFreed = u.exceptFreed) _ (fun _ _ h => h) ⟨rfl, rfl⟩
  obtain ⟨hctxs, hfreed⟩ := (lanesKeep_freed ((u.settleDemods b).modCtx (2 * b + c) Ctx.freed).ctxs (u.settleDemods b).exceptFreed).freeCtx
    (s := u.settleDemods b) (b := b) (c := c) ⟨rfl, rfl⟩
  have hk : ((u.settleDemods b).freeCtx b c).ctx (2 * b + c) = (s.ctx (2 * b + c)).freed := by
    rw [State.ctx_of_ctxs_eq hctxs, State.modCtx_eq, State.ctx_setCtx, if_pos rfl, State.ctx_of_ctxs_eq hdemods.1, hctx]
  intro t
  rw [show t.ctx (2 * b + c) = _ from hk]
  exact ⟨rfl, rfl, rfl, State.eq_of_exceptFreed_eq (hfreed.trans (hdemods.2.trans hrest))⟩

/-- The window of context `c` goes on in its inner context, which becomes an outer one. -/
def State.handedOn (s : State) (b c : Nat) : State :=
  let t := (s.ctx (2 * b + (1 - c))).tb
  (s.modCtx (2 * b + (1 - c)) (fun k => { k with outer := none })).each [0, 1, 2] (fun s p => s.modPath (pathKey b p 0) (fun m =>
    if m.live && Tick.before m.cur t then { m with cur := t } else m))

theorem State.handedOn_spec (s : State) {b c : Nat} (hc : c < 2) :
    (s.handedOn b c).ctx (2 * b + c) = s.ctx (2 * b + c) ∧ (s.handedOn b c).exceptFreed = s.exceptFreed := by
  have hne : 2 * b + c ≠ 2 * b + (1 - c) := by omega
  obtain ⟨hctxs, hrest⟩ : (s.handedOn b c).ctxs = (s.modCtx (2 * b + (1 - c)) (fun k => { k with outer := none })).ctxs ∧
      (s.handedOn b c).exceptFreed = s.exceptFreed :=
    State.each_keeps (P := fun u => u.ctxs = (s.modCtx (2 * b + (1 - c)) (fun k => { k with outer := none })).ctxs ∧
      u.exceptFreed = s.exceptFreed) _ (fun _ _ h => h) ⟨rfl, rfl⟩
  refine ⟨?_, hrest⟩
  rw [State.ctx_of_ctxs_eq hctxs, State.modCtx_eq, State.ctx_setCtx, if_neg hne]

theorem exec_contextFree {s : State} {b : Fin 64} {c : Fin 2} (hbusy : (s.ctx (2 * b + c)).busy = true)
    (hres : (s.ctx (2 * b + c)).res ≠ none) (htime : Tick.before s.tick ((s.ctx (2 * b + c)).tb + 63) = false) :
    ∃ u : State, exec (.contextFree b c) s = .next ((u.settleDemods b).freeCtx b c) ∧
      u.ctx (2 * b + c) = s.ctx (2 * b + c) ∧ u.exceptFreed = s.exceptFreed := by
  have hexec : exec (.contextFree b c) s = execContextFree b c s := rfl
  have hsome : (s.ctx (2 * b + c)).res.isNone = false := Option.isNone_eq_false_iff.mpr (Option.isSome_iff_ne_none.mpr hres)
  obtain ⟨hctxs, hrest⟩ := (lanesKeep_freed s.ctxs s.exceptFreed).settlePaths (s := s) b true ⟨rfl, rfl⟩
  have hsettled := State.ctx_of_ctxs_eq hctxs (2 * b + c)
  rw [hexec, execContextFree]
  simp only [hbusy, hsome, htime, Bool.not_true, Bool.or_self, Bool.false_eq_true, if_false]
  cases (s.ctx (2 * b + (1 - c))).outer with
  | none =>
    rw [Bool.and_false]
    exact ⟨_, rfl, hsettled, hrest⟩
  | some i =>
    dsimp only
    split
    · exact ⟨s.handedOn b c, rfl, s.handedOn_spec c.isLt⟩
    · exact ⟨_, rfl, hsettled, hrest⟩

theorem exec_contextFree_not {s : State} {b : Fin 64} {c : Fin 2}
    (h : (s.ctx (2 * b + c)).busy = false ∨ (s.ctx (2 * b + c)).res = none ∨
      Tick.before s.tick ((s.ctx (2 * b + c)).tb + 63) = true) : exec (.contextFree b c) s = .next s := by
  have hexec : exec (.contextFree b c) s = execContextFree b c s := rfl
  have hstays : (!(s.ctx (2 * b + c)).busy || (s.ctx (2 * b + c)).res.isNone ||
      Tick.before s.tick ((s.ctx (2 * b + c)).tb + 63)) = true := by
    obtain h | h | h := h
    · rw [h]; rfl
    · rw [h, Option.isNone_none, Bool.or_true, Bool.true_or]
    · rw [h, Bool.or_true]
  rw [hexec, execContextFree]
  exact if_pos hstays

/-- Settles O32: each clause is the law of its operation above. -/
theorem branchesResolve : Obligations.BranchesResolve := by
  unfold Obligations.BranchesResolve
  intro s b c d src dev rem e mask dflt k p open_
  have hwaits : open_ → s.Waits b c := fun ⟨hbusy, hres, houter, hlockstep, hkept⟩ => ⟨hbusy, hres, houter, hlockstep, hkept⟩
  refine ⟨fun ho hfrom hend hvalid htime hnot => ?_, fun ho hfrom hend => ?_, State.ctxDecision_other, fun ho htime => ?_,
    exec_branchDefault_early, fun hwait htime hreps hpc => ⟨_, exec_waitdDeadline htime, State.waitdDefault_spec hwait hreps hpc⟩,
    exec_waitdDeadline_early, fun hbusy hres htime => ?_, exec_contextFree_not⟩
  · obtain ⟨u, hu⟩ := State.ctxDecision_match (hwaits ho) hfrom hend hvalid htime hnot
    rw [hu]
    exact (u.outcome_resolveCtx b c _ _).1
  · rw [State.ctxDecision_miss (hwaits ho) hfrom hend]
    exact s.misses_spec b
  · obtain ⟨hres, hlate⟩ := (s.defaulted b k.bid (k.owed b)).outcome_resolveCtx b c k.dflt true
    refine ⟨_, exec_branchDefault (hwaits ho) htime, hres, hlate, ?_, fun hmute => ?_⟩
    · exact (branchKeep_brLate b).resolveCtx_marked (fun _ _ h => h) (State.brLate_resolveMark ..)
    · have hP := branchKeep_raised { src := Src.LATE_DECISION, tick := s.tick, slots := slot b ++ slot k.bid.toNat ++ slot 0xFFFF,
                                     injected := false }
      exact hP.resolveCtx (fun _ _ _ h => h) 2 c k.dflt true (State.mem_raised_defaulted b k.bid (k.owed b) hmute)
  · obtain ⟨u, hexec, hctx, hrest⟩ := exec_contextFree hbusy hres htime
    exact ⟨_, hexec, State.freed_spec hctx hrest⟩

end Sys2Proof.Machine
end

section
/-! PROOF. Decisions reach the entry stage of the crossbar and enter it (R46, R47, R49, R190, R199). -/

namespace Sys2Proof.Machine

/-! ## The registers of a decision (R190) -/

theorem demod_lt (src : Fin 256) : src.val / 16 < 16 ∧ src.val % 16 < 16 := by
  have := src.isLt
  omega

/-- A decision in DEM_LAST_DEC and DEM_INVAL_CNT of demodulator `k` of input `n`. -/
def State.decRegs (s : State) (n k : Nat) (d : Decision) : State :=
  ((((s.set (DEM_LAST_DEC.STATE n k) d.state.toNat).setBit (DEM_LAST_DEC.VALID n k) d.valid).setBit
    (DEM_LAST_DEC.KERN n k) d.kern).set (DEM_LAST_DEC.STATUS n k) d.status.toNat).when (!d.valid) (·.bump (DEM_INVAL_CNT.COUNT n k))

/-- Beside the registers, the demodulator keeps the point and the end tick. -/
theorem State.showDecision_eq (s : State) (d : Decision) : ∃ m : Demod,
    s.showDecision d = (s.decRegs (d.src.toNat / 16) (d.src.toNat % 16) d).setDemod d.src.toNat m ∧ m.lastEnd = d.endTick := by
  unfold State.showDecision
  dsimp only
  split
  · exact ⟨_, rfl, rfl⟩
  · exact ⟨_, rfl, rfl⟩

theorem demLastDec_ne_inval (n k : Nat) : R.DEM_LAST_DEC n k ≠ R.DEM_INVAL_CNT n k := by
  unfold R.DEM_LAST_DEC R.DEM_INVAL_CNT
  omega

/-- A count of invalid decisions leaves DEM_LAST_DEC. -/
theorem State.get_demLastDec_decRegs (s : State) (n k : Nat) (d : Decision) {f : Rf} (hf : f.addr = R.DEM_LAST_DEC n k) :
    (s.decRegs n k d).get f = ((((s.set (DEM_LAST_DEC.STATE n k) d.state.toNat).setBit (DEM_LAST_DEC.VALID n k) d.valid).setBit
      (DEM_LAST_DEC.KERN n k) d.kern).set (DEM_LAST_DEC.STATUS n k) d.status.toNat).get f :=
  State.when_same _ (·.get f) (State.get_set_ne _ _ _ _ (by rw [hf]; exact demLastDec_ne_inval n k))

theorem State.decRegs_spec (s : State) (n k : Nat) (d : Decision) :
    let t := s.decRegs n k d
    t.get (DEM_LAST_DEC.STATE n k) = d.state.toNat ∧ t.bit (DEM_LAST_DEC.VALID n k) = d.valid ∧
    t.get (DEM_LAST_DEC.STATUS n k) = d.status.toNat ∧
    (d.valid = false → t.get (DEM_INVAL_CNT.COUNT n k) = min (s.get (DEM_INVAL_CNT.COUNT n k) + 1) (2 ^ 32 - 1)) := by
  refine ⟨?_, ?_, ?_, fun hvalid => ?_⟩
  · rw [s.get_demLastDec_decRegs n k d rfl, State.get_set_apart _ (by decide : 0 + 2 ≤ 32) (.inr (.inr (by decide : 0 + 2 ≤ 8))),
      State.setBit_eq, State.get_set_apart _ (by decide : 0 + 2 ≤ 32) (.inr (.inr (by decide : 0 + 2 ≤ 3))),
      State.setBit_eq, State.get_set_apart _ (by decide : 0 + 2 ≤ 32) (.inr (.inr (by decide : 0 + 2 ≤ 2))),
      State.get_set_of_lt _ (by decide : 0 + 2 ≤ 32) d.state.isLt]
  · rw [State.bit, s.get_demLastDec_decRegs n k d rfl, ← State.bit,
      State.bit_set_apart _ (by decide : 2 + 1 ≤ 32) (.inr (.inr (by decide : 2 + 1 ≤ 8))),
      State.bit_setBit_apart _ (by decide : 2 + 1 ≤ 32) (.inr (.inr (by decide : 2 + 1 ≤ 3))),
      State.bit_setBit_same _ _ rfl (by decide : 2 < 32)]
  · rw [s.get_demLastDec_decRegs n k d rfl, State.get_set_of_lt _ (by decide : 8 + 8 ≤ 32) d.status.isLt]
  · have hne : (DEM_INVAL_CNT.COUNT n k).addr ≠ R.DEM_LAST_DEC n k := (demLastDec_ne_inval n k).symm
    rw [State.decRegs, hvalid, Bool.not_false, State.when_true, State.get_bump_same _ _ _ (by decide : 0 + 32 ≤ 32),
      State.get_set_ne _ _ _ _ hne, State.setBit_eq, State.get_set_ne _ _ _ _ hne, State.setBit_eq, State.get_set_ne _ _ _ _ hne,
      State.get_set_ne _ _ _ _ hne]
    rfl

/-! ## DECISION_READY (R46, R199) -/

/-- What is noted of the lead of a decision over its entry, and of the time it took. -/
def State.readyNoted (s : State) (n : Nat) (d : Decision) (nominal : Tick) : State :=
  let lead := Tick.diff s.tick nominal
  let s := (s.lower XBAR_LEAD_MIN.MIN lead).monitor 144 (decide (lead < s.govTh))
  let took := (Tick.diff (d.endTick + 14) s.tick).toNat
  s.when d.byDec (fun s => s.set (KRN_READY_MAX.TICKS n) (Nat.max (Nat.min took 0xFFFF) (s.get (KRN_READY_MAX.TICKS n))))

theorem State.readyNoted_keeps {P : State → Prop} {s : State} {n : Nat} (d : Decision) (nominal : Tick)
    (hset : ∀ u f v, f.addr ∈ [R.XBAR_LEAD_MIN, R.GOV_STAT, R.KRN_READY_MAX n] → P u → P (u.set f v))
    (hgov : ∀ u g m, P u → P { u with gov := g, govMon := m }) (h : P s) : P (s.readyNoted n d nominal) := by
  have hlead : P (s.lower XBAR_LEAD_MIN.MIN (Tick.diff s.tick nominal)) :=
    State.lower_keeps _ (fun w => hset _ _ w (by simp [XBAR_LEAD_MIN.MIN]) h) h
  unfold State.readyNoted
  extract_lets lead u took
  have hmonitor : P u := by
    obtain ⟨g, m, v, h'⟩ := State.monitor_eq (s.lower XBAR_LEAD_MIN.MIN lead) 144 (decide (lead < s.govTh))
    unfold u
    rw [h', State.setBit_eq]
    exact hset _ _ _ (by simp [GOV_STAT.REQ]) (hgov _ g m hlead)
  clear_value u
  exact State.when_keeps _ (fun hu => hset _ _ _ (by simp [KRN_READY_MAX.TICKS]) hu) hmonitor

/-- Registers of the demodulators are none of those noted. -/
theorem readyRegs_ne (src : Fin 256) {a : Nat} (h : a = R.DEM_LAST_DEC (src.val / 16) (src.val % 16) ∨
    a = R.DEM_INVAL_CNT (src.val / 16) (src.val % 16)) :
    ∀ r ∈ [R.XBAR_LEAD_MIN, R.GOV_STAT, R.KRN_READY_MAX (src.val / 16)], a ≠ r := by
  have hsrc := demod_lt src
  simp only [List.forall_mem_cons, R.XBAR_LEAD_MIN, R.GOV_STAT, R.KRN_READY_MAX, R.DEM_LAST_DEC, R.DEM_INVAL_CNT] at h ⊢
  refine ⟨by omega, by omega, by omega, by simp⟩

/-- The state without what DECISION_READY writes. -/
def State.exceptReady (s : State) : State :=
  { s with regs := [], demods := [], gov := .init, govMon := [], decMade := [], xbarWait := [] }

theorem State.eq_of_exceptReady_eq {s t : State} {rest : List (Decision × Tick)} (h : t.exceptReady = s.exceptReady)
    (hmade : t.decMade = rest) :
    t = { s with regs := t.regs, demods := t.demods, gov := t.gov, govMon := t.govMon, decMade := rest, xbarWait := t.xbarWait } :=
  (congrArg (fun u : State => { u with
    regs := t.regs, demods := t.demods, gov := t.gov, govMon := t.govMon, decMade := t.decMade, xbarWait := t.xbarWait }) h).trans
    (by rw [hmade, State.exceptReady])

/-- The decisions made, and those that wait at the entry stage. -/
def State.setDecMade (s : State) (l : List (Decision × Tick)) : State := { s with decMade := l }
def State.setXbarWait (s : State) (l : List XbarItem) : State := { s with xbarWait := l }

@[simp] theorem State.setDecMade_frame (s : State) (l : List (Decision × Tick)) :
    (s.setDecMade l).decMade = l ∧ (s.setDecMade l).regs = s.regs ∧ (s.setDecMade l).tick = s.tick ∧
    (s.setDecMade l).xbarWait = s.xbarWait ∧ (s.setDecMade l).exceptReady = s.exceptReady := ⟨rfl, rfl, rfl, rfl, rfl⟩

@[simp] theorem State.setXbarWait_frame (s : State) (l : List XbarItem) :
    (s.setXbarWait l).xbarWait = l ∧ (s.setXbarWait l).regs = s.regs ∧ (s.setXbarWait l).decMade = s.decMade ∧
    (s.setXbarWait l).demods = s.demods ∧ (s.setXbarWait l).exceptReady = s.exceptReady := ⟨rfl, rfl, rfl, rfl, rfl⟩

theorem takeFirst_head {α : Type} {p : α → Bool} {a : α} (l : List α) (h : p a = true) : takeFirst p (a :: l) = some (a, l) := by
  rw [takeFirst, if_pos h]

/-- The state after decision `d` of source `src` was noted. -/
def State.decisionNoted (s : State) (src : Fin 256) (d : Decision) (nominal : Tick) (rest : List (Decision × Tick)) : State :=
  ((s.setDecMade rest).showDecision d).readyNoted (src.val / 16) d nominal

/-- The state after it was left at the entry stage. -/
def State.decisionStaged (s : State) (src : Fin 256) (d : Decision) (nominal : Tick) (rest : List (Decision × Tick)) : State :=
  let u := s.decisionNoted src d nominal rest
  u.setXbarWait (u.xbarWait ++ [{ dec := d, ready := u.tick, entry := nominal, deliver := 0 }])

/-- What noting a decision keeps, from the registers and the demodulator that show it on. -/
theorem State.decisionNoted_keeps {P : State → Prop} {s : State} {src : Fin 256} {d : Decision} (nominal : Tick)
    (rest : List (Decision × Tick)) (hsrc : d.src.toNat = src.val)
    (hset : ∀ u f v, f.addr ∈ [R.XBAR_LEAD_MIN, R.GOV_STAT, R.KRN_READY_MAX (src.val / 16)] → P u → P (u.set f v))
    (hgov : ∀ u g m, P u → P { u with gov := g, govMon := m })
    (h : ∀ m : Demod, m.lastEnd = d.endTick → P (((s.setDecMade rest).decRegs (src.val / 16) (src.val % 16) d).setDemod src m)) :
    P (s.decisionNoted src d nominal rest) := by
  obtain ⟨m, hshow, hend⟩ := (s.setDecMade rest).showDecision_eq d
  rw [hsrc] at hshow
  rw [State.decisionNoted, hshow]
  exact State.readyNoted_keeps d nominal hset hgov (h m hend)

/-- The registers that show a decision are written as registers. -/
theorem State.decRegs_keeps {P : State → Prop} {s : State} (n k : Nat) (d : Decision) (hset : ∀ u f v, P u → P (u.set f v)) (h : P s) :
    P (s.decRegs n k d) := by
  have hbit : ∀ u f (v : Bool), P u → P (u.setBit f v) := fun u f v hu => by
    rw [State.setBit_eq]
    exact hset _ _ _ hu
  exact State.when_keeps (!d.valid) (hset _ _ _) (hset _ _ _ (hbit _ _ _ (hbit _ _ _ (hset _ _ _ h))))

theorem State.decisionNoted_frame (s : State) {src : Fin 256} {d : Decision} (nominal : Tick) (rest : List (Decision × Tick))
    (hsrc : d.src.toNat = src.val) :
    let t := s.decisionNoted src d nominal rest
    t.decMade = rest ∧ t.xbarWait = s.xbarWait ∧ t.tick = s.tick ∧ t.exceptReady = s.exceptReady :=
  State.decisionNoted_keeps
    (P := fun u => u.decMade = rest ∧ u.xbarWait = s.xbarWait ∧ u.tick = s.tick ∧ u.exceptReady = s.exceptReady) nominal rest hsrc
    (fun _ _ _ _ h => h) (fun _ _ _ h => h) (fun m _ => State.decRegs_keeps
      (P := fun u => (u.setDemod src m).decMade = rest ∧ (u.setDemod src m).xbarWait = s.xbarWait ∧ (u.setDemod src m).tick = s.tick ∧
        (u.setDemod src m).exceptReady = s.exceptReady) _ _ _ (fun _ _ _ h => h) ⟨rfl, rfl, rfl, rfl⟩)

theorem State.get_setDemod (s : State) (i : Nat) (m : Demod) (f : Rf) : (s.setDemod i m).get f = s.get f :=
  State.get_of_regs_eq rfl f

/-- A demodulator's registers of decisions stay as a decision was shown in them. -/
theorem State.get_decisionNoted (s : State) {src : Fin 256} {d : Decision} (nominal : Tick) (rest : List (Decision × Tick))
    (hsrc : d.src.toNat = src.val) {f : Rf}
    (hf : f.addr = R.DEM_LAST_DEC (src.val / 16) (src.val % 16) ∨ f.addr = R.DEM_INVAL_CNT (src.val / 16) (src.val % 16)) :
    (s.decisionNoted src d nominal rest).get f = ((s.setDecMade rest).decRegs (src.val / 16) (src.val % 16) d).get f :=
  State.decisionNoted_keeps (P := fun u => u.get f = _) nominal rest hsrc
    (fun u _ _ hg h => (u.get_set_ne _ _ _ (readyRegs_ne src hf _ hg)).trans h) (fun _ _ _ h => h) (fun _ _ => State.get_setDemod ..)

theorem State.lastEnd_decisionNoted (s : State) {src : Fin 256} {d : Decision} (nominal : Tick) (rest : List (Decision × Tick))
    (hsrc : d.src.toNat = src.val) : ((s.decisionNoted src d nominal rest).demod src).lastEnd = d.endTick :=
  State.decisionNoted_keeps (P := fun u => (u.demod src).lastEnd = d.endTick) nominal rest hsrc (fun _ _ _ _ h => h) (fun _ _ _ h => h)
    (fun m hm => by rw [State.demod_setDemod, if_pos rfl, hm])

theorem exec_decisionReady {s : State} {src : Fin 256} {d : Decision} {nominal : Tick} {rest : List (Decision × Tick)}
    (h : s.decMade = (d, nominal) :: rest) (hsrc : d.src.toNat = src.val) (hbefore : Tick.before nominal s.tick = false) :
    exec (.decisionReady src) s = .next (s.decisionStaged src d nominal rest) := by
  have hexec : exec (.decisionReady src) s = execDecisionReady src s := rfl
  have hfirst : takeFirst (fun (x : Decision × Tick) => x.1.src.toNat == src.val) ((d, nominal) :: rest) = some ((d, nominal), rest) :=
    takeFirst_head _ (beq_iff_eq.mpr hsrc)
  obtain ⟨_, _, htick, _⟩ := s.decisionNoted_frame nominal rest hsrc
  have hnow : Tick.before nominal (s.decisionNoted src d nominal rest).tick = false := by rw [htick, hbefore]
  rw [hexec, execDecisionReady, h, hfirst]
  refine if_neg fun hin => ?_
  have hearly := (Bool.and_eq_true_iff.mp (Bool.and_eq_true_iff.mp hin).1).1
  exact Bool.false_ne_true (hnow.symm.trans hearly)

theorem exec_decisionReady_none {s : State} {src : Fin 256} (h : s.decMade = []) : exec (.decisionReady src) s = .next s := by
  have hexec : exec (.decisionReady src) s = execDecisionReady src s := rfl
  rw [hexec, execDecisionReady, h, takeFirst]

theorem State.decisionStaged_spec (s : State) {src : Fin 256} {d : Decision} (nominal : Tick) (rest : List (Decision × Tick))
    (hsrc : d.src.toNat = src.val) :
    let n := src.val / 16
    let k := src.val % 16
    let t := s.decisionStaged src d nominal rest
    t.decMade = rest ∧ t.xbarWait = s.xbarWait ++ [{ dec := d, ready := s.tick, entry := nominal, deliver := 0 }] ∧
    t.get (DEM_LAST_DEC.STATE n k) = d.state.toNat ∧ t.bit (DEM_LAST_DEC.VALID n k) = d.valid ∧
    t.get (DEM_LAST_DEC.STATUS n k) = d.status.toNat ∧ (t.demod src).lastEnd = d.endTick ∧
    (d.valid = false → t.get (DEM_INVAL_CNT.COUNT n k) = min (s.get (DEM_INVAL_CNT.COUNT n k) + 1) (2 ^ 32 - 1)) ∧
    t = { s with regs := t.regs, demods := t.demods, gov := t.gov, govMon := t.govMon, decMade := rest, xbarWait := t.xbarWait } := by
  obtain ⟨hmade, hwait, htick, hrest⟩ := s.decisionNoted_frame nominal rest hsrc
  obtain ⟨hstate, hvalid, hstatus, hinval⟩ := (s.setDecMade rest).decRegs_spec (src.val / 16) (src.val % 16) d
  have hframe := (s.decisionNoted src d nominal rest).setXbarWait_frame ((s.decisionNoted src d nominal rest).xbarWait ++
    [{ dec := d, ready := (s.decisionNoted src d nominal rest).tick, entry := nominal, deliver := 0 }])
  obtain ⟨hwait', hregs', hmade', hdemods', hrest'⟩ := hframe
  have hget : ∀ f : Rf, f.addr = R.DEM_LAST_DEC (src.val / 16) (src.val % 16) ∨ f.addr = R.DEM_INVAL_CNT (src.val / 16) (src.val % 16) →
      (s.decisionStaged src d nominal rest).get f = ((s.setDecMade rest).decRegs (src.val / 16) (src.val % 16) d).get f := fun f hf =>
    (State.get_of_regs_eq hregs' f).trans (s.get_decisionNoted nominal rest hsrc hf)
  refine ⟨hmade'.trans hmade, ?_, (hget _ (.inl rfl)).trans hstate, ?_, (hget _ (.inl rfl)).trans hstatus, ?_, fun hv => ?_,
    State.eq_of_exceptReady_eq (hrest'.trans hrest) (hmade'.trans hmade)⟩
  · rw [State.decisionStaged, hwait', hwait, htick]
  · rw [State.bit, hget _ (.inl rfl), ← State.bit, hvalid]
  · rw [State.demod, show (s.decisionStaged src d nominal rest).demods = _ from hdemods', ← State.demod]
    exact s.lastEnd_decisionNoted nominal rest hsrc
  · rw [hget _ (.inr rfl), hinval hv, State.get_of_regs_eq (s.setDecMade_frame rest).2.1]

end Sys2Proof.Machine
end

section
/-! PROOF. Decisions enter the crossbar and are served (R46 to R49, R199, R314). -/

namespace Sys2Proof.Machine

/-! ## The tick of an entry (R49) -/

theorem Tick.diff_self (a : Tick) : Tick.diff a a = 0 := by
  obtain ⟨hlow, hhigh, k, hk⟩ := Tick.diff_spec a a
  omega

/-- A tick lies at or before the later of it and another. -/
theorem Tick.le_max_right (a b : Tick) : Tick.le b (Tick.max a b) = true := by
  unfold Tick.max
  split
  · exact decide_eq_true (Tick.diff_self b).ge
  · next h =>
    have hle : ¬ 0 < Tick.diff a b := fun hlt => h (decide_eq_true hlt)
    obtain ⟨hlow, _, k, hk⟩ := Tick.diff_spec a b
    obtain ⟨hlow', hhigh', k', hk'⟩ := Tick.diff_spec b a
    exact decide_eq_true (by omega)

/-- A kernel decision enters four ticks after its source's last entry at the earliest. -/
theorem State.le_entryTick {s : State} {d : Decision} {nominal e : Tick} (hkern : d.kern = true)
    (hlast : s.lastEntryOf d.src.toNat = some e) : Tick.le (e + 4) (s.entryTick d nominal) = true := by
  unfold State.entryTick
  simp only [hlast, hkern, if_true]
  exact Tick.le_max_right _ _

/-! ## XBAR_ENTRY (R46, R47) -/

/-- The state without what an entry writes. -/
def State.exceptEntry (s : State) : State := { s with regs := [], raised := [], lastEntry := [], xbarWait := [], xbarQueue := [] }

theorem State.eq_of_exceptEntry_eq {s t : State} {xs : List XbarItem} (h : t.exceptEntry = s.exceptEntry) (hwait : t.xbarWait = xs) :
    t = { s with regs := t.regs, raised := t.raised, lastEntry := t.lastEntry, xbarWait := xs, xbarQueue := t.xbarQueue } :=
  (congrArg (fun u : State => { u with
    regs := t.regs, raised := t.raised, lastEntry := t.lastEntry, xbarWait := t.xbarWait, xbarQueue := t.xbarQueue }) h).trans
    (by rw [hwait, State.exceptEntry])

/-- No standby twin mutes XBAR_LATE. -/
theorem State.standbyMute_xbarLate (s : State) : s.standbyMute Src.XBAR_LATE = false := by
  rw [State.standbyMute, show [Src.LM_LOW, Src.ORDER_SHORT, Src.LATE_BARGE, Src.LATE_DECISION, Src.UNDERRUN, Src.WINDOW_FORM].contains
    Src.XBAR_LATE = false by decide, Bool.and_false]

/-- An entry after its nominal tick is counted and raised. -/
def State.lateEntry (s : State) (src : Nat) (nominal : Tick) : State :=
  s.when (Tick.before nominal s.tick) (fun u =>
    (u.bump XBAR_LATE_CNT.COUNT).raise Src.XBAR_LATE (slot src ++ slot (Tick.diff nominal s.tick).toNat))

theorem State.lateEntry_late {s : State} {src : Nat} {nominal : Tick} (h : Tick.before nominal s.tick = true) :
    (s.lateEntry src nominal).get XBAR_LATE_CNT.COUNT = min (s.get XBAR_LATE_CNT.COUNT + 1) (2 ^ 32 - 1) ∧
    (s.lateEntry src nominal).raised = s.raised ++
      [{ src := Src.XBAR_LATE, tick := s.tick, slots := slot src ++ slot (Tick.diff nominal s.tick).toNat, injected := false }] := by
  have hraise : ∀ (u : State) (l : List Nat), u.raise Src.XBAR_LATE l =
      { u with raised := u.raised ++ [{ src := Src.XBAR_LATE, tick := u.tick, slots := l, injected := false }] } := fun u l => by
    rw [State.raise, u.standbyMute_xbarLate]
    rfl
  rw [State.lateEntry, h, State.when_true, hraise]
  exact ⟨s.get_bump_same _ _ (by decide), rfl⟩

theorem State.lateEntry_onTime {s : State} {src : Nat} {nominal : Tick} (h : Tick.before nominal s.tick = false) :
    s.lateEntry src nominal = s := by
  rw [State.lateEntry, h, State.when_false]

theorem State.lateEntry_frame (s : State) (src : Nat) (nominal : Tick) :
    let t := s.lateEntry src nominal
    t.xbarQueue = s.xbarQueue ∧ t.tick = s.tick ∧ t.xbarWait = s.xbarWait ∧ t.exceptEntry = s.exceptEntry :=
  State.when_keeps
    (P := fun u => u.xbarQueue = s.xbarQueue ∧ u.tick = s.tick ∧ u.xbarWait = s.xbarWait ∧ u.exceptEntry = s.exceptEntry) _
    (fun h => State.raise_keeps (P := fun u => u.xbarQueue = s.xbarQueue ∧ u.tick = s.tick ∧ u.xbarWait = s.xbarWait ∧
      u.exceptEntry = s.exceptEntry) _ _ (fun _ _ h => h) h) ⟨rfl, rfl, rfl, rfl⟩

/-- The 65th decision of a tick counts it; the decision is the newest in the queue, and its source's last. -/
def State.queued (s : State) (d : Decision) (ready : Tick) : State :=
  let here (l : List XbarItem) : Nat := (l.filter (fun (x : XbarItem) => !x.dec.remote && x.entry == s.tick)).length
  let s := s.when (here s.xbarQueue + here s.xbarServed == 64) (·.bump XBAR_BURST_CNT.COUNT)
  let s := s.setLastEntryOf d.src.toNat (some s.tick)
  { s with xbarQueue := s.xbarQueue ++ [{ dec := d, ready := ready, entry := s.tick, deliver := 0 }] }

theorem State.queued_spec (s : State) (d : Decision) (ready : Tick) :
    let t := s.queued d ready
    t.xbarQueue = s.xbarQueue ++ [{ dec := d, ready := ready, entry := s.tick, deliver := 0 }] ∧
    t.lastEntryOf d.src.toNat = some s.tick ∧ t.raised = s.raised ∧ t.xbarWait = s.xbarWait ∧
    t.get XBAR_LATE_CNT.COUNT = s.get XBAR_LATE_CNT.COUNT ∧ t.exceptEntry = s.exceptEntry := by
  unfold State.queued
  extract_lets here u v
  obtain ⟨hqueue, htick, hraised, hwait, hcount, hrest⟩ : u.xbarQueue = s.xbarQueue ∧ u.tick = s.tick ∧ u.raised = s.raised ∧
      u.xbarWait = s.xbarWait ∧ u.get XBAR_LATE_CNT.COUNT = s.get XBAR_LATE_CNT.COUNT ∧ u.exceptEntry = s.exceptEntry :=
    State.when_keeps (P := fun w => w.xbarQueue = s.xbarQueue ∧ w.tick = s.tick ∧ w.raised = s.raised ∧ w.xbarWait = s.xbarWait ∧
      w.get XBAR_LATE_CNT.COUNT = s.get XBAR_LATE_CNT.COUNT ∧ w.exceptEntry = s.exceptEntry) _
      (fun h => ⟨rfl, rfl, rfl, rfl, s.get_set_ne _ _ _ (by decide), rfl⟩) ⟨rfl, rfl, rfl, rfl, rfl, rfl⟩
  clear_value u
  have hlast : v.lastEntryOf d.src.toNat = some s.tick := by
    unfold v
    rw [State.lastEntryOf_setLastEntryOf, if_pos rfl, htick]
  refine ⟨?_, hlast, hraised, hwait, hcount, hrest⟩
  exact congr (congrArg (fun q t => q ++ [{ dec := d, ready := ready, entry := t, deliver := 0 }]) hqueue) htick

/-- The first decision of source `src` that waits has left the entry stage. -/
theorem exec_xbarEntry {s : State} {src : Fin 256} {x : XbarItem} {xs : List XbarItem} (h : s.xbarWait = x :: xs)
    (hsrc : x.dec.src.toNat = src.val) : exec (.xbarEntry src) s =
      .next (if Tick.le (s.entryTick x.dec x.entry) s.tick then (s.setXbarWait xs).xbarEnter x.dec x.ready x.entry else s) := by
  have hexec : exec (.xbarEntry src) s = execXbarEntry src s := rfl
  have hfirst : takeFirst (fun (x : XbarItem) => x.dec.src.toNat == src.val) (x :: xs) = some (x, xs) :=
    takeFirst_head _ (beq_iff_eq.mpr hsrc)
  rw [hexec, execXbarEntry, h, hfirst]
  dsimp only
  split <;> rfl

/-- An entry leaves the stage and joins the queue; late, it is counted and raised. -/
theorem State.xbarEnter_spec (s : State) (x : XbarItem) (xs : List XbarItem) :
    let t := (s.setXbarWait xs).xbarEnter x.dec x.ready x.entry
    t.xbarWait = xs ∧
    t.xbarQueue = s.xbarQueue ++ [{ dec := x.dec, ready := x.ready, entry := s.tick, deliver := 0 }] ∧
    t.lastEntryOf x.dec.src.toNat = some s.tick ∧
    (Tick.before x.entry s.tick = true →
      t.get XBAR_LATE_CNT.COUNT = min (s.get XBAR_LATE_CNT.COUNT + 1) (2 ^ 32 - 1) ∧
      t.raised = s.raised ++ [{ src := Src.XBAR_LATE, tick := s.tick,
                                slots := slot x.dec.src.toNat ++ slot (Tick.diff x.entry s.tick).toNat, injected := false }]) ∧
    (Tick.before x.entry s.tick = false → t.raised = s.raised ∧ t.get XBAR_LATE_CNT.COUNT = s.get XBAR_LATE_CNT.COUNT) ∧
    t = { s with regs := t.regs, raised := t.raised, lastEntry := t.lastEntry, xbarWait := xs, xbarQueue := t.xbarQueue } := by
  obtain ⟨hqueue, htick, hwait, hrest⟩ := (s.setXbarWait xs).lateEntry_frame x.dec.src.toNat x.entry
  obtain ⟨hqueued, hlast, hraised, hwait', hcount, hrest'⟩ :=
    ((s.setXbarWait xs).lateEntry x.dec.src.toNat x.entry).queued_spec x.dec x.ready
  intro t
  refine ⟨hwait'.trans hwait, hqueued.trans ?_, hlast.trans (congrArg some htick), fun hlate => ?_, fun htime => ?_,
    State.eq_of_exceptEntry_eq (hrest'.trans hrest) (hwait'.trans hwait)⟩
  · rw [hqueue, htick]
    rfl
  · obtain ⟨hbump, hraise⟩ := State.lateEntry_late (s := s.setXbarWait xs) (src := x.dec.src.toNat) (nominal := x.entry) hlate
    exact ⟨hcount.trans (hbump.trans (by rw [State.get_of_regs_eq (s.setXbarWait_frame xs).2.1])), hraised.trans hraise⟩
  · have hsame : (s.setXbarWait xs).lateEntry x.dec.src.toNat x.entry = s.setXbarWait xs := State.lateEntry_onTime htime
    exact ⟨hraised.trans ((congrArg State.raised hsame).trans rfl),
      hcount.trans ((congrArg (·.get XBAR_LATE_CNT.COUNT) hsame).trans (State.get_of_regs_eq (s.setXbarWait_frame xs).2.1 _))⟩

/-! ## XBAR_SERVE (R48, R314) -/

/-- The queue in the order of its service. -/
def State.xbarSorted (s : State) : List XbarItem := s.xbarQueue.foldl (fun l x => insertBy XbarItem.le x l) []

/-- Local decisions of a list to be delivered three ticks from now. -/
def State.servedNow (s : State) (l : List XbarItem) : List XbarItem :=
  l.filter (fun (x : XbarItem) => !x.dec.remote && x.deliver == s.tick + 3)

/-- What is served in this tick: the places that are left of 64. -/
def State.xbarTaken (s : State) : List XbarItem := s.xbarSorted.take (64 - (s.servedNow s.xbarServed).length)

/-- The decisions served leave the queue, to be delivered in three ticks. -/
def State.xbarMoved (s : State) : State :=
  { s with xbarQueue := s.xbarSorted.drop (64 - (s.servedNow s.xbarServed).length),
           xbarServed := s.xbarServed ++ s.xbarTaken.map (fun (x : XbarItem) => { x with deliver := s.tick + 3 }) }

/-- The decisions served are measured and exported. -/
def State.xbarServe (s : State) : State :=
  (s.xbarMoved.each s.xbarTaken (fun s (x : XbarItem) =>
    s.set XBAR_STAT.MAX_ADD (Nat.max (s.get XBAR_STAT.MAX_ADD) (Nat.min 3 (Tick.diff x.entry s.tick).toNat)))).each
    s.xbarTaken (fun s (x : XbarItem) => s.exportDecision x.dec)

theorem exec_xbarServe (s : State) : exec .xbarServe s = .next s.xbarServe := rfl

/-! ### Export -/

section
variable {P : State → Prop} {s : State} (hset : ∀ u f v, P u → P (u.set f v))
  (hraise : ∀ u l, P u → P { u with raised := u.raised ++ l }) (hport : ∀ u p q, P u → P (u.setMeshPort p q))
include hset hraise

theorem State.meshUnreach_keeps (h : P s) : P s.meshUnreach := State.raise_keeps _ _ hraise (hset _ _ _ h)

include hport

theorem State.meshJoin_keeps (p : Nat) (f : Flit) (h : P s) : P (s.meshJoin p f) := by
  have hshow : ∀ u, P u → P (u.showQueue p) := fun u hu => hset _ _ _ (hset _ _ _ hu)
  unfold State.meshJoin
  dsimp only
  split
  · exact hshow _ (hport _ _ _ (State.when_keeps _ (State.raise_keeps _ _ hraise) (hset _ _ _ h)))
  · exact hshow _ (hport _ _ _ h)

theorem State.meshForward_keeps (w : BitVec 64) (came : Option Nat) (j : Tick) (h : P s) : P (s.meshForward w came j) := by
  unfold State.meshForward
  split
  · exact State.meshJoin_keeps hset hraise hport _ _ h
  · exact State.meshUnreach_keeps hset hraise h

theorem State.exportDecision_keeps (d : Decision) (h : P s) : P (s.exportDecision d) := by
  unfold State.exportDecision
  dsimp only
  split
  · exact h
  · split
    · exact hset _ _ _ h
    · exact State.each_keeps _ (fun _ _ => State.meshForward_keeps hset hraise hport _ _ _) h

theorem State.xbarServe_keeps (h : P s.xbarMoved) : P s.xbarServe :=
  State.each_keeps _ (fun _ _ => State.exportDecision_keeps hset hraise hport _) (State.each_keeps _ (fun _ _ => hset _ _ _) h)

end

/-! ### What is served -/

/-- The state without what serving and exporting write. -/
def State.exceptServe (s : State) : State := { s with regs := [], raised := [], meshPorts := [], xbarQueue := [], xbarServed := [] }

theorem State.eq_of_exceptServe_eq {s t : State} (h : t.exceptServe = s.exceptServe) :
    t = { s with regs := t.regs, raised := t.raised, meshPorts := t.meshPorts, xbarQueue := t.xbarQueue, xbarServed := t.xbarServed } :=
  congrArg (fun u : State => { u with
    regs := t.regs, raised := t.raised, meshPorts := t.meshPorts, xbarQueue := t.xbarQueue, xbarServed := t.xbarServed }) h

theorem State.xbarServe_frame (s : State) : s.xbarServe.xbarQueue = s.xbarMoved.xbarQueue ∧
    s.xbarServe.xbarServed = s.xbarMoved.xbarServed ∧ s.xbarServe.exceptServe = s.exceptServe :=
  State.xbarServe_keeps
    (P := fun u => u.xbarQueue = s.xbarMoved.xbarQueue ∧ u.xbarServed = s.xbarMoved.xbarServed ∧ u.exceptServe = s.exceptServe)
    (fun _ _ _ h => h) (fun _ _ h => h) (fun _ _ _ h => h) ⟨rfl, rfl, rfl⟩

/-- At most 64 local decisions are left to be delivered in one tick. -/
theorem State.length_servedNow_xbarServe (s : State) (h : (s.servedNow s.xbarServed).length ≤ 64) :
    (s.servedNow s.xbarServe.xbarServed).length ≤ 64 := by
  have htaken : (s.servedNow (s.xbarTaken.map (fun (x : XbarItem) => { x with deliver := s.tick + 3 }))).length ≤
      64 - (s.servedNow s.xbarServed).length := by
    refine (List.length_filter_le ..).trans ?_
    rw [List.length_map]
    exact List.length_take_le ..
  have hserved : s.xbarServe.xbarServed =
      s.xbarServed ++ s.xbarTaken.map (fun (x : XbarItem) => { x with deliver := s.tick + 3 }) := s.xbarServe_frame.2.1
  have happend : s.servedNow s.xbarServe.xbarServed = s.servedNow s.xbarServed ++
      s.servedNow (s.xbarTaken.map (fun (x : XbarItem) => { x with deliver := s.tick + 3 })) := by
    rw [hserved]
    exact List.filter_append ..
  rw [happend, List.length_append]
  omega

/-- A lone decision is served at once. -/
theorem State.xbarServe_lone {s : State} {x : XbarItem} (hqueue : s.xbarQueue = [x]) (hroom : (s.servedNow s.xbarServed).length < 64) :
    s.xbarServe.xbarQueue = [] ∧ s.xbarServe.xbarServed = s.xbarServed ++ [{ x with deliver := s.tick + 3 }] := by
  have hsorted : s.xbarSorted = [x] := by
    rw [State.xbarSorted, hqueue]
    rfl
  have hone : 1 ≤ 64 - (s.servedNow s.xbarServed).length := by omega
  have htaken : s.xbarTaken = [x] := by
    rw [State.xbarTaken, hsorted]
    exact List.take_of_length_le hone
  obtain ⟨hleft, hserved, _⟩ := s.xbarServe_frame
  refine ⟨hleft.trans ?_, hserved.trans ?_⟩
  · rw [State.xbarMoved, hsorted]
    exact List.drop_of_length_le hone
  · rw [State.xbarMoved, htaken]
    rfl

end Sys2Proof.Machine
end

section
/-! PROOF. What the delivery of decisions leaves alone (R48, R51, R73, R191, R192). -/

namespace Sys2Proof.Machine

/-- The state without what the consumers of a decision write. -/
def State.exceptDelivered (s : State) : State :=
  { s with
    regs := [], wide := [], raised := [], faultLog := [], recorder := { s.recorder with queue := [] }, owed := [], pilots := [],
    pounds := [], ledgers := [], locks := [], ctxs := [], paths := [], muteds := [], fetches := [], demods := [], acqs := [],
    flitsOut := [], localFires := [], pulses := [], winResults := [] }

namespace State

/-! ## Single writes -/

@[simp] theorem exceptDelivered_set (s : State) (f : Rf) (v : Nat) : (s.set f v).exceptDelivered = s.exceptDelivered := rfl
@[simp] theorem exceptDelivered_wr (s : State) (a : Nat) (w : Word) : (s.wr a w).exceptDelivered = s.exceptDelivered := rfl
@[simp] theorem exceptDelivered_setWideVal (s : State) (a : Nat) (v : BitVec 48) :
    (s.setWideVal a v).exceptDelivered = s.exceptDelivered := rfl
@[simp] theorem exceptDelivered_setPilot (s : State) (b : Nat) (p : Pilot) : (s.setPilot b p).exceptDelivered = s.exceptDelivered := rfl
@[simp] theorem exceptDelivered_setPound (s : State) (b : Nat) (l : List Order) :
    (s.setPound b l).exceptDelivered = s.exceptDelivered := rfl
@[simp] theorem exceptDelivered_setLedger (s : State) (b : Nat) (g : Ledger) :
    (s.setLedger b g).exceptDelivered = s.exceptDelivered := rfl
@[simp] theorem exceptDelivered_setCtx (s : State) (i : Nat) (k : Ctx) : (s.setCtx i k).exceptDelivered = s.exceptDelivered := rfl
@[simp] theorem exceptDelivered_setLockLane (s : State) (l : Nat) (k : LockLane) :
    (s.setLockLane l k).exceptDelivered = s.exceptDelivered := rfl
@[simp] theorem exceptDelivered_setPath (s : State) (i : Nat) (k : PathLane) :
    (s.setPath i k).exceptDelivered = s.exceptDelivered := rfl
@[simp] theorem exceptDelivered_setMuted (s : State) (b : Nat) (l : List Muted) :
    (s.setMuted b l).exceptDelivered = s.exceptDelivered := rfl
@[simp] theorem exceptDelivered_setPrefetch (s : State) (i : Nat) (l : List Fetch) :
    (s.setPrefetch i l).exceptDelivered = s.exceptDelivered := rfl
@[simp] theorem exceptDelivered_setDemod (s : State) (i : Nat) (d : Demod) :
    (s.setDemod i d).exceptDelivered = s.exceptDelivered := rfl
@[simp] theorem exceptDelivered_setAcq (s : State) (n : Nat) (a : Acq) : (s.setAcq n a).exceptDelivered = s.exceptDelivered := rfl
@[simp] theorem exceptDelivered_setOwed (s : State) (l : List Owed) : (s.setOwed l).exceptDelivered = s.exceptDelivered := rfl
@[simp] theorem exceptDelivered_pulse (s : State) (i : Nat) : (s.pulse i).exceptDelivered = s.exceptDelivered := rfl
@[simp] theorem exceptDelivered_amendLate (s : State) (o : Owed) (m : Nat) :
    (s.amendLate o m).exceptDelivered = s.exceptDelivered := rfl

@[simp] theorem exceptDelivered_raise (s : State) (src : Nat) (l : List Nat) : (s.raise src l).exceptDelivered = s.exceptDelivered :=
  raise_keeps (P := fun u => u.exceptDelivered = s.exceptDelivered) _ _ (fun _ _ h => h) rfl

@[simp] theorem exceptDelivered_lateDecision (s : State) (b : Nat) (bid : BitVec 8) (m : Nat) :
    (s.lateDecision b bid m).exceptDelivered = s.exceptDelivered :=
  lateDecision_keeps (P := fun u => u.exceptDelivered = s.exceptDelivered) _ _ _ (fun _ _ h => h) (fun _ _ _ h => h) rfl

/-! ## A pilot that goes on, or stops (R92, R99) -/

@[simp] theorem exceptDelivered_endFetches (s : State) (b p : Nat) (x : Tick) :
    (s.endFetches b p x).exceptDelivered = s.exceptDelivered :=
  each_same _ exceptDelivered fun _ _ => rfl

@[simp] theorem exceptDelivered_showTones (s : State) (b p : Nat) (k : PathLane) :
    (s.showTones b p k).exceptDelivered = s.exceptDelivered :=
  showTones_keeps (P := fun u => u.exceptDelivered = s.exceptDelivered) b p k (fun _ _ _ h => h) (fun _ _ _ h => h)
    (fun _ _ _ h => h) rfl

@[simp] theorem exceptDelivered_cutPath (s : State) (b p lane : Nat) (x : Tick) :
    (s.cutPath b p lane x).exceptDelivered = s.exceptDelivered := by
  unfold cutPath
  dsimp only
  split
  · exact exceptDelivered_setPath ..
  · refine (when_same _ exceptDelivered ?_).trans (exceptDelivered_setPath ..)
    rw [exceptDelivered_endFetches, exceptDelivered_showTones]

@[simp] theorem exceptDelivered_cutBerth (s : State) (b : Nat) (x : Tick) : (s.cutBerth b x).exceptDelivered = s.exceptDelivered := by
  unfold cutBerth
  extract_lets pounds lanes fetched cut taken windows
  have hlanes : lanes.exceptDelivered = s.exceptDelivered :=
    (each_same _ exceptDelivered fun u l => u.exceptDelivered_setLockLane l _).trans (exceptDelivered_setPound ..)
  have hfetched : fetched.exceptDelivered = s.exceptDelivered :=
    (each_same _ exceptDelivered fun u t => u.exceptDelivered_setPrefetch (b * 13 + t) _).trans hlanes
  have hcut : cut.exceptDelivered = s.exceptDelivered :=
    (each_same _ exceptDelivered fun u p => each_same _ exceptDelivered fun w i => w.exceptDelivered_cutPath b p i x).trans hfetched
  have htaken : taken.exceptDelivered = s.exceptDelivered :=
    (each_same _ exceptDelivered fun u c => u.exceptDelivered_setCtx (2 * b + c) _).trans hcut
  have hwindows : windows.exceptDelivered = s.exceptDelivered :=
    (each_same _ exceptDelivered fun u i => u.exceptDelivered_setDemod i _).trans htaken
  rw [modMuted_eq, exceptDelivered_setMuted, hwindows]

theorem exceptDelivered_showPound (s : State) (b : Nat) : (s.showPound b).exceptDelivered = s.exceptDelivered := by
  obtain ⟨v, w, h⟩ := s.showPound_eq b
  rw [h, exceptDelivered_set, exceptDelivered_set]

@[simp] theorem exceptDelivered_stopPilot (s : State) (b cz : Nat) : (s.stopPilot b cz).exceptDelivered = s.exceptDelivered := by
  unfold stopPilot
  dsimp only
  rw [exceptDelivered_showPound, exceptDelivered_set, setBit_eq, exceptDelivered_set, setBit_eq, exceptDelivered_set, modLedger_eq,
    exceptDelivered_setLedger, exceptDelivered_cutBerth, exceptDelivered_setPilot]

@[simp] theorem exceptDelivered_advance (s : State) (b : Nat) (p : Pilot) (n : Nat) :
    (s.advance b p n).exceptDelivered = s.exceptDelivered := by
  unfold advance
  split
  · exact exceptDelivered_setPilot ..
  · rw [pilotAbort, exceptDelivered_stopPilot, pilotFault, exceptDelivered_raise, exceptDelivered_setPilot]

@[simp] theorem exceptDelivered_resolveWaitd (s : State) (b : Nat) (st : BitVec 2) (valid late d : Bool) (slack : Nat) :
    (s.resolveWaitd b st valid late d slack).exceptDelivered = s.exceptDelivered := by
  unfold resolveWaitd pilotResume
  dsimp only
  rw [exceptDelivered_advance, exceptDelivered_set]

/-! ## WAITD and contexts (R51, R54, R73) -/

@[simp] theorem exceptDelivered_waitdDefault (s : State) (b : Nat) : (s.waitdDefault b).exceptDelivered = s.exceptDelivered := by
  have hlate : ∀ (m : Nat) (l : List Owed) st d, (((s.lateDecision b 0xFF m).setOwed (s.owed ++ l)).resolveWaitd b st false true d
      0).exceptDelivered = s.exceptDelivered := fun m l st d => by
    rw [exceptDelivered_resolveWaitd, exceptDelivered_setOwed, exceptDelivered_lateDecision]
  unfold waitdDefault
  dsimp only
  split
  · exact hlate _ _ _ _
  · rfl

@[simp] theorem exceptDelivered_waitdDecision (s : State) (d : Decision) (b : Nat) :
    (s.waitdDecision d b).exceptDelivered = s.exceptDelivered := by
  unfold waitdDecision
  dsimp only
  split
  · split
    · rfl
    · split
      · exact exceptDelivered_waitdDefault ..
      · split
        · exact exceptDelivered_resolveWaitd ..
        · exact exceptDelivered_setPilot ..
  · rfl

end State

/-- The resolution of a branch writes nothing else. -/
theorem branchKeep_delivered (r : State) : BranchKeep (fun u => u.exceptDelivered = r) where
  busy0 _ _ _ h := h
  busy1 _ _ _ h := h
  lock _ _ _ h := h
  path _ _ _ h := h
  muted _ _ _ h := h
  fetch _ _ _ h := h
  set _ _ _ _ h := h
  brLate _ _ h := h
  ctx _ _ _ _ _ h := h
  demod _ _ _ h := h
  pilot _ _ _ h := h
  ledger _ _ _ h := h
  raise _ _ h := h

namespace State

@[simp] theorem exceptDelivered_resolveCtx (s : State) (b fuel c : Nat) (lane late : Bool) :
    (s.resolveCtx b fuel c lane late).exceptDelivered = s.exceptDelivered :=
  (branchKeep_delivered s.exceptDelivered).resolveCtx (fun _ _ _ h => h) fuel c lane late rfl

@[simp] theorem exceptDelivered_defaultCtx (s : State) (b c : Nat) : (s.defaultCtx b c).exceptDelivered = s.exceptDelivered := by
  have hlate : ∀ (bid : BitVec 8) (m : Nat) (l : List Owed) lane,
      (((s.lateDecision b bid m).setOwed (s.owed ++ l)).resolveCtx b 2 c lane true).exceptDelivered = s.exceptDelivered :=
    fun bid m l lane => by rw [exceptDelivered_resolveCtx, exceptDelivered_setOwed, exceptDelivered_lateDecision]
  unfold defaultCtx
  dsimp only
  split
  · rfl
  · exact hlate _ _ _ _

@[simp] theorem exceptDelivered_ctxDecision (s : State) (d : Decision) (b c : Nat) :
    (s.ctxDecision d b c).exceptDelivered = s.exceptDelivered := by
  unfold ctxDecision
  extract_lets k u k' kept v
  have hu : u.exceptDelivered = s.exceptDelivered := when_same _ exceptDelivered (exceptDelivered_defaultCtx ..)
  have hv : v.exceptDelivered = s.exceptDelivered := hu
  clear_value u v
  split
  · rfl
  · split
    · split
      · exact each_same _ exceptDelivered fun _ _ => rfl
      · rfl
    · split
      · rfl
      · split
        · exact hu
        · split
          · rw [exceptDelivered_resolveCtx, hv]
          · exact hv

/-! ## Defaults owed, triggers, events and windows (R54, R192, R225) -/

@[simp] theorem exceptDelivered_payOwed (s : State) (d : Decision) : (s.payOwed d).exceptDelivered = s.exceptDelivered := by
  unfold payOwed
  extract_lets u mine v
  have hv : v.exceptDelivered = s.exceptDelivered :=
    (each_same _ exceptDelivered fun w o => w.exceptDelivered_amendLate o _).trans (s.exceptDelivered_setOwed _)
  exact hv

@[simp] theorem exceptDelivered_adoptFire (s : State) (n : Nat) (f : Tick) : (s.adoptFire n f).exceptDelivered = s.exceptDelivered := by
  unfold adoptFire capture
  dsimp only
  rw [exceptDelivered_wr, exceptDelivered_setWideVal, exceptDelivered_set, modAcq_eq, exceptDelivered_setAcq]

@[simp] theorem exceptDelivered_trgEnter (s : State) (n i : Nat) (t : Tick) : (s.trgEnter n i t).exceptDelivered = s.exceptDelivered := by
  rw [trgEnter, exceptDelivered_set, modAcq_eq, exceptDelivered_setAcq]

@[simp] theorem exceptDelivered_trgComplete (s : State) (n : Nat) (t : Tick) :
    (s.trgComplete n t).exceptDelivered = s.exceptDelivered := by
  unfold trgComplete detect
  dsimp only
  split
  · exact (exceptDelivered_adoptFire ..).trans (when_same _ exceptDelivered rfl)
  · exact exceptDelivered_trgEnter ..

@[simp] theorem exceptDelivered_trgOccur (s : State) (n src : Nat) (t : Tick) :
    (s.trgOccur n src t).exceptDelivered = s.exceptDelivered := by
  unfold trgOccur
  extract_lets a u
  have hu : u.exceptDelivered = s.exceptDelivered := s.exceptDelivered_setAcq n _
  clear_value u
  have hcounted : ∀ (stay : Bool) (i : Nat), (if stay then s else if i ≤ a.count + 1 then u.trgComplete n t else u).exceptDelivered =
      s.exceptDelivered := by
    intro stay i
    split
    · rfl
    · split
      · rw [exceptDelivered_trgComplete, hu]
      · exact hu
  exact hcounted _ _

@[simp] theorem exceptDelivered_trgDecision (s : State) (n : Nat) (d : Decision) :
    (s.trgDecision n d).exceptDelivered = s.exceptDelivered :=
  when_same _ exceptDelivered (exceptDelivered_trgOccur ..)

/-- A decision delivered. -/
@[simp] theorem exceptDelivered_deliver (s : State) (d : Decision) : (s.deliver d).exceptDelivered = s.exceptDelivered := by
  unfold deliver
  extract_lets paid taken repaid triggered n k
  have htaken : taken.exceptDelivered = s.exceptDelivered :=
    (each_same _ exceptDelivered fun u b => by simp only [exceptDelivered_waitdDecision, exceptDelivered_ctxDecision]).trans
      (exceptDelivered_payOwed ..)
  have hrepaid : repaid.exceptDelivered = s.exceptDelivered := (exceptDelivered_payOwed ..).trans htaken
  have htriggered : triggered.exceptDelivered = s.exceptDelivered :=
    (each_same _ exceptDelivered fun u n => u.exceptDelivered_trgDecision n d).trans hrepaid
  clear_value triggered
  exact (when_same _ exceptDelivered (exceptDelivered_pulse ..)).trans htriggered

@[simp] theorem exceptDelivered_acqDecision (s : State) (d : Decision) : (s.acqDecision d).exceptDelivered = s.exceptDelivered := by
  unfold acqDecision
  split
  · rfl
  · exact (when_same _ exceptDelivered (exceptDelivered_setAcq ..)).trans rfl

/-! ## DECISION_DELIVERY (R48) -/

/-- The decisions that are not due. -/
def undue (s : State) : State := { s with xbarServed := s.xbarServed.filter (fun (x : XbarItem) => !Tick.le x.deliver s.tick) }

/-- Every decision due reaches its consumers, and then the units take windows. -/
theorem exec_decisionDelivery (s : State) : ∃ t, exec .decisionDelivery s = .next t ∧ t.exceptDelivered = s.undue.exceptDelivered := by
  refine ⟨_, rfl, ?_⟩
  refine (each_same _ exceptDelivered fun u d => u.exceptDelivered_acqDecision d).trans ?_
  exact each_same _ exceptDelivered fun u x => u.exceptDelivered_deliver x.dec

/-- What is left alone by every consumer of a decision. -/
theorem undue_frame {s t : State} (h : t.exceptDelivered = s.undue.exceptDelivered) :
    t.xbarServed = s.xbarServed.filter (fun y => !Tick.le y.deliver s.tick) ∧ t.tick = s.tick ∧ t.pending = s.pending ∧
    t.outs = s.outs ∧ t.pm = s.pm ∧ t.sdram = s.sdram ∧ t.segs = s.segs ∧ t.convs = s.convs ∧ t.kerns = s.kerns ∧
    t.xbarQueue = s.xbarQueue ∧ t.xbarWait = s.xbarWait ∧ t.decMade = s.decMade :=
  ⟨(congrArg State.xbarServed h :), (congrArg State.tick h :), (congrArg State.pending h :), (congrArg State.outs h :),
    (congrArg State.pm h :), (congrArg State.sdram h :), (congrArg State.segs h :), (congrArg State.convs h :),
    (congrArg State.kerns h :), (congrArg State.xbarQueue h :), (congrArg State.xbarWait h :), (congrArg State.decMade h :)⟩

end State

/-- Settles O31: entry stage, entry, spacing, service and delivery each by its law above. -/
theorem decisionsThroughTheCrossbar : Obligations.DecisionsThroughTheCrossbar := by
  unfold Obligations.DecisionsThroughTheCrossbar
  intro s src d nominal rest x xs n k here
  refine ⟨exec_decisionReady_none, fun hmade hsrc hbefore =>
      ⟨_, exec_decisionReady hmade hsrc hbefore, s.decisionStaged_spec nominal rest hsrc⟩,
    fun hwait hsrc htime => ?_, fun hwait hsrc htime => ?_, fun e => State.le_entryTick,
    ⟨_, exec_xbarServe s, s.length_servedNow_xbarServe, State.xbarServe_lone,
      State.eq_of_exceptServe_eq s.xbarServe_frame.2.2⟩, ?_⟩
  · have hspec := s.xbarEnter_spec x xs
    rw [hsrc] at hspec
    exact ⟨_, (exec_xbarEntry hwait hsrc).trans (congrArg _ (if_pos htime)), hspec⟩
  · rw [exec_xbarEntry hwait hsrc, htime]
    rfl
  · obtain ⟨t, hexec, h⟩ := s.exec_decisionDelivery
    exact ⟨t, hexec, State.undue_frame h⟩

end Sys2Proof.Machine
end

section
/-! PROOF. What a pilot's instruction does when it executes, and its computations (R63, R66, R68, R79). -/

namespace Sys2Proof.Machine

section
variable {s : State} {b : Fin 64} {n : Nat} {c : Instr}

/-! ## Executing an instruction -/

/-- A pilot command whose instruction executes has the body's effect. -/
theorem exec_of_executes {i : PInstr} {body : PInstr → Option (Pilot → Nat → State → State)}
    {f : Pilot → Nat → State → State} {t : State} (hexec : exec c s = .next (s.pilotDo b body)) (h : s.executes b i n)
    (hbody : body i = some f) (hf : f (s.pilot b) n s = t) : exec c s = .next t := by
  rw [hexec, State.pilotDo_executes h, hbody, ← hf]

/-! ## Computations (R63, R68) -/

/-- A three-operand computation that executes: Vd and the flags, and on. -/
theorem exec_alu {op : AluOp} {d a : BitVec 4} {r : Opnd} (hexec : exec c s = .next (s.pilotAlu b op))
    (h : s.executes b (.alu op d a r) n) :
    let p := s.pilot b
    let res := op.eval (p.v a) (p.val r)
    exec c s = .next (s.advance b (p.computed d res.val res.c) n) :=
  exec_of_executes hexec h (if_pos rfl) rfl

end

/-- The low word of the signed product (R68). -/
theorem aluMul_eq (x y : Word) : aluMul x y = ⟨BitVec.ofInt 32 (x.toInt * y.toInt), false⟩ := by
  rw [aluMul, BitVec.ofInt_mul, BitVec.ofInt_toInt, BitVec.ofInt_toInt]

/-- The nearest value of the 18-bit range (R9). -/
theorem satInt18 (q : Int) : satInt 18 q = max (-131072) (min 131071 q) := rfl

/-- An 18-bit value saturated, written sign-extended (R9). -/
theorem signExtend_satInt18 (q : Int) :
    (BitVec.ofInt 18 (satInt 18 q)).signExtend 32 = BitVec.ofInt 32 (max (-131072) (min 131071 q)) := by
  rw [satInt18, BitVec.signExtend, BitVec.toInt_ofInt, Int.bmod_eq_of_le (by omega) (by omega)]

/-- Narrowing to 18 bits saturates exactly out of range (R9). -/
theorem satFlag18 (q : Int) : satFlag 18 q = (decide (q < -131072) || decide (131071 < q)) := by
  rw [satFlag, satInt18, ← Bool.decide_or]
  exact decide_eq_decide.mpr (by omega)

/-- MULQ: the Q1.17 product of bits [17:0] (R68). -/
theorem aluMulq_eq (x y : Word) :
    let q := roundShift ((x.setWidth 18).toInt * (y.setWidth 18).toInt) 17
    aluMulq x y = ⟨BitVec.ofInt 32 (max (-131072) (min 131071 q)), decide (q < -131072) || decide (131071 < q)⟩ := by
  rw [aluMulq, mulQ17]
  dsimp only
  rw [signExtend_satInt18, satFlag18]

/-- Settles O3: each command runs the body of its instruction; MUL and MULQ by their closed forms. -/
theorem pilotComputations : Obligations.PilotComputations := by
  unfold Obligations.PilotComputations
  intro s b d a r w n p x y k q put
  refine ⟨fun h => exec_of_executes rfl h rfl rfl, fun h => exec_of_executes rfl h rfl rfl, exec_alu rfl, exec_alu rfl, exec_alu rfl,
    exec_alu rfl, exec_alu rfl, exec_alu rfl, exec_alu rfl, exec_alu rfl, fun h => ?_, fun h => ?_,
    fun h => exec_of_executes rfl h rfl rfl, fun h => exec_of_executes rfl h rfl rfl⟩
  · have hmul := exec_alu (c := .mul b) rfl h
    simp only [AluOp.eval, aluMul_eq] at hmul
    exact hmul
  · have hmulq := exec_alu (c := .mulq b) rfl h
    simp only [AluOp.eval, aluMulq_eq] at hmulq
    exact hmulq

end Sys2Proof.Machine
end

section
/-! PROOF. What a stop of the pilot writes (R92), and how a pilot goes on past an instruction (R71, R98, R99). -/

namespace Sys2Proof.Machine

/-! ## What a stop takes away (R92) -/

/-- The state without what a cut at a tick takes away beside the orders of the pound: entries, contexts, orders and plays of paths,
prefetchers, muted ticks, the orders of demodulators, and the registers of tones. -/
def State.exceptCut (s : State) : State :=
  { s with locks := [], ctxs := [], paths := [], fetches := [], muteds := [], demods := [], regs := [], wide := [] }

@[simp] theorem State.exceptCut_set (s : State) (f : Rf) (v : Nat) : (s.set f v).exceptCut = s.exceptCut := rfl
@[simp] theorem State.exceptCut_setBit (s : State) (f : Rf) (v : Bool) : (s.setBit f v).exceptCut = s.exceptCut := rfl
@[simp] theorem State.exceptCut_setPath (s : State) (i : Nat) (k : PathLane) : (s.setPath i k).exceptCut = s.exceptCut := rfl
@[simp] theorem State.exceptCut_setLockLane (s : State) (l : Nat) (k : LockLane) : (s.setLockLane l k).exceptCut = s.exceptCut := rfl
@[simp] theorem State.exceptCut_setPrefetch (s : State) (i : Nat) (l : List Fetch) : (s.setPrefetch i l).exceptCut = s.exceptCut := rfl
@[simp] theorem State.exceptCut_setCtx (s : State) (i : Nat) (k : Ctx) : (s.setCtx i k).exceptCut = s.exceptCut := rfl
@[simp] theorem State.exceptCut_setDemod (s : State) (i : Nat) (d : Demod) : (s.setDemod i d).exceptCut = s.exceptCut := rfl
@[simp] theorem State.exceptCut_setMuted (s : State) (b : Nat) (l : List Muted) : (s.setMuted b l).exceptCut = s.exceptCut := rfl

@[simp] theorem State.exceptCut_showTones (s : State) (b p : Nat) (k : PathLane) : (s.showTones b p k).exceptCut = s.exceptCut :=
  State.showTones_keeps (P := fun u => u.exceptCut = s.exceptCut) b p k (fun _ _ _ h => h) (fun _ _ _ h => h)
    (fun _ _ _ h => h) rfl

@[simp] theorem State.exceptCut_endFetches (s : State) (b p : Nat) (x : Tick) : (s.endFetches b p x).exceptCut = s.exceptCut :=
  State.each_same _ State.exceptCut fun _ _ => rfl

@[simp] theorem State.exceptCut_showPound (s : State) (b : Nat) : (s.showPound b).exceptCut = s.exceptCut := by
  obtain ⟨v, w, h⟩ := s.showPound_eq b
  rw [h, State.exceptCut_set, State.exceptCut_set]

@[simp] theorem State.exceptCut_cutPath (s : State) (b p lane : Nat) (x : Tick) : (s.cutPath b p lane x).exceptCut = s.exceptCut := by
  unfold State.cutPath
  dsimp only
  split
  · exact State.exceptCut_setPath ..
  · refine (State.when_same _ State.exceptCut ?_).trans (State.exceptCut_setPath ..)
    rw [State.exceptCut_endFetches, State.exceptCut_showTones]

/-- Beside what `exceptCut` names, a cut discards the orders of the pound from its tick on. -/
theorem State.exceptCut_cutBerth (s : State) (b : Nat) (x : Tick) :
    (s.cutBerth b x).exceptCut = (s.modPound b (·.filter (fun o => Tick.before o.tick x))).exceptCut := by
  unfold State.cutBerth
  extract_lets pounds lanes fetched cut taken windows
  have hlanes : lanes.exceptCut = pounds.exceptCut := State.each_same _ State.exceptCut fun u l => u.exceptCut_setLockLane l _
  have hfetched : fetched.exceptCut = lanes.exceptCut :=
    State.each_same _ State.exceptCut fun u t => u.exceptCut_setPrefetch (b * 13 + t) _
  have hcut : cut.exceptCut = fetched.exceptCut :=
    State.each_same _ State.exceptCut fun u p => State.each_same _ State.exceptCut fun w i => w.exceptCut_cutPath b p i x
  have htaken : taken.exceptCut = cut.exceptCut := State.each_same _ State.exceptCut fun u c => u.exceptCut_setCtx (2 * b + c) _
  have hwindows : windows.exceptCut = taken.exceptCut := State.each_same _ State.exceptCut fun u i => u.exceptCut_setDemod i _
  rw [State.modMuted_eq, State.exceptCut_setMuted, hwindows, htaken, hcut, hfetched, hlanes]

/-- A pilot whose batch a stop has ended. -/
def Pilot.cancelled (p : Pilot) : Pilot := { p.ended with latch := none, lastCtx := none, start := none }

/-- The state in which a stop of the pilot of berth `b` at tick `x` is noted, before anything else is discarded. -/
def State.stopNoted (s : State) (b cz : Nat) (x : Tick) : State :=
  ((s.setPilot b (s.pilot b).cancelled).modPound b (·.filter (fun o => Tick.before o.tick x))).modLedger b
    (fun g => { g with stopAt := some (x, cz) })

/-- A note in a ledger is outside what `exceptCut` names. -/
theorem State.exceptCut_modLedger (s : State) (b : Nat) (f : Ledger → Ledger) :
    (s.modLedger b f).exceptCut = s.exceptCut.modLedger b f := rfl

/-- Beside what `exceptCut` names, a stop writes pilot, pound and ledger of the berth. -/
theorem State.exceptCut_stopPilot (s : State) (b cz : Nat) :
    (s.stopPilot b cz).exceptCut = (s.stopNoted b cz (Tick.min (s.pilot b).tc (s.tick + 48))).exceptCut := by
  unfold State.stopPilot State.stopNoted
  dsimp only
  rw [State.exceptCut_showPound, State.exceptCut_set, State.exceptCut_setBit, State.exceptCut_setBit, State.exceptCut_modLedger,
    State.exceptCut_cutBerth, State.exceptCut_modLedger]
  rfl

theorem State.raised_of_exceptCut_eq {s t : State} (h : t.exceptCut = s.exceptCut) : t.raised = s.raised :=
  (congrArg State.raised h :)

/-- A stop raises nothing. -/
theorem State.raised_stopPilot (s : State) (b cz : Nat) : (s.stopPilot b cz).raised = s.raised := by
  have hnoted (x : Tick) : (s.stopNoted b cz x).raised = s.raised := rfl
  rw [State.raised_of_exceptCut_eq (s.exceptCut_stopPilot b cz), hnoted]

/-- The signs of a pound are in PND_STAT alone. -/
theorem State.get_showPound_ne (s : State) (b : Nat) {f : Rf} (h : f.addr ≠ R.PND_STAT b) : (s.showPound b).get f = s.get f := by
  obtain ⟨v, w, hs⟩ := s.showPound_eq b
  rw [hs, State.get_set_ne _ _ _ _ h, State.get_set_ne _ _ _ _ h]

theorem State.get_state_stopPilot (s : State) (b cz : Nat) : (s.stopPilot b cz).get (PLT_STAT.STATE b) = plt.stopped := by
  have hne : R.PLT_STAT b ≠ R.PND_STAT b := by simp only [R.PLT_STAT, R.PND_STAT]; omega
  unfold State.stopPilot
  dsimp only
  rw [State.get_showPound_ne _ _ hne, State.get_set_of_lt _ (by decide : 0 + 4 ≤ 32) (by decide : 8 < 2 ^ 4)]

/-! ## Past an instruction (R71, R98, R99) -/

section
variable {s : State} {b n : Nat} {p : Pilot} {l : RepLevel} {t : List RepLevel}

/-- No repeat block ends at the instruction. -/
theorem Pilot.past_of_no_end (h : ∀ l t, p.reps = l :: t → l.last ≠ p.pc) :
    p.past p.pc n = if p.pc.toNat + n < 16384 then some { p with pc := p.pc + BitVec.ofNat 14 n } else none := by
  rw [Pilot.past, repEnd_other h]

theorem State.advance_of_no_end (h : ∀ l t, p.reps = l :: t → l.last ≠ p.pc) (hpc : p.pc.toNat + n < 16384) :
    s.advance b p n = s.setPilot b { p with pc := p.pc + BitVec.ofNat 14 n } := by
  rw [State.advance, Pilot.past_of_no_end h, if_pos hpc]

/-- A block with passes left begins again. -/
theorem State.advance_loop (hreps : p.reps = l :: t) (hlast : l.last = p.pc) (hleft : 1 < l.left.toNat) :
    s.advance b p n = s.setPilot b { p with pc := l.first, reps := { l with left := l.left - 1 } :: t } := by
  rw [State.advance, Pilot.past, hreps, repEnd, if_pos hlast, if_pos hleft]

/-- A block on its last pass is popped, and the one around it is asked. -/
theorem State.advance_pop (hreps : p.reps = l :: t) (hlast : l.last = p.pc) (hleft : l.left.toNat ≤ 1)
    (hpc : p.pc.toNat + n < 16384) : s.advance b p n = s.advance b { p with reps := t } n := by
  have hpop : repEnd p.reps p.pc = repEnd t p.pc := by rw [hreps, repEnd, if_pos hlast, if_neg (Nat.not_lt.mpr hleft)]
  unfold State.advance Pilot.past
  rw [hpop]
  obtain ⟨r, _ | f⟩ := repEnd t p.pc
  · simp only [if_pos hpc]
  · rfl

/-- Past the end of program memory the pilot stops with PLT_ILLEGAL. -/
theorem State.advance_beyond (h : ∀ l t, p.reps = l :: t → l.last ≠ p.pc) (hpc : 16384 ≤ p.pc.toNat + n) :
    s.advance b p n = (s.setPilot b p).pilotAbort b Src.PLT_ILLEGAL := by
  rw [State.advance, Pilot.past_of_no_end h, if_neg (Nat.not_lt.mpr hpc)]

end

/-- A fault that no standby twin mutes joins the faults raised. -/
theorem State.raised_raise {s : State} {src : Nat} (slots : List Nat) (h : s.standbyMute src = false) :
    (s.raise src slots).raised = s.raised ++ [{ src := src, tick := s.tick, slots := slots, injected := false }] := by
  rw [State.raise, h]
  rfl

/-- What PC running past the end of program memory leaves behind (R99). -/
theorem State.pilotAbort_illegal_spec (s : State) (b : Nat) (p : Pilot) :
    ((s.setPilot b p).pilotAbort b Src.PLT_ILLEGAL).get (PLT_STAT.STATE b) = plt.stopped ∧
    (s.standbyMute Src.PLT_ILLEGAL = false → ((s.setPilot b p).pilotAbort b Src.PLT_ILLEGAL).raised =
      s.raised ++ [{ src := Src.PLT_ILLEGAL, tick := s.tick, slots := slot b ++ slot p.pc.toNat, injected := false }]) := by
  refine ⟨State.get_state_stopPilot .., fun hmute => ?_⟩
  rw [State.pilotAbort, State.raised_stopPilot, State.pilotFault, State.pilot_setPilot, if_pos rfl]
  exact State.raised_raise (s := s.setPilot b p) _ hmute

/-! ## Reads and parameters (R68, R342) -/

/-- Outside lockstep an instruction computes its own result. -/
theorem State.logged_own {s : State} {b : Nat} (h : s.lockstep b = false) (kind : Nat) (use : BitVec 48 → State → State)
    (own : State → State) : s.logged b kind use own = own s := by
  rw [State.logged, h]
  rfl

section
variable {s : State} {b : Fin 64} {d a : BitVec 4} {o : Word} {n : Nat}

theorem exec_gettk (h : s.executes b (.gettk d) n) (hown : s.lockstep b = false) :
    exec (.gettk b) s = .next (s.advance b ((s.pilot b).setTick d s.tick) n) :=
  exec_of_executes rfl h rfl (State.logged_own hown ..)

/-- LDP outside lockstep: the word, or 0 with PLT_PARAM. -/
theorem exec_ldp (h : s.executes b (.ldp d a o) n) (hown : s.lockstep b = false) :
    let p := s.pilot b
    let k := (p.v a + o).toNat
    exec (.ldp b) s = .next ((s.when (1024 ≤ k) (·.pilotFault b Src.PLT_PARAM)).advance b
      (p.computed d (if k < 1024 then s.rd (R.PARAM b k) else 0) p.c) n) :=
  exec_of_executes rfl h rfl (State.logged_own hown ..)

theorem exec_stp (h : s.executes b (.stp d a o) n) :
    let p := s.pilot b
    let k := (p.v a + o).toNat
    exec (.stp b) s =
      .next ((if k < 1024 then s.wr (R.PARAM b k) (p.v d) else s.pilotFault b Src.PLT_PARAM).advance b p n) :=
  exec_of_executes rfl h rfl rfl

end

/-- Settles O4: past an instruction by what ends there; each read by its body, parameters within range or with PLT_PARAM. -/
theorem pilotReadsAndGoesOn : Obligations.PilotReadsAndGoesOn := by
  unfold Obligations.PilotReadsAndGoesOn
  refine ⟨fun s b p n => ⟨State.advance_of_no_end, fun l t => State.advance_loop, fun l t => State.advance_pop, fun h hpc =>
    ⟨_, State.advance_beyond h hpc, s.pilotAbort_illegal_spec b p⟩⟩, ?_⟩
  intro s b d a o n p k put pair fault
  refine ⟨fun h => exec_of_executes rfl h rfl rfl, exec_gettk, fun h => exec_of_executes rfl h rfl rfl,
    fun h => exec_of_executes rfl h rfl rfl, fun h => exec_of_executes rfl h rfl rfl,
    fun h hown => ⟨fun hk => ?_, fun hk => ?_⟩, fun h => ⟨fun hk => ?_, fun hk => ?_⟩⟩
  · rw [exec_ldp h hown, if_pos hk, decide_eq_false (Nat.not_le.mpr hk)]
    rfl
  · rw [exec_ldp h hown, if_neg (Nat.not_lt.mpr hk), decide_eq_true hk]
    rfl
  · rw [exec_stp h, if_pos hk]
  · rw [exec_stp h, if_neg (Nat.not_lt.mpr hk)]
    rfl

end Sys2Proof.Machine
end

section
/-! PROOF. Jumps, calls, returns and repeats (R69 to R71), and the instructions that act on time (R64 to R66, R72, R73). -/

namespace Sys2Proof.Machine

section
variable {s : State} {b : Fin 64} {n : Nat}

/-! ## Control flow (R69 to R71) -/

/-- The condition of a Jcc by its number (R69). -/
theorem Pilot.cond_eq (p : Pilot) (c : BitVec 3) :
    p.cond c = [p.z, !p.z, p.n, !p.n, p.c, !p.c, p.d, !p.d].getD c.toNat false := by
  have hlt : c.toNat < 8 := c.isLt
  unfold Pilot.cond
  generalize c.toNat = i at hlt ⊢
  interval_cases i <;> rfl

theorem exec_jcc {c : BitVec 3} {t : BitVec 14} (h : s.executes b (.jcc c t) n) :
    let p := s.pilot b
    exec (.jcc b) s = .next (if p.cond c then s.setPilot b (p.jumpTo t) else s.advance b p n) :=
  exec_of_executes rfl h rfl rfl

theorem exec_call {t : BitVec 14} (h : s.executes b (.call t) n) :
    let p := s.pilot b
    exec (.call b) s = .next (if 8 ≤ p.calls.length then s.pilotAbort b Src.PLT_STACK
      else s.setPilot b { p with pc := t, calls := (p.pc + BitVec.ofNat 14 n, p.reps.length) :: p.calls }) :=
  exec_of_executes rfl h rfl rfl

theorem exec_ret {r : BitVec 14} {k : Nat} {u : List (BitVec 14 × Nat)} (h : s.executes b .ret n)
    (hcalls : (s.pilot b).calls = (r, k) :: u) :
    let p := s.pilot b
    exec (.ret b) s = .next (s.setPilot b { p with pc := r, calls := u, reps := p.reps.drop (p.reps.length - k) }) :=
  exec_of_executes rfl h rfl (by simp only [hcalls])

theorem exec_ret_empty (h : s.executes b .ret n) (hcalls : (s.pilot b).calls = []) :
    exec (.ret b) s = .next (s.pilotAbort b Src.PLT_STACK) :=
  exec_of_executes rfl h rfl (by simp only [hcalls])

/-- A REP that ends at or before itself is illegal (R99). -/
theorem exec_rep_illegal {o : Opnd} {t : BitVec 14} (h : s.executes b (.rep o t) n) (hform : t.toNat ≤ (s.pilot b).pc.toNat) :
    exec (.rep b) s = .next (s.pilotAbort b Src.PLT_ILLEGAL) := by
  have hult : (s.pilot b).pc.ult t = false := decide_eq_false (Nat.not_lt.mpr hform)
  exact exec_of_executes rfl h rfl (by simp only [hult, Bool.not_false, if_true])

/-- A count of 0 skips the block (R71). -/
theorem exec_rep_skip {o : Opnd} {t : BitVec 14} {q : Pilot} (h : s.executes b (.rep o t) n)
    (hform : (s.pilot b).pc.toNat < t.toNat) (hcount : (s.pilot b).val o = 0)
    (hpast : (s.pilot b).past t (s.plen b t) = some q) : exec (.rep b) s = .next (s.setPilot b q) := by
  have hult : (s.pilot b).pc.ult t = true := decide_eq_true hform
  exact exec_of_executes rfl h rfl (by simp only [hult, Bool.not_true, Bool.false_eq_true, if_false, hcount, if_true, hpast])

/-- Any other count enters the block, of which four may nest (R71, R97). -/
theorem exec_rep_enter {o : Opnd} {t : BitVec 14} (h : s.executes b (.rep o t) n)
    (hform : (s.pilot b).pc.toNat < t.toNat) (hcount : (s.pilot b).val o ≠ 0) :
    let p := s.pilot b
    let next := p.pc + BitVec.ofNat 14 n
    exec (.rep b) s = .next (if 4 ≤ p.reps.length then s.pilotAbort b Src.PLT_STACK
      else s.setPilot b { p with pc := next, reps := { first := next, last := t, left := p.val o } :: p.reps }) := by
  have hult : (s.pilot b).pc.ult t = true := decide_eq_true hform
  exact exec_of_executes rfl h rfl (by simp only [hult, Bool.not_true, Bool.false_eq_true, if_false, hcount])

/-! ## Time (R64 to R66, R72, R73) -/

/-- A new TC that does not lie before TC is taken. -/
theorem State.setTc_forward {p : Pilot} {t : Tick} (s : State) (b : Nat) (h : Tick.before t p.tc = false) :
    s.setTc b p t = (s, { p with tc := t }) := by
  rw [State.setTc, h]
  rfl

/-- A new TC that lies before TC is not, and TC_BACKWARD tells. -/
theorem State.setTc_backward {p : Pilot} {t : Tick} (s : State) (b : Nat) (h : Tick.before t p.tc = true) :
    s.setTc b p t = (s.pilotFault b Src.TC_BACKWARD, p) := if_pos h

theorem exec_wait {w : WideOpnd} (h : s.executes b (.wait w) n) :
    let r := s.setTc b (s.pilot b) ((s.pilot b).tc + (s.pilot b).wide w)
    exec (.wait b) s = .next (r.1.advance b r.2 n) :=
  exec_of_executes rfl h rfl rfl

theorem exec_atTick {w : WideOpnd} (h : s.executes b (.atOrigin w) n) :
    let r := s.setTc b (s.pilot b) ((s.pilot b).origin + (s.pilot b).wide w)
    exec (.atTick b) s = .next (r.1.advance b r.2 n) :=
  exec_of_executes rfl h rfl rfl

theorem exec_tsync {w : WideOpnd} (h : s.executes b (.tsync w) n) (hown : s.lockstep b = false) :
    let p := s.pilot b
    exec (.tsync b) s = .next (s.advance b { p with tc := Tick.max p.tc (s.tick + p.wide w) } n) :=
  exec_of_executes rfl h rfl (State.logged_own hown ..)

theorem exec_waite {ch : BitVec 8} {lead : BitVec 16} (h : s.executes b (.waite ch lead) n) (hown : s.lockstep b = false) :
    exec (.waite b) s = .next ((s.openCursor b { s.pilot b with wait := .event ch lead, lastCh := some ch }).set
      (PLT_STAT.STATE b) plt.waitEvent) :=
  exec_of_executes rfl h rfl (State.logged_own hown ..)

theorem exec_waitd {o : DecOpnd} {src : BitVec 8} {dev : BitVec 12} {rem : Bool} (h : s.executes b (.waitd o) n)
    (hown : s.lockstep b = false) (hsrc : s.decSource b o = some (src, dev, rem)) :
    let p := s.pilot b
    exec (.waitd b) s = .next ((s.openCursor b
      { p with wait := .decision src dev rem (p.tc - o.de.setWidth 48) o.mask o.dflt none }).set
        (PLT_STAT.STATE b) plt.waitDecision) :=
  exec_of_executes rfl h rfl (by simp only [hsrc, State.logged_own hown])

/-- Beyond the run-ahead limit the pilot stalls before its instruction (R66). -/
theorem State.pilotDo_ahead {i : PInstr} {body : PInstr → Option (Pilot → Nat → State → State)}
    {f : Pilot → Nat → State → State} {b : Nat} (hready : s.pltReady b (s.pilot b) = true)
    (hahead : s.aheadLimit b (s.pilot b) = true) (hi : s.pinstr b (s.pilot b).pc = some (i, n)) (hbody : body i = some f) :
    s.pilotDo b body = s.set (PLT_STAT.STATE b) plt.runAhead := by
  unfold State.pilotDo
  simp only [hready, hi, hbody, hahead, Bool.not_true, Bool.false_eq_true, if_false, if_true]

theorem exec_nop_ahead (hready : s.pltReady b (s.pilot b) = true) (hahead : s.aheadLimit b (s.pilot b) = true)
    (hi : s.pinstr b (s.pilot b).pc = some (.nop, n)) :
    exec (.nop b) s = .next (s.set (PLT_STAT.STATE b) plt.runAhead) :=
  congrArg Host.Outcome.next (State.pilotDo_ahead hready hahead hi rfl)

theorem exec_runAheadResume (hstate : s.get (PLT_STAT.STATE b) = plt.runAhead) (hwithin : s.aheadLimit b (s.pilot b) = false) :
    exec (.runAheadResume b) s = .next (s.set (PLT_STAT.STATE b) plt.run) := by
  have hexec : exec (.runAheadResume b) s = execRunAheadResume b s := rfl
  rw [hexec, execRunAheadResume, hstate, hwithin]
  rfl

end

/-- Settles O5: control flow and time, each command by its law above. -/
theorem pilotControlAndTime : Obligations.PilotControlAndTime := by
  unfold Obligations.PilotControlAndTime
  refine ⟨fun s b t c o n => ?_, fun s b w ch lead o n => ?_⟩
  · intro p put jump holds next
    refine ⟨fun h => exec_of_executes rfl h rfl rfl, fun h => ⟨fun hc => ?_, fun hc => ?_⟩,
      fun h => ⟨fun hroom => ?_, fun hfull => ?_⟩, fun h => ⟨fun r k u => exec_ret h, exec_ret_empty h⟩,
      fun h => ⟨fun hform hcount hroom => ?_, fun hform hcount hfull => ?_, fun hform hcount q => exec_rep_skip h hform hcount,
        exec_rep_illegal h⟩⟩
    · rw [exec_jcc h, Pilot.cond_eq, if_pos hc]
      rfl
    · rw [exec_jcc h, Pilot.cond_eq, if_neg (ne_true_of_eq_false hc)]
    · rw [exec_call h, if_neg (Nat.not_le.mpr hroom)]
    · rw [exec_call h, if_pos hfull]
    · rw [exec_rep_enter h hform hcount, if_neg (Nat.not_le.mpr hroom)]
    · rw [exec_rep_enter h hform hcount, if_pos hfull]
  · intro p put back
    refine ⟨fun h => ⟨fun hf => ?_, fun hb => ?_⟩, fun h => ⟨fun hf => ?_, fun hb => ?_⟩, exec_tsync, exec_waite,
      fun h hown src dev rem => exec_waitd h hown, exec_nop_ahead, exec_runAheadResume⟩
    · rw [exec_wait h, State.setTc_forward s b hf]
    · rw [exec_wait h, State.setTc_backward s b hb]
      rfl
    · rw [exec_atTick h, State.setTc_forward s b hf]
    · rw [exec_atTick h, State.setTc_backward s b hb]
      rfl

end Sys2Proof.Machine
end

section
/-! PROOF. Order instructions leave one order at EMIT, stamped with TC (R64, R74, R76, R80, R106). -/

namespace Sys2Proof.Machine

section
variable {s : State} {b : Fin 64} {n : Nat} {c : Instr}

/-! ## One order (R74, R80) -/

/-- An instruction that emits one order. -/
theorem exec_emit {i : PInstr} {body : PInstr → Option (Pilot → OrdKind)} {k : Pilot → OrdKind}
    (hexec : exec c s = .next (s.pilotEmit b body)) (h : s.executes b i n) (hbody : body i = some k) :
    let r := s.emit b (s.pilot b) (k (s.pilot b))
    exec c s = .next (r.1.advance b r.2 n) :=
  exec_of_executes hexec h (congrArg _ hbody) rfl

/-- Where TC lies so that it may be emitted, the order is held for the pound. -/
theorem exec_emit_may {i : PInstr} {body : PInstr → Option (Pilot → OrdKind)} {k : Pilot → OrdKind} {kind : OrdKind}
    (hmay : (s.pilot b).mayEmit) (hexec : exec c s = .next (s.pilotEmit b body)) (hbody : body i = some k)
    (hkind : k (s.pilot b) = kind) (h : s.executes b i n) :
    exec c s = .next ((s.coverFrom b (s.pilot b)).advance b ((s.pilot b).holding kind) n) := by
  rw [exec_emit hexec h hbody, State.emit_may _ _ _ _ hmay, hkind]

/-- At TB + 64 or later an alternative discards the order (R80). -/
theorem State.emit_discarded {p : Pilot} {g : Stage} {u : List Stage} (s : State) (b : Nat) (k : OrdKind) (hstages : p.stages = g :: u)
    (hlate : Tick.le (g.tb + 64) p.tc = true) : s.emit b p k = (s.pilotFault b Src.BRANCH_FORM, p) := by
  unfold State.emit
  simp only [hstages, hlate, if_true]

end

/-! ## Measure windows (R76) -/

/-- A window set leaves the windows of the other tones. -/
theorem Pilot.win_setWin_ne (p : Pilot) {j k : Nat} (o : Option (Tick × Bool)) (h : k ≠ j) : (p.setWin j o).win k = p.win k :=
  Store.read_write_ne _ _ _ h

/-- The window of tone `k` set if the mask names it. -/
def Pilot.putTone (mask : BitVec 4) (o : Option (Tick × Bool)) (p : Pilot) (k : Nat) : Pilot :=
  if mask.getLsbD k then p.setWin k o else p

/-- The windows of the masked tones of a list set. -/
def Pilot.putTones (mask : BitVec 4) (o : Option (Tick × Bool)) (l : List Nat) (p : Pilot) : Pilot := l.foldl (Pilot.putTone mask o) p

theorem Pilot.putTone_eq (mask : BitVec 4) (o : Option (Tick × Bool)) (p : Pilot) (k : Nat) :
    ∃ w, p.putTone mask o k = { p with wins := w } := by
  unfold Pilot.putTone
  split
  · exact ⟨_, rfl⟩
  · exact ⟨_, rfl⟩

/-- Only windows are written. -/
theorem Pilot.putTones_eq (mask : BitVec 4) (o : Option (Tick × Bool)) (l : List Nat) (p : Pilot) :
    ∃ w, p.putTones mask o l = { p with wins := w } := by
  induction l generalizing p with
  | nil => exact ⟨_, rfl⟩
  | cons k l ih =>
    obtain ⟨w, hw⟩ := Pilot.putTone_eq mask o p k
    obtain ⟨w', hw'⟩ := ih (p.putTone mask o k)
    exact ⟨w', hw'.trans (by rw [hw])⟩

/-- The mask of a measure order with tone `k` joined to it if the instruction's mask names it. -/
def joinTone (mask m : BitVec 4) (k : Nat) : BitVec 4 := if mask.getLsbD k then m ||| (1#4 <<< k) else m

theorem foldl_joinTone : ∀ mask : BitVec 4, (List.range 4).foldl (joinTone mask) 0 = mask := by decide

/-- Steps over tones that each do as asked, on the condition `Q` on its window, which the steps before leave alone. -/
theorem foldl_tones {s : State} {mask : BitVec 4} {o : Option (Tick × Bool)} {Q : Pilot → Nat → Prop}
    {f : State × Pilot × BitVec 4 → Nat → State × Pilot × BitVec 4}
    (hf : ∀ p m k, Q p k → f (s, p, m) k = (s, p.putTone mask o k, joinTone mask m k))
    (hQ : ∀ p j k, k ≠ j → Q p k → Q (p.putTone mask o j) k) {l : List Nat} (hl : l.Nodup) (p : Pilot) (m : BitVec 4)
    (h : ∀ k ∈ l, Q p k) : l.foldl f (s, p, m) = (s, p.putTones mask o l, l.foldl (joinTone mask) m) := by
  induction l generalizing p m with
  | nil => rfl
  | cons k l ih =>
    obtain ⟨hk, hnodup⟩ := List.nodup_cons.mp hl
    rw [List.foldl_cons, hf p m k (h k List.mem_cons_self)]
    exact ih hnodup _ _ fun j hj => hQ p k j (fun e => hk (e ▸ hj)) (h j (List.mem_cons_of_mem _ hj))

/-- The window of a masked tone is closed, at the TC given. -/
def Pilot.toneClosed (mask : BitVec 4) (t : Tick) (p : Pilot) (k : Nat) : Prop :=
  p.tc = t ∧ (mask.getLsbD k = true → winOpen p.tc (p.win k) = none)

/-- The window of a masked tone has been open for 4 to 4,096 ticks. -/
def Pilot.toneOpen (mask : BitVec 4) (p : Pilot) (k : Nat) : Prop :=
  mask.getLsbD k = true → ∃ o, winOpen p.tc (p.win k) = some o ∧ 4 ≤ Tick.diff o p.tc ∧ Tick.diff o p.tc ≤ 4096

/-- A window's condition is on TC and on its own window. -/
theorem Pilot.putTone_other {mask : BitVec 4} {o : Option (Tick × Bool)} {p : Pilot} {j k : Nat} (h : k ≠ j) :
    (p.putTone mask o j).tc = p.tc ∧ (p.putTone mask o j).win k = p.win k := by
  unfold Pilot.putTone
  split
  · exact ⟨rfl, p.win_setWin_ne o h⟩
  · exact ⟨rfl, rfl⟩

theorem openTone_closed (s : State) (b : Nat) {mask : BitVec 4} {t : Tick} {p : Pilot} {k : Nat} (m : BitVec 4)
    (h : p.toneClosed mask t k) : openTone b mask (s, p, m) k = (s, p.putTone mask (some (t, false)) k, joinTone mask m k) := by
  obtain ⟨rfl, hclosed⟩ := h
  unfold openTone Pilot.putTone joinTone
  cases hmask : mask.getLsbD k with
  | false => rfl
  | true => simp only [hclosed hmask, Bool.not_true, Bool.false_eq_true, if_false, if_true]

theorem closeTone_open (s : State) (b : Nat) {mask : BitVec 4} {p : Pilot} {k : Nat} (m : BitVec 4)
    (h : p.toneOpen mask k) : closeTone b mask (s, p, m) k = (s, p.putTone mask none k, joinTone mask m k) := by
  unfold closeTone Pilot.putTone joinTone
  cases hmask : mask.getLsbD k with
  | false => rfl
  | true =>
    obtain ⟨o, hopen, hleast, hmost⟩ := h hmask
    simp only [hopen, Bool.not_true, Bool.false_eq_true, if_false, if_true, Int.not_lt.mpr hmost, Int.not_lt.mpr hleast, decide_false,
      State.when_false]

/-- Coverage and emission do not ask about windows. -/
theorem State.emit_putTones {p : Pilot} (s : State) (b : Nat) (mask : BitVec 4) (o : Option (Tick × Bool)) (l : List Nat) (k : OrdKind)
    (h : p.mayEmit) : s.emit b (p.putTones mask o l) k = (s.coverFrom b p, (p.putTones mask o l).holding k) := by
  obtain ⟨w, hw⟩ := Pilot.putTones_eq mask o l p
  rw [hw]
  exact s.emit_may b { p with wins := w } k h

section
variable {s : State} {b : Fin 64} {mask : BitVec 4} {n : Nat}

/-- MOPEN of tones whose windows are closed. -/
theorem exec_mopen {w : BitVec 2} (hmay : (s.pilot b).mayEmit) (h : s.executes b (.mopen mask w) n)
    (hclosed : ∀ k, k < 4 → mask.getLsbD k = true → winOpen (s.pilot b).tc ((s.pilot b).win k) = none) :
    let p := s.pilot b
    exec (.mopen b) s = .next ((s.coverFrom b p).advance b
      ((p.putTones mask (some (p.tc, false)) (List.range 4)).holding (.measure false mask w)) n) := by
  have hfold := foldl_tones (Q := Pilot.toneClosed mask (s.pilot b).tc) (fun p m k => openTone_closed s b m)
    (fun p j k hne hk => by
      obtain ⟨htc, hwin⟩ := Pilot.putTone_other (mask := mask) (o := some ((s.pilot b).tc, false)) (p := p) hne
      rwa [Pilot.toneClosed, htc, hwin])
    List.nodup_range (s.pilot b) 0 (fun k hk => ⟨rfl, hclosed k (List.mem_range.mp hk)⟩)
  refine exec_of_executes rfl h rfl ?_
  rw [hfold, foldl_joinTone]
  dsimp only
  rw [State.emit_putTones _ _ _ _ _ _ hmay]

/-- MCLOSE of tones whose windows have been open for 4 to 4,096 ticks. -/
theorem exec_mclose (hmay : (s.pilot b).mayEmit) (h : s.executes b (.mclose mask) n)
    (hopen : ∀ k, k < 4 → (s.pilot b).toneOpen mask k) :
    let p := s.pilot b
    exec (.mclose b) s = .next ((s.coverFrom b p).advance b
      ((p.putTones mask none (List.range 4)).holding (.measure true mask 0)) n) := by
  have hfold := foldl_tones (Q := Pilot.toneOpen mask) (fun p m k => closeTone_open s b m)
    (fun p j k hne hk => by
      obtain ⟨htc, hwin⟩ := Pilot.putTone_other (mask := mask) (o := none) (p := p) hne
      rwa [Pilot.toneOpen, htc, hwin])
    List.nodup_range (s.pilot b) 0 (fun k hk => hopen k (List.mem_range.mp hk))
  refine exec_of_executes rfl h rfl ?_
  rw [hfold, foldl_joinTone]
  dsimp only
  rw [State.emit_putTones _ _ _ _ _ _ hmay]

end

/-- Settles O6: one order each where it may be emitted, the windows of MOPEN and MCLOSE with it, and the discard of R80. -/
theorem pilotOrders : Obligations.PilotOrders := by
  unfold Obligations.PilotOrders
  intro s b t3 t2 m w mask e4 seg x y f n p put tones
  refine ⟨fun hmay => ⟨exec_emit_may hmay rfl rfl rfl, exec_emit_may hmay rfl rfl rfl,
    exec_emit_may hmay rfl rfl rfl, exec_emit_may hmay rfl rfl rfl, exec_emit_may hmay rfl rfl rfl,
    exec_emit_may hmay rfl rfl rfl, exec_emit_may hmay rfl rfl rfl, exec_emit_may hmay rfl rfl rfl,
    exec_emit_may hmay rfl rfl rfl, exec_mopen hmay, exec_mclose hmay⟩, fun g u hstages hlate h => ?_⟩
  rw [exec_emit rfl h rfl, State.emit_discarded s b _ hstages hlate]
  rfl

end Sys2Proof.Machine
end

section
/-! PROOF. Stops, snapshots and the end of a hold (R91, R92, R111). -/

namespace Sys2Proof.Machine

/-! ## PILOT_STOP (R92, R111) -/

/-- A stop requested acts at once on a pilot that runs, where nothing of higher priority is pending. -/
theorem exec_pilotStop {s : State} {b : Fin 64} (hstop : s.bit (PLT_CTRL.STOP b) = true) (htrap : (s.pilot b).trap = none)
    (hstart : (s.pilot b).start = none) (hidle : s.get (PLT_STAT.STATE b) ≠ plt.idle)
    (hstopped : s.get (PLT_STAT.STATE b) ≠ plt.stopped) : exec (.pilotStop b) s = .next (s.stopPilot b cause.stop) := by
  have hbatch : s.batchStart b = s := by simp only [State.batchStart, hstart]
  have hactive : s.pilotActive b = true := by simp only [State.pilotActive, bne_iff_ne.mpr hidle, bne_iff_ne.mpr hstopped,
    Bool.and_self, Bool.or_true, Bool.true_or]
  have hexec : exec (.pilotStop b) s = execPilotStop b s := rfl
  rw [hexec, execPilotStop]
  simp only [hstop, Bool.or_true, State.when_true, hbatch, hactive, htrap, Bool.not_true, Bool.false_eq_true, if_false]

/-- A stop clears the requests in PLT_CTRL. -/
theorem State.bit_pltCtrl_stopPilot (s : State) (b cz : Nat) :
    (s.stopPilot b cz).bit (PLT_CTRL.STOP b) = false ∧ (s.stopPilot b cz).bit (PLT_CTRL.STOP_BND b) = false := by
  have hstat : R.PLT_CTRL b ≠ R.PLT_STAT b := by simp only [R.PLT_CTRL, R.PLT_STAT]; omega
  have hpnd : R.PLT_CTRL b ≠ R.PND_STAT b := by simp only [R.PLT_CTRL, R.PND_STAT]; omega
  have hlast {u : State} {f : Rf} (ha : f.addr = R.PLT_CTRL b) :
      ((u.set (PLT_STAT.STATE b) plt.stopped).showPound b).bit f = u.bit f := by
    rw [State.bit, State.get_showPound_ne _ _ (ha ▸ hpnd), State.get_set_ne _ _ _ _ (ha ▸ hstat), State.bit]
  unfold State.stopPilot
  dsimp only
  constructor
  · rw [hlast rfl, State.bit_setBit_apart _ (by decide : 0 + 1 ≤ 32) (.inr (.inr (by decide : 0 + 1 ≤ 1))),
      State.bit_setBit_same _ _ rfl (by decide : 0 < 32)]
  · rw [hlast rfl, State.bit_setBit_same _ _ rfl (by decide : 1 < 32)]

theorem State.ledger_of_ledgers_eq {s t : State} (h : t.ledgers = s.ledgers) (j : Nat) : t.ledger j = s.ledger j := by
  rw [State.ledger, h, State.ledger]

theorem State.berths_of_exceptCut_eq {s t : State} (h : t.exceptCut = s.exceptCut) (j : Nat) :
    t.pilot j = s.pilot j ∧ t.pound j = s.pound j ∧ t.ledger j = s.ledger j :=
  ⟨State.pilot_of_pilots_eq (congrArg State.pilots h :) j, State.pound_of_pounds_eq (congrArg State.pounds h :) j,
    State.ledger_of_ledgers_eq (congrArg State.ledgers h :) j⟩

/-- The berths of a state in which a stop is noted. -/
theorem State.berths_stopNoted (s : State) (b cz : Nat) (x : Tick) (j : Nat) :
    (s.stopNoted b cz x).pilot j = (if j = b then (s.pilot b).cancelled else s.pilot j) ∧
    (s.stopNoted b cz x).pound j = (if j = b then (s.pound b).filter (fun o => Tick.before o.tick x) else s.pound j) ∧
    (s.stopNoted b cz x).ledger j = (if j = b then { s.ledger b with stopAt := some (x, cz) } else s.ledger j) :=
  ⟨s.pilot_setPilot b j _, s.pound_setPound b j _, s.ledger_setLedger b j _⟩

/-- The state without what a stop writes. -/
def State.exceptStopped (s : State) : State := { s.exceptCut with pilots := [], pounds := [], ledgers := [] }

theorem State.eq_of_exceptStopped_eq {s t : State} (h : t.exceptStopped = s.exceptStopped) :
    t = { s with pilots := t.pilots, pounds := t.pounds, ledgers := t.ledgers, locks := t.locks, ctxs := t.ctxs, paths := t.paths,
                 fetches := t.fetches, muteds := t.muteds, demods := t.demods, regs := t.regs, wide := t.wide } :=
  congrArg (fun u : State => { u with
    pilots := t.pilots, pounds := t.pounds, ledgers := t.ledgers, locks := t.locks, ctxs := t.ctxs, paths := t.paths,
    fetches := t.fetches, muteds := t.muteds, demods := t.demods, regs := t.regs, wide := t.wide }) h

theorem State.exceptStopped_of_exceptCut_eq {s t : State} (h : t.exceptCut = s.exceptCut) : t.exceptStopped = s.exceptStopped :=
  congrArg (fun u : State => { u with pilots := [], pounds := [], ledgers := [] }) h

@[simp] theorem State.exceptStopped_setPilot (s : State) (b : Nat) (p : Pilot) : (s.setPilot b p).exceptStopped = s.exceptStopped := rfl
@[simp] theorem State.exceptStopped_setPound (s : State) (b : Nat) (l : List Order) :
    (s.setPound b l).exceptStopped = s.exceptStopped := rfl
@[simp] theorem State.exceptStopped_setLedger (s : State) (b : Nat) (g : Ledger) :
    (s.setLedger b g).exceptStopped = s.exceptStopped := rfl

theorem State.exceptStopped_stopNoted (s : State) (b cz : Nat) (x : Tick) :
    (s.stopNoted b cz x).exceptStopped = s.exceptStopped := by
  rw [State.stopNoted, State.modLedger_eq, State.exceptStopped_setLedger, State.modPound_eq, State.exceptStopped_setPound,
    State.exceptStopped_setPilot]

/-- What a stop of the pilot of berth `b` leaves behind. -/
theorem State.stopPilot_spec (s : State) (b cz : Nat) :
    let t := s.stopPilot b cz
    let x := Tick.min (s.pilot b).tc (s.tick + 48)
    (t.pilot b).busy = false ∧ t.pound b = (s.pound b).filter (fun o => Tick.before o.tick x) ∧
    t.ledger b = { s.ledger b with stopAt := some (x, cz) } ∧
    s.othersSame t State.pilot b ∧ s.othersSame t State.pound b ∧ s.othersSame t State.ledger b ∧
    t = { s with pilots := t.pilots, pounds := t.pounds, ledgers := t.ledgers, locks := t.locks, ctxs := t.ctxs, paths := t.paths,
                 fetches := t.fetches, muteds := t.muteds, demods := t.demods, regs := t.regs, wide := t.wide } := by
  have hcut := s.exceptCut_stopPilot b cz
  generalize s.stopPilot b cz = t at hcut ⊢
  intro t' x
  obtain ⟨hpilot, hpound, hledger⟩ := State.berths_of_exceptCut_eq hcut b
  obtain ⟨hpilot', hpound', hledger'⟩ := s.berths_stopNoted b cz x b
  have hothers (j : Nat) (hj : j ≠ b) : t.pilot j = s.pilot j ∧ t.pound j = s.pound j ∧ t.ledger j = s.ledger j := by
    obtain ⟨h1, h2, h3⟩ := State.berths_of_exceptCut_eq hcut j
    obtain ⟨h1', h2', h3'⟩ := s.berths_stopNoted b cz x j
    rw [h1, h1', h2, h2', h3, h3', if_neg hj, if_neg hj, if_neg hj]
    exact ⟨rfl, rfl, rfl⟩
  refine ⟨?_, ?_, ?_, fun j hj => (hothers j hj).1, fun j hj => (hothers j hj).2.1, fun j hj => (hothers j hj).2.2,
    State.eq_of_exceptStopped_eq ((State.exceptStopped_of_exceptCut_eq hcut).trans (s.exceptStopped_stopNoted b cz x))⟩
  · rw [hpilot, hpilot', if_pos rfl]
    rfl
  · rw [hpound, hpound', if_pos rfl]
  · rw [hledger, hledger', if_pos rfl]

/-! ## STATE_SNAPSHOT (R111) -/

/-- The flags as PLT_FLAGS shows them. -/
def Pilot.flagsWord (p : Pilot) : Word := BitVec.ofNat 32 (p.z.toNat + 2 * p.n.toNat + 4 * p.c.toNat + 8 * p.d.toNat)

/-- The variables of a pilot copied to their shadow registers. -/
def State.varsCopied (s : State) (b : Nat) (p : Pilot) : State :=
  s.each (List.range 16) (fun s i => s.wr (R.PLT_VAR b i) (p.v (BitVec.ofNat 4 i)))

/-- Variables, PC, flags and TC of a pilot copied to their shadow registers. -/
def State.copied (s : State) (b : Nat) (p : Pilot) : State :=
  (((s.varsCopied b p).set (PLT_PC.PC b) p.pc.toNat).wr (R.PLT_FLAGS b) p.flagsWord).setPair (R.PLT_TC_LO b) p.tc

/-- The state after a snapshot of pilot `p`. -/
def State.snapshot (s : State) (b : Nat) (p : Pilot) : State :=
  ((s.copied b p).setBit (PLT_STAT.SNAP_VALID b) true).setBit (PLT_CTRL.SNAP b) false

theorem exec_stateSnapshot {s : State} {b : Fin 64} (hsnap : s.bit (PLT_CTRL.SNAP b) = true) (htrap : (s.pilot b).trap = none)
    (hstop : s.bit (PLT_CTRL.STOP b) = false) : exec (.stateSnapshot b) s = .next (s.snapshot b (s.pilot b)) := by
  have hexec : exec (.stateSnapshot b) s = execStateSnapshot b s := rfl
  rw [hexec, execStateSnapshot]
  simp only [hsnap, htrap, hstop, Option.isSome_none, Bool.not_true, Bool.or_self, Bool.false_eq_true, if_false]
  rfl

/-- One register after a write to each of an array of registers. -/
theorem State.rd_each_wr {addr : Nat → Nat} (hinj : Function.Injective addr) (w : Nat → Word) (s : State) {i n : Nat} (h : i < n) :
    (s.each (List.range n) (fun u j => u.wr (addr j) (w j))).rd (addr i) = w i := by
  induction n with
  | zero => omega
  | succ n ih =>
    rw [State.each, List.range_succ, List.foldl_append]
    by_cases hi : i = n
    · subst hi
      exact State.rd_wr_same ..
    · exact (State.rd_wr_ne _ _ (fun e => hi (hinj e))).trans (ih (by omega))

@[simp] theorem State.exceptRegs_wr (s : State) (a : Nat) (w : Word) : (s.wr a w).exceptRegs = s.exceptRegs := rfl
@[simp] theorem State.exceptRegs_set (s : State) (f : Rf) (v : Nat) : (s.set f v).exceptRegs = s.exceptRegs := rfl

theorem State.exceptRegs_snapshot (s : State) (b : Nat) (p : Pilot) : (s.snapshot b p).exceptRegs = s.exceptRegs := by
  have hvars : (s.varsCopied b p).exceptRegs = s.exceptRegs := State.each_same _ State.exceptRegs fun u i => u.exceptRegs_wr _ _
  simp only [State.snapshot, State.copied, State.setPair, State.setBit_eq, State.exceptRegs_set, State.exceptRegs_wr, hvars]

/-- The marks of a snapshot are in PLT_STAT and PLT_CTRL. -/
theorem State.rd_snapshot (s : State) (b : Nat) (p : Pilot) {a : Nat} (hstat : a ≠ R.PLT_STAT b) (hctrl : a ≠ R.PLT_CTRL b) :
    (s.snapshot b p).rd a = (s.copied b p).rd a := by
  rw [State.snapshot, State.setBit_eq, State.setBit_eq, State.rd_set_ne _ _ _ hctrl, State.rd_set_ne _ _ _ hstat]

/-- The halves of a tick joined. -/
theorem Tick.halves_joined (t : Tick) : ((t.extractLsb' 32 16).setWidth 32).setWidth 16 ++ t.setWidth 32 = t := by
  refine BitVec.eq_of_getLsbD_eq fun i hi => ?_
  rw [BitVec.getLsbD_append]
  by_cases hlow : i < 32
  · simp [hlow]
  · simp [hlow, show i - 32 < 16 by omega, show 32 + (i - 32) = i by omega]

/-- The registers of a pilot's shadow. -/
theorem State.rd_copied (s : State) (b : Nat) (p : Pilot) :
    (∀ i, i < 16 → (s.copied b p).rd (R.PLT_VAR b i) = p.v (BitVec.ofNat 4 i)) ∧
    (s.copied b p).get (PLT_PC.PC b) = p.pc.toNat ∧ (s.copied b p).rd (R.PLT_FLAGS b) = p.flagsWord ∧
    (s.copied b p).pair (R.PLT_TC_LO b) = p.tc := by
  have hpair {u : State} {a : Nat} (w : Tick) (h : a < R.PLT_TC_LO b ∨ R.PLT_TC_LO b + 4 < a) :
      (u.setPair (R.PLT_TC_LO b) w).rd a = u.rd a := by
    rw [State.setPair, State.rd_wr_ne _ _ (by omega), State.rd_wr_ne _ _ (by omega)]
  refine ⟨fun i hi => ?_, ?_, ?_, ?_⟩
  · have hinj : Function.Injective (R.PLT_VAR b) := fun i j h => by simp only [R.PLT_VAR] at h; omega
    rw [State.copied, hpair _ (.inr (by simp only [R.PLT_TC_LO, R.PLT_VAR]; omega)),
      State.rd_wr_ne _ _ (by simp only [R.PLT_FLAGS, R.PLT_VAR]; omega),
      State.rd_set_ne _ _ _ (by simp only [PLT_PC.PC, R.PLT_PC, R.PLT_VAR]; omega)]
    exact State.rd_each_wr hinj _ s hi
  · have hne : (PLT_PC.PC b).addr ≠ R.PLT_FLAGS b := by simp only [PLT_PC.PC, R.PLT_PC, R.PLT_FLAGS]; omega
    rw [State.copied, State.get, hpair _ (.inl (by simp only [PLT_PC.PC, R.PLT_TC_LO, R.PLT_PC]; omega)), State.rd_wr_ne _ _ hne]
    exact State.get_set_of_lt _ (by decide : 0 + 14 ≤ 32) p.pc.isLt
  · rw [State.copied, hpair _ (.inl (by simp only [R.PLT_TC_LO, R.PLT_FLAGS]; omega)), State.rd_wr_same]
  · rw [State.copied, State.pair, State.setPair, State.rd_wr_same, State.rd_wr_ne _ _ (by omega), State.rd_wr_same]
    exact Tick.halves_joined p.tc

/-- The four flags in their bits. -/
theorem Pilot.fieldOf_flagsWord (p : Pilot) :
    (fieldOf p.flagsWord 0 1 != 0) = p.z ∧ (fieldOf p.flagsWord 1 1 != 0) = p.n ∧ (fieldOf p.flagsWord 2 1 != 0) = p.c ∧
    (fieldOf p.flagsWord 3 1 != 0) = p.d := by
  unfold Pilot.flagsWord
  generalize p.z = z, p.n = n, p.c = c, p.d = d
  revert z n c d
  decide

/-- What a snapshot leaves in the registers. -/
theorem State.snapshot_spec (s : State) (b : Nat) (p : Pilot) :
    let t := s.snapshot b p
    t = { s with regs := t.regs } ∧ (∀ i : Fin 16, t.rd (R.PLT_VAR b i) = p.v (BitVec.ofNat 4 i)) ∧
    t.get (PLT_PC.PC b) = p.pc.toNat ∧
    t.bit (PLT_FLAGS.Z b) = p.z ∧ t.bit (PLT_FLAGS.N b) = p.n ∧ t.bit (PLT_FLAGS.C b) = p.c ∧ t.bit (PLT_FLAGS.D b) = p.d ∧
    t.pair (R.PLT_TC_LO b) = p.tc ∧ t.bit (PLT_STAT.SNAP_VALID b) = true ∧ t.bit (PLT_CTRL.SNAP b) = false := by
  intro t
  obtain ⟨hvars, hpc, hflags, htc⟩ := s.rd_copied b p
  obtain ⟨hz, hn, hc, hd⟩ := p.fieldOf_flagsWord
  have hrd {a : Nat} (ha : R.PLT_STAT b < a) : t.rd a = (s.copied b p).rd a :=
    s.rd_snapshot b p (by omega) (by simp only [R.PLT_STAT, R.PLT_CTRL] at ha ⊢; omega)
  have hflag : t.rd (R.PLT_FLAGS b) = p.flagsWord := (hrd (by simp only [R.PLT_STAT, R.PLT_FLAGS]; omega)).trans hflags
  have hbit (lo : Nat) : t.bit ⟨R.PLT_FLAGS b, lo, 1⟩ = (fieldOf p.flagsWord lo 1 != 0) := by rw [State.bit, State.get, hflag]
  have hmark : (PLT_CTRL.SNAP b).apart (PLT_STAT.SNAP_VALID b) :=
    .inl (by simp only [PLT_CTRL.SNAP, PLT_STAT.SNAP_VALID, R.PLT_CTRL, R.PLT_STAT]; omega)
  refine ⟨State.eq_of_exceptRegs_eq (s.exceptRegs_snapshot b p), fun i => ?_, ?_, (hbit 0).trans hz, (hbit 1).trans hn,
    (hbit 2).trans hc, (hbit 3).trans hd, ?_, ?_, State.bit_setBit_same _ _ rfl (by decide : 2 < 32)⟩
  · rw [hrd (by simp only [R.PLT_STAT, R.PLT_VAR]; omega), hvars i i.isLt]
  · rw [State.get, hrd (by simp only [PLT_PC.PC, R.PLT_STAT, R.PLT_PC]; omega)]
    exact hpc
  · rw [State.pair, hrd (by simp only [R.PLT_STAT, R.PLT_TC_LO]; omega), hrd (by simp only [R.PLT_STAT, R.PLT_TC_LO]; omega)]
    exact htc
  · exact (State.bit_setBit_apart _ (by decide : 6 + 1 ≤ 32) hmark).trans (State.bit_setBit_same _ _ rfl (by decide : 6 < 32))

/-! ## SHOT_HOLD_RESUME (R91) -/

/-- The pilot released from its hold at tick `t`, to go on at `l`. -/
def Pilot.released (p : Pilot) (t : Tick) (l : BitVec 14) : Pilot :=
  { p with wait := .none, opened := false, tc := t, origin := t, pc := l }

/-- The pilot runs from `l`, and its next shot opens at `t`. -/
def State.holdReleased (s : State) (b : Nat) (t : Tick) (l : BitVec 14) : State :=
  ((s.setPilot b ((s.pilot b).released t l)).modLedger b (fun g => { g with opening := some (t, (s.pilot b).shotId) })).set
    (PLT_STAT.STATE b) plt.run

theorem exec_shotHoldResume {s : State} {b : Fin 64} {l : BitVec 14} (hwait : (s.pilot b).wait = .held l)
    (hlatch : (s.pilot b).latch = none) (hhold : s.holdOn = false) (hbnd : s.bit (PLT_CTRL.STOP_BND b) = false) :
    exec (.shotHoldResume b) s = .next (s.holdReleased b
      (Tick.max (s.pilot b).tc (s.tick + BitVec.ofNat 48 (Nat.max 64 (s.get (PLT_TIME_CFG.RESUME_LEAD b))))) l) := by
  have hexec : exec (.shotHoldResume b) s = execShotHoldResume b s := rfl
  rw [hexec, execShotHoldResume]
  have hgo : (s.holdOn || (s.pilot b).latch.isSome) = false := by rw [hhold, hlatch]; rfl
  simp only [hwait, hgo, hbnd, Bool.false_eq_true, if_false]
  rfl

theorem State.holdReleased_spec (s : State) (b : Nat) (x : Tick) (l : BitVec 14) :
    let t := s.holdReleased b x l
    t.pilot b = (s.pilot b).released x l ∧ t.get (PLT_STAT.STATE b) = plt.run ∧ s.othersSame t State.pilot b ∧
    t = { s with pilots := t.pilots, ledgers := t.ledgers, regs := t.regs } := by
  have hpilot (j : Nat) : (s.holdReleased b x l).pilot j = if j = b then (s.pilot b).released x l else s.pilot j :=
    s.pilot_setPilot b j _
  exact ⟨(hpilot b).trans (if_pos rfl), State.get_set_of_lt _ (by decide : 0 + 4 ≤ 32) (by decide : 1 < 2 ^ 4),
    fun j hj => (hpilot j).trans (if_neg hj), rfl⟩

/-- Settles O8: stop, snapshot and the end of a hold, each by what it leaves behind. -/
theorem pilotStopsSnapshotsAndHolds : Obligations.PilotStopsSnapshotsAndHolds := by
  unfold Obligations.PilotStopsSnapshotsAndHolds
  constructor
  · intro s b p x hstop htrap hstart hidle hstopped
    obtain ⟨hctrl, hbnd⟩ := s.bit_pltCtrl_stopPilot b cause.stop
    exact ⟨_, exec_pilotStop hstop htrap hstart hidle hstopped, s.get_state_stopPilot b cause.stop, hctrl, hbnd,
      s.stopPilot_spec b cause.stop⟩
  · intro s b l p at_
    exact ⟨fun hsnap htrap hstop => ⟨_, exec_stateSnapshot hsnap htrap hstop, s.snapshot_spec b p⟩,
      fun hwait hlatch hhold hbnd => ⟨_, exec_shotHoldResume hwait hlatch hhold hbnd, s.holdReleased_spec b at_ l⟩⟩

end Sys2Proof.Machine
end

section
/-! PROOF. The pilot's instruction words (R98 to R104): what the encoder writes, field by field and format by format, the decoder
reads back. -/

namespace Sys2Proof.Machine

/-! ## Fields and words -/

theorem toNat_fld (w : Word) (lo len : Nat) : (fld w lo len).toNat = w.toNat / 2 ^ lo % 2 ^ len := BitVec.toNat_ofNat ..

/-- A field is read from the number the word stands for. -/
theorem fld_eq {w : Word} {lo len : Nat} {v : BitVec len} (h : w.toNat / 2 ^ lo % 2 ^ len = v.toNat) : fld w lo len = v :=
  BitVec.eq_of_toNat_eq ((toNat_fld ..).trans h)

theorem fld_eq_ofNat {w : Word} {lo len m : Nat} (h : w.toNat / 2 ^ lo % 2 ^ len = m) : fld w lo len = BitVec.ofNat len m := by
  rw [← h, ← toNat_fld, BitVec.ofNat_toNat, BitVec.setWidth_eq]

theorem fld_bit_one {w : Word} {lo : Nat} (h : w.toNat / 2 ^ lo % 2 = 1) : fld w lo 1 = 1 := fld_eq h

theorem fld_bit_zero {w : Word} {lo : Nat} (h : w.toNat / 2 ^ lo % 2 = 0) : fld w lo 1 = 0 := fld_eq h

theorem fld_beq_one {w : Word} {lo : Nat} {b : Bool} (h : w.toNat / 2 ^ lo % 2 = b.toNat) : (fld w lo 1 == 1) = b := by
  have hfld : fld w lo 1 = BitVec.ofBool b := fld_eq (h.trans (BitVec.toNat_ofBool b).symm)
  rw [hfld]
  cases b <;> rfl

theorem toNat_ofNat_word {m : Nat} (h : m < 2 ^ 32) : (BitVec.ofNat 32 m).toNat = m :=
  (BitVec.toNat_ofNat ..).trans (Nat.mod_eq_of_lt h)

/-- The opcode, the extension bit and the operand bits stand apart in the word. -/
theorem toNat_encWord {op x n : Nat} (hop : op < 2 ^ 7) (hx : x < 2) (hn : n < 2 ^ 24) :
    (encWord op x n).toNat = op * 2 ^ 25 + x * 2 ^ 24 + n :=
  toNat_ofNat_word (by omega)

/-- A field with zeros below it is the word whose multiple it holds. -/
theorem append_zero_eq {k m : Nat} {hi : BitVec k} {p : BitVec (k + m)} (h : hi.toNat * 2 ^ m = p.toNat) : hi ++ 0#m = p :=
  BitVec.eq_of_toNat_eq (by simp [BitVec.toNat_append, Nat.shiftLeft_eq, h])

/-- The upper 16 bits of a 48-bit constant beside its lower word. -/
theorem append_lowWord_eq {n : BitVec 48} {hi : BitVec 16} (h : hi.toNat = n.toNat / 2 ^ 32) : hi ++ n.setWidth 32 = n := by
  have hhi : hi = ((n.extractLsb' 32 16).setWidth 32).setWidth 16 :=
    BitVec.eq_of_toNat_eq (by simp [h, Nat.shiftRight_eq_div_pow]; omega)
  rw [hhi]
  exact Tick.halves_joined n

/-- A word that fits 18 bits is kept by a field of 18 bits. -/
theorem fld18_setWidth_eq {w a : Word} (ha : a.toNat < 2 ^ 18) (h : w.toNat % 2 ^ 18 = a.toNat) : (fld w 0 18).setWidth 32 = a := by
  have hfld : (fld w 0 18).toNat = a.toNat := (toNat_fld ..).trans (by omega)
  exact BitVec.eq_of_toNat_eq (by rw [BitVec.toNat_setWidth, hfld]; omega)

theorem DecOpnd.ext {o p : DecOpnd} (hbid : o.bid = p.bid) (hmask : o.mask = p.mask) (hdflt : o.dflt = p.dflt) (hrem : o.rem = p.rem)
    (hloff : o.loff = p.loff) (hde : o.de = p.de) (hsrc : o.src = p.src) : o = p := by
  cases o
  cases p
  simp_all

/-! A tone number of `k` bits, at most 3, stands in bits [23:21]. -/

theorem tone_lt_eight {k : Nat} {t : BitVec k} (hk : k ≤ 3) : t.toNat < 8 :=
  t.isLt.trans_le (Nat.pow_le_pow_right (by decide : 0 < 2) hk)

theorem fld_tone {k : Nat} {t : BitVec k} {w : Word} (hk : k ≤ 3) (h : w.toNat / 2 ^ 21 % 2 ^ 3 = t.toNat) : fld w 21 k = t := by
  refine fld_eq ?_
  rw [← Nat.mod_mod_of_dvd _ (Nat.pow_dvd_pow 2 hk), h]
  exact Nat.mod_eq_of_lt t.isLt

/-! ## The four modes of R103, in bits [31:30] of the extension word of PLAY and PROBE -/

theorem decAmp_var_imm {w e p : Word} (he : e.toNat = p.toNat / 4) (hp : p.toNat % 4 = 0) :
    decAmp w (some e) = (.var (fld w 17 4), .imm p) := by
  have hmode : fld e 30 2 = 0#2 := fld_eq_ofNat (by omega)
  have hphase : fld e 0 30 ++ 0#2 = p := append_zero_eq (by rw [toNat_fld]; omega)
  simp [decAmp, hmode, hphase]

theorem decAmp_var_var {w e : Word} {p : BitVec 4} (he : e.toNat = 2 ^ 30 + p.toNat) :
    decAmp w (some e) = (.var (fld w 17 4), .var p) := by
  have hmode : fld e 30 2 = 1#2 := fld_eq_ofNat (by omega)
  have hphase : fld e 0 4 = p := fld_eq (by omega)
  simp [decAmp, hmode, hphase]

theorem decAmp_imm_imm {w e a p : Word} (he : e.toNat = 2 ^ 31 + p.toNat / 2 ^ 20 * 2 ^ 18 + a.toNat) (ha : a.toNat < 2 ^ 18)
    (hp : p.toNat % 2 ^ 20 = 0) : decAmp w (some e) = (.imm a, .imm p) := by
  have hmode : fld e 30 2 = 2#2 := fld_eq_ofNat (by omega)
  have hphase : fld e 18 12 ++ 0#20 = p := append_zero_eq (by rw [toNat_fld]; omega)
  simp [decAmp, hmode, hphase, fld18_setWidth_eq ha (by omega : e.toNat % 2 ^ 18 = a.toNat)]

theorem decAmp_imm_var {w e a : Word} {p : BitVec 4} (he : e.toNat = 2 ^ 31 + 2 ^ 30 + p.toNat * 2 ^ 18 + a.toNat)
    (ha : a.toNat < 2 ^ 18) : decAmp w (some e) = (.imm a, .var p) := by
  have hmode : fld e 30 2 = 3#2 := fld_eq_ofNat (by omega)
  have hphase : fld e 18 4 = p := fld_eq (by omega)
  simp [decAmp, hmode, hphase, fld18_setWidth_eq ha (by omega : e.toNat % 2 ^ 18 = a.toNat)]

/-! ## Reading back: with an extension word and without -/

/-- The decoder reads instruction `i`, with its length, from the words `p`, whatever word follows them. -/
def ReadsBack (p : Word × Option Word) (i : PInstr) : Prop :=
  ∀ next : Word, decodePilot p.1 (p.2.getD next) = some (i, if p.2.isSome then 2 else 1)

section
variable {op : Nat} {w : Word} {i : PInstr} (hop : w.toNat / 2 ^ 25 = op)
include hop

theorem decodePilot_extended (hbit : fld w 24 1 = 1) (next : Word) :
    decodePilot w next = (decExt op w (some next)).map (fun i => (i, 2)) := by
  subst hop
  exact if_pos hbit

theorem decodePilot_plain (hbit : fld w 24 1 = 0) (h : decPlain op w = some i) (next : Word) :
    decodePilot w next = some (i, 1) := by
  subst hop
  rw [decodePilot, if_neg (by rw [hbit]; decide), h]

theorem decodePilot_short (hbit : fld w 24 1 = 0) (h : decPlain op w = none) (next : Word) :
    decodePilot w next = (decExt op w none).map (fun i => (i, 1)) := by
  subst hop
  rw [decodePilot, if_neg (by rw [hbit]; decide), h]

end

section
variable {op n : Nat} {i : PInstr} (hop : op < 2 ^ 7) (hn : n < 2 ^ 24)
include hop hn

/-- Two words: the extension bit sends the decoder to the forms that take an extension word. -/
theorem readsBack_extended {e : Word} (h : ∀ w : Word, w.toNat % 2 ^ 24 = n → decExt op w (some e) = some i) :
    ReadsBack (encWord op 1 n, some e) i := by
  intro next
  have hw := toNat_encWord hop (by omega : 1 < 2) hn
  exact (decodePilot_extended (w := encWord op 1 n) (op := op) (by omega) (fld_bit_one (by omega)) e).trans (by rw [h _ (by omega)]; rfl)

/-- One word of an opcode that never takes an extension word. -/
theorem readsBack_plain (h : ∀ w : Word, w.toNat % 2 ^ 24 = n → decPlain op w = some i) : ReadsBack (encWord op 0 n, none) i := by
  intro next
  have hw := toNat_encWord hop (by omega : 0 < 2) hn
  exact decodePilot_plain (w := encWord op 0 n) (op := op) (by omega) (fld_bit_zero (by omega)) (h _ (by omega)) next

/-- One word of an opcode that may take an extension word. -/
theorem readsBack_short (hplain : ∀ w, decPlain op w = none) (h : ∀ w : Word, w.toNat % 2 ^ 24 = n → decExt op w none = some i) :
    ReadsBack (encWord op 0 n, none) i := by
  intro next
  have hw := toNat_encWord hop (by omega : 0 < 2) hn
  exact (decodePilot_short (w := encWord op 0 n) (op := op) (by omega) (fld_bit_zero (by omega)) (hplain _) next).trans
    (by rw [h _ (by omega)]; rfl)

end

/-! ## Formats without an extension word -/

section
variable {op : Nat} (hop : op < 2 ^ 7)
include hop

/-- One variable in bits [23:20]. -/
theorem readsBack_variable {d : BitVec 4} {i : PInstr} (h : ∀ w, fld w 20 4 = d → decPlain op w = some i) :
    ReadsBack (encWord op 0 (d.toNat * 2 ^ 20), none) i :=
  readsBack_plain hop (by omega) fun w hw => h w (fld_eq (by omega))

/-- A variable pair in bits [23:20], which starts at an even variable. -/
theorem readsBack_variablePair {d : BitVec 4} {i : PInstr} (hd : d.toNat % 2 = 0)
    (h : ∀ w, fld w 20 4 = d → fld w 20 1 = 0 → decPlain op w = some i) : ReadsBack (encWord op 0 (d.toNat * 2 ^ 20), none) i :=
  readsBack_plain hop (by omega) fun w hw => h w (fld_eq (by omega)) (fld_bit_zero (by omega))

/-- An address in bits [13:0]. -/
theorem readsBack_address {t : BitVec 14} {i : PInstr} (h : ∀ w, fld w 0 14 = t → decPlain op w = some i) :
    ReadsBack (encWord op 0 t.toNat, none) i :=
  readsBack_plain hop (by omega) fun w hw => h w (fld_eq (by omega))

/-- A mask in bits [23:20] and a choice of four in bits [19:18]. -/
theorem readsBack_maskChoice {m : BitVec 4} {c : BitVec 2} {i : PInstr}
    (h : ∀ w, fld w 20 4 = m → fld w 18 2 = c → decPlain op w = some i) :
    ReadsBack (encWord op 0 (m.toNat * 2 ^ 20 + c.toNat * 2 ^ 18), none) i :=
  readsBack_plain hop (by omega) fun w hw => h w (fld_eq (by omega)) (fld_eq (by omega))

end

theorem readsBack_mov (d v : BitVec 4) : ReadsBack (encodePilot (.mov d v)) (.mov d v) :=
  readsBack_plain (by decide) (by omega) fun w hw => by
    have hd : fld w 20 4 = d := fld_eq (by omega)
    have hv : fld w 16 4 = v := fld_eq (by omega)
    simp [decPlain, hd, hv, fld_bit_zero (by omega : w.toNat / 2 ^ 15 % 2 = 0)]

theorem readsBack_jcc (c : BitVec 3) (t : BitVec 14) : ReadsBack (encodePilot (.jcc c t)) (.jcc c t) :=
  readsBack_plain (by decide) (by omega) fun w hw => by
    have hc : fld w 20 3 = c := fld_eq (by omega)
    have ht : fld w 0 14 = t := fld_eq (by omega)
    simp [decPlain, hc, ht, fld_bit_zero (by omega : w.toNat / 2 ^ 23 % 2 = 0)]

theorem readsBack_waite (ch : BitVec 8) (lead : BitVec 16) : ReadsBack (encodePilot (.waite ch lead)) (.waite ch lead) :=
  readsBack_plain (by decide) (by omega) fun w hw => by
    have hch : fld w 16 8 = ch := fld_eq (by omega)
    have hlead : fld w 0 16 = lead := fld_eq (by omega)
    simp [decPlain, hch, hlead]

theorem readsBack_bias {c : Opnd} (hc : c.fits18 = true) : ReadsBack (encodePilot (.bias c)) (.bias c) := by
  cases c with
  | imm a =>
    have ha : a.toNat < 2 ^ 18 := of_decide_eq_true hc
    refine readsBack_plain (by decide) (by omega) fun w hw => ?_
    simp [decPlain, fld_bit_zero (by omega : w.toNat / 2 ^ 23 % 2 = 0), fld18_setWidth_eq ha (by omega : w.toNat % 2 ^ 18 = a.toNat)]
  | var v =>
    refine readsBack_plain (by decide) (by omega) fun w hw => ?_
    have hv : fld w 0 4 = v := fld_eq (by omega)
    simp [decPlain, hv, fld_bit_one (by omega : w.toNat / 2 ^ 23 % 2 = 1)]

/-! ## Formats that may take an extension word -/

section
variable {op : Nat} (hop : op < 2 ^ 7)
include hop

/-- Format FR. -/
theorem readsBack_encFR {d a : BitVec 4} {b : Opnd} {i : PInstr} (hplain : ∀ w, decPlain op w = none)
    (h : ∀ w x, fld w 20 4 = d → fld w 16 4 = a → decOpnd w x = some b → decExt op w x = some i) :
    ReadsBack (encFR op d.toNat a.toNat b) i := by
  cases b with
  | var v =>
    refine readsBack_short hop (by omega) hplain fun w hw => h w none (fld_eq (by omega)) (fld_eq (by omega)) ?_
    have hv : fld w 0 4 = v := fld_eq (by omega)
    simp [decOpnd, hv, fld_bit_zero (by omega : w.toNat / 2 ^ 15 % 2 = 0)]
  | imm e =>
    refine readsBack_extended hop (by omega) fun w hw => h w (some e) (fld_eq (by omega)) (fld_eq (by omega)) ?_
    simp [decOpnd, fld_bit_one (by omega : w.toNat / 2 ^ 15 % 2 = 1)]

/-- Format FT. -/
theorem readsBack_encFT {t : WideOpnd} {i : PInstr} (ht : t.evenPair = true) (hplain : ∀ w, decPlain op w = none)
    (h : ∀ w x, decTime w x = some t → decExt op w x = some i) : ReadsBack (encFT op t) i := by
  cases t with
  | imm c =>
    refine readsBack_extended hop (by omega) fun w hw => h w _ ?_
    have hc : fld w 0 16 ++ c.setWidth 32 = c := append_lowWord_eq ((toNat_fld ..).trans (by omega))
    simp [decTime, hc, fld_bit_zero (by omega : w.toNat / 2 ^ 23 % 2 = 0)]
  | var v =>
    refine readsBack_short hop (by omega) hplain fun w hw => h w _ ?_
    have hv : fld w 0 4 = v := fld_eq (by omega)
    simp [decTime, hv, fld_bit_one (by omega : w.toNat / 2 ^ 23 % 2 = 1), fld_bit_zero (by omega : w.toNat / 2 ^ 22 % 2 = 0)]
  | pair v =>
    have heven : v.toNat % 2 = 0 := of_decide_eq_true ht
    refine readsBack_short hop (by omega) hplain fun w hw => h w _ ?_
    have hv : fld w 0 4 = v := fld_eq (by omega)
    simp [decTime, hv, fld_bit_one (by omega : w.toNat / 2 ^ 23 % 2 = 1), fld_bit_one (by omega : w.toNat / 2 ^ 22 % 2 = 1),
      fld_bit_zero (by omega : w.toNat / 2 ^ 0 % 2 = 0)]

/-- Format FDEC, whose extension word is required. -/
theorem readsBack_encDec {o : DecOpnd} {i : PInstr} (h : ∀ w e, decDec w e = o → decExt op w (some e) = some i) :
    ReadsBack (encDec op o) i := by
  have hdflt := o.dflt.toNat_lt
  have hrem := o.rem.toNat_lt
  refine readsBack_extended hop (by omega) fun w hw => h w _ ?_
  have he : (BitVec.ofNat 32 (o.de.toNat * 2 ^ 16 + o.src.toNat * 2 ^ 8)).toNat = o.de.toNat * 2 ^ 16 + o.src.toNat * 2 ^ 8 :=
    toNat_ofNat_word (by omega)
  exact DecOpnd.ext (fld_eq (by omega)) (fld_eq (by omega)) (fld_beq_one (by omega)) (fld_beq_one (by omega)) (fld_eq (by omega))
    (fld_eq (by omega)) (fld_eq (by omega))

/-! Formats with a tone number. -/
section
variable {k : Nat} {t : BitVec k} (hk : k ≤ 3)
include hk

/-- Format FF. -/
theorem readsBack_encFF {f : WideOpnd} {i : PInstr} (hf : f.evenPair = true) (hvar : ∀ v, f ≠ .var v)
    (hplain : ∀ w, decPlain op w = none) (h : ∀ w x, fld w 21 k = t → decFreq w x = some f → decExt op w x = some i) :
    ReadsBack (encFF op (t.toNat * 2 ^ 21) f) i := by
  have ht := tone_lt_eight (t := t) hk
  cases f with
  | imm c =>
    refine readsBack_extended hop (by omega) fun w hw => h w _ (fld_tone hk (by omega)) ?_
    have hc : fld w 0 16 ++ c.setWidth 32 = c := append_lowWord_eq ((toNat_fld ..).trans (by omega))
    simp [decFreq, hc, fld_bit_zero (by omega : w.toNat / 2 ^ 20 % 2 = 0)]
  | var v => exact absurd rfl (hvar v)
  | pair v =>
    have heven : v.toNat % 2 = 0 := of_decide_eq_true hf
    refine readsBack_short hop (by omega) hplain fun w hw => h w _ (fld_tone hk (by omega)) ?_
    have hv : fld w 16 4 = v := fld_eq (by omega)
    simp [decFreq, hv, fld_bit_one (by omega : w.toNat / 2 ^ 20 % 2 = 1), fld_bit_zero (by omega : w.toNat / 2 ^ 16 % 2 = 0)]

/-- Format FPH. -/
theorem readsBack_encFPH {p : Opnd} {i : PInstr} (hplain : ∀ w, decPlain op w = none)
    (h : ∀ w x, fld w 21 k = t → decDph w x = p → decExt op w x = some i) : ReadsBack (encFPH op (t.toNat * 2 ^ 21) p) i := by
  have ht := tone_lt_eight (t := t) hk
  cases p with
  | imm e =>
    refine readsBack_extended hop (by omega) fun w hw => h w _ (fld_tone hk (by omega)) ?_
    simp [decDph, fld_bit_zero (by omega : w.toNat / 2 ^ 20 % 2 = 0)]
  | var v =>
    refine readsBack_short hop (by omega) hplain fun w hw => h w _ (fld_tone hk (by omega)) ?_
    have hv : fld w 16 4 = v := fld_eq (by omega)
    simp [decDph, hv, fld_bit_one (by omega : w.toNat / 2 ^ 20 % 2 = 1)]

/-- Format FP: each of the four modes of R103 is read from bits [31:30] of the extension word. -/
theorem readsBack_encFP {seg : BitVec 17} {amp ph : Opnd} {i : PInstr} (hamp : amp.fits18 = true) (hph : phaseFits amp ph = true)
    (h : ∀ w e, fld w 21 k = t → fld w 0 17 = seg → decAmp w (some e) = (amp, ph) → decExt op w (some e) = some i) :
    ReadsBack (encFP op (t.toNat * 2 ^ 21) seg.toNat amp ph) i := by
  have ht := tone_lt_eight (t := t) hk
  cases amp with
  | var v =>
    have hread {e : Word} (hdec : ∀ w, fld w 17 4 = v → decAmp w (some e) = (.var v, ph)) :
        ReadsBack (encWord op 1 (t.toNat * 2 ^ 21 + v.toNat * 2 ^ 17 + seg.toNat), some e) i :=
      readsBack_extended hop (by omega) fun w hw =>
        h w e (fld_tone hk (by omega)) (fld_eq (by omega)) (hdec w (fld_eq (by omega)))
    cases ph with
    | imm p =>
      have hp : p.toNat % 4 = 0 := of_decide_eq_true hph
      exact hread fun w hv => hv ▸ decAmp_var_imm (toNat_ofNat_word (by omega)) hp
    | var p => exact hread fun w hv => hv ▸ decAmp_var_var (toNat_ofNat_word (by omega))
  | imm a =>
    have ha : a.toNat < 2 ^ 18 := of_decide_eq_true hamp
    have hread {e : Word} (hdec : ∀ w, decAmp w (some e) = (.imm a, ph)) :
        ReadsBack (encWord op 1 (t.toNat * 2 ^ 21 + seg.toNat), some e) i :=
      readsBack_extended hop (by omega) fun w hw => h w e (fld_tone hk (by omega)) (fld_eq (by omega)) (hdec w)
    cases ph with
    | imm p =>
      have hp : p.toNat % 2 ^ 20 = 0 := of_decide_eq_true hph
      exact hread fun w => decAmp_imm_imm (toNat_ofNat_word (by omega)) ha hp
    | var p => exact hread fun w => decAmp_imm_var (toNat_ofNat_word (by omega)) ha

end
end

theorem readsBack_rep (n : Opnd) (l : BitVec 14) : ReadsBack (encodePilot (.rep n l)) (.rep n l) := by
  cases n with
  | imm e =>
    refine readsBack_extended (by decide) (by omega) fun w hw => ?_
    have hl : fld w 0 14 = l := fld_eq (by omega)
    simp [decExt, hl, fld_bit_zero (by omega : w.toNat / 2 ^ 23 % 2 = 0)]
  | var v =>
    refine readsBack_short (by decide) (by omega) (fun _ => rfl) fun w hw => ?_
    have hl : fld w 0 14 = l := fld_eq (by omega)
    have hv : fld w 19 4 = v := fld_eq (by omega)
    simp [decExt, hl, hv, fld_bit_one (by omega : w.toNat / 2 ^ 23 % 2 = 1)]

theorem readsBack_flux (seg : BitVec 17) {amp : Opnd} (hamp : amp.fits18 = true) :
    ReadsBack (encodePilot (.flux seg amp)) (.flux seg amp) := by
  cases amp with
  | imm a =>
    have ha : a.toNat < 2 ^ 18 := of_decide_eq_true hamp
    refine readsBack_extended (by decide) (by omega) fun w hw => ?_
    have hseg : fld w 0 17 = seg := fld_eq (by omega)
    simp [decExt, hseg, fld18_setWidth_eq ha (Nat.mod_eq_of_lt ha)]
  | var v =>
    refine readsBack_short (by decide) (by omega) (fun _ => rfl) fun w hw => ?_
    have hseg : fld w 0 17 = seg := fld_eq (by omega)
    have hv : fld w 17 4 = v := fld_eq (by omega)
    simp [decExt, hseg, hv]

theorem readsBack_movi (d : BitVec 4) (e : Word) : ReadsBack (encodePilot (.movi d e)) (.movi d e) :=
  readsBack_extended (by decide) (by omega) fun w hw => by
    have hd : fld w 20 4 = d := fld_eq (by omega)
    simp [decExt, hd]

theorem readsBack_alu (o : AluOp) (d a : BitVec 4) (b : Opnd) : ReadsBack (encodePilot (.alu o d a b)) (.alu o d a b) := by
  have hop : o.op < 2 ^ 7 := by cases o <;> decide
  have hplain (w : Word) : decPlain o.op w = none := by cases o <;> rfl
  have hext (w : Word) (x : Option Word) : decExt o.op w x = (decOpnd w x).map (.alu o (fld w 20 4) (fld w 16 4)) := by
    cases o <;> rfl
  exact readsBack_encFR hop hplain fun w x hd ha hb => by rw [hext, hd, ha, hb]; rfl

/-! ## Every instruction -/

/-- A frequency the encoding can hold is a constant or an even pair (R99). -/
theorem evenPair_of_freq_encodable {t : BitVec 3} {f : WideOpnd} (h : (PInstr.freq t f).encodable = true) :
    f.evenPair = true ∧ ∀ v, f ≠ .var v := by
  obtain ⟨heven, hform⟩ := Bool.and_eq_true_iff.1 h
  refine ⟨heven, fun v hv => ?_⟩
  subst hv
  exact absurd hform Bool.false_ne_true

theorem readsBack_encodePilot {i : PInstr} (h : i.encodable = true) : ReadsBack (encodePilot i) i := by
  cases i with
  | nop | ret | join | halt => exact readsBack_plain (by decide) (by decide) fun _ _ => rfl
  | mov d v => exact readsBack_mov d v
  | movi d e => exact readsBack_movi d e
  | alu o d a b => exact readsBack_alu o d a b
  | cmp a b => exact readsBack_encFR (d := 0) (by decide) (fun _ => rfl) fun w x _ ha hb => by simp [decExt, ha, hb]
  | tst a b => exact readsBack_encFR (d := 0) (by decide) (fun _ => rfl) fun w x _ ha hb => by simp [decExt, ha, hb]
  | ldp d a o =>
    exact readsBack_encFR (op := 0x10) (b := .imm o) (by decide) (fun _ => rfl) fun w x hd ha hb => by simp [decExt, hd, ha, hb]
  | stp v a o =>
    exact readsBack_encFR (op := 0x11) (b := .imm o) (by decide) (fun _ => rfl) fun w x hv ha hb => by simp [decExt, hv, ha, hb]
  | gettc d => exact readsBack_variablePair (by decide) (of_decide_eq_true h) fun w hd hz => by simp [decPlain, hd, hz]
  | gettk d => exact readsBack_variablePair (by decide) (of_decide_eq_true h) fun w hd hz => by simp [decPlain, hd, hz]
  | getd d => exact readsBack_variable (by decide) fun w hd => by simp [decPlain, hd]
  | getsid d => exact readsBack_variable (by decide) fun w hd => by simp [decPlain, hd]
  | mclose m => exact readsBack_variable (by decide) fun w hm => by simp [decPlain, hm]
  | jmp t => exact readsBack_address (by decide) fun w ht => by simp [decPlain, ht]
  | call t => exact readsBack_address (by decide) fun w ht => by simp [decPlain, ht]
  | shot l => exact readsBack_address (by decide) fun w hl => by simp [decPlain, hl]
  | jcc c t => exact readsBack_jcc c t
  | rep n l => exact readsBack_rep n l
  | wait n => exact readsBack_encFT (by decide) h (fun _ => rfl) fun w x hn => by simp [decExt, hn]
  | atOrigin n => exact readsBack_encFT (by decide) h (fun _ => rfl) fun w x hn => by simp [decExt, hn]
  | tsync n => exact readsBack_encFT (by decide) h (fun _ => rfl) fun w x hn => by simp [decExt, hn]
  | waite ch lead => exact readsBack_waite ch lead
  | waitd o => exact readsBack_encDec (by decide) fun w e ho => by simp [decExt, ho]
  | brd o =>
    have hoff : ¬ o.loff.toNat < 2 := Nat.not_lt.2 (of_decide_eq_true h)
    refine readsBack_encDec (by decide) fun w e ho => ?_
    have hw : fld w 0 10 = o.loff := congrArg DecOpnd.loff ho
    simp [decExt, ho, hw, hoff]
  | play t seg amp ph =>
    obtain ⟨hamp, hph⟩ := Bool.and_eq_true_iff.1 h
    exact readsBack_encFP (by decide) (by decide) hamp hph fun w e ht hseg ha => by simp [decExt, ht, hseg, ha]
  | probe t seg amp ph =>
    obtain ⟨hamp, hph⟩ := Bool.and_eq_true_iff.1 h
    exact readsBack_encFP (by decide) (by decide) hamp hph fun w e ht hseg ha => by simp [decExt, ht, hseg, ha]
  | freq t f =>
    obtain ⟨heven, hvar⟩ := evenPair_of_freq_encodable h
    exact readsBack_encFF (by decide) (by decide) heven hvar (fun _ => rfl) fun w x ht hf => by simp [decExt, ht, hf]
  | freqp t f =>
    obtain ⟨heven, hvar⟩ := evenPair_of_freq_encodable (t := 0) h
    exact readsBack_encFF (by decide) (by decide) heven hvar (fun _ => rfl) fun w x ht hf => by simp [decExt, ht, hf]
  | phase t p => exact readsBack_encFPH (by decide) (by decide) (fun _ => rfl) fun w x ht hp => by simp [decExt, ht, hp]
  | phasep t p => exact readsBack_encFPH (by decide) (by decide) (fun _ => rfl) fun w x ht hp => by simp [decExt, ht, hp]
  | flux seg amp => exact readsBack_flux seg h
  | bias c => exact readsBack_bias h
  | mopen m c => exact readsBack_maskChoice (by decide) fun w hm hc => by simp [decPlain, hm, hc]
  | mark m e => exact readsBack_maskChoice (by decide) fun w hm he => by simp [decPlain, hm, he]

/-- Settles O60: each instruction's words are read back by its format. -/
theorem pilotWordsDecodeAsEncoded : Obligations.PilotWordsDecodeAsEncoded :=
  fun _ next h => readsBack_encodePilot h next

end Sys2Proof.Machine
end

section
/-! PROOF. The segment table, the basin window and its scrubber (R121 to R123, R126), and the blocks that a tone's prefetcher takes
from SDRAM (R131 to R133, R387). -/

namespace Sys2Proof.Machine

/-! ## The segment table (R126) -/

/-- A register that no write to an array of registers reaches. -/
theorem State.rd_each_wr_ne {addr : Nat → Nat} (w : Nat → Word) (s : State) {a n : Nat} (h : ∀ j, j < n → a ≠ addr j) :
    (s.each (List.range n) (fun u j => u.wr (addr j) (w j))).rd a = s.rd a := by
  induction n with
  | zero => rfl
  | succ n ih =>
    rw [State.each, List.range_succ, List.foldl_append]
    exact (State.rd_wr_ne _ _ (h n (by omega))).trans (ih fun j hj => h j (by omega))

/-- Four words joined to a descriptor are read back one by one. -/
theorem extractLsb'_joined (w : Nat → Word) {i : Nat} (h : i < 4) : (w 3 ++ w 2 ++ w 1 ++ w 0).extractLsb' (32 * i) 32 = w i := by
  obtain rfl | rfl | rfl | rfl : i = 0 ∨ i = 1 ∨ i = 2 ∨ i = 3 := by omega
  · exact BitVec.extractLsb'_append_eq_right
  · rw [BitVec.extractLsb'_append_eq_of_le (by decide)]
    exact BitVec.extractLsb'_append_eq_right
  · rw [BitVec.extractLsb'_append_eq_of_le (by decide), BitVec.extractLsb'_append_eq_of_le (by decide)]
    exact BitVec.extractLsb'_append_eq_right
  · rw [BitVec.extractLsb'_append_eq_of_le (by decide), BitVec.extractLsb'_append_eq_of_le (by decide)]
    exact BitVec.extractLsb'_append_eq_left

/-- The descriptor held in SEG_DATA. -/
def State.segData (s : State) : BitVec 128 := s.rd (R.SEG_DATA 3) ++ s.rd (R.SEG_DATA 2) ++ s.rd (R.SEG_DATA 1) ++ s.rd (R.SEG_DATA 0)

theorem segData_injective : Function.Injective R.SEG_DATA := fun i j h => by simp only [R.SEG_DATA] at h; omega

theorem segCtrl_ne_segData {i : Nat} (h : i < 4) : R.SEG_CTRL ≠ R.SEG_DATA i := by simp only [R.SEG_CTRL, R.SEG_DATA]; omega

theorem State.rd_segData_set_idx (s : State) (v : Nat) {i : Nat} (h : i < 4) :
    (s.set SEG_CTRL.IDX v).rd (R.SEG_DATA i) = s.rd (R.SEG_DATA i) := s.rd_set_ne _ v (segCtrl_ne_segData h).symm

theorem State.segData_set_idx (s : State) (v : Nat) : (s.set SEG_CTRL.IDX v).segData = s.segData := by
  have h {i : Nat} (hi : i < 4) := s.rd_segData_set_idx v hi
  rw [State.segData, h (by decide), h (by decide), h (by decide), h (by decide), State.segData]

theorem State.rd_segRead (s : State) (idx : Nat) {i : Nat} (h : i < 4) :
    (s.segRead idx).rd (R.SEG_DATA i) = (s.seg idx).extractLsb' (32 * i) 32 :=
  s.rd_each_wr segData_injective (fun j => (s.seg idx).extractLsb' (32 * j) 32) h

theorem State.get_idx_segRead (s : State) (idx : Nat) : (s.segRead idx).get SEG_CTRL.IDX = s.get SEG_CTRL.IDX :=
  congrArg (fieldOf · 0 17) (s.rd_each_wr_ne (fun j => (s.seg idx).extractLsb' (32 * j) 32) fun _ => segCtrl_ne_segData)

theorem State.exceptRegs_segRead (s : State) (idx : Nat) : (s.segRead idx).exceptRegs = s.exceptRegs :=
  State.each_same _ State.exceptRegs fun u _ => u.exceptRegs_wr _ _

/-- A read of the table leaves the table alone. -/
theorem State.segs_segRead (s : State) (idx : Nat) : (s.segRead idx).segs = s.segs :=
  (congrArg State.segs (s.exceptRegs_segRead idx) :)

/-- SEG_DATA is in the table at `idx`. -/
def State.segCommitted (s : State) (idx : BitVec 17) : State := (s.set SEG_CTRL.IDX idx.toNat).setSeg idx.toNat s.segData

theorem exec_segCommit (s : State) (idx : BitVec 17) (read : Bool) :
    exec (.segCommit idx read) s = .next ((s.segCommitted idx).when read (·.segRead idx.toNat)) := by
  rw [State.segCommitted, ← s.segData_set_idx idx.toNat]
  rfl

theorem State.rd_segCommitted (s : State) (idx : BitVec 17) {i : Nat} (h : i < 4) :
    (s.segCommitted idx).rd (R.SEG_DATA i) = s.rd (R.SEG_DATA i) := s.rd_segData_set_idx _ h

theorem State.seg_segCommitted (s : State) (idx : BitVec 17) (j : Nat) :
    (s.segCommitted idx).seg j = if j = idx.toNat then s.segData else s.seg j := State.seg_setSeg ..

theorem State.get_idx_segCommitted (s : State) (idx : BitVec 17) : (s.segCommitted idx).get SEG_CTRL.IDX = idx.toNat :=
  s.get_set_of_lt (f := SEG_CTRL.IDX) (by decide : 0 + 17 ≤ 32) idx.isLt

/-- SEG_DATA holds what was committed, whether or not the same write also reads it back. -/
theorem State.rd_segCommit (s : State) (idx : BitVec 17) (read : Bool) {i : Nat} (h : i < 4) :
    ((s.segCommitted idx).when read (·.segRead idx.toNat)).rd (R.SEG_DATA i) = s.rd (R.SEG_DATA i) := by
  cases read with
  | false => exact s.rd_segCommitted idx h
  | true =>
    rw [State.when_true, State.rd_segRead _ _ h, State.seg_segCommitted, if_pos rfl]
    exact extractLsb'_joined (fun j => s.rd (R.SEG_DATA j)) h

theorem State.segCommit_spec (s : State) (idx : BitVec 17) (read : Bool) :
    ∃ t, exec (.segCommit idx read) s = .next t ∧ t.seg idx.toNat = s.segData ∧ t.get SEG_CTRL.IDX = idx.toNat ∧
      (∀ i : Fin 4, t.rd (R.SEG_DATA i) = s.rd (R.SEG_DATA i)) ∧ s.othersSame t State.seg idx.toNat ∧
      t = { s with segs := t.segs, regs := t.regs } := by
  have hsegs : ((s.segCommitted idx).when read (·.segRead idx.toNat)).segs = (s.segCommitted idx).segs :=
    State.when_same read State.segs (State.segs_segRead ..)
  have hseg (j : Nat) := (congrArg (Store.read (fun _ => 0) · j) hsegs).trans (s.seg_segCommitted idx j)
  refine ⟨_, exec_segCommit s idx read, (hseg _).trans (if_pos rfl), ?_, fun i => s.rd_segCommit idx read i.isLt,
    fun j hj => (hseg j).trans (if_neg hj), ?_⟩
  · exact (State.when_same read (State.get · SEG_CTRL.IDX) (State.get_idx_segRead ..)).trans (s.get_idx_segCommitted idx)
  · rw [hsegs]
    exact State.eq_of_exceptRegs_eq (State.when_same read State.exceptRegs (State.exceptRegs_segRead ..))

theorem State.segRead_spec (s : State) (idx : BitVec 17) :
    ∃ t, exec (.segRead idx) s = .next t ∧
      (∀ i : Fin 4, t.rd (R.SEG_DATA i) = (s.seg idx.toNat).extractLsb' (32 * i.val) 32) ∧ t = { s with regs := t.regs } :=
  ⟨_, rfl, fun i => State.rd_segRead _ _ i.isLt,
    State.eq_of_exceptRegs_eq ((State.exceptRegs_segRead ..).trans (s.exceptRegs_set _ _))⟩

/-! ## The basin window and the scrubber (R122, R123) -/

theorem exec_basinWindowWrite (s : State) (word : Fin 0xC00000) (v : Word) : exec (.basinWindowWrite word v false) s =
    if 0x2FFFFF4 ≤ 4 * word.val then .next s else .next (s.wr (0x1000000 + 4 * word) v) := rfl

theorem exec_basinWindowRead (s : State) (word : Fin 0xC00000) : exec (.basinWindowRead word 0) s =
    if 0x2FFFFF4 ≤ 4 * word.val then .next (s.answer 0) else .next (s.answer (s.rd (0x1000000 + 4 * word))) := rfl

/-- BASIN_ECC_STAT after a double-bit error in a pair. -/
def State.dedMarked (s : State) (pair : Nat) : State := (s.set BASIN_ECC_STAT.PAIR pair).setBit BASIN_ECC_STAT.DED true

theorem State.basinError_ded (s : State) (pair reader : Nat) : s.basinError pair reader true =
    (s.dedMarked pair).raise Src.BASIN_DED (slotWide pair ++ slot reader) := rfl

theorem State.get_pair_dedMarked (s : State) (pair : Nat) :
    (s.dedMarked pair).get BASIN_ECC_STAT.PAIR = pair % 2 ^ BASIN_ECC_STAT.PAIR.len :=
  (State.get_set_disjoint _ BASIN_ECC_STAT.DED BASIN_ECC_STAT.PAIR _ (by decide) (by decide)).trans (s.get_set_same _ _ (by decide))

theorem State.standbyMute_dedMarked (s : State) (pair src : Nat) : (s.dedMarked pair).standbyMute src = s.standbyMute src :=
  State.standbyMute_of_role ((State.get_set_ne _ _ _ _ (by decide)).trans (s.get_set_ne _ _ _ (by decide))) src

/-- A double-bit error is marked with its pair, and raised with pair and reader. -/
theorem State.basinError_ded_spec (s : State) (pair reader : Nat) (h : s.standbyMute Src.BASIN_DED = false) :
    let t := s.basinError pair reader true
    t.bit BASIN_ECC_STAT.DED = true ∧ t.get BASIN_ECC_STAT.PAIR = pair % 2 ^ BASIN_ECC_STAT.PAIR.len ∧
    t.raised = s.raised ++ [{ src := Src.BASIN_DED, tick := s.tick, slots := slotWide pair ++ slot reader, injected := false }] := by
  intro t
  have ht : t = (s.dedMarked pair).raise Src.BASIN_DED (slotWide pair ++ slot reader) := s.basinError_ded pair reader
  rw [ht]
  refine ⟨?_, ?_, ?_⟩
  · exact State.raise_keeps (P := fun u => u.bit BASIN_ECC_STAT.DED = true) _ _ (fun _ _ hu => hu)
      (State.bit_setBit_same _ true rfl (by decide))
  · exact State.raise_keeps (P := fun u => u.get BASIN_ECC_STAT.PAIR = pair % 2 ^ BASIN_ECC_STAT.PAIR.len) _ _ (fun _ _ hu => hu)
      (s.get_pair_dedMarked pair)
  · exact State.raised_raise (s := s.dedMarked pair) _ ((s.standbyMute_dedMarked pair _).trans h)

/-! ## A block of SDRAM samples (R121, R132) -/

/-- Samples `x 0` to `x (n - 1)` packed from bit 0 on. -/
def packSamples (w : Nat) (x : Nat → BitVec 36) (n : Nat) : BitVec w :=
  (List.range n).foldl (fun v k => v + BitVec.ofNat w ((x k).toNat <<< (36 * k))) 0

section
variable {w n : Nat} (x : Nat → BitVec 36)

theorem toNat_packSamples_succ_mod : (packSamples w x (n + 1)).toNat =
    ((packSamples w x n).toNat + (x n).toNat * 2 ^ (36 * n)) % 2 ^ w := by
  rw [packSamples, List.range_succ, List.foldl_append, ← packSamples, List.foldl_cons, List.foldl_nil, BitVec.toNat_add,
    BitVec.toNat_ofNat, Nat.shiftLeft_eq, Nat.add_mod_mod]

/-- A sample above `n` others ends before sample `n + 1` begins. -/
theorem add_sample_lt {p : Nat} (h : p < 2 ^ (36 * n)) : p + (x n).toNat * 2 ^ (36 * n) < 2 ^ (36 * (n + 1)) := by
  have hx : (x n).toNat * 2 ^ (36 * n) ≤ (2 ^ 36 - 1) * 2 ^ (36 * n) := Nat.mul_le_mul_right _ (Nat.le_pred_of_lt (x n).isLt)
  rw [Nat.mul_succ, Nat.pow_add]
  omega

theorem toNat_packSamples_lt : (packSamples w x n).toNat < 2 ^ (36 * n) := by
  induction n with
  | zero => exact (BitVec.toNat_ofNat 0 w).trans_lt (by rw [Nat.zero_mod]; exact Nat.one_pos)
  | succ n ih =>
    rw [toNat_packSamples_succ_mod]
    exact (Nat.mod_le _ _).trans_lt (add_sample_lt x ih)

/-- Where there is room, no sample reaches into another. -/
theorem toNat_packSamples_succ (h : 36 * (n + 1) ≤ w) :
    (packSamples w x (n + 1)).toNat = (packSamples w x n).toNat + (x n).toNat * 2 ^ (36 * n) := by
  rw [toNat_packSamples_succ_mod]
  exact Nat.mod_eq_of_lt ((add_sample_lt x (toNat_packSamples_lt x)).trans_le (Nat.pow_le_pow_right (by decide) h))

theorem extractLsb'_packSamples {k : Nat} (hk : k < n) (hn : 36 * n ≤ w) : (packSamples w x n).extractLsb' (36 * k) 36 = x k := by
  apply BitVec.eq_of_toNat_eq
  rw [BitVec.extractLsb'_toNat, Nat.shiftRight_eq_div_pow]
  induction n with
  | zero => omega
  | succ n ih =>
    rw [toNat_packSamples_succ x hn]
    by_cases heq : k = n
    · subst heq
      rw [Nat.add_mul_div_right _ _ (Nat.two_pow_pos _), Nat.div_eq_of_lt (toNat_packSamples_lt x), Nat.zero_add,
        Nat.mod_eq_of_lt (x k).isLt]
    · have hpow : (x n).toNat * 2 ^ (36 * n) = 2 ^ (36 * k) * (2 ^ 36 * ((x n).toNat * 2 ^ (36 * (n - k - 1)))) := by
        rw [show 36 * n = 36 * k + 36 + 36 * (n - k - 1) by omega, Nat.pow_add, Nat.pow_add]
        ac_rfl
      rw [hpow, Nat.add_mul_div_left _ _ (Nat.two_pow_pos _), Nat.add_mul_mod_self_left]
      exact ih (by omega) (by omega)

end

theorem State.blockSample_sdram (s : State) {f : Fetch} (h : desc.src f.desc = 1) (k : Nat) :
    s.blockSample f k = (desc.addr f.desc + f.blockPos f.next + k, 0) := by
  rw [State.blockSample, if_pos h, Nat.add_assoc]

/-- The next block of a segment in SDRAM is never without data. -/
theorem State.streamBlock_sdram (s : State) {f : Fetch} (h : desc.src f.desc = 1) :
    s.streamBlock f = some (packSamples 288 (fun k => s.dramSample (desc.addr f.desc + f.blockPos f.next + k)) 8) := by
  refine List.foldl_hom some fun v k => ?_
  simp only [s.blockSample_sdram h, h, beq_self_eq_true, Bool.true_or, true_or, if_true]

/-! ## A tone whose prefetcher walks one segment (R131, R132) -/

theorem State.othersSame_setPrefetch {s r : State} {k : Nat} (h : s.othersSame r State.prefetch k) (l : List Fetch) :
    s.othersSame (r.setPrefetch k l) State.prefetch k := fun j hj => by
  rw [State.prefetch_setPrefetch, if_neg hj, h j hj]

theorem State.prefetch_setPrefetch_same (s : State) (k : Nat) (l : List Fetch) : (s.setPrefetch k l).prefetch k = l := by
  rw [State.prefetch_setPrefetch, if_pos rfl]

/-- Where no walked segment links on, the prefetcher walks no further. -/
theorem State.walkOn_unlinked (s : State) (b t : Nat) (h : ∀ f ∈ s.prefetch (b * 13 + t), desc.link f.desc = false) :
    s.walkOn b t = s.setPrefetch (b * 13 + t) (s.prefetch (b * 13 + t)) := by
  rw [State.walkOn, State.modPrefetch_eq]
  refine congrArg (s.setPrefetch _) ((congrArg (_ ++ ·) (List.filterMap_eq_nil_iff.2 fun f hf => ?_)).trans (List.append_nil _))
  cases f.endTick with
  | none => rfl
  | some x => simp only [h f hf, Bool.false_eq_true, false_and, and_false, if_false]

/-- The prefetcher of a tone walks `f`, without a link and with blocks still to come, and nothing else. -/
structure State.Walks (s : State) (b t : Nat) (f : Fetch) : Prop where
  one : s.prefetch (b * 13 + t) = [f]
  unlinked : desc.link f.desc = false
  more : f.open_ = true

section
variable {s : State} {b : Fin 64} {t : Fin 13} {f : Fetch}

theorem State.Walks.walkOn (h : s.Walks b t f) : s.walkOn b t = s.setPrefetch (b * 13 + t) [f] := by
  have hunlinked : ∀ g ∈ s.prefetch (b * 13 + t), desc.link g.desc = false := fun g hg => by
    rw [h.one, List.mem_singleton] at hg
    rw [hg, h.unlinked]
  rw [s.walkOn_unlinked b t hunlinked, h.one]

/-- An error in the next block of `f`, read through channel `chan`, is reported: 1 corrected, 2 uncorrectable. -/
def State.blockReported (s : State) (f : Fetch) (chan : Fin 4) (err : Fin 3) : State :=
  s.when (err != 0) (·.dramError chan ((s.blockSample f 0).1 * 9 / 2) (err == 2))

theorem exec_blockFetchDone_full (h : s.Walks b t f) (chan : Fin 4) (err : Fin 3) (hfull : 64 ≤ f.blocks.length) :
    exec (.blockFetchDone b t chan err) s = .next (s.setPrefetch (b * 13 + t) [f]) := by
  have hexec : exec (.blockFetchDone b t chan err) s = execBlockFetchDone b t chan err s := rfl
  rw [hexec, execBlockFetchDone]
  simp only [h.walkOn, State.prefetch_setPrefetch_same, List.find?_cons_of_pos h.more, List.map_cons, List.map_nil,
    List.sum_singleton, if_pos hfull]

/-- A block that arrives is reported where it has an error, and joins the buffer. -/
theorem exec_blockFetchDone (h : s.Walks b t f) (chan : Fin 4) (err : Fin 3) (hroom : f.blocks.length < 64) :
    let w := (s.setPrefetch (b * 13 + t) [f]).blockReported f chan err
    exec (.blockFetchDone b t chan err) s =
      .next (w.setPrefetch (b * 13 + t) [f.arrived (if err = 2 then none else w.streamBlock f)]) := by
  have hexec : exec (.blockFetchDone b t chan err) s = execBlockFetchDone b t chan err s := rfl
  rw [hexec, execBlockFetchDone]
  simp only [h.walkOn, State.prefetch_setPrefetch_same, List.find?_cons_of_pos h.more, List.map_cons, List.map_nil,
    List.sum_singleton, if_neg (Nat.not_le.2 hroom), if_true]
  rfl

theorem exec_fetchDeadline (h : s.Walks b t f) (hjump : f.jump = false) :
    exec (.fetchDeadline b t) s = .next (if Tick.le (f.blockTick f.next) (s.tick + 48) then
      (s.setPrefetch (b * 13 + t) [f]).setPrefetch (b * 13 + t) [f.arrived none] else s.setPrefetch (b * 13 + t) [f]) := by
  have hexec : exec (.fetchDeadline b t) s = execFetchDeadline b t s := rfl
  have htick : (s.setPrefetch (b * 13 + t) [f]).tick = s.tick := rfl
  rw [hexec, execFetchDeadline]
  simp only [h.walkOn, State.prefetch_setPrefetch_same, htick, List.find?_cons, h.more, hjump, Bool.not_false, Bool.true_and]
  cases Tick.le (f.blockTick f.next) (s.tick + 48) with
  | false => rfl
  | true => simp only [List.map_cons, List.map_nil, if_true]

/-- A block that arrives whole joins the buffer. -/
theorem State.Walks.blockJoins (h : s.Walks b t f) (hsrc : desc.src f.desc = 1) (chan : Fin 4) (hroom : f.blocks.length < 64) :
    ∃ u v, exec (.blockFetchDone b t chan 0) s = .next u ∧ u.prefetch (b * 13 + t) = [f.arrived (some v)] ∧
      (∀ k, k < 8 → v.extractLsb' (36 * k) 36 = s.dramSample (desc.addr f.desc + f.blockPos f.next + k)) ∧
      s.othersSame u State.prefetch (b * 13 + t) ∧ u = { s with fetches := u.fetches } := by
  have hexec := exec_blockFetchDone h chan 0 hroom
  simp only [State.blockReported, bne_self_eq_false, State.when_false, State.streamBlock_sdram _ hsrc] at hexec
  exact ⟨_, _, hexec, State.prefetch_setPrefetch_same .., fun k hk => extractLsb'_packSamples _ hk (Nat.le_refl _),
    State.othersSame_setPrefetch (State.othersSame_setPrefetch (fun _ _ => rfl) _) _, rfl⟩

/-- A block with an uncorrectable error is missing, and the error is raised. -/
theorem State.Walks.blockMissing (h : s.Walks b t f) (hsrc : desc.src f.desc = 1) (chan : Fin 4) (hroom : f.blocks.length < 64) :
    let a := (desc.addr f.desc + f.blockPos f.next) * 9 / 2
    ∃ u, exec (.blockFetchDone b t chan 2) s = .next u ∧ u.prefetch (b * 13 + t) = [f.arrived none] ∧
      (s.standbyMute Src.DRAM_UE = false → u.raised = s.raised ++ [{
        src := Src.DRAM_UE, tick := s.tick, slots := slot chan ++ [a % 65536, a / 65536 % 65536, a / 2 ^ 32 % 16],
        injected := false }]) ∧
      s.othersSame u State.prefetch (b * 13 + t) ∧ u = { s with fetches := u.fetches, raised := u.raised } := by
  have hexec := exec_blockFetchDone h chan 2 hroom
  have hfrom := State.othersSame_setPrefetch (fun _ _ => rfl : s.othersSame s State.prefetch (b * 13 + t)) [f]
  simp only [State.blockReported, State.blockSample_sdram _ hsrc, Nat.add_zero, if_true] at hexec
  refine ⟨_, hexec, State.prefetch_setPrefetch_same .., fun hmute => ?_, State.othersSame_setPrefetch ?_ _, ?_⟩
  · exact State.raised_raise (s := s.setPrefetch _ _) _ hmute
  · exact State.raise_keeps (P := fun u => s.othersSame u State.prefetch (b * 13 + t)) _ _ (fun _ _ hu => hu) hfrom
  · exact State.raise_keeps (P := fun u => u.setPrefetch _ _ =
      { s with fetches := (u.setPrefetch _ _).fetches, raised := u.raised }) _ _
      (fun u l hu => congrArg (fun v : State => { v with raised := u.raised ++ l }) hu) rfl

end

/-- Settles O14: a descriptor is committed and read back word by word, a block of SDRAM is its eight samples packed, and a prefetcher
that walks one segment without a link walks no further. -/
theorem segmentsAndStreams : Obligations.SegmentsAndStreams := by
  refine ⟨fun s idx word v => ⟨s.segCommit_spec idx, s.segRead_spec idx, fun h => ?_, fun h => ?_, rfl, fun hmute => ?_⟩,
    ?_⟩
  · rw [exec_basinWindowWrite, exec_basinWindowRead, if_neg (Nat.not_le.2 h), if_neg (Nat.not_le.2 h)]
    exact ⟨rfl, rfl⟩
  · rw [exec_basinWindowWrite, exec_basinWindowRead, if_pos h, if_pos h]
    exact ⟨rfl, rfl⟩
  · exact ⟨_, rfl, State.basinError_ded_spec _ _ _ hmute⟩
  · intro s b t chan f key first a same hone hjump hopen hsrc hlink
    have hwalks : s.Walks b t f := ⟨hone, hlink, hopen⟩
    have hfrom := State.othersSame_setPrefetch (fun _ _ => rfl : s.othersSame s State.prefetch key) [f]
    refine ⟨fun hroom => ⟨hwalks.blockJoins hsrc chan hroom, hwalks.blockMissing hsrc chan hroom⟩, fun hfull => ?_, ?_⟩
    · exact ⟨_, exec_blockFetchDone_full hwalks chan 0 hfull, State.prefetch_setPrefetch_same .., hfrom, rfl⟩
    · refine ⟨_, exec_fetchDeadline hwalks hjump, ?_⟩
      split
      · exact ⟨State.prefetch_setPrefetch_same .., State.othersSame_setPrefetch hfrom _, rfl⟩
      · exact ⟨State.prefetch_setPrefetch_same .., hfrom, rfl⟩

end Sys2Proof.Machine
end

section
/-! PROOF. Front-end changes of a read-out input, and the read of DEM_LAST_DEC (R173, R176, R190). -/

namespace Sys2Proof.Machine

variable {s t : State} {fs : List Rf}

/-! ## Fields that start at bit 0, whole words and pairs -/

/-- The low bits of a word whose lowest field was replaced. -/
theorem fieldSet_setWidth (w : Word) {m : Nat} (v : BitVec m) (hm : m ≤ 32) : (fieldSet w 0 m v.toNat).setWidth m = v := by
  refine BitVec.eq_of_getLsbD_eq fun i hi => ?_
  rw [BitVec.getLsbD_setWidth, fieldSet_getLsbD w 0 m _ i (by omega), if_pos (by omega), decide_eq_true hi, Bool.true_and]
  rfl

/-- A word stored is its 32-bit field set. -/
theorem State.wr_eq_set (s : State) (a : Nat) (w : Word) : s.wr a w = s.set ⟨a, 0, 32⟩ w.toNat := by
  have hword : fieldSet (s.rd a) 0 32 w.toNat = w := by
    simpa only [BitVec.setWidth_eq] using fieldSet_setWidth (s.rd a) w (Nat.le_refl 32)
  rw [State.set_eq, hword]

theorem State.fieldsOnly.wr {a : Nat} (h : s.fieldsOnly t fs) (ha : ⟨a, 0, 32⟩ ∈ fs) (w : Word) : s.fieldsOnly (t.wr a w) fs := by
  rw [State.wr_eq_set]
  exact h.set ha _

/-- What a field holding `v` reads as in two's complement. -/
theorem State.getInt_of_get {f : Rf} {v : BitVec f.len} (h : s.get f = v.toNat) : s.getInt f = v.toInt := by
  rw [State.getInt, h, BitVec.ofNat_toNat, BitVec.setWidth_eq]

theorem State.pair_setPair (s : State) (a : Nat) (v : BitVec 48) : (s.setPair a v).pair a = v := by
  rw [State.setPair, State.pair, State.rd_wr_same, State.rd_wr_ne _ _ (by omega : a ≠ a + 4), State.rd_wr_same, Tick.halves_joined]

theorem State.get_setPair_ne (s : State) {a : Nat} (v : BitVec 48) {f : Rf} (hlo : f.addr ≠ a) (hhi : f.addr ≠ a + 4) :
    (s.setPair a v).get f = s.get f := by
  rw [State.setPair, State.get_wr_ne _ _ _ _ hhi, State.get_wr_ne _ _ _ _ hlo]

/-- A single-bit field that holds 1 or 0 for a truth value. -/
theorem State.bit_of_get {f : Rf} {v : Bool} (h : s.get f = if v then 1 else 0) : s.bit f = v := by
  rw [State.bit, h]
  cases v <;> rfl

/-! ## Inputs -/

theorem State.inp_of_inputs_eq (h : t.inputs = s.inputs) (j : Nat) : t.inp j = s.inp j := by
  rw [State.inp, h, State.inp]

theorem State.inp_setInp_same (s : State) (n : Nat) (i : Input) : (s.setInp n i).inp n = i := by
  rw [State.inp_setInp, if_pos rfl]

theorem State.othersSame_setInp {n : Nat} (h : s.othersSame t State.inp n) (i : Input) : s.othersSame (t.setInp n i) State.inp n :=
  fun j hj => by rw [State.inp_setInp, if_neg hj, h j hj]

/-- Storing an input writes no register field. -/
theorem State.fieldsOnly.setInp (h : s.fieldsOnly t fs) (n : Nat) (i : Input) : s.fieldsOnly (t.setInp n i) fs := h

/-! ## A change from C = TICK + 2 -/

/-- An input of which a change at TICK makes `ticks` pin ticks unsettled. -/
def Input.unsettledFrom (i : Input) (c : Tick) (ticks : Nat) : Input :=
  { i with spans := i.spans ++ [(c, c + BitVec.ofNat 48 (ticks - 1))] }

/-- A change is a span of the input, and C behind RDI_CHG_TICK. -/
theorem State.frontChange_eq (s : State) (n ticks : Nat) : s.frontChange n ticks =
    (s.setInp n ((s.inp n).unsettledFrom (s.tick + 2) ticks)).capture (R.RDI_CHG_TICK_LO n) (s.tick + 2) := rfl

theorem State.inp_frontChange (s : State) (n ticks j : Nat) : (s.frontChange n ticks).inp j =
    if j = n then (s.inp n).unsettledFrom (s.tick + 2) ticks else s.inp j := s.inp_setInp n j _

theorem State.wideVal_frontChange (s : State) (n ticks : Nat) :
    (s.frontChange n ticks).wideVal (R.RDI_CHG_TICK_LO n) = s.tick + 2 :=
  ((s.setInp n _).wideVal_setWideVal _ _ _).trans (if_pos rfl)

theorem State.get_frontChange (s : State) (n ticks : Nat) {f : Rf} (hf : f.addr ≠ R.RDI_CHG_TICK_LO n) :
    (s.frontChange n ticks).get f = s.get f :=
  State.get_wr_ne _ _ _ _ hf

theorem State.fieldsOnly.frontChange (h : s.fieldsOnly t fs) {n : Nat} (hn : RDI_CHG_TICK_LO.TICK n ∈ fs) (ticks : Nat) :
    s.fieldsOnly (t.frontChange n ticks) fs :=
  State.fieldsOnly.wr (t := (t.setInp n _).setWideVal _ _) h hn _

theorem State.othersSame_frontChange {n : Nat} (h : s.othersSame t State.inp n) (ticks : Nat) :
    s.othersSame (t.frontChange n ticks) State.inp n :=
  fun j hj => by rw [State.inp_frontChange, if_neg hj, h j hj]

/-- A field of a front end changed, with the change's span and C. -/
theorem State.fieldChange_spec (s : State) {n : Nat} {f : Rf} {v : Nat} (hw : f.lo + f.len ≤ 32) (hv : v < 2 ^ f.len)
    (hf : f.addr ≠ R.RDI_CHG_TICK_LO n) (ticks : Nat) :
    let t := (s.set f v).frontChange n ticks
    t.get f = v ∧ t.inp n = (s.inp n).unsettledFrom (s.tick + 2) ticks ∧ t.wideVal (R.RDI_CHG_TICK_LO n) = s.tick + 2 ∧
    s.fieldsOnly t [f, RDI_CHG_TICK_LO.TICK n] ∧ s.othersSame t State.inp n ∧
    t = { s with regs := t.regs, inputs := t.inputs, wide := t.wide } := by
  refine ⟨?_, ?_, State.wideVal_frontChange .., ?_, State.othersSame_frontChange (fun _ _ => rfl) _, rfl⟩
  · rw [State.get_frontChange _ _ _ hf, s.get_set_of_lt hw hv]
  · exact (State.inp_frontChange ..).trans (if_pos rfl)
  · exact ((State.fieldsOnly_of_regs_eq rfl _).set (by simp) _).frontChange (by simp) _

theorem rdiAtt_ne_chg (n : Nat) : R.RDI_ATT n ≠ R.RDI_CHG_TICK_LO n := by
  unfold R.RDI_ATT R.RDI_CHG_TICK_LO
  omega

theorem rdiCfg_ne_chg (n : Nat) : R.RDI_CFG n ≠ R.RDI_CHG_TICK_LO n := by
  unfold R.RDI_CFG R.RDI_CHG_TICK_LO
  omega

/-! ## Attenuation and injection -/

theorem exec_rdiAttWrite (s : State) (n : Fin 16) (att : BitVec 6) : exec (.rdiAttWrite n att) s =
    .next (if s.get (RDI_ATT.ATT n) = att.toNat then s else (s.set (RDI_ATT.ATT n) att.toNat).frontChange n 24) := rfl

theorem exec_rdiInjWrite (s : State) (n : Fin 16) (v : Bool) : exec (.rdiInjWrite n v) s =
    .next (if s.bit (RDI_CFG.INJ n) = v then s else (s.setBit (RDI_CFG.INJ n) v).frontChange n 16) := rfl

theorem exec_rdiAttWrite_changes {n : Fin 16} {att : BitVec 6} (h : s.get (RDI_ATT.ATT n) ≠ att.toNat) :
    ∃ t, exec (.rdiAttWrite n att) s = .next t ∧ t.get (RDI_ATT.ATT n) = att.toNat ∧
      t.inp n = (s.inp n).unsettledFrom (s.tick + 2) 24 ∧ t.wideVal (R.RDI_CHG_TICK_LO n) = s.tick + 2 ∧
      s.fieldsOnly t [RDI_ATT.ATT n, RDI_CHG_TICK_LO.TICK n] ∧ s.othersSame t State.inp n ∧
      t = { s with regs := t.regs, inputs := t.inputs, wide := t.wide } :=
  ⟨_, by rw [exec_rdiAttWrite, if_neg h],
    s.fieldChange_spec (f := RDI_ATT.ATT n) (by decide : 0 + 6 ≤ 32) att.isLt (rdiAtt_ne_chg n) 24⟩

theorem exec_rdiInjWrite_changes {n : Fin 16} {v : Bool} (h : s.bit (RDI_CFG.INJ n) ≠ v) :
    ∃ t, exec (.rdiInjWrite n v) s = .next t ∧ t.bit (RDI_CFG.INJ n) = v ∧
      t.inp n = (s.inp n).unsettledFrom (s.tick + 2) 16 ∧ t.wideVal (R.RDI_CHG_TICK_LO n) = s.tick + 2 ∧
      s.fieldsOnly t [RDI_CFG.INJ n, RDI_CHG_TICK_LO.TICK n] ∧ s.othersSame t State.inp n ∧
      t = { s with regs := t.regs, inputs := t.inputs, wide := t.wide } := by
  obtain ⟨hget, hrest⟩ := s.fieldChange_spec (f := RDI_CFG.INJ n) (v := if v then 1 else 0) (by decide : 2 + 1 ≤ 32)
    (by cases v <;> decide : _ < 2 ^ 1) (rdiCfg_ne_chg n) 16
  exact ⟨_, by rw [exec_rdiInjWrite, if_neg h, State.setBit_eq], State.bit_of_get hget, hrest⟩

/-! ## Enabling and disabling -/

/-- An input that has never been enabled comes on: its one offline span ends at C. -/
theorem exec_rdiEnSet {n : Fin 16} (hen : s.bit (RDI_CFG.EN n) = false) (hoffs : (s.inp n).offs = [(none, none)]) :
    exec (.rdiEnSet n) s = .next (((s.setBit (RDI_CFG.EN n) true).setInp n
      { s.inp n with offs := [(none, some (s.tick + 2))] }).frontChange n 24) := by
  have hexec : exec (.rdiEnSet n) s = execRdiEnSet n s := rfl
  have hinp : (s.setBit (RDI_CFG.EN n) true).inp n = s.inp n := rfl
  rw [hexec, execRdiEnSet, hen, if_neg Bool.false_ne_true]
  dsimp only
  rw [State.modInp_eq, hinp, hoffs]
  rfl

theorem exec_rdiEnSet_enabled {n : Fin 16} (hen : s.bit (RDI_CFG.EN n) = true) : exec (.rdiEnSet n) s = .next s := by
  have hexec : exec (.rdiEnSet n) s = execRdiEnSet n s := rfl
  rw [hexec, execRdiEnSet, if_pos hen]

theorem exec_rdiEnClear {n : Fin 16} (hen : s.bit (RDI_CFG.EN n) = true) : exec (.rdiEnClear n) s =
    .next ((s.setBit (RDI_CFG.EN n) false).setInp n
      { s.inp n with offs := (s.inp n).offs ++ [(some (s.tick + 2), none)] }) := by
  have hexec : exec (.rdiEnClear n) s = execRdiEnClear n s := rfl
  rw [hexec, execRdiEnClear, hen]
  rfl

/-- Setting EN: the input is online from C, and unsettled for 24 pin ticks. -/
theorem exec_rdiEnSet_spec {n : Fin 16} (hen : s.bit (RDI_CFG.EN n) = false) (hoffs : (s.inp n).offs = [(none, none)]) :
    ∃ t, exec (.rdiEnSet n) s = .next t ∧ t.bit (RDI_CFG.EN n) = true ∧
      t.inp n = { s.inp n with offs := [(none, some (s.tick + 2))] }.unsettledFrom (s.tick + 2) 24 ∧
      s.fieldsOnly t [RDI_CFG.EN n, RDI_CHG_TICK_LO.TICK n] ∧ s.othersSame t State.inp n ∧
      t = { s with regs := t.regs, inputs := t.inputs, wide := t.wide } := by
  refine ⟨_, exec_rdiEnSet hen hoffs, ?_, ?_, ?_, State.othersSame_frontChange (State.othersSame_setInp (fun _ _ => rfl) _) _, rfl⟩
  · rw [State.bit, State.get_frontChange _ _ _ (rdiCfg_ne_chg n)]
    exact State.bit_setBit_same s true rfl (by decide : 0 < 32)
  · rw [State.inp_frontChange, if_pos rfl, State.inp_setInp_same]
    rfl
  · exact (((State.fieldsOnly_of_regs_eq rfl _).set (by simp) _).setInp n _).frontChange (by simp) _

/-- Clearing EN: every pin tick from C on is offline, and none is unsettled. -/
theorem exec_rdiEnClear_spec {n : Fin 16} (hen : s.bit (RDI_CFG.EN n) = true) :
    ∃ t, exec (.rdiEnClear n) s = .next t ∧ t.bit (RDI_CFG.EN n) = false ∧
      t.inp n = { s.inp n with offs := (s.inp n).offs ++ [(some (s.tick + 2), none)] } ∧
      s.fieldsOnly t [RDI_CFG.EN n] ∧ s.othersSame t State.inp n ∧ t = { s with regs := t.regs, inputs := t.inputs } :=
  ⟨_, exec_rdiEnClear hen, State.bit_setBit_same s false rfl (by decide : 0 < 32), State.inp_setInp_same ..,
    ((State.fieldsOnly_of_regs_eq rfl _).set (by simp) _).setInp n _, State.othersSame_setInp (fun _ _ => rfl) _, rfl⟩

/-! ## Mode and oscillator word -/

theorem exec_rdiModeWrite (s : State) (n : Fin 16) (v : Bool) : exec (.rdiModeWrite n v) s =
    .next (if s.bit (RDI_CFG.EN n) then s.setBit (RDI_STAT.CFG_REJ n) true else s.setBit (RDI_CFG.MODE n) v) := rfl

theorem exec_rdiLofWrite_enabled {n : Fin 16} (hen : s.bit (RDI_CFG.EN n) = true) (hi : BitVec 16) :
    exec (.rdiLofWrite n hi) s = .next (s.setBit (RDI_STAT.CFG_REJ n) true) := by
  have hexec : exec (.rdiLofWrite n hi) s = execRdiLofWrite n hi s := rfl
  rw [hexec, execRdiLofWrite, if_pos hen]

theorem exec_rdiLofWrite_disabled {n : Fin 16} (hen : s.bit (RDI_CFG.EN n) = false) (hi : BitVec 16) :
    exec (.rdiLofWrite n hi) s = .next ((s.set (RDI_LOF_HI.LOF n) hi.toNat).setInp n
      { s.inp n with lof := (s.set (RDI_LOF_HI.LOF n) hi.toNat).pair (R.RDI_LOF_LO n) }) := by
  have hexec : exec (.rdiLofWrite n hi) s = execRdiLofWrite n hi s := rfl
  rw [hexec, execRdiLofWrite, hen]
  rfl

/-- The pair with its high half just written. -/
theorem State.pair_rdiLof (s : State) (n : Nat) (hi : BitVec 16) :
    (s.set (RDI_LOF_HI.LOF n) hi.toNat).pair (R.RDI_LOF_LO n) = hi ++ s.rd (R.RDI_LOF_LO n) := by
  have hne : R.RDI_LOF_LO n ≠ R.RDI_LOF_HI n := by
    unfold R.RDI_LOF_LO R.RDI_LOF_HI
    omega
  have hhigh : (s.set (RDI_LOF_HI.LOF n) hi.toNat).rd (R.RDI_LOF_LO n + 4) = fieldSet (s.rd (R.RDI_LOF_HI n)) 0 16 hi.toNat :=
    State.rd_wr_same ..
  rw [State.pair, hhigh, fieldSet_setWidth _ hi (by decide), State.rd_set_ne _ _ _ hne]

/-- RDI_LOF is latched whole by a write of its high half. -/
theorem exec_rdiLofWrite_spec {n : Fin 16} (hen : s.bit (RDI_CFG.EN n) = false) (hi : BitVec 16) :
    ∃ t, exec (.rdiLofWrite n hi) s = .next t ∧ t.get (RDI_LOF_HI.LOF n) = hi.toNat ∧
      (t.inp n).lof = hi ++ s.rd (R.RDI_LOF_LO n) ∧ s.fieldsOnly t [RDI_LOF_HI.LOF n] ∧ s.othersSame t State.inp n ∧
      t = { s with regs := t.regs, inputs := t.inputs } := by
  refine ⟨_, exec_rdiLofWrite_disabled hen hi, s.get_set_of_lt (f := RDI_LOF_HI.LOF n) (by decide : 0 + 16 ≤ 32) hi.isLt, ?_,
    ((State.fieldsOnly_of_regs_eq rfl _).set (by simp) _).setInp n _, State.othersSame_setInp (fun _ _ => rfl) _, rfl⟩
  rw [State.inp_setInp_same, State.pair_rdiLof]

/-! ## The read of DEM_LAST_DEC -/

theorem State.getInt_answer (s : State) (w : Word) (f : Rf) : (s.answer w).getInt f = s.getInt f := rfl

theorem State.pair_answer (s : State) (w : Word) (a : Nat) : (s.answer w).pair a = s.pair a := rfl

/-- An answer to a read that has changed registers. -/
theorem State.answer_of_exceptRegs_eq (h : t.exceptRegs = s.exceptRegs) (w : Word) :
    t.answer w = { s with regs := (t.answer w).regs, answered := (t.answer w).answered } :=
  congrArg (State.answer · w) (State.eq_of_exceptRegs_eq h)

/-- The registers DEM_LAST_I, DEM_LAST_Q and DEM_LAST_END as a read of DEM_LAST_DEC latches them. -/
def State.lastLatched (s : State) (n k : Nat) (d : Demod) : State :=
  ((s.set (DEM_LAST_I.VALUE n k) (BitVec.ofInt 18 d.lastI).toNat).set (DEM_LAST_Q.VALUE n k)
    (BitVec.ofInt 18 d.lastQ).toNat).setPair (R.DEM_LAST_END_LO n k) d.lastEnd

theorem demLast_lt (n k : Nat) : R.DEM_LAST_I n k < R.DEM_LAST_Q n k ∧ R.DEM_LAST_Q n k < R.DEM_LAST_END_LO n k ∧
    R.DEM_LAST_DEC n k < R.DEM_LAST_I n k := by
  unfold R.DEM_LAST_I R.DEM_LAST_Q R.DEM_LAST_END_LO R.DEM_LAST_DEC
  omega

theorem exec_demLastDecRead (s : State) (n k : Fin 16) : exec (.demLastDecRead n k) s =
    .next ((s.lastLatched n k (s.demod (16 * n.val + k.val))).answer (s.rd (R.DEM_LAST_DEC n k))) := by
  obtain ⟨hiq, -, hdec⟩ := demLast_lt n k
  have hkeep : ∀ v w : Nat, ((s.set (DEM_LAST_I.VALUE n k) v).set (DEM_LAST_Q.VALUE n k) w).rd (R.DEM_LAST_DEC n k) =
      s.rd (R.DEM_LAST_DEC n k) := fun v w =>
    (State.rd_set_ne _ _ _ (Nat.ne_of_lt (hdec.trans hiq))).trans (State.rd_set_ne _ _ _ (Nat.ne_of_lt hdec))
  have hexec : exec (.demLastDecRead n k) s = execDemLastDecRead n k s := rfl
  rw [hexec, execDemLastDecRead, hkeep]
  rfl

/-- The point and the end tick that the read latches. -/
theorem State.lastLatched_spec (s : State) (n k : Nat) (d : Demod) :
    let t := s.lastLatched n k d
    t.getInt (DEM_LAST_I.VALUE n k) = (BitVec.ofInt 18 d.lastI).toInt ∧
    t.getInt (DEM_LAST_Q.VALUE n k) = (BitVec.ofInt 18 d.lastQ).toInt ∧ t.pair (R.DEM_LAST_END_LO n k) = d.lastEnd := by
  obtain ⟨hiq, hend, -⟩ := demLast_lt n k
  refine ⟨State.getInt_of_get ?_, State.getInt_of_get ?_, State.pair_setPair ..⟩
  · rw [State.lastLatched, State.get_setPair_ne _ _ (Nat.ne_of_lt (hiq.trans hend)) (Nat.ne_of_lt (Nat.lt_add_right 4 (hiq.trans hend))),
      State.get_set_ne _ _ _ _ (Nat.ne_of_lt hiq)]
    exact s.get_set_of_lt (f := DEM_LAST_I.VALUE n k) (by decide : 0 + 18 ≤ 32) (BitVec.isLt _)
  · rw [State.lastLatched, State.get_setPair_ne _ _ (Nat.ne_of_lt hend) (Nat.ne_of_lt (Nat.lt_add_right 4 hend))]
    exact State.get_set_of_lt (f := DEM_LAST_Q.VALUE n k) _ (by decide : 0 + 18 ≤ 32) (BitVec.isLt _)

theorem State.exceptRegs_lastLatched (s : State) (n k : Nat) (d : Demod) : (s.lastLatched n k d).exceptRegs = s.exceptRegs := by
  rw [State.lastLatched, State.setPair, State.exceptRegs_wr, State.exceptRegs_wr, State.exceptRegs_set, State.exceptRegs_set]

theorem exec_demLastDecRead_spec (s : State) (n k : Fin 16) :
    let d := s.demod (16 * n.val + k.val)
    ∃ t, exec (.demLastDecRead n k) s = .next t ∧ t.answered = some (s.rd (R.DEM_LAST_DEC n k)) ∧
      t.getInt (DEM_LAST_I.VALUE n k) = (BitVec.ofInt 18 d.lastI).toInt ∧
      t.getInt (DEM_LAST_Q.VALUE n k) = (BitVec.ofInt 18 d.lastQ).toInt ∧ t.pair (R.DEM_LAST_END_LO n k) = d.lastEnd ∧
      t = { s with regs := t.regs, answered := t.answered } := by
  obtain ⟨hI, hQ, hend⟩ := s.lastLatched_spec n k (s.demod (16 * n.val + k.val))
  exact ⟨_, exec_demLastDecRead s n k, rfl, (State.getInt_answer ..).trans hI, (State.getInt_answer ..).trans hQ,
    (State.pair_answer ..).trans hend, State.answer_of_exceptRegs_eq (s.exceptRegs_lastLatched ..) _⟩

/-- Settles O20: each write by whether it changes anything, or is accepted, and the read with its companions. -/
theorem frontEndChanges : Obligations.FrontEndChanges := by
  unfold Obligations.FrontEndChanges
  intro s n k att v hi
  refine ⟨fun h => ?_, exec_rdiAttWrite_changes, fun h => ?_, exec_rdiInjWrite_changes, exec_rdiEnSet_spec,
    fun h => ⟨exec_rdiEnSet_enabled h, exec_rdiEnClear_spec h⟩, fun h => ⟨?_, exec_rdiLofWrite_enabled h hi⟩,
    fun h => ⟨?_, exec_rdiLofWrite_spec h hi⟩, exec_demLastDecRead_spec s n k⟩
  · rw [exec_rdiAttWrite, if_pos h]
  · rw [exec_rdiInjWrite, if_pos h]
  · rw [exec_rdiModeWrite, if_pos h]
  · rw [exec_rdiModeWrite, h]
    rfl

end Sys2Proof.Machine
end

section
/-! PROOF. The opening of a window, and the linear discriminator (R184, R187, R188). -/

namespace Sys2Proof.Machine

variable {s t : State} {w : Win} {i q : Int}

/-! ## A trigger engine leaves the demodulators -/

theorem State.demods_adoptFire (s : State) (n : Nat) (f : Tick) : (s.adoptFire n f).demods = s.demods := by
  unfold State.adoptFire State.capture
  simp only [State.wr_frame, State.setWideVal_frame, State.set_frame, State.modAcq_eq, State.setAcq_frame]

theorem State.demods_trgEnter (s : State) (n k : Nat) (t : Tick) : (s.trgEnter n k t).demods = s.demods := by
  rw [State.trgEnter]
  simp only [State.set_frame, State.modAcq_eq, State.setAcq_frame]

theorem State.demods_trgComplete (s : State) (n : Nat) (d : Tick) : (s.trgComplete n d).demods = s.demods := by
  unfold State.trgComplete State.detect
  dsimp only
  split
  · exact (State.demods_adoptFire ..).trans (State.when_same _ State.demods rfl)
  · exact State.demods_trgEnter ..

/-- An occurrence counts in the unit, and may complete its state. -/
theorem State.demods_trgOccur (s : State) (n src : Nat) (d : Tick) : (s.trgOccur n src d).demods = s.demods := by
  unfold State.trgOccur
  extract_lets a u
  have hu : u.demods = s.demods := by simp only [u, State.modAcq_eq, State.setAcq_frame]
  clear_value u
  have hcounted : ∀ (stay : Bool) (k : Nat),
      (if stay then s else if k ≤ a.count + 1 then u.trgComplete n d else u).demods = s.demods := by
    intro stay k
    split
    · rfl
    · split
      · exact (State.demods_trgComplete ..).trans hu
      · exact hu
  exact hcounted _ _

theorem State.demods_trgMeasure (s : State) (n k : Nat) : (s.trgMeasure n k).demods = s.demods :=
  State.when_same _ State.demods (State.demods_trgOccur ..)

theorem State.demod_of_demods_eq (h : t.demods = s.demods) (j : Nat) : t.demod j = s.demod j := by
  rw [State.demod, h, State.demod]

/-! ## What an opening window latches (R184) -/

/-- A 32-bit field in two's complement is its word. -/
theorem State.getInt_word (s : State) (a : Nat) : s.getInt ⟨a, 0, 32⟩ = (s.rd a).toInt := by
  refine State.getInt_of_get (f := ⟨a, 0, 32⟩) ?_
  rw [State.get, fieldOf, Nat.shiftRight_zero, Nat.mod_eq_of_lt (s.rd a).isLt]

/-- Line `j` of demodulator `k` of input `n` as the registers hold it: DISC_A, DISC_B and DISC_T. -/
def State.discLine (s : State) (n k j : Nat) : Int × Int × Int :=
  (s.getInt (DISC_A.COEF n k j), s.getInt (DISC_B.COEF n k j), (s.rd (R.DISC_T n k j)).toInt)

/-- A window opened now, with the discriminator of demodulator `k` of input `n` as it stands. -/
def Win.HasDisc (w : Win) (s : State) (n k : Nat) : Prop :=
  w.o = s.tick ∧ w.leakEn = s.bit (DISC_CFG.LEAK_EN n k) ∧ w.leakState = s.bit (DISC_CFG.LEAK_STATE n k) ∧
  w.nstate = s.bit (DISC_CFG.NSTATE n k) ∧ w.lines = [s.discLine n k 0, s.discLine n k 1, s.discLine n k 2]

theorem State.openWindow_wins (s : State) {src : Nat} (set : Nat) (shot : Word)
    (hshut : ∀ x ∈ (s.demod src).wins, x.close.isNone = false) :
    ∃ win : Win, ((s.openWindow src set shot).demod src).wins = (s.demod src).wins ++ [win] ∧
      win.HasDisc s (src / 16) (src % 16) := by
  have hnone : (s.demod src).wins.any (fun x => x.close.isNone) = false := by
    rw [List.any_eq_false]
    exact fun x hx => by rw [hshut x hx]; decide
  unfold State.openWindow
  dsimp only
  rw [hnone, if_neg Bool.false_ne_true, State.demod_of_demods_eq (State.demods_trgMeasure ..)]
  refine ⟨_, congrArg Demod.wins ((s.demod_setDemod src src _).trans (if_pos rfl)), rfl, rfl, rfl, rfl, ?_⟩
  have hthr : ∀ j, (BitVec.ofNat 32 (s.get (DISC_T.THR (src / 16) (src % 16) j))).toInt =
      (s.rd (R.DISC_T (src / 16) (src % 16) j)).toInt := fun j => s.getInt_word _
  simp only [hthr, State.discLine]

/-! ## Classification (R187, R188) -/

/-- Line `j` of a window at a point. -/
def Win.lineAt (w : Win) (j : Nat) (i q : Int) : Int := lineValue (w.lines.getD j (0, 0, 0)) i q

theorem Win.classify_eq (w : Win) (i q : Int) :
    let leak := w.leakEn && decide (0 ≤ w.lineAt 2 i q)
    w.classify i q = (if leak && w.leakState then 3 else
      if !w.nstate then (if 0 ≤ w.lineAt 0 i q then 1 else 0)
      else if w.lineAt 0 i q < 0 then 0 else if w.lineAt 1 i q < 0 then 1 else 2, leak) := rfl

theorem Win.classify_leak_iff : (w.classify i q).2 = true ↔ w.leakEn = true ∧ 0 ≤ w.lineAt 2 i q := by
  rw [Win.classify_eq, Bool.and_eq_true, decide_eq_true_eq]

theorem Win.classify_leaked (h : (w.classify i q).2 = true ∧ w.leakState = true) : (w.classify i q).1 = 3 := by
  rw [Win.classify_eq] at h ⊢
  exact if_pos ((Bool.and_eq_true ..).mpr h)

theorem Win.classify_unleaked (h : ¬((w.classify i q).2 = true ∧ w.leakState = true)) : (w.classify i q).1 =
    if !w.nstate then (if 0 ≤ w.lineAt 0 i q then 1 else 0)
    else if w.lineAt 0 i q < 0 then 0 else if w.lineAt 1 i q < 0 then 1 else 2 := by
  rw [Win.classify_eq] at h ⊢
  exact if_neg (by rwa [Bool.and_eq_true])

/-- The lines of a window's discriminator, from the registers it latched. -/
theorem Win.HasDisc.lineAt {n k : Nat} (h : w.HasDisc s n k) {j : Nat} (hj : j < 3) (i q : Int) : w.lineAt j i q =
    s.getInt (DISC_A.COEF n k j) * i + s.getInt (DISC_B.COEF n k j) * q - (s.rd (R.DISC_T n k j)).toInt * 2 ^ 3 := by
  obtain ⟨-, -, -, -, hlines⟩ := h
  have hline : w.lines.getD j (0, 0, 0) = s.discLine n k j := by
    rw [hlines]
    match j, hj with
    | 0, _ | 1, _ | 2, _ => rfl
  rw [Win.lineAt, hline]
  rfl

/-- Settles O22: the window latches the lines, and classifies by their values. -/
theorem linearDiscriminator : Obligations.LinearDiscriminator := by
  unfold Obligations.LinearDiscriminator
  intro s n k set shot i q mask src L leak three hshut
  obtain ⟨win, hwins, hdisc⟩ := s.openWindow_wins set shot hshut
  have hn : src / 16 = n := by omega
  have hk : src % 16 = k := by omega
  rw [hn, hk] at hdisc
  have hline : ∀ j, j < 3 → win.lineAt j i q = L j := fun j hj => hdisc.lineAt hj i q
  obtain ⟨ho, hen, hstate, hns, -⟩ := hdisc
  have hleak : (win.classify i q).2 = true ↔ leak := by
    rw [Win.classify_leak_iff, hen, hline 2 (by decide)]
  have hthree : (win.classify i q).2 = true ∧ win.leakState = true ↔ three := by
    rw [hleak, hstate]
  have hlinear (h : ¬three) := Win.classify_unleaked (mt hthree.mp h)
  rw [hline 0 (by decide), hline 1 (by decide), hns] at hlinear
  refine ⟨win, hwins, ho, hleak, fun h => ?_, fun h hns => ?_, fun h hns => ?_⟩
  · have h3 := Win.classify_leaked (hthree.mpr h)
    exact ⟨h3, by rw [h3]; rfl⟩
  · rw [hlinear h, hns, Bool.not_false, if_pos rfl]
  · rw [hlinear h, hns, Bool.not_true, if_neg Bool.false_ne_true]

end Sys2Proof.Machine
end

section
/-! PROOF. What a kernel engine's instruction does when it executes, and the multiplies (R208, R211, R213). -/

namespace Sys2Proof.Machine

/-! ## Engines behind other writes -/

section
variable {s t : State}

theorem State.kern_of_kerns_eq (h : t.kerns = s.kerns) (j : Nat) : t.kern j = s.kern j := by
  rw [State.kern, h, State.kern]

@[simp] theorem State.kern_wr (s : State) (a : Nat) (w : Word) (j : Nat) : (s.wr a w).kern j = s.kern j :=
  State.kern_of_kerns_eq rfl j

@[simp] theorem State.kern_set (s : State) (f : Rf) (v j : Nat) : (s.set f v).kern j = s.kern j :=
  State.kern_of_kerns_eq rfl j

@[simp] theorem State.kern_setBit (s : State) (f : Rf) (v : Bool) (j : Nat) : (s.setBit f v).kern j = s.kern j := s.kern_set f _ j

@[simp] theorem State.kern_bump (s : State) (f : Rf) (i j : Nat) : (s.bump f i).kern j = s.kern j := s.kern_set f _ j

end

/-! ## Executing one instruction (R211) -/

section
variable {s s' : State} {n : Fin 16} {w : Word} {c : Instr} {op : Nat} {body : Word → Kern → State → KRes} {k : Kern}

/-- An instruction that its own table makes illegal stops the engine. -/
theorem exec_kern_illegal (hexec : exec c s = .next (s.kernDo n false op body)) (h : s.kernAt n w) (hop : w.toNat / 2 ^ 26 = op)
    (hbody : body w (s.kern n) s = .illegal) (hk : kernOps.contains op = true := by rfl) :
    exec c s = .next (s.kernFault n Src.KRN_ILLEGAL 1 (s.kern n).pc) := by
  rw [hexec, State.kernDo_at h op hop hk, hbody]

/-- An instruction that finds a stack full or empty stops the engine. -/
theorem exec_kern_stack (hexec : exec c s = .next (s.kernDo n false op body)) (h : s.kernAt n w) (hop : w.toNat / 2 ^ 26 = op)
    (hbody : body w (s.kern n) s = .stack) (hk : kernOps.contains op = true := by rfl) :
    exec c s = .next (s.kernFault n Src.KRN_STACK 2 (s.kern n).pc) := by
  rw [hexec, State.kernDo_at h op hop hk, hbody]

/-- An instruction that leaves the engine as `k`: the engine goes on from there. -/
theorem exec_kern_ok (hexec : exec c s = .next (s.kernDo n false op body)) (h : s.kernAt n w) (hop : w.toNat / 2 ^ 26 = op)
    (hbody : body w (s.kern n) s = .ok k s') (hkern : s'.kern n = s.kern n := by rfl) (hk : kernOps.contains op = true := by rfl) :
    exec c s = .next (s'.kernOn n k) := by
  rw [hexec, State.kernDo_at h op hop hk, hbody, State.kernOn, hkern]

/-- An instruction that writes registers in stage A and nothing else. -/
theorem exec_kern_put {f : KRegs → KRegs} {r : KRegs} (hexec : exec c s = .next (s.kernDo n false op body)) (h : s.kernAt n w)
    (hop : w.toNat / 2 ^ 26 = op) (hbody : body w (s.kern n) s = .ok ((s.kern n).put f) s) (hfull : f (s.kern n).full = r)
    (hk : kernOps.contains op = true := by rfl) : exec c s = .next (s.kernOn n { s.kern n with full := r }) :=
  hfull ▸ exec_kern_ok hexec h hop hbody rfl hk

/-- A branch: two delay slots follow. -/
theorem exec_kern_branch {dest : Option (BitVec 12)} (hexec : exec c s = .next (s.kernDo n false op body)) (h : s.kernAt n w)
    (hop : w.toNat / 2 ^ 26 = op) (hbody : body w (s.kern n) s = .branch k s dest) (hk : kernOps.contains op = true := by rfl) :
    exec c s = .next (s.kernJump n k dest) := by
  rw [hexec, State.kernDo_at h op hop hk, hbody, State.kernJump]

end

/-! ## Multiplies (R208) -/

/-- An accumulator written modulo 2^48, with sticky V. -/
theorem KRegs.accum_eq (r : KRegs) (d : BitVec 2) (v : Int) : r.accum d v =
    { r.setA d (BitVec.ofInt 48 v) with v := r.v || (decide (v < -2 ^ 47) || decide (2 ^ 47 ≤ v)) } := by
  rw [KRegs.accum, acc48, satFlag48]

/-- What a multiply in MODE 0, 1 or 2 brings to its accumulator. -/
def kernProduct (mode : Nat) (old p : Int) : Int := if mode = 0 then p else if mode = 1 then old + p else old - p

/-- A multiply in a mode that has a meaning. -/
theorem kernMul_mode {w : Word} (hmode : w.toNat % 4 ≠ 3) (e : Kern) (s : State) (a b : BitVec 18) : kernMul w e s a b =
    .ok { e with full := e.full.accum (kf.d w) (kernProduct (w.toNat % 4) (e.full.ar (kf.d w)).toInt (a.toInt * b.toInt)) } s := by
  have hcases : w.toNat % 4 = 0 ∨ w.toNat % 4 = 1 ∨ w.toNat % 4 = 2 := by omega
  unfold kernMul
  obtain h | h | h := hcases <;> rw [h] <;> rfl

/-- MODE 3 is no mode. -/
theorem kernMul_illegal {w : Word} (hmode : w.toNat % 4 = 3) (e : Kern) (s : State) (a b : BitVec 18) :
    kernMul w e s a b = .illegal := by
  simp only [kernMul, hmode]

/-- Settles O25: the three multiplies differ in where their operands come from. -/
theorem kernelMultiplies : Obligations.KernelMultiplies := by
  unfold Obligations.KernelMultiplies
  intro s n w h e d old x1 x2 x3 ma mb put val
  have hput (k : Kern) (a b : BitVec 18) (hmode : w.toNat % 4 ≠ 3) (hfull : k.full = e.full) :
      kernMul w k s a b = .ok (put k (val (a.toInt * b.toInt))) s := by
    rw [kernMul_mode hmode, KRegs.accum_eq, hfull, ← Bool.or_assoc]
    rfl
  exact ⟨fun hop hmode => exec_kern_ok rfl h hop (hput _ _ _ hmode rfl),
    fun hop hmode => exec_kern_ok rfl h hop (hput _ _ _ hmode rfl),
    fun hop hmode => exec_kern_ok rfl h hop (hput _ _ _ hmode rfl),
    fun hop hmode => exec_kern_illegal rfl h hop (kernMul_illegal hmode ..)⟩

end Sys2Proof.Machine
end

section
/-! PROOF. The post-modifiers of a kernel engine's address registers (R205 to R207). -/

namespace Sys2Proof.Machine

/-! ## The size of a modulo buffer's block (R206) -/

/-- The search for the exponent, as far as it has gone. -/
theorem log2Up_range (l m : Nat) : (List.range m).foldl (fun q i => if 2 ^ i < l then i + 1 else q) 0 = min m (Nat.clog 2 l) := by
  induction m with
  | zero => rfl
  | succ m ih =>
    have hlt := Nat.lt_clog_iff_pow_lt Nat.one_lt_two (x := l) (y := m)
    rw [List.range_succ, List.foldl_append, ih, List.foldl_cons, List.foldl_nil]
    split <;> omega

/-- The smallest exponent whose power reaches `l`. -/
theorem log2Up_eq_clog {l : Nat} (h : l ≤ 2 ^ 16) : log2Up l = Nat.clog 2 l := by
  rw [log2Up, log2Up_range, Nat.min_eq_right (Nat.clog_le_of_le_pow h)]

/-! ## Reversed bits (R207) -/

/-- One more place moves every reversed bit up by one, under the bit that the place adds. -/
theorem revBits_succ (q v : Nat) : revBits (q + 1) v = Nat.bit (v.testBit q) (revBits q v) := by
  have hup : (List.range q).foldl (fun acc i => if v.testBit i then acc + 2 ^ (q + 1 - 1 - i) else acc) 0 = 2 * revBits q v := by
    rw [revBits, ← List.foldl_hom (g₂ := fun acc i => if v.testBit i then acc + 2 * 2 ^ (q - 1 - i) else acc) (2 * ·)
      (fun a i => by split <;> omega)]
    refine List.foldl_ext _ _ _ fun a i hi => ?_
    have hplace : q + 1 - 1 - i = q - 1 - i + 1 := by have := List.mem_range.mp hi; omega
    rw [hplace, Nat.pow_succ']
  rw [revBits, List.range_succ, List.foldl_append, hup, List.foldl_cons, List.foldl_nil, Nat.bit_val, Nat.add_sub_cancel, Nat.sub_self]
  cases v.testBit q <;> rfl

theorem revBits_lt (q v : Nat) : revBits q v < 2 ^ q := by
  induction q with
  | zero => exact Nat.one_pos
  | succ q ih => rwa [revBits_succ, Nat.bit_lt_two_pow_succ_iff]

/-- Reversing moves bit `i` to bit `q - 1 - i`. -/
theorem testBit_revBits {q i : Nat} (v : Nat) (h : i < q) : (revBits q v).testBit i = v.testBit (q - 1 - i) := by
  induction q generalizing i with
  | zero => omega
  | succ q ih =>
    rw [revBits_succ]
    cases i with
    | zero => exact Nat.testBit_bit_zero ..
    | succ i => rw [Nat.testBit_bit_succ, ih (by omega), show q - 1 - i = q + 1 - 1 - (i + 1) by omega]

/-- Reversing twice gives the low bits back. -/
theorem revBits_revBits {q v : Nat} (h : v < 2 ^ q) : revBits q (revBits q v) = v := by
  refine Nat.eq_of_testBit_eq fun i => ?_
  by_cases hi : i < q
  · rw [testBit_revBits _ hi, testBit_revBits _ (by omega), show q - 1 - (q - 1 - i) = i by omega]
  · have hpow : 2 ^ q ≤ 2 ^ i := Nat.pow_le_pow_right Nat.two_pos (Nat.not_lt.mp hi)
    rw [Nat.testBit_lt_two_pow ((revBits_lt ..).trans_le hpow), Nat.testBit_lt_two_pow (h.trans_le hpow)]

/-! ## An offset within the block of an address -/

section
variable {a r q : Nat}

/-- The block of an address starts at a multiple of its size. -/
theorem block_start (a q : Nat) : a - a % 2 ^ q = 2 ^ q * (a / 2 ^ q) := by
  have := Nat.div_add_mod a (2 ^ q)
  omega

theorem block_add_div (hr : r < 2 ^ q) : (a - a % 2 ^ q + r) / 2 ^ q = a / 2 ^ q := by
  rw [block_start, Nat.mul_add_div (Nat.two_pow_pos q), Nat.div_eq_of_lt hr, Nat.add_zero]

theorem block_add_mod (hr : r < 2 ^ q) : (a - a % 2 ^ q + r) % 2 ^ q = r := by
  rw [block_start, Nat.mul_add_mod, Nat.mod_eq_of_lt hr]

/-- An address within a block of the space stays within the space. -/
theorem block_add_lt {k : Nat} (ha : a < 2 ^ k) (hq : q ≤ k) (hr : r < 2 ^ q) : a - a % 2 ^ q + r < 2 ^ k := by
  rw [← Nat.sub_add_cancel hq, Nat.pow_add] at ha ⊢
  rw [← Nat.div_lt_iff_lt_mul (Nat.two_pow_pos q)] at ha ⊢
  rwa [block_add_div hr]

end

/-! ## The post-modifiers -/

/-- What a modifier adds: one, minus one, or the step of the mode register. -/
def postStep (am : BitVec 32) (m : BitVec 2) : Int := if m = 1 then 1 else if m = 2 then -1 else (am.extractLsb' 16 16).toInt

/-- What a modifier adds to the reversed bits. -/
def reversedStep (am : BitVec 32) (m : BitVec 2) (q : Nat) : Int :=
  if m = 2 then -(revBits q 1 : Int) else if m = 1 then revBits q 1 else revBits q (postStep am m % 2 ^ q).toNat

/-- The modulo length of a mode register. -/
def moduloLen (am : BitVec 32) : Nat := (am.setWidth 15).toNat

theorem modifier_cases {m : BitVec 2} (hm : m ≠ 0) : m = 1 ∨ m = 2 ∨ m = 3 := by
  revert m
  decide

section
variable {a : BitVec 15} {am : BitVec 32} {m : BitVec 2}

/-- The three ways of a modifier. -/
theorem postModify_eq (a : BitVec 15) (am : BitVec 32) (hm : m ≠ 0) : postModify a am m =
    let q := log2Up (moduloLen am)
    let B := a.toNat - a.toNat % 2 ^ q
    if am.getLsbD 15 && decide (moduloLen am = 2 ^ q) && decide (1 ≤ q) && decide (q ≤ 14) then
      BitVec.ofNat 15 (B + revBits q (((revBits q (a.toNat % 2 ^ q) : Int) + reversedStep am m q) % 2 ^ q).toNat)
    else if moduloLen am = 0 then BitVec.ofInt 15 (a.toNat + postStep am m)
    else BitVec.ofNat 15 (B + (((a.toNat : Int) - B + postStep am m) % moduloLen am).toNat) := by
  obtain rfl | rfl | rfl := modifier_cases hm <;> rfl

theorem moduloLen_lt (am : BitVec 32) : moduloLen am < 2 ^ 15 := (am.setWidth 15).isLt

/-- The exponent of a buffer's block is the smallest whose power holds the buffer. -/
theorem log2Up_moduloLen (am : BitVec 32) : moduloLen am ≤ 2 ^ log2Up (moduloLen am) ∧
    ∀ p, moduloLen am ≤ 2 ^ p → log2Up (moduloLen am) ≤ p := by
  rw [log2Up_eq_clog ((moduloLen_lt am).le.trans (by decide))]
  exact ⟨Nat.le_pow_clog Nat.one_lt_two _, fun p => Nat.clog_le_of_le_pow⟩

/-- Without a length the register wraps at the end of the space. -/
theorem postModify_plain (hm : m ≠ 0) (hlen : moduloLen am = 0) : postModify a am m = BitVec.ofInt 15 (a.toNat + postStep am m) := by
  rw [postModify_eq a am hm, hlen, if_neg (by simp [log2Up]), if_pos rfl]

/-- With a length and no reversed carry the register wraps within its buffer. -/
theorem postModify_modulo (hm : m ≠ 0) (hlen : moduloLen am ≠ 0)
    (hbr : am.getLsbD 15 = false ∨ ∀ q, 1 ≤ q → q ≤ 14 → moduloLen am ≠ 2 ^ q) :
    let q := log2Up (moduloLen am)
    let B : Nat := a.toNat - a.toNat % 2 ^ q
    ((postModify a am m).toNat : Int) = B + ((a.toNat : Int) - B + postStep am m) % moduloLen am := by
  intro q B
  have hno : ¬(am.getLsbD 15 && decide (moduloLen am = 2 ^ q) && decide (1 ≤ q) && decide (q ≤ 14)) = true := by
    simp only [Bool.and_eq_true, decide_eq_true_eq]
    rintro ⟨⟨⟨hset, hpow⟩, hlow⟩, hhigh⟩
    obtain hclear | hne := hbr
    · exact Bool.false_ne_true (hclear.symm.trans hset)
    · exact hne q hlow hhigh hpow
  obtain ⟨hle, hleast⟩ := log2Up_moduloLen am
  have hq : q ≤ 15 := hleast 15 (moduloLen_lt am).le
  have hnonneg := Int.emod_nonneg ((a.toNat : Int) - B + postStep am m) (Int.ofNat_ne_zero.mpr hlen)
  have hlt := Int.emod_lt_of_pos ((a.toNat : Int) - B + postStep am m) (Int.natCast_pos.mpr (Nat.pos_of_ne_zero hlen))
  have hoffset : (((a.toNat : Int) - B + postStep am m) % moduloLen am).toNat < 2 ^ q :=
    ((Int.toNat_lt hnonneg).mpr hlt).trans_le hle
  rw [postModify_eq a am hm]
  dsimp only
  rw [if_neg hno, if_neg hlen, BitVec.toNat_ofNat, Nat.mod_eq_of_lt (block_add_lt a.isLt hq hoffset), Int.natCast_add,
    Int.toNat_of_nonneg hnonneg]

/-- With reversed carry the low bits step in reversed order and the others stay. -/
theorem postModify_reversed {q : Nat} (hm : m ≠ 0) (hlow : 1 ≤ q) (hhigh : q ≤ 14) (hlen : moduloLen am = 2 ^ q)
    (hbr : am.getLsbD 15 = true) :
    (postModify a am m).toNat / 2 ^ q = a.toNat / 2 ^ q ∧
    (revBits q ((postModify a am m).toNat % 2 ^ q) : Int) = ((revBits q (a.toNat % 2 ^ q) : Int) + reversedStep am m q) % 2 ^ q := by
  have hq : log2Up (moduloLen am) = q := by
    rw [log2Up_eq_clog ((moduloLen_lt am).le.trans (by decide)), hlen, Nat.clog_pow 2 q Nat.one_lt_two]
  have hpos : (0 : Int) < 2 ^ q := Int.pow_pos (by decide)
  have hnonneg := Int.emod_nonneg ((revBits q (a.toNat % 2 ^ q) : Int) + reversedStep am m q) hpos.ne'
  have hlt := Int.emod_lt_of_pos ((revBits q (a.toNat % 2 ^ q) : Int) + reversedStep am m q) hpos
  rw [postModify_eq a am hm, hq]
  dsimp only
  rw [if_pos (by simp [hbr, hlen, hlow, hhigh]), BitVec.toNat_ofNat, Nat.mod_eq_of_lt (block_add_lt a.isLt (by omega) (revBits_lt ..)),
    block_add_div (revBits_lt ..), block_add_mod (revBits_lt ..), revBits_revBits ?_, Int.toNat_of_nonneg hnonneg]
  · exact ⟨rfl, rfl⟩
  · zify
    rwa [Int.toNat_of_nonneg hnonneg]

end

/-- Settles O23: the three ways of a modifier, with the exponent of R206 and the reversal of R207. -/
theorem addressModification : Obligations.AddressModification := by
  unfold Obligations.AddressModification
  intro a am m hm L step r
  obtain ⟨hle, hleast⟩ := log2Up_moduloLen am
  refine ⟨fun hlen hbr => ⟨_, hle, hleast, postModify_modulo hm hlen hbr⟩, postModify_plain hm, fun q hlow hhigh hlen hbr => ?_⟩
  obtain ⟨hblock, hstep⟩ := postModify_reversed hm hlow hhigh hlen hbr
  exact ⟨hblock, hstep, fun v _ hi => testBit_revBits v hi⟩

end Sys2Proof.Machine
end

section
/-! PROOF. The memory and the data moves of a kernel engine (R202, R205, R209, R211, R215). -/

namespace Sys2Proof.Machine

/-! ## The map of the data memory (R202) -/

section
variable (s : State) (n : Nat) {a : BitVec 15}

/-- Working memory. -/
theorem State.kernPhys_working (h : a.toNat < 0x6000) : s.kernPhys n a = some a.toNat := if_pos h

/-- The bank in force. -/
theorem State.kernPhys_bank (hlow : 0x6000 ≤ a.toNat) (hhigh : a.toNat < 0x7000) : s.kernPhys n a =
    some (a.toNat + (if s.bit (KRN_STAT.BANK n) then 0x1000 else 0)) := by
  rw [State.kernPhys, if_neg (Nat.not_lt.mpr hlow), if_pos hhigh]

/-- No word stands behind an address from 0x7000 on. -/
theorem State.kernPhys_none (h : 0x7000 ≤ a.toNat) : s.kernPhys n a = none := by
  rw [State.kernPhys, if_neg (by omega), if_neg (by omega)]

theorem State.kernRead_some {p : Nat} (h : s.kernPhys n a = some p) : s.kernRead n a = (s.rd (R.KRN_DMEM n p)).setWidth 18 := by
  rw [State.kernRead, h]

theorem State.kernRead_none (h : s.kernPhys n a = none) : s.kernRead n a = 0 := by
  rw [State.kernRead, h]

theorem State.kernWrite_none (h : s.kernPhys n a = none) (v : BitVec 18) : s.kernWrite n a v = s := by
  rw [State.kernWrite, h]

/-- A store leaves every engine as it was. -/
theorem State.kern_kernWrite (a : BitVec 15) (v : BitVec 18) (j : Nat) : (s.kernWrite n a v).kern j = s.kern j := by
  rw [State.kernWrite]
  split
  · exact s.kern_wr _ _ j
  · rfl

end

/-! ## Narrowing (R209) -/

theorem kernNarrow_some (e : Kern) (a : BitVec 2) {w : Word} (h : kf.sh w ≤ 47) :
    kernNarrow e a w = some (narrow18 (e.vis.ar a) (kf.sh w) (kf.sat w)) := if_neg (Nat.not_lt.mpr h)

theorem kernNarrow_none (e : Kern) (a : BitVec 2) {w : Word} (h : 47 < kf.sh w) : kernNarrow e a w = none := if_pos h

/-! ## GETJ (R211) -/

/-- An item of the job being handled, zero outside a window-ready handler. -/
def Kern.jobItem (e : Kern) (f : Job → BitVec 18) : BitVec 18 := match e.job with | some j => f j | none => 0

theorem Kern.jobItem_some {e : Kern} {j : Job} (h : e.job = some j) (f : Job → BitVec 18) : e.jobItem f = f j := by
  rw [Kern.jobItem, h]

theorem Kern.jobItem_none {e : Kern} (h : e.job = none) (f : Job → BitVec 18) : e.jobItem f = 0 := by
  rw [Kern.jobItem, h]

/-- What GETJ reads: items of the job, then PPK, then the host's words. -/
def State.getjWord (s : State) (n : Nat) (e : Kern) (sel : Nat) : BitVec 18 :=
  if sel = 0 then e.jobItem (fun j => BitVec.ofInt 18 j.res.i)
  else if sel = 1 then e.jobItem (fun j => BitVec.ofInt 18 j.res.q)
  else if sel = 2 then e.jobItem (fun j => BitVec.ofNat 18 (j.res.status.toNat + j.res.src % 16 * 2 ^ 8 + flagNat j.lostPp * 2 ^ 12))
  else if sel = 3 then e.jobItem (fun j => BitVec.ofNat 18 j.res.sub)
  else if sel = 4 then e.vis.ppk.setWidth 18
  else BitVec.ofNat 18 (s.get (KRN_HIN.VALUE n (sel - 5)))

theorem State.getjWord_noJob (s : State) (n : Nat) {e : Kern} {sel : Nat} (h : sel ≤ 3) (hjob : e.job = none) :
    s.getjWord n e sel = 0 := by
  have hsel : sel = 0 ∨ sel = 1 ∨ sel = 2 ∨ sel = 3 := by omega
  simp only [State.getjWord, Kern.jobItem_none hjob]
  obtain rfl | rfl | rfl | rfl := hsel <;> rfl

theorem State.getjWord_host (s : State) (n : Nat) (e : Kern) {sel : Nat} (h : 5 ≤ sel) :
    s.getjWord n e sel = BitVec.ofNat 18 (s.get (KRN_HIN.VALUE n (sel - 5))) := by
  rw [State.getjWord, if_neg (by omega), if_neg (by omega), if_neg (by omega), if_neg (by omega), if_neg (by omega)]

/-- GETJ of an item that is not reserved. -/
theorem exec_krnGetj {s : State} {n : Fin 16} {w : Word} {v : BitVec 18} (h : s.kernAt n w) (hop : w.toNat / 2 ^ 26 = 0x07)
    (hsel : w.toNat % 16 ≤ 8) (hv : s.getjWord n (s.kern n) (w.toNat % 16) = v) :
    exec (.krnGetj n false) s = .next (s.kernOn n { s.kern n with full := (s.kern n).full.setX (kf.d w) v }) :=
  hv ▸ exec_kern_ok rfl h hop (if_neg (Nat.not_lt.mpr hsel))

/-- Settles O26: each instruction's body, with the map of the memory and the closed form of narrowing. -/
theorem kernelMemoryAndMoves : Obligations.KernelMemoryAndMoves := by
  unfold Obligations.KernelMemoryAndMoves
  intro s n w h e op d aa ab ra ia sh rounded beyond nar vSat x acc ad job
  have hnar (i : BitVec 2) (hsh : sh ≤ 47) :
      kernNarrow e i w = some (nar (e.vis.ar i), w.getLsbD 5 && beyond (e.vis.ar i)) := by
    rw [kernNarrow_some e i hsh, narrow18_eq]
    rfl
  refine ⟨fun a ha => s.kernRead_some n (s.kernPhys_working n ha), fun a hlow hhigh => s.kernRead_some n (s.kernPhys_bank n hlow hhigh),
    fun a v ha => ⟨s.kernRead_none n (s.kernPhys_none n ha), s.kernWrite_none n (s.kernPhys_none n ha) v⟩,
    fun hop => exec_kern_ok rfl h hop rfl, fun hop => exec_kern_ok rfl h hop rfl, fun hop => exec_kern_ok rfl h hop rfl,
    fun hop hsh => ?st, fun hop hsh => ?stl, fun hop hsh => ?stShift, fun hop => exec_kern_ok rfl h hop rfl (s.kern_kernWrite ..),
    fun hop => exec_kern_ok rfl h hop rfl, fun hop hsel => ?getj4, fun hop hlow hhigh => ?getjHin, fun hop hsel hjob => ?getjNone,
    fun j hop hsel hjob => ?getjI, fun j hop hsel hjob => ?getjQ, fun hop hsel => ?getjReserved,
    fun hop => exec_kern_ok rfl h hop rfl (s.kern_set ..),
    fun hop => exec_kern_ok rfl h hop rfl, fun hop hsh => ?mvax, fun hop => exec_kern_ok rfl h hop rfl,
    fun hop => exec_kern_ok rfl h hop rfl, fun hop => exec_kern_ok rfl h hop rfl, fun hop => exec_kern_ok rfl h hop rfl⟩
  case st => exact exec_kern_ok rfl h hop (by rw [hnar _ hsh]; rfl) (s.kern_kernWrite ..)
  case stl => exact exec_kern_ok rfl h hop (by rw [hnar _ hsh]; rfl) (s.kern_kernWrite ..)
  case stShift => exact exec_kern_illegal rfl h hop (by rw [kernNarrow_none _ _ hsh])
  case mvax => exact exec_kern_ok rfl h hop (by rw [hnar _ hsh]; rfl)
  case getj4 => exact exec_krnGetj h hop (by omega) (by rw [hsel]; rfl)
  case getjHin => exact exec_krnGetj h hop hhigh (s.getjWord_host n e hlow)
  case getjNone => exact exec_krnGetj h hop (by omega) (s.getjWord_noJob n hsel hjob)
  case getjI => exact exec_krnGetj h hop (by omega) (by rw [hsel]; exact Kern.jobItem_some hjob _)
  case getjQ => exact exec_krnGetj h hop (by omega) (by rw [hsel]; exact Kern.jobItem_some hjob _)
  case getjReserved => exact exec_kern_illegal rfl h hop (if_pos hsel)

end Sys2Proof.Machine
end

section
/-! PROOF. Where a kernel engine goes after an instruction (R213, R214, R216, R218). -/

namespace Sys2Proof.Machine

/-! ## Engines and their registers -/

section
variable {s t : State} {n : Nat} {fs : List Rf} {g : Rf}

/-- Two registers of an engine with different offsets. -/
theorem krnReg_ne {o o' : Nat} (h : o ≠ o') : 0x500000 + 0x40000 * n + o ≠ 0x500000 + 0x40000 * n + o' := by omega

@[simp] theorem State.get_setKern (s : State) (j : Nat) (k : Kern) (f : Rf) : (s.setKern j k).get f = s.get f :=
  State.get_of_regs_eq rfl f

@[simp] theorem State.bit_setKern (s : State) (j : Nat) (k : Kern) (f : Rf) : (s.setKern j k).bit f = s.bit f := by
  rw [State.bit, State.get_setKern, State.bit]

theorem State.kern_setKern_same (s : State) (j : Nat) (k : Kern) : (s.setKern j k).kern j = k := by
  rw [State.kern_setKern, if_pos rfl]

theorem State.fieldsOnly.setKern (h : s.fieldsOnly t fs) (j : Nat) (k : Kern) : s.fieldsOnly (t.setKern j k) fs := h

/-- The state without registers and engines. -/
def State.exceptEngine (s : State) : State := { s with regs := [], kerns := [] }

theorem State.eq_of_exceptEngine_eq (h : t.exceptEngine = s.exceptEngine) : t = { s with regs := t.regs, kerns := t.kerns } :=
  congrArg (fun u : State => { u with regs := t.regs, kerns := t.kerns }) h

@[simp] theorem State.exceptEngine_set (s : State) (f : Rf) (v : Nat) : (s.set f v).exceptEngine = s.exceptEngine := rfl

@[simp] theorem State.exceptEngine_bump (s : State) (f : Rf) (i : Nat) : (s.bump f i).exceptEngine = s.exceptEngine :=
  s.exceptEngine_set f _

@[simp] theorem State.exceptEngine_setKern (s : State) (j : Nat) (k : Kern) : (s.setKern j k).exceptEngine = s.exceptEngine := rfl

/-! ## The figures shown in KRN_Q_STAT and KRN_STAT -/

/-- What setting a register field keeps, showing the figures keeps. -/
theorem State.showKern_keeps {P : State → Prop} (n : Nat) (hset : ∀ u f v, P u → P (u.set f v)) (h : P s) : P (s.showKern n) :=
  hset _ _ _ (hset _ _ _ (hset _ _ _ h))

@[simp] theorem State.kern_showKern (s : State) (n j : Nat) : (s.showKern n).kern j = s.kern j :=
  State.showKern_keeps (P := fun u => u.kern j = s.kern j) n (fun u f v h => (u.kern_set f v j).trans h) rfl

@[simp] theorem State.exceptEngine_showKern (s : State) (n : Nat) : (s.showKern n).exceptEngine = s.exceptEngine :=
  State.showKern_keeps (P := fun u => u.exceptEngine = s.exceptEngine) n (fun _ _ _ h => h) rfl

/-- The figures show in KRN_Q_STAT and in V of KRN_STAT. -/
theorem State.get_showKern_apart (s : State) (hw : g.lo + g.len ≤ 32) (hq : g.addr ≠ R.KRN_Q_STAT n) (hv : (KRN_STAT.V n).apart g) :
    (s.showKern n).get g = s.get g := by
  rw [State.showKern, State.setBit_eq, State.get_set_apart _ hw hv, State.get_set_ne _ _ _ _ hq, State.get_set_ne _ _ _ _ hq]

theorem State.bit_showKern_apart (s : State) (hw : g.lo + g.len ≤ 32) (hq : g.addr ≠ R.KRN_Q_STAT n) (hv : (KRN_STAT.V n).apart g) :
    (s.showKern n).bit g = s.bit g := by
  rw [State.bit, s.get_showKern_apart hw hq hv, State.bit]

/-- A field of KRN_CTRL, which shows none of the figures. -/
theorem State.bit_ctrl_showKern (s : State) (hg : g.addr = R.KRN_CTRL n) (hw : g.lo + g.len ≤ 32) :
    (s.showKern n).bit g = s.bit g :=
  s.bit_showKern_apart hw (by rw [hg]; exact krnReg_ne (by decide)) (.inl (by rw [hg]; exact krnReg_ne (by decide)))

theorem State.get_state_showKern (s : State) (n : Nat) : (s.showKern n).get (KRN_STAT.STATE n) = s.get (KRN_STAT.STATE n) :=
  s.get_showKern_apart (by decide : 0 + 2 ≤ 32) (krnReg_ne (by decide)) (.inr (.inr (by decide : 0 + 2 ≤ 3)))

theorem State.get_state_set (s : State) (n : Nat) {v : Nat} (h : v < 4) :
    (s.set (KRN_STAT.STATE n) v).get (KRN_STAT.STATE n) = v :=
  s.get_set_of_lt (by decide : 0 + 2 ≤ 32) h

theorem State.bit_v_showKern (s : State) (n : Nat) : (s.showKern n).bit (KRN_STAT.V n) = (s.kern n).full.v :=
  State.bit_setBit_same _ _ rfl (by decide : 3 < 32)

theorem State.fieldsOnly.showKern (h : s.fieldsOnly t fs) (hjobs : KRN_Q_STAT.JOBS n ∈ fs) (hpps : KRN_Q_STAT.PPS n ∈ fs)
    (hv : KRN_STAT.V n ∈ fs) : s.fieldsOnly (t.showKern n) fs :=
  ((h.set hjobs _).set hpps _).set hv _

end

/-! ## Past an instruction (R214, R216) -/

section
variable {k seq : Kern} {a : BitVec 12}

/-- Outside delay slots the engine goes where the sequence leads. -/
theorem Kern.leaveSlot_outside {pc : BitVec 12} {reps : List (BitVec 12 × BitVec 12 × Nat)} (h : k.slots = 0) :
    k.leaveSlot { k with reps := reps, pc := pc } = { k with reps := reps, pc := pc } := by
  simp [Kern.leaveSlot, h]

/-- In the first delay slot the engine goes on, with one more to come. -/
theorem Kern.leaveSlot_first (h : k.slots = 2) : k.leaveSlot seq = { seq with slots := 1 } := by
  simp [Kern.leaveSlot, h]

/-- The last delay slot of a branch that is taken leads to its target, out of the blocks that do not hold it. -/
theorem Kern.leaveSlot_last {t : BitVec 12} (h : k.slots = 1) (hdest : k.dest = some t) : k.leaveSlot seq =
    { k with slots := 0, dest := none, pc := t, reps := k.reps.dropWhile (fun l => !(l.1.ule t && t.ule l.2.1)) } := by
  simp [Kern.leaveSlot, h, hdest]

/-- Leaving a delay slot keeps what the way on through the sequence keeps. -/
theorem Kern.leaveSlot_frame (h : seq.leaving = k.leaving ∧ seq.job = k.job) :
    (k.leaveSlot seq).leaving = k.leaving ∧ (k.leaveSlot seq).job = k.job := by
  unfold Kern.leaveSlot
  split
  · exact ⟨rfl, rfl⟩
  · exact h

/-- Where no block ends at `a` the sequence leads to the next word. -/
theorem Kern.advance_sequence (h : k.reps = []) : k.advance a = k.leaveSlot { k with pc := a + 1 } := by
  rw [Kern.advance, h, kernRepEnd, ← h]

/-- At the end of a block with passes left the sequence leads to its first word. -/
theorem Kern.advance_loop {f : BitVec 12} {c : Nat} {rest : List (BitVec 12 × BitVec 12 × Nat)} (h : k.reps = (f, a, c) :: rest)
    (hc : 1 < c) : k.advance a = k.leaveSlot { k with reps := (f, a, c - 1) :: rest, pc := f } := by
  rw [Kern.advance, h, kernRepEnd, if_pos rfl, if_pos hc]

/-- The last pass of the only block ends it. -/
theorem Kern.advance_lastPass {f : BitVec 12} (h : k.reps = [(f, a, 1)]) :
    k.advance a = k.leaveSlot { k with reps := [], pc := a + 1 } := by
  rw [Kern.advance, h, kernRepEnd, if_pos rfl, if_neg (Nat.lt_irrefl 1), kernRepEnd]

/-- Moving on ends no handler and keeps its job. -/
theorem Kern.advance_frame (k : Kern) (a : BitVec 12) : (k.advance a).leaving = k.leaving ∧ (k.advance a).job = k.job := by
  unfold Kern.advance
  split <;> exact Kern.leaveSlot_frame ⟨rfl, rfl⟩

end

/-! ## The end of a handler (R218) -/

section
variable {s : State} {n : Nat} {k : Kern}

/-- No handler ends where RETI has not been executed. -/
theorem State.kernLeave_stays (h : (s.kern n).leaving = false) : s.kernLeave n = s := by
  simp [State.kernLeave, h]

/-- A host request's handler ends with its delay slots: HREQ clears and the engine runs on. -/
theorem State.kernLeave_host (hleaving : (s.kern n).leaving = true) (hslots : (s.kern n).slots = 0)
    (hhandler : (s.kern n).handler = 3) (hjob : (s.kern n).job = none) : s.kernLeave n =
    ((s.setKern n { s.kern n with handler := 0, leaving := false, job := none }).set (KRN_STAT.STATE n) krn.run).setBit
      (KRN_CTRL.HREQ n) false := by
  simp [State.kernLeave, hleaving, hslots, hhandler, hjob]

/-- The engine as an instruction at its PC leaves it, its earlier writes visible. -/
def State.kernNext (s : State) (n : Nat) (k : Kern) : Kern :=
  { k.advance (s.kern n).pc with vis := (s.kern n).full, lastPc := (s.kern n).pc }

theorem State.kernOn_eq (s : State) (n : Nat) (k : Kern) : s.kernOn n k = ((s.setKern n (s.kernNext n k)).kernLeave n).showKern n := rfl

/-- An instruction that ends no handler. -/
theorem State.kernOn_stays (h : k.leaving = false) : s.kernOn n k = (s.setKern n (s.kernNext n k)).showKern n := by
  have hleaving : ((s.setKern n (s.kernNext n k)).kern n).leaving = false := by
    rw [State.kern_setKern_same]
    exact (k.advance_frame _).1.trans h
  rw [State.kernOn_eq, State.kernLeave_stays hleaving]

theorem State.kern_kernOn (h : k.leaving = false) : (s.kernOn n k).kern n = s.kernNext n k := by
  rw [State.kernOn_stays h, State.kern_showKern, State.kern_setKern_same]

/-- An instruction that ends no handler writes the engine and the figures shown of it. -/
theorem State.exceptEngine_kernOn (s : State) (n : Nat) (h : k.leaving = false) : (s.kernOn n k).exceptEngine = s.exceptEngine := by
  rw [State.kernOn_stays h, State.exceptEngine_showKern, State.exceptEngine_setKern]

theorem State.fieldsOnly_kernOn (s : State) (n : Nat) (h : k.leaving = false) :
    s.fieldsOnly (s.kernOn n k) [KRN_Q_STAT.JOBS n, KRN_Q_STAT.PPS n, KRN_STAT.V n] := by
  rw [State.kernOn_stays h]
  exact ((State.fieldsOnly_of_regs_eq rfl _).setKern n _).showKern (by simp) (by simp) (by simp)

end

/-- The last delay slot of the RETI of a host request's handler. -/
theorem State.kernOn_endsHost {s : State} {n : Nat} {k : Kern} {t : BitVec 12} (hreps : k.reps = []) (hslots : k.slots = 1)
    (hdest : k.dest = some t) (hleaving : k.leaving = true) (hhandler : k.handler = 3) (hjob : k.job = none) :
    (s.kernOn n k).kern n = { k with
      pc := t, slots := 0, dest := none, vis := (s.kern n).full, lastPc := (s.kern n).pc, handler := 0, leaving := false, job := none } ∧
    (s.kernOn n k).bit (KRN_CTRL.HREQ n) = false ∧ (s.kernOn n k).get (KRN_STAT.STATE n) = krn.run := by
  have hnext : s.kernNext n k =
      { k with pc := t, slots := 0, dest := none, vis := (s.kern n).full, lastPc := (s.kern n).pc } := by
    rw [State.kernNext, Kern.advance_sequence hreps, Kern.leaveSlot_last hslots hdest, hreps]
    rfl
  have hkern := s.kern_setKern_same n (s.kernNext n k)
  have hleave := State.kernLeave_host (s := s.setKern n (s.kernNext n k)) (n := n)
  rw [hkern, hnext] at hleave
  rw [State.kernOn_eq, hnext, hleave hleaving rfl hhandler hjob]
  refine ⟨?_, ?_, ?_⟩
  · rw [State.kern_showKern, State.kern_setBit, State.kern_set, State.kern_setKern_same]
  · rw [State.bit_ctrl_showKern _ rfl (by decide : 2 + 1 ≤ 32)]
    exact State.bit_setBit_same _ false rfl (by decide : 2 < 32)
  · rw [State.get_state_showKern, State.setBit_eq, State.get_set_ne _ _ _ _ (krnReg_ne (by decide))]
    exact State.get_state_set _ n (by decide)

/-- Settles O24: where `advance` leads, and the handler that a host request's RETI ends. -/
theorem kernelEngineGoesOn : Obligations.KernelEngineGoesOn := by
  unfold Obligations.KernelEngineGoesOn
  intro s n k f t c rest e
  refine ⟨fun hreps hslots hstay => ?_, fun hreps hc hslots hstay => ?_, fun hreps hslots hstay => ?_,
    fun hreps hslots hstay => ?_, fun hreps hslots hdest hstay => ?_, State.kernOn_endsHost⟩
  · have hkern : (s.kernOn n k).kern n = { k with pc := e.pc + 1, vis := e.full, lastPc := e.pc } := by
      rw [State.kern_kernOn hstay, State.kernNext, Kern.advance_sequence hreps, Kern.leaveSlot_outside hslots]
    refine ⟨hkern, State.eq_of_exceptEngine_eq (s.exceptEngine_kernOn n hstay), s.fieldsOnly_kernOn n hstay, ?_⟩
    rw [State.kernOn_stays hstay, State.bit_v_showKern, ← State.kern_showKern _ n, ← State.kernOn_stays hstay, hkern]
  · rw [State.kern_kernOn hstay, State.kernNext, Kern.advance_loop hreps hc, Kern.leaveSlot_outside hslots]
  · rw [State.kern_kernOn hstay, State.kernNext, Kern.advance_lastPass hreps, Kern.leaveSlot_outside hslots]
  · rw [State.kern_kernOn hstay, State.kernNext, Kern.advance_sequence hreps, Kern.leaveSlot_first hslots]
  · rw [State.kern_kernOn hstay, State.kernNext, Kern.advance_sequence hreps, Kern.leaveSlot_last hslots hdest, hreps]
    rfl

end Sys2Proof.Machine
end

section
/-! PROOF. The sums, the comparisons, partial points and decisions of a kernel engine (R197, R209 to R211). -/

namespace Sys2Proof.Machine

/-! ## Flags (R210) -/

/-- Z and N of a 48-bit result, with sticky V. -/
theorem KRegs.flags_eq (r : KRegs) (v : Int) : r.flags v =
    { r with z := BitVec.ofInt 48 v == 0, n := (BitVec.ofInt 48 v).msb, v := r.v || (decide (v < -2 ^ 47) || decide (2 ^ 47 ≤ v)) } := by
  rw [KRegs.flags, acc48, satFlag48]

/-- A result in its accumulator with its flags: its overflow counts once. -/
theorem KRegs.flags_accum (r : KRegs) (d : BitVec 2) (v : Int) : (r.accum d v).flags v =
    { r.setA d (BitVec.ofInt 48 v) with
      z := BitVec.ofInt 48 v == 0, n := (BitVec.ofInt 48 v).msb, v := r.v || (decide (v < -2 ^ 47) || decide (2 ^ 47 ≤ v)) } := by
  rw [KRegs.flags_eq, KRegs.accum_eq]
  simp only [Bool.or_assoc, Bool.or_self]

/-! ## Shifts -/

section
variable {s : State} {n : Fin 16} {w : Word}

/-- SHA by a count within 47 places. -/
theorem exec_krnSha {v : Int} {r : KRegs} (h : s.kernAt n w) (hop : w.toNat / 2 ^ 26 = 0x17)
    (hsh : (w.setWidth 7).toInt.natAbs ≤ 47)
    (hv : (if 0 ≤ (w.setWidth 7).toInt then ((s.kern n).vis.ar (kf.a w)).toInt * 2 ^ (w.setWidth 7).toInt.toNat
      else roundShift ((s.kern n).vis.ar (kf.a w)).toInt (-(w.setWidth 7).toInt).toNat) = v)
    (hr : ((s.kern n).full.accum (kf.d w) v).flags v = r) :
    exec (.krnSha n false) s = .next (s.kernOn n { s.kern n with full := r }) :=
  exec_kern_put rfl h hop (if_neg (Nat.not_lt.mpr hsh)) (hv ▸ hr)

/-! ## DEC (R197) -/

/-- The leak flag that DEC gives. -/
def KRegs.decLeak (r : KRegs) (w : Word) : Bool :=
  match (w.toNat / 8) % 4 with
  | 0 => false | 1 => true | 2 => !r.n && !r.z | _ => r.n

/-- The state that DEC gives. -/
def KRegs.decState (r : KRegs) (w : Word) : BitVec 2 :=
  if r.decLeak w && w.getLsbD 5 then 3 else if w.getLsbD 2 then r.st else w.setWidth 2

/-- The validity that DEC gives. -/
def State.decValid (s : State) (n : Nat) (w : Word) (j : Job) : Bool :=
  statusValid j.res.status (s.bit (RDI_CFG.OVR_INV n)) && !w.getLsbD 6 && !j.lostPp

/-- A decision of the job on its way, and counted. -/
def State.decIssued (s : State) (n : Nat) (w : Word) (j : Job) : State :=
  (s.kernDecide j ((s.kern n).vis.decState w) (s.decValid n w j) ((s.kern n).vis.decLeak w) true).bump (KRN_DEC_CNT.COUNT n)

theorem State.kern_decIssued (s : State) (n : Nat) (w : Word) (j : Job) (i : Nat) : (s.decIssued n w j).kern i = s.kern i :=
  (State.kern_bump ..).trans (State.kern_of_kerns_eq rfl i)

/-- DEC for a job that has no decision yet. -/
theorem exec_krnDec {j : Job} (h : s.kernAt n w) (hop : w.toNat / 2 ^ 26 = 0x1B) (hjob : (s.kern n).job = some j)
    (hopen : j.answered = false) : exec (.krnDec n false) s =
      .next ((s.decIssued n w j).kernOn n { s.kern n with job := some { j with answered := true } }) :=
  exec_kern_ok rfl h hop (by rw [hjob]; dsimp only; rw [hopen, if_neg Bool.false_ne_true]; rfl) (s.kern_decIssued ..)

/-- A state that, apart from registers and engines, a kernel decision leads to. -/
theorem State.eq_of_decided {t : State} {j : Job} {state : BitVec 2} {valid leak byDec : Bool}
    (h : t.exceptEngine = (s.kernDecide j state valid leak byDec).exceptEngine) :
    t = { s with regs := t.regs, kerns := t.kerns, decMade := t.decMade, winResults := t.winResults } :=
  congrArg (fun u : State => { u with
    regs := t.regs, kerns := t.kerns, decMade := t.decMade, winResults := t.winResults }) h

/-- The decision on its way, due at the job's entry tick. -/
theorem State.decMade_of_decided {t : State} {j : Job} {state : BitVec 2} {valid leak byDec : Bool}
    (h : t.exceptEngine = (s.kernDecide j state valid leak byDec).exceptEngine) :
    ∃ d : Decision, t.decMade = s.decMade ++ [(d, j.entry)] ∧ d.src = BitVec.ofNat 8 j.res.src ∧ d.kern = true ∧
      d.byDec = byDec ∧ d.state = state ∧ d.endTick = j.res.endTick ∧ d.valid = valid :=
  ⟨_, congrArg State.decMade h, rfl, rfl, rfl, rfl, rfl, rfl⟩

/-- What DEC leaves: the job answered, the decision on its way and counted. -/
theorem State.decIssued_kernOn (s : State) (n : Nat) (w : Word) (j : Job) {k : Kern} (hstay : k.leaving = false) :
    let t := (s.decIssued n w j).kernOn n k
    (t.kern n).job = k.job ∧ t.get (KRN_DEC_CNT.COUNT n) = min (s.get (KRN_DEC_CNT.COUNT n) + 1) (2 ^ 32 - 1) ∧
    t.exceptEngine = (s.kernDecide j ((s.kern n).vis.decState w) (s.decValid n w j) ((s.kern n).vis.decLeak w) true).exceptEngine := by
  refine ⟨?_, ?_, ?_⟩
  · rw [State.kern_kernOn hstay]
    exact (k.advance_frame _).2
  · rw [(s.decIssued n w j).fieldsOnly_kernOn n hstay (KRN_DEC_CNT.COUNT n) (by decide : 0 + 32 ≤ 32) (by
      simp only [List.mem_cons, List.not_mem_nil, or_false, forall_eq_or_imp, forall_eq]
      exact ⟨.inl (krnReg_ne (by decide)), .inl (krnReg_ne (by decide)), .inl (krnReg_ne (by decide))⟩)]
    exact State.get_bump_same _ _ _ (by decide : 0 + 32 ≤ 32)
  · rw [State.exceptEngine_kernOn _ _ hstay, State.decIssued, State.exceptEngine_bump]

end

/-- Settles O27: each instruction's body, with the closed forms of the flags and of the decision. -/
theorem kernelSumsAndDecisions : Obligations.KernelSumsAndDecisions := by
  unfold Obligations.KernelSumsAndDecisions
  intro s n w h e op d a b out48 flags acc sh p sum leak state
  have hflags (v : Int) : (e.full.accum d v).flags v = flags v (acc v) := KRegs.flags_accum ..
  refine ⟨fun hop => ?adda, fun hop => ?suba, fun hop hp => ?addi, fun hop hp => exec_kern_illegal rfl h hop (if_pos hp),
    fun hop hlow hhigh => ?left, fun hop hlow hhigh => ?right, fun hop hsh => ?beyond, fun hop => ?cmpa, fun hop hless => ?less,
    fun hop hless => ?notLess, fun hop hfifo => ?empty, fun i q k last rest hop hfifo => ?pop, fun hop hjob => ?nojob,
    fun j hop hjob hdup => ?dup, fun j hop hjob hopen hstay => ?dec, fun hop => exec_kern_ok rfl h hop rfl⟩
  case adda => exact exec_kern_put rfl h hop rfl (hflags _)
  case suba => exact exec_kern_put rfl h hop rfl ((congrArg _ (Int.sub_eq_add_neg ..).symm).trans (hflags _))
  case addi => exact exec_kern_put rfl h hop (if_neg hp) (KRegs.accum_eq ..)
  case left => exact exec_krnSha h hop (by omega) (if_pos hlow) (hflags _)
  case right =>
    refine exec_krnSha h hop (by omega) ?_ (hflags _)
    rw [if_neg (Int.not_le.mpr hhigh), roundShift, if_neg (by omega)]
  case beyond => exact exec_kern_illegal rfl h hop (if_pos (by omega))
  case cmpa => exact exec_kern_put rfl h hop rfl (KRegs.flags_eq ..)
  case less => exact exec_kern_put rfl h hop rfl (if_pos (BitVec.slt_iff_toInt_lt.mpr hless))
  case notLess =>
    refine exec_kern_put rfl h hop rfl ((if_neg (mt BitVec.slt_iff_toInt_lt.mp (Int.not_lt.mpr hless))).trans ?_)
    cases w.getLsbD 2 <;> rfl
  case empty => exact exec_kern_put rfl h hop (by rw [hfifo]) rfl
  case pop => exact exec_kern_ok rfl h hop (by rw [hfifo]; cases last <;> rfl)
  case nojob => exact exec_kern_ok rfl h hop (by rw [hjob]) (s.kern_setBit ..)
  case dup => exact exec_kern_ok rfl h hop (by rw [hjob]; exact if_pos hdup) (s.kern_setBit ..)
  case dec =>
    obtain ⟨hjob', hcount, hframe⟩ := s.decIssued_kernOn n w j (k := { e with job := some { j with answered := true } }) hstay
    exact ⟨_, exec_krnDec h hop hjob hopen, hjob', hcount, State.decMade_of_decided hframe, State.eq_of_decided hframe⟩

end Sys2Proof.Machine
end

section
/-! PROOF. Jobs that the device answers, engines that stop, and the call stack (R198, R217, R222). -/

namespace Sys2Proof.Machine

/-! ## Faults of an engine -/

/-- No standby twin mutes what the kernel engines raise. -/
theorem State.standbyMute_kern (s : State) {src : Nat} (h : Src.KRN_ILLEGAL ≤ src ∧ src ≤ Src.KRN_NODEC) :
    s.standbyMute src = false := by
  have hlist : [Src.LM_LOW, Src.ORDER_SHORT, Src.LATE_BARGE, Src.LATE_DECISION, Src.UNDERRUN, Src.WINDOW_FORM].contains src = false := by
    obtain ⟨hlow, hhigh⟩ := h
    unfold Src.KRN_ILLEGAL at hlow
    unfold Src.KRN_NODEC at hhigh
    interval_cases src <;> rfl
  rw [State.standbyMute, hlist, Bool.and_false]

/-! ## A job that the device answers (R198) -/

section
variable {s : State} {n : Nat} {P : State → Prop}

@[simp] theorem State.get_kernDecide (s : State) (j : Job) (st : BitVec 2) (v l b : Bool) (f : Rf) :
    (s.kernDecide j st v l b).get f = s.get f :=
  State.get_of_regs_eq rfl f

@[simp] theorem State.kern_kernDecide (s : State) (j : Job) (st : BitVec 2) (v l b : Bool) (i : Nat) :
    (s.kernDecide j st v l b).kern i = s.kern i :=
  State.kern_of_kerns_eq rfl i

/-- What an answer is made of: the decision, its count, its report, and the mark that it has been reported. -/
theorem State.kernAnswer_keeps (j : Job) (hdecide : ∀ u j st v l b, P u → P (u.kernDecide j st v l b))
    (hcount : ∀ u v, P u → P (u.set (KRN_NODEC_CNT.COUNT n) v)) (hraise : ∀ u l, P u → P { u with raised := u.raised ++ l })
    (htold : ∀ u, P u → P (u.setKern n { u.kern n with told := true })) (h : P s) : P (s.kernAnswer n j) := by
  unfold State.kernAnswer
  exact State.when_keeps _ (htold _) (State.when_keeps _ (State.raise_keeps _ _ hraise) (hcount _ _ (hdecide _ _ _ _ _ _ h)))

/-- A job answered while RUN is 1: decided without a state, counted and reported. -/
theorem State.kernAnswer_running (j : Job) (h : s.bit (KRN_CTRL.RUN n) = true) : s.kernAnswer n j =
    ((s.kernDecide j 0 false false false).bump (KRN_NODEC_CNT.COUNT n)).raise Src.KRN_NODEC
      (slot n ++ slot (j.res.src % 16) ++ slotTick j.res.endTick) := by
  unfold State.kernAnswer
  dsimp only
  rw [h, Bool.not_true, Bool.false_and, Bool.not_false, State.when_true, State.when_false]

/-! ## The engine stops (R222) -/

/-- The engine as it halts, before its jobs are answered. -/
def Kern.halted (e : Kern) : Kern :=
  { e with job := none, queue := [], handler := 0, leaving := false, waiting := false, slots := 0, dest := none, told := false }

/-- The registers as the engine halts. -/
def State.kernHalted (s : State) (n cause : Nat) : State :=
  ((((s.setBit (KRN_CTRL.RUN n) false).set (KRN_STAT.STATE n) krn.stopped).set (KRN_STAT.CAUSE n) cause).set (KRN_STAT.PC n)
    (s.kern n).lastPc.toNat).setKern n (s.kern n).halted

theorem State.kernStop_eq (s : State) (n cause : Nat) : s.kernStop n cause =
    ((s.kernHalted n cause).each (((s.kern n).job.toList ++ (s.kern n).queue).filter (fun j => !j.answered))
      (fun u j => u.kernAnswer n j)).showKern n := rfl

/-- What the answers and the figures shown keep of a halted engine. -/
theorem State.kernStop_keeps (cause : Nat) (hdecide : ∀ u j st v l b, P u → P (u.kernDecide j st v l b))
    (hcount : ∀ u v, P u → P (u.set (KRN_NODEC_CNT.COUNT n) v)) (hraise : ∀ u l, P u → P { u with raised := u.raised ++ l })
    (htold : ∀ u, P u → P (u.setKern n { u.kern n with told := true })) (hshow : ∀ u, P u → P (u.showKern n))
    (h : P (s.kernHalted n cause)) : P (s.kernStop n cause) := by
  rw [State.kernStop_eq]
  exact hshow _ (State.each_keeps _ (fun _ j => State.kernAnswer_keeps j hdecide hcount hraise htold) h)

/-- A field that neither the answers nor the figures shown write. -/
theorem State.get_kernStop (s : State) (cause : Nat) {g : Rf} (hw : g.lo + g.len ≤ 32) (hcount : g.addr ≠ R.KRN_NODEC_CNT n)
    (hq : g.addr ≠ R.KRN_Q_STAT n) (hv : (KRN_STAT.V n).apart g) :
    (s.kernStop n cause).get g = (s.kernHalted n cause).get g :=
  State.kernStop_keeps (P := fun u => u.get g = (s.kernHalted n cause).get g) cause
    (fun u j st v l b hu => (u.get_kernDecide j st v l b g).trans hu)
    (fun u v hu => (u.get_set_ne (KRN_NODEC_CNT.COUNT n) g v hcount).trans hu) (fun _ _ hu => hu)
    (fun u hu => (u.get_setKern n _ g).trans hu) (fun u hu => (u.get_showKern_apart hw hq hv).trans hu) rfl

/-- The registers of a halted engine. -/
theorem State.kernHalted_spec (s : State) (n : Nat) {cause : Nat} (hcause : cause < 4) :
    let t := s.kernHalted n cause
    t.bit (KRN_CTRL.RUN n) = false ∧ t.get (KRN_STAT.CAUSE n) = cause ∧ t.get (KRN_STAT.PC n) = (s.kern n).lastPc.toNat ∧
    t.get (KRN_STAT.STATE n) = krn.stopped ∧ t.kern n = (s.kern n).halted := by
  refine ⟨?_, ?_, ?_, ?_, State.kern_setKern_same ..⟩ <;> unfold State.kernHalted
  · rw [State.bit_setKern, State.bit_set_apart _ (by decide : 0 + 1 ≤ 32) (.inl (krnReg_ne (by decide))),
      State.bit_set_apart _ (by decide : 0 + 1 ≤ 32) (.inl (krnReg_ne (by decide))),
      State.bit_set_apart _ (by decide : 0 + 1 ≤ 32) (.inl (krnReg_ne (by decide)))]
    exact State.bit_setBit_same s false rfl (by decide : 0 < 32)
  · rw [State.get_setKern,
      State.get_set_disjoint _ (KRN_STAT.PC n) (KRN_STAT.CAUSE n) _ (by decide : 8 + 2 ≤ 32) (.inr (by decide : 8 + 2 ≤ 16))]
    exact State.get_set_of_lt _ (by decide : 8 + 2 ≤ 32) hcause
  · rw [State.get_setKern]
    exact State.get_set_of_lt _ (by decide : 16 + 12 ≤ 32) (s.kern n).lastPc.isLt
  · rw [State.get_setKern,
      State.get_set_disjoint _ (KRN_STAT.PC n) (KRN_STAT.STATE n) _ (by decide : 0 + 2 ≤ 32) (.inr (by decide : 0 + 2 ≤ 16)),
      State.get_set_disjoint _ (KRN_STAT.CAUSE n) (KRN_STAT.STATE n) _ (by decide : 0 + 2 ≤ 32) (.inr (by decide : 0 + 2 ≤ 8))]
    exact State.get_state_set _ n (by decide)

/-- An engine that stops: RUN is 0, cause and PC are kept, and no job is left. -/
theorem State.kernStop_spec (s : State) (n : Nat) {cause : Nat} (hcause : cause < 4) :
    let t := s.kernStop n cause
    t.bit (KRN_CTRL.RUN n) = false ∧ t.get (KRN_STAT.CAUSE n) = cause ∧ t.get (KRN_STAT.PC n) = (s.kern n).lastPc.toNat ∧
    t.get (KRN_STAT.STATE n) = krn.stopped ∧ (t.kern n).job = none ∧ (t.kern n).queue = [] := by
  obtain ⟨hrun, hcz, hpc, hst, hkern⟩ := s.kernHalted_spec n hcause
  have hstat {lo len : Nat} (hw : lo + len ≤ 32) (hv : 3 + 1 ≤ lo ∨ lo + len ≤ 3) :=
    s.get_kernStop (g := ⟨R.KRN_STAT n, lo, len⟩) cause hw (krnReg_ne (by decide)) (krnReg_ne (by decide)) (.inr hv)
  refine ⟨?_, (hstat (by decide) (by decide)).trans hcz, (hstat (by decide) (by decide)).trans hpc,
    (hstat (by decide) (by decide)).trans hst, ?_⟩
  · rw [State.bit, s.get_kernStop (g := KRN_CTRL.RUN n) cause (by decide : 0 + 1 ≤ 32) (krnReg_ne (by decide)) (krnReg_ne (by decide))
      (.inl (krnReg_ne (by decide))), ← State.bit, hrun]
  · exact State.kernStop_keeps (P := fun u => (u.kern n).job = none ∧ (u.kern n).queue = []) cause
      (fun u j st v l b hu => by rwa [u.kern_kernDecide]) (fun u v hu => by rwa [u.kern_set]) (fun _ _ hu => hu)
      (fun u hu => by rwa [u.kern_setKern_same]) (fun u hu => by rwa [u.kern_showKern]) (hkern ▸ ⟨rfl, rfl⟩)

theorem State.raised_kernHalted (s : State) (n cause : Nat) : (s.kernHalted n cause).raised = s.raised := by
  simp only [State.kernHalted, State.setKern_frame, State.set_frame, State.setBit_frame]

/-- A fault raised before the engine stops stays raised. -/
theorem State.mem_raised_kernStop {x : FaultIn} (cause : Nat) (h : x ∈ s.raised) : x ∈ (s.kernStop n cause).raised := by
  have hset (u : State) (f : Rf) (v : Nat) (hu : x ∈ u.raised) : x ∈ (u.set f v).raised := hu
  refine State.kernStop_keeps (P := fun u => x ∈ u.raised) cause (fun u j st v l b hu => ?_) (fun _ _ => hset _ _ _)
    (fun _ _ hu => List.mem_append_left _ hu) (fun u hu => ?_) (fun u hu => State.showKern_keeps n hset hu) ?_
  · exact hu
  · exact hu
  · rw [State.raised_kernHalted]
    exact h

/-- A stopping fault is raised with the input and the PC, and stops the engine there. -/
theorem State.kernFault_spec (s : State) (n : Nat) {src cause : Nat} (pc : BitVec 12) (hcause : cause < 4)
    (hsrc : Src.KRN_ILLEGAL ≤ src ∧ src ≤ Src.KRN_NODEC) :
    let t := s.kernFault n src cause pc
    (t.bit (KRN_CTRL.RUN n) = false ∧ t.get (KRN_STAT.CAUSE n) = cause ∧ t.get (KRN_STAT.PC n) = pc.toNat ∧
      t.get (KRN_STAT.STATE n) = krn.stopped ∧ (t.kern n).job = none ∧ (t.kern n).queue = []) ∧
    ({ src := src, tick := s.tick, slots := slot n ++ slot pc.toNat, injected := false } : FaultIn) ∈ t.raised := by
  refine ⟨?_, State.mem_raised_kernStop _ (State.mem_raised_raise _ (s.standbyMute_kern hsrc))⟩
  have h := ((s.raise src (slot n ++ slot pc.toNat)).modKern n (fun e => { e with lastPc := pc })).kernStop_spec n hcause
  rwa [State.modKern_eq, State.kern_setKern_same] at h

end

/-- Settles O28: the bodies of CALL and RET, and the fault that stops the engine. -/
theorem kernelCallStack : Obligations.KernelCallStack := by
  unfold Obligations.KernelCallStack
  intro s n w h hreps e op stops
  have hinside : ¬(s.kern n).reps ≠ [] := not_not.mpr hreps
  have hstops {c : Instr} (hexec : exec c s = .next (s.kernFault n Src.KRN_STACK 2 e.pc)) : stops c := by
    obtain ⟨⟨hrun, -⟩, hraised⟩ := s.kernFault_spec n (src := Src.KRN_STACK) (cause := 2) e.pc (by decide) (by decide)
    exact ⟨_, hexec, hrun, hraised⟩
  refine ⟨fun hop hfull => hstops (exec_kern_stack rfl h hop ?_), fun hop hroom => exec_kern_branch rfl h hop ?_,
    fun hop hempty => hstops (exec_kern_stack rfl h hop ?_), fun a rest hop hcalls => exec_kern_branch rfl h hop ?_⟩
  · exact (if_neg hinside).trans (if_pos hfull)
  · exact (if_neg hinside).trans (if_neg (Nat.not_le.mpr hroom))
  · exact (if_neg hinside).trans (by rw [hempty])
  · exact (if_neg hinside).trans (by rw [hcalls])

end Sys2Proof.Machine
end

section
/-! PROOF. The branches, the repeats and the wait of a kernel engine, and its stops (R211, R212, R214, R216, R219, R222). -/

namespace Sys2Proof.Machine

/-! ## Instructions that say where the engine goes -/

/-- The engine goes to `pc` from an instruction that leaves it as `k`, all its writes visible. -/
def State.kernGoto (s : State) (n : Nat) (k : Kern) (pc : BitVec 12) : State :=
  (((s.setKern n { k.leaveSlot { k with pc := pc } with vis := (s.kern n).full, lastPc := (s.kern n).pc }).kernLeave n).showKern
    n).modKern n (fun k => { k with vis := k.full })

section
variable {s s' : State} {n : Fin 16} {w : Word} {c : Instr} {op : Nat} {body : Word → Kern → State → KRes} {k : Kern}

theorem exec_kern_goto {pc : BitVec 12} (hexec : exec c s = .next (s.kernDo n false op body)) (h : s.kernAt n w)
    (hop : w.toNat / 2 ^ 26 = op) (hbody : body w (s.kern n) s = .goto k s' pc) (hkern : s'.kern n = s.kern n := by rfl)
    (hk : kernOps.contains op = true := by rfl) : exec c s = .next (s'.kernGoto n k pc) := by
  rw [hexec, State.kernDo_at h op hop hk, hbody, State.kernGoto, hkern]

/-- A parity error of the fetch stops the engine, whatever the word (R212). -/
theorem exec_kern_parity (hexec : exec c s = .next (s.kernDo n true op body)) (h : s.kernAt n w) :
    exec c s = .next (s.kernFault n Src.KRN_PM_PAR 3 (s.kern n).pc) := by
  obtain ⟨hrun, hwait, -, -⟩ := h
  rw [hexec, State.kernDo]
  dsimp only
  rw [hrun, hwait]
  rfl

end

section
variable {s : State} {n : Nat} {k : Kern}

/-- Outside delay slots and an ending handler: the engine at `pc`, and nothing but its figures shown. -/
theorem State.kernGoto_plain (s : State) (n : Nat) (pc : BitVec 12) (hslots : k.slots = 0) (hstay : k.leaving = false) :
    (s.kernGoto n k pc).kern n = { k with pc := pc, vis := k.full, lastPc := (s.kern n).pc } ∧
    (s.kernGoto n k pc).get (KRN_STAT.STATE n) = s.get (KRN_STAT.STATE n) ∧ (s.kernGoto n k pc).exceptEngine = s.exceptEngine := by
  have hkern := s.kern_setKern_same n { k with pc := pc, vis := (s.kern n).full, lastPc := (s.kern n).pc }
  have hleaving := congrArg Kern.leaving hkern
  rw [State.kernGoto, Kern.leaveSlot_outside hslots, State.kernLeave_stays (hleaving.trans hstay), State.modKern_eq]
  refine ⟨?_, ?_, ?_⟩
  · rw [State.kern_setKern_same, State.kern_showKern, hkern]
  · rw [State.get_setKern, State.get_state_showKern, State.get_setKern]
  · rw [State.exceptEngine_setKern, State.exceptEngine_showKern, State.exceptEngine_setKern]

end

/-! ## Repeats (R216) -/

section
variable {e : Kern} {s : State} {count : Nat} {last : BitVec 12}

theorem kernRepeat_illegal (h : last.toNat ≤ e.pc.toNat) : kernRepeat e s count last = .illegal := by
  rw [kernRepeat, if_pos (by simpa [BitVec.ult] using h)]

/-- A block that ends behind its REP, with passes to make. -/
theorem kernRepeat_block (h : e.pc.toNat < last.toNat) (hcount : count ≠ 0) : kernRepeat e s count last =
    if 3 ≤ e.reps.length then .stack else .ok { e with reps := (e.pc + 1, last, count) :: e.reps } s := by
  rw [kernRepeat, if_neg (by simpa [BitVec.ult] using h), if_neg hcount]

/-- A block without passes, outside every other block, is skipped. -/
theorem kernRepeat_skip (h : e.pc.toNat < last.toNat) (hreps : e.reps = []) : kernRepeat e s 0 last = .goto e s (last + 1) := by
  rw [kernRepeat, if_neg (by simpa [BitVec.ult] using h), if_pos rfl, hreps, kernRepEnd, ← hreps]

end

/-- A field of a word as a number. -/
theorem toNat_field (w : Word) (lo len : Nat) : (w.extractLsb' lo len).toNat = w.toNat / 2 ^ lo % 2 ^ len := by
  rw [BitVec.extractLsb'_toNat, Nat.shiftRight_eq_div_pow]

/-- Settles O29: each instruction's body, the parity error, and what a stop leaves. -/
theorem kernelBranchesAndRepeats : Obligations.KernelBranchesAndRepeats := by
  unfold Obligations.KernelBranchesAndRepeats
  intro s n w h e op cond holds last illegal n1 cnt
  have hcond : kernCond e.vis (w.extractLsb' 23 3).toNat = holds := by
    rw [toNat_field]
    simp only [holds, cond]
    match w.toNat / 2 ^ 23 % 8 with
    | 0 | 1 | 2 | 3 | 4 | 5 | _ + 7 => rfl
    | 6 => simp [kernCond]
  have hn1 : (w.extractLsb' 12 12).toNat + 1 = n1 + 1 := congrArg (· + 1) (toNat_field w 12 12)
  refine ⟨fun hop hfits => exec_kern_branch rfl h hop ?br, fun hop hbeyond => exec_kern_illegal rfl h hop ?brBeyond,
    fun hop hreps => exec_kern_illegal rfl h hop (if_pos hreps), fun hop hreps => exec_kern_illegal rfl h hop (if_pos hreps),
    fun hop hreps hhandler => exec_kern_branch rfl h hop ?reti, fun hop hbad => exec_kern_illegal rfl h hop (if_pos hbad),
    fun hop hlast hroom => exec_kern_ok rfl h hop ?rep, fun hop hlast => exec_kern_illegal rfl h hop (kernRepeat_illegal hlast),
    fun hop hlast hfull => exec_kern_stack rfl h hop ?repFull, fun hop hlast hroom hcnt => exec_kern_ok rfl h hop ?repa,
    fun hop hlast hreps hslots hstay hcnt => ?skip, fun hop hreps hslots hstay => ?waiti,
    fun hop hreps => exec_kern_illegal rfl h hop (if_pos hreps), exec_kern_parity rfl h,
    (s.kernFault_spec n e.pc (by decide) (by decide)).1⟩
  case br =>
    rw [if_neg (by simpa using hfits), hcond]
  case brBeyond => exact if_pos (by simpa using hbeyond)
  case reti => exact if_neg (not_or.mpr ⟨not_not.mpr hreps, hhandler⟩)
  case rep =>
    rw [← hn1]
    exact (kernRepeat_block hlast (Nat.succ_ne_zero _)).trans (if_neg (Nat.not_le.mpr hroom))
  case repFull => exact (kernRepeat_block hlast (Nat.succ_ne_zero _)).trans (if_pos hfull)
  case repa => exact (kernRepeat_block hlast hcnt).trans (if_neg (Nat.not_le.mpr hroom))
  case skip =>
    obtain ⟨hkern, -, hframe⟩ := s.kernGoto_plain n (last + 1) hslots hstay
    exact ⟨_, exec_kern_goto rfl h hop ((congrArg (kernRepeat e s · last) hcnt).trans (kernRepeat_skip hlast hreps)), hkern,
      State.eq_of_exceptEngine_eq hframe⟩
  case waiti =>
    obtain ⟨hkern, hstate, hframe⟩ :=
      (s.set (KRN_STAT.STATE n) krn.waiti).kernGoto_plain (k := { e with waiting := true }) n e.pc hslots hstay
    refine ⟨_, exec_kern_goto rfl h hop (if_neg (not_not.mpr hreps)) (s.kern_set ..), ?_, ?_,
      State.eq_of_exceptEngine_eq (hframe.trans (s.exceptEngine_set ..))⟩
    · exact hstate.trans (s.get_state_set n (by decide))
    · rw [hkern, State.kern_set]

end Sys2Proof.Machine
end

section
/-! PROOF. Jobs, partial points and timeouts of a kernel engine (R194, R195, R198). -/

namespace Sys2Proof.Machine

section
variable {s : State} {n : Fin 16}

/-! ## Jobs and partial points (R194, R195) -/

/-- The state with the windows that are to become jobs. -/
def State.setJobsDue (s : State) (l : List WinRes) : State := { s with jobsDue := l }

/-- A partial point on its way: input, demodulator, last pin tick of its span, LAST, I and Q. -/
abbrev PartialPoint := Nat × Nat × Tick × Nat × Int × Int

/-- The state with the partial points on their way. -/
def State.setPartials (s : State) (l : List PartialPoint) : State := { s with partials := l }

/-- The queue's length shows in KRN_Q_STAT. -/
theorem State.get_jobs_showKern (s : State) (n : Nat) (h : (s.kern n).queue.length < 64) :
    (s.showKern n).get (KRN_Q_STAT.JOBS n) = (s.kern n).queue.length := by
  rw [State.showKern, State.setBit_eq, State.get_set_ne _ (KRN_STAT.V n) (KRN_Q_STAT.JOBS n) _ (krnReg_ne (by decide)),
    State.get_set_disjoint _ (KRN_Q_STAT.PPS n) (KRN_Q_STAT.JOBS n) _ (by decide : 0 + 6 ≤ 32) (.inr (by decide : 0 + 6 ≤ 16))]
  exact State.get_set_of_lt _ (by decide : 0 + 6 ≤ 32) h

/-- The job of a window, its partial points complete. -/
def State.wholeJob (s : State) (n : Nat) (r : WinRes) : Job :=
  { res := r, entry := s.kernEntry n r.endTick, lostPp := false, answered := false }

/-- The engine's note of a window handed over. -/
def Kern.noted (e : Kern) (k : Nat) (entry : Tick) : Kern :=
  { e with ppLost := Store.write (fun _ => false) e.ppLost k false, lastEntry := Store.write (fun _ => none) e.lastEntry k (some entry) }

/-- The state as a window's job joins the queue. -/
def State.jobQueued (s : State) (n : Nat) (r : WinRes) (rest : List WinRes) : State :=
  let e := (s.kern n).noted (r.src % 16) (s.kernEntry n r.endTick)
  ((((s.setJobsDue rest).setKern n e).setKern n { e with queue := e.queue ++ [s.wholeJob n r] })).showKern n

theorem exec_krnJobHandover_none (h : s.jobsDue = []) : exec (.krnJobHandover n) s = .next s := by
  have hexec : exec (.krnJobHandover n) s = execKrnJobHandover n s := rfl
  rw [hexec, execKrnJobHandover, h]
  rfl

/-- A window whose END + 14 has come joins the queue while RUN is 1 and the queue has room. -/
theorem exec_krnJobHandover {r : WinRes} {rest : List WinRes} (hdue : s.jobsDue = r :: rest) (hsrc : r.src / 16 = n.val)
    (htime : Tick.le (r.endTick + 14) s.tick = true) (hpartials : s.partials = []) (hrun : s.bit (KRN_CTRL.RUN n) = true)
    (hroom : (s.kern n).queue.length < 32) (hlost : Store.read (fun _ => false) (s.kern n).ppLost (r.src % 16) = false) :
    exec (.krnJobHandover n) s = .next (s.jobQueued n r rest) := by
  have hexec : exec (.krnJobHandover n) s = execKrnJobHandover n s := rfl
  have hready := takeFirst_head (p := fun r : WinRes => r.src / 16 == n.val && Tick.le (r.endTick + 14) s.tick &&
    !(s.partials.any (fun p => p.1 == n.val && p.2.1 == r.src % 16 && Tick.le p.2.2.1 r.endTick))) (a := r) rest
    (by simp only [hsrc, htime, hpartials, beq_self_eq_true, List.any_nil, Bool.not_false, Bool.and_self])
  have hruns (e : Kern) : ¬(!((s.setJobsDue rest).setKern n e).bit (KRN_CTRL.RUN n)) = true := by
    rw [State.bit_setKern, Bool.not_eq_true', Bool.not_eq_false]
    exact hrun
  have hqueue (e : Kern) (f : Kern → Kern) : (((s.setJobsDue rest).setKern n e).modKern n f).showKern n =
      (((s.setJobsDue rest).setKern n e).setKern n (f e)).showKern n := by
    rw [State.modKern_eq, State.kern_setKern_same]
  rw [hexec, execKrnJobHandover]
  dsimp only
  rw [hdue, hready]
  dsimp only
  rw [hlost, State.when_false]
  exact (if_neg (hruns _)).trans ((if_neg (Nat.not_le.mpr hroom)).trans (congrArg _ (hqueue _ _)))

/-- What a state is that, apart from registers and engines, another one is. -/
theorem State.lists_of_exceptEngine_eq {s t : State} (h : t.exceptEngine = s.exceptEngine) :
    t.jobsDue = s.jobsDue ∧ t.partials = s.partials ∧ t.raised = s.raised ∧ t.tick = s.tick :=
  ⟨(congrArg State.jobsDue h :), (congrArg State.partials h :), (congrArg State.raised h :), (congrArg State.tick h :)⟩

/-- The queue with the job, its length shown, and nothing else of the engine's surroundings changed. -/
theorem State.jobQueued_spec (s : State) (n : Nat) (r : WinRes) (rest : List WinRes) (hroom : (s.kern n).queue.length < 32) :
    let t := s.jobQueued n r rest
    t.jobsDue = rest ∧ (t.kern n).queue = (s.kern n).queue ++ [s.wholeJob n r] ∧
    t.get (KRN_Q_STAT.JOBS n) = (s.kern n).queue.length + 1 ∧ t = { s with regs := t.regs, kerns := t.kerns, jobsDue := rest } := by
  intro t
  have hframe : t.exceptEngine = (s.setJobsDue rest).exceptEngine := by
    simp only [t, State.jobQueued, State.exceptEngine_showKern, State.exceptEngine_setKern]
  have hlen : ((s.kern n).queue ++ [s.wholeJob n r]).length = (s.kern n).queue.length + 1 := List.length_append
  refine ⟨(State.lists_of_exceptEngine_eq hframe).1, ?_, ?_, State.eq_of_exceptEngine_eq hframe⟩
  · simp only [t, State.jobQueued, State.kern_showKern, State.kern_setKern_same]
    rfl
  · simp only [t, State.jobQueued]
    rw [State.get_jobs_showKern, State.kern_setKern_same]
    · exact hlen
    · rw [State.kern_setKern_same]
      exact (hlen.trans_lt (Nat.succ_lt_succ hroom)).trans (by decide)

/-- A partial point of the engine's input whose span has ended 14 ticks ago. -/
def State.PointDue (s : State) (n : Nat) (pt : PartialPoint) (pts : List PartialPoint) : Prop :=
  s.partials = pt :: pts ∧ pt.1 = n ∧ Tick.le (pt.2.2.1 + 14) s.tick = true

/-- A partial point as the FIFO holds it: I, Q, k and LAST. -/
def fifoPoint (pt : PartialPoint) : BitVec 18 × BitVec 18 × Nat × Bool :=
  (BitVec.ofInt 18 pt.2.2.2.2.1, BitVec.ofInt 18 pt.2.2.2.2.2, pt.2.1, pt.2.2.2.1 != 0)

theorem exec_partialPointEntry {pt : PartialPoint} {pts : List PartialPoint}
    (h : s.PointDue n pt pts) : exec (.partialPointEntry n) s =
    if 512 ≤ (s.kern n).fifo.length then .next ((s.setPartials pts).setKern n
      { s.kern n with ppLost := Store.write (fun _ => false) (s.kern n).ppLost pt.2.1 true })
    else .next (((s.setPartials pts).setKern n { s.kern n with fifo := (s.kern n).fifo ++ [fifoPoint pt] }).showKern n) := by
  obtain ⟨hpts, hinput, htime⟩ := h
  have hexec : exec (.partialPointEntry n) s = execPartialPointEntry n s := rfl
  have hready := takeFirst_head (p := fun p : PartialPoint => p.1 == n.val && Tick.le (p.2.2.1 + 14) s.tick)
    (a := pt) pts (by simp only [hinput, htime, beq_self_eq_true, Bool.and_self])
  rw [hexec, execPartialPointEntry, hpts, hready]
  rfl

/-- A partial point enters a FIFO that has room. -/
theorem exec_partialPointEntry_room {pt : PartialPoint} {pts : List PartialPoint}
    (h : s.PointDue n pt pts) (hroom : (s.kern n).fifo.length < 512) : ∃ t, exec (.partialPointEntry n) s = .next t ∧
    t.partials = pts ∧ (t.kern n).fifo = (s.kern n).fifo ++ [fifoPoint pt] ∧
    t = { s with regs := t.regs, kerns := t.kerns, partials := pts } := by
  refine ⟨_, (exec_partialPointEntry h).trans (if_neg (Nat.not_le.mpr hroom)), ?_⟩
  generalize ht : ((s.setPartials pts).setKern n { s.kern n with fifo := (s.kern n).fifo ++ [fifoPoint pt] }).showKern n = t
  have hframe : t.exceptEngine = (s.setPartials pts).exceptEngine := by
    rw [← ht, State.exceptEngine_showKern, State.exceptEngine_setKern]
  refine ⟨(State.lists_of_exceptEngine_eq hframe).2.1, ?_, State.eq_of_exceptEngine_eq hframe⟩
  rw [← ht, State.kern_showKern, State.kern_setKern_same]

/-- A partial point that finds the FIFO full is lost, and its window will say so. -/
theorem exec_partialPointEntry_full {pt : PartialPoint} {pts : List PartialPoint}
    (h : s.PointDue n pt pts) (hfull : 512 ≤ (s.kern n).fifo.length) : ∃ t, exec (.partialPointEntry n) s = .next t ∧
    (t.kern n).fifo = (s.kern n).fifo ∧ Store.read (fun _ => false) (t.kern n).ppLost pt.2.1 = true ∧
    t = { s with kerns := t.kerns, partials := pts } := by
  refine ⟨_, (exec_partialPointEntry h).trans (if_pos hfull), ?_, ?_, rfl⟩
  · rw [State.kern_setKern_same]
  · rw [State.kern_setKern_same, Store.read_write_same]

/-! ## A job without DEC (R198) -/

/-- The job being handled, without DEC at its entry tick + TMO. -/
theorem exec_krnAnswerTimeout {j : Job} (hjob : (s.kern n).job = some j) (hopen : j.answered = false)
    (htime : Tick.le (j.entry + BitVec.ofNat 48 (max 1 (s.get (KRN_CFG.TMO n)))) s.tick = true) :
    exec (.krnAnswerTimeout n) s =
      .next ((s.setKern n { s.kern n with job := some { j with answered := true } }).kernAnswer n j) := by
  have hexec : exec (.krnAnswerTimeout n) s = execKrnAnswerTimeout n s := rfl
  have hdue : (!j.answered && Tick.le (j.entry + BitVec.ofNat 48 (Nat.max 1 (s.get (KRN_CFG.TMO n)))) s.tick) = true := by
    rw [hopen]
    exact htime
  rw [hexec, execKrnAnswerTimeout]
  dsimp only
  rw [hjob]
  exact if_pos hdue

theorem exec_krnAnswerTimeout_none (hjob : (s.kern n).job = none) (hqueue : (s.kern n).queue = []) :
    exec (.krnAnswerTimeout n) s = .next s := by
  have hexec : exec (.krnAnswerTimeout n) s = execKrnAnswerTimeout n s := rfl
  rw [hexec, execKrnAnswerTimeout]
  dsimp only
  rw [hjob, hqueue]
  rfl

/-- The answer to a job while RUN is 1: STATE 0, VALID 0, counted, and reported. -/
theorem State.kernAnswer_spec (s : State) (n : Nat) (j : Job) (hrun : s.bit (KRN_CTRL.RUN n) = true) :
    let t := s.kernAnswer n j
    t.kern n = s.kern n ∧
    (∃ dec : Decision, t.decMade = s.decMade ++ [(dec, j.entry)] ∧ dec.state = 0 ∧ dec.valid = false ∧ dec.kern = true ∧
      dec.src = BitVec.ofNat 8 j.res.src ∧ dec.endTick = j.res.endTick) ∧
    t.get (KRN_NODEC_CNT.COUNT n) = min (s.get (KRN_NODEC_CNT.COUNT n) + 1) (2 ^ 32 - 1) ∧
    t.raised = s.raised ++ [{
      src := Src.KRN_NODEC, tick := s.tick, slots := slot n ++ slot (j.res.src % 16) ++ slotTick j.res.endTick, injected := false }] := by
  obtain ⟨u, hu⟩ : ∃ u, u = (s.kernDecide j 0 false false false).bump (KRN_NODEC_CNT.COUNT n) := ⟨_, rfl⟩
  have hmade : u.exceptEngine = (s.kernDecide j 0 false false false).exceptEngine := hu ▸ State.exceptEngine_bump ..
  obtain ⟨dec, hdec, hsrc, hkern, -, hstate, hend, hvalid⟩ := State.decMade_of_decided hmade
  obtain ⟨-, -, hraised, htick⟩ := State.lists_of_exceptEngine_eq hmade
  rw [State.kernAnswer_running j hrun, ← hu]
  refine ⟨?_, ⟨dec, ?_, hstate, hvalid, hkern, hsrc, hend⟩, ?_, ?_⟩
  · refine State.raise_keeps (P := fun v => v.kern n = s.kern n) _ _ (fun _ _ hv => hv) ?_
    rw [hu, State.kern_bump, State.kern_kernDecide]
  · exact State.raise_keeps (P := fun v => v.decMade = s.decMade ++ [(dec, j.entry)]) _ _ (fun _ _ hv => hv) hdec
  · refine State.raise_keeps (P := fun v => v.get (KRN_NODEC_CNT.COUNT n) = _) _ _ (fun _ _ hv => hv) ?_
    rw [hu, State.get_bump_same _ _ _ (by decide : 0 + 32 ≤ 32), State.get_kernDecide]
    rfl
  · rw [State.raised_raise _ (u.standbyMute_kern (by decide)), hraised, htick]
    rfl

end

end Sys2Proof.Machine
end

section
/-! PROOF. RUN, bank swaps, host requests and accesses, and the acceptance of interrupts (R201 to R204, R218, R219, R222). -/

namespace Sys2Proof.Machine

section
variable {s : State} {n : Fin 16}

/-! ## RUN (R201, R222) -/

/-- What a start keeps of an engine. -/
def Kern.started (e : Kern) : Kern := { Kern.init with fifo := e.fifo, ppLost := e.ppLost, lastEntry := e.lastEntry }

/-- The state as RUN goes from 0 to 1. -/
def State.runStarted (s : State) (n : Nat) : State :=
  (((s.setKern n (s.kern n).started).setBit (KRN_CTRL.RUN n) true).set (KRN_STAT.STATE n) krn.run).showKern n

theorem exec_krnRunStart (s : State) (n : Fin 16) : exec (.krnRunStart n) s =
    if s.bit (KRN_CTRL.RUN n) then .next s else .next (s.runStarted n) := rfl

theorem exec_krnRunStop (s : State) (n : Fin 16) : exec (.krnRunStop n) s =
    .next (if s.bit (KRN_CTRL.RUN n) then s.kernStop n 0 else s) := rfl

theorem State.runStarted_spec (s : State) (n : Nat) :
    let t := s.runStarted n
    t.bit (KRN_CTRL.RUN n) = true ∧ t.kern n = (s.kern n).started ∧ t.get (KRN_STAT.STATE n) = krn.run ∧
    t.bit (KRN_STAT.BANK n) = s.bit (KRN_STAT.BANK n) ∧ t = { s with regs := t.regs, kerns := t.kerns } := by
  refine ⟨?_, ?_, ?_, ?_, State.eq_of_exceptEngine_eq ?_⟩ <;> unfold State.runStarted
  · rw [State.bit_ctrl_showKern _ rfl (by decide : 0 + 1 ≤ 32),
      State.bit_set_apart (g := KRN_CTRL.RUN n) _ (by decide : 0 + 1 ≤ 32) (.inl (krnReg_ne (by decide)))]
    exact State.bit_setBit_same _ true rfl (by decide : 0 < 32)
  · rw [State.kern_showKern, State.kern_set, State.kern_setBit, State.kern_setKern_same]
  · rw [State.get_state_showKern, State.get_state_set _ n (by decide)]
  · rw [State.bit_showKern_apart (g := KRN_STAT.BANK n) _ (by decide : 2 + 1 ≤ 32) (krnReg_ne (by decide))
        (.inr (.inr (by decide : 2 + 1 ≤ 3))),
      State.bit_set_apart (g := KRN_STAT.BANK n) _ (by decide : 2 + 1 ≤ 32) (.inr (.inl (by decide : 0 + 2 ≤ 2))),
      State.bit_setBit_apart (g := KRN_STAT.BANK n) _ (by decide : 2 + 1 ≤ 32) (.inl (krnReg_ne (by decide))), State.bit_setKern]
  · rw [State.exceptEngine_showKern, State.exceptEngine_set, State.setBit_eq, State.exceptEngine_set, State.exceptEngine_setKern]

/-- The state without what the stop of an engine writes. -/
def State.exceptStop (s : State) : State := { s with regs := [], kerns := [], decMade := [], winResults := [], raised := [] }

theorem State.eq_of_exceptStop_eq {s t : State} (h : t.exceptStop = s.exceptStop) : t = { s with
    regs := t.regs, kerns := t.kerns, decMade := t.decMade, winResults := t.winResults, raised := t.raised } :=
  congrArg (fun u : State => { u with
    regs := t.regs, kerns := t.kerns, decMade := t.decMade, winResults := t.winResults, raised := t.raised }) h

theorem State.exceptStop_set (s : State) (f : Rf) (v : Nat) : (s.set f v).exceptStop = s.exceptStop := rfl

theorem State.exceptStop_setKern (s : State) (j : Nat) (k : Kern) : (s.setKern j k).exceptStop = s.exceptStop := rfl

theorem State.exceptStop_kernHalted (s : State) (n cause : Nat) : (s.kernHalted n cause).exceptStop = s.exceptStop := by
  rw [State.kernHalted, State.exceptStop_setKern, State.exceptStop_set, State.exceptStop_set, State.exceptStop_set, State.setBit_eq,
    State.exceptStop_set]

/-- A stop writes registers, engines, the decisions and reports of its jobs, and nothing else. -/
theorem State.exceptStop_kernStop (s : State) (n cause : Nat) : (s.kernStop n cause).exceptStop = s.exceptStop := by
  have hset (u : State) (f : Rf) (v : Nat) (hu : u.exceptStop = s.exceptStop) : (u.set f v).exceptStop = s.exceptStop := hu
  exact State.kernStop_keeps (P := fun u => u.exceptStop = s.exceptStop) cause (fun _ _ _ _ _ _ hu => hu) (fun _ _ => hset _ _ _)
    (fun _ _ hu => hu) (fun _ hu => hu) (fun _ => State.showKern_keeps (P := fun u => u.exceptStop = s.exceptStop) n hset)
    (s.exceptStop_kernHalted n cause)

/-! ## Swaps and host requests (R204, R218) -/

theorem exec_krnSwapRequest (s : State) (n : Fin 16) : exec (.krnSwapRequest n) s =
    .next (if s.bit (KRN_CTRL.RUN n) then s.setBit (KRN_CTRL.SWAP n) true else s.kernSwap n) := rfl

/-- A swap writes BANK and SWAP. -/
theorem State.get_kernSwap_apart (s : State) {n : Nat} {g : Rf} (hw : g.lo + g.len ≤ 32) (hbank : (KRN_STAT.BANK n).apart g)
    (hswap : (KRN_CTRL.SWAP n).apart g) : (s.kernSwap n).get g = s.get g := by
  rw [State.kernSwap, State.setBit_eq, State.get_set_apart _ hw hswap, State.setBit_eq, State.get_set_apart _ hw hbank]

theorem State.kernSwap_spec (s : State) (n : Nat) :
    let t := s.kernSwap n
    t.bit (KRN_STAT.BANK n) = !s.bit (KRN_STAT.BANK n) ∧ t.bit (KRN_CTRL.SWAP n) = false ∧
    s.regsOnly t [KRN_STAT.BANK n, KRN_CTRL.SWAP n] := by
  refine ⟨?_, State.bit_setBit_same _ false rfl (by decide : 1 < 32), ?_,
    ((State.fieldsOnly_of_regs_eq rfl _).set (by simp) _).set (by simp) _⟩
  · rw [State.kernSwap, State.bit_setBit_apart (g := KRN_STAT.BANK n) _ (by decide : 2 + 1 ≤ 32) (.inl (krnReg_ne (by decide)))]
    exact State.bit_setBit_same s _ rfl (by decide : 2 < 32)
  · refine State.eq_of_exceptRegs_eq ?_
    rw [State.kernSwap, State.setBit_eq, State.exceptRegs_set, State.setBit_eq, State.exceptRegs_set]

theorem exec_krnHreq (s : State) (n : Fin 16) : exec (.krnHreq n) s =
    .next (if s.bit (KRN_CFG.HREQ_EN n) && s.bit (KRN_CTRL.RUN n) then s.setBit (KRN_CTRL.HREQ n) true
      else s.setBit (KRN_STAT.HREJ n) true) := rfl

/-! ## Host accesses (R203) -/

theorem exec_krnHostAccess_data (s : State) (n : Fin 16) {wd : Fin 36864} (h : wd.val < 32768) (write : Option Word) :
    exec (.krnHostAccess n wd write) s = .next (s.kernHost n false wd write) := congrArg _ (if_pos h)

theorem exec_krnHostAccess_prog (s : State) (n : Fin 16) {wd : Fin 36864} (h : 32768 ≤ wd.val) (write : Option Word) :
    exec (.krnHostAccess n wd write) s = .next (s.kernHost n true (wd.val - 32768) write) :=
  congrArg _ (if_neg (Nat.not_lt.mpr h))

/-- While RUN is 0 the host may use every word. -/
theorem State.kernHostOk_stopped {n : Nat} (h : s.bit (KRN_CTRL.RUN n) = false) (prog : Bool) (p : Nat) :
    s.kernHostOk n prog p = true := by
  rw [State.kernHostOk, h]
  rfl

/-- While RUN is 1 neither program memory nor working memory is open. -/
theorem State.kernHostOk_running {n : Nat} (h : s.bit (KRN_CTRL.RUN n) = true) {prog : Bool} {p : Nat}
    (hp : prog = true ∨ p < 0x6000) : s.kernHostOk n prog p = false := by
  obtain rfl | hp := hp
  · rw [State.kernHostOk, h]
    rfl
  · have hlow : decide (0x6000 ≤ p) = false := decide_eq_false (by omega)
    have hhigh : decide (0x7000 ≤ p) = false := decide_eq_false (by omega)
    rw [State.kernHostOk, h, hlow, hhigh]
    simp

theorem State.kernHost_refused {n : Nat} {prog : Bool} {p : Nat} (h : s.kernHostOk n prog p = false) (v : Word) :
    s.kernHost n prog p (some v) = s.setBit (KRN_STAT.HREJ n) true := by
  rw [State.kernHost, h]
  rfl

theorem State.kernHost_served {n : Nat} {prog : Bool} {p : Nat} (h : s.kernHostOk n prog p = true) (write : Option Word) :
    s.kernHost n prog p write =
      let a := if prog then R.KRN_PMEM n p else R.KRN_DMEM n p
      match write with
      | none => s.answer (if prog then s.rd a else ((s.rd a).setWidth 18).signExtend 32)
      | some w => s.wr a (if prog then w else (w.setWidth 18).setWidth 32) := by
  cases write
  all_goals
    unfold State.kernHost
    rw [h]
    rfl

/-! ## Interrupts (R218, R219) -/

/-- The engine as it vectors. -/
def Kern.vectored (e : Kern) (kind : Nat) (pc : BitVec 12) (job : Option Job) : Kern :=
  { e with save := (e.pc, e.full.z, e.full.n, e.full.st), pc := pc, vis := e.full, waiting := false, handler := kind, job := job }

theorem State.kernVector_eq (s : State) (n kind : Nat) (pc : BitVec 12) (job : Option Job) : s.kernVector n kind pc job =
    ((s.setKern n ((s.kern n).vectored kind pc job)).set (KRN_STAT.STATE n) krn.handler).showKern n := rfl

theorem State.kern_kernVector (s : State) (n kind : Nat) (pc : BitVec 12) (job : Option Job) :
    (s.kernVector n kind pc job).kern n = (s.kern n).vectored kind pc job := by
  rw [State.kernVector_eq, State.kern_showKern, State.kern_set, State.kern_setKern_same]

theorem State.state_kernVector (s : State) (n kind : Nat) (pc : BitVec 12) (job : Option Job) :
    (s.kernVector n kind pc job).get (KRN_STAT.STATE n) = krn.handler := by
  rw [State.kernVector_eq, State.get_state_showKern, State.get_state_set _ n (by decide)]

theorem State.bit_kernVector_apart (s : State) {n : Nat} (kind : Nat) (pc : BitVec 12) (job : Option Job) {g : Rf}
    (hw : g.lo + g.len ≤ 32) (hq : g.addr ≠ R.KRN_Q_STAT n) (hv : (KRN_STAT.V n).apart g) (hstate : (KRN_STAT.STATE n).apart g) :
    (s.kernVector n kind pc job).bit g = s.bit g := by
  rw [State.kernVector_eq, State.bit_showKern_apart _ hw hq hv, State.bit_set_apart _ hw hstate, State.bit_setKern]

theorem State.exceptEngine_kernVector (s : State) (n kind : Nat) (pc : BitVec 12) (job : Option Job) :
    (s.kernVector n kind pc job).exceptEngine = s.exceptEngine := by
  rw [State.kernVector_eq, State.exceptEngine_showKern, State.exceptEngine_set, State.exceptEngine_setKern]

/-- An acceptance point: the engine runs, outside handlers, repeats and delay slots. -/
def State.Accepts (s : State) (n : Nat) : Prop :=
  s.bit (KRN_CTRL.RUN n) = true ∧ (s.kern n).handler = 0 ∧ (s.kern n).reps = [] ∧ (s.kern n).slots = 0

/-- The longest hold of a job, with the one that is taken now. -/
def State.holdNoted (s : State) (n : Nat) (j : Job) : State :=
  s.set (KRN_HOLD_MAX.TICKS n) (Nat.max (s.get (KRN_HOLD_MAX.TICKS n)) (Nat.min 65535 (Tick.diff (j.res.endTick + 14) s.tick).toNat))

theorem exec_krnInterruptAccept_refused
    (h : (s.kern n).handler ≠ 0 ∨ (s.kern n).reps ≠ [] ∨ (s.kern n).slots ≠ 0 ∨ s.bit (KRN_CTRL.RUN n) = false) :
    exec (.krnInterruptAccept n) s = .next s := by
  have hexec : exec (.krnInterruptAccept n) s = execKrnInterruptAccept n s := rfl
  rw [hexec, execKrnInterruptAccept]
  refine if_pos ?_
  simp only [Bool.or_eq_true, Bool.not_eq_true', bne_iff_ne, List.isEmpty_eq_false_iff]
  tauto

/-- At an acceptance point: a swap first, then the head job, then a host request. -/
theorem exec_krnInterruptAccept (h : s.Accepts n) : exec (.krnInterruptAccept n) s =
    let u := s.when (s.bit (KRN_CTRL.SWAP n)) (·.kernSwap n)
    if s.bit (KRN_CTRL.SWAP n) && u.bit (KRN_CFG.SWAP_VEC n) then .next (u.kernVector n 1 0x004 none)
    else match (s.kern n).queue with
      | j :: js => .next (((u.holdNoted n j).modKern n (fun e => { e with queue := js })).kernVector n 2 0x008 (some j))
      | [] => .next (if u.bit (KRN_CTRL.HREQ n) then u.kernVector n 3 0x00C none else u) := by
  obtain ⟨hrun, hhandler, hreps, hslots⟩ := h
  have hexec : exec (.krnInterruptAccept n) s = execKrnInterruptAccept n s := rfl
  rw [hexec, execKrnInterruptAccept]
  dsimp only
  exact if_neg (by simp [hrun, hhandler, hreps, hslots])

/-- A swap with SWAP_VEC flips the banks and vectors to 0x004. -/
theorem exec_krnInterruptAccept_swap (h : s.Accepts n) (hswap : s.bit (KRN_CTRL.SWAP n) = true)
    (hvec : s.bit (KRN_CFG.SWAP_VEC n) = true) : ∃ t, exec (.krnInterruptAccept n) s = .next t ∧
    t.kern n = (s.kern n).vectored 1 0x004 none ∧ t.bit (KRN_STAT.BANK n) = !s.bit (KRN_STAT.BANK n) ∧
    t.bit (KRN_CTRL.SWAP n) = false := by
  obtain ⟨hbank, hclear, -⟩ := s.kernSwap_spec n
  have hkern : (s.kernSwap n).kern n = s.kern n := by rw [State.kernSwap, State.kern_setBit, State.kern_setBit]
  have huvec : (s.kernSwap n).bit (KRN_CFG.SWAP_VEC n) = true := by
    rw [State.bit, s.get_kernSwap_apart (g := KRN_CFG.SWAP_VEC n) (by decide : 10 + 1 ≤ 32) (.inl (krnReg_ne (by decide)))
      (.inl (krnReg_ne (by decide))), ← State.bit, hvec]
  refine ⟨(s.kernSwap n).kernVector n 1 0x004 none, ?_, ?_, ?_, ?_⟩
  · rw [exec_krnInterruptAccept h]
    dsimp only
    rw [hswap, State.when_true, Bool.true_and, if_pos huvec]
  · rw [State.kern_kernVector, hkern]
  · rw [State.bit_kernVector_apart (g := KRN_STAT.BANK n) _ _ _ _ (by decide : 2 + 1 ≤ 32) (krnReg_ne (by decide))
      (.inr (.inr (by decide : 2 + 1 ≤ 3))) (.inr (.inl (by decide : 0 + 2 ≤ 2))), hbank]
  · rw [State.bit_kernVector_apart (g := KRN_CTRL.SWAP n) _ _ _ _ (by decide : 1 + 1 ≤ 32) (krnReg_ne (by decide))
      (.inl (krnReg_ne (by decide))) (.inl (krnReg_ne (by decide))), hclear]

/-- Without a swap the engine turns to the head job, or to a host request. -/
theorem exec_krnInterruptAccept_noSwap (h : s.Accepts n) (hswap : s.bit (KRN_CTRL.SWAP n) = false) :
    exec (.krnInterruptAccept n) s = match (s.kern n).queue with
      | j :: js => .next (((s.holdNoted n j).modKern n (fun e => { e with queue := js })).kernVector n 2 0x008 (some j))
      | [] => .next (if s.bit (KRN_CTRL.HREQ n) then s.kernVector n 3 0x00C none else s) := by
  rw [exec_krnInterruptAccept h]
  dsimp only
  rw [hswap, State.when_false, Bool.false_and, if_neg Bool.false_ne_true]

/-- The head job is taken from the queue to its handler at 0x008. -/
theorem exec_krnInterruptAccept_job {j : Job} {js : List Job} (h : s.Accepts n) (hswap : s.bit (KRN_CTRL.SWAP n) = false)
    (hqueue : (s.kern n).queue = j :: js) : ∃ t, exec (.krnInterruptAccept n) s = .next t ∧
    t.kern n = { (s.kern n).vectored 2 0x008 (some j) with queue := js } ∧ t.get (KRN_STAT.STATE n) = krn.handler ∧
    t = { s with regs := t.regs, kerns := t.kerns } := by
  refine ⟨((s.holdNoted n j).modKern n (fun e => { e with queue := js })).kernVector n 2 0x008 (some j), ?_, ?_,
    State.state_kernVector .., State.eq_of_exceptEngine_eq ?_⟩
  · rw [exec_krnInterruptAccept_noSwap h hswap, hqueue]
  · rw [State.kern_kernVector, State.modKern_eq, State.kern_setKern_same, State.holdNoted, State.kern_set]
    rfl
  · rw [State.exceptEngine_kernVector, State.modKern_eq, State.exceptEngine_setKern, State.holdNoted, State.exceptEngine_set]

end

/-- Settles O30: one lemma for each command, and for each way of the acceptance. -/
theorem kernelJobsAndControl : Obligations.KernelJobsAndControl := by
  unfold Obligations.KernelJobsAndControl
  intro s n r rest pt pts j js wd v e run kdue accepts
  refine ⟨exec_krnJobHandover_none,
    fun hdue hsrc htime hpartials hrun hroom hlost =>
      ⟨_, exec_krnJobHandover hdue hsrc htime hpartials hrun hroom hlost, s.jobQueued_spec n r rest hroom⟩,
    fun hpts hinput htime hroom => exec_partialPointEntry_room ⟨hpts, hinput, htime⟩ hroom,
    fun hpts hinput htime hfull => exec_partialPointEntry_full ⟨hpts, hinput, htime⟩ hfull,
    fun hjob hopen htime hrun => ?timeout, exec_krnAnswerTimeout_none,
    fun hrun => ⟨_, (exec_krnRunStart s n).trans (if_neg (Bool.eq_false_iff.mp hrun)), s.runStarted_spec n⟩,
    fun hrun => ⟨(exec_krnRunStart s n).trans (if_pos hrun), ?stop⟩, fun hrun => ⟨?stopped, ?swap⟩, fun hrun => ?swapLater, ?hreq,
    fun hrun hwd => ⟨?dataWrite, ?dataRead⟩, fun hrun hwd => ⟨?progWrite, ?progRead⟩, fun hrun hwd => ?refused,
    fun h hswap hvec => ?acceptSwap, exec_krnInterruptAccept_job, fun h hswap hqueue hreq => ?acceptHost,
    fun h hswap hqueue hreq => ?acceptNone, exec_krnInterruptAccept_refused⟩
  case timeout =>
    obtain ⟨hkern, hdec, hcount, hraised⟩ :=
      (s.setKern n { e with job := some { j with answered := true } }).kernAnswer_spec n j ((State.bit_setKern ..).trans hrun)
    rw [State.get_setKern] at hcount
    exact ⟨_, exec_krnAnswerTimeout hjob hopen htime, by rw [hkern, State.kern_setKern_same], hdec, hcount, hraised⟩
  case stop =>
    obtain ⟨hclear, hcause, -, hstate, hjob, hqueue⟩ := s.kernStop_spec n (cause := 0) (by decide)
    exact ⟨_, (exec_krnRunStop s n).trans (congrArg _ (if_pos hrun)), hclear, hstate, hcause, hjob, hqueue,
      State.eq_of_exceptStop_eq (s.exceptStop_kernStop n 0)⟩
  case stopped => exact (exec_krnRunStop s n).trans (congrArg _ (if_neg (Bool.eq_false_iff.mp hrun)))
  case swap => exact ⟨_, (exec_krnSwapRequest s n).trans (congrArg _ (if_neg (Bool.eq_false_iff.mp hrun))), s.kernSwap_spec n⟩
  case swapLater => exact (exec_krnSwapRequest s n).trans (congrArg _ (if_pos hrun))
  case hreq =>
    rw [exec_krnHreq]
    exact congrArg _ (if_congr Bool.and_eq_true_iff rfl rfl)
  case dataWrite | dataRead =>
    rw [exec_krnHostAccess_data s n hwd, State.kernHost_served (State.kernHostOk_stopped hrun ..)]
    rfl
  case progWrite | progRead =>
    rw [exec_krnHostAccess_prog s n hwd, State.kernHost_served (State.kernHostOk_stopped hrun ..)]
    rfl
  case refused =>
    by_cases hdata : wd.val < 32768
    · rw [exec_krnHostAccess_data s n hdata, State.kernHost_refused (State.kernHostOk_running hrun (.inr (by omega)))]
    · rw [exec_krnHostAccess_prog s n (Nat.not_lt.mp hdata), State.kernHost_refused (State.kernHostOk_running hrun (.inl rfl))]
  case acceptSwap =>
    obtain ⟨t, hexec, hkern, hbank, hclear⟩ := exec_krnInterruptAccept_swap h hswap hvec
    exact ⟨t, hexec, by rw [hkern]; rfl, by rw [hkern]; rfl, by rw [hkern]; rfl, by rw [hkern]; rfl, hbank, hclear⟩
  case acceptHost =>
    refine ⟨s.kernVector n 3 0x00C none, ?_, by rw [State.kern_kernVector]; rfl, by rw [State.kern_kernVector]; rfl⟩
    rw [exec_krnInterruptAccept_noSwap h hswap, hqueue]
    exact congrArg _ (if_pos hreq)
  case acceptNone =>
    rw [exec_krnInterruptAccept_noSwap h hswap, hqueue]
    exact congrArg _ (if_neg (Bool.eq_false_iff.mp hreq))

end Sys2Proof.Machine
end

section
/-! PROOF. Admission (R238, R239): what a decision reads, what a rejection writes, and the total admitted. -/

namespace Sys2Proof.Machine

/-! ## What a decision reads -/

section
variable {s t : State} {n : Nat}

/-- The figure of a unit is read from registers after ACQ_CTRL. -/
theorem State.acqFigure_congr (h : ∀ f : Rf, R.ACQ_CTRL n < f.addr → t.get f = s.get f) : t.acqFigure n = s.acqFigure n := by
  have hreg {o : Nat} (ho : 0x38000 < o) (lo len : Nat) :
      t.get ⟨0x500000 + 0x40000 * n + o, lo, len⟩ = s.get ⟨0x500000 + 0x40000 * n + o, lo, len⟩ := h _ (Nat.add_lt_add_left ho _)
  simp only [State.acqFigure, State.bit, ACQ_TONES.MASK, ACQ_CFG.PERIOD, ACQ_CFG.DECL, ACQ_CFG.PT, ACQ_CFG.ST, ACQ_CFG.AV, ACQ_CFG.DT,
    ACQ_CFG.RAW, ACQ_RAW.RLEN, R.ACQ_TONES, R.ACQ_CFG, R.ACQ_RAW, hreg (by decide : 0x38000 < 0x3800C),
    hreg (by decide : 0x38000 < 0x38008), hreg (by decide : 0x38000 < 0x38014)]

theorem State.acqBusy_congr (h : ∀ f : Rf, R.ACQ_CTRL n < f.addr → t.get f = s.get f) : t.acqBusy n = s.acqBusy n := by
  rw [State.acqBusy, State.acqState, h _ (Nat.add_lt_add_left (by decide) _), State.acqBusy, State.acqState]

theorem State.acqBadConfig_congr (h : ∀ f : Rf, R.ACQ_CTRL n < f.addr → t.get f = s.get f) : t.acqBadConfig n = s.acqBadConfig n := by
  have hreg {o : Nat} (ho : 0x38000 < o) (lo len : Nat) :
      t.get ⟨0x500000 + 0x40000 * n + o, lo, len⟩ = s.get ⟨0x500000 + 0x40000 * n + o, lo, len⟩ := h _ (Nat.add_lt_add_left ho _)
  have hcond (i : Nat) : t.get (TRG_COND.SRC n i) = s.get (TRG_COND.SRC n i) := h _ (by
    show 0x500000 + 0x40000 * n + 0x38000 < 0x500000 + 0x40000 * n + 0x38100 + 16 * i
    omega)
  simp only [State.acqBadConfig, State.acqLargest, State.getInt, State.bit, hcond, ACQ_TONES.MASK, ACQ_CFG.DECL, ACQ_CFG.PT, ACQ_CFG.ST,
    ACQ_CFG.AV, ACQ_CFG.DT, ACQ_CFG.RAW, ACQ_RAW.RLEN, ACQ_RAW.TONE, ACQ_RAW.OFF, ACQ_CAP.SHOTS, ACQ_CAP.SLOTS, ACQ_BUF_SIZE.VALUE,
    R.ACQ_TONES, R.ACQ_CFG, R.ACQ_RAW, R.ACQ_CAP, R.ACQ_BUF_SIZE,
    hreg (by decide : 0x38000 < 0x38008), hreg (by decide : 0x38000 < 0x3800C), hreg (by decide : 0x38000 < 0x38010),
    hreg (by decide : 0x38000 < 0x38014), hreg (by decide : 0x38000 < 0x3801C)]
  rfl

end

/-! ## Rejections -/

section
variable {s t : State} {g : Rf}

/-- What a rejection writes, besides an excess: its cause and who asked. -/
def State.refused (s : State) (cause unit : Nat) : State := (s.set ADM_REJ.CAUSE cause).set ADM_REJ.UNIT unit

theorem State.admReject_eq (s : State) (cause unit : Nat) (excess : Option Nat) : s.admReject cause unit excess =
    match excess with
    | some x => (s.refused cause unit).set ADM_REJ.EXCESS (Nat.min x 0xFFFFFF)
    | none => s.refused cause unit := rfl

theorem State.get_unit_refused (s : State) (cause : Nat) {unit : Nat} (h : unit < 32) :
    (s.refused cause unit).get ADM_REJ.UNIT = unit :=
  State.get_set_of_lt _ (by decide) h

theorem State.get_cause_refused (s : State) {cause : Nat} (unit : Nat) (h : cause < 8) :
    (s.refused cause unit).get ADM_REJ.CAUSE = cause := by
  rw [State.refused, State.get_set_disjoint _ ADM_REJ.UNIT ADM_REJ.CAUSE _ (by decide) (by decide)]
  exact State.get_set_of_lt _ (by decide) h

/-- A rejection for BANDWIDTH: cause, who asked, and the excess. -/
theorem State.admReject_bandwidth_spec (s : State) {unit : Nat} (x : Nat) (h : unit < 32) :
    let t := s.admReject 1 unit (some x)
    t.get ADM_REJ.CAUSE = 1 ∧ t.get ADM_REJ.UNIT = unit ∧ t.get ADM_REJ.EXCESS = min x 0xFFFFFF := by
  refine ⟨?_, ?_, State.get_set_of_lt _ (by decide) (Nat.lt_succ_of_le (Nat.min_le_right ..))⟩
  · rw [State.admReject_eq, State.get_set_disjoint _ ADM_REJ.EXCESS ADM_REJ.CAUSE _ (by decide) (by decide)]
    exact s.get_cause_refused _ (by decide)
  · rw [State.admReject_eq, State.get_set_disjoint _ ADM_REJ.EXCESS ADM_REJ.UNIT _ (by decide) (by decide)]
    exact s.get_unit_refused _ h

/-- A rejection writes ADM_REJ alone. -/
theorem State.get_admReject (s : State) (cause unit : Nat) (excess : Option Nat) (h : g.addr ≠ R.ADM_REJ) :
    (s.admReject cause unit excess).get g = s.get g := by
  have hrefused : (s.refused cause unit).get g = s.get g := by
    rw [State.refused, State.get_set_ne _ _ _ _ h, State.get_set_ne _ _ _ _ h]
  rw [State.admReject_eq]
  cases excess with
  | some x => exact (State.get_set_ne _ _ _ _ h).trans hrefused
  | none => exact hrefused

theorem State.admReject_frame (s : State) (cause unit : Nat) (excess : Option Nat) :
    (s.admReject cause unit excess).acqs = s.acqs ∧ (s.admReject cause unit excess).maxPlays = s.maxPlays := by
  cases excess <;> exact ⟨rfl, rfl⟩

/-! ## The admitted total -/

/-- The total admitted: the plays allowed and the units' figures. -/
def State.admitted (s : State) : Nat := admTotal s.maxPlays s.admFigures

theorem State.admFigures_congr (h : ∀ m, m < 16 → t.get (ACQ_ADM.MBPS m) = s.get (ACQ_ADM.MBPS m)) : t.admFigures = s.admFigures :=
  List.map_congr_left fun m hm => h m (List.mem_range.mp hm)

/-- A register that holds neither a figure nor the limit. -/
def offAdmission (a : Nat) : Prop := a ≠ R.ADM_CFG ∧ ∀ m, m < 16 → a ≠ R.ACQ_ADM m

theorem offAdmission_global {a : Nat} (h : a < 0x500000) (hcfg : a ≠ R.ADM_CFG) : offAdmission a :=
  ⟨hcfg, fun m _ => by unfold R.ACQ_ADM; omega⟩

theorem offAdmission_unit {o : Nat} (n : Nat) (ho : o < 0x40000) (h : o ≠ 0x38050) : offAdmission (0x500000 + 0x40000 * n + o) :=
  ⟨by unfold R.ADM_CFG; omega, fun m _ => by unfold R.ACQ_ADM; omega⟩

/-- Figures and limit after a field elsewhere was set. -/
theorem State.admission_set (s : State) (v : Nat) (h : offAdmission g.addr) :
    (s.set g v).admFigures = s.admFigures ∧ (s.set g v).admLimit = s.admLimit :=
  ⟨State.admFigures_congr fun m hm => s.get_set_ne g _ v (h.2 m hm).symm,
    congrArg (Nat.min 90000) (s.get_set_ne g _ v h.1.symm)⟩

/-- Total and limit after a field elsewhere was set. -/
theorem State.totals_set (s : State) (v : Nat) (h : offAdmission g.addr) :
    (s.set g v).admitted = s.admitted ∧ (s.set g v).admLimit = s.admLimit := by
  obtain ⟨hfigures, hlimit⟩ := s.admission_set v h
  refine ⟨?_, hlimit⟩
  rw [State.admitted, hfigures]
  rfl

/-- The total and the limit after a rejection. -/
theorem State.totals_admReject (s : State) (cause unit : Nat) (excess : Option Nat) :
    (s.admReject cause unit excess).admitted = s.admitted ∧ (s.admReject cause unit excess).admLimit = s.admLimit := by
  have hfigures : (s.admReject cause unit excess).admFigures = s.admFigures :=
    State.admFigures_congr fun m _ => s.get_admReject _ _ _ (by show 0x500000 + 0x40000 * m + 0x38050 ≠ 0x1208; omega)
  refine ⟨?_, congrArg (Nat.min 90000) (s.get_admReject _ _ _ (by decide))⟩
  rw [State.admitted, hfigures]
  cases excess <;> rfl

theorem State.admLimit_lt (s : State) : s.admLimit < 2 ^ 24 := (Nat.min_le_left ..).trans_lt (by decide)

/-- The total shown. -/
theorem State.showTotal_spec (s : State) (h : s.admitted ≤ s.admLimit) :
    s.showTotal.get ADM_STAT.TOTAL = s.admitted ∧ s.showTotal.admitted = s.admitted ∧ s.showTotal.admLimit = s.admLimit := by
  obtain ⟨hfigures, hlimit⟩ := s.admission_set (g := ADM_STAT.TOTAL) s.admitted (offAdmission_global (by decide) (by decide))
  exact ⟨State.get_set_of_lt _ (by decide) (h.trans_lt s.admLimit_lt), congrArg (admTotal s.maxPlays) hfigures, hlimit⟩

theorem listSet_eq_set {α : Type} (l : List α) (n : Nat) (a : α) : listSet l n a = l.set n a := by
  induction l generalizing n with
  | nil => rfl
  | cons b l ih =>
    cases n with
    | zero => rfl
    | succ n => rw [listSet, List.set_cons_succ, ih]

/-- The figures after the figure of one unit was set. -/
theorem State.admFigures_setFigure (s : State) {n fig : Nat} (hfig : fig < 2 ^ 24) :
    (s.set (ACQ_ADM.MBPS n) fig).admFigures = listSet s.admFigures n fig := by
  rw [listSet_eq_set]
  refine List.ext_getElem (by simp [State.admFigures]) fun m hm _ => ?_
  simp only [State.admFigures, List.getElem_map, List.getElem_range, List.getElem_set]
  split
  · next h =>
    subst h
    exact State.get_set_of_lt _ (by decide : 0 + 24 ≤ 32) hfig
  · next h => exact State.get_set_ne _ _ _ _ (by show 0x500000 + 0x40000 * m + 0x38050 ≠ 0x500000 + 0x40000 * n + 0x38050; omega)

/-- A figure is at most the total it is part of. -/
theorem State.le_admTotal (s : State) {n : Nat} (hn : n < 16) (plays fig : Nat) :
    fig ≤ admTotal plays (listSet s.admFigures n fig) := by
  have hmem : fig ∈ listSet s.admFigures n fig := by
    rw [listSet_eq_set]
    exact List.mem_set (by simpa [State.admFigures] using hn) fig
  exact (List.le_sum_of_mem hmem).trans (Nat.le_add_left ..)

end

end Sys2Proof.Machine
end

section
/-! PROOF. A COMMIT, a play count and a limit, each taken in and decided (R238, R239). -/

namespace Sys2Proof.Machine

section
variable {s t : State} {n : Nat} {g : Rf} {v : Nat} {rest : List AdmReq}

/-! ## COMMIT decided -/

/-- Unit `n` READY with its configuration in force and its figure admitted. -/
def State.unitAdmitted (s : State) (n : Nat) (a : Acq) (fig : Nat) : State :=
  (((s.setAcq n a).set (ACQ_ADM.MBPS n) fig).set (ACQ_STAT.STATE n) acqSt.ready).showTotal

theorem State.acqAccept_eq (s : State) (n fig : Nat) : ∃ a, s.acqAccept n fig = s.unitAdmitted n a fig := ⟨_, rfl⟩

theorem State.unitAdmitted_spec (s : State) {n : Nat} (a : Acq) {fig : Nat} (hn : n < 16)
    (hnew : admTotal s.maxPlays (listSet s.admFigures n fig) ≤ s.admLimit) :
    let t := s.unitAdmitted n a fig
    let new := admTotal s.maxPlays (listSet s.admFigures n fig)
    t.acqState n = acqSt.ready ∧ t.get (ACQ_ADM.MBPS n) = fig ∧ t.get ADM_STAT.TOTAL = new ∧ t.admitted = new ∧
    t.admLimit = s.admLimit ∧ t.bit (ACQ_CTRL.COMMIT n) = s.bit (ACQ_CTRL.COMMIT n) := by
  have hfig : fig < 2 ^ 24 := ((s.le_admTotal hn _ fig).trans hnew).trans_lt s.admLimit_lt
  have hne {o o' : Nat} (h : o ≠ o') : 0x500000 + 0x40000 * n + o ≠ 0x500000 + 0x40000 * n + o' := krnReg_ne h
  have htotal {o : Nat} : 0x500000 + 0x40000 * n + o ≠ R.ADM_STAT := by unfold R.ADM_STAT; omega
  obtain ⟨u, hu⟩ : ∃ u, u = ((s.setAcq n a).set (ACQ_ADM.MBPS n) fig).set (ACQ_STAT.STATE n) acqSt.ready := ⟨_, rfl⟩
  obtain ⟨hfigures, hlimit⟩ := ((s.setAcq n a).set (ACQ_ADM.MBPS n) fig).admission_set (g := ACQ_STAT.STATE n) acqSt.ready
    (offAdmission_unit n (by decide) (by decide))
  have hadmitted : u.admitted = admTotal s.maxPlays (listSet s.admFigures n fig) := by
    have hsame : (s.setAcq n a).admFigures = s.admFigures := State.admFigures_congr fun _ _ => rfl
    have hplays : u.maxPlays = s.maxPlays := by simp only [hu, State.set_frame, State.setAcq_frame]
    rw [State.admitted, hplays, hu, hfigures, (s.setAcq n a).admFigures_setFigure hfig, hsame]
  have hulimit : u.admLimit = s.admLimit := by
    have hne : R.ADM_CFG ≠ R.ACQ_ADM n := by unfold R.ADM_CFG R.ACQ_ADM; omega
    rw [hu, hlimit, State.admLimit, (s.setAcq n a).get_set_ne (ACQ_ADM.MBPS n) ADM_CFG.LIMIT fig hne]
    rfl
  obtain ⟨hshown, htadmitted, htlimit⟩ := u.showTotal_spec (by rw [hadmitted, hulimit]; exact hnew)
  intro t new
  have ht : t = u.showTotal := by rw [hu]; rfl
  have hget {o : Nat} (lo len : Nat) :
      t.get ⟨0x500000 + 0x40000 * n + o, lo, len⟩ = u.get ⟨0x500000 + 0x40000 * n + o, lo, len⟩ := by
    rw [ht]
    exact State.get_set_ne _ _ _ _ htotal
  refine ⟨?_, ?_, ht ▸ hshown.trans hadmitted, ht ▸ htadmitted.trans hadmitted, ht ▸ htlimit.trans hulimit, ?_⟩
  · refine (hget ..).trans ?_
    rw [hu]
    exact State.get_set_of_lt _ (by decide : 0 + 3 ≤ 32) (by decide : acqSt.ready < 2 ^ 3)
  · refine (hget ..).trans ?_
    rw [hu]
    exact (State.get_set_ne _ _ _ _ (hne (by decide))).trans (State.get_set_of_lt _ (by decide : 0 + 24 ≤ 32) hfig)
  · refine congrArg (· != 0) ((hget ..).trans ?_)
    rw [hu]
    exact (State.get_set_ne _ _ _ _ (hne (by decide))).trans (State.get_set_ne _ _ _ _ (hne (by decide)))

/-- The COMMIT of unit `n` is taken up: its request bit clears. -/
def State.commitTaken (s : State) (n : Nat) : State := s.setBit (ACQ_CTRL.COMMIT n) false

theorem State.get_commitTaken (s : State) {n : Nat} (h : g.addr ≠ R.ACQ_CTRL n) : (s.commitTaken n).get g = s.get g :=
  State.get_set_ne _ _ _ _ h

theorem State.admission_commitTaken (s : State) (n : Nat) :
    (s.commitTaken n).admFigures = s.admFigures ∧ (s.commitTaken n).admLimit = s.admLimit :=
  s.admission_set _ (offAdmission_unit n (by decide) (by decide))

theorem State.maxPlays_commitTaken (s : State) (n : Nat) : (s.commitTaken n).maxPlays = s.maxPlays := by
  simp only [State.commitTaken, State.setBit_frame]

/-- The total if unit `n` were admitted with its registers as they stand. -/
def State.totalWith (s : State) (n : Nat) : Nat := admTotal s.maxPlays (listSet s.admFigures n (s.acqFigure n))

/-- The causes in their order, read from the state as the request finds it. -/
theorem State.decideUnit_eq (s : State) (n : Nat) : s.decideUnit n =
    if s.acqBusy n then ((s.commitTaken n).admReject 2 n none).setBit (ACQ_STAT.CFG_REJ n) true
    else if s.acqBadConfig n then (s.commitTaken n).admReject 3 n none
    else if s.admLimit < s.totalWith n then (s.commitTaken n).admReject 1 n (some (s.totalWith n - s.admLimit))
    else (s.commitTaken n).acqAccept n (s.acqFigure n) := by
  have hget : ∀ f : Rf, R.ACQ_CTRL n < f.addr → (s.commitTaken n).get f = s.get f := fun f hf => s.get_commitTaken hf.ne'
  obtain ⟨hfigures, hlimit⟩ := s.admission_commitTaken n
  have hplays := s.maxPlays_commitTaken n
  rw [← State.acqBusy_congr hget, ← State.acqBadConfig_congr hget, ← hlimit, State.totalWith, ← hfigures,
    ← State.acqFigure_congr hget, ← hplays]
  rfl

/-- The COMMIT of unit `n` accepted. -/
theorem State.commitAccepted_spec (s : State) (hn : n < 16) (hnew : s.totalWith n ≤ s.admLimit) :
    let t := (s.commitTaken n).acqAccept n (s.acqFigure n)
    t.acqState n = acqSt.ready ∧ t.get (ACQ_ADM.MBPS n) = s.acqFigure n ∧ t.get ADM_STAT.TOTAL = s.totalWith n ∧
    t.bit (ACQ_CTRL.COMMIT n) = false ∧ t.admitted = s.totalWith n ∧ t.admLimit = s.admLimit := by
  obtain ⟨hfigures, hlimit⟩ := s.admission_commitTaken n
  have hplays := s.maxPlays_commitTaken n
  have htotal : s.totalWith n = admTotal (s.commitTaken n).maxPlays (listSet (s.commitTaken n).admFigures n (s.acqFigure n)) := by
    rw [hplays, hfigures, State.totalWith]
  obtain ⟨a, ha⟩ := (s.commitTaken n).acqAccept_eq n (s.acqFigure n)
  obtain ⟨hstate, hfig, hshown, hadmitted, hadmLimit, hcommit⟩ :=
    (s.commitTaken n).unitAdmitted_spec a hn (by rw [← htotal, hlimit]; exact hnew)
  rw [ha, htotal]
  exact ⟨hstate, hfig, hshown, hcommit.trans (State.bit_setBit_same s false rfl (by decide : 0 < 32)), hadmitted,
    hadmLimit.trans hlimit⟩

theorem State.decideUnit_accepted (hidle : s.acqBusy n = false) (hgood : s.acqBadConfig n = false)
    (hnew : s.totalWith n ≤ s.admLimit) : s.decideUnit n = (s.commitTaken n).acqAccept n (s.acqFigure n) := by
  rw [State.decideUnit_eq, hidle, hgood, if_neg Bool.false_ne_true, if_neg Bool.false_ne_true, if_neg (Nat.not_lt.mpr hnew)]

theorem State.decideUnit_bandwidth (hidle : s.acqBusy n = false) (hgood : s.acqBadConfig n = false)
    (hnew : s.admLimit < s.totalWith n) : s.decideUnit n = (s.commitTaken n).admReject 1 n (some (s.totalWith n - s.admLimit)) := by
  rw [State.decideUnit_eq, hidle, hgood, if_neg Bool.false_ne_true, if_neg Bool.false_ne_true, if_pos hnew]

/-- The total stays within the limit. -/
theorem State.decideUnit_within (hn : n < 16) (h : s.admitted ≤ s.admLimit) :
    (s.decideUnit n).admitted ≤ (s.decideUnit n).admLimit := by
  obtain ⟨htotal, hlimit⟩ := s.totals_set (g := ACQ_CTRL.COMMIT n) 0 (offAdmission_unit n (by decide) (by decide))
  have hreject (cause unit : Nat) (excess : Option Nat) :
      ((s.commitTaken n).admReject cause unit excess).admitted = s.admitted ∧
      ((s.commitTaken n).admReject cause unit excess).admLimit = s.admLimit := by
    obtain ⟨hrejTotal, hrejLimit⟩ := (s.commitTaken n).totals_admReject cause unit excess
    exact ⟨hrejTotal.trans htotal, hrejLimit.trans hlimit⟩
  have hkeeps {u : State} (hu : u.admitted = s.admitted ∧ u.admLimit = s.admLimit) : u.admitted ≤ u.admLimit := by
    rw [hu.1, hu.2]
    exact h
  rw [State.decideUnit_eq]
  split
  · obtain ⟨hrejTotal, hrejLimit⟩ := hreject 2 n none
    obtain ⟨hsetTotal, hsetLimit⟩ := ((s.commitTaken n).admReject 2 n none).totals_set (g := ACQ_STAT.CFG_REJ n) 1
      (offAdmission_unit n (by decide) (by decide))
    exact hkeeps ⟨hsetTotal.trans hrejTotal, hsetLimit.trans hrejLimit⟩
  · split
    · exact hkeeps (hreject ..)
    · split
      · exact hkeeps (hreject ..)
      · next hnew =>
        obtain ⟨-, -, -, -, hadmitted, hadmLimit⟩ := s.commitAccepted_spec hn (Nat.not_lt.mp hnew)
        rw [hadmitted, hadmLimit]
        exact Nat.not_lt.mp hnew

/-! ## What a decision changes -/

/-- The state without what a decision writes. -/
def State.exceptAdmission (s : State) : State := { s with regs := [], acqs := [], maxPlays := 0 }

/-- The state with the requests that wait. -/
def State.setAdmQueue (s : State) (l : List AdmReq) : State := { s with admQueue := l }

/-- A decision reads nothing of the requests that wait. -/
theorem State.setAdmQueue_reads (s : State) (l : List AdmReq) (n : Nat) :
    (s.setAdmQueue l).acqBusy n = s.acqBusy n ∧ (s.setAdmQueue l).acqBadConfig n = s.acqBadConfig n ∧
    (s.setAdmQueue l).totalWith n = s.totalWith n ∧ (s.setAdmQueue l).acqFigure n = s.acqFigure n ∧
    (s.setAdmQueue l).admLimit = s.admLimit := by
  have hfigures : (s.setAdmQueue l).admFigures = s.admFigures := State.admFigures_congr fun _ _ => rfl
  have hfigure : (s.setAdmQueue l).acqFigure n = s.acqFigure n := State.acqFigure_congr fun _ _ => rfl
  refine ⟨State.acqBusy_congr fun _ _ => rfl, State.acqBadConfig_congr fun _ _ => rfl, ?_, hfigure, rfl⟩
  rw [State.totalWith, hfigures, hfigure]
  rfl

theorem State.eq_of_exceptAdmission_eq {l : List AdmReq} (h : t.exceptAdmission = (s.setAdmQueue l).exceptAdmission) :
    t = { s with regs := t.regs, acqs := t.acqs, admQueue := l, maxPlays := t.maxPlays } :=
  congrArg (fun u : State => { u with regs := t.regs, acqs := t.acqs, maxPlays := t.maxPlays }) h

theorem State.admQueue_of_exceptAdmission_eq {l : List AdmReq} (h : t.exceptAdmission = (s.setAdmQueue l).exceptAdmission) :
    t.admQueue = l :=
  (congrArg State.admQueue h :)

theorem State.exceptAdmission_set (s : State) (f : Rf) (v : Nat) : (s.set f v).exceptAdmission = s.exceptAdmission := rfl

theorem State.exceptAdmission_admReject (s : State) (cause unit : Nat) (excess : Option Nat) :
    (s.admReject cause unit excess).exceptAdmission = s.exceptAdmission := by
  cases excess <;> rfl

theorem State.exceptAdmission_showTotal (s : State) : s.showTotal.exceptAdmission = s.exceptAdmission := s.exceptAdmission_set _ _

theorem State.exceptAdmission_acqAccept (s : State) (n fig : Nat) : (s.acqAccept n fig).exceptAdmission = s.exceptAdmission := by
  obtain ⟨a, ha⟩ := s.acqAccept_eq n fig
  rw [ha, State.unitAdmitted, State.exceptAdmission_showTotal, State.exceptAdmission_set, State.exceptAdmission_set]
  rfl

theorem State.exceptAdmission_decideUnit (s : State) (n : Nat) : (s.decideUnit n).exceptAdmission = s.exceptAdmission := by
  have htaken : (s.commitTaken n).exceptAdmission = s.exceptAdmission := s.exceptAdmission_set _ _
  rw [State.decideUnit_eq]
  split
  · rw [State.setBit_eq, State.exceptAdmission_set, State.exceptAdmission_admReject, htaken]
  · split
    · rw [State.exceptAdmission_admReject, htaken]
    · split
      · rw [State.exceptAdmission_admReject, htaken]
      · rw [State.exceptAdmission_acqAccept, htaken]

/-! ## Plays and limit decided -/

/-- The state with `v` plays allowed. -/
def State.withPlays (s : State) (v : Nat) : State := { s with maxPlays := v }

/-- `v` plays admitted. -/
def State.playsAdmitted (s : State) (v : Nat) : State := ((s.withPlays v).set SYN_STREAM_CFG.MAX_PLAYS v).showTotal

/-- The limit `v` accepted. -/
def State.limitAccepted (s : State) (v : Nat) : State := (s.set ADM_CFG.LIMIT v).showTotal

theorem State.playsAdmitted_spec (s : State) {v : Nat} (hv : v < 256) (h : admTotal v s.admFigures ≤ s.admLimit) :
    let t := s.playsAdmitted v
    t.maxPlays = v ∧ t.get SYN_STREAM_CFG.MAX_PLAYS = v ∧ t.get ADM_STAT.TOTAL = admTotal v s.admFigures ∧
    t.admitted = admTotal v s.admFigures ∧ t.admLimit = s.admLimit ∧ t.exceptAdmission = s.exceptAdmission := by
  obtain ⟨u, hu⟩ : ∃ u, u = (s.withPlays v).set SYN_STREAM_CFG.MAX_PLAYS v := ⟨_, rfl⟩
  obtain ⟨hfigures, hlimit⟩ := (s.withPlays v).admission_set (g := SYN_STREAM_CFG.MAX_PLAYS) v
    (offAdmission_global (by decide) (by decide))
  have hadmitted : u.admitted = admTotal v s.admFigures := by
    rw [hu, State.admitted, hfigures]
    rfl
  have hulimit : u.admLimit = s.admLimit := hu ▸ hlimit
  obtain ⟨hshown, htadmitted, htlimit⟩ := u.showTotal_spec (by rw [hadmitted, hulimit]; exact h)
  have ht : s.playsAdmitted v = u.showTotal := hu ▸ rfl
  rw [ht]
  refine ⟨hu ▸ rfl, ?_, hshown.trans hadmitted, htadmitted.trans hadmitted, htlimit.trans hulimit, ?_⟩
  · rw [State.showTotal, State.get_set_ne _ ADM_STAT.TOTAL SYN_STREAM_CFG.MAX_PLAYS _ (by decide), hu]
    exact State.get_set_of_lt _ (by decide) hv
  · rw [State.exceptAdmission_showTotal, hu, State.exceptAdmission_set]
    rfl

theorem State.limitAccepted_spec (s : State) {v : Nat} (hv : v < 2 ^ 24) (h : s.admitted ≤ min 90000 v) :
    let t := s.limitAccepted v
    t.admitted ≤ t.admLimit ∧ t.exceptAdmission = s.exceptAdmission := by
  obtain ⟨u, hu⟩ : ∃ u, u = s.set ADM_CFG.LIMIT v := ⟨_, rfl⟩
  have hfigures : u.admFigures = s.admFigures := hu ▸ State.admFigures_congr fun m _ =>
    s.get_set_ne ADM_CFG.LIMIT _ v (by show 0x500000 + 0x40000 * m + 0x38050 ≠ 0x1200; omega)
  have hwithin : u.admitted ≤ u.admLimit := by
    have hlimit : u.admLimit = min 90000 v := hu ▸ congrArg (Nat.min 90000) (s.get_set_of_lt (by decide) hv)
    have hplays : u.maxPlays = s.maxPlays := hu ▸ rfl
    rw [hlimit, State.admitted, hfigures, hplays]
    exact h
  obtain ⟨-, hadmitted, hlimit⟩ := u.showTotal_spec hwithin
  have ht : s.limitAccepted v = u.showTotal := hu ▸ rfl
  rw [ht]
  exact ⟨by rw [hadmitted, hlimit]; exact hwithin, (State.exceptAdmission_showTotal u).trans (hu ▸ rfl)⟩

/-! ## The commands -/

/-- The COMMIT of unit `n` joins the queue. -/
def State.commitRequested (s : State) (n : Nat) : State :=
  (s.setBit (ACQ_CTRL.COMMIT n) true).setAdmQueue (s.admQueue ++ [.unit n])

theorem State.commitRequested_spec (s : State) (n : Nat) :
    let t := s.commitRequested n
    t.admQueue = s.admQueue ++ [.unit n] ∧ t.bit (ACQ_CTRL.COMMIT n) = true ∧ s.fieldsOnly t [ACQ_CTRL.COMMIT n] ∧
    t = { s with regs := t.regs, admQueue := t.admQueue } := by
  obtain ⟨u, hu⟩ : ∃ u, u = s.setBit (ACQ_CTRL.COMMIT n) true := ⟨_, rfl⟩
  have hbit : u.bit (ACQ_CTRL.COMMIT n) = true := hu ▸ State.bit_setBit_same s true rfl (by decide : 0 < 32)
  have hfields : s.fieldsOnly u [ACQ_CTRL.COMMIT n] :=
    hu ▸ (State.fieldsOnly_of_regs_eq rfl _).set (List.mem_singleton.mpr rfl) 1
  have hframe : u = { s with regs := u.regs } := State.eq_of_exceptRegs_eq (hu ▸ s.exceptRegs_set _ _)
  have ht : s.commitRequested n = u.setAdmQueue (s.admQueue ++ [.unit n]) := hu ▸ rfl
  rw [ht]
  exact ⟨rfl, hbit, hfields, congrArg (State.setAdmQueue · (s.admQueue ++ [.unit n])) hframe⟩

theorem exec_acqCommit_idle {n : Fin 16} (h : s.acqBusy n = false) : exec (.acqCommit n) s = .next (s.commitRequested n) := by
  have hexec : exec (.acqCommit n) s = execAcqCommit n s := rfl
  have hqueue : (s.setBit (ACQ_CTRL.COMMIT n) true).admQueue = s.admQueue := by simp only [State.setBit_frame]
  rw [hexec, execAcqCommit, h, if_neg Bool.false_ne_true, State.request, hqueue, State.commitRequested, State.setAdmQueue]

/-- The COMMIT of a busy unit is told: CFG_REJ, the cause and the unit. -/
def State.commitBusy (s : State) (n : Nat) : State := (s.refused 2 n).setBit (ACQ_STAT.CFG_REJ n) true

theorem State.commitBusy_spec (s : State) {n : Nat} (hn : n < 16) :
    let t := s.commitBusy n
    t.bit (ACQ_STAT.CFG_REJ n) = true ∧ t.get ADM_REJ.CAUSE = 2 ∧ t.get ADM_REJ.UNIT = n ∧
    s.regsOnly t [ACQ_STAT.CFG_REJ n, ADM_REJ.CAUSE, ADM_REJ.UNIT] := by
  have hrej {g : Rf} (hg : g.addr = R.ADM_REJ) : (s.commitBusy n).get g = (s.refused 2 n).get g :=
    State.get_set_ne _ _ _ _ (by
      rw [hg]
      show 0x1208 ≠ 0x500000 + 0x40000 * n + 0x38004
      omega)
  refine ⟨State.bit_setBit_same _ true rfl (by decide : 3 < 32), (hrej rfl).trans (s.get_cause_refused _ (by decide)),
    (hrej rfl).trans (s.get_unit_refused _ (by omega)), State.eq_of_exceptRegs_eq ?_,
    (((State.fieldsOnly_of_regs_eq rfl _).set (by simp) _).set (by simp) _).set (by simp) _⟩
  rw [State.commitBusy, State.setBit_eq, State.refused, State.exceptRegs_set, State.exceptRegs_set, State.exceptRegs_set]

theorem exec_acqCommit_busy {n : Fin 16} (h : s.acqBusy n = true) : exec (.acqCommit n) s = .next (s.commitBusy n) := by
  have hexec : exec (.acqCommit n) s = execAcqCommit n s := rfl
  rw [hexec, execAcqCommit, h, if_pos rfl]
  rfl

theorem exec_admissionDecide_none (h : s.admQueue = []) : exec .admissionDecide s = .next s := by
  have hexec : exec .admissionDecide s = execAdmissionDecide s := rfl
  rw [hexec, execAdmissionDecide, h]

theorem exec_admissionDecide_unit (h : s.admQueue = .unit n :: rest) :
    exec .admissionDecide s = .next ((s.setAdmQueue rest).decideUnit n) := by
  have hexec : exec .admissionDecide s = execAdmissionDecide s := rfl
  rw [hexec, execAdmissionDecide, h]
  rfl

theorem exec_admissionDecide_accepted {n : Nat} (hn : n < 16) (hq : s.admQueue = .unit n :: rest) (hidle : s.acqBusy n = false)
    (hgood : s.acqBadConfig n = false) (hnew : s.totalWith n ≤ s.admLimit) : ∃ t, exec .admissionDecide s = .next t ∧
    t.acqState n = acqSt.ready ∧ t.get (ACQ_ADM.MBPS n) = s.acqFigure n ∧ t.get ADM_STAT.TOTAL = s.totalWith n ∧
    t.bit (ACQ_CTRL.COMMIT n) = false := by
  obtain ⟨hbusy, hbad, htotal, hfig, hlimit⟩ := s.setAdmQueue_reads rest n
  have hnew' : (s.setAdmQueue rest).totalWith n ≤ (s.setAdmQueue rest).admLimit := by rw [htotal, hlimit]; exact hnew
  obtain ⟨hstate, hmbps, hshown, hcommit, -⟩ := (s.setAdmQueue rest).commitAccepted_spec hn hnew'
  refine ⟨_, exec_admissionDecide_unit hq, ?_⟩
  rw [State.decideUnit_accepted (hbusy.trans hidle) (hbad.trans hgood) hnew']
  exact ⟨hstate, hmbps.trans hfig, hshown.trans htotal, hcommit⟩

theorem exec_admissionDecide_bandwidth {n : Nat} (hn : n < 16) (hq : s.admQueue = .unit n :: rest) (hidle : s.acqBusy n = false)
    (hgood : s.acqBadConfig n = false) (hnew : s.admLimit < s.totalWith n) : ∃ t, exec .admissionDecide s = .next t ∧
    t.acqs = s.acqs ∧ t.maxPlays = s.maxPlays ∧ t.get ADM_REJ.CAUSE = 1 ∧ t.get ADM_REJ.UNIT = n ∧
    t.get ADM_REJ.EXCESS = min (s.totalWith n - s.admLimit) 0xFFFFFF ∧
    s.fieldsOnly t [ACQ_CTRL.COMMIT n, ADM_REJ.CAUSE, ADM_REJ.UNIT, ADM_REJ.EXCESS] := by
  obtain ⟨hbusy, hbad, htotal, -, hlimit⟩ := s.setAdmQueue_reads rest n
  have hnew' : (s.setAdmQueue rest).admLimit < (s.setAdmQueue rest).totalWith n := by rw [htotal, hlimit]; exact hnew
  obtain ⟨hcause, hunit, hexcess⟩ := ((s.setAdmQueue rest).commitTaken n).admReject_bandwidth_spec (unit := n)
    (s.totalWith n - s.admLimit) (by omega)
  obtain ⟨hacqs, hplays⟩ := ((s.setAdmQueue rest).commitTaken n).admReject_frame 1 n (some (s.totalWith n - s.admLimit))
  refine ⟨_, exec_admissionDecide_unit hq, ?_⟩
  rw [State.decideUnit_bandwidth (hbusy.trans hidle) (hbad.trans hgood) hnew', htotal, hlimit]
  refine ⟨hacqs.trans ?_, hplays.trans (State.maxPlays_commitTaken ..), hcause, hunit, hexcess, ?_⟩
  · simp only [State.commitTaken, State.setBit_frame]
    rfl
  · exact ((((State.fieldsOnly_of_regs_eq rfl _).set (by simp) _).set (by simp) _).set (by simp) _).set (by simp) _

theorem exec_admissionDecide_plays (h : s.admQueue = .plays v :: rest) : exec .admissionDecide s =
    if s.admLimit < admTotal v s.admFigures then
      .next ((s.setAdmQueue rest).admReject 1 16 (some (admTotal v s.admFigures - s.admLimit)))
    else .next ((s.setAdmQueue rest).playsAdmitted v) := by
  have hexec : exec .admissionDecide s = execAdmissionDecide s := rfl
  rw [hexec, execAdmissionDecide, h]
  rfl

theorem exec_admissionDecide_limit (h : s.admQueue = .limit v :: rest) : exec .admissionDecide s =
    if min 90000 v < s.admitted then .next ((s.setAdmQueue rest).refused 4 17)
    else .next ((s.setAdmQueue rest).limitAccepted v) := by
  have hexec : exec .admissionDecide s = execAdmissionDecide s := rfl
  rw [hexec, execAdmissionDecide, h]
  rfl

end

/-- Settles O33: a COMMIT, a play count and a limit, each taken in and decided. -/
theorem admissionKeepsWithinTheLimit : Obligations.AdmissionKeepsWithinTheLimit := by
  unfold Obligations.AdmissionKeepsWithinTheLimit
  intro s n v l rest total fig new q
  have hv : v.toNat < 256 := v.isLt
  have hl : l.toNat < 2 ^ 24 := l.isLt
  refine ⟨fun hidle => ?_, fun hbusy => ?_, rfl, rfl, fun hnone => ?_, fun hwithin hq => ?_, fun hq hidle hgood hnew => ?_,
    fun hq hidle hgood hnew => ?_, fun hq hnew => ?_, fun hq hnew => ?_, fun hq hnew => ?_⟩
  · exact ⟨_, exec_acqCommit_idle hidle, s.commitRequested_spec n⟩
  · exact ⟨_, exec_acqCommit_busy hbusy, s.commitBusy_spec n.isLt⟩
  · exact exec_admissionDecide_none hnone
  · obtain hq | hq | hq := hq
    · have hframe := (s.setAdmQueue rest).exceptAdmission_decideUnit n
      exact ⟨_, exec_admissionDecide_unit hq, State.admQueue_of_exceptAdmission_eq hframe,
        (s.setAdmQueue rest).decideUnit_within n.isLt hwithin, State.eq_of_exceptAdmission_eq hframe⟩
    · by_cases hnew : admTotal v.toNat s.admFigures ≤ s.admLimit
      · obtain ⟨-, -, -, hadmitted, hlimit, hframe⟩ := (s.setAdmQueue rest).playsAdmitted_spec hv hnew
        exact ⟨_, (exec_admissionDecide_plays hq).trans (if_neg (Nat.not_lt.mpr hnew)), State.admQueue_of_exceptAdmission_eq hframe,
          (hadmitted.trans_le hnew).trans_eq hlimit.symm, State.eq_of_exceptAdmission_eq hframe⟩
      · obtain ⟨hadmitted, hlimit⟩ := (s.setAdmQueue rest).totals_admReject 1 16 (some (admTotal v.toNat s.admFigures - s.admLimit))
        have hframe := (s.setAdmQueue rest).exceptAdmission_admReject 1 16 (some (admTotal v.toNat s.admFigures - s.admLimit))
        exact ⟨_, (exec_admissionDecide_plays hq).trans (if_pos (Nat.not_le.mp hnew)), State.admQueue_of_exceptAdmission_eq hframe,
          (hadmitted.trans_le hwithin).trans_eq hlimit.symm, State.eq_of_exceptAdmission_eq hframe⟩
    · by_cases hnew : s.admitted ≤ min 90000 l.toNat
      · obtain ⟨hadmitted, hframe⟩ := (s.setAdmQueue rest).limitAccepted_spec hl hnew
        exact ⟨_, (exec_admissionDecide_limit hq).trans (if_neg (Nat.not_lt.mpr hnew)), State.admQueue_of_exceptAdmission_eq hframe,
          hadmitted, State.eq_of_exceptAdmission_eq hframe⟩
      · obtain ⟨hadmitted, hlimit⟩ := (s.setAdmQueue rest).totals_admReject 4 17 none
        have hframe := (s.setAdmQueue rest).exceptAdmission_admReject 4 17 none
        exact ⟨_, (exec_admissionDecide_limit hq).trans (if_pos (Nat.not_le.mp hnew)), State.admQueue_of_exceptAdmission_eq hframe,
          (hadmitted.trans_le hwithin).trans_eq hlimit.symm, State.eq_of_exceptAdmission_eq hframe⟩
  · exact exec_admissionDecide_accepted n.isLt hq hidle hgood hnew
  · exact exec_admissionDecide_bandwidth n.isLt hq hidle hgood hnew
  · obtain ⟨hplays, hshown, htotal, -⟩ := (s.setAdmQueue rest).playsAdmitted_spec hv hnew
    exact ⟨_, (exec_admissionDecide_plays hq).trans (if_neg (Nat.not_lt.mpr hnew)), hplays, hshown, htotal⟩
  · obtain ⟨hcause, hunit, -⟩ := (s.setAdmQueue rest).admReject_bandwidth_spec (admTotal v.toNat s.admFigures - s.admLimit)
      (by decide : 16 < 32)
    exact ⟨_, (exec_admissionDecide_plays hq).trans (if_pos hnew), (State.admReject_frame ..).2, hunit, hcause⟩
  · exact ⟨_, (exec_admissionDecide_limit hq).trans (if_pos hnew), (s.setAdmQueue rest).get_admReject 4 17 none (by decide),
      State.get_cause_refused _ _ (by decide), State.get_unit_refused _ _ (by decide)⟩

end Sys2Proof.Machine
end

section
/-! PROOF. Producers of the event fabric: sampled edges and timers (R227, R361). -/

namespace Sys2Proof.Machine

/-! ## What a trigger engine writes -/

section
variable {P : State → Prop} {s : State} (hset : ∀ u f v, P u → P (State.set u f v)) (hacq : ∀ u n a, P u → P (State.setAcq u n a))
  (hcapture : ∀ u a v, P u → P (State.capture u a v))
  (hflits : ∀ (u : State) l l', P u → P { u with flitsOut := l, localFires := l' })
include hset hacq hcapture hflits

theorem State.trgComplete_keeps (n : Nat) (d : Tick) (h : P s) : P (s.trgComplete n d) := by
  unfold State.trgComplete State.detect State.adoptFire State.trgEnter
  dsimp only
  split
  · exact hcapture _ _ _ (hset _ _ _ (hacq _ _ _ (State.when_keeps _ (fun hu => hflits _ _ _ hu) h)))
  · exact hset _ _ _ (hacq _ _ _ h)

/-- An occurrence counts in the unit, and may complete its state. -/
theorem State.trgOccur_keeps (n src : Nat) (d : Tick) (h : P s) : P (s.trgOccur n src d) := by
  unfold State.trgOccur
  extract_lets a u
  have hu : P u := hacq _ _ _ h
  have hcounted : ∀ (stay : Bool) (k : Nat), P (if stay then s else if k ≤ a.count + 1 then u.trgComplete n d else u) := by
    intro stay k
    split
    · exact h
    · split
      · exact State.trgComplete_keeps hset hacq hcapture hflits n d hu
      · exact hu
  exact hcounted _ _

end

theorem State.trgOccur_frame (s : State) (n src : Nat) (d : Tick) :
    (s.trgOccur n src d).pulses = s.pulses ∧ (s.trgOccur n src d).evtIns = s.evtIns :=
  State.trgOccur_keeps (P := fun u => u.pulses = s.pulses ∧ u.evtIns = s.evtIns) (fun _ _ _ h => h) (fun _ _ _ h => h)
    (fun _ _ _ h => h) (fun _ _ _ h => h) n src d ⟨rfl, rfl⟩

/-! ## Edges of EVT_IN pins -/

section
variable {s : State} {i : Fin 8} {level : Bool}

/-- The state with pulses of producer lines added. -/
def State.addPulses (s : State) (l : List (Nat × Tick)) : State := { s with pulses := s.pulses ++ l }

/-- The entry of pin `i` selects an edge to this level. -/
def State.edgeHit (s : State) (i : Nat) (level : Bool) : Bool :=
  let edge := s.get (EVT_PROD.EDGE (384 + i))
  edge == 2 || level == (edge != 1)

/-- Pin `i` sampled at a new level: its line pulses if its entry selects the edge. -/
def State.edgePulsed (s : State) (i : Nat) (level : Bool) : State :=
  (s.setEvtIn i (some level)).when (s.edgeHit i level) (fun u => u.addPulses [(384 + i, u.tick + 3)])

/-- A trigger state of unit `n` on pin `i` counts an edge to this level. -/
def edgeCounted (i : Nat) (level : Bool) (s : State) (n : Nat) : State :=
  let k := (s.acq n).idx
  s.when (s.acqGet n (TRG_COND.SEL n k) % 8 == i && s.acqBit n (TRG_COND.EDGE n k) == !level) (·.trgOccur n 5 (s.tick + 3))

theorem exec_evtInEdge_por (h : s.stage = stg.por) : exec (.evtInEdge i level) s = .next s := by
  have hexec : exec (.evtInEdge i level) s = execEvtInEdge i level s := rfl
  rw [hexec, execEvtInEdge, if_pos h]

/-- The first level sampled, and a level that has not changed, make no edge. -/
theorem exec_evtInEdge_same (h : s.stage ≠ stg.por) (hold : s.evtIn i = none ∨ s.evtIn i = some level) :
    exec (.evtInEdge i level) s = .next (s.setEvtIn i (some level)) := by
  have hexec : exec (.evtInEdge i level) s = execEvtInEdge i level s := rfl
  rw [hexec, execEvtInEdge, if_neg h]
  dsimp only
  obtain hold | hold := hold
  · rw [hold]
  · rw [hold]
    exact if_pos rfl

/-- An edge pulses its line, then the trigger states on the pin count it. -/
theorem exec_evtInEdge_edge {l : Bool} (h : s.stage ≠ stg.por) (hold : s.evtIn i = some l) (hedge : l ≠ level) :
    exec (.evtInEdge i level) s = .next ((s.edgePulsed i level).each (List.range 16) (edgeCounted i level)) := by
  have hexec : exec (.evtInEdge i level) s = execEvtInEdge i level s := rfl
  rw [hexec, execEvtInEdge, if_neg h]
  dsimp only
  rw [hold]
  exact if_neg hedge

/-- Counting an edge writes neither pulses nor the pins as sampled. -/
theorem State.edgesCounted_frame (u : State) (i : Nat) (level : Bool) :
    (u.each (List.range 16) (edgeCounted i level)).pulses = u.pulses ∧
    (u.each (List.range 16) (edgeCounted i level)).evtIns = u.evtIns :=
  ⟨State.each_same _ State.pulses fun v n => State.when_same _ State.pulses (v.trgOccur_frame n 5 _).1,
    State.each_same _ State.evtIns fun v n => State.when_same _ State.evtIns (v.trgOccur_frame n 5 _).2⟩

theorem State.edgePulsed_spec (s : State) (i : Nat) (level : Bool) : (s.edgePulsed i level).evtIn i = some level ∧
    (s.edgeHit i level = true → (384 + i, s.tick + 3) ∈ (s.edgePulsed i level).pulses) := by
  refine ⟨?_, fun h => ?_⟩
  · refine State.when_keeps (P := fun u => u.evtIn i = some level) _ (fun hu => hu) ?_
    rw [State.evtIn_setEvtIn, if_pos rfl]
  · rw [State.edgePulsed, h]
    exact List.mem_append_right _ (List.mem_singleton.mpr rfl)

theorem exec_evtInEdge_edge_spec {l : Bool} (h : s.stage ≠ stg.por) (hold : s.evtIn i = some l) (hedge : l ≠ level) :
    ∃ t, exec (.evtInEdge i level) s = .next t ∧ t.evtIn i = some level ∧
    (s.edgeHit i level = true → (384 + i.val, s.tick + 3) ∈ t.pulses) := by
  obtain ⟨hpulses, hins⟩ := (s.edgePulsed i level).edgesCounted_frame i level
  obtain ⟨hin, hpulse⟩ := s.edgePulsed_spec i level
  refine ⟨_, exec_evtInEdge_edge h hold hedge, ?_, fun hhit => ?_⟩
  · rw [State.evtIn, hins]
    exact hin
  · rw [hpulses]
    exact hpulse hhit

theorem State.edgeHit_of (h : s.get (EVT_PROD.EDGE (384 + i)) = 2 ∨ level = decide (s.get (EVT_PROD.EDGE (384 + i)) ≠ 1)) :
    s.edgeHit i level = true := by
  rw [State.edgeHit, Bool.or_eq_true, beq_iff_eq, beq_iff_eq]
  refine h.imp id fun h => h.trans ?_
  rw [Bool.eq_iff_iff, decide_eq_true_eq, bne_iff_ne]

end

/-! ## Timers -/

section
variable {s : State} {i : Fin 4} {u : Tick}

/-- Timer `i` as its compare value comes: the pulse. -/
theorem exec_evtTimer_due (hen : s.bit (EVT_TMR_EN.EN i) = true) (htmr : s.tmr i = (s.tick, u)) (hafter : Tick.before u s.tick = true) :
    exec (.evtTimer i) s =
      let per := s.get (EVT_TMR_PER.PER i)
      let c := s.tick + BitVec.ofNat 48 per
      .next (if per = 0 then s.pulse (457 + i)
        else ((s.pulse (457 + i)).setTmr i (c, u)).setPair (R.EVT_TMR_CMP_LO i) c) := by
  have hexec : exec (.evtTimer i) s = execEvtTimer i s := rfl
  rw [hexec, execEvtTimer, htmr]
  dsimp only
  rw [hen, hafter]
  exact if_neg (by simp)

theorem exec_evtTimer_none (h : s.bit (EVT_TMR_EN.EN i) = false ∨ (s.tmr i).1 ≠ s.tick) : exec (.evtTimer i) s = .next s := by
  have hexec : exec (.evtTimer i) s = execEvtTimer i s := rfl
  rw [hexec, execEvtTimer]
  refine if_pos ?_
  simp only [Bool.or_eq_true, Bool.not_eq_true', bne_iff_ne]
  exact .inl h

theorem exec_evtTimer_spec (hen : s.bit (EVT_TMR_EN.EN i) = true) (htmr : s.tmr i = (s.tick, u)) (hafter : Tick.before u s.tick = true) :
    ∃ t, exec (.evtTimer i) s = .next t ∧ t.pulses = s.pulses ++ [(457 + i.val, s.tick)] ∧
      (s.get (EVT_TMR_PER.PER i) = 0 → t = { s with pulses := t.pulses }) ∧
      t.tmr i = (s.tick + BitVec.ofNat 48 (s.get (EVT_TMR_PER.PER i)), u) ∧
      (s.get (EVT_TMR_PER.PER i) ≠ 0 → t.pair (R.EVT_TMR_CMP_LO i) = (t.tmr i).1) ∧
      t = { s with regs := t.regs, pulses := t.pulses, tmrs := t.tmrs } := by
  refine ⟨_, exec_evtTimer_due hen htmr hafter, ?_⟩
  by_cases hper : s.get (EVT_TMR_PER.PER i) = 0
  · rw [if_pos hper, hper]
    refine ⟨rfl, fun _ => rfl, ?_, fun h => absurd rfl h, rfl⟩
    exact htmr.trans (Prod.ext (BitVec.add_zero _).symm rfl)
  · rw [if_neg hper]
    have htmr' : ∀ c v, (((s.pulse (457 + i)).setTmr i v).setPair (R.EVT_TMR_CMP_LO i) c).tmr i = v := fun c v =>
      (State.tmr_setTmr ..).trans (if_pos rfl)
    refine ⟨rfl, fun h => absurd h hper, htmr' _ _, fun _ => ?_, rfl⟩
    rw [State.pair_setPair, htmr']

/-- The state without registers and timers. -/
def State.exceptTimers (s : State) : State := { s with regs := [], tmrs := [] }

theorem State.eq_of_exceptTimers_eq {s t : State} (h : t.exceptTimers = s.exceptTimers) : t = { s with regs := t.regs, tmrs := t.tmrs } :=
  congrArg (fun u : State => { u with regs := t.regs, tmrs := t.tmrs }) h

theorem State.exceptTimers_set (s : State) (f : Rf) (v : Nat) : (s.set f v).exceptTimers = s.exceptTimers := rfl

theorem State.exceptTimers_setTmr (s : State) (i : Nat) (v : BitVec 48 × Tick) : (s.setTmr i v).exceptTimers = s.exceptTimers := rfl

theorem exec_evtTmrWrite_spec (s : State) (i : Fin 4) (hi : BitVec 16) : ∃ t, exec (.evtTmrWrite i hi) s = .next t ∧
    t.tmr i = (hi ++ s.rd (R.EVT_TMR_CMP_LO i), s.tick) ∧ t.get (EVT_TMR_CMP_HI.CMP_HI i) = hi.toNat ∧
    t = { s with regs := t.regs, tmrs := t.tmrs } := by
  obtain ⟨v, hv⟩ : ∃ v, v = s.set (EVT_TMR_CMP_HI.CMP_HI i) hi.toNat := ⟨_, rfl⟩
  have hexec : exec (.evtTmrWrite i hi) s = .next (v.setTmr i (v.pair (R.EVT_TMR_CMP_LO i), v.tick)) := hv ▸ rfl
  have hlo : v.rd (R.EVT_TMR_CMP_LO i) = s.rd (R.EVT_TMR_CMP_LO i) := hv ▸ s.rd_set_ne _ _ (by
    show 0xE00000 + 0x3000 + 16 * i.val ≠ 0xE00000 + 0x3004 + 16 * i.val
    omega)
  have hhi : (v.rd (R.EVT_TMR_CMP_LO i + 4)).setWidth 16 = hi := by
    have haddr : R.EVT_TMR_CMP_LO i + 4 = R.EVT_TMR_CMP_HI i := by
      unfold R.EVT_TMR_CMP_LO R.EVT_TMR_CMP_HI
      omega
    rw [hv, haddr, State.set_eq]
    exact (congrArg (BitVec.setWidth 16) (State.rd_wr_same ..)).trans (fieldSet_setWidth _ hi (by decide))
  have htick : v.tick = s.tick := hv ▸ (State.set_frame ..).2.1
  refine ⟨_, hexec, ?_, hv ▸ s.get_set_of_lt (by decide : 0 + 16 ≤ 32) hi.isLt, State.eq_of_exceptTimers_eq ?_⟩
  · rw [State.tmr_setTmr, if_pos rfl, State.pair, hlo, hhi, htick]
  · rw [State.exceptTimers_setTmr, hv, State.exceptTimers_set]

end

end Sys2Proof.Machine
end

section
/-! PROOF. Channels of the event fabric: firing, holding, merging, and the loop guard (R361, R363, R369). -/

namespace Sys2Proof.Machine

/-! ## Channels and their registers -/

section
variable {s t : State} {c : Nat} {g : Rf}

/-- The state with the pulses on their way. -/
def State.setPulses (s : State) (l : List (Nat × Tick)) : State := { s with pulses := l }

/-- The state with the firings on their way. -/
def State.setFirings (s : State) (l : List Firing) : State := { s with firings := l }

/-- The state with the faults at the collector's input. -/
def State.setRaised (s : State) (l : List FaultIn) : State := { s with raised := l }

/-- The state without registers and channels. -/
def State.exceptChannels (s : State) : State := { s with regs := [], evtChs := [] }

theorem State.eq_of_exceptChannels_eq (h : t.exceptChannels = s.exceptChannels) : t = { s with regs := t.regs, evtChs := t.evtChs } :=
  congrArg (fun u : State => { u with regs := t.regs, evtChs := t.evtChs }) h

theorem State.exceptChannels_set (s : State) (f : Rf) (v : Nat) : (s.set f v).exceptChannels = s.exceptChannels := rfl

theorem State.exceptChannels_setBit (s : State) (f : Rf) (v : Bool) : (s.setBit f v).exceptChannels = s.exceptChannels :=
  s.exceptChannels_set f _

theorem State.exceptChannels_bump (s : State) (f : Rf) (n : Nat) : (s.bump f n).exceptChannels = s.exceptChannels :=
  s.exceptChannels_set f _

theorem State.exceptChannels_setEvtCh (s : State) (c : Nat) (k : EvtCh) : (s.setEvtCh c k).exceptChannels = s.exceptChannels := rfl

theorem State.evtCh_of_evtChs_eq (h : t.evtChs = s.evtChs) (j : Nat) : t.evtCh j = s.evtCh j := by
  rw [State.evtCh, h, State.evtCh]

theorem State.evtCh_set (s : State) (f : Rf) (v j : Nat) : (s.set f v).evtCh j = s.evtCh j := State.evtCh_of_evtChs_eq rfl j

theorem State.evtCh_setBit (s : State) (f : Rf) (v : Bool) (j : Nat) : (s.setBit f v).evtCh j = s.evtCh j := s.evtCh_set f _ j

theorem State.evtCh_bump (s : State) (f : Rf) (n j : Nat) : (s.bump f n).evtCh j = s.evtCh j := s.evtCh_set f _ j

theorem State.evtCh_setEvtCh_same (s : State) (c : Nat) (k : EvtCh) : (s.setEvtCh c k).evtCh c = k := by
  rw [State.evtCh_setEvtCh, if_pos rfl]

theorem State.get_setEvtCh (s : State) (c : Nat) (k : EvtCh) (f : Rf) : (s.setEvtCh c k).get f = s.get f := State.get_of_regs_eq rfl f

/-! ## Pending pulses -/

/-- A pending pulse set or cleared, and shown. -/
theorem State.setPend_eq (s : State) (c : Nat) (p : Option Tick) :
    s.setPend c p = (s.setEvtCh c { s.evtCh c with pend := p }).setBit (EVT_CH_CFG.PEND c) p.isSome := rfl

theorem State.evtCh_setPend (s : State) (c j : Nat) (p : Option Tick) :
    (s.setPend c p).evtCh j = if j = c then { s.evtCh c with pend := p } else s.evtCh j := by
  rw [State.setPend_eq, State.evtCh_setBit, State.evtCh_setEvtCh]

theorem State.evtCh_setPend_same (s : State) (c : Nat) (p : Option Tick) :
    (s.setPend c p).evtCh c = { s.evtCh c with pend := p } := by
  rw [State.evtCh_setPend, if_pos rfl]

theorem State.bit_pend_setPend (s : State) (c : Nat) (p : Option Tick) : (s.setPend c p).bit (EVT_CH_CFG.PEND c) = p.isSome :=
  State.bit_setBit_same _ _ rfl (by decide : 2 < 32)

theorem State.get_setPend_apart (s : State) {c : Nat} (p : Option Tick) (hw : g.lo + g.len ≤ 32) (h : (EVT_CH_CFG.PEND c).apart g) :
    (s.setPend c p).get g = s.get g := by
  rw [State.setPend_eq, State.setBit_eq, State.get_set_apart _ hw h, State.get_setEvtCh]

theorem State.exceptChannels_setPend (s : State) (c : Nat) (p : Option Tick) : (s.setPend c p).exceptChannels = s.exceptChannels := by
  rw [State.setPend_eq, State.exceptChannels_setBit, State.exceptChannels_setEvtCh]

/-! ## Firing, and the end of a hold -/

/-- A firing as a channel makes it. -/
def newFiring (c : Nat) (t stamp : Tick) : Firing := { ch := c, stamp := stamp, tick := t, seen := [] }

theorem State.fireChannel_eq (s : State) (c : Nat) (t stamp : Tick) (fromPend : Bool) : s.fireChannel c t stamp fromPend =
    (s.setEvtCh c { s.evtCh c with fired := some t, fromPend := fromPend }).setFirings (s.firings ++ [newFiring c t stamp]) := rfl

theorem State.evtCh_fireChannel (s : State) (c j : Nat) (t stamp : Tick) (fromPend : Bool) : (s.fireChannel c t stamp fromPend).evtCh j =
    if j = c then { s.evtCh c with fired := some t, fromPend := fromPend } else s.evtCh j := by
  rw [State.fireChannel_eq]
  exact s.evtCh_setEvtCh c j { s.evtCh c with fired := some t, fromPend := fromPend }

theorem State.exceptChannels_fireChannel (s : State) (c : Nat) (t stamp : Tick) (fromPend : Bool) :
    (s.fireChannel c t stamp fromPend).exceptChannels = (s.setFirings (s.firings ++ [newFiring c t stamp])).exceptChannels := rfl

theorem State.holdEnd_free (t : Tick) (h : (s.evtCh c).fired = none) : s.holdEnd c t = s := by
  rw [State.holdEnd, h]

theorem State.holdEnd_held {t v : Tick} (h : (s.evtCh c).fired = some v) (hearly : Tick.before t (v + 15) = true) :
    s.holdEnd c t = s := by
  rw [State.holdEnd, h]
  exact if_pos hearly

theorem State.holdEnd_quiet {t v : Tick} (h : (s.evtCh c).fired = some v) (hover : Tick.before t (v + 15) = false)
    (hpend : (s.evtCh c).pend = none) : s.holdEnd c t = s.setEvtCh c { s.evtCh c with fired := none, fromPend := false } := by
  rw [State.holdEnd, h]
  refine (if_neg (Bool.eq_false_iff.mp hover)).trans ?_
  split
  · next hsome => exact absurd (hpend.symm.trans hsome) nofun
  · rfl

theorem State.holdEnd_pending {t v u : Tick} (h : (s.evtCh c).fired = some v) (hover : Tick.before t (v + 15) = false)
    (hpend : (s.evtCh c).pend = some u) : s.holdEnd c t = (s.setPend c none).fireChannel c (v + 15) u true := by
  rw [State.holdEnd, h, hpend]
  exact if_neg (Bool.eq_false_iff.mp hover)

theorem exec_channelHoldEnd (s : State) (c : Fin 256) : exec (.channelHoldEnd c) s = .next (s.holdEnd c s.tick) := rfl

/-- The pending pulse fires the channel as its hold ends. -/
theorem exec_channelHoldEnd_pending {c : Fin 256} {v u : Tick} (h : (s.evtCh c).fired = some v)
    (hover : Tick.before s.tick (v + 15) = false) (hpend : (s.evtCh c).pend = some u) : ∃ t, exec (.channelHoldEnd c) s = .next t ∧
      t.firings = s.firings ++ [newFiring c (v + 15) u] ∧ (t.evtCh c).fired = some (v + 15) ∧ (t.evtCh c).pend = none ∧
      t.bit (EVT_CH_CFG.PEND c) = false ∧ t = { s with regs := t.regs, evtChs := t.evtChs, firings := t.firings } := by
  obtain ⟨w, hw⟩ : ∃ w, w = s.setPend c none := ⟨_, rfl⟩
  have hexec : exec (.channelHoldEnd c) s = .next (w.fireChannel c (v + 15) u true) := by
    rw [exec_channelHoldEnd, State.holdEnd_pending h hover hpend, hw]
  have hframe : w.exceptChannels = s.exceptChannels := hw ▸ s.exceptChannels_setPend c none
  have hfirings : w.firings = s.firings := (congrArg State.firings hframe :)
  have hch : (w.fireChannel c (v + 15) u true).evtCh c = { s.evtCh c with fired := some (v + 15), fromPend := true, pend := none } := by
    rw [State.evtCh_fireChannel, if_pos rfl, hw, State.evtCh_setPend_same]
  refine ⟨_, hexec, ?_, by rw [hch], by rw [hch], hw ▸ s.bit_pend_setPend c none, ?_⟩
  · rw [← hfirings]
    rfl
  · rw [State.fireChannel_eq]
    exact State.eq_of_exceptChannels_eq (s := s.setFirings (w.firings ++ [newFiring c (v + 15) u]))
      (congrArg (State.setFirings · (w.firings ++ [newFiring c (v + 15) u])) hframe)

/-! ## A pulse at a channel -/

/-- A channel that has counted one more pulse in guard window `w`. -/
def EvtCh.counted (k : EvtCh) (w : Nat) : EvtCh :=
  if k.window = w then { k with count := k.count + 1 } else { k with window := w, count := 1 }

theorem EvtCh.counted_frame (k : EvtCh) (w : Nat) :
    (k.counted w).fired = k.fired ∧ (k.counted w).fromPend = k.fromPend ∧ (k.counted w).pend = k.pend := by
  unfold EvtCh.counted
  split <;> exact ⟨rfl, rfl, rfl⟩

theorem EvtCh.count_counted_le {k : EvtCh} {w : Nat} (h : k.window = w → k.count < 1024) : (k.counted w).count ≤ 1024 := by
  unfold EvtCh.counted
  split
  · next hw => exact h hw
  · exact (by decide : 1 ≤ 1024)

theorem EvtCh.count_counted (k : EvtCh) {w : Nat} (h : k.window = w) : (k.counted w).count = k.count + 1 := by
  rw [EvtCh.counted, if_pos h]

/-- The pulse of tick `u` counted in its guard window. -/
def State.pulseCounted (s : State) (c : Nat) (u : Tick) : State := s.setEvtCh c ((s.evtCh c).counted (u.toNat / 15000))

theorem State.evtCh_pulseCounted (s : State) (c : Nat) (u : Tick) :
    (s.pulseCounted c u).evtCh c = (s.evtCh c).counted (u.toNat / 15000) := s.evtCh_setEvtCh_same c _

/-- The guard trips: the channel is disabled, marked, and its pending pulse discarded. -/
def State.guardTripped (s : State) (c : Nat) : State :=
  ((s.setBit (EVT_CH_CFG.EN c) false).setBit (EVT_CH_CFG.LOOP c) true).setPend c none

theorem State.chPulse_off (u : Tick) (h : s.chOn c = false) : s.chPulse c u = s := by
  rw [State.chPulse, h]
  rfl

/-- The 1,025th pulse of a window. -/
theorem State.chPulse_trips {u : Tick} (hon : s.chOn c = true) (hwindow : (s.evtCh c).window = u.toNat / 15000)
    (hcount : 1024 ≤ (s.evtCh c).count) : s.chPulse c u =
      (((s.pulseCounted c u).guardTripped c).bump EVT_LOOP_CNT.COUNT).raise Src.EVT_LOOP (slot c ++ slotTick u) := by
  have hmany : 1025 ≤ ((s.pulseCounted c u).evtCh c).count := by
    rw [State.evtCh_pulseCounted, EvtCh.count_counted _ hwindow]
    omega
  rw [State.chPulse, hon]
  exact if_pos hmany

/-- Another pulse: if the channel is free it fires, else the pulse becomes pending or merges. -/
theorem State.chPulse_counts {u : Tick} (hon : s.chOn c = true)
    (hquiet : (s.evtCh c).window = u.toNat / 15000 → (s.evtCh c).count < 1024) : s.chPulse c u =
      let w := (s.pulseCounted c u).holdEnd c u
      match (w.evtCh c).fired with
      | none => w.fireChannel c u u false
      | some f =>
        if (w.evtCh c).fromPend = true ∧ f = u then w.bump (EVT_MERGE_CNT.COUNT c)
        else match (w.evtCh c).pend with
          | none => w.setPend c (some u)
          | some _ => w.bump (EVT_MERGE_CNT.COUNT c) := by
  have hfew : ¬1025 ≤ ((s.pulseCounted c u).evtCh c).count := by
    rw [State.evtCh_pulseCounted]
    exact Nat.not_le.mpr (Nat.lt_succ_of_le (EvtCh.count_counted_le hquiet))
  rw [State.chPulse, hon]
  exact if_neg hfew

theorem State.chPulse_fires {u : Tick} (hon : s.chOn c = true)
    (hquiet : (s.evtCh c).window = u.toNat / 15000 → (s.evtCh c).count < 1024) (hfree : (s.evtCh c).fired = none) :
    s.chPulse c u = (s.pulseCounted c u).fireChannel c u u false := by
  have hfree' : ((s.pulseCounted c u).evtCh c).fired = none := by
    rw [State.evtCh_pulseCounted, (EvtCh.counted_frame ..).1, hfree]
  rw [State.chPulse_counts hon hquiet, State.holdEnd_free _ hfree']
  dsimp only
  rw [hfree']

/-- A held channel: its hold goes on. -/
theorem State.holdEnd_pulseCounted {u v : Tick} (hheld : (s.evtCh c).fired = some v) (hearly : Tick.before u (v + 15) = true) :
    (s.pulseCounted c u).holdEnd c u = s.pulseCounted c u :=
  State.holdEnd_held (by rw [State.evtCh_pulseCounted, (EvtCh.counted_frame ..).1, hheld]) hearly

theorem State.chPulse_pends {u v : Tick} (hon : s.chOn c = true)
    (hquiet : (s.evtCh c).window = u.toNat / 15000 → (s.evtCh c).count < 1024) (hheld : (s.evtCh c).fired = some v)
    (hearly : Tick.before u (v + 15) = true) (hpend : (s.evtCh c).pend = none) (hlater : (s.evtCh c).fromPend = false ∨ v ≠ u) :
    s.chPulse c u = (s.pulseCounted c u).setPend c (some u) := by
  obtain ⟨hfired, hfrom, hpends⟩ := (s.evtCh c).counted_frame (u.toNat / 15000)
  rw [State.chPulse_counts hon hquiet, State.holdEnd_pulseCounted hheld hearly]
  dsimp only
  rw [State.evtCh_pulseCounted, hfired, hfrom, hpends, hheld, hpend]
  exact if_neg (by rintro ⟨hmade, hsame⟩; exact hlater.elim (fun h => Bool.false_ne_true (h.symm.trans hmade)) (· hsame))

theorem State.chPulse_merges {u v : Tick} (hon : s.chOn c = true)
    (hquiet : (s.evtCh c).window = u.toNat / 15000 → (s.evtCh c).count < 1024) (hheld : (s.evtCh c).fired = some v)
    (hearly : Tick.before u (v + 15) = true) (hpend : (s.evtCh c).pend ≠ none) :
    s.chPulse c u = (s.pulseCounted c u).bump (EVT_MERGE_CNT.COUNT c) := by
  obtain ⟨p, hp⟩ := Option.ne_none_iff_exists'.mp hpend
  obtain ⟨hfired, -, hpends⟩ := (s.evtCh c).counted_frame (u.toNat / 15000)
  rw [State.chPulse_counts hon hquiet, State.holdEnd_pulseCounted hheld hearly]
  dsimp only
  rw [State.evtCh_pulseCounted, hfired, hpends, hheld, hp]
  exact ite_self _

/-! ## The guard -/

theorem evtLoopCnt_ne {c : Nat} (hc : c < 256) : R.EVT_CH_CFG c ≠ R.EVT_LOOP_CNT := by
  unfold R.EVT_CH_CFG R.EVT_LOOP_CNT
  omega

/-- No standby twin mutes the guard's fault. -/
theorem State.standbyMute_evtLoop (s : State) : s.standbyMute Src.EVT_LOOP = false := by
  have hlist : [Src.LM_LOW, Src.ORDER_SHORT, Src.LATE_BARGE, Src.LATE_DECISION, Src.UNDERRUN, Src.WINDOW_FORM].contains Src.EVT_LOOP =
      false := by decide
  rw [State.standbyMute, hlist, Bool.and_false]

theorem State.raise_unmuted {src : Nat} (slots : List Nat) (h : s.standbyMute src = false) : s.raise src slots =
    s.setRaised (s.raised ++ [{ src := src, tick := s.tick, slots := slots, injected := false }]) := by
  rw [State.raise, h]
  rfl

theorem State.guardTripped_spec (s : State) (c : Nat) :
    let t := s.guardTripped c
    t.bit (EVT_CH_CFG.EN c) = false ∧ t.bit (EVT_CH_CFG.LOOP c) = true ∧ (t.evtCh c).pend = none ∧
    t.bit (EVT_CH_CFG.PEND c) = false ∧ t.exceptChannels = s.exceptChannels := by
  have hpend {f : Rf} (hw : f.lo + f.len ≤ 32) (h : (EVT_CH_CFG.PEND c).apart f) : (s.guardTripped c).bit f =
      ((s.setBit (EVT_CH_CFG.EN c) false).setBit (EVT_CH_CFG.LOOP c) true).bit f :=
    congrArg (· != 0) (State.get_setPend_apart _ none hw h)
  refine ⟨?_, ?_, congrArg EvtCh.pend (State.evtCh_setPend_same ..), State.bit_pend_setPend _ c none, ?_⟩
  · rw [hpend (by decide : 0 + 1 ≤ 32) (.inr (.inr (by decide : 0 + 1 ≤ 2))),
      State.bit_setBit_apart (f := EVT_CH_CFG.LOOP c) (g := EVT_CH_CFG.EN c) _ (by decide : 0 + 1 ≤ 32)
        (.inr (.inr (by decide : 0 + 1 ≤ 1)))]
    exact State.bit_setBit_same s false rfl (by decide : 0 < 32)
  · rw [hpend (by decide : 1 + 1 ≤ 32) (.inr (.inr (by decide : 1 + 1 ≤ 2)))]
    exact State.bit_setBit_same _ true rfl (by decide : 1 < 32)
  · rw [State.guardTripped, State.exceptChannels_setPend, State.exceptChannels_setBit, State.exceptChannels_setBit]

/-! ## The next pulse -/

variable {line : Fin 461} {u : Tick}

theorem exec_eventPulse_none (h : s.pulses = []) : exec .eventPulse s = .next s := by
  have hexec : exec .eventPulse s = execEventPulse s := rfl
  rw [hexec, execEventPulse, h]
  rfl

/-- A producer line's pulse goes the way EVT_PROD routes it. -/
theorem exec_eventPulse_line (h : s.pulses = [(line.val, u)]) (hdue : Tick.le u s.tick = true) : exec .eventPulse s =
    if s.bit (EVT_PROD.EN line) then .next ((s.setPulses []).chPulse (s.get (EVT_PROD.CH line)) u) else .next (s.setPulses []) := by
  have hexec : exec .eventPulse s = execEventPulse s := rfl
  have hfirst := takeFirst_head (p := fun (p : Nat × Tick) => Tick.le p.2 s.tick) (a := (line.val, u)) [] hdue
  rw [hexec, execEventPulse, h, hfirst]
  exact if_neg (by omega)

theorem exec_eventPulse_dropped (h : s.pulses = [(line.val, u)]) (hdue : Tick.le u s.tick = true)
    (hoff : s.bit (EVT_PROD.EN line) = false ∨ s.chOn (s.get (EVT_PROD.CH line)) = false) :
    exec .eventPulse s = .next (s.setPulses []) := by
  rw [exec_eventPulse_line h hdue]
  obtain hoff | hoff := hoff
  · rw [hoff]
    rfl
  · have hdrop : (s.setPulses []).chPulse (s.get (EVT_PROD.CH line)) u = s.setPulses [] := State.chPulse_off u hoff
    rw [hdrop, ite_self]

/-- The one pulse waiting is of a line routed to a channel that is enabled. -/
structure State.Routed (s : State) (line : Fin 461) (u : Tick) (c : Nat) : Prop where
  pulse : s.pulses = [(line.val, u)]
  due : Tick.le u s.tick = true
  en : s.bit (EVT_PROD.EN line) = true
  ch : s.get (EVT_PROD.CH line) = c
  on : s.chOn c = true

theorem State.Routed.exec_eventPulse (h : s.Routed line u c) : exec .eventPulse s = .next ((s.setPulses []).chPulse c u) := by
  rw [exec_eventPulse_line h.pulse h.due, h.en, h.ch]
  rfl

/-- A pulse at a free channel fires it. -/
theorem State.Routed.fires (h : s.Routed line u c) (hquiet : (s.evtCh c).window = u.toNat / 15000 → (s.evtCh c).count < 1024)
    (hfree : (s.evtCh c).fired = none) : ∃ t, exec .eventPulse s = .next t ∧ (t.evtCh c).fired = some u ∧
      t.firings = s.firings ++ [newFiring c u u] ∧ s.othersSame t State.evtCh c ∧
      t = { s.setPulses [] with evtChs := t.evtChs, firings := t.firings } := by
  refine ⟨_, h.exec_eventPulse, ?_⟩
  rw [State.chPulse_fires (s := s.setPulses []) h.on hquiet hfree]
  refine ⟨?_, rfl, fun j hj => ?_, rfl⟩
  · rw [State.evtCh_fireChannel, if_pos rfl]
  · rw [State.evtCh_fireChannel, if_neg hj, State.pulseCounted, State.evtCh_setEvtCh, if_neg hj]
    rfl

/-- A pulse at a held channel becomes pending. -/
theorem State.Routed.pends {v : Tick} (h : s.Routed line u c)
    (hquiet : (s.evtCh c).window = u.toNat / 15000 → (s.evtCh c).count < 1024) (hheld : (s.evtCh c).fired = some v)
    (hearly : Tick.before u (v + 15) = true) (hpend : (s.evtCh c).pend = none)
    (hlater : (s.evtCh c).fromPend = false ∨ v ≠ u) :
    ∃ t, exec .eventPulse s = .next t ∧ (t.evtCh c).pend = some u ∧ t.bit (EVT_CH_CFG.PEND c) = true ∧ (t.evtCh c).fired = some v ∧
      t = { s.setPulses [] with regs := t.regs, evtChs := t.evtChs } := by
  refine ⟨_, h.exec_eventPulse, ?_⟩
  rw [State.chPulse_pends (s := s.setPulses []) h.on hquiet hheld hearly hpend hlater]
  refine ⟨?_, State.bit_pend_setPend _ c (some u), ?_, State.eq_of_exceptChannels_eq ?_⟩
  · rw [State.evtCh_setPend_same]
  · rw [State.evtCh_setPend_same, State.evtCh_pulseCounted]
    exact ((EvtCh.counted_frame ..).1).trans hheld
  · rw [State.exceptChannels_setPend, State.pulseCounted, State.exceptChannels_setEvtCh]

/-- A pulse at a held channel with a pending pulse merges. -/
theorem State.Routed.merges {v : Tick} (h : s.Routed line u c)
    (hquiet : (s.evtCh c).window = u.toNat / 15000 → (s.evtCh c).count < 1024) (hheld : (s.evtCh c).fired = some v)
    (hearly : Tick.before u (v + 15) = true) (hpend : (s.evtCh c).pend ≠ none) :
    ∃ t, exec .eventPulse s = .next t ∧
      t.get (EVT_MERGE_CNT.COUNT c) = min (s.get (EVT_MERGE_CNT.COUNT c) + 1) (2 ^ 32 - 1) ∧ (t.evtCh c).pend = (s.evtCh c).pend ∧
      t = { s.setPulses [] with regs := t.regs, evtChs := t.evtChs } := by
  refine ⟨_, h.exec_eventPulse, ?_⟩
  rw [State.chPulse_merges (s := s.setPulses []) h.on hquiet hheld hearly hpend]
  refine ⟨State.get_bump_same _ _ _ (by decide : 0 + 32 ≤ 32), ?_, State.eq_of_exceptChannels_eq ?_⟩
  · rw [State.evtCh_bump, State.evtCh_pulseCounted]
    exact (EvtCh.counted_frame ..).2.2
  · rw [State.exceptChannels_bump, State.pulseCounted, State.exceptChannels_setEvtCh]

/-- The 1,025th pulse of a window disables the channel. -/
theorem State.Routed.trips (h : s.Routed line u c) (hc : c < 256) (hwindow : (s.evtCh c).window = u.toNat / 15000)
    (hcount : 1024 ≤ (s.evtCh c).count) : ∃ t, exec .eventPulse s = .next t ∧ t.bit (EVT_CH_CFG.EN c) = false ∧
      t.bit (EVT_CH_CFG.LOOP c) = true ∧ (t.evtCh c).pend = none ∧ t.bit (EVT_CH_CFG.PEND c) = false ∧
      t.raised = (s.raise Src.EVT_LOOP (slot c ++ slotTick u)).raised ∧ t.firings = s.firings ∧
      t = { s.setPulses [] with regs := t.regs, evtChs := t.evtChs, raised := t.raised } := by
  obtain ⟨w, hw⟩ : ∃ w, w = ((s.setPulses []).pulseCounted c u).guardTripped c := ⟨_, rfl⟩
  obtain ⟨hen, hloop, hpend, hshown, htripped⟩ := ((s.setPulses []).pulseCounted c u).guardTripped_spec c
  rw [← hw] at hen hloop hpend hshown htripped
  have hframe : w.exceptChannels = (s.setPulses []).exceptChannels := by
    rw [htripped, State.pulseCounted, State.exceptChannels_setEvtCh]
  obtain ⟨x, hx⟩ : ∃ x, x = w.bump EVT_LOOP_CNT.COUNT := ⟨_, rfl⟩
  have hbit {f : Rf} (hf : f.addr = R.EVT_CH_CFG c) : x.bit f = w.bit f := by
    have hne : f.addr ≠ R.EVT_LOOP_CNT := hf ▸ evtLoopCnt_ne hc
    rw [State.bit, hx, State.bump, State.get_set_ne w EVT_LOOP_CNT.COUNT f _ hne, State.bit]
  have hxch : x.evtCh c = w.evtCh c := hx ▸ w.evtCh_bump _ 1 c
  have hxframe : x.exceptChannels = (s.setPulses []).exceptChannels := hx ▸ (w.exceptChannels_bump _ 1).trans hframe
  obtain ⟨hraised, htick, hfirings⟩ : x.raised = s.raised ∧ x.tick = s.tick ∧ x.firings = s.firings :=
    ⟨(congrArg State.raised hxframe :), (congrArg State.tick hxframe :), (congrArg State.firings hxframe :)⟩
  have hraise : x.raise Src.EVT_LOOP (slot c ++ slotTick u) = x.setRaised (s.raised ++ [{
      src := Src.EVT_LOOP, tick := s.tick, slots := slot c ++ slotTick u, injected := false }]) := by
    rw [State.raise_unmuted _ x.standbyMute_evtLoop, hraised, htick]
  have hexec : exec .eventPulse s = .next (x.raise Src.EVT_LOOP (slot c ++ slotTick u)) := by
    rw [h.exec_eventPulse, State.chPulse_trips (s := s.setPulses []) h.on hwindow hcount, hx, hw]
  refine ⟨_, hexec, ?_⟩
  rw [hraise, State.raised_raise _ s.standbyMute_evtLoop]
  exact ⟨(hbit rfl).trans hen, (hbit rfl).trans hloop, (congrArg EvtCh.pend hxch).trans hpend, (hbit rfl).trans hshown, rfl, hfirings,
    congrArg (State.setRaised · _) (State.eq_of_exceptChannels_eq hxframe)⟩

end

end Sys2Proof.Machine
end

section
/-! PROOF. Firings at their tasks (R364 to R368, R370). -/

namespace Sys2Proof.Machine

/-! ## What delivery reads -/

section
variable {s : State} {q : Nat}

theorem State.taskDown_set (s : State) {f : Rf} (v q : Nat) (hpwr : R.PWR_STAT ≠ f.addr) (hboot : R.BOOT_STAT ≠ f.addr) :
    (s.set f v).taskDown q = s.taskDown q := by
  have hstate : (s.set f v).get PWR_STAT.STATE = s.get PWR_STAT.STATE := s.get_set_ne f _ v hpwr
  have hstage : (s.set f v).get BOOT_STAT.STAGE = s.get BOOT_STAT.STAGE := s.get_set_ne f _ v hboot
  have hcause : (s.set f v).get BOOT_STAT.CAUSE = s.get BOOT_STAT.CAUSE := s.get_set_ne f _ v hboot
  simp only [State.taskDown, State.domDown, State.powDown, State.resetDown, State.stage, hstate, hstage, hcause, State.set_frame]

theorem State.taskBusy_set (s : State) {f : Rf} (v q c : Nat) (hjmp : ∀ b, b < 64 → R.SYN_JMP b ≠ f.addr) :
    (s.set f v).taskBusy q c = s.taskBusy q c := by
  unfold State.taskBusy
  split
  · rfl
  · split
    · next hq => exact congrArg (· != 0) (s.get_set_ne f (SYN_JMP.GO (q - 64)) v (hjmp _ (by omega)))
    · rfl

/-- Counting a coalescence leaves what tells whether a task is down or busy. -/
theorem State.tasks_coalesced (s : State) (hq : q < 221) (n c : Nat) :
    (s.bump (EVT_COAL_CNT.COUNT q) n).taskDown q = s.taskDown q ∧
    (s.bump (EVT_COAL_CNT.COUNT q) n).taskBusy q c = s.taskBusy q c := by
  have haddr : R.PWR_STAT ≠ R.EVT_COAL_CNT q ∧ R.BOOT_STAT ≠ R.EVT_COAL_CNT q ∧ ∀ b, b < 64 → R.SYN_JMP b ≠ R.EVT_COAL_CNT q := by
    unfold R.PWR_STAT R.BOOT_STAT R.SYN_JMP R.EVT_COAL_CNT
    exact ⟨by omega, by omega, fun b hb => by omega⟩
  obtain ⟨hpwr, hboot, hjmp⟩ := haddr
  exact ⟨s.taskDown_set (f := EVT_COAL_CNT.COUNT q) _ q hpwr hboot, s.taskBusy_set (f := EVT_COAL_CNT.COUNT q) _ q c hjmp⟩

/-- Firing `f` reaches task input `q` in this tick. -/
def State.reachesTask (s : State) (q : Nat) (f : Firing) : Bool :=
  decide (2 ≤ Tick.diff f.tick s.tick) && decide (Tick.diff f.tick s.tick ≤ 8) && !f.seen.contains q && s.takes q f.ch

theorem State.reachesTask_iff (s : State) (q : Nat) (f : Firing) : s.reachesTask q f = true ↔
    2 ≤ Tick.diff f.tick s.tick ∧ Tick.diff f.tick s.tick ≤ 8 ∧ q ∉ f.seen ∧ s.takes q f.ch = true := by
  simp only [State.reachesTask, Bool.and_eq_true, decide_eq_true_eq, Bool.not_eq_true', List.contains_eq_mem, decide_eq_false_iff_not, and_assoc]

/-- A firing that input `q` has seen. -/
def Firing.seenBy (f : Firing) (q : Nat) : Firing := { f with seen := f.seen ++ [q] }

/-- The firings that go on, those that reach `q` marked. -/
def State.marked (s : State) (q : Nat) : List Firing :=
  (s.firings.map (fun f => if s.reachesTask q f then f.seenBy q else f)).filter (fun f => decide (Tick.diff f.tick s.tick ≤ 8))

/-! ## Delivery -/

/-- An activation of input `q` by a firing, with a stamp. -/
def State.activate (s : State) (q : Nat) (f : Firing) (stamp : Tick) : Host.Outcome State Fault Refusal :=
  if s.taskDown q then .next (s.setBit (EVT_TSTAT.DOWN q) true)
  else if s.taskBusy q f.ch then .next ((s.setBit (EVT_TSTAT.OVERRUN q) true).bump (EVT_OVR_CNT.COUNT q))
  else .next (s.taskAct q stamp f.tick)

theorem exec_eventDelivery (s : State) (q : Fin 221) : exec (.eventDelivery q) s =
    match s.firings.filter (s.reachesTask q) with
    | [] => .next (s.setFirings (s.marked q))
    | h :: t => ((s.setFirings (s.marked q)).when (!t.isEmpty) (·.bump (EVT_COAL_CNT.COUNT q) t.length)).activate q h
        (t.foldl (fun a f => Tick.min a f.stamp) h.stamp) := rfl

theorem exec_eventDelivery_none {q : Fin 221} (h : s.firings = []) : exec (.eventDelivery q) s = .next s := by
  have hsame : s.setFirings (s.marked q) = s := by
    rw [State.marked, h]
    exact congrArg s.setFirings h.symm
  rw [exec_eventDelivery, h, hsame]
  rfl

/-- A firing that reaches its task goes on, marked. -/
theorem State.marked_reachesTask {l : List Firing} (hl : s.firings = l) (h : ∀ f ∈ l, s.reachesTask q f = true) :
    s.firings.filter (s.reachesTask q) = l ∧ s.marked q = l.map (·.seenBy q) := by
  have hmap : l.map (fun f => if s.reachesTask q f then f.seenBy q else f) = l.map (·.seenBy q) :=
    List.map_congr_left fun f hf => if_pos (h f hf)
  refine ⟨by rw [hl, List.filter_eq_self]; exact h, ?_⟩
  rw [State.marked, hl, hmap, List.filter_eq_self]
  intro f hf
  obtain ⟨f', hf', rfl⟩ := List.mem_map.mp hf
  exact decide_eq_true ((s.reachesTask_iff q f').mp (h f' hf')).2.1

theorem exec_eventDelivery_one {q : Fin 221} {f : Firing} (hl : s.firings = [f]) (h : s.reachesTask q f = true) :
    exec (.eventDelivery q) s = (s.setFirings [f.seenBy q]).activate q f f.stamp := by
  obtain ⟨hhits, hmarked⟩ := State.marked_reachesTask (q := q) hl (by simpa using h)
  rw [exec_eventDelivery, hhits, hmarked]
  rfl

/-- Two firings that reach an input together are one activation with the earlier stamp. -/
theorem exec_eventDelivery_two {q : Fin 221} {f g : Firing} (hl : s.firings = [f, g]) (hf : s.reachesTask q f = true)
    (hg : s.reachesTask q g = true) : exec (.eventDelivery q) s =
      ((s.setFirings [f.seenBy q, g.seenBy q]).bump (EVT_COAL_CNT.COUNT q)).activate q f (Tick.min f.stamp g.stamp) := by
  obtain ⟨hhits, hmarked⟩ := State.marked_reachesTask (q := q) hl (by simp [hf, hg])
  rw [exec_eventDelivery, hhits, hmarked]
  rfl

/-- An activation of an EVT_OUT input raises its pin for its width. -/
theorem State.taskAct_evtOut (s : State) {q j : Nat} (stamp fired : Tick) (hj : j < 8) (hq : q = 144 + j) :
    (s.taskAct q stamp fired).evtOut j =
      some (s.tick + 2, s.tick + 2 + BitVec.ofNat 48 (max 1 (s.get (EVT_TASK.WIDTH q)))) := by
  have hpin : q - 144 = j := by omega
  rw [State.taskAct, if_neg (by omega), if_neg (by omega), if_neg (by omega), if_pos (by omega), hpin]
  exact (State.evtOut_setEvtOut ..).trans (if_pos rfl)

end

/-! ## Groups of channels (R368) -/

section
variable {s t : State} {g : Nat}

/-- The state with the group activations on their way. -/
def State.setGroupTasks (s : State) (l : List (Nat × Bool × Tick)) : State := { s with groupTasks := l }

/-- Group `g` enabled. -/
def State.groupEnabled (s : State) (g : Nat) : State := s.set EVT_GRP_EN.EN (s.get EVT_GRP_EN.EN ||| 2 ^ g)

/-- The pending pulse of channel `i` of group `g` discarded. -/
def pendingDropped (g : Nat) (s : State) (i : Nat) : State :=
  s.when ((s.evtCh (8 * g + i)).pend.isSome) (·.setPend (8 * g + i) none)

/-- Group `g` disabled. -/
def State.groupDisabled (s : State) (g : Nat) : State :=
  (s.set EVT_GRP_EN.EN (s.get EVT_GRP_EN.EN &&& (0xFFFFFFFF - 2 ^ g))).each (List.range 8) (pendingDropped g)

theorem exec_groupTaskApply (s : State) : exec .groupTaskApply s =
    let due := s.groupTasks.filter (fun (g : Nat × Bool × Tick) => Tick.le g.2.2 s.tick)
    .next ((s.setGroupTasks (s.groupTasks.filter (fun (g : Nat × Bool × Tick) => !Tick.le g.2.2 s.tick))).each due (fun s g =>
      if due.contains (g.1, !g.2.1, g.2.2) then s else if g.2.1 then s.groupEnabled g.1 else s.groupDisabled g.1)) := rfl

theorem exec_groupTaskApply_none (h : s.groupTasks = []) : exec .groupTaskApply s = .next s := by
  have hsame : s.setGroupTasks [] = s := congrArg s.setGroupTasks h.symm
  rw [exec_groupTaskApply, h]
  exact congrArg _ hsame

/-- One activation that is due. -/
theorem exec_groupTaskApply_one {on : Bool} {u : Tick} (h : s.groupTasks = [(g, on, u)]) (hdue : Tick.le u s.tick = true) :
    exec .groupTaskApply s = .next (if on then (s.setGroupTasks []).groupEnabled g else (s.setGroupTasks []).groupDisabled g) := by
  have halone : [(g, on, u)].contains (g, !on, u) = false := by simp
  rw [exec_groupTaskApply, h]
  simp only [List.filter_cons, hdue, if_true, List.filter_nil, Bool.not_true, Bool.false_eq_true, if_false, State.each_cons,
    State.each_nil, halone]

/-- Enable and disable of one group delivered together. -/
theorem exec_groupTaskApply_both {u : Tick} (h : s.groupTasks = [(g, true, u), (g, false, u)]) (hdue : Tick.le u s.tick = true) :
    exec .groupTaskApply s = .next (s.setGroupTasks []) := by
  have hon : [(g, true, u), (g, false, u)].contains (g, false, u) = true := by simp
  have hoff : [(g, true, u), (g, false, u)].contains (g, true, u) = true := by simp
  rw [exec_groupTaskApply, h]
  simp only [List.filter_cons, hdue, if_true, List.filter_nil, Bool.not_true, Bool.false_eq_true, if_false, State.each_cons,
    State.each_nil, Bool.not_false, hon, hoff]

theorem State.groupTasks_of_exceptChannels_eq (h : t.exceptChannels = s.exceptChannels) : t.groupTasks = s.groupTasks :=
  (congrArg State.groupTasks h :)

theorem State.exceptChannels_pendingDropped (s : State) (g i : Nat) : (pendingDropped g s i).exceptChannels = s.exceptChannels :=
  State.when_same _ State.exceptChannels (s.exceptChannels_setPend _ none)

theorem State.get_pendingDropped (s : State) {i : Nat} (hg : g < 32) (hi : i < 8) :
    (pendingDropped g s i).get EVT_GRP_EN.EN = s.get EVT_GRP_EN.EN := by
  have hne : R.EVT_CH_CFG (8 * g + i) ≠ R.EVT_GRP_EN := by
    unfold R.EVT_CH_CFG R.EVT_GRP_EN
    omega
  exact State.when_same _ (State.get · EVT_GRP_EN.EN) (s.get_setPend_apart none (by decide) (.inl hne))

theorem State.pend_pendingDropped (s : State) (g i : Nat) {j : Nat} (h : i = j ∨ (s.evtCh (8 * g + j)).pend = none) :
    ((pendingDropped g s i).evtCh (8 * g + j)).pend = none := by
  cases hsome : (s.evtCh (8 * g + i)).pend.isSome
  · rw [pendingDropped, hsome, State.when_false]
    obtain rfl | h := h
    · exact Option.isNone_iff_eq_none.mp (by rw [← Option.not_isSome, hsome]; rfl)
    · exact h
  · rw [pendingDropped, hsome, State.when_true, State.evtCh_setPend]
    split
    · rfl
    · next hj => exact h.resolve_left fun hij => hj (congrArg (8 * g + ·) hij.symm)

theorem State.pend_each_pendingDropped (g : Nat) {j : Nat} : ∀ {l : List Nat} (s : State),
    (j ∈ l ∨ (s.evtCh (8 * g + j)).pend = none) → ((s.each l (pendingDropped g)).evtCh (8 * g + j)).pend = none
  | [], _, h => h.resolve_left List.not_mem_nil
  | i :: l, s, h => by
    refine State.pend_each_pendingDropped g (l := l) _ ?_
    obtain h | h := h
    · exact (List.mem_cons.mp h).symm.imp_right fun hj => s.pend_pendingDropped g i (.inl hj.symm)
    · exact .inr (s.pend_pendingDropped g i (.inr h))

/-- The bits of the word that EVT_GRP_EN keeps as group `g` is disabled. -/
theorem testBit_groupOff {w j : Nat} (hw : w < 2 ^ 32) (hg : g < 32) :
    (w &&& (0xFFFFFFFF - 2 ^ g)).testBit j = (w.testBit j && decide (j ≠ g)) := by
  have hmask : 0xFFFFFFFF - 2 ^ g = 2 ^ 32 - (2 ^ g + 1) := by omega
  rw [hmask, Nat.testBit_and, Nat.testBit_two_pow_sub_succ (Nat.pow_lt_pow_right (by decide) hg), Nat.testBit_two_pow]
  by_cases hj : j < 32
  · simp [hj, eq_comm]
  · rw [Nat.testBit_lt_two_pow (hw.trans_le (Nat.pow_le_pow_right (by decide) (Nat.not_lt.mp hj)))]
    rfl

theorem State.get_groupDisabled (s : State) (hg : g < 32) :
    (s.groupDisabled g).get EVT_GRP_EN.EN = s.get EVT_GRP_EN.EN &&& (0xFFFFFFFF - 2 ^ g) := by
  have hsmall : s.get EVT_GRP_EN.EN &&& (0xFFFFFFFF - 2 ^ g) < 2 ^ 32 := Nat.and_le_left.trans_lt (Nat.mod_lt _ (by decide))
  obtain ⟨w, hw⟩ : ∃ w, w = s.get EVT_GRP_EN.EN &&& (0xFFFFFFFF - 2 ^ g) := ⟨_, rfl⟩
  rw [State.groupDisabled, ← hw]
  refine List.foldlRecOn (motive := fun u => u.get EVT_GRP_EN.EN = w) (List.range 8) (pendingDropped g) ?_ fun u hu i hi => ?_
  · exact s.get_set_of_lt (by decide) (hw ▸ hsmall)
  · exact (u.get_pendingDropped hg (List.mem_range.mp hi)).trans hu

theorem State.groupDisabled_spec (s : State) (hg : g < 32) :
    let t := s.groupDisabled g
    (t.get EVT_GRP_EN.EN).testBit g = false ∧
    (∀ j, j ≠ g → (t.get EVT_GRP_EN.EN).testBit j = (s.get EVT_GRP_EN.EN).testBit j) ∧
    (∀ j, j < 8 → (t.evtCh (8 * g + j)).pend = none) ∧ t.exceptChannels = s.exceptChannels := by
  have hbit (j : Nat) : ((s.groupDisabled g).get EVT_GRP_EN.EN).testBit j = ((s.get EVT_GRP_EN.EN).testBit j && decide (j ≠ g)) := by
    rw [s.get_groupDisabled hg, testBit_groupOff (w := s.get EVT_GRP_EN.EN) (Nat.mod_lt _ (by decide)) hg]
  refine ⟨?_, fun j hj => ?_, fun j hj => State.pend_each_pendingDropped g _ (.inl (List.mem_range.mpr hj)), ?_⟩
  · rw [hbit, decide_eq_false (not_not.mpr rfl), Bool.and_false]
  · rw [hbit, decide_eq_true hj, Bool.and_true]
  · exact (State.each_same _ State.exceptChannels fun u i => u.exceptChannels_pendingDropped g i).trans (s.exceptChannels_set _ _)

end

/-! ## Output pulses and guard windows (R365, R369) -/

section
variable {s : State}

theorem exec_evtOutPulseEnd_low {pin : Fin 8} (h : s.evtOut pin = none) : exec (.evtOutPulseEnd pin) s = .next s := by
  have hexec : exec (.evtOutPulseEnd pin) s = execEvtOutPulseEnd pin s := rfl
  rw [hexec, execEvtOutPulseEnd, h]

theorem exec_evtOutPulseEnd_high {pin : Fin 8} {v u : Tick} (h : s.evtOut pin = some (v, u)) :
    exec (.evtOutPulseEnd pin) s = .next (if Tick.le u s.tick then s.setEvtOut pin none else s) := by
  have hexec : exec (.evtOutPulseEnd pin) s = execEvtOutPulseEnd pin s := rfl
  rw [hexec, execEvtOutPulseEnd, h]

/-- Channels after one change to each channel of a list. -/
theorem State.evtCh_each_modEvtCh (e : EvtCh → EvtCh) (c : Nat) : ∀ {l : List Nat} (s : State), l.Nodup →
    (s.each l (fun u i => u.modEvtCh i e)).evtCh c = if c ∈ l then e (s.evtCh c) else s.evtCh c
  | [], _, _ => rfl
  | i :: l, s, h => by
    obtain ⟨hi, hl⟩ := List.nodup_cons.mp h
    rw [State.each_cons, State.evtCh_each_modEvtCh e c _ hl, State.modEvtCh_eq, State.evtCh_setEvtCh]
    by_cases hc : c = i
    · subst hc
      simp [hi]
    · simp [hc]

/-- A channel whose counts start in window `w`, if they had not yet. -/
def EvtCh.inWindow (w : Nat) (k : EvtCh) : EvtCh := if k.window = w then k else { k with window := w, count := 0 }

theorem exec_loopGuardWindow (s : State) : exec .loopGuardWindow s = if s.tick.toNat % 15000 ≠ 0 then .next s else
    .next (s.each (List.range 256) (fun u i => u.modEvtCh i (EvtCh.inWindow (s.tick.toNat / 15000)))) := rfl

/-- The counts restart at a guard window's first tick. -/
theorem exec_loopGuardWindow_start (h : s.tick.toNat % 15000 = 0) : ∃ t, exec .loopGuardWindow s = .next t ∧
    (∀ c, c < 256 → t.evtCh c = (s.evtCh c).inWindow (s.tick.toNat / 15000)) ∧ t = { s with evtChs := t.evtChs } := by
  refine ⟨_, (exec_loopGuardWindow s).trans (if_neg (not_not.mpr h)), fun c hc => ?_, ?_⟩
  · rw [State.evtCh_each_modEvtCh _ _ _ List.nodup_range, if_pos (List.mem_range.mpr hc)]
  · exact State.each_keeps (P := fun u => u = { s with evtChs := u.evtChs }) _
      (fun u i hu => congrArg (State.setEvtCh · i _) hu) rfl

end

/-- Settles O47: producers, then channels, then delivery, groups, output pulses and guard windows. -/
theorem eventsFireAndReachTasks : Obligations.EventsFireAndReachTasks := by
  unfold Obligations.EventsFireAndReachTasks
  intro s i pin level l hi c q u v line f g grp k w quiet routed taken reaches seen one two
  have hroute (h : routed) : s.Routed line u c := by
    obtain ⟨hpulse, hdue, hen, hch, hon⟩ := h
    exact ⟨hpulse, hdue, hen, hch, hon⟩
  refine ⟨exec_evtInEdge_por, exec_evtInEdge_same, fun h hold hedge => ?edge, exec_evtTimer_spec, exec_evtTimer_none,
    exec_evtTmrWrite_spec s i hi, exec_eventPulse_none, exec_eventPulse_dropped, fun h => (hroute h).fires, fun h => (hroute h).pends,
    fun h => (hroute h).merges, fun h => (hroute h).trips c.isLt, fun h => ?free, fun h hearly => ?held, fun h hover hpend => ?quiet,
    exec_channelHoldEnd_pending, exec_eventDelivery_none, fun hl hf => ?one, fun hl hf hg hup hidle => ?two,
    fun j hq => one.taskAct_evtOut f.stamp f.tick j.isLt hq, exec_groupTaskApply_none, fun hdue => ⟨fun h => ?on,
    fun h => exec_groupTaskApply_both h hdue, fun h => ?off⟩, exec_evtOutPulseEnd_low, exec_evtOutPulseEnd_high,
    fun h => (exec_loopGuardWindow s).trans (if_pos h), exec_loopGuardWindow_start⟩
  case edge =>
    obtain ⟨t, hexec, hin, hpulse⟩ := exec_evtInEdge_edge_spec h hold hedge
    exact ⟨t, hexec, hin, fun hsel => hpulse (State.edgeHit_of hsel)⟩
  case free => rw [exec_channelHoldEnd, State.holdEnd_free _ h]
  case held => rw [exec_channelHoldEnd, State.holdEnd_held h hearly]
  case quiet => rw [exec_channelHoldEnd, State.holdEnd_quiet h hover hpend]
  case one =>
    rw [exec_eventDelivery_one hl ((s.reachesTask_iff q f).mpr hf)]
    exact ⟨fun hdown => if_pos hdown, fun hup hbusy => (if_neg (Bool.eq_false_iff.mp hup)).trans (if_pos hbusy),
      fun hup hidle => (if_neg (Bool.eq_false_iff.mp hup)).trans (if_neg (Bool.eq_false_iff.mp hidle))⟩
  case two =>
    obtain ⟨hdown, hbusy⟩ := (s.setFirings [f.seenBy q, g.seenBy q]).tasks_coalesced q.isLt 1 f.ch
    rw [exec_eventDelivery_two hl ((s.reachesTask_iff q f).mpr hf) ((s.reachesTask_iff q g).mpr hg), State.activate,
      if_neg (Bool.eq_false_iff.mp (hdown.trans hup)), if_neg (Bool.eq_false_iff.mp (hbusy.trans hidle))]
    rfl
  case on => exact exec_groupTaskApply_one h hdue
  case off =>
    obtain ⟨hoff, hothers, hpend, hframe⟩ := (s.setGroupTasks []).groupDisabled_spec grp.isLt
    exact ⟨_, exec_groupTaskApply_one h hdue, State.groupTasks_of_exceptChannels_eq hframe, hoff, hothers, hpend,
      State.eq_of_exceptChannels_eq hframe⟩

end Sys2Proof.Machine
end

section
/-! PROOF. Converters and their registers (R246). -/

namespace Sys2Proof.Machine

/-! ## The registers of the converters -/

theorem calConv_ne {i j : Nat} (h : j ≠ i) : R.CAL_CONV j ≠ R.CAL_CONV i := by
  unfold R.CAL_CONV
  omega

/-- The registers of the converters lie above the others of the calibration block. -/
theorem calConv_ne_below {a : Nat} (h : a < 0xF02400) (i : Nat) : R.CAL_CONV i ≠ a := by
  unfold R.CAL_CONV
  omega

theorem calConv_ne_thRegion {i : Nat} (hi : i < 270) (r : Nat) : R.CAL_CONV i ≠ R.TH_REGION r := by
  unfold R.CAL_CONV R.TH_REGION
  omega

theorem calConvState_apart_lastT (i j : Nat) : (CAL_CONV.STATE i).apart (CAL_CONV.LAST_T j) :=
  .inr (.inl (by decide : 0 + 3 ≤ 8))

theorem calConvPartner_apart_state (i j : Nat) : (CAL_CONV.PARTNER i).apart (CAL_CONV.STATE j) :=
  .inr (.inr (by decide : 0 + 3 ≤ 20))

theorem calConvLastT_apart_state (i j : Nat) : (CAL_CONV.LAST_T i).apart (CAL_CONV.STATE j) :=
  .inr (.inr (by decide : 0 + 3 ≤ 8))

theorem calConvLastT_apart_partner (i j : Nat) : (CAL_CONV.LAST_T i).apart (CAL_CONV.PARTNER j) :=
  .inr (.inl (by decide : 8 + 12 ≤ 20))

/-! ## Converters under register writes -/

section
variable {s t : State} {f : Rf}

theorem State.conv_of_convs_eq (h : t.convs = s.convs) (j : Nat) : t.conv j = s.conv j := by
  rw [State.conv, h, State.conv]

@[simp] theorem State.conv_set (s : State) (f : Rf) (v j : Nat) : (s.set f v).conv j = s.conv j := State.conv_of_convs_eq rfl j

@[simp] theorem State.get_setConv (s : State) (i : Nat) (k : Conv) (f : Rf) : (s.setConv i k).get f = s.get f :=
  State.get_of_regs_eq rfl f

theorem State.conv_setConv_same (s : State) (i : Nat) (k : Conv) : (s.setConv i k).conv i = k := by
  rw [State.conv_setConv, if_pos rfl]

theorem State.conv_setConv_ne (s : State) {i j : Nat} (k : Conv) (h : j ≠ i) : (s.setConv i k).conv j = s.conv j := by
  rw [State.conv_setConv, if_neg h]

/-- The state without registers and converters. -/
def State.exceptConvs (s : State) : State := { s with regs := [], convs := [] }

theorem State.eq_of_exceptConvs_eq (h : t.exceptConvs = s.exceptConvs) : t = { s with regs := t.regs, convs := t.convs } :=
  congrArg (fun u : State => { u with regs := t.regs, convs := t.convs }) h

theorem State.tick_of_exceptConvs_eq (h : t.exceptConvs = s.exceptConvs) : t.tick = s.tick :=
  (congrArg State.tick h :)

theorem State.exceptConvs_set (s : State) (f : Rf) (v : Nat) : (s.set f v).exceptConvs = s.exceptConvs := rfl

theorem State.exceptConvs_setConv (s : State) (i : Nat) (k : Conv) : (s.setConv i k).exceptConvs = s.exceptConvs := rfl

/-! ## A converter enters a state -/

/-- A converter that enters a state in tick `t`: nothing is aligned and nothing forced. -/
def Conv.entered (k : Conv) (t : Tick) : Conv := { k with at_ := t, aligned := false, forced := false }

theorem State.setConvState_eq (s : State) (i st : Nat) :
    s.setConvState i st = (s.set (CAL_CONV.STATE i) st).setConv i ((s.conv i).entered s.tick) := rfl

theorem State.get_setConvState_apart (s : State) {i : Nat} (st : Nat) (hw : f.lo + f.len ≤ 32) (h : (CAL_CONV.STATE i).apart f) :
    (s.setConvState i st).get f = s.get f := by
  rw [State.setConvState_eq, State.get_setConv, State.get_set_apart st hw h]

theorem State.convState_setConvState_same (s : State) (i : Nat) {st : Nat} (h : st < 8) : (s.setConvState i st).convState i = st := by
  rw [State.setConvState_eq, State.convState, State.get_setConv]
  exact State.get_set_of_lt _ (by decide : 0 + 3 ≤ 32) h

theorem State.convState_setConvState_ne (s : State) {i j : Nat} (st : Nat) (h : j ≠ i) :
    (s.setConvState i st).convState j = s.convState j :=
  s.get_setConvState_apart st (by decide : 0 + 3 ≤ 32) (.inl (calConv_ne h.symm))

theorem State.conv_setConvState_same (s : State) (i st : Nat) : (s.setConvState i st).conv i = (s.conv i).entered s.tick := by
  rw [State.setConvState_eq, State.conv_setConv_same]

theorem State.conv_setConvState_ne (s : State) {i j : Nat} (st : Nat) (h : j ≠ i) : (s.setConvState i st).conv j = s.conv j := by
  rw [State.setConvState_eq, State.conv_setConv_ne _ _ h, State.conv_set]

theorem State.exceptConvs_setConvState (s : State) (i st : Nat) : (s.setConvState i st).exceptConvs = s.exceptConvs := by
  rw [State.setConvState_eq, State.exceptConvs_setConv, State.exceptConvs_set]

/-! ## STARVED, and a new delta (R243, R250) -/

theorem State.get_showStarved_ne (s : State) (h : f.addr ≠ R.CAL_STAT) : s.showStarved.get f = s.get f := s.get_set_ne _ _ _ h

@[simp] theorem State.conv_showStarved (s : State) (j : Nat) : s.showStarved.conv j = s.conv j := s.conv_set _ _ j

@[simp] theorem State.convState_showStarved (s : State) (j : Nat) : s.showStarved.convState j = s.convState j :=
  s.get_showStarved_ne (calConv_ne_below (by decide) j)

theorem State.partner_showStarved (s : State) (j : Nat) : s.showStarved.get (CAL_CONV.PARTNER j) = s.get (CAL_CONV.PARTNER j) :=
  s.get_showStarved_ne (calConv_ne_below (by decide) j)

theorem State.exceptConvs_showStarved (s : State) : s.showStarved.exceptConvs = s.exceptConvs := s.exceptConvs_set _ _

/-- A converter with the result of a calibration that ended in tick `t`. -/
def Conv.calibrated (k : Conv) (v : BitVec 512) (t : Tick) : Conv := { k with delta := trimWords v, lastCal := t }

theorem State.calibrated_eq (s : State) (i : Nat) (v : BitVec 512) : s.calibrated i v =
    (s.setConv i ((s.conv i).calibrated v s.tick)).set (CAL_CONV.LAST_T i)
      (BitVec.ofInt 12 ((s.setConv i ((s.conv i).calibrated v s.tick)).convTemp i)).toNat := rfl

theorem State.conv_calibrated_same (s : State) (i : Nat) (v : BitVec 512) :
    (s.calibrated i v).conv i = (s.conv i).calibrated v s.tick := by
  rw [State.calibrated_eq, State.conv_set, State.conv_setConv_same]

theorem State.conv_calibrated_ne (s : State) {i j : Nat} (v : BitVec 512) (h : j ≠ i) : (s.calibrated i v).conv j = s.conv j := by
  rw [State.calibrated_eq, State.conv_set, State.conv_setConv_ne _ _ h]

theorem State.exceptConvs_calibrated (s : State) (i : Nat) (v : BitVec 512) : (s.calibrated i v).exceptConvs = s.exceptConvs := by
  rw [State.calibrated_eq, State.exceptConvs_set, State.exceptConvs_setConv]

end

end Sys2Proof.Machine
end

section
/-! PROOF. The rotation of a converter with its spare (R244 to R248, R250). -/

namespace Sys2Proof.Machine

section
variable {s t : State}

/-! ## ROTATION_START (R245) -/

/-- Converter `i` and its spare `p` name each other, and run in parallel. -/
def State.rotated (s : State) (i p : Nat) : State :=
  (((s.setConvState i convSt.parallel).set (CAL_CONV.PARTNER i) p).set (CAL_CONV.PARTNER p) i).showStarved

theorem exec_rotationStart {c : Fin 30} {i : Nat} (hidle : s.convState (240 + c.val) = convSt.spareIdle)
    (hfree : s.get (CAL_CONV.PARTNER (240 + c.val)) = noPartner) (hdue : (s.conv (240 + c.val)).spareDue = false)
    (hpause : s.bit CAL_CTRL.PAUSE = false) (hself : s.bit CAL_STAT.SELF_BUSY = false) (hlongest : s.longestDue (240 + c.val) = some i) :
    exec (.rotationStart c) s = .next (s.rotated i (240 + c.val)) := by
  have hexec : exec (.rotationStart c) s = execRotationStart c s := rfl
  rw [hexec, execRotationStart]
  simp only [hidle, hfree, hdue, hpause, hself, hlongest, beq_self_eq_true, Bool.and_self, Bool.not_true, Bool.not_false, Bool.or_self,
    Bool.false_eq_true, if_false]
  rfl

theorem State.conv_rotated (s : State) (i p j : Nat) : (s.rotated i p).conv j = (s.setConvState i convSt.parallel).conv j := by
  rw [State.rotated, State.conv_showStarved, State.conv_set, State.conv_set]

theorem State.exceptConvs_rotated (s : State) (i p : Nat) : (s.rotated i p).exceptConvs = s.exceptConvs := by
  rw [State.rotated, State.exceptConvs_showStarved, State.exceptConvs_set, State.exceptConvs_set, State.exceptConvs_setConvState]

theorem State.rotated_spec (s : State) {i p : Nat} (hi : i < 240) (hp : p < 270) (hne : i ≠ p) :
    let t := s.rotated i p
    t.convState i = convSt.parallel ∧ t.get (CAL_CONV.PARTNER i) = p ∧ t.get (CAL_CONV.PARTNER p) = i ∧
    t.conv i = (s.conv i).entered s.tick ∧ s.othersSame t State.conv i ∧ t = { s with regs := t.regs, convs := t.convs } := by
  have hlen : 20 + 9 ≤ 32 := by decide
  refine ⟨?_, ?_, ?_, ?_, fun j hj => ?_, State.eq_of_exceptConvs_eq (s.exceptConvs_rotated i p)⟩
  · rw [State.rotated, State.convState_showStarved, State.convState, State.get_set_apart _ (by decide : 0 + 3 ≤ 32)
      (calConvPartner_apart_state p i), State.get_set_apart _ (by decide : 0 + 3 ≤ 32) (calConvPartner_apart_state i i)]
    exact s.convState_setConvState_same i (by decide)
  · rw [State.rotated, State.partner_showStarved, State.get_set_ne _ _ _ _ (calConv_ne hne)]
    exact State.get_set_of_lt _ hlen (by change p < 2 ^ 9; omega)
  · rw [State.rotated, State.partner_showStarved]
    exact State.get_set_of_lt _ hlen (by change i < 2 ^ 9; omega)
  · rw [State.conv_rotated, State.conv_setConvState_same]
  · rw [State.conv_rotated, State.conv_setConvState_ne _ _ hj]

/-! ## ROTATION_ALIGN_DONE, and the deadline (R246, R248) -/

theorem State.beq_parallel_or_ret {i : Nat} (h : s.convState i = convSt.parallel ∨ s.convState i = convSt.ret) :
    (s.convState i == convSt.parallel || s.convState i == convSt.ret) = true :=
  Bool.or_eq_true_iff.mpr (h.imp beq_iff_eq.mpr beq_iff_eq.mpr)

theorem exec_rotationAlignDone {i : Fin 240} (hst : s.convState i = convSt.parallel ∨ s.convState i = convSt.ret)
    (htime : 1500 ≤ Tick.diff (s.conv i).at_ s.tick) :
    exec (.rotationAlignDone i) s = .next (s.setConv i { s.conv i with aligned := true }) := by
  have hexec : exec (.rotationAlignDone i) s = execRotationAlignDone i s := rfl
  rw [hexec, execRotationAlignDone]
  exact if_pos (Bool.and_eq_true_iff.mpr ⟨State.beq_parallel_or_ret hst, decide_eq_true htime⟩)

/-- Nothing that is not aligned is switched by force. -/
theorem State.calForced_unaligned {i : Nat} (h : (s.conv i).aligned = false) : s.calForced i = false := by
  rw [State.calForced, h, Bool.and_false, Bool.false_and]

theorem exec_calDeadlineExpiry {i : Fin 240} (hst : s.convState i = convSt.parallel ∨ s.convState i = convSt.ret)
    (htime : ((Nat.max 1 (s.get CAL_DEADLINE.MS) * 1500000 : Nat) : Int) ≤ Tick.diff (s.conv i).at_ s.tick)
    (haligned : (s.conv i).aligned = false) :
    exec (.calDeadlineExpiry i) s = .next (s.setConv i { s.conv i with forced := true }) := by
  have hexec : exec (.calDeadlineExpiry i) s = execCalDeadlineExpiry i s := rfl
  have hforced : (s.setConv i { s.conv i with forced := true }).calForced i = false :=
    State.calForced_unaligned (by rw [State.conv_setConv_same, haligned])
  rw [hexec, execCalDeadlineExpiry]
  simp only [State.beq_parallel_or_ret hst, decide_eq_true htime, State.modConv_eq, hforced, Bool.and_self, Bool.not_true,
    Bool.and_false, Bool.false_eq_true, if_false]

/-! ## HANDOVER and HAND_BACK (R247) -/

/-- Converter `i` goes offline, and spare `p` takes its place. -/
def State.handedOver (s : State) (i p : Nat) : State := (s.setConvState i convSt.offline).setConvState p convSt.spareActive

theorem exec_handover {i : Fin 240} (hst : s.convState i = convSt.parallel) (haligned : (s.conv i).aligned = true)
    (hinstant : s.handoverInstant i = true) :
    exec (.handover i) s = .next (s.handedOver i (s.get (CAL_CONV.PARTNER i))) := by
  have hexec : exec (.handover i) s = execHandover i s := rfl
  have hswitch : s.calSwitch i false = s.handedOver i (s.get (CAL_CONV.PARTNER i)) := if_pos hst
  rw [hexec, execHandover, hst, haligned, hinstant, hswitch]
  rfl

theorem State.handedOver_spec (s : State) {i p : Nat} (hne : i ≠ p) :
    let t := s.handedOver i p
    t.convState i = convSt.offline ∧ t.convState p = convSt.spareActive ∧ (t.conv i).at_ = s.tick ∧
    t = { s with regs := t.regs, convs := t.convs } := by
  refine ⟨?_, State.convState_setConvState_same _ p (by decide), ?_,
    State.eq_of_exceptConvs_eq ((State.exceptConvs_setConvState ..).trans (State.exceptConvs_setConvState ..))⟩
  · rw [State.handedOver, State.convState_setConvState_ne _ _ hne, State.convState_setConvState_same s i (by decide)]
  · rw [State.handedOver, State.conv_setConvState_ne _ _ hne, State.conv_setConvState_same, Conv.entered]

/-- Converter `i` and spare `p` are partners no more. -/
def State.unpaired (s : State) (i p : Nat) : State := (s.set (CAL_CONV.PARTNER i) noPartner).set (CAL_CONV.PARTNER p) noPartner

theorem State.unpaired_spec (s : State) {i p : Nat} (hne : i ≠ p) :
    (s.unpaired i p).get (CAL_CONV.PARTNER i) = noPartner ∧ (s.unpaired i p).get (CAL_CONV.PARTNER p) = noPartner ∧
    (∀ j, (s.unpaired i p).convState j = s.convState j) := by
  have hpartner : ∀ (u : State) j, (u.set (CAL_CONV.PARTNER j) noPartner).get (CAL_CONV.PARTNER j) = noPartner := fun u j =>
    State.get_set_of_lt u (by decide : 20 + 9 ≤ 32) (by decide : noPartner < 2 ^ 9)
  refine ⟨?_, hpartner _ p, fun j => ?_⟩
  · rw [State.unpaired, State.get_set_ne _ _ _ _ (calConv_ne hne), hpartner]
  · rw [State.unpaired, State.convState, State.get_set_apart _ (by decide : 0 + 3 ≤ 32) (calConvPartner_apart_state p j),
      State.get_set_apart _ (by decide : 0 + 3 ≤ 32) (calConvPartner_apart_state i j), State.convState]

/-- A spare that came due while it served begins its own calibration in tick `t`. -/
def Conv.ownCal (k : Conv) (t : Tick) : Conv := if k.spareDue then { k with calEnd := some (t + 270000) } else k

/-- A hand-back notes the converter's temperature, starts what the spare owes itself, and is counted. -/
def State.handBackNoted (s : State) (i p : Nat) : State :=
  let u := s.set (CAL_CONV.LAST_T i) (BitVec.ofInt 12 (s.convTemp i)).toNat
  (((u.setConv p ((u.conv p).ownCal u.tick)).bump CAL_ROT_CNT.COUNT).lifeBump 362).showStarved

theorem State.get_lifeBump (s : State) (i : Nat) (f : Rf) : (s.lifeBump i).get f = s.get f := State.get_of_regs_eq rfl f

theorem State.get_handBackNoted (s : State) (i p : Nat) {f : Rf} (hw : f.lo + f.len ≤ 32) (hlast : (CAL_CONV.LAST_T i).apart f)
    (hstat : f.addr ≠ R.CAL_STAT) (hcnt : f.addr ≠ R.CAL_ROT_CNT) : (s.handBackNoted i p).get f = s.get f := by
  rw [State.handBackNoted, State.get_showStarved_ne _ hstat, State.get_lifeBump, State.bump, State.get_set_ne _ _ _ _ hcnt,
    State.get_setConv, State.get_set_apart _ hw hlast]

/-- What a hand-back notes leaves states and partners as they are. -/
theorem State.handBackNoted_spec (s : State) (i p j : Nat) : (s.handBackNoted i p).convState j = s.convState j ∧
    (s.handBackNoted i p).get (CAL_CONV.PARTNER j) = s.get (CAL_CONV.PARTNER j) := by
  have hstat := calConv_ne_below (by decide : R.CAL_STAT < 0xF02400) j
  have hcnt := calConv_ne_below (by decide : R.CAL_ROT_CNT < 0xF02400) j
  exact ⟨s.get_handBackNoted i p (by decide : 0 + 3 ≤ 32) (calConvLastT_apart_state i j) hstat hcnt,
    s.get_handBackNoted i p (by decide : 20 + 9 ≤ 32) (calConvLastT_apart_partner i j) hstat hcnt⟩

/-- Converter `i` serves again, and spare `p` waits. -/
def State.handedBack (s : State) (i p : Nat) : State :=
  (((s.setConvState i convSt.inService).setConvState p convSt.spareIdle).unpaired i p).handBackNoted i p

theorem State.calSwitch_ret {i : Nat} (hst : s.convState i = convSt.ret) :
    s.calSwitch i false = s.handedBack i (s.get (CAL_CONV.PARTNER i)) := by
  have hne : ¬ s.convState i = convSt.parallel := by
    rw [hst]
    decide
  exact if_neg hne

theorem exec_handBack {i : Fin 240} (hst : s.convState i = convSt.ret) (haligned : (s.conv i).aligned = true)
    (hinstant : s.handoverInstant i = true) :
    exec (.handBack i) s = .next (s.handedBack i (s.get (CAL_CONV.PARTNER i))) := by
  have hexec : exec (.handBack i) s = execHandBack i s := rfl
  rw [hexec, execHandBack, State.calSwitch_ret hst, hst, haligned, hinstant]
  rfl

theorem State.exceptConvs_lifeBump (h : t.exceptConvs = s.exceptConvs) (i : Nat) :
    (t.lifeBump i).exceptConvs = (s.lifeBump i).exceptConvs :=
  congrArg (State.lifeBump · i) h

theorem State.exceptConvs_handedBack (s : State) (i p : Nat) : (s.handedBack i p).exceptConvs = (s.lifeBump 362).exceptConvs := by
  refine (State.exceptConvs_showStarved _).trans (State.exceptConvs_lifeBump ?_ 362)
  rw [State.bump, State.exceptConvs_set, State.exceptConvs_setConv, State.exceptConvs_set, State.unpaired, State.exceptConvs_set,
    State.exceptConvs_set, State.exceptConvs_setConvState, State.exceptConvs_setConvState]

theorem State.eq_of_exceptConvs_lifeBump_eq {i : Nat} (h : t.exceptConvs = (s.lifeBump i).exceptConvs) :
    t = { s with regs := t.regs, convs := t.convs, life := t.life } :=
  congrArg (fun u : State => { u with regs := t.regs, convs := t.convs, life := t.life }) h

theorem State.handedBack_spec (s : State) {i p : Nat} (hne : i ≠ p) :
    let t := s.handedBack i p
    t.convState i = convSt.inService ∧ t.convState p = convSt.spareIdle ∧
    t.get (CAL_CONV.PARTNER i) = noPartner ∧ t.get (CAL_CONV.PARTNER p) = noPartner ∧
    t = { s with regs := t.regs, convs := t.convs, life := t.life } := by
  obtain ⟨hi, hp, hstate⟩ := ((s.setConvState i convSt.inService).setConvState p convSt.spareIdle).unpaired_spec hne
  have hnoted := (((s.setConvState i convSt.inService).setConvState p convSt.spareIdle).unpaired i p).handBackNoted_spec i p
  obtain ⟨histate, hipartner⟩ := hnoted i
  obtain ⟨hpstate, hppartner⟩ := hnoted p
  refine ⟨?_, ?_, hipartner.trans hi, hppartner.trans hp, State.eq_of_exceptConvs_lifeBump_eq (s.exceptConvs_handedBack i p)⟩
  · rw [State.handedBack, histate, hstate, State.convState_setConvState_ne _ _ hne,
      State.convState_setConvState_same s i (by decide)]
  · rw [State.handedBack, hpstate, hstate, State.convState_setConvState_same _ p (by decide)]

/-! ## OFFLINE_CAL_DONE (R243, R247, R250) -/

/-- Converter `i` has a new delta, and waits to serve again. -/
def State.recalibrated (s : State) (i : Nat) (v : BitVec 512) : State := (s.calibrated i v).setConvState i convSt.ret

/-- The calibration of converter `i` brought no result. -/
def State.calFailed (s : State) (i : Nat) : State := ((s.setConvState i convSt.failed).raise Src.CAL_FAIL (slot i)).showStarved

theorem exec_offlineCalDone {i : Fin 240} (hst : s.convState i = convSt.offline) (htime : 270001 ≤ Tick.diff (s.conv i).at_ s.tick)
    (res : Option (BitVec 512)) :
    exec (.offlineCalDone i res) s = .next (res.elim (s.calFailed i) (s.recalibrated i)) := by
  have hexec : exec (.offlineCalDone i res) s = execOfflineCalDone i res s := rfl
  have hdone : ¬ (!(s.convState i == convSt.offline && decide (270001 ≤ Tick.diff (s.conv i).at_ s.tick))) = true := by
    rw [hst, decide_eq_true htime]
    decide
  rw [hexec]
  cases res with
  | none => exact if_neg hdone
  | some v => exact if_neg hdone

theorem State.recalibrated_spec (s : State) (i : Nat) (v : BitVec 512) :
    let t := s.recalibrated i v
    t.convState i = convSt.ret ∧ (t.conv i).delta = trimWords v ∧ (t.conv i).lastCal = s.tick ∧ s.othersSame t State.conv i ∧
    t = { s with regs := t.regs, convs := t.convs } := by
  have hconv : (s.recalibrated i v).conv i = ((s.conv i).calibrated v s.tick).entered s.tick := by
    rw [State.recalibrated, State.conv_setConvState_same, State.conv_calibrated_same]
    rfl
  refine ⟨State.convState_setConvState_same _ i (by decide), congrArg Conv.delta hconv, congrArg Conv.lastCal hconv, fun j hj => ?_,
    State.eq_of_exceptConvs_eq ((State.exceptConvs_setConvState ..).trans (State.exceptConvs_calibrated ..))⟩
  rw [State.recalibrated, State.conv_setConvState_ne _ _ hj, State.conv_calibrated_ne _ _ hj]

theorem State.standbyMute_setConvState (s : State) (i st src : Nat) : (s.setConvState i st).standbyMute src = s.standbyMute src :=
  State.standbyMute_of_role (s.get_setConvState_apart st (by decide) (.inl (calConv_ne_below (by decide) i))) src

theorem State.calFailed_spec (s : State) (i : Nat) :
    let t := s.calFailed i
    t.convState i = convSt.failed ∧ (t.conv i).delta = (s.conv i).delta ∧
    (s.standbyMute Src.CAL_FAIL = false →
      t.raised = s.raised ++ [{ src := Src.CAL_FAIL, tick := s.tick, slots := slot i, injected := false }]) := by
  obtain ⟨hstate, hconv⟩ := State.raise_keeps (s := s.setConvState i convSt.failed)
    (P := fun u => u.convState i = convSt.failed ∧ u.conv i = (s.conv i).entered s.tick) Src.CAL_FAIL (slot i) (fun _ _ h => h)
    ⟨s.convState_setConvState_same i (by decide), s.conv_setConvState_same i _⟩
  refine ⟨?_, ?_, fun hmute => ?_⟩
  · rw [State.calFailed, State.convState_showStarved, hstate]
  · rw [State.calFailed, State.conv_showStarved, hconv, Conv.entered]
  · exact State.raised_raise (s := s.setConvState i convSt.failed) _ ((s.standbyMute_setConvState i _ _).trans hmute)

/-! ## SPARE_CAL_DONE (R245) -/

/-- A converter whose own calibration, as a spare, has ended. -/
def Conv.spareDone (k : Conv) : Conv := { k with spareDue := false, calEnd := none }

theorem exec_spareCalDone {c : Fin 30} {u : Tick} (hend : (s.conv (240 + c.val)).calEnd = some u) (htime : Tick.le u s.tick = true)
    (v : BitVec 512) : exec (.spareCalDone c (some v)) s =
      .next ((s.setConv (240 + c.val) (s.conv (240 + c.val)).spareDone).calibrated (240 + c.val) v) := by
  have hexec : exec (.spareCalDone c (some v)) s = execSpareCalDone c (some v) s := rfl
  rw [hexec, execSpareCalDone]
  simp only [hend, htime, Bool.not_true, Bool.false_eq_true, if_false]
  rfl

theorem State.spareCalibrated_spec (s : State) (p : Nat) (v : BitVec 512) :
    let t := (s.setConv p (s.conv p).spareDone).calibrated p v
    (t.conv p).delta = trimWords v ∧ (t.conv p).spareDue = false ∧ (t.conv p).calEnd = none ∧ s.othersSame t State.conv p ∧
    t = { s with regs := t.regs, convs := t.convs } := by
  have hconv : ((s.setConv p (s.conv p).spareDone).calibrated p v).conv p = (s.conv p).spareDone.calibrated v s.tick := by
    rw [State.conv_calibrated_same, State.conv_setConv_same]
    rfl
  refine ⟨congrArg Conv.delta hconv, congrArg Conv.spareDue hconv, congrArg Conv.calEnd hconv, fun j hj => ?_,
    State.eq_of_exceptConvs_eq ((State.exceptConvs_calibrated ..).trans (State.exceptConvs_setConv ..))⟩
  rw [State.conv_calibrated_ne _ _ hj, State.conv_setConv_ne _ _ hj]

/-! ## CAL_DUE_CHECK (R244, R245) -/

/-- What becoming due can do: a converter in service enters DUE, another stays, and a spare notes it. -/
theorem State.makeDue_cases (s : State) (i : Nat) :
    (s.convState i = convSt.inService ∧ s.makeDue i = (s.setConvState i convSt.due).showStarved) ∨
    (s.convState i ≠ convSt.inService ∧ s.makeDue i = s) ∨
    (240 ≤ i ∧ ∃ k : Conv, k.lastCal = (s.conv i).lastCal ∧ s.makeDue i = s.setConv i k) := by
  unfold State.makeDue
  split
  · split
    · next hst => exact .inl ⟨hst, rfl⟩
    · next hst => exact .inr (.inl ⟨hst, rfl⟩)
  · next hspare =>
    refine .inr (.inr ⟨Nat.le_of_not_lt hspare, _, ?_, rfl⟩)
    exact (apply_ite Conv.lastCal ((s.conv i).spareDue = true) _ _).trans (ite_self _)

theorem State.get_makeDue_apart (s : State) (i : Nat) {f : Rf} (hw : f.lo + f.len ≤ 32) (hstate : (CAL_CONV.STATE i).apart f)
    (hstat : f.addr ≠ R.CAL_STAT) : (s.makeDue i).get f = s.get f := by
  obtain ⟨-, h⟩ | ⟨-, h⟩ | ⟨-, k, -, h⟩ := s.makeDue_cases i
  · rw [h, State.get_showStarved_ne _ hstat, State.get_setConvState_apart _ _ hw hstate]
  · rw [h]
  · rw [h, State.get_setConv]

theorem State.exceptConvs_makeDue (s : State) (i : Nat) : (s.makeDue i).exceptConvs = s.exceptConvs := by
  obtain ⟨-, h⟩ | ⟨-, h⟩ | ⟨-, k, -, h⟩ := s.makeDue_cases i
  · rw [h, State.exceptConvs_showStarved, State.exceptConvs_setConvState]
  · rw [h]
  · rw [h, State.exceptConvs_setConv]

/-- One converter becomes due: the others keep their states. -/
theorem State.makeDue_ne (s : State) {i j : Nat} (h : j ≠ i) :
    (s.makeDue i).convState j = s.convState j ∧ (s.makeDue i).conv j = s.conv j := by
  refine ⟨s.get_makeDue_apart i (by decide : 0 + 3 ≤ 32) (.inl (calConv_ne h.symm)) (calConv_ne_below (by decide) j), ?_⟩
  obtain ⟨-, hdue⟩ | ⟨-, hdue⟩ | ⟨-, k, -, hdue⟩ := s.makeDue_cases i
  · rw [hdue, State.conv_showStarved, State.conv_setConvState_ne _ _ h]
  · rw [hdue]
  · rw [hdue, State.conv_setConv_ne _ _ h]

/-- A converter in service becomes due, and one that is due already stays due. -/
theorem State.convState_makeDue (s : State) {i : Nat} (hi : i < 240) (h : s.convState i = convSt.inService ∨ s.convState i = convSt.due) :
    (s.makeDue i).convState i = convSt.due := by
  obtain ⟨-, hdue⟩ | ⟨hst, hdue⟩ | ⟨hspare, -⟩ := s.makeDue_cases i
  · rw [hdue, State.convState_showStarved, State.convState_setConvState_same s i (by decide)]
  · rw [hdue]
    exact h.resolve_left hst
  · omega

/-- Becoming due is no calibration. -/
theorem State.lastCal_makeDue (s : State) (i j : Nat) : ((s.makeDue i).conv j).lastCal = (s.conv j).lastCal := by
  by_cases hj : j = i
  · obtain ⟨-, h⟩ | ⟨-, h⟩ | ⟨-, k, hk, h⟩ := s.makeDue_cases i
    · rw [h, hj, State.conv_showStarved, State.conv_setConvState_same, Conv.entered]
    · rw [h]
    · rw [h, hj, State.conv_setConv_same, hk]
  · obtain ⟨-, hconv⟩ := s.makeDue_ne hj
    rw [hconv]

/-- What a converter's drift is judged by. -/
theorem State.convDrifted_of_eq {j : Nat}
    (hget : ∀ f ∈ [CAL_CFG.DELTA, CAL_CFG.MAXAGE, TH_REGION.TEMP (convRegion j), CAL_CONV.LAST_T j], t.get f = s.get f)
    (hlast : (t.conv j).lastCal = (s.conv j).lastCal) (htick : t.tick = s.tick) :
    t.convDrifted j = s.convDrifted j := by
  simp only [List.forall_mem_cons] at hget
  obtain ⟨hdelta, hage, htemp, hlastT, -⟩ := hget
  have hregion : t.convTemp j = s.convTemp j := congrArg (fun x => (BitVec.ofNat 12 x).toInt) htemp
  have hint : t.getInt (CAL_CONV.LAST_T j) = s.getInt (CAL_CONV.LAST_T j) := congrArg (fun x => (BitVec.ofNat 12 x).toInt) hlastT
  rw [State.convDrifted, hregion, hint, hdelta, hage, hlast, htick, State.convDrifted]

/-- That a converter becomes due changes no converter's drift. -/
theorem State.convDrifted_makeDue (s : State) {i : Nat} (hi : i < 270) (j : Nat) : (s.makeDue i).convDrifted j = s.convDrifted j := by
  refine State.convDrifted_of_eq ?_ (s.lastCal_makeDue i j) (State.tick_of_exceptConvs_eq (s.exceptConvs_makeDue i))
  simp only [List.forall_mem_cons]
  refine ⟨?delta, ?age, ?temp, ?last, by simp⟩
  case delta => exact s.get_makeDue_apart i (by decide) (.inl (calConv_ne_below (by decide) i)) (by decide)
  case age => exact s.get_makeDue_apart i (by decide) (.inl (calConv_ne_below (by decide) i)) (by decide)
  case temp =>
    refine s.get_makeDue_apart i (by decide : 0 + 12 ≤ 32) (.inl (calConv_ne_thRegion hi _)) ?_
    simp only [TH_REGION.TEMP, R.TH_REGION, R.CAL_STAT]
    omega
  case last =>
    exact s.get_makeDue_apart i (by decide : 8 + 12 ≤ 32) (calConvState_apart_lastT i j) (calConv_ne_below (by decide) j)

/-- CAL_DUE_CHECK at one converter. -/
def State.dueChecked (s : State) (i : Nat) : State := if s.convDrifted i then s.makeDue i else s

theorem exec_calDueCheck (h : s.bit CAL_CFG.EN = true) :
    exec .calDueCheck s = .next (s.each (List.range 270) State.dueChecked) := by
  have hexec : exec .calDueCheck s = execCalDueCheck s := rfl
  rw [hexec, execCalDueCheck, if_pos h]
  rfl

theorem State.dueChecked_keeps {P : State → Prop} {i : Nat} (hdue : s.convDrifted i = true → P (s.makeDue i)) (h : P s) :
    P (s.dueChecked i) := by
  unfold State.dueChecked
  split
  · next hdrift => exact hdue hdrift
  · exact h

theorem State.convDrifted_dueChecked (s : State) {i : Nat} (hi : i < 270) (j : Nat) :
    (s.dueChecked i).convDrifted j = s.convDrifted j :=
  State.dueChecked_keeps (P := fun u => u.convDrifted j = s.convDrifted j) (fun _ => s.convDrifted_makeDue hi j) rfl

/-- The check of one converter leaves the others. -/
theorem State.dueChecked_ne (s : State) {i j : Nat} (h : j ≠ i) :
    (s.dueChecked i).convState j = s.convState j ∧ (s.dueChecked i).conv j = s.conv j :=
  State.dueChecked_keeps (P := fun u => u.convState j = s.convState j ∧ u.conv j = s.conv j) (fun _ => s.makeDue_ne h) ⟨rfl, rfl⟩

/-- A converter that has not drifted outlives every check unchanged. -/
theorem State.each_dueChecked_undrifted {j : Nat} (hj : s.convDrifted j = false) {l : List Nat} (hl : ∀ i ∈ l, i < 270) :
    (s.each l State.dueChecked).convState j = s.convState j ∧ (s.each l State.dueChecked).conv j = s.conv j := by
  induction l generalizing s with
  | nil => exact ⟨rfl, rfl⟩
  | cons i l ih =>
    obtain ⟨hi, hrest⟩ := List.forall_mem_cons.mp hl
    have hhead : (s.dueChecked i).convState j = s.convState j ∧ (s.dueChecked i).conv j = s.conv j := by
      by_cases hji : j = i
      · subst hji
        rw [State.dueChecked, hj, if_neg Bool.false_ne_true]
        exact ⟨rfl, rfl⟩
      · exact s.dueChecked_ne hji
    obtain ⟨hstate, hconv⟩ := ih ((s.convDrifted_dueChecked hi j).trans hj) hrest
    exact ⟨hstate.trans hhead.1, hconv.trans hhead.2⟩

/-- A drifted converter in service is due once it was checked, and stays so. -/
theorem State.each_dueChecked_drifted {j : Nat} (hlt : j < 240) (hj : s.convDrifted j = true) {l : List Nat} (hl : ∀ i ∈ l, i < 270)
    (hst : s.convState j = convSt.due ∨ (s.convState j = convSt.inService ∧ j ∈ l)) :
    (s.each l State.dueChecked).convState j = convSt.due := by
  induction l generalizing s with
  | nil => exact hst.resolve_right (fun h => List.not_mem_nil h.2)
  | cons i l ih =>
    obtain ⟨hi, hrest⟩ := List.forall_mem_cons.mp hl
    refine ih ((s.convDrifted_dueChecked hi j).trans hj) hrest ?_
    by_cases hji : j = i
    · subst hji
      rw [State.dueChecked, if_pos hj]
      exact .inl (s.convState_makeDue hlt (hst.symm.imp_left And.left))
    · rw [(s.dueChecked_ne hji).1]
      exact hst.imp_right (fun h => ⟨h.1, (List.mem_cons.mp h.2).resolve_left hji⟩)

theorem State.exceptConvs_each_dueChecked (s : State) (l : List Nat) : (s.each l State.dueChecked).exceptConvs = s.exceptConvs :=
  State.each_same l State.exceptConvs fun u i =>
    State.dueChecked_keeps (P := fun w => w.exceptConvs = u.exceptConvs) (fun _ => u.exceptConvs_makeDue i) rfl

end

/-- Settles O18: each clause is the law of its command above. -/
theorem converterRotation : Obligations.ConverterRotation := by
  unfold Obligations.ConverterRotation
  intro s c i v u p q k
  have hc := c.isLt
  have hi := i.isLt
  have hrange : ∀ j ∈ List.range 270, j < 270 := fun j => List.mem_range.mp
  refine ⟨fun hidle hfree hdue hpause hself hlongest =>
      ⟨_, exec_rotationStart hidle hfree hdue hpause hself hlongest, s.rotated_spec hi (by omega) (by omega)⟩,
    exec_rotationAlignDone, fun hst haligned hinstant hq _ =>
      ⟨_, exec_handover hst haligned hinstant, s.handedOver_spec (by omega : i.val ≠ q)⟩,
    fun hst htime => ⟨⟨_, exec_offlineCalDone hst htime (some v), s.recalibrated_spec i v⟩,
      ⟨_, exec_offlineCalDone hst htime none, s.calFailed_spec i⟩⟩,
    fun hst haligned hinstant hq _ => ⟨_, exec_handBack hst haligned hinstant, s.handedBack_spec (by omega : i.val ≠ q)⟩,
    fun hst => exec_calDeadlineExpiry (.inl hst), fun hend htime => ⟨_, exec_spareCalDone hend htime v, s.spareCalibrated_spec p v⟩,
    fun hen => ⟨_, exec_calDueCheck hen, fun hst hdrift => ?_, fun hdrift => State.each_dueChecked_undrifted hdrift hrange,
      State.eq_of_exceptConvs_eq (s.exceptConvs_each_dueChecked _)⟩⟩
  exact State.each_dueChecked_drifted hi hdrift hrange (.inr ⟨hst, List.mem_range.mpr (by omega)⟩)

end Sys2Proof.Machine
end

section
/-! PROOF. What the mesh, TIME and the twin leave alone of the serial lanes when a port changes (R310, R322, R328, R351). -/

namespace Sys2Proof.Machine

/-- The clock, lane `j`, and the register at `a`. -/
def State.serialAt (s : State) (j a : Nat) : Tick × Lane × Word := (s.tick, s.lane j, s.rd a)

section
variable {s t : State} {j a : Nat}

theorem State.tick_of_serialAt_eq (h : t.serialAt j a = s.serialAt j a) : t.tick = s.tick := congrArg (·.1) h

theorem State.lane_of_serialAt_eq (h : t.serialAt j a = s.serialAt j a) : t.lane j = s.lane j := congrArg (·.2.1) h

theorem State.rd_of_serialAt_eq (h : t.serialAt j a = s.serialAt j a) : t.rd a = s.rd a := congrArg (·.2.2) h

theorem State.serialAt_wr (s : State) (j : Nat) {b : Nat} (w : Word) (h : a ≠ b) : (s.wr b w).serialAt j a = s.serialAt j a := by
  rw [State.serialAt, State.rd_wr_ne _ _ h]
  rfl

theorem State.serialAt_set (s : State) (j : Nat) {f : Rf} (v : Nat) (h : a ≠ f.addr) : (s.set f v).serialAt j a = s.serialAt j a :=
  s.serialAt_wr j _ h

theorem State.serialAt_setBit (s : State) (j : Nat) {f : Rf} (v : Bool) (h : a ≠ f.addr) :
    (s.setBit f v).serialAt j a = s.serialAt j a :=
  s.serialAt_wr j _ h

theorem State.serialAt_bump (s : State) (j : Nat) {f : Rf} (n : Nat) (h : a ≠ f.addr) : (s.bump f n).serialAt j a = s.serialAt j a :=
  s.serialAt_wr j _ h

theorem State.serialAt_meshBit (s : State) (j : Nat) {f : Rf} (p : Nat) (v : Bool) (h : a ≠ f.addr) :
    (s.meshBit f p v).serialAt j a = s.serialAt j a :=
  s.serialAt_wr j _ h

theorem State.serialAt_pulse (s : State) (j a n : Nat) : (s.pulse n).serialAt j a = s.serialAt j a := rfl

theorem State.serialAt_setMeshPort (s : State) (j a p : Nat) (q : MeshPort) : (s.setMeshPort p q).serialAt j a = s.serialAt j a := rfl

theorem State.serialAt_raise (s : State) (j a src : Nat) (slots : List Nat) : (s.raise src slots).serialAt j a = s.serialAt j a :=
  State.raise_keeps (P := fun u => u.serialAt j a = s.serialAt j a) src slots (fun _ _ h => h) rfl

end

/-! ## Registers of the mesh and beyond -/

section
variable {a : Nat} (s : State) (j : Nat) (ha : a < 0xB00000)
include ha

/-- A register from the mesh's block on. -/
theorem ne_of_meshBlock {b : Nat} (hb : 0xB00000 ≤ b) : a ≠ b := Nat.ne_of_lt (Nat.lt_of_lt_of_le ha hb)

theorem ne_meshPq (p : Nat) : a ≠ R.MESH_PQ p := ne_of_meshBlock ha (by unfold R.MESH_PQ; omega)

theorem ne_meshPdropCnt (p : Nat) : a ≠ R.MESH_PDROP_CNT p := ne_of_meshBlock ha (by unfold R.MESH_PDROP_CNT; omega)

theorem ne_mbxCtrl (m : Nat) : a ≠ R.MBX_CTRL m := ne_of_meshBlock ha (by unfold R.MBX_CTRL; omega)

theorem ne_timeStat : a ≠ R.TIME_STAT := ne_of_meshBlock ha (by decide)

theorem ne_meshStat : a ≠ R.MESH_STAT := ne_of_meshBlock ha (by decide)

theorem State.serialAt_showTime : s.showTime.serialAt j a = s.serialAt j a := by
  have hstat := ne_timeStat ha
  rw [State.showTime, State.serialAt_set _ _ _ hstat, State.serialAt_set _ _ _ hstat, State.serialAt_setBit _ _ _ hstat]

theorem State.serialAt_timeLose : s.timeLose.serialAt j a = s.serialAt j a := by
  unfold State.timeLose
  split
  · rfl
  · rw [State.serialAt_showTime _ _ ha, State.serialAt_raise, State.serialAt_setBit _ _ _ (ne_timeStat ha)]
    rfl

theorem State.serialAt_showQueue (p : Nat) : (s.showQueue p).serialAt j a = s.serialAt j a := by
  rw [State.showQueue, State.serialAt_set _ _ _ (ne_meshPq ha p), State.serialAt_set _ _ _ (ne_meshPq ha p)]

theorem State.serialAt_meshUnreach : s.meshUnreach.serialAt j a = s.serialAt j a := by
  rw [State.meshUnreach, State.serialAt_raise, State.serialAt_bump _ _ _ (ne_of_meshBlock ha (by decide))]

theorem State.serialAt_meshJoin (p : Nat) (f : Flit) : (s.meshJoin p f).serialAt j a = s.serialAt j a := by
  unfold State.meshJoin
  extract_lets q l
  split
  · rw [State.serialAt_showQueue _ _ ha, State.serialAt_setMeshPort]
    refine (State.when_same _ (·.serialAt j a) ?_).trans (State.serialAt_bump _ _ _ (ne_meshPdropCnt ha p))
    exact State.serialAt_raise ..
  · rw [State.serialAt_showQueue _ _ ha, State.serialAt_setMeshPort]

theorem State.serialAt_mbxLost (m : Nat) : (s.mbxLost m).serialAt j a = s.serialAt j a := by
  have hctrl := ne_mbxCtrl ha m
  rw [State.mbxLost, State.serialAt_setBit _ _ _ hctrl, State.mbxEmpty, State.serialAt_pulse, State.serialAt_setBit _ _ _ hctrl]

theorem State.serialAt_msgRoute (m : MeshMsg) : (s.msgRoute m State.mbxLost).serialAt j a = s.serialAt j a := by
  unfold State.msgRoute
  split
  · rfl
  · have hunreach := s.serialAt_meshUnreach j ha
    cases m.source with
    | none => exact hunreach
    | some b => exact (State.serialAt_mbxLost _ _ ha b).trans hunreach

/-- A port going down moves its queue, its messages and the parent: the lanes stay (R322). -/
theorem State.serialAt_meshPortDown (p : Nat) : (s.meshPortDown p State.mbxLost).serialAt j a = s.serialAt j a := by
  unfold State.meshPortDown
  extract_lets q bits told cleared other flits msgs
  have hbits : bits.serialAt j a = s.serialAt j a :=
    (State.serialAt_meshBit _ _ _ _ (ne_meshStat ha)).trans (State.serialAt_meshBit _ _ _ _ (ne_meshStat ha))
  have hcleared : cleared.serialAt j a = s.serialAt j a :=
    (State.serialAt_showQueue _ _ ha p).trans ((State.serialAt_raise ..).trans hbits)
  have hflits : flits.serialAt j a = s.serialAt j a := by
    refine (State.each_same _ (·.serialAt j a) fun u f => ?_).trans hcleared
    split_ifs
    · exact u.serialAt_meshUnreach j ha
    · exact u.serialAt_meshJoin j ha _ _
    · exact u.serialAt_meshJoin j ha _ _
    · exact u.serialAt_meshUnreach j ha
  have hmsgs : msgs.serialAt j a = s.serialAt j a :=
    (State.each_same _ (·.serialAt j a) fun u m => u.serialAt_msgRoute j ha m).trans hflits
  exact (State.when_same _ (·.serialAt j a) (State.serialAt_timeLose _ j ha)).trans hmsgs

/-- A port coming up enters its hold, or is found miswired: the lanes stay (R310). -/
theorem State.serialAt_meshPortUp (p : Nat) (dev : BitVec 12) (port : Nat) : (s.meshPortUp p dev port).serialAt j a = s.serialAt j a := by
  have hstat := ne_meshStat ha
  have hnamed : (s.modMeshPort p fun q => { q with partner := dev }).serialAt j a = s.serialAt j a := s.serialAt_setMeshPort ..
  unfold State.meshPortUp
  extract_lets named
  split_ifs
  · exact hnamed
  · rw [State.modMeshPort_eq, State.serialAt_setMeshPort, State.serialAt_meshBit _ _ _ _ hstat, State.serialAt_meshBit _ _ _ _ hstat]
    exact hnamed
  · rw [State.serialAt_raise, State.serialAt_meshBit _ _ _ _ hstat]
    exact hnamed

theorem State.serialAt_resyncAbandon : s.resyncAbandon.serialAt j a = s.serialAt j a := by
  have hstat : a ≠ R.TWIN_STAT := ne_of_meshBlock ha (by decide)
  refine (State.when_same _ (·.serialAt j a) (State.serialAt_set _ _ _ hstat)).trans ?_
  rw [State.serialAt_setBit _ _ _ (ne_of_meshBlock ha (by decide)), State.serialAt_set _ _ _ hstat]

end

end Sys2Proof.Machine
end

section
/-! PROOF. Ports that come up, idle and go down, and lanes that take a state (R296 to R303, R308). -/

namespace Sys2Proof.Machine

/-! ## Registers of a lane, and of a port (R445) -/

/-- The register of lane `l` at offset `o`. -/
def R.lane (l o : Nat) : Nat := 0xA00000 + 0x800 * l + o

/-- An address of the lanes' registers, where the ports have none. -/
def laneReg (a : Nat) : Prop := a < 0xB00000 ∧ a % 0x800 < 0x400

theorem laneReg_lane {l o : Nat} (hl : l < 32) (ho : o < 0x400) : laneReg (R.lane l o) := by
  unfold laneReg R.lane
  omega

theorem lane_ne {l j o q : Nat} (ho : o < 0x800) (hq : q < 0x800) (h : j ≠ l ∨ o ≠ q) : R.lane j o ≠ R.lane l q := by
  unfold R.lane
  omega

section
variable {s t : State}

theorem State.get_of_rd_eq {f : Rf} (h : t.rd f.addr = s.rd f.addr) : t.get f = s.get f := congrArg (fieldOf · f.lo f.len) h

theorem State.bit_of_rd_eq {f : Rf} (h : t.rd f.addr = s.rd f.addr) : t.bit f = s.bit f :=
  congrArg (· != 0) (State.get_of_rd_eq h)

theorem State.rd_setLane (s : State) (l : Nat) (k : Lane) (a : Nat) : (s.setLane l k).rd a = s.rd a := rfl

theorem State.tick_setLane (s : State) (l : Nat) (k : Lane) : (s.setLane l k).tick = s.tick := rfl

theorem State.get_setLane (s : State) (l : Nat) (k : Lane) (f : Rf) : (s.setLane l k).get f = s.get f :=
  State.get_of_regs_eq rfl f

theorem State.bit_setLane (s : State) (l : Nat) (k : Lane) (f : Rf) : (s.setLane l k).bit f = s.bit f :=
  congrArg (· != 0) (s.get_setLane l k f)

theorem State.lane_of_lanes_eq (h : t.lanes = s.lanes) (j : Nat) : t.lane j = s.lane j := by
  rw [State.lane, h, State.lane]

theorem State.lane_setLane_same (s : State) (l : Nat) (k : Lane) : (s.setLane l k).lane l = k := by
  rw [State.lane_setLane, if_pos rfl]

theorem State.serialAt_setSys (s : State) (j a : Nat) (v : SysSt) : { s with sys := v }.serialAt j a = s.serialAt j a := rfl

theorem State.serialAt_setLane (s : State) {j l : Nat} (a : Nat) (k : Lane) (h : j ≠ l) :
    (s.setLane l k).serialAt j a = s.serialAt j a := by
  rw [State.serialAt, State.lane_setLane, if_neg h]
  rfl

end

/-! ## Ports (R300, R303) -/

section
variable {a : Nat} (ha : laneReg a)
include ha

theorem laneReg.ne_portStat (p : Nat) : a ≠ R.PORT_STAT p := by
  unfold laneReg at ha
  unfold R.PORT_STAT
  omega

theorem laneReg.ne_portSkew (p : Nat) : a ≠ R.PORT_SKEW p := by
  unfold laneReg at ha
  unfold R.PORT_SKEW
  omega

theorem laneReg.ne_portDownCnt (p : Nat) : a ≠ R.PORT_DOWN_CNT p := by
  unfold laneReg at ha
  unfold R.PORT_DOWN_CNT
  omega

theorem laneReg.ne_hifStat : a ≠ R.HIF_STAT := ne_of_meshBlock ha.1 (by decide)

end

theorem portStat_ne_portDownCnt (p : Nat) : R.PORT_STAT p ≠ R.PORT_DOWN_CNT p := by
  unfold R.PORT_STAT R.PORT_DOWN_CNT
  omega

/-- The registers of port `p` as it goes down, and the fault. -/
def State.portDropped (s : State) (p : Nat) : State :=
  ((((s.setBit (PORT_STAT.UP p) false).setBit (PORT_STAT.EIDLE p) false).wr (R.PORT_SKEW p) 0xFFFFFFFF).when
    (s.bit (PORT_STAT.UP p)) (·.bump (PORT_DOWN_CNT.COUNT p))).raise Src.PORT_DOWN (slot p)

/-- What the mesh, the host interface, or TIME and the twin lose with port `p`. -/
def State.portLost (s : State) (p : Nat) : State :=
  if p < 6 then s.meshPortDown p State.mbxLost
  else if p = 6 then s.setBit HIF_STAT.LINK_UP false
  else
    let s := s.when (s.time.parent == some 7) (·.timeLose)
    s.when (s.get TWIN_STAT.PHASE == 1 || s.get TWIN_STAT.PHASE == 2) (·.resyncAbandon)

theorem State.portFail_eq (s : State) (p : Nat) : s.portFail p =
    if !s.bit (PORT_STAT.UP p) && !s.bit (PORT_STAT.EIDLE p) then s else (s.portDropped p).portLost p := rfl

theorem State.serialAt_portLost (s : State) (j : Nat) {a : Nat} (ha : a < 0xB00000) (p : Nat) :
    (s.portLost p).serialAt j a = s.serialAt j a := by
  unfold State.portLost
  split_ifs
  · exact s.serialAt_meshPortDown j ha p
  · exact s.serialAt_setBit j _ (ne_of_meshBlock ha (by decide))
  · extract_lets kept
    have hkept : kept.serialAt j a = s.serialAt j a := State.when_same _ (·.serialAt j a) (s.serialAt_timeLose j ha)
    exact (State.when_same _ (·.serialAt j a) (kept.serialAt_resyncAbandon j ha)).trans hkept

theorem State.serialAt_portDropped (s : State) (j : Nat) {a : Nat} (ha : laneReg a) (p : Nat) :
    (s.portDropped p).serialAt j a = s.serialAt j a := by
  rw [State.portDropped, State.serialAt_raise, State.when_same _ (·.serialAt j a) (State.serialAt_bump _ _ _ (ha.ne_portDownCnt p)),
    State.serialAt_wr _ _ _ (ha.ne_portSkew p), State.serialAt_setBit _ _ _ (ha.ne_portStat p),
    State.serialAt_setBit _ _ _ (ha.ne_portStat p)]

theorem State.serialAt_portFail (s : State) (j : Nat) {a : Nat} (ha : laneReg a) (p : Nat) :
    (s.portFail p).serialAt j a = s.serialAt j a := by
  rw [State.portFail_eq]
  split
  · rfl
  · exact (State.serialAt_portLost _ j ha.1 p).trans (s.serialAt_portDropped j ha p)

theorem State.rd_portStat_portDropped (s : State) (p : Nat) : (s.portDropped p).rd (R.PORT_STAT p) =
    ((s.setBit (PORT_STAT.UP p) false).setBit (PORT_STAT.EIDLE p) false).rd (R.PORT_STAT p) := by
  have hskew : R.PORT_STAT p ≠ R.PORT_SKEW p := by
    unfold R.PORT_STAT R.PORT_SKEW
    omega
  refine State.rd_of_serialAt_eq (j := 0) ?_
  rw [State.portDropped, State.serialAt_raise, State.when_same _ (·.serialAt 0 _) (State.serialAt_bump _ _ _ (portStat_ne_portDownCnt p)),
    State.serialAt_wr _ _ _ hskew]

/-- Whatever it was, a port that has gone down is not UP. -/
theorem State.bit_up_portFail (s : State) {p : Nat} (hp : p < 8) : (s.portFail p).bit (PORT_STAT.UP p) = false := by
  have haddr : R.PORT_STAT p < 0xB00000 := by
    unfold R.PORT_STAT
    omega
  rw [State.portFail_eq]
  split
  next hdown => simpa using (Bool.and_eq_true_iff.mp hdown).1
  next =>
    refine (State.bit_of_rd_eq (f := PORT_STAT.UP p) ((State.rd_of_serialAt_eq
      (State.serialAt_portLost _ 0 haddr p)).trans (s.rd_portStat_portDropped p))).trans ?_
    rw [State.bit_setBit_apart _ (by decide : 0 + 1 ≤ 32) (.inr (.inr (by decide : 0 + 1 ≤ 1)))]
    exact State.bit_setBit_same _ _ rfl (by decide : 0 < 32)

theorem State.serialAt_portIdle (s : State) (j : Nat) {a : Nat} (ha : laneReg a) (p : Nat) :
    (s.portIdle p).serialAt j a = s.serialAt j a := by
  unfold State.portIdle
  split
  · rfl
  · refine (State.when_same _ (·.serialAt j a) (State.serialAt_setBit _ _ _ ha.ne_hifStat)).trans ?_
    rw [State.serialAt_bump _ _ _ (ha.ne_portDownCnt p), State.serialAt_setBit _ _ _ (ha.ne_portStat p),
      State.serialAt_setBit _ _ _ (ha.ne_portStat p)]

/-- A port that was UP idles (R303). -/
theorem State.portStat_portIdle (s : State) {p : Nat} (hp : p < 8) (hup : s.bit (PORT_STAT.UP p) = true) :
    (s.portIdle p).bit (PORT_STAT.UP p) = false ∧ (s.portIdle p).bit (PORT_STAT.EIDLE p) = true := by
  have hhif : R.PORT_STAT p ≠ R.HIF_STAT := ne_of_meshBlock (by unfold R.PORT_STAT; omega) (by decide)
  have hrd : (s.portIdle p).rd (R.PORT_STAT p) =
      ((s.setBit (PORT_STAT.UP p) false).setBit (PORT_STAT.EIDLE p) true).rd (R.PORT_STAT p) := by
    refine State.rd_of_serialAt_eq (j := 0) ?_
    rw [State.portIdle, hup, Bool.not_true, if_neg Bool.false_ne_true]
    refine (State.when_same _ (·.serialAt 0 (R.PORT_STAT p)) ?_).trans ?_
    · exact State.serialAt_setBit _ _ _ hhif
    · exact State.serialAt_bump _ _ _ (portStat_ne_portDownCnt p)
  constructor
  · rw [State.bit_of_rd_eq (f := PORT_STAT.UP p) hrd,
      State.bit_setBit_apart _ (by decide : 0 + 1 ≤ 32) (.inr (.inr (by decide : 0 + 1 ≤ 1)))]
    exact State.bit_setBit_same _ _ rfl (by decide : 0 < 32)
  · rw [State.bit_of_rd_eq (f := PORT_STAT.EIDLE p) hrd]
    exact State.bit_setBit_same _ _ rfl (by decide : 1 < 32)

/-- A port that is not UP has nothing to give up. -/
theorem State.portIdle_of_not_up {s : State} {p : Nat} (h : s.bit (PORT_STAT.UP p) = false) : s.portIdle p = s := by
  rw [State.portIdle, h]
  rfl

theorem State.serialAt_portRise (s : State) (j : Nat) {a : Nat} (ha : laneReg a) (p : Nat) (dev : BitVec 12) (port : Nat) :
    (s.portRise p dev port).serialAt j a = s.serialAt j a := by
  have hstat := ha.ne_portStat p
  have hup : ((s.setBit (PORT_STAT.UP p) true).setBit (PORT_STAT.EIDLE p) false).serialAt j a = s.serialAt j a :=
    (State.serialAt_setBit _ _ _ hstat).trans (State.serialAt_setBit _ _ _ hstat)
  unfold State.portRise
  extract_lets idle risen
  split_ifs
  · have hlink : (risen.setBit HIF_STAT.LINK_UP true).serialAt j a = risen.serialAt j a := State.serialAt_setBit _ _ _ ha.ne_hifStat
    exact (State.serialAt_setSys ..).trans (hlink.trans hup)
  · exact (State.serialAt_meshPortUp risen j ha.1 p dev port).trans hup
  · exact hup

/-- Whether or not the port comes up, its lanes stay as they are (R300). -/
theorem State.serialAt_portTry (s : State) (j : Nat) {a : Nat} (ha : laneReg a) (p : Nat) (tell : Bool) :
    (s.portTry p tell).serialAt j a = s.serialAt j a := by
  unfold State.portTry
  extract_lets ls ident lanes cross late early wide skewed wired placed
  split
  · rfl
  have hskewed : skewed.serialAt j a = s.serialAt j a := by
    refine State.when_same _ (·.serialAt j a) ?_
    rw [State.serialAt_raise, State.serialAt_setBit _ _ _ (ha.ne_portStat p)]
  have hwired : wired.serialAt j a = s.serialAt j a := by
    refine (State.when_same _ (·.serialAt j a) ?_).trans hskewed
    rw [State.serialAt_raise, State.serialAt_setBit _ _ _ (ha.ne_portStat p)]
  split
  · exact (State.serialAt_wr _ _ _ (ha.ne_portSkew p)).trans hwired
  · refine (State.serialAt_portRise _ j ha p _ _).trans ((State.each_same _ (·.serialAt j a) fun u l => ?_).trans hwired)
    exact State.serialAt_set u j _ (ha.ne_portSkew p)

end Sys2Proof.Machine
end

section
/-! PROOF. A lane takes a state: its registers, its marks, and its port (R296 to R300, R308). -/

namespace Sys2Proof.Machine

/-! ## What a new state leaves in the lane -/

/-- Lane state `k` when the lane goes from state `old` to state `st` in tick `t`. -/
def Lane.moved (k : Lane) (old st : Nat) (t : Tick) : Lane := { k with
  noUp := if old = ln.up ∧ st ≠ ln.up then some t else k.noUp
  noLock := if ln.keeps old && !ln.keeps st then some t else if ln.keeps st then none else k.noLock
  lostTold := k.lostTold && !ln.keeps st
  absentTold := k.absentTold && st ≠ ln.up }

/-- The lane shows state `st`, and whether it holds block lock. -/
def State.laneShown (s : State) (l st : Nat) : State :=
  ((s.prbsSettle l).set (LANE_STAT.STATE l) st).setBit (LANE_STAT.BLOCK_LOCK l) (ln.keeps st)

/-- An eye scan stops in OFF and EIDLE (R308). -/
def State.eyeStop (s : State) (l st : Nat) : State :=
  s.when ((st == ln.off || st == ln.eidle) && (s.lane l).eye.isSome) (fun s =>
    ((s.setBit (LANE_EYE_STAT.ABORT l) true).setBit (LANE_EYE_CTRL.GO l) false).modLane l (fun k => { k with eye := none }))

/-- Lane `l` in state `st`, its port not yet told. -/
def State.laneMoved (s : State) (l st : Nat) : State :=
  let s := ((s.laneShown l st).setLane l (((s.laneShown l st).lane l).moved (s.laneSt l) st (s.laneShown l st).tick)).eyeStop l st
  s.setBit (LANE_STAT.SEEN l) (s.laneSeen l)

theorem State.laneTo_eq (s : State) (l st : Nat) : s.laneTo l st =
    if st = ln.up ∨ st = ln.exit then s.laneMoved l st
    else if st = ln.eidle then (s.laneMoved l st).portIdle (l / 4)
    else if ln.keeps (s.laneSt l) then (s.laneMoved l st).portFail (l / 4)
    else s.laneMoved l st := rfl

/-- Offsets of the registers that a new state may write. -/
def laneMoves : List Nat := [0x4, 0x2C, 0x30, 0x40, 0x44]

/-- A lane register that no new state of lane `l` writes. -/
theorem ne_laneMoves {i l o : Nat} (ho : o < 0x400) (h : i ≠ l ∨ o ∉ laneMoves) : ∀ q ∈ laneMoves, R.lane i o ≠ R.lane l q := by
  intro q hq
  have hq' : q < 0x800 := (by decide : ∀ q ∈ laneMoves, q < 0x800) q hq
  exact lane_ne (Nat.lt_trans ho (by decide)) hq' (h.imp_right fun hno heq => hno (heq ▸ hq))

section
variable {s : State} {a j l : Nat}

theorem State.serialAt_fresh (s : State) (j a : Nat) : s.fresh.serialAt j a = s.serialAt j a := rfl

theorem State.prbsSettle_idle {l : Nat} (h : s.prbsRuns l = false) : s.prbsSettle l = s := by
  rw [State.prbsSettle, h]
  rfl

theorem State.serialAt_prbsSettle (s : State) (j : Nat) (h : ∀ o ∈ laneMoves, a ≠ R.lane l o) :
    (s.prbsSettle l).serialAt j a = s.serialAt j a := by
  have herr : a ≠ R.LANE_PRBS_ERR_CNT l := h 0x2C (by decide)
  have hbits : a ≠ R.LANE_PRBS_BITS l := h 0x30 (by decide)
  unfold State.prbsSettle
  split
  · rfl
  · rw [State.serialAt_fresh, State.serialAt_wr _ _ _ hbits, State.serialAt_fresh, State.serialAt_wr _ _ _ herr]

theorem State.serialAt_laneShown (s : State) (j st : Nat) (h : ∀ o ∈ laneMoves, a ≠ R.lane l o) :
    (s.laneShown l st).serialAt j a = s.serialAt j a := by
  have hstat : a ≠ R.LANE_STAT l := h 0x4 (by decide)
  rw [State.laneShown, State.serialAt_setBit _ _ _ hstat, State.serialAt_set _ _ _ hstat, State.serialAt_prbsSettle _ _ h]

theorem State.serialAt_eyeStop (s : State) (st : Nat) (hj : j ≠ l) (hstat : a ≠ R.LANE_EYE_STAT l) (hctrl : a ≠ R.LANE_EYE_CTRL l) :
    (s.eyeStop l st).serialAt j a = s.serialAt j a := by
  refine State.when_same _ (·.serialAt j a) ?_
  rw [State.modLane_eq, State.serialAt_setLane _ _ _ hj, State.serialAt_setBit _ _ _ hctrl, State.serialAt_setBit _ _ _ hstat]

/-- Another lane, and the registers that no new state writes, stay. -/
theorem State.serialAt_laneMoved (s : State) (st : Nat) (hj : j ≠ l) (h : ∀ o ∈ laneMoves, a ≠ R.lane l o) :
    (s.laneMoved l st).serialAt j a = s.serialAt j a := by
  have hstat : a ≠ R.LANE_STAT l := h 0x4 (by decide)
  rw [State.laneMoved, State.serialAt_setBit _ _ _ hstat, State.serialAt_eyeStop _ _ hj (h 0x44 (by decide)) (h 0x40 (by decide)),
    State.serialAt_setLane _ _ _ hj, State.serialAt_laneShown _ _ _ h]

theorem State.lane_eyeStop (s : State) (l st : Nat) : (s.eyeStop l st).lane l =
    { s.lane l with eye := if st == ln.off || st == ln.eidle then none else (s.lane l).eye } := by
  rw [State.eyeStop]
  cases hst : st == ln.off || st == ln.eidle with
  | false => rfl
  | true =>
    cases heye : (s.lane l).eye with
    | none =>
      rw [Option.isSome_none, Bool.and_false, State.when_false, if_pos rfl, ← heye]
    | some t =>
      rw [Option.isSome_some, Bool.and_true, State.when_true, State.modLane_eq, State.lane_setLane_same, if_pos rfl]
      rfl

/-- The lane's own marks; an eye scan that ran may have stopped. -/
theorem State.lane_laneMoved (s : State) (l st : Nat) : (s.laneMoved l st).lane l =
    { (s.lane l).moved (s.laneSt l) st s.tick with eye := if st == ln.off || st == ln.eidle then none else (s.lane l).eye } := by
  have hshown : (s.laneShown l st).serialAt l (R.lane l 0) = s.serialAt l (R.lane l 0) :=
    s.serialAt_laneShown l st (ne_laneMoves (by decide) (.inr (by decide)))
  have hlane := State.lane_of_serialAt_eq hshown
  have htick := State.tick_of_serialAt_eq hshown
  rw [State.laneMoved]
  change ((State.eyeStop _ l st).lane l) = _
  rw [State.lane_eyeStop, State.lane_setLane_same, hlane, htick]
  rfl

/-- A field of LANE_STAT apart from SEEN is as the new state shows it. -/
theorem State.get_laneStat_laneMoved (s : State) (l st : Nat) {f : Rf} (haddr : f.addr = R.LANE_STAT l) (hw : f.lo + f.len ≤ 32)
    (hseen : (LANE_STAT.SEEN l).apart f) : (s.laneMoved l st).get f = (s.laneShown l st).get f := by
  have hstop : ∀ u : State, (u.eyeStop l st).get f = u.get f := fun u => by
    refine State.get_of_rd_eq (State.rd_of_serialAt_eq (u.serialAt_eyeStop (j := l + 1) st (Nat.succ_ne_self l) ?_ ?_))
    · rw [haddr]
      exact lane_ne (o := 0x4) (q := 0x44) (by decide) (by decide) (.inr (by decide))
    · rw [haddr]
      exact lane_ne (o := 0x4) (q := 0x40) (by decide) (by decide) (.inr (by decide))
  rw [State.laneMoved]
  exact (State.get_set_apart _ hw hseen).trans ((hstop _).trans (State.get_setLane ..))

theorem State.laneSt_laneMoved (s : State) (l : Nat) {st : Nat} (hst : st < 16) : (s.laneMoved l st).laneSt l = st := by
  refine (s.get_laneStat_laneMoved l st (f := LANE_STAT.STATE l) rfl (by decide : 0 + 4 ≤ 32)
    (.inr (.inr (by decide : 0 + 4 ≤ 6)))).trans ?_
  rw [State.laneShown, State.setBit_eq, State.get_set_apart _ (by decide : 0 + 4 ≤ 32) (.inr (.inr (by decide : 0 + 4 ≤ 4)))]
  exact State.get_set_of_lt _ (by decide : 0 + 4 ≤ 32) hst

theorem State.bit_blockLock_laneMoved (s : State) (l st : Nat) :
    (s.laneMoved l st).bit (LANE_STAT.BLOCK_LOCK l) = ln.keeps st := by
  refine (congrArg (· != 0) (s.get_laneStat_laneMoved l st (f := LANE_STAT.BLOCK_LOCK l) rfl (by decide : 4 + 1 ≤ 32)
    (.inr (.inr (by decide : 4 + 1 ≤ 6))))).trans ?_
  exact State.bit_setBit_same _ _ rfl (by decide : 4 < 32)

/-- The state without registers and the lanes. -/
def State.exceptLanes (s : State) : State := { s with regs := [], lanes := [] }

theorem State.eq_of_exceptLanes_eq {t : State} (h : t.exceptLanes = s.exceptLanes) : t = { s with regs := t.regs, lanes := t.lanes } :=
  congrArg (fun u : State => { u with regs := t.regs, lanes := t.lanes }) h

theorem State.exceptLanes_wr (s : State) (a : Nat) (w : Word) : (s.wr a w).exceptLanes = s.exceptLanes := rfl

theorem State.exceptLanes_set (s : State) (f : Rf) (v : Nat) : (s.set f v).exceptLanes = s.exceptLanes := rfl

theorem State.exceptLanes_setBit (s : State) (f : Rf) (v : Bool) : (s.setBit f v).exceptLanes = s.exceptLanes := rfl

theorem State.exceptLanes_setLane (s : State) (l : Nat) (k : Lane) : (s.setLane l k).exceptLanes = s.exceptLanes := rfl

/-- Where no pattern checker runs, a new state is a matter of registers and of the lane. -/
theorem State.exceptLanes_laneMoved (st : Nat) (h : s.prbsRuns l = false) : (s.laneMoved l st).exceptLanes = s.exceptLanes := by
  rw [State.laneMoved, State.exceptLanes_setBit, State.eyeStop, State.when_same _ State.exceptLanes, State.exceptLanes_setLane,
    State.laneShown, State.prbsSettle_idle h, State.exceptLanes_setBit, State.exceptLanes_set]
  rw [State.modLane_eq, State.exceptLanes_setLane, State.exceptLanes_setBit, State.exceptLanes_setBit]

end

/-! ## Taking a state -/

section
variable {s : State} {l : Nat}

/-- The port's answer leaves the lanes as they are. -/
theorem State.serialAt_laneTo_port (s : State) (j l st : Nat) {a : Nat} (ha : laneReg a) :
    (s.laneTo l st).serialAt j a = (s.laneMoved l st).serialAt j a := by
  rw [State.laneTo_eq]
  split_ifs
  · rfl
  · exact State.serialAt_portIdle _ j ha _
  · exact State.serialAt_portFail _ j ha _
  · rfl

/-- Another lane, and the lane registers that no new state writes, stay. -/
theorem State.serialAt_laneTo (s : State) (st : Nat) {i j o : Nat} (hj : j ≠ l) (hi : i < 32) (ho : o < 0x400)
    (h : i ≠ l ∨ o ∉ laneMoves) : (s.laneTo l st).serialAt j (R.lane i o) = s.serialAt j (R.lane i o) := by
  exact (s.serialAt_laneTo_port j l st (laneReg_lane hi ho)).trans (s.serialAt_laneMoved st hj (ne_laneMoves ho h))

theorem State.rd_laneTo (s : State) (st : Nat) {i o : Nat} (hi : i < 32) (ho : o < 0x400) (h : i ≠ l ∨ o ∉ laneMoves) :
    (s.laneTo l st).rd (R.lane i o) = s.rd (R.lane i o) :=
  State.rd_of_serialAt_eq (s.serialAt_laneTo st (Nat.succ_ne_self l) hi ho h)

theorem State.tick_laneTo (s : State) (l st : Nat) : (s.laneTo l st).tick = s.tick :=
  State.tick_of_serialAt_eq (s.serialAt_laneTo (i := 0) (o := 0) st (Nat.succ_ne_self l) (by decide) (by decide) (.inr (by decide)))

theorem State.lane_laneTo_ne (s : State) (st : Nat) {j : Nat} (hj : j ≠ l) : (s.laneTo l st).lane j = s.lane j :=
  State.lane_of_serialAt_eq (s.serialAt_laneTo (i := 0) (o := 0) st hj (by decide) (by decide) (.inr (by decide)))

theorem State.lane_laneTo (s : State) (l st : Nat) : (s.laneTo l st).lane l =
    { (s.lane l).moved (s.laneSt l) st s.tick with eye := if st == ln.off || st == ln.eidle then none else (s.lane l).eye } :=
  (State.lane_of_serialAt_eq (s.serialAt_laneTo_port l l st (laneReg_lane (l := 0) (o := 0) (by decide) (by decide)))).trans
    (s.lane_laneMoved l st)

theorem State.laneSt_laneTo (s : State) (hl : l < 32) {st : Nat} (hst : st < 16) : (s.laneTo l st).laneSt l = st :=
  (State.get_of_rd_eq (f := LANE_STAT.STATE l) (State.rd_of_serialAt_eq (s.serialAt_laneTo_port 0 l st
    (laneReg_lane (o := 0x4) hl (by decide))))).trans (s.laneSt_laneMoved l hst)

theorem State.laneSt_laneTo_ne (s : State) (st : Nat) {j : Nat} (hj : j ≠ l) (hlt : j < 32) :
    (s.laneTo l st).laneSt j = s.laneSt j :=
  State.get_of_rd_eq (f := LANE_STAT.STATE j) (s.rd_laneTo (o := 0x4) st hlt (by decide) (.inl hj))

/-- A lane that held block lock and loses UP takes its port down (R300). -/
theorem State.bit_up_laneTo (s : State) (hl : l < 32) {st : Nat} (hold : ln.keeps (s.laneSt l) = true)
    (hup : ¬ (st = ln.up ∨ st = ln.exit)) (hidle : st ≠ ln.eidle) : (s.laneTo l st).bit (PORT_STAT.UP (l / 4)) = false := by
  rw [State.laneTo_eq, if_neg hup, if_neg hidle, if_pos hold]
  exact State.bit_up_portFail _ (by omega)

/-- Where the lane held no block lock before, its port has nothing to lose. -/
theorem State.laneTo_of_not_keeps {st : Nat} (hold : ln.keeps (s.laneSt l) = false) (hidle : st ≠ ln.eidle) :
    s.laneTo l st = s.laneMoved l st := by
  rw [State.laneTo_eq, if_neg hidle, hold, if_neg Bool.false_ne_true, ite_self]

/-- The port's registers where the port is not told. -/
theorem State.rd_portStat_laneMoved (s : State) (l st p : Nat) : (s.laneMoved l st).rd (R.PORT_STAT p) = s.rd (R.PORT_STAT p) := by
  refine State.rd_of_serialAt_eq (s.serialAt_laneMoved st (Nat.succ_ne_self l) fun o ho => ?_)
  have ho' : o < 0x400 := (by decide : ∀ o ∈ laneMoves, o < 0x400) o ho
  unfold R.PORT_STAT R.lane
  omega

/-- The first lane of a port that was UP takes the port into electrical idle (R303). -/
theorem State.portStat_laneTo_eidle (s : State) (hl : l < 32) (hup : s.bit (PORT_STAT.UP (l / 4)) = true) :
    (s.laneTo l ln.eidle).bit (PORT_STAT.UP (l / 4)) = false ∧ (s.laneTo l ln.eidle).bit (PORT_STAT.EIDLE (l / 4)) = true :=
  State.portStat_portIdle _ (by omega) ((State.bit_of_rd_eq (s.rd_portStat_laneMoved l ln.eidle (l / 4))).trans hup)

/-- The others leave the port as it is. -/
theorem State.rd_portStat_laneTo_eidle {p : Nat} (h : s.bit (PORT_STAT.UP (l / 4)) = false) :
    (s.laneTo l ln.eidle).rd (R.PORT_STAT p) = s.rd (R.PORT_STAT p) := by
  have hdown := (State.bit_of_rd_eq (f := PORT_STAT.UP (l / 4)) (s.rd_portStat_laneMoved l ln.eidle (l / 4))).trans h
  have hto : s.laneTo l ln.eidle = (s.laneMoved l ln.eidle).portIdle (l / 4) := rfl
  rw [hto, State.portIdle_of_not_up hdown, State.rd_portStat_laneMoved]

end

end Sys2Proof.Machine
end

section
/-! PROOF. What a lane's commands do: enabling and settings, bring-up, ALIVE, losses, absence and the eye scan (R294 to R299, R305
to R308). -/

namespace Sys2Proof.Machine

section
variable {s t : State} {l : Fin 32}

/-! ## Enabling, restarting and loopbacks (R296, R298, R306) -/

theorem State.laneSt_of_rd_eq {j : Nat} (h : t.rd (R.LANE_STAT j) = s.rd (R.LANE_STAT j)) : t.laneSt j = s.laneSt j :=
  State.get_of_rd_eq h

theorem laneStat_ne_laneCtrl (j l : Nat) : R.LANE_STAT j ≠ R.LANE_CTRL l :=
  lane_ne (o := 0x4) (q := 0) (by decide) (by decide) (.inr (by decide))

/-- A write of LANE_CTRL leaves the lane's state. -/
theorem State.laneSt_set_laneCtrl (s : State) (j : Nat) {l : Nat} {f : Rf} (v : Nat) (hf : f.addr = R.LANE_CTRL l) :
    (s.set f v).laneSt j = s.laneSt j :=
  State.get_set_ne _ _ _ _ (hf ▸ laneStat_ne_laneCtrl j l)

theorem State.laneSt_setLane (s : State) (j l : Nat) (k : Lane) : (s.setLane l k).laneSt j = s.laneSt j := s.get_setLane ..

theorem State.laneLoops_eq (s : State) (l : Nat) :
    s.laneLoops l = (decide (1 ≤ s.get (LANE_CTRL.LOOP l)) && decide (s.get (LANE_CTRL.LOOP l) ≤ 3)) := rfl

theorem State.laneLoops_of_zero {l : Nat} (h : s.get (LANE_CTRL.LOOP l) = 0) : s.laneLoops l = false := by
  rw [State.laneLoops_eq, h]
  rfl

/-- A new state leaves LANE_CTRL. -/
theorem State.rd_laneCtrl_laneTo (s : State) (l st : Nat) {j : Nat} (hj : j < 32) :
    (s.laneTo l st).rd (R.LANE_CTRL j) = s.rd (R.LANE_CTRL j) :=
  s.rd_laneTo (o := 0) st hj (by decide) (.inr (by decide))

/-- Bring-up without a loopback ends in CDR, with the time without UP from now. -/
theorem State.laneBegin_eq {l : Nat} (hl : l < 32) (h : s.get (LANE_CTRL.LOOP l) = 0) : s.laneBegin l =
    (s.laneTo l ln.cdr).setLane l { (s.laneTo l ln.cdr).lane l with noUp := some s.tick, noLock := none, lostTold := false } := by
  have hloop : ∀ k, ((s.laneTo l ln.cdr).setLane l k).laneLoops l = false := fun k => State.laneLoops_of_zero
    ((State.get_setLane ..).trans ((State.get_of_rd_eq (f := LANE_CTRL.LOOP l) (s.rd_laneCtrl_laneTo l ln.cdr hl)).trans h))
  rw [State.laneBegin]
  simp only [State.modLane_eq, State.tick_laneTo, hloop, State.when_false]

theorem State.laneSt_laneBegin {l : Nat} (hl : l < 32) (h : s.get (LANE_CTRL.LOOP l) = 0) : (s.laneBegin l).laneSt l = ln.cdr := by
  rw [State.laneBegin_eq hl h, State.laneSt_setLane, State.laneSt_laneTo _ hl (by decide)]

/-- TX_EN and RX_EN as written. -/
def State.laneWritten (s : State) (l : Nat) (tx rx : Bool) : State := (s.setBit (LANE_CTRL.TX_EN l) tx).setBit (LANE_CTRL.RX_EN l) rx

theorem State.bit_tx_laneWritten (s : State) (l : Nat) (tx rx : Bool) : (s.laneWritten l tx rx).bit (LANE_CTRL.TX_EN l) = tx := by
  rw [State.laneWritten, State.bit_setBit_apart _ (by decide : 0 + 1 ≤ 32) (.inr (.inr (by decide : 0 + 1 ≤ 1)))]
  exact State.bit_setBit_same _ _ rfl (by decide : 0 < 32)

theorem State.bit_rx_laneWritten (s : State) (l : Nat) (tx rx : Bool) : (s.laneWritten l tx rx).bit (LANE_CTRL.RX_EN l) = rx :=
  State.bit_setBit_same _ _ rfl (by decide : 1 < 32)

theorem State.laneSt_laneWritten (s : State) (l : Nat) (tx rx : Bool) : (s.laneWritten l tx rx).laneSt l = s.laneSt l :=
  (State.laneSt_set_laneCtrl _ l _ rfl).trans (State.laneSt_set_laneCtrl _ l _ rfl)

theorem State.loop_laneWritten (s : State) (l : Nat) (tx rx : Bool) :
    (s.laneWritten l tx rx).get (LANE_CTRL.LOOP l) = s.get (LANE_CTRL.LOOP l) :=
  (State.get_set_apart _ (by decide : 4 + 3 ≤ 32) (.inr (.inl (by decide : 1 + 1 ≤ 4)))).trans
    (State.get_set_apart _ (by decide : 4 + 3 ≤ 32) (.inr (.inl (by decide : 0 + 1 ≤ 4))))

theorem State.laneAwake_laneWritten (s : State) {l : Nat} (hl : l < 32) (tx rx : Bool) :
    (s.laneWritten l tx rx).laneAwake l = s.laneAwake l := by
  have hctrl : R.BOOT_STAT ≠ R.LANE_CTRL l := Ne.symm (ne_of_meshBlock (by unfold R.LANE_CTRL; omega) (by decide))
  have hstage : (s.laneWritten l tx rx).stage = s.stage := (State.get_set_ne _ _ _ _ hctrl).trans (State.get_set_ne _ _ _ _ hctrl)
  rw [State.laneAwake, hstage, State.laneAwake]

theorem exec_laneEnableWrite (s : State) (l : Fin 32) (tx rx : Bool) :
    exec (.laneEnableWrite l tx rx) s = .next ((s.laneWritten l tx rx).laneEnables l) := rfl

/-- An enabled lane out of OFF and out of reset begins. -/
theorem State.laneEnables_begin {l : Nat} (htx : s.bit (LANE_CTRL.TX_EN l) = true) (hrx : s.bit (LANE_CTRL.RX_EN l) = true)
    (hst : s.laneSt l = ln.off) (hawake : s.laneAwake l = true) :
    s.laneEnables l = (s.setBit (LANE_PARTNER.VALID l) false).laneBegin l := by
  rw [State.laneEnables]
  simp only [htx, hrx, hst, hawake, Bool.and_self, Bool.not_true, Bool.false_eq_true, if_false, ne_eq, not_true_eq_false, or_self]

theorem exec_laneEnableWrite_begin (hst : s.laneSt l = ln.off) (hawake : s.laneAwake l = true) (hloop : s.get (LANE_CTRL.LOOP l) = 0) :
    ∃ t, exec (.laneEnableWrite l true true) s = .next t ∧ t.laneSt l = ln.cdr ∧ t.bit (LANE_PARTNER.VALID l) = false ∧
      (t.lane l).noUp = some s.tick := by
  have hbegin := State.laneEnables_begin (s.bit_tx_laneWritten l true true) (s.bit_rx_laneWritten l true true)
    ((s.laneSt_laneWritten l true true).trans hst) ((s.laneAwake_laneWritten l.isLt true true).trans hawake)
  have hctrl : R.LANE_CTRL l ≠ R.LANE_PARTNER l := lane_ne (o := 0) (q := 0x8) (by decide) (by decide) (.inr (by decide))
  have hzero : ((s.laneWritten l true true).setBit (LANE_PARTNER.VALID l) false).get (LANE_CTRL.LOOP l) = 0 :=
    (State.get_set_ne _ _ _ _ hctrl).trans ((s.loop_laneWritten l true true).trans hloop)
  refine ⟨_, (exec_laneEnableWrite s l true true).trans (congrArg _ hbegin), State.laneSt_laneBegin l.isLt hzero, ?_, ?_⟩
  · rw [State.laneBegin_eq l.isLt hzero, State.bit_setLane,
      State.bit_of_rd_eq (f := LANE_PARTNER.VALID l) (State.rd_laneTo _ (o := 0x8) ln.cdr l.isLt (by decide) (.inr (by decide)))]
    exact State.bit_setBit_same _ _ rfl (by decide : 31 < 32)
  · rw [State.laneBegin_eq l.isLt hzero, State.lane_setLane_same]
    rfl

theorem State.lanesOn_laneWritten (s : State) (l : Nat) {tx rx : Bool} (h : (tx && rx) = false) :
    ((s.laneWritten l tx rx).bit (LANE_CTRL.TX_EN l) && (s.laneWritten l tx rx).bit (LANE_CTRL.RX_EN l)) = false := by
  rw [State.bit_tx_laneWritten, State.bit_rx_laneWritten, h]

theorem exec_laneEnableWrite_off_off {tx rx : Bool} (hst : s.laneSt l = ln.off) (h : (tx && rx) = false) :
    exec (.laneEnableWrite l tx rx) s = .next ((s.setBit (LANE_CTRL.TX_EN l) tx).setBit (LANE_CTRL.RX_EN l) rx) := by
  rw [exec_laneEnableWrite, State.laneEnables, State.lanesOn_laneWritten s l h, Bool.not_false, if_pos rfl,
    if_pos ((s.laneSt_laneWritten l tx rx).trans hst)]
  rfl

theorem exec_laneEnableWrite_disable {tx rx : Bool} (hst : s.laneSt l ≠ ln.off) (h : (tx && rx) = false) :
    ∃ t, exec (.laneEnableWrite l tx rx) s = .next t ∧ t.laneSt l = ln.off := by
  rw [exec_laneEnableWrite, State.laneEnables, State.lanesOn_laneWritten s l h, Bool.not_false, if_pos rfl,
    if_neg (fun h => hst ((s.laneSt_laneWritten l tx rx).symm.trans h))]
  refine ⟨_, rfl, ?_⟩
  rw [State.modLane_eq, State.laneSt_setLane, State.laneSt, State.setBit_eq,
    State.get_set_apart _ (by decide : 0 + 4 ≤ 32) (.inr (.inr (by decide : 0 + 4 ≤ 5)))]
  exact State.laneSt_laneTo _ l.isLt (by decide)

theorem exec_laneRestart_off (hst : s.laneSt l = ln.off) : exec (.laneRestart l) s = .next (s.setBit (LANE_CTRL.RESTART l) true) := by
  have hexec : exec (.laneRestart l) s = execLaneRestart l s := rfl
  rw [hexec, execLaneRestart]
  exact congrArg _ (if_pos (.inl ((State.laneSt_set_laneCtrl _ _ _ rfl).trans hst)))

theorem exec_laneRestart (hst : s.laneSt l ≠ ln.off) (hloop : s.get (LANE_CTRL.LOOP l) = 0) :
    ∃ t, exec (.laneRestart l) s = .next t ∧ t.laneSt l = ln.cdr := by
  have hexec : exec (.laneRestart l) s = execLaneRestart l s := rfl
  have hkept : (s.setBit (LANE_CTRL.RESTART l) true).laneSt l = s.laneSt l := State.laneSt_set_laneCtrl _ _ _ rfl
  have hzero : (s.setBit (LANE_CTRL.RESTART l) true).get (LANE_CTRL.LOOP l) = 0 :=
    (State.get_set_apart _ (by decide : 4 + 3 ≤ 32) (.inr (.inl (by decide : 2 + 1 ≤ 4)))).trans hloop
  rw [hexec, execLaneRestart, hkept, State.laneLoops_of_zero hzero, if_neg (by simpa using hst)]
  exact ⟨_, rfl, State.laneSt_laneBegin l.isLt hzero⟩

theorem State.laneSt_loopWritten (s : State) (l v : Nat) : (s.set (LANE_CTRL.LOOP l) v).laneSt l = s.laneSt l :=
  State.laneSt_set_laneCtrl _ _ _ rfl

theorem State.loop_loopWritten (s : State) (l : Nat) (v : BitVec 3) : (s.set (LANE_CTRL.LOOP l) v.toNat).get (LANE_CTRL.LOOP l) = v.toNat :=
  State.get_set_of_lt _ (by decide : 4 + 3 ≤ 32) v.isLt

theorem exec_laneLoopWrite_off {v : BitVec 3} (hst : s.laneSt l = ln.off) :
    exec (.laneLoopWrite l v) s = .next (s.set (LANE_CTRL.LOOP l) v.toNat) := by
  have hexec : exec (.laneLoopWrite l v) s = execLaneLoopWrite l v s := rfl
  rw [hexec, execLaneLoopWrite]
  exact if_pos ((s.laneSt_loopWritten ..).trans hst)

theorem exec_laneLoopWrite_loops {v : BitVec 3} (hst : s.laneSt l ≠ ln.off) (hlow : 1 ≤ v.toNat) (hhigh : v.toNat ≤ 3) :
    ∃ t, exec (.laneLoopWrite l v) s = .next t ∧ t.laneSt l = ln.loopback := by
  have hexec : exec (.laneLoopWrite l v) s = execLaneLoopWrite l v s := rfl
  have hloops : (s.set (LANE_CTRL.LOOP l) v.toNat).laneLoops l = true := by
    rw [State.laneLoops_eq, State.loop_loopWritten, decide_eq_true hlow, decide_eq_true hhigh]
    rfl
  rw [hexec, execLaneLoopWrite]
  simp only [State.laneSt_loopWritten, hst, hloops, if_false, if_true]
  by_cases hback : s.laneSt l = ln.loopback
  · exact ⟨_, congrArg _ (if_pos hback), (s.laneSt_loopWritten ..).trans hback⟩
  · exact ⟨_, congrArg _ (if_neg hback), State.laneSt_laneTo _ l.isLt (by decide)⟩

theorem exec_laneLoopWrite_none {v : BitVec 3} (hst : s.laneSt l = ln.loopback) (hv : v = 0) :
    ∃ t, exec (.laneLoopWrite l v) s = .next t ∧ t.laneSt l = ln.cdr := by
  have hexec : exec (.laneLoopWrite l v) s = execLaneLoopWrite l v s := rfl
  have hoff : ¬ ln.loopback = ln.off := by decide
  subst hv
  rw [hexec, execLaneLoopWrite]
  simp only [State.laneSt_loopWritten, hst, hoff, State.laneLoops_of_zero (s.loop_loopWritten l 0), if_false, if_true,
    Bool.false_eq_true, State.modLane_eq]
  exact ⟨_, rfl, (State.laneSt_setLane ..).trans (State.laneSt_laneTo _ l.isLt (by decide))⟩

/-! ## Test patterns and equalisers (R305, R307) -/

theorem State.prbsSelect_rejected {l v : Nat} (f : Rf) (hv : v = 1 ∨ v = 2) (hback : s.laneSt l ≠ ln.loopback)
    (hcdr : s.laneSt l ≠ ln.cdr) : s.prbsSelect l f v = s.setBit (LANE_STAT.CFG_REJ l) true := if_pos ⟨hv, hback, hcdr⟩

theorem State.prbsSelect_loopback {l v : Nat} (f : Rf) (hst : s.laneSt l = ln.loopback) : s.prbsSelect l f v = s.set f v :=
  if_neg fun h => h.2.1 hst

/-- No checker runs outside LOOPBACK and CDR. -/
theorem State.prbsRuns_elsewhere {l : Nat} (hback : s.laneSt l ≠ ln.loopback) (hcdr : s.laneSt l ≠ ln.cdr) : s.prbsRuns l = false := by
  rw [State.prbsRuns, beq_false_of_ne hback, beq_false_of_ne hcdr]
  rfl

theorem State.prbsRuns_unselected {l : Nat} (h : s.get (LANE_CTRL.PRBS_CHK l) = 0) : s.prbsRuns l = false := by
  rw [State.prbsRuns, h]
  exact Bool.and_false _

theorem exec_prbsGenWrite (s : State) (l : Fin 32) (g : BitVec 2) :
    exec (.prbsGenWrite l g) s = .next (s.prbsSelect l (LANE_CTRL.PRBS_GEN l) g.toNat) := rfl

theorem exec_prbsChkWrite (g : BitVec 2) (h : s.prbsRuns l = false) :
    exec (.prbsChkWrite l g) s = .next (s.prbsSelect l (LANE_CTRL.PRBS_CHK l) g.toNat) := by
  have hexec : exec (.prbsChkWrite l g) s = .next ((s.prbsSettle l).prbsSelect l (LANE_CTRL.PRBS_CHK l) g.toNat) := rfl
  rw [hexec, State.prbsSettle_idle h]

theorem exec_prbsWrite_rejected {g : BitVec 2} (hg : g = 1 ∨ g = 2) (hback : s.laneSt l ≠ ln.loopback) (hcdr : s.laneSt l ≠ ln.cdr) :
    exec (.prbsGenWrite l g) s = .next (s.setBit (LANE_STAT.CFG_REJ l) true) ∧
    exec (.prbsChkWrite l g) s = .next (s.setBit (LANE_STAT.CFG_REJ l) true) := by
  have hv : g.toNat = 1 ∨ g.toNat = 2 := hg.imp (congrArg BitVec.toNat) (congrArg BitVec.toNat)
  rw [exec_prbsGenWrite, exec_prbsChkWrite g (State.prbsRuns_elsewhere hback hcdr), State.prbsSelect_rejected _ hv hback hcdr,
    State.prbsSelect_rejected _ hv hback hcdr]
  exact ⟨rfl, rfl⟩

theorem exec_prbsWrite_loopback (g : BitVec 2) (hst : s.laneSt l = ln.loopback) (hchk : s.get (LANE_CTRL.PRBS_CHK l) = 0) :
    exec (.prbsGenWrite l g) s = .next (s.set (LANE_CTRL.PRBS_GEN l) g.toNat) ∧
    exec (.prbsChkWrite l g) s = .next (s.set (LANE_CTRL.PRBS_CHK l) g.toNat) := by
  rw [exec_prbsGenWrite, exec_prbsChkWrite g (State.prbsRuns_unselected hchk), State.prbsSelect_loopback _ hst,
    State.prbsSelect_loopback _ hst]
  exact ⟨rfl, rfl⟩

/-- A field of a register whose low `n` bits were just written. -/
theorem State.get_set_low (s : State) (a : Nat) {n : Nat} (w : BitVec n) (hn : n ≤ 32) {g : Rf} (haddr : g.addr = a)
    (hg : g.lo + g.len ≤ n) : (s.set ⟨a, 0, n⟩ w.toNat).get g = (w.extractLsb' g.lo g.len).toNat := by
  have hrd : (s.set ⟨a, 0, n⟩ w.toNat).rd g.addr = fieldSet (s.rd a) 0 n w.toNat := by
    rw [haddr]
    exact State.rd_wr_same ..
  rw [State.get, hrd, fieldOf, BitVec.extractLsb'_toNat]
  apply Nat.eq_of_testBit_eq
  intro i
  rw [Nat.testBit_mod_two_pow, Nat.testBit_mod_two_pow, Nat.testBit_shiftRight, Nat.testBit_shiftRight]
  by_cases hi : i < g.len
  · have hbit := fieldSet_getLsbD (s.rd a) 0 n w.toNat (g.lo + i) (by omega)
    rw [if_pos ⟨Nat.zero_le _, by omega⟩, Nat.sub_zero, BitVec.getLsbD] at hbit
    rw [hbit]
  · rw [decide_eq_false hi, Bool.false_and, Bool.false_and]

/-- The equaliser in use for a written word: PRE as it stands, MAIN at least 32, POST at most 31 (R305). -/
def txeqInUse (w : BitVec 16) : BitVec 16 :=
  BitVec.ofNat 16 ((w.extractLsb' 0 4).toNat + Nat.max 32 (w.extractLsb' 4 6).toNat * 16 + Nat.min 31 (w.extractLsb' 10 6).toNat * 1024)

theorem txeqInUse_fields (w : BitVec 16) : ((txeqInUse w).extractLsb' 4 6).toNat = max 32 (w.extractLsb' 4 6).toNat ∧
    ((txeqInUse w).extractLsb' 10 6).toNat = min 31 (w.extractLsb' 10 6).toNat := by
  have hpre : (w.extractLsb' 0 4).toNat < 16 := BitVec.isLt _
  have hmain : max 32 (w.extractLsb' 4 6).toNat < 64 := Nat.max_lt.mpr ⟨by decide, BitVec.isLt _⟩
  have hpost : min 31 (w.extractLsb' 10 6).toNat < 32 := Nat.lt_of_le_of_lt (Nat.min_le_left ..) (by decide)
  rw [txeqInUse, Nat.max_eq_max, Nat.min_eq_min]
  generalize (w.extractLsb' 0 4).toNat = pre at *
  generalize max 32 (w.extractLsb' 4 6).toNat = main at *
  generalize min 31 (w.extractLsb' 10 6).toNat = post at *
  rw [BitVec.extractLsb'_toNat, BitVec.extractLsb'_toNat, BitVec.toNat_ofNat, Nat.shiftRight_eq_div_pow, Nat.shiftRight_eq_div_pow]
  omega

theorem exec_txeqWrite (s : State) (l : Fin 32) (w : BitVec 16) : exec (.txeqWrite l w) s =
    .next ((s.set ⟨R.LANE_TXEQ l, 0, 16⟩ w.toNat).setLane l { s.lane l with txeq := txeqInUse w }) := by
  have hexec : exec (.txeqWrite l w) s = execTxeqWrite l w s := rfl
  rw [hexec, execTxeqWrite]
  simp only [s.get_set_low (R.LANE_TXEQ l) w (by decide) (g := LANE_TXEQ.PRE l) rfl (by decide : 0 + 4 ≤ 16),
    s.get_set_low (R.LANE_TXEQ l) w (by decide) (g := LANE_TXEQ.MAIN l) rfl (by decide : 4 + 6 ≤ 16),
    s.get_set_low (R.LANE_TXEQ l) w (by decide) (g := LANE_TXEQ.POST l) rfl (by decide : 10 + 6 ≤ 16)]
  rfl

theorem exec_txeqWrite_spec (s : State) (l : Fin 32) (w : BitVec 16) :
    ∃ t, exec (.txeqWrite l w) s = .next t ∧ t.regs = (s.set ⟨R.LANE_TXEQ l, 0, 16⟩ w.toNat).regs ∧
      ((t.lane l).txeq.extractLsb' 4 6).toNat = max 32 (w.extractLsb' 4 6).toNat ∧
      ((t.lane l).txeq.extractLsb' 10 6).toNat = min 31 (w.extractLsb' 10 6).toNat ∧
      t = { s with regs := t.regs, lanes := t.lanes } := by
  refine ⟨_, exec_txeqWrite s l w, rfl, ?_, ?_, rfl⟩
  · rw [State.lane_setLane_same, (txeqInUse_fields w).1]
  · rw [State.lane_setLane_same, (txeqInUse_fields w).2]

end

end Sys2Proof.Machine
end

section
/-! PROOF. A lane's bring-up, ALIVE, losses, absence and eye scan (R293 to R299, R308). -/

namespace Sys2Proof.Machine

section
variable {s : State} {l : Fin 32}

/-! ## CDR_LOCK, BLOCK_LOCK and BLOCK_LOCK_LOSS (R296, R297) -/

theorem exec_cdrLock (hst : s.laneSt l = ln.cdr) : ∃ t, exec (.cdrLock l) s = .next t ∧ t.laneSt l = ln.hunt :=
  ⟨_, congrArg Host.Outcome.next (if_pos hst), s.laneSt_laneTo l.isLt (by decide)⟩

theorem exec_cdrLock_elsewhere (hst : s.laneSt l ≠ ln.cdr) : exec (.cdrLock l) s = .next s := congrArg _ (if_neg hst)

/-- A lane that has found the blocks, and their polarity. -/
def State.blockLocked (s : State) (l : Nat) (inv : Bool) : State := (s.laneMoved l ln.locked).setBit (LANE_STAT.INV l) inv

theorem exec_blockLock (inv : Bool) (hst : s.laneSt l = ln.hunt) : exec (.blockLock l inv) s = .next (s.blockLocked l inv) := by
  have hexec : exec (.blockLock l inv) s = .next ((s.laneTo l ln.locked).setBit (LANE_STAT.INV l) inv) := congrArg _ (if_pos hst)
  have hkept : ln.keeps (s.laneSt l) = false := by
    rw [hst]
    decide
  rw [hexec, State.laneTo_of_not_keeps hkept (by decide), State.blockLocked]

theorem State.laneSt_blockLocked (s : State) (l : Nat) (inv : Bool) : (s.blockLocked l inv).laneSt l = ln.locked :=
  (State.get_set_apart _ (by decide : 0 + 4 ≤ 32) (.inr (.inr (by decide : 0 + 4 ≤ 5)))).trans (s.laneSt_laneMoved l (by decide))

theorem State.bit_blockLock_blockLocked (s : State) (l : Nat) (inv : Bool) :
    (s.blockLocked l inv).bit (LANE_STAT.BLOCK_LOCK l) = true :=
  (State.bit_setBit_apart _ (by decide : 4 + 1 ≤ 32) (.inr (.inr (by decide : 4 + 1 ≤ 5)))).trans
    (s.bit_blockLock_laneMoved l ln.locked)

theorem State.lane_wr (s : State) (a : Nat) (w : Word) (l : Nat) : (s.wr a w).lane l = s.lane l := State.lane_of_lanes_eq rfl l

theorem State.lane_setBit (s : State) (f : Rf) (v : Bool) (l : Nat) : (s.setBit f v).lane l = s.lane l := State.lane_of_lanes_eq rfl l

/-- From HUNT the time without block lock ends. -/
theorem State.noLock_blockLocked {l : Nat} (inv : Bool) (hst : s.laneSt l = ln.hunt) : ((s.blockLocked l inv).lane l).noLock = none := by
  rw [State.blockLocked, State.lane_setBit, State.lane_laneMoved, hst]
  rfl

theorem State.blockLocked_eq {l : Nat} (inv : Bool) (hst : s.laneSt l = ln.hunt) :
    s.blockLocked l inv = { s with regs := (s.blockLocked l inv).regs, lanes := (s.blockLocked l inv).lanes } := by
  have hruns : s.prbsRuns l = false := State.prbsRuns_elsewhere (by rw [hst]; decide) (by rw [hst]; decide)
  refine State.eq_of_exceptLanes_eq ?_
  rw [State.blockLocked, State.exceptLanes_setBit, State.exceptLanes_laneMoved _ hruns]

theorem exec_blockLock_spec (inv : Bool) (hst : s.laneSt l = ln.hunt) : ∃ t, exec (.blockLock l inv) s = .next t ∧
    t.laneSt l = ln.locked ∧ t.bit (LANE_STAT.BLOCK_LOCK l) = true ∧ t.bit (LANE_STAT.INV l) = inv ∧ (t.lane l).noLock = none ∧
    t = { s with regs := t.regs, lanes := t.lanes } :=
  ⟨_, exec_blockLock inv hst, s.laneSt_blockLocked l inv, s.bit_blockLock_blockLocked l inv,
    State.bit_setBit_same _ _ rfl (by decide : 5 < 32), State.noLock_blockLocked inv hst, State.blockLocked_eq inv hst⟩

theorem exec_blockLock_elsewhere (inv : Bool) (hst : s.laneSt l ≠ ln.hunt) : exec (.blockLock l inv) s = .next s :=
  congrArg _ (if_neg hst)

/-- Invalid headers as counted. -/
def State.headersCounted (s : State) (l n : Nat) : State := (s.bump (LANE_HDR_ERR_CNT.COUNT l) n).lifeBump (328 + l) n

theorem State.get_headersCounted (s : State) (l n : Nat) (f : Rf) :
    (s.headersCounted l n).get f = (s.bump (LANE_HDR_ERR_CNT.COUNT l) n).get f := State.get_of_regs_eq rfl f

theorem State.laneSt_headersCounted (s : State) (l n : Nat) : (s.headersCounted l n).laneSt l = s.laneSt l :=
  (s.get_headersCounted l n _).trans (State.get_set_ne _ _ _ _
    (lane_ne (o := 0x4) (q := 0x20) (by decide) (by decide) (.inr (by decide))))

/-- A lane that holds block lock at work: LOCKED or UP. -/
theorem keeps_of_locked_or_up {st : Nat} (h : st = ln.locked ∨ st = ln.up) : ln.keeps st = true := by
  obtain rfl | rfl := h <;> decide

/-- Losing block lock is counted, and the lane hunts. -/
theorem State.laneSt_laneUnlock (s : State) {l : Nat} (hl : l < 32) : (s.laneUnlock l).laneSt l = ln.hunt :=
  State.laneSt_laneTo _ hl (by decide)

theorem State.laneSt_bump_lossCnt (s : State) (l : Nat) : (s.bump (LANE_LOCK_LOSS_CNT.COUNT l)).laneSt l = s.laneSt l :=
  State.get_set_ne _ _ _ _ (lane_ne (o := 0x4) (q := 0x28) (by decide) (by decide) (.inr (by decide)))

theorem State.laneUnlock_spec (s : State) {l : Nat} (hl : l < 32) (hold : ln.keeps (s.laneSt l) = true) :
    (s.laneUnlock l).get (LANE_LOCK_LOSS_CNT.COUNT l) = min (s.get (LANE_LOCK_LOSS_CNT.COUNT l) + 1) (2 ^ 32 - 1) ∧
    (s.laneUnlock l).get (LANE_HDR_ERR_CNT.COUNT l) = s.get (LANE_HDR_ERR_CNT.COUNT l) ∧
    (s.laneUnlock l).bit (PORT_STAT.UP (l / 4)) = false := by
  refine ⟨?_, ?_, ?_⟩
  · refine (State.get_of_rd_eq (f := LANE_LOCK_LOSS_CNT.COUNT l) (State.rd_laneTo _ (o := 0x28) ln.hunt hl (by decide)
      (.inr (by decide)))).trans ?_
    exact State.get_bump_same _ _ _ (by decide : 0 + 32 ≤ 32)
  · refine (State.get_of_rd_eq (f := LANE_HDR_ERR_CNT.COUNT l) (State.rd_laneTo _ (o := 0x20) ln.hunt hl (by decide)
      (.inr (by decide)))).trans ?_
    exact State.get_set_ne _ _ _ _ (lane_ne (o := 0x20) (q := 0x28) (by decide) (by decide) (.inr (by decide)))
  · exact State.bit_up_laneTo _ hl ((congrArg ln.keeps (s.laneSt_bump_lossCnt l)).trans hold) (by decide) (by decide)

theorem exec_blockLockLoss {bad : Word} (hst : s.laneSt l = ln.locked ∨ s.laneSt l = ln.up) : exec (.blockLockLoss l bad) s =
    .next ((s.headersCounted l bad.toNat).when (decide (16 ≤ bad.toNat)) (·.laneUnlock l)) := congrArg _ (if_pos hst)

theorem exec_blockLockLoss_lost {bad : Word} (hst : s.laneSt l = ln.locked ∨ s.laneSt l = ln.up) (hbad : 16 ≤ bad.toNat) :
    ∃ t, exec (.blockLockLoss l bad) s = .next t ∧ t.laneSt l = ln.hunt ∧
      t.get (LANE_LOCK_LOSS_CNT.COUNT l) = min (s.get (LANE_LOCK_LOSS_CNT.COUNT l) + 1) (2 ^ 32 - 1) ∧
      t.get (LANE_HDR_ERR_CNT.COUNT l) = min (s.get (LANE_HDR_ERR_CNT.COUNT l) + bad.toNat) (2 ^ 32 - 1) ∧
      t.bit (PORT_STAT.UP (l / 4)) = false := by
  obtain ⟨hloss, hhdr, hup⟩ := (s.headersCounted l bad.toNat).laneUnlock_spec l.isLt
    (keeps_of_locked_or_up (by rwa [State.laneSt_headersCounted]))
  refine ⟨_, (exec_blockLockLoss hst).trans (by rw [decide_eq_true hbad, State.when_true]), State.laneSt_laneUnlock _ l.isLt,
    ?_, ?_, hup⟩
  · rw [hloss, State.get_headersCounted, State.bump, State.get_set_ne _ _ _ _
      (lane_ne (j := l.val) (l := l.val) (o := 0x28) (q := 0x20) (by decide) (by decide) (.inr (by decide)))]
  · rw [hhdr, State.get_headersCounted]
    exact State.get_bump_same _ _ _ (by decide : 0 + 32 ≤ 32)

theorem exec_blockLockLoss_kept {bad : Word} (hst : s.laneSt l = ln.locked ∨ s.laneSt l = ln.up) (hbad : bad.toNat < 16) :
    ∃ t, exec (.blockLockLoss l bad) s = .next t ∧ t.laneSt l = s.laneSt l ∧ t = { s with regs := t.regs, life := t.life } :=
  ⟨_, (exec_blockLockLoss hst).trans (by rw [decide_eq_false (Nat.not_le.mpr hbad), State.when_false]),
    s.laneSt_headersCounted l bad.toNat, rfl⟩

/-! ## ALIVE (R294, R295, R297) -/

/-- What an ALIVE block tells of the partner, taken in with its distance to the port's earliest lane. -/
def State.partnerTold (s : State) (l : Nat) (w : BitVec 64) (behind : Nat) : State :=
  ((((s.set (LANE_PARTNER.DEV l) (w.extractLsb' 8 12).toNat).set (LANE_PARTNER.PORT l) (w.extractLsb' 20 3).toNat).set
    (LANE_PARTNER.LANE l) (w.extractLsb' 23 2).toNat).setBit (LANE_PARTNER.VALID l) true).modLane l
    fun k => { k with lastAlive := some s.tick, behind := behind }

theorem State.partnerTold_spec (s : State) (l : Nat) (w : BitVec 64) (behind : Nat) :
    let t := s.partnerTold l w behind
    t.get (LANE_PARTNER.DEV l) = (w.extractLsb' 8 12).toNat ∧ t.get (LANE_PARTNER.PORT l) = (w.extractLsb' 20 3).toNat ∧
    t.get (LANE_PARTNER.LANE l) = (w.extractLsb' 23 2).toNat ∧ t.bit (LANE_PARTNER.VALID l) = true := by
  refine ⟨?_, ?_, ?_, ?_⟩
  · have hw : 0 + 12 ≤ 32 := by decide
    rw [State.partnerTold, State.modLane_eq, State.get_setLane, State.setBit_eq,
      State.get_set_apart _ hw (.inr (.inr (by decide : 0 + 12 ≤ 31))),
      State.get_set_apart _ hw (.inr (.inr (by decide : 0 + 12 ≤ 20))),
      State.get_set_apart _ hw (.inr (.inr (by decide : 0 + 12 ≤ 16)))]
    exact State.get_set_of_lt _ hw (w.extractLsb' 8 12).isLt
  · have hw : 16 + 3 ≤ 32 := by decide
    rw [State.partnerTold, State.modLane_eq, State.get_setLane, State.setBit_eq,
      State.get_set_apart _ hw (.inr (.inr (by decide : 16 + 3 ≤ 31))),
      State.get_set_apart _ hw (.inr (.inr (by decide : 16 + 3 ≤ 20)))]
    exact State.get_set_of_lt _ hw (w.extractLsb' 20 3).isLt
  · have hw : 20 + 2 ≤ 32 := by decide
    rw [State.partnerTold, State.modLane_eq, State.get_setLane, State.setBit_eq,
      State.get_set_apart _ hw (.inr (.inr (by decide : 20 + 2 ≤ 31)))]
    exact State.get_set_of_lt _ hw (w.extractLsb' 23 2).isLt
  · exact (State.bit_setLane ..).trans (State.bit_setBit_same _ _ rfl (by decide : 31 < 32))

/-- A LOCKED lane told that it is seen comes UP, and may bring its port up. -/
theorem exec_aliveReceive {w : BitVec 64} {behind : BitVec 8} (hst : s.laneSt l = ln.locked) (htype : w.extractLsb' 0 8 = 0x33)
    (hseen : w.getLsbD 25 = true) : exec (.aliveReceive l w behind) s =
      .next (((s.partnerTold l w behind.toNat).laneTo l ln.up).portTry (l / 4) true) := by
  have hexec : exec (.aliveReceive l w behind) s = execAliveReceive l w behind s := rfl
  have htaken : ¬ ((s.laneSt l ≠ ln.locked ∧ s.laneSt l ≠ ln.up) ∨ w.extractLsb' 0 8 ≠ 0x33) := fun h =>
    h.elim (fun h => h.1 hst) (fun h => h htype)
  have hrise : (s.laneSt l == ln.locked && w.getLsbD 25) = true := by
    rw [hst, hseen]
    rfl
  rw [hexec, execAliveReceive, if_neg htaken]
  simp only [hrise, if_true]
  rfl

theorem exec_aliveReceive_spec {w : BitVec 64} {behind : BitVec 8} (hst : s.laneSt l = ln.locked) (htype : w.extractLsb' 0 8 = 0x33)
    (hseen : w.getLsbD 25 = true) : ∃ t, exec (.aliveReceive l w behind) s = .next t ∧ t.laneSt l = ln.up ∧
      t.get (LANE_PARTNER.DEV l) = (w.extractLsb' 8 12).toNat ∧ t.get (LANE_PARTNER.PORT l) = (w.extractLsb' 20 3).toNat ∧
      t.get (LANE_PARTNER.LANE l) = (w.extractLsb' 23 2).toNat ∧ t.bit (LANE_PARTNER.VALID l) = true := by
  have htry (o : Nat) (ho : o < 0x400) := State.rd_of_serialAt_eq
    (((s.partnerTold l w behind.toNat).laneTo l ln.up).serialAt_portTry 0 (laneReg_lane l.isLt ho) (l / 4) true)
  have hpartner := (htry 0x8 (by decide)).trans
    ((s.partnerTold l w behind.toNat).rd_laneTo (l := l) ln.up (i := l) l.isLt (by decide) (.inr (by decide)))
  obtain ⟨hdev, hport, hlane, hvalid⟩ := s.partnerTold_spec l w behind.toNat
  exact ⟨_, exec_aliveReceive hst htype hseen,
    (State.laneSt_of_rd_eq (htry 0x4 (by decide))).trans (State.laneSt_laneTo _ l.isLt (by decide)),
    (State.get_of_rd_eq (f := LANE_PARTNER.DEV l) hpartner).trans hdev,
    (State.get_of_rd_eq (f := LANE_PARTNER.PORT l) hpartner).trans hport,
    (State.get_of_rd_eq (f := LANE_PARTNER.LANE l) hpartner).trans hlane,
    (State.bit_of_rd_eq (f := LANE_PARTNER.VALID l) hpartner).trans hvalid⟩

theorem exec_aliveReceive_elsewhere (w : BitVec 64) (behind : BitVec 8) (hlocked : s.laneSt l ≠ ln.locked) (hup : s.laneSt l ≠ ln.up) :
    exec (.aliveReceive l w behind) s = .next s := if_pos (.inl ⟨hlocked, hup⟩)

/-- The ALIVE block of lane `l` of device `dev` (R294). -/
def aliveBlock (dev l : Nat) (seen : Bool) (seq : BitVec 16) : BitVec 64 :=
  BitVec.ofNat 64 (0x33 + dev * 2 ^ 8 + l / 4 * 2 ^ 20 + l % 4 * 2 ^ 23 + flagNat seen * 2 ^ 25 + seq.toNat * 2 ^ 32)

theorem aliveBlock_type (dev l : Nat) (seen : Bool) (seq : BitVec 16) : (aliveBlock dev l seen seq).extractLsb' 0 8 = 0x33 := by
  apply BitVec.eq_of_toNat_eq
  rw [BitVec.extractLsb'_toNat, aliveBlock, BitVec.toNat_ofNat, Nat.shiftRight_zero]
  change _ = 0x33
  omega

theorem aliveBlock_seen {dev l : Nat} (hdev : dev < 2 ^ 12) (hl : l < 32) (seen : Bool) (seq : BitVec 16) :
    (aliveBlock dev l seen seq).getLsbD 25 = seen := by
  have hport : l / 4 < 8 := by omega
  have hlane : l % 4 < 4 := Nat.mod_lt _ (by decide)
  rw [aliveBlock, BitVec.getLsbD_ofNat, Nat.testBit_eq_decide_div_mod_eq]
  generalize l / 4 = p at hport
  generalize l % 4 = w at hlane
  cases seen <;> simp [flagNat] <;> omega

/-- A LOCKED lane sends an ALIVE. -/
theorem exec_aliveSend (hst : s.laneSt l = ln.locked) : exec (.aliveSend l) s =
    .next ((s.setBit (LANE_STAT.SEEN l) (s.laneSeen l)).setLane l { s.lane l with
      seq := (s.lane l).seq + 1
      sent := aliveBlock ((s.setBit (LANE_STAT.SEEN l) (s.laneSeen l)).get MESH_CFG.ADDR) l (s.laneSeen l) (s.lane l).seq }) := by
  have hexec : exec (.aliveSend l) s = execAliveSend l s := rfl
  rw [hexec, execAliveSend]
  simp only [hst]
  exact if_neg (by simp [ln.locked, ln.off, ln.eidle, ln.loopback, ln.cdr])

theorem exec_aliveSend_spec (hst : s.laneSt l = ln.locked) : ∃ t, exec (.aliveSend l) s = .next t ∧
    (t.lane l).seq = (s.lane l).seq + 1 ∧ (t.lane l).sent.extractLsb' 0 8 = 0x33 ∧ (t.lane l).sent.getLsbD 25 = s.laneSeen l ∧
    s.fieldsOnly t [LANE_STAT.SEEN l] ∧ t = { s with regs := t.regs, lanes := t.lanes } := by
  refine ⟨_, exec_aliveSend hst, ?_, ?_, ?_, fun g hw hg => ?_, rfl⟩
  · rw [State.lane_setLane_same]
  · rw [State.lane_setLane_same, aliveBlock_type]
  · rw [State.lane_setLane_same]
    exact aliveBlock_seen (Nat.mod_lt _ (Nat.two_pow_pos 12)) l.isLt _ _
  · rw [State.get_setLane, State.setBit_eq, State.get_set_apart _ hw (hg _ (List.mem_singleton_self _))]

theorem exec_aliveSend_off (hst : s.laneSt l = ln.off) : exec (.aliveSend l) s = .next s := if_pos (.inl hst)

theorem exec_aliveTimeout (hst : s.laneSt l = ln.up) (hsince : s.since (s.lane l).lastAlive 27034 = true) :
    ∃ t, exec (.aliveTimeout l) s = .next t ∧ t.laneSt l = ln.locked ∧ t.bit (PORT_STAT.UP (l / 4)) = false := by
  have hdone : ¬ (!s.since (s.lane l).lastAlive aliveSpan) = true := by
    rw [aliveSpan, hsince]
    decide
  exact ⟨_, (if_neg hdone).trans (congrArg Host.Outcome.next (if_pos hst)), s.laneSt_laneTo l.isLt (by decide),
    s.bit_up_laneTo l.isLt (keeps_of_locked_or_up (.inr hst)) (by decide) (by decide)⟩

theorem exec_aliveTimeout_early (hsince : s.since (s.lane l).lastAlive 27034 = false) : exec (.aliveTimeout l) s = .next s := by
  have hearly : (!s.since (s.lane l).lastAlive aliveSpan) = true := congrArg not hsince
  exact if_pos hearly

/-! ## Absence and loss (R293, R298, R299) -/

/-- No standby twin mutes the fault of an absent partner. -/
theorem State.standbyMute_laneAbsent (s : State) : s.standbyMute Src.LANE_ABSENT = false := by
  have hlist : [Src.LM_LOW, Src.ORDER_SHORT, Src.LATE_BARGE, Src.LATE_DECISION, Src.UNDERRUN, Src.WINDOW_FORM].contains
      Src.LANE_ABSENT = false := by decide
  rw [State.standbyMute, hlist, Bool.and_false]

/-- A lane has given its partner up for absent; retries count from now. -/
def State.partnerAbsent (s : State) (l : Nat) : State :=
  ((s.laneTo l ln.absent).setLane l { (s.laneTo l ln.absent).lane l with absentTold := true, lastRetry := some s.tick }).setBit
    (LANE_STAT.ABSENT l) true

theorem State.tick_partnerAbsent (s : State) (l : Nat) : (s.partnerAbsent l).tick = s.tick := s.tick_laneTo l ln.absent

theorem State.laneSt_partnerAbsent (s : State) {l : Nat} (hl : l < 32) : (s.partnerAbsent l).laneSt l = ln.absent := by
  rw [State.partnerAbsent, State.laneSt, State.setBit_eq,
    State.get_set_apart _ (by decide : 0 + 4 ≤ 32) (.inr (.inr (by decide : 0 + 4 ≤ 9))), State.get_setLane]
  exact State.laneSt_laneTo _ hl (by decide)

theorem exec_partnerAbsentEntry (hst : s.laneSt l = ln.cdr ∨ s.laneSt l = ln.hunt ∨ s.laneSt l = ln.locked)
    (hsince : s.since (s.lane l).noUp 150000000 = true) (htold : (s.lane l).absentTold = false) :
    exec (.partnerAbsentEntry l) s = .next ((s.partnerAbsent l).raise Src.LANE_ABSENT (slot l)) := by
  have hexec : exec (.partnerAbsentEntry l) s = execPartnerAbsentEntry l s := rfl
  have hspan : s.since (s.lane l).noUp (10 * tenMs) = true := hsince
  have hgo : ¬ ((s.laneSt l ≠ ln.cdr ∧ s.laneSt l ≠ ln.hunt ∧ s.laneSt l ≠ ln.locked) ∨
      (!s.since (s.lane l).noUp (10 * tenMs)) = true) := by
    rw [hspan]
    rintro (⟨hcdr, hhunt, hlocked⟩ | h)
    · exact hst.elim hcdr fun h => h.elim hhunt hlocked
    · exact Bool.false_ne_true h
  have hfirst : ((s.laneTo l ln.absent).lane l).absentTold = false := by
    rw [State.lane_laneTo, Lane.moved, htold]
    rfl
  rw [hexec, execPartnerAbsentEntry, if_neg hgo]
  simp only [State.modLane_eq, State.tick_laneTo, hfirst, Bool.not_false, State.when_true, State.partnerAbsent]

theorem exec_partnerAbsentEntry_spec (hst : s.laneSt l = ln.cdr ∨ s.laneSt l = ln.hunt ∨ s.laneSt l = ln.locked)
    (hsince : s.since (s.lane l).noUp 150000000 = true) (htold : (s.lane l).absentTold = false) :
    ∃ t, exec (.partnerAbsentEntry l) s = .next t ∧ t.laneSt l = ln.absent ∧ t.bit (LANE_STAT.ABSENT l) = true ∧
      ({ src := Src.LANE_ABSENT, tick := s.tick, slots := slot l, injected := false } : FaultIn) ∈ t.raised := by
  have hstat := State.rd_of_serialAt_eq ((s.partnerAbsent l).serialAt_raise 0 (R.LANE_STAT l) Src.LANE_ABSENT (slot l))
  have hmem := State.mem_raised_raise (slot l) (s.partnerAbsent l).standbyMute_laneAbsent
  rw [State.tick_partnerAbsent] at hmem
  exact ⟨_, exec_partnerAbsentEntry hst hsince htold, (State.laneSt_of_rd_eq hstat).trans (s.laneSt_partnerAbsent l.isLt),
    (State.bit_of_rd_eq (f := LANE_STAT.ABSENT l) hstat).trans (State.bit_setBit_same _ _ rfl (by decide : 9 < 32)), hmem⟩

theorem exec_partnerAbsentEntry_early (hsince : s.since (s.lane l).noUp 150000000 = false) :
    exec (.partnerAbsentEntry l) s = .next s := by
  have hspan : (!s.since (s.lane l).noUp (10 * tenMs)) = true := congrArg not hsince
  exact if_pos (.inr hspan)

/-- A retry that meets the partner locks; one that does not is made again 10 ms later. -/
theorem exec_partnerRetry (hst : s.laneSt l = ln.absent) (hsince : s.since (s.lane l).lastRetry 15000000 = true) :
    (∃ t, exec (.partnerRetry l true) s = .next t ∧ t.laneSt l = ln.locked) ∧ exec (.partnerRetry l false) s =
      .next (s.setLane l { s.lane l with lastRetry := (s.lane l).lastRetry.map (· + 15000000) }) := by
  have hgo : ¬ (s.laneSt l ≠ ln.absent ∨ (!s.since (s.lane l).lastRetry tenMs) = true) := by
    rw [tenMs, hst, hsince]
    decide
  exact ⟨⟨_, if_neg hgo, (State.laneSt_setLane ..).trans (State.laneSt_laneTo _ l.isLt (by decide))⟩, if_neg hgo⟩

theorem exec_partnerRetry_elsewhere (gained : Bool) (h : s.laneSt l ≠ ln.absent ∨ s.since (s.lane l).lastRetry 15000000 = false) :
    exec (.partnerRetry l gained) s = .next s := by
  have hstop : s.laneSt l ≠ ln.absent ∨ (!s.since (s.lane l).lastRetry tenMs) = true := h.imp_right (congrArg not)
  exact if_pos hstop

theorem exec_laneLossTimeout (hst : s.laneSt l = ln.cdr ∨ s.laneSt l = ln.hunt ∨ s.laneSt l = ln.absent)
    (hsince : s.since (s.lane l).noLock 15000000 = true) (htold : (s.lane l).lostTold = false) : exec (.laneLossTimeout l) s =
      .next (((s.setLane l { s.lane l with lostTold := true }).setBit (LANE_STAT.LOST l) true).raise Src.LANE_LOST (slot l)) :=
  if_pos ⟨hst, hsince, congrArg not htold⟩

theorem exec_laneLossTimeout_told (htold : (s.lane l).lostTold = true) : exec (.laneLossTimeout l) s = .next s := by
  have hstop : (!(s.lane l).lostTold) = false := congrArg not htold
  exact if_neg fun h => Bool.false_ne_true (hstop.symm.trans h.2.2)

theorem exec_controlBlockReceive_unknown {type : BitVec 8} (hst : s.laneSt l = ln.locked ∨ s.laneSt l = ln.up)
    (htype : type.toNat ∉ [0x0F, 0x33, 0x3C, 0x55, 0x5A]) :
    exec (.controlBlockReceive l type) s = .next (s.bump (LANE_BLK_ERR_CNT.COUNT l)) := by
  refine congrArg _ (if_neg fun h => h.elim (fun hknown => htype (List.contains_iff_mem.mp hknown)) fun hidle => ?_)
  exact hst.elim hidle.1 hidle.2

theorem exec_controlBlockReceive_known {type : BitVec 8} (htype : type.toNat ∈ [0x0F, 0x33, 0x3C, 0x55, 0x5A]) :
    exec (.controlBlockReceive l type) s = .next s := congrArg _ (if_pos (.inl (List.contains_iff_mem.mpr htype)))

/-! ## Eye scan (R308) -/

/-- What a write of LANE_EYE_CTRL stores before GO starts a point. -/
def eyeWord (w old : Word) : Word := (w &&& 0xF7F3F) ||| (old &&& 0x80000000)

theorem eyeWord_dwell (w old : Word) : fieldOf (eyeWord w old) 16 4 = w.toNat / 2 ^ 16 % 16 := by
  have hfield (v : Word) : fieldOf v 16 4 = (v.extractLsb' 16 4).toNat := (BitVec.extractLsb'_toNat ..).symm
  have hmask : (0xF7F3F : Word).extractLsb' 16 4 = BitVec.allOnes 4 := by decide
  have hgo : (0x80000000 : Word).extractLsb' 16 4 = 0#4 := by decide
  rw [hfield, eyeWord, BitVec.extractLsb'_or, BitVec.extractLsb'_and, BitVec.extractLsb'_and, hmask, hgo, BitVec.and_allOnes,
    BitVec.and_zero, BitVec.or_zero, BitVec.extractLsb'_toNat, Nat.shiftRight_eq_div_pow]

/-- An eye point begins. -/
def State.eyeStarted (s : State) (l : Nat) (w : Word) : State :=
  (((s.wr (R.LANE_EYE_CTRL l) (eyeWord w (s.rd (R.LANE_EYE_CTRL l)))).wr (R.LANE_EYE_STAT l) 0).setBit (LANE_EYE_CTRL.GO l) true).modLane l
    fun k => { k with eye := some s.tick }

theorem exec_eyeScanGo {w : Word} (hgo : w.getLsbD 31 = true) (hfree : (s.lane l).eye = none) (hoff : s.laneSt l ≠ ln.off)
    (hidle : s.laneSt l ≠ ln.eidle) : exec (.eyeScanGo l w) s = .next (s.eyeStarted l w) := by
  have hexec : exec (.eyeScanGo l w) s = execEyeScanGo l w s := rfl
  have hst (u : Word) : ((s.wr (R.LANE_EYE_CTRL l) u).wr (R.LANE_EYE_STAT l) 0).laneSt l = s.laneSt l :=
    (State.get_wr_ne _ _ _ _ (lane_ne (o := 0x4) (q := 0x44) (by decide) (by decide) (.inr (by decide)))).trans
      (State.get_wr_ne _ _ _ _ (lane_ne (o := 0x4) (q := 0x40) (by decide) (by decide) (.inr (by decide))))
  rw [hexec, execEyeScanGo]
  simp only [hgo, State.lane_wr, hfree, hst, hoff, hidle, Option.isSome_none, Bool.not_true, Bool.or_self, Bool.false_eq_true,
    or_self, if_false]
  rfl

theorem eyeCtrl_ne_eyeStat (l : Nat) : R.LANE_EYE_CTRL l ≠ R.LANE_EYE_STAT l :=
  lane_ne (o := 0x40) (q := 0x44) (by decide) (by decide) (.inr (by decide))

theorem State.done_eyeStarted (s : State) (l : Nat) (w : Word) : (s.eyeStarted l w).bit (LANE_EYE_STAT.DONE l) = false := by
  rw [State.eyeStarted, State.modLane_eq, State.bit_setLane,
    State.bit_setBit_apart _ (by decide : 0 + 1 ≤ 32) (.inl (eyeCtrl_ne_eyeStat l)), State.bit, State.get,
    LANE_EYE_STAT.DONE, State.rd_wr_same]
  rfl

theorem State.dwell_eyeStarted (s : State) (l : Nat) (w : Word) :
    (s.eyeStarted l w).get (LANE_EYE_CTRL.DWELL l) = w.toNat / 2 ^ 16 % 16 := by
  rw [State.eyeStarted, State.modLane_eq, State.get_setLane, State.setBit_eq,
    State.get_set_apart _ (by decide : 16 + 4 ≤ 32) (.inr (.inr (by decide : 16 + 4 ≤ 31))),
    State.get_wr_ne _ _ _ _ (eyeCtrl_ne_eyeStat l), State.get, LANE_EYE_CTRL.DWELL, State.rd_wr_same, eyeWord_dwell]

theorem exec_eyeScanGo_spec {w : Word} (hgo : w.getLsbD 31 = true) (hfree : (s.lane l).eye = none) (hoff : s.laneSt l ≠ ln.off)
    (hidle : s.laneSt l ≠ ln.eidle) : ∃ t, exec (.eyeScanGo l w) s = .next t ∧ (t.lane l).eye = some s.tick ∧
      t.bit (LANE_EYE_CTRL.GO l) = true ∧ t.bit (LANE_EYE_STAT.DONE l) = false ∧
      t.get (LANE_EYE_CTRL.DWELL l) = w.toNat / 2 ^ 16 % 16 ∧ t = { s with regs := t.regs, lanes := t.lanes } := by
  refine ⟨_, exec_eyeScanGo hgo hfree hoff hidle, ?_, ?_, s.done_eyeStarted l w, s.dwell_eyeStarted l w, State.eq_of_exceptLanes_eq ?_⟩
  · rw [State.eyeStarted, State.modLane_eq, State.lane_setLane_same]
  · rw [State.eyeStarted, State.modLane_eq, State.bit_setLane]
    exact State.bit_setBit_same _ _ rfl (by decide : 31 < 32)
  · rw [State.eyeStarted, State.modLane_eq, State.exceptLanes_setLane, State.exceptLanes_setBit, State.exceptLanes_wr,
      State.exceptLanes_wr]

/-- Ticks of an eye point: settling, then its bits. -/
def State.eyeSpan (s : State) (l : Nat) : Nat := 256 + (2 ^ (s.get (LANE_EYE_CTRL.DWELL l) + 16) + 19) / 20

/-- An eye point is done. -/
def State.eyeEnded (s : State) (l : Nat) (errs : Word) : State :=
  (((s.setLane l { s.lane l with eye := none }).wr (R.LANE_EYE_ERR l) errs).setBit (LANE_EYE_STAT.DONE l) true).setBit
    (LANE_EYE_CTRL.GO l) false

theorem exec_eyeScanDone (errs : Word) (h : s.since (s.lane l).eye (s.eyeSpan l) = true) :
    exec (.eyeScanDone l errs) s = .next (s.eyeEnded l errs) := by
  have hgo : ¬ (!s.since (s.lane l).eye (s.eyeSpan l)) = true := by
    rw [h]
    decide
  exact if_neg hgo

theorem exec_eyeScanDone_early (errs : Word) (h : s.since (s.lane l).eye (s.eyeSpan l) = false) :
    exec (.eyeScanDone l errs) s = .next s := by
  have hstop : (!s.since (s.lane l).eye (s.eyeSpan l)) = true := congrArg not h
  exact if_pos hstop

theorem exec_eyeScanDone_spec (errs : Word) (h : s.since (s.lane l).eye (s.eyeSpan l) = true) :
    ∃ t, exec (.eyeScanDone l errs) s = .next t ∧ t.rd (R.LANE_EYE_ERR l) = errs ∧ t.bit (LANE_EYE_STAT.DONE l) = true ∧
      t.bit (LANE_EYE_CTRL.GO l) = false ∧ (t.lane l).eye = none ∧ t = { s with regs := t.regs, lanes := t.lanes } := by
  have herr {o : Nat} (ho : o < 0x800) (hne : 0x48 ≠ o) : R.LANE_EYE_ERR l ≠ R.lane l o := lane_ne (by decide) ho (.inr hne)
  refine ⟨_, exec_eyeScanDone errs h, ?_, ?_, State.bit_setBit_same _ _ rfl (by decide : 31 < 32), ?_, State.eq_of_exceptLanes_eq ?_⟩
  · refine (State.rd_set_ne _ _ _ (herr (o := 0x40) (by decide) (by decide))).trans ?_
    exact (State.rd_set_ne _ _ _ (herr (o := 0x44) (by decide) (by decide))).trans (State.rd_wr_same ..)
  · rw [State.eyeEnded, State.bit_setBit_apart _ (by decide : 0 + 1 ≤ 32) (.inl (eyeCtrl_ne_eyeStat l))]
    exact State.bit_setBit_same _ _ rfl (by decide : 0 < 32)
  · rw [State.eyeEnded, State.lane_setBit, State.lane_setBit, State.lane_wr, State.lane_setLane_same]
  · rw [State.eyeEnded, State.exceptLanes_setBit, State.exceptLanes_setBit, State.exceptLanes_wr, State.exceptLanes_setLane]

end

/-- Settles O39: each clause is the law of its command above. -/
theorem lanesTrainAndLoseLock : Obligations.LanesTrainAndLoseLock := by
  unfold Obligations.LanesTrainAndLoseLock
  intro s l tx rx inv gained v g w e bad errs blk behind type st k goesTo txeq span
  exact ⟨exec_laneEnableWrite_begin, exec_laneEnableWrite_off_off, exec_laneEnableWrite_disable, exec_laneRestart_off, exec_laneRestart,
    exec_laneLoopWrite_off, exec_laneLoopWrite_loops, exec_laneLoopWrite_none, exec_prbsWrite_rejected,
    exec_prbsWrite_loopback g, exec_txeqWrite_spec s l w, rfl, exec_cdrLock, exec_cdrLock_elsewhere, exec_blockLock_spec inv,
    exec_blockLock_elsewhere inv, exec_blockLockLoss_lost, exec_blockLockLoss_kept, exec_aliveReceive_spec,
    exec_aliveReceive_elsewhere blk behind, exec_aliveSend_spec, exec_aliveSend_off, exec_aliveTimeout, exec_aliveTimeout_early,
    exec_partnerAbsentEntry_spec, exec_partnerAbsentEntry_early, exec_partnerRetry, exec_partnerRetry_elsewhere gained,
    exec_laneLossTimeout, exec_laneLossTimeout_told, exec_controlBlockReceive_unknown, exec_controlBlockReceive_known,
    exec_eyeScanGo_spec, exec_eyeScanDone_spec errs, exec_eyeScanDone_early errs⟩

end Sys2Proof.Machine
end

section
/-! PROOF. Electrical idle: entry, keep-alive bursts, and the exit of a port's lanes (R303, R304). -/

namespace Sys2Proof.Machine

/-- Effects over a list reach `Q` at one of its elements, where the others keep what it needs and nothing undoes it. -/
theorem State.each_reaches {α : Type} {P Q : State → Prop} {e : State → α → State} {a : α} {l : List α} {s : State} (ha : a ∈ l)
    (hself : ∀ u, P u → Q (e u a)) (hkeep : ∀ u b, b ≠ a → P u → P (e u b)) (hdone : ∀ u b, Q u → Q (e u b)) (h : P s) :
    Q (s.each l e) := by
  induction l generalizing s with
  | nil => exact absurd ha List.not_mem_nil
  | cons b l ih =>
    by_cases hb : b = a
    · subst hb
      exact State.each_keeps (P := Q) l hdone (hself s h)
    · exact ih ((List.mem_cons.mp ha).resolve_left (Ne.symm hb)) (hkeep s b hb h)

section
variable {s : State} {l : Fin 32} {p : Fin 8}

/-! ## Entry (R303) -/

theorem exec_eidleRequest (h : l.val % 4 = 0) : exec (.eidleRequest l) s = .next (s.setBit (LANE_CTRL.EIDLE l) true) :=
  congrArg Host.Outcome.next (if_pos h)

theorem exec_eidleRequest_other (h : l.val % 4 ≠ 0) : exec (.eidleRequest l) s = .next s := congrArg Host.Outcome.next (if_neg h)

/-- Lane `l` enters electrical idle; its bursts count from now. -/
def State.laneIdled (s : State) (l : Nat) : State :=
  (s.laneTo l ln.eidle).modLane l fun k => { k with keepSent := some s.tick, keepSeen := some s.tick }

theorem State.laneSt_laneIdled (s : State) {l : Nat} (hl : l < 32) : (s.laneIdled l).laneSt l = ln.eidle :=
  (State.laneSt_setLane ..).trans (s.laneSt_laneTo hl (by decide))

theorem State.laneSt_laneIdled_ne (s : State) {j l : Nat} (hj : j < 32) (hne : j ≠ l) : (s.laneIdled l).laneSt j = s.laneSt j :=
  (State.laneSt_setLane ..).trans (s.laneSt_laneTo_ne _ hne hj)

/-- A lane in electrical idle is still so when any lane enters it. -/
theorem State.laneSt_laneIdled_kept {j l : Nat} (hj : j < 32) (h : s.laneSt j = ln.eidle) : (s.laneIdled l).laneSt j = ln.eidle := by
  by_cases hne : j = l
  · subst hne
    exact s.laneSt_laneIdled hj
  · exact (s.laneSt_laneIdled_ne hj hne).trans h

/-- A port in electrical idle: not UP, but EIDLE. -/
def State.portIdles (s : State) (p : Nat) : Prop := s.bit (PORT_STAT.UP p) = false ∧ s.bit (PORT_STAT.EIDLE p) = true

/-- The first lane takes the port along. -/
theorem State.portIdles_laneIdled {l p : Nat} (hl : l < 32) (hp : l / 4 = p) (hup : s.bit (PORT_STAT.UP p) = true) :
    (s.laneIdled l).portIdles p := by
  subst hp
  obtain ⟨hdown, hidle⟩ := s.portStat_laneTo_eidle hl hup
  exact ⟨(State.bit_setLane ..).trans hdown, (State.bit_setLane ..).trans hidle⟩

theorem State.portIdles_laneIdled_kept {l p : Nat} (hp : l / 4 = p) (h : s.portIdles p) : (s.laneIdled l).portIdles p := by
  subst hp
  have hrd := State.rd_portStat_laneTo_eidle (p := l / 4) h.1
  exact ⟨(State.bit_setLane ..).trans ((State.bit_of_rd_eq (f := PORT_STAT.UP (l / 4)) hrd).trans h.1),
    (State.bit_setLane ..).trans ((State.bit_of_rd_eq (f := PORT_STAT.EIDLE (l / 4)) hrd).trans h.2)⟩

/-- The four lanes of port `p` enter electrical idle, in order. -/
def State.portIdled (s : State) (p : Nat) : State := s.each (List.range 4) fun u w => u.laneIdled (4 * p + w)

theorem exec_eidleEntrySend (hask : s.bit (LANE_CTRL.EIDLE (4 * p)) = true) (hup : s.bit (PORT_STAT.UP p) = true)
    (hempty : s.portEmpty p = true) : exec (.eidleEntrySend p) s = .next (s.portIdled p) := by
  have hexec : exec (.eidleEntrySend p) s = execEidleEntrySend p s := rfl
  rw [hexec, execEidleEntrySend, hask, hup, hempty]
  rfl

theorem State.laneSt_portIdled (s : State) {p w : Nat} (hp : p < 8) (hw : w < 4) : (s.portIdled p).laneSt (4 * p + w) = ln.eidle :=
  State.each_reaches (P := fun _ => True) (Q := fun u => u.laneSt (4 * p + w) = ln.eidle) (List.mem_range.mpr hw)
    (fun u _ => u.laneSt_laneIdled (by omega)) (fun _ _ _ _ => trivial)
    (fun _ _ hu => State.laneSt_laneIdled_kept (by omega) hu) trivial

theorem State.portIdles_portIdled {p : Nat} (hp : p < 8) (hup : s.bit (PORT_STAT.UP p) = true) : (s.portIdled p).portIdles p := by
  have hfirst : (s.laneIdled (4 * p + 0)).portIdles p := State.portIdles_laneIdled (by omega) (by omega) hup
  have hrest : ∀ w ∈ [1, 2, 3], (4 * p + w) / 4 = p := fun w hw => by
    have : w < 4 := (by decide : ∀ w ∈ [1, 2, 3], w < 4) w hw
    omega
  have hsecond := State.portIdles_laneIdled_kept (hrest 1 (by decide)) hfirst
  have hthird := State.portIdles_laneIdled_kept (hrest 2 (by decide)) hsecond
  exact State.portIdles_laneIdled_kept (hrest 3 (by decide)) hthird

theorem exec_eidleEntrySend_spec (hask : s.bit (LANE_CTRL.EIDLE (4 * p)) = true) (hup : s.bit (PORT_STAT.UP p) = true)
    (hempty : s.portEmpty p = true) : ∃ t, exec (.eidleEntrySend p) s = .next t ∧ (∀ w, w < 4 → t.laneSt (4 * p + w) = ln.eidle) ∧
      t.bit (PORT_STAT.UP p) = false ∧ t.bit (PORT_STAT.EIDLE p) = true :=
  ⟨_, exec_eidleEntrySend hask hup hempty, fun _ hw => s.laneSt_portIdled p.isLt hw, State.portIdles_portIdled p.isLt hup⟩

theorem exec_eidleEntrySend_refused (h : s.bit (PORT_STAT.UP p) = false ∨ s.portEmpty p = false) :
    exec (.eidleEntrySend p) s = .next s := by
  refine if_pos ?_
  obtain h | h := h <;> simp only [h, Bool.not_false, Bool.or_true, Bool.true_or]

theorem exec_eidleEnterReceive_up (hst : s.laneSt l = ln.up) :
    ∃ t, exec (.eidleEnterReceive l) s = .next t ∧ t.laneSt l = ln.eidle :=
  ⟨s.laneIdled l, (if_pos hst : execEidleEnterReceive l s = _), s.laneSt_laneIdled l.isLt⟩

theorem exec_eidleEnterReceive_eidle (hst : s.laneSt l = ln.eidle) :
    exec (.eidleEnterReceive l) s = .next (s.setLane l { s.lane l with keepSeen := some s.tick }) := by
  have hup : s.laneSt l ≠ ln.up := by
    rw [hst]
    decide
  exact (if_neg hup).trans (if_pos hst)

theorem exec_eidleEnterReceive_elsewhere (hup : s.laneSt l ≠ ln.up) (hidle : s.laneSt l ≠ ln.eidle) :
    exec (.eidleEnterReceive l) s = .next s := (if_neg hup).trans (if_neg hidle)

/-! ## Keep-alive bursts (R304) -/

theorem exec_keepaliveSend (hst : s.laneSt l = ln.eidle) (hsince : s.since (s.lane l).keepSent 1500000 = true) :
    exec (.keepaliveSend l) s = .next (s.setLane l { s.lane l with keepSent := (s.lane l).keepSent.map (· + 1500000) }) :=
  congrArg Host.Outcome.next (if_pos ⟨hst, hsince⟩)

theorem exec_keepaliveSend_early (hsince : s.since (s.lane l).keepSent 1500000 = false) : exec (.keepaliveSend l) s = .next s :=
  congrArg Host.Outcome.next (if_neg fun h => Bool.false_ne_true (hsince.symm.trans h.2))

theorem exec_keepaliveTimeout (hst : s.laneSt l = ln.eidle) (hsince : s.since (s.lane l).keepSeen 6000000 = true) :
    ∃ t, exec (.keepaliveTimeout l) s = .next t ∧ t.laneSt l = ln.hunt :=
  ⟨_, congrArg Host.Outcome.next (if_pos ⟨hst, hsince⟩), s.laneSt_laneUnlock l.isLt⟩

theorem exec_keepaliveTimeout_early (hsince : s.since (s.lane l).keepSeen 6000000 = false) :
    exec (.keepaliveTimeout l) s = .next s :=
  congrArg Host.Outcome.next (if_neg fun h => Bool.false_ne_true (hsince.symm.trans h.2))

/-! ## Exit (R304) -/

/-- A lane in electrical idle starts its training burst. -/
def State.laneWoken (s : State) (l : Nat) : State :=
  s.when (s.laneSt l == ln.eidle) fun s => (s.laneTo l ln.exit).modLane l fun k => { k with exit := some s.tick }

theorem State.portWake_eq (s : State) (p : Nat) :
    s.portWake p = s.each ((List.range 4).map (fun w => 4 * p + w)) State.laneWoken := rfl

theorem State.laneWoken_idle {l : Nat} (h : s.laneSt l = ln.eidle) :
    s.laneWoken l = (s.laneTo l ln.exit).setLane l { (s.laneTo l ln.exit).lane l with exit := some s.tick } := by
  rw [State.laneWoken, h, beq_self_eq_true, State.when_true, State.modLane_eq]

theorem State.laneWoken_elsewhere {l : Nat} (h : s.laneSt l ≠ ln.eidle) : s.laneWoken l = s := by
  rw [State.laneWoken, beq_false_of_ne h, State.when_false]

/-- A lane wakes: the other lanes, the clock and LANE_CTRL stay. -/
theorem State.laneWoken_keeps (s : State) {j l : Nat} (hj : j < 32) (hne : j ≠ l) : (s.laneWoken l).laneSt j = s.laneSt j ∧
    (s.laneWoken l).lane j = s.lane j ∧ (s.laneWoken l).tick = s.tick := by
  by_cases h : s.laneSt l = ln.eidle
  · rw [State.laneWoken_idle h, State.laneSt_setLane, State.lane_setLane, if_neg hne, s.laneSt_laneTo_ne _ hne hj,
      s.lane_laneTo_ne _ hne, State.tick_setLane, State.tick_laneTo]
    exact ⟨rfl, rfl, rfl⟩
  · rw [State.laneWoken_elsewhere h]
    exact ⟨rfl, rfl, rfl⟩

theorem State.rd_laneCtrl_laneWoken (s : State) (l : Nat) {j : Nat} (hj : j < 32) :
    (s.laneWoken l).rd (R.LANE_CTRL j) = s.rd (R.LANE_CTRL j) := by
  by_cases h : s.laneSt l = ln.eidle
  · rw [State.laneWoken_idle h, State.rd_setLane, s.rd_laneCtrl_laneTo l _ hj]
  · rw [State.laneWoken_elsewhere h]

/-- Lane `l` has left electrical idle in tick `t`. -/
def State.laneExits (s : State) (l : Nat) (t : Tick) : Prop := s.laneSt l = ln.exit ∧ (s.lane l).exit = some t

theorem State.laneExits_laneWoken {l : Nat} (hl : l < 32) (h : s.laneSt l = ln.eidle) : (s.laneWoken l).laneExits l s.tick := by
  rw [State.laneWoken_idle h]
  refine ⟨(State.laneSt_setLane ..).trans (s.laneSt_laneTo hl (by decide)), ?_⟩
  rw [State.lane_setLane_same]

theorem State.laneExits_laneWoken_kept {j l : Nat} {t : Tick} (hj : j < 32) (h : s.laneExits j t) : (s.laneWoken l).laneExits j t := by
  by_cases hne : j = l
  · subst hne
    have hidle : s.laneSt j ≠ ln.eidle := by
      rw [h.1]
      decide
    rwa [State.laneWoken_elsewhere hidle]
  · obtain ⟨hst, hlane, -⟩ := s.laneWoken_keeps hj hne
    exact ⟨hst.trans h.1, (congrArg Lane.exit hlane).trans h.2⟩

theorem mem_portLanes {l p : Nat} (h : l / 4 = p) : l ∈ (List.range 4).map (fun w => 4 * p + w) :=
  List.mem_map.mpr ⟨l % 4, List.mem_range.mpr (Nat.mod_lt _ (by decide)), by omega⟩

/-- Every lane of a woken port that idled starts its burst. -/
theorem State.laneExits_portWake {l p : Nat} (hl : l < 32) (hp : l / 4 = p) (h : s.laneSt l = ln.eidle) :
    (s.portWake p).laneExits l s.tick := by
  rw [State.portWake_eq]
  refine State.each_reaches (P := fun u => u.laneSt l = ln.eidle ∧ u.tick = s.tick) (Q := fun u => u.laneExits l s.tick)
    (mem_portLanes hp) (fun u hu => ?_) (fun u j hne hu => ?_) (fun u j => State.laneExits_laneWoken_kept hl) ⟨h, rfl⟩
  · exact hu.2 ▸ State.laneExits_laneWoken hl hu.1
  · obtain ⟨hst, -, htick⟩ := u.laneWoken_keeps hl (Ne.symm hne)
    exact ⟨hst.trans hu.1, htick.trans hu.2⟩

theorem State.laneSt_portWake_kept {l p : Nat} (hl : l < 32) (h : s.laneSt l ≠ ln.eidle) : (s.portWake p).laneSt l = s.laneSt l := by
  rw [State.portWake_eq]
  refine State.each_keeps (P := fun u => u.laneSt l = s.laneSt l) _ (fun u j hu => ?_) rfl
  by_cases hne : l = j
  · subst hne
    rwa [State.laneWoken_elsewhere (hu ▸ h)]
  · exact (u.laneWoken_keeps hl hne).1.trans hu

theorem State.rd_laneCtrl_portWake (s : State) (p : Nat) {j : Nat} (hj : j < 32) :
    (s.portWake p).rd (R.LANE_CTRL j) = s.rd (R.LANE_CTRL j) := by
  rw [State.portWake_eq]
  exact State.each_same _ (·.rd (R.LANE_CTRL j)) fun u l => u.rd_laneCtrl_laneWoken l hj

theorem exec_partnerExit (hp : l.val / 4 = p.val) (hst : s.laneSt l = ln.eidle) :
    ∃ t, exec (.partnerExit p) s = .next t ∧ t.laneSt l = ln.exit :=
  ⟨_, rfl, (State.laneExits_portWake l.isLt hp hst).1⟩

theorem exec_partnerExit_other (hst : s.laneSt l ≠ ln.eidle) : ∃ t, exec (.partnerExit p) s = .next t ∧ t.laneSt l = s.laneSt l :=
  ⟨_, rfl, State.laneSt_portWake_kept l.isLt hst⟩

theorem exec_eidleExitRequest_clear (hp : l.val / 4 = p.val) (hst : s.laneSt l = ln.eidle) :
    ∃ t, exec (.eidleExitRequest p true) s = .next t ∧ t.laneSt l = ln.exit ∧ (t.lane l).exit = some s.tick ∧
      t.bit (LANE_CTRL.EIDLE (4 * p)) = false := by
  have hcleared : (s.setBit (LANE_CTRL.EIDLE (4 * p)) false).laneSt l = ln.eidle := (State.laneSt_set_laneCtrl _ _ _ rfl).trans hst
  obtain ⟨hexit, htick⟩ := State.laneExits_portWake l.isLt hp hcleared
  refine ⟨_, rfl, hexit, htick, ?_⟩
  refine (State.bit_of_rd_eq (f := LANE_CTRL.EIDLE (4 * p)) (State.rd_laneCtrl_portWake _ p (by omega))).trans ?_
  exact State.bit_setBit_same _ _ rfl (by decide : 3 < 32)

theorem State.laneSt_portTry (s : State) {l : Nat} (hl : l < 32) (p : Nat) (tell : Bool) : (s.portTry p tell).laneSt l = s.laneSt l :=
  State.laneSt_of_rd_eq (State.rd_of_serialAt_eq (s.serialAt_portTry 0 (laneReg_lane (o := 0x4) hl (by decide)) p tell))

theorem exec_eidleExitComplete (hst : s.laneSt l = ln.exit) (hsince : s.since (s.lane l).exit 192 = true) :
    (∃ t, exec (.eidleExitComplete l true) s = .next t ∧ t.laneSt l = ln.up) ∧
    ∃ t, exec (.eidleExitComplete l false) s = .next t ∧ t.laneSt l = ln.hunt := by
  have hdone : ¬ (s.laneSt l ≠ ln.exit ∨ (!s.since (s.lane l).exit 192) = true) := by
    rw [hst, hsince]
    decide
  exact ⟨⟨_, if_neg hdone, (State.laneSt_portTry _ l.isLt _ _).trans (s.laneSt_laneTo l.isLt (by decide))⟩,
    ⟨_, if_neg hdone, s.laneSt_laneUnlock l.isLt⟩⟩

theorem exec_eidleExitComplete_early (h : s.laneSt l ≠ ln.exit ∨ s.since (s.lane l).exit 192 = false) :
    exec (.eidleExitComplete l true) s = .next s := by
  have hstop : s.laneSt l ≠ ln.exit ∨ (!s.since (s.lane l).exit 192) = true := h.imp_right (congrArg not)
  exact if_pos hstop

end

/-- Settles O40: each clause is the law of its command above. -/
theorem lanesIdle : Obligations.LanesIdle := by
  unfold Obligations.LanesIdle
  intro s l p st k goesTo
  exact ⟨exec_eidleRequest, exec_eidleRequest_other, exec_eidleEntrySend_spec, exec_eidleEntrySend_refused, exec_eidleEnterReceive_up,
    exec_eidleEnterReceive_eidle, exec_eidleEnterReceive_elsewhere, exec_keepaliveSend, exec_keepaliveSend_early,
    exec_keepaliveTimeout, exec_keepaliveTimeout_early,
    fun hp hst => ⟨exec_partnerExit hp hst, exec_eidleExitRequest_clear hp hst⟩, fun _ => exec_partnerExit_other,
    exec_eidleExitComplete, exec_eidleExitComplete_early⟩

end Sys2Proof.Machine
end

section
/-! PROOF. Flit words, mesh ports and the six-bit fields of MESH_STAT: what an update of one leaves of the rest (R310, R313,
R317). -/

namespace Sys2Proof.Machine

/-! ## Flit words (R313, R314) -/

/-- Bit `i` of a word of which a run of bits was replaced. -/
theorem putBits_getLsbD (w : BitVec 64) (lo len v : Nat) {i : Nat} (h : i < 64) :
    (putBits w lo len v).getLsbD i = if lo ≤ i ∧ i < lo + len then v.testBit (i - lo) else w.getLsbD i := by
  have hmask : (BitVec.ofNat 64 ((2 ^ len - 1) <<< lo)).getLsbD i = decide (lo ≤ i ∧ i < lo + len) := by
    rw [BitVec.getLsbD_ofNat, Nat.testBit_shiftLeft, Nat.testBit_two_pow_sub_one, decide_eq_true h, Bool.true_and, Bool.decide_and]
    by_cases hlo : lo ≤ i
    · rw [decide_eq_true hlo, decide_eq_decide.mpr (Nat.sub_lt_iff_lt_add' hlo)]
    · rw [decide_eq_false hlo, Bool.false_and, Bool.false_and]
  simp only [putBits, BitVec.getLsbD_or, BitVec.getLsbD_and, BitVec.getLsbD_not, hmask, BitVec.getLsbD_ofNat, Nat.testBit_shiftLeft]
  by_cases hin : lo ≤ i ∧ i < lo + len
  · simp [h, hin]
  · simp [h, hin]

/-- A field that shares no bit with those replaced. -/
theorem extractLsb'_putBits_apart (w : BitVec 64) {lo len start n : Nat} (v : Nat) (hw : start + n ≤ 64)
    (h : lo + len ≤ start ∨ start + n ≤ lo) : (putBits w lo len v).extractLsb' start n = w.extractLsb' start n := by
  refine BitVec.eq_of_getLsbD_eq fun i hi => ?_
  rw [BitVec.getLsbD_extractLsb', BitVec.getLsbD_extractLsb', putBits_getLsbD _ _ _ _ (by omega), if_neg (by omega)]

theorem getLsbD_putBits_apart (w : BitVec 64) {lo len i : Nat} (v : Nat) (hi : i < 64) (h : i < lo ∨ lo + len ≤ i) :
    (putBits w lo len v).getLsbD i = w.getLsbD i := by
  rw [putBits_getLsbD _ _ _ _ hi, if_neg (by omega)]

/-- The field just replaced. -/
theorem extractLsb'_putBits_same (w : BitVec 64) {lo len : Nat} (v : Nat) (hw : lo + len ≤ 64) :
    (putBits w lo len v).extractLsb' lo len = BitVec.ofNat len v := by
  refine BitVec.eq_of_getLsbD_eq fun i hi => ?_
  rw [BitVec.getLsbD_extractLsb', putBits_getLsbD _ _ _ _ (by omega), if_pos (by omega), BitVec.getLsbD_ofNat,
    Nat.add_sub_cancel_left]

/-- A flit with one hop less to go. -/
def hopped (w : BitVec 64) : BitVec 64 := putBits w 20 5 (flit.ttl w - 1)

theorem dst_hopped (w : BitVec 64) : flit.dst (hopped w) = flit.dst w := extractLsb'_putBits_apart w _ (by decide) (by decide)

theorem ra_hopped (w : BitVec 64) : flit.ra (hopped w) = flit.ra w := getLsbD_putBits_apart w _ (by decide) (by decide)

theorem type_hopped (w : BitVec 64) : flit.type (hopped w) = flit.type w :=
  congrArg BitVec.toNat (extractLsb'_putBits_apart w _ (by decide) (by decide))

theorem ttl_hopped (w : BitVec 64) : flit.ttl (hopped w) = flit.ttl w - 1 := by
  have hlt : flit.ttl w < 32 := (w.extractLsb' 20 5).isLt
  refine (congrArg BitVec.toNat (extractLsb'_putBits_same w _ (by decide))).trans ?_
  rw [BitVec.toNat_ofNat]
  omega

/-- A flit with its route-around bit set to `ra` (R312). -/
def rerouted (w : BitVec 64) (ra : Bool) : BitVec 64 := putBits w 7 1 (flagNat ra)

theorem dst_rerouted (w : BitVec 64) (ra : Bool) : flit.dst (rerouted w ra) = flit.dst w :=
  extractLsb'_putBits_apart w _ (by decide) (by decide)

theorem type_rerouted (w : BitVec 64) (ra : Bool) : flit.type (rerouted w ra) = flit.type w :=
  congrArg BitVec.toNat (extractLsb'_putBits_apart w _ (by decide) (by decide))

theorem ttl_rerouted (w : BitVec 64) (ra : Bool) : flit.ttl (rerouted w ra) = flit.ttl w :=
  congrArg BitVec.toNat (extractLsb'_putBits_apart w _ (by decide) (by decide))

theorem ra_rerouted (w : BitVec 64) (ra : Bool) : flit.ra (rerouted w ra) = ra := by
  refine (putBits_getLsbD w 7 1 _ (by decide)).trans ((if_pos (by decide)).trans ?_)
  cases ra <;> rfl

/-! ## END of a decision (R314) -/

theorem endTick_low (t : Tick) (lo : BitVec 14) : (endTick t lo).toNat % 2 ^ 14 = lo.toNat := by
  have hlo := lo.isLt
  have ht := t.isLt
  rw [endTick, BitVec.toNat_sub, BitVec.toNat_ofNat]
  omega

theorem endTick_near (t : Tick) (lo : BitVec 14) : (t - endTick t lo).toNat < 2 ^ 14 := by
  have hlt : (t.toNat + 2 ^ 14 - lo.toNat) % 2 ^ 14 < 2 ^ 14 := Nat.mod_lt _ (by decide)
  rw [endTick, sub_sub_cancel, BitVec.toNat_ofNat]
  exact Nat.lt_of_le_of_lt (Nat.mod_le _ _) hlt

/-! ## Queues -/

section
variable {α : Type} (le : α → α → Bool) (x : α)

theorem mem_insertBy : ∀ l : List α, x ∈ insertBy le x l
  | [] => List.mem_singleton.mpr rfl
  | y :: l => by
    unfold insertBy
    split
    · exact List.mem_cons_of_mem _ (mem_insertBy l)
    · exact List.mem_cons_self

theorem length_insertBy : ∀ l : List α, (insertBy le x l).length = l.length + 1
  | [] => rfl
  | y :: l => by
    unfold insertBy
    split
    · exact congrArg (· + 1) (length_insertBy l)
    · rfl

end

/-! ## Ports -/

section
variable {s t : State}

theorem State.meshPort_of_meshPorts_eq (h : t.meshPorts = s.meshPorts) (j : Nat) : t.meshPort j = s.meshPort j := by
  rw [State.meshPort, h, State.meshPort]

theorem State.meshPort_setMeshPort_same (s : State) (p : Nat) (q : MeshPort) : (s.setMeshPort p q).meshPort p = q := by
  rw [State.meshPort_setMeshPort, if_pos rfl]

theorem State.othersSame_setMeshPort {p : Nat} (h : s.othersSame t State.meshPort p) (q : MeshPort) :
    s.othersSame (t.setMeshPort p q) State.meshPort p :=
  fun j hj => by rw [State.meshPort_setMeshPort, if_neg hj, h j hj]

/-- The state without registers and mesh ports. -/
def State.exceptPorts (s : State) : State := { s with regs := [], meshPorts := [] }

theorem State.eq_of_exceptPorts_eq (h : t.exceptPorts = s.exceptPorts) : t = { s with regs := t.regs, meshPorts := t.meshPorts } :=
  congrArg (fun u : State => { u with regs := t.regs, meshPorts := t.meshPorts }) h

theorem State.exceptPorts_set (s : State) (f : Rf) (v : Nat) : (s.set f v).exceptPorts = s.exceptPorts := rfl

theorem State.exceptPorts_setMeshPort (s : State) (p : Nat) (q : MeshPort) : (s.setMeshPort p q).exceptPorts = s.exceptPorts := rfl

theorem State.exceptPorts_showQueue (s : State) (p : Nat) : (s.showQueue p).exceptPorts = s.exceptPorts := by
  rw [State.showQueue, State.exceptPorts_set, State.exceptPorts_set]

theorem State.meshPorts_showQueue (s : State) (p : Nat) : (s.showQueue p).meshPorts = s.meshPorts := by
  simp only [State.showQueue, State.set_frame]

/-- A port takes a new content, and MESH_PQ shows its queue: the other ports and registers stay. -/
theorem State.setMeshPort_showQueue_spec (s : State) (p : Nat) (q : MeshPort) :
    let t := (s.setMeshPort p q).showQueue p
    t.meshPort p = q ∧ s.othersSame t State.meshPort p ∧ s.fieldsOnly t [MESH_PQ.OCC p, MESH_PQ.MAX p] ∧
      t = { s with regs := t.regs, meshPorts := t.meshPorts } := by
  have hports := (s.setMeshPort p q).meshPorts_showQueue p
  have hfields : s.fieldsOnly (s.setMeshPort p q) [MESH_PQ.OCC p, MESH_PQ.MAX p] := State.fieldsOnly_of_regs_eq rfl _
  refine ⟨(State.meshPort_of_meshPorts_eq hports p).trans (s.meshPort_setMeshPort_same p q), fun j hj => ?_,
    (hfields.set (.head _) _).set (.tail _ (.head _)) _,
    State.eq_of_exceptPorts_eq ((State.exceptPorts_showQueue ..).trans (s.exceptPorts_setMeshPort p q))⟩
  rw [State.meshPort_of_meshPorts_eq hports, State.meshPort_setMeshPort, if_neg hj]

/-! ## The six-bit fields of MESH_STAT (R310) -/

/-- One bit of a six-bit field set or cleared. -/
theorem State.testBit_get_meshBit (s : State) {f : Rf} (hlen : f.len = 6) (hlo : f.lo + 6 ≤ 32) {p : Nat} (hp : p < 6) (b : Bool)
    (j : Nat) : ((s.meshBit f p b).get f).testBit j = if j = p then b else (s.get f).testBit j := by
  have hlt : s.get f < 2 ^ 6 := hlen ▸ Nat.mod_lt _ (Nat.two_pow_pos _)
  have hset : (s.meshBit f p b).get f = (if b then s.get f ||| 2 ^ p else s.get f &&& (0x3F - 2 ^ p)) % 2 ^ 6 := by
    rw [State.meshBit, State.get_set_same _ _ _ (by omega), hlen]
  have hhigh : ¬ j < 6 → (s.get f).testBit j = false := fun hj =>
    Nat.testBit_lt_two_pow (Nat.lt_of_lt_of_le hlt (Nat.pow_le_pow_right (by decide) (Nat.le_of_not_lt hj)))
  have hmask : (0x3F - 2 ^ p).testBit j = (decide (j < 6) && !decide (p = j)) := by
    have hsucc : 0x3F - 2 ^ p = 2 ^ 6 - (2 ^ p + 1) := by omega
    rw [hsucc, Nat.testBit_two_pow_sub_succ (Nat.pow_lt_pow_right (by decide) hp), Nat.testBit_two_pow]
  rw [hset, Nat.testBit_mod_two_pow]
  by_cases hj : j = p
  · subst hj
    cases b <;> simp [hp, hmask]
  · have hne : p ≠ j := Ne.symm hj
    by_cases hj6 : j < 6
    · cases b <;> simp [hj, hne, hj6, hmask]
    · simp [hj, hj6, hhigh hj6]

end

end Sys2Proof.Machine
end

section
/-! PROOF. Flits sent, received and forwarded, and a port that enters use (R310 to R317, R323). -/

namespace Sys2Proof.Machine

section
variable {s : State} {p : Fin 6} {w : BitVec 64}

/-! ## Sending (R313, R317) -/

theorem State.groupFlits_none (h : s.flitsOut = []) : s.groupFlits = s := by
  have hsame : { s with flitsOut := [] } = s := by rw [← h]
  unfold State.groupFlits
  simp only [h, List.filter_nil, hsame, State.each_nil, ite_self]

/-- A port that has sent, or carries nothing, starts no flit. -/
theorem State.meshStops_eq (s : State) (p : Nat) (busy : Bool) :
    (busy || !s.meshUse p || !s.bit (PORT_STAT.UP p) || s.bit (PORT_STAT.EIDLE p)) = (busy || !s.meshCarries p) := by
  unfold State.meshCarries
  cases s.meshUse p <;> cases s.bit (PORT_STAT.UP p) <;> simp

/-- A port that has started no flit in this tick starts the first of its queue. -/
theorem exec_flitSend {f : Flit} {rest : List Flit} (hout : s.flitsOut = []) (hcarries : s.meshCarries p = true)
    (hqueue : (s.meshPort p).queue = f :: rest) (hjoined : Tick.before f.joined s.tick = true)
    (hfree : ∀ x, (s.meshPort p).lastSent = some x → x.1 ≠ s.tick) : exec (.flitSend p) s = .next ((s.setMeshPort p
      { s.meshPort p with queue := rest, lastSent := some (s.tick, putBits f.word 4 3 (s.tick.toNat % 8)) }).showQueue p) := by
  have hexec : exec (.flitSend p) s = execFlitSend p s := rfl
  have htake := takeFirst_head (p := fun g : Flit => Tick.before g.joined s.tick) rest hjoined
  rw [hexec, execFlitSend, State.groupFlits_none hout]
  simp only [State.meshStops_eq, hcarries, Bool.not_true, Bool.or_false, hqueue, htake]
  cases hlast : (s.meshPort p).lastSent with
  | none => rfl
  | some x => exact if_neg (mt beq_iff_eq.mp (hfree x hlast))

theorem exec_flitSend_spec {f : Flit} {rest : List Flit} (hout : s.flitsOut = []) (hcarries : s.meshCarries p = true)
    (hqueue : (s.meshPort p).queue = f :: rest) (hjoined : Tick.before f.joined s.tick = true)
    (hfree : ∀ x, (s.meshPort p).lastSent = some x → x.1 ≠ s.tick) : ∃ t, exec (.flitSend p) s = .next t ∧
      t.meshPort p =
        { s.meshPort p with queue := rest, lastSent := some (s.tick, putBits f.word 4 3 (s.tick.toNat % 8)) } ∧
      s.othersSame t State.meshPort p ∧ s.fieldsOnly t [MESH_PQ.OCC p, MESH_PQ.MAX p] ∧
      t = { s with regs := t.regs, meshPorts := t.meshPorts } :=
  ⟨_, exec_flitSend hout hcarries hqueue hjoined hfree, s.setMeshPort_showQueue_spec p _⟩

theorem exec_flitSend_idle (hout : s.flitsOut = []) (h : s.meshCarries p = false ∨ (s.meshPort p).queue = []) :
    exec (.flitSend p) s = .next s := by
  have hexec : exec (.flitSend p) s = execFlitSend p s := rfl
  rw [hexec, execFlitSend, State.groupFlits_none hout]
  obtain h | h := h
  · simp only [State.meshStops_eq, h, Bool.not_false, Bool.or_true, if_true]
  · simp only [h, takeFirst, ite_self]

/-! ## Receiving (R310, R313, R314, R316) -/

/-- Port `p` takes flits: UP, and past the topology check (R310). -/
def State.meshTakes (s : State) (p : Nat) : Prop :=
  s.bit (PORT_STAT.UP p) = true ∧ (s.meshUse p = true ∨ (s.get MESH_STAT.HOLD).testBit p = true)

theorem State.meshTakes_iff {p : Nat} :
    s.meshTakes p ↔ ¬ (!s.bit (PORT_STAT.UP p) || !(s.meshUse p || (s.get MESH_STAT.HOLD).testBit p)) = true := by
  unfold State.meshTakes
  cases s.bit (PORT_STAT.UP p) <;> cases s.meshUse p <;> simp

/-- A flit arrives at its fixed tick (R316). -/
def State.meshOnTime (s : State) (w : BitVec 64) : Prop := (s.tick - 26).toNat % 8 = (w.extractLsb' 4 3).toNat

theorem exec_decisionFlitReceive_refused (h : ¬ s.meshTakes p) : exec (.decisionFlitReceive p w) s = .next s :=
  if_pos (not_not.mp (mt State.meshTakes_iff.mpr h))

theorem exec_decisionFlitReceive_reserved (h : s.meshTakes p) (htype : flit.type w = 0 ∨ 8 ≤ flit.type w) :
    exec (.decisionFlitReceive p w) s = .next (s.bump MESH_BAD_CNT.COUNT) :=
  (if_neg (State.meshTakes_iff.mp h)).trans (if_pos htype)

/-- What the decision flit `w` says, delivered in tick `t` (R314). -/
def flitDecision (w : BitVec 64) (t : Tick) : Decision :=
  { dev := w.extractLsb' 25 12, remote := true, src := w.extractLsb' 37 8, state := w.extractLsb' 45 2, valid := w.getLsbD 47,
    kern := w.getLsbD 49, status := if w.getLsbD 48 then 0x80 else 0, endTick := endTick t (w.extractLsb' 50 14), byDec := false }

/-- A hop changes nothing of what a decision flit says. -/
theorem flitDecision_hopped (w : BitVec 64) (t : Tick) : flitDecision (hopped w) t = flitDecision w t := by
  have hfield {start n : Nat} (hw : start + n ≤ 64) (h : 25 ≤ start) : (hopped w).extractLsb' start n = w.extractLsb' start n :=
    extractLsb'_putBits_apart w _ hw (.inl h)
  have hbit {i : Nat} (hi : i < 64) (h : 25 ≤ i) : (hopped w).getLsbD i = w.getLsbD i := getLsbD_putBits_apart w _ hi (.inr h)
  simp only [flitDecision, hfield (show 25 + 12 ≤ 64 by decide) (by decide), hfield (show 37 + 8 ≤ 64 by decide) (by decide),
    hfield (show 45 + 2 ≤ 64 by decide) (by decide), hfield (show 50 + 14 ≤ 64 by decide) (by decide),
    hbit (show 47 < 64 by decide) (by decide), hbit (show 48 < 64 by decide) (by decide), hbit (show 49 < 64 by decide) (by decide)]

/-- A decision for this device enters the crossbar's slot for the port. -/
def State.decisionServed (s : State) (w : BitVec 64) : XbarItem :=
  { dec := flitDecision w (s.tick + 3), ready := s.tick, entry := s.tick, deliver := s.tick + 3 }

/-- Where a decision goes from this device. -/
def State.decisionTaken (s : State) (p : Nat) (w : BitVec 64) : State :=
  if flit.dst w = s.meshAddr then { s with xbarServed := s.xbarServed ++ [s.decisionServed w] }
  else if flit.ttl w = 0 then s.meshUnreach
  else s.meshForward w (some p) s.tick

theorem exec_decisionFlitReceive_decision (h : s.meshTakes p) (htype : flit.type w = 1) :
    exec (.decisionFlitReceive p w) s = .next ((s.meshArrive p w).decisionTaken p (hopped w)) := by
  have hexec : exec (.decisionFlitReceive p w) s = execDecisionFlitReceive p w s := rfl
  have hkind : ¬ (flit.type w = 0 ∨ 8 ≤ flit.type w) := by omega
  rw [hexec, execDecisionFlitReceive, if_neg (State.meshTakes_iff.mp h), if_neg hkind, if_neg (not_not.mpr htype),
    State.decisionTaken, ttl_hopped, apply_ite Host.Outcome.next, apply_ite Host.Outcome.next]
  rfl

theorem State.meshArrive_onTime {p : Nat} (h : s.meshOnTime w) : s.meshArrive p w = s := if_pos h

theorem exec_decisionFlitReceive_delivered (h : s.meshTakes p) (htype : flit.type w = 1) (htime : s.meshOnTime w)
    (hdst : flit.dst w = s.meshAddr) : ∃ t x, exec (.decisionFlitReceive p w) s = .next t ∧
      t = { s with xbarServed := s.xbarServed ++ [x] } ∧ x.deliver = s.tick + 3 ∧ x.dec.dev = w.extractLsb' 25 12 ∧
      x.dec.remote = true ∧ x.dec.src = w.extractLsb' 37 8 ∧ x.dec.state = w.extractLsb' 45 2 ∧ x.dec.valid = w.getLsbD 47 ∧
      x.dec.kern = w.getLsbD 49 ∧ x.dec.endTick.toNat % 2 ^ 14 = (w.extractLsb' 50 14).toNat ∧
      (x.deliver - x.dec.endTick).toNat < 2 ^ 14 := by
  have hexec := exec_decisionFlitReceive_decision h htype
  rw [State.meshArrive_onTime htime, State.decisionTaken, dst_hopped, if_pos hdst, State.decisionServed, flitDecision_hopped]
    at hexec
  exact ⟨_, s.decisionServed w, hexec, rfl, rfl, rfl, rfl, rfl, rfl, rfl, rfl, endTick_low _ _, endTick_near _ _⟩

theorem exec_decisionFlitReceive_unreach (h : s.meshTakes p) (htype : flit.type w = 1) (htime : s.meshOnTime w)
    (hdst : flit.dst w ≠ s.meshAddr) (httl : flit.ttl w ≤ 1) :
    exec (.decisionFlitReceive p w) s = .next ((s.bump MESH_UNREACH_CNT.COUNT).raise Src.MESH_UNREACH []) := by
  have hlast : flit.ttl (hopped w) = 0 := by
    rw [ttl_hopped]
    omega
  rw [exec_decisionFlitReceive_decision h htype, State.meshArrive_onTime htime, State.decisionTaken, dst_hopped, if_neg hdst,
    if_pos hlast, State.meshUnreach]

/-! ### Late arrivals (R316) -/

theorem State.standbyMute_meshHopLate (s : State) : s.standbyMute Src.MESH_HOP_LATE = false := by
  have hlist : [Src.LM_LOW, Src.ORDER_SHORT, Src.LATE_BARGE, Src.LATE_DECISION, Src.UNDERRUN, Src.WINDOW_FORM].contains
      Src.MESH_HOP_LATE = false := by decide
  rw [State.standbyMute, hlist, Bool.and_false]

/-- The first late arrival at a port is counted and told. -/
theorem State.meshArrive_late {p : Nat} (h : ¬ s.meshOnTime w) (htold : (s.meshPort p).lateTold = false) : s.meshArrive p w =
    ((s.bump (MESH_PLATE_CNT.COUNT p)).raise Src.MESH_HOP_LATE []).modMeshPort p fun q => { q with lateTold := true } := by
  refine (if_neg h).trans ?_
  rw [htold, Bool.not_false, State.when_true]

theorem State.meshArrive_late_spec {p : Nat} (h : ¬ s.meshOnTime w) (htold : (s.meshPort p).lateTold = false) :
    let t := s.meshArrive p w
    t.get (MESH_PLATE_CNT.COUNT p) = min (s.get (MESH_PLATE_CNT.COUNT p) + 1) (2 ^ 32 - 1) ∧
    ({ src := Src.MESH_HOP_LATE, tick := s.tick, slots := [], injected := false } : FaultIn) ∈ t.raised ∧
    t.xbarServed = s.xbarServed ∧ (t.meshPort p).lateTold = true ∧ t.meshAddr = s.meshAddr := by
  let u := s.bump (MESH_PLATE_CNT.COUNT p)
  have hmute := u.standbyMute_meshHopLate
  have haddr : MESH_CFG.ADDR.addr ≠ (MESH_PLATE_CNT.COUNT p).addr := by
    simp only [MESH_CFG.ADDR, R.MESH_CFG, MESH_PLATE_CNT.COUNT, R.MESH_PLATE_CNT]
    omega
  have hkept : u.get MESH_CFG.ADDR = s.get MESH_CFG.ADDR := s.get_set_ne _ _ _ haddr
  intro t
  have ht : t = (u.setRaised _).modMeshPort p _ :=
    (State.meshArrive_late h htold).trans (congrArg (State.modMeshPort · p _) (u.raise_unmuted [] hmute))
  have hregs : t.regs = u.regs := by rw [ht]; rfl
  refine ⟨?_, ?_, by rw [ht]; rfl, ?_, ?_⟩
  · rw [State.get_of_regs_eq hregs]
    exact s.get_bump_same _ _ (by decide : 0 + 32 ≤ 32)
  · rw [ht]
    exact List.mem_append_right _ (List.mem_singleton.mpr rfl)
  · rw [ht, State.modMeshPort_eq, State.meshPort_setMeshPort_same]
  · rw [State.meshAddr, State.get_of_regs_eq hregs, hkept, State.meshAddr]

theorem exec_decisionFlitReceive_late (h : s.meshTakes p) (htype : flit.type w = 1) (htime : ¬ s.meshOnTime w)
    (hdst : flit.dst w = s.meshAddr) (htold : (s.meshPort p).lateTold = false) : ∃ t,
      exec (.decisionFlitReceive p w) s = .next t ∧
      t.get (MESH_PLATE_CNT.COUNT p) = min (s.get (MESH_PLATE_CNT.COUNT p) + 1) (2 ^ 32 - 1) ∧
      ({ src := Src.MESH_HOP_LATE, tick := s.tick, slots := [], injected := false } : FaultIn) ∈ t.raised ∧
      t.xbarServed.length = s.xbarServed.length + 1 ∧ (t.meshPort p).lateTold = true := by
  obtain ⟨hcount, hraised, hserved, htoldNow, haddr⟩ := State.meshArrive_late_spec htime htold
  have hexec := exec_decisionFlitReceive_decision h htype
  rw [State.decisionTaken, dst_hopped, haddr, if_pos hdst] at hexec
  refine ⟨_, hexec, hcount, hraised, ?_, htoldNow⟩
  rw [hserved]
  exact List.length_append

/-! ### Forwarding (R311, R312, R317) -/

/-- A flit joins a queue with room. -/
theorem State.meshJoin_room {p : Nat} (f : Flit) (h : (s.meshPort p).queue.length < 64) :
    s.meshJoin p f = (s.setMeshPort p { s.meshPort p with
      queue := insertBy Flit.le f (s.meshPort p).queue, dropRun := (s.meshPort p).dropRun && !f.second }).showQueue p := by
  have hroom : ¬ (f.second = true ∧ 64 < (insertBy Flit.le f (s.meshPort p).queue).length) := by
    rw [length_insertBy]
    omega
  exact if_neg hroom

/-- The decision flit `w`, come in on port `p`, as it joins the queue of the port its route selects. -/
def State.forwarded (s : State) (p : Nat) (w : BitVec 64) (ra : Bool) : Flit :=
  { word := rerouted (hopped w) ra, joined := s.tick, origin := p }

theorem exec_decisionFlitReceive_forwarded {o : Fin 6} {ra : Bool} (h : s.meshTakes p) (htype : flit.type w = 1)
    (htime : s.meshOnTime w) (hdst : flit.dst w ≠ s.meshAddr) (httl : 2 ≤ flit.ttl w)
    (hroute : s.meshRoute (flit.dst w) (flit.ra w) (some p) = some (o.val, ra)) (hroom : (s.meshPort o).queue.length < 64) :
    ∃ t x, exec (.decisionFlitReceive p w) s = .next t ∧ x ∈ (t.meshPort o).queue ∧
      (t.meshPort o).queue.length = (s.meshPort o).queue.length + 1 ∧ x.joined = s.tick ∧ x.origin = p.val ∧
      flit.type x.word = 1 ∧ flit.dst x.word = flit.dst w ∧ flit.ttl x.word = flit.ttl w - 1 ∧ flit.ra x.word = ra ∧
      s.othersSame t State.meshPort o ∧ s.fieldsOnly t [MESH_PQ.OCC o, MESH_PQ.MAX o] ∧
      t = { s with regs := t.regs, meshPorts := t.meshPorts } := by
  have hleft : flit.ttl (hopped w) ≠ 0 := by
    rw [ttl_hopped]
    omega
  have hexec := exec_decisionFlitReceive_decision h htype
  rw [State.meshArrive_onTime htime, State.decisionTaken, dst_hopped, if_neg hdst, if_neg hleft, State.meshForward, dst_hopped,
    ra_hopped, hroute] at hexec
  have hjoin := State.meshJoin_room (s.forwarded p w ra) hroom
  obtain ⟨hport, hothers, hfields, hframe⟩ := s.setMeshPort_showQueue_spec o { s.meshPort o with
    queue := insertBy Flit.le (s.forwarded p w ra) (s.meshPort o).queue,
    dropRun := (s.meshPort o).dropRun && !(s.forwarded p w ra).second }
  refine ⟨_, s.forwarded p w ra, hexec.trans (congrArg Host.Outcome.next hjoin), ?_, ?_, rfl, rfl,
    (type_rerouted _ ra).trans ((type_hopped w).trans htype), (dst_rerouted _ ra).trans (dst_hopped w),
    (ttl_rerouted _ ra).trans (ttl_hopped w), ra_rerouted _ ra, hothers, hfields, hframe⟩
  · rw [hport]
    exact mem_insertBy ..
  · rw [hport]
    exact length_insertBy ..

/-! ## A port enters use (R323) -/

/-- The hold of port `p` ends. -/
def State.holdEnded (s : State) (p : Nat) : State :=
  ((s.meshBit MESH_STAT.HOLD p false).meshBit MESH_STAT.USE p true).setMeshPort p { s.meshPort p with holdFrom := none }

theorem exec_portHoldExpiry {u : Tick} (hfrom : (s.meshPort p).holdFrom = some u)
    (hrun : ((Nat.max 1 (s.get MESH_HOLD.US) * 1500 : Nat) : Int) ≤ Tick.diff u s.tick) :
    exec (.portHoldExpiry p) s = .next (s.holdEnded p) := by
  have hexec : exec (.portHoldExpiry p) s = execPortHoldExpiry p s := rfl
  rw [hexec, execPortHoldExpiry, hfrom]
  exact if_neg (Int.not_lt.mpr hrun)

theorem State.holdEnded_spec (s : State) {p : Nat} (hp : p < 6) :
    let t := s.holdEnded p
    t.meshUse p = true ∧ (t.get MESH_STAT.HOLD).testBit p = false ∧ (∀ j, j ≠ p → t.meshUse j = s.meshUse j) ∧
      t.meshPort p = { s.meshPort p with holdFrom := none } ∧ s.othersSame t State.meshPort p ∧
      s.fieldsOnly t [MESH_STAT.USE, MESH_STAT.HOLD] ∧ t = { s with regs := t.regs, meshPorts := t.meshPorts } := by
  intro t
  let u := s.meshBit MESH_STAT.HOLD p false
  have hregs : t.regs = (u.meshBit MESH_STAT.USE p true).regs := rfl
  have huse (j : Nat) : t.meshUse j = if j = p then true else s.meshUse j := by
    have hkept : u.get MESH_STAT.USE = s.get MESH_STAT.USE := State.get_set_apart _ (by decide) (.inr (.inr (by decide)))
    rw [State.meshUse, State.get_of_regs_eq hregs, u.testBit_get_meshBit rfl (by decide) hp, hkept, State.meshUse]
  have hhold : t.get MESH_STAT.HOLD = u.get MESH_STAT.HOLD :=
    (State.get_of_regs_eq hregs _).trans (State.get_set_apart _ (by decide) (.inr (.inl (by decide))))
  have hfields : s.fieldsOnly s [MESH_STAT.USE, MESH_STAT.HOLD] := State.fieldsOnly_of_regs_eq rfl _
  have hframe : t.exceptPorts = s.exceptPorts :=
    (State.exceptPorts_setMeshPort ..).trans ((State.exceptPorts_set ..).trans (State.exceptPorts_set ..))
  refine ⟨(huse p).trans (if_pos rfl), ?_, fun j hj => (huse j).trans (if_neg hj), State.meshPort_setMeshPort_same ..,
    fun j hj => ?_, (hfields.set (.tail _ (.head _)) _).set (.head _) _, State.eq_of_exceptPorts_eq hframe⟩
  · rw [hhold, s.testBit_get_meshBit rfl (by decide) hp, if_pos rfl]
  · exact (State.meshPort_setMeshPort ..).trans (if_neg hj)

theorem exec_portHoldExpiry_none (h : (s.meshPort p).holdFrom = none) : exec (.portHoldExpiry p) s = .next s := by
  have hexec : exec (.portHoldExpiry p) s = execPortHoldExpiry p s := rfl
  rw [hexec, execPortHoldExpiry, h]

end

/-- Settles O41: a flit sent, a flit received by where it goes, and the end of a hold, each by its law above. -/
theorem meshCarriesFlits : Obligations.MeshCarriesFlits := by
  unfold Obligations.MeshCarriesFlits
  intro s p o w f rest ra u q carries onTime
  exact ⟨exec_flitSend_spec, exec_flitSend_idle, exec_decisionFlitReceive_refused, exec_decisionFlitReceive_reserved,
    exec_decisionFlitReceive_delivered, exec_decisionFlitReceive_late, exec_decisionFlitReceive_unreach,
    exec_decisionFlitReceive_forwarded, fun hfrom hrun => ⟨_, exec_portHoldExpiry hfrom hrun, s.holdEnded_spec p.isLt⟩,
    exec_portHoldExpiry_none⟩

end Sys2Proof.Machine
end

section
/-! PROOF. Remote mailbox messages: sent on a credit, and delivered, forwarded, dropped or discarded on arrival (R320, R354,
R359). -/

namespace Sys2Proof.Machine

/-! ## Faults raised -/

section
variable {s t : State}

theorem State.regs_raise (s : State) (src : Nat) (slots : List Nat) : (s.raise src slots).regs = s.regs :=
  State.raise_keeps (P := fun u => u.regs = s.regs) src slots (fun _ _ h => h) rfl

/-- A fault raised depends on the role, the tick and what is raised already. -/
theorem State.raised_raise_congr (src : Nat) (slots : List Nat) (hrole : t.get TWIN_STAT.ROLE = s.get TWIN_STAT.ROLE)
    (htick : t.tick = s.tick) (hraised : t.raised = s.raised) : (t.raise src slots).raised = (s.raise src slots).raised := by
  unfold State.raise
  rw [State.standbyMute_of_role hrole]
  split
  · exact hraised
  · rw [hraised, htick]

/-- A fault raised after a counter counts. -/
theorem State.raised_raise_bump (s : State) {f : Rf} (src : Nat) (slots : List Nat) (h : TWIN_STAT.ROLE.addr ≠ f.addr) :
    ((s.bump f).raise src slots).raised = (s.raise src slots).raised :=
  State.raised_raise_congr src slots (s.get_set_ne _ _ _ h) rfl rfl

/-! ## Message buffers (R320) -/

theorem State.meshPort_returnBuffer (s : State) (o : Option Nat) (j : Nat) : (s.returnBuffer o).meshPort j =
    if o = some j then { s.meshPort j with returned := (s.meshPort j).returned + 1 } else s.meshPort j := by
  cases o with
  | none => rfl
  | some p =>
    rw [State.returnBuffer, State.modMeshPort_eq, State.meshPort_setMeshPort]
    by_cases hj : j = p
    · subst hj
      rw [if_pos rfl, if_pos rfl]
    · rw [if_neg hj, if_neg fun h => hj (Option.some.inj h).symm]

theorem State.meshPort_returnBuffer_same (s : State) (p : Nat) : ((s.returnBuffer (some p)).meshPort p).returned =
    (s.meshPort p).returned + 1 := by
  rw [State.meshPort_returnBuffer, if_pos rfl]

theorem State.regs_returnBuffer (s : State) (o : Option Nat) : (s.returnBuffer o).regs = s.regs := by cases o <;> rfl

/-- The state without registers, mesh ports and event pulses. -/
def State.exceptSent (s : State) : State := { s with regs := [], meshPorts := [], pulses := [] }

theorem State.eq_of_exceptSent_eq (h : t.exceptSent = s.exceptSent) :
    t = { s with regs := t.regs, meshPorts := t.meshPorts, pulses := t.pulses } :=
  congrArg (fun u : State => { u with regs := t.regs, meshPorts := t.meshPorts, pulses := t.pulses }) h

theorem State.raised_returnBuffer (s : State) (o : Option Nat) : (s.returnBuffer o).raised = s.raised := by cases o <;> rfl

theorem State.pulses_returnBuffer (s : State) (o : Option Nat) : (s.returnBuffer o).pulses = s.pulses := by cases o <;> rfl

theorem State.tick_returnBuffer (s : State) (o : Option Nat) : (s.returnBuffer o).tick = s.tick := by cases o <;> rfl

theorem State.exceptSent_returnBuffer (s : State) (o : Option Nat) : (s.returnBuffer o).exceptSent = s.exceptSent := by
  cases o <;> rfl

/-! ## Sending (R359) -/

/-- The oldest message of port `p` is sent on a credit, and the buffer it came in by returned. -/
def State.messageSent (s : State) (p : Nat) (m : MeshMsg) (rest : List MeshMsg) : State :=
  let q := s.meshPort p
  (s.setMeshPort p { q with msgs := rest, credits := q.credits - 1, sentMsg := some m }).returnBuffer m.origin

/-- The mailbox a message came from is clear again. -/
def State.sourceCleared (s : State) : Option Nat → State
  | some b => s.when (s.bit (MBX_CTRL.FULL b)) (·.mbxEmpty b)
  | none => s

theorem State.sourceCleared_full {b : Nat} (h : s.bit (MBX_CTRL.FULL b) = true) : s.sourceCleared (some b) = s.mbxEmpty b := by
  rw [State.sourceCleared, h, State.when_true]

theorem State.meshPorts_sourceCleared (s : State) : ∀ o, (s.sourceCleared o).meshPorts = s.meshPorts
  | some _ => State.when_same _ State.meshPorts rfl
  | none => rfl

theorem State.exceptSent_sourceCleared (s : State) : ∀ o, (s.sourceCleared o).exceptSent = s.exceptSent
  | some _ => State.when_same _ State.exceptSent rfl
  | none => rfl

theorem State.bit_full_mbxEmpty (s : State) (b : Nat) : (s.mbxEmpty b).bit (MBX_CTRL.FULL b) = false :=
  s.bit_setBit_same (f := MBX_CTRL.FULL b) false rfl (by decide : 2 < 32)

section
variable {p : Fin 6} {m : MeshMsg} {rest : List MeshMsg}

theorem exec_mailboxMessageSend (hmsgs : (s.meshPort p).msgs = m :: rest) (hcarries : s.meshCarries p = true)
    (hcredits : (s.meshPort p).credits ≠ 0) :
    exec (.mailboxMessageSend p) s = .next ((s.messageSent p m rest).sourceCleared m.source) := by
  have hexec : exec (.mailboxMessageSend p) s = execMailboxMessageSend p s := rfl
  have hgo : ¬ (!s.meshCarries p || (s.meshPort p).credits == 0) = true := by simp [hcarries, hcredits]
  rw [hexec, execMailboxMessageSend]
  simp only [hmsgs, if_neg hgo]
  cases m.source <;> rfl

/-- A message sent leaves the port's queue and takes a credit; the buffer of its port of origin returns. -/
theorem State.messageSent_spec (s : State) (p : Nat) (m : MeshMsg) (rest : List MeshMsg) :
    let t := s.messageSent p m rest
    (t.meshPort p).msgs = rest ∧ (t.meshPort p).credits = (s.meshPort p).credits - 1 ∧ (t.meshPort p).sentMsg = some m ∧
      (∀ j, m.origin = some j → (t.meshPort j).returned = (s.meshPort j).returned + 1) ∧ t.regs = s.regs ∧
      t.pulses = s.pulses ∧ t.tick = s.tick ∧ t.exceptSent = s.exceptSent := by
  intro t
  have hport : t.meshPort p = if m.origin = some p then _ else _ := State.meshPort_returnBuffer ..
  rw [State.meshPort_setMeshPort_same] at hport
  refine ⟨?_, ?_, ?_, fun j hj => ?_, State.regs_returnBuffer .., State.pulses_returnBuffer .., State.tick_returnBuffer ..,
    State.exceptSent_returnBuffer ..⟩
  · rw [hport]
    split <;> rfl
  · rw [hport]
    split <;> rfl
  · rw [hport]
    split <;> rfl
  · refine (congrArg MeshPort.returned ((State.meshPort_returnBuffer ..).trans (if_pos hj))).trans ?_
    rw [State.meshPort_setMeshPort]
    split
    · next h => rw [h]
    · rfl

theorem exec_mailboxMessageSend_spec (hmsgs : (s.meshPort p).msgs = m :: rest) (hcarries : s.meshCarries p = true)
    (hcredits : (s.meshPort p).credits ≠ 0) : ∃ t, exec (.mailboxMessageSend p) s = .next t ∧
      (t.meshPort p).msgs = rest ∧ (t.meshPort p).credits = (s.meshPort p).credits - 1 ∧ (t.meshPort p).sentMsg = some m ∧
      (∀ c, m.source = some c → c < 32 → s.bit (MBX_CTRL.FULL c) = true →
        t.bit (MBX_CTRL.FULL c) = false ∧ t.pulses = s.pulses ++ [(394 + 2 * c, s.tick)]) ∧
      (∀ j, m.origin = some j → (t.meshPort j).returned = (s.meshPort j).returned + 1) ∧
      t = { s with regs := t.regs, meshPorts := t.meshPorts, pulses := t.pulses } := by
  obtain ⟨hrest, hcredit, hsent, hreturned, hregs, hpulses, htick, hframe⟩ := s.messageSent_spec p m rest
  have hports (j : Nat) : ((s.messageSent p m rest).sourceCleared m.source).meshPort j = (s.messageSent p m rest).meshPort j :=
    State.meshPort_of_meshPorts_eq (State.meshPorts_sourceCleared ..) j
  refine ⟨_, exec_mailboxMessageSend hmsgs hcarries hcredits, ?_, ?_, ?_, fun c hc _ hfull => ?_, fun j hj => ?_,
    State.eq_of_exceptSent_eq ((State.exceptSent_sourceCleared ..).trans hframe)⟩
  · rw [hports, hrest]
  · rw [hports, hcredit]
  · rw [hports, hsent]
  · have hfull' : (s.messageSent p m rest).bit (MBX_CTRL.FULL c) = true := by
      rw [State.bit, State.get_of_regs_eq hregs]
      exact hfull
    rw [hc, State.sourceCleared_full hfull']
    refine ⟨State.bit_full_mbxEmpty .., ?_⟩
    rw [← hpulses, ← htick]
    rfl
  · rw [hports, hreturned j hj]

theorem exec_mailboxMessageSend_idle (h : (s.meshPort p).msgs = [] ∨ (s.meshPort p).credits = 0 ∨ s.meshCarries p = false) :
    exec (.mailboxMessageSend p) s = .next s := by
  have hexec : exec (.mailboxMessageSend p) s = execMailboxMessageSend p s := rfl
  rw [hexec, execMailboxMessageSend]
  cases hmsgs : (s.meshPort p).msgs with
  | nil => rfl
  | cons m rest =>
    have hstop : (!s.meshCarries p || (s.meshPort p).credits == 0) = true := by
      obtain h | h | h := h
      · exact absurd (h.symm.trans hmsgs) (List.cons_ne_nil m rest).symm
      · simp [h]
      · simp [h]
    exact if_pos hstop

/-! ## Credits -/

theorem exec_creditFlitReceive (n : Fin 3) (h : s.bit (PORT_STAT.UP p) = true) : exec (.creditFlitReceive p n) s =
    .next (s.setMeshPort p { s.meshPort p with credits := min 2 ((s.meshPort p).credits + n) }) :=
  congrArg Host.Outcome.next (if_pos h)

theorem exec_creditFlitReceive_down (n : Fin 3) (h : s.bit (PORT_STAT.UP p) = false) : exec (.creditFlitReceive p n) s = .next s :=
  congrArg Host.Outcome.next (if_neg (Bool.not_eq_true _ ▸ h))

/-! ## Receiving (R320) -/

variable {w : BitVec 64} {data : List Word}

theorem exec_mailboxMessageReceive_refused (ok : Bool) (h : s.bit (PORT_STAT.UP p) = false ∨ flit.type w ≠ 4) :
    exec (.mailboxMessageReceive p w data ok) s = .next s := by
  refine if_pos ?_
  obtain h | h := h <;> simp [h]

/-- A message on a port that is UP. -/
theorem messageTaken_iff : (s.bit (PORT_STAT.UP p) = true ∧ flit.type w = 4) ↔
    ¬ (!s.bit (PORT_STAT.UP p) || flit.type w != 4) = true := by
  simp

/-- A faulty message is counted, told and its buffer returned. -/
def State.messageLost (s : State) (p : Nat) : State :=
  ((s.bump MESH_MBX_LOST_CNT.COUNT).raise Src.MESH_MBX_LOST []).returnBuffer (some p)

theorem exec_mailboxMessageReceive_faulty (hup : s.bit (PORT_STAT.UP p) = true) (htype : flit.type w = 4) :
    exec (.mailboxMessageReceive p w data false) s = .next (s.messageLost p) :=
  (if_neg (messageTaken_iff.mp ⟨hup, htype⟩)).trans (if_pos rfl)

/-- The state without registers, mesh ports and faults raised. -/
def State.exceptLost (s : State) : State := { s with regs := [], meshPorts := [], raised := [] }

theorem State.eq_of_exceptLost_eq (h : t.exceptLost = s.exceptLost) :
    t = { s with regs := t.regs, meshPorts := t.meshPorts, raised := t.raised } :=
  congrArg (fun u : State => { u with regs := t.regs, meshPorts := t.meshPorts, raised := t.raised }) h

theorem State.exceptLost_bump (s : State) (f : Rf) (n : Nat) : (s.bump f n).exceptLost = s.exceptLost := rfl

theorem State.exceptLost_raise (s : State) (src : Nat) (slots : List Nat) : (s.raise src slots).exceptLost = s.exceptLost :=
  State.raise_keeps (P := fun u => u.exceptLost = s.exceptLost) src slots (fun _ _ h => h) rfl

theorem State.exceptLost_returnBuffer (s : State) (o : Option Nat) : (s.returnBuffer o).exceptLost = s.exceptLost := by
  cases o <;> rfl

theorem State.meshPorts_raise (s : State) (src : Nat) (slots : List Nat) : (s.raise src slots).meshPorts = s.meshPorts :=
  State.raise_keeps (P := fun u => u.meshPorts = s.meshPorts) src slots (fun _ _ h => h) rfl

/-- A message that is counted in `f`, told, and its buffer returned. -/
theorem State.countedReturned_spec (s : State) {f : Rf} (src : Nat) (slots : List Nat) (p : Nat) (hlo : f.lo = 0)
    (hlen : f.len = 32) (hrole : TWIN_STAT.ROLE.addr ≠ f.addr) :
    let t := ((s.bump f).raise src slots).returnBuffer (some p)
    t.get f = min (s.get f + 1) (2 ^ 32 - 1) ∧ t.raised = (s.raise src slots).raised ∧
      (t.meshPort p).returned = (s.meshPort p).returned + 1 ∧ s.fieldsOnly t [f] ∧
      t = { s with regs := t.regs, meshPorts := t.meshPorts, raised := t.raised } := by
  intro t
  let u := (s.bump f).raise src slots
  have hregs : t.regs = (s.bump f).regs := (u.regs_returnBuffer (some p)).trans ((s.bump f).regs_raise src slots)
  have hports : u.meshPorts = s.meshPorts := ((s.bump f).meshPorts_raise src slots).trans rfl
  have hraised : t.raised = (s.raise src slots).raised :=
    (u.raised_returnBuffer (some p)).trans (s.raised_raise_bump src slots hrole)
  have hframe : t.exceptLost = s.exceptLost := (u.exceptLost_returnBuffer (some p)).trans
    (((s.bump f).exceptLost_raise src slots).trans (s.exceptLost_bump f 1))
  have hfields : s.fieldsOnly s [f] := State.fieldsOnly_of_regs_eq rfl _
  refine ⟨?_, hraised, ?_, fun g hw hg => ?_, State.eq_of_exceptLost_eq hframe⟩
  · rw [State.get_of_regs_eq hregs, s.get_bump_same _ _ (by omega), hlen]
  · rw [← State.meshPort_of_meshPorts_eq hports]
    exact u.meshPort_returnBuffer_same p
  · exact (State.get_of_regs_eq hregs g).trans ((hfields.set (.head _) _) g hw hg)

/-- A whole message on a port that is UP: a message of as many words as its head says. -/
def State.messageWhole (s : State) (p : Nat) (w : BitVec 64) (data : List Word) : Prop :=
  s.bit (PORT_STAT.UP p) = true ∧ flit.type w = 4 ∧ data.length = (w.extractLsb' 42 4).toNat + 1

/-- The words of a whole message fit a mailbox. -/
theorem State.messageWhole.length_le {p : Nat} (h : s.messageWhole p w data) : data.length ≤ 16 := by
  obtain ⟨-, -, hlen⟩ := h
  have hlt := (w.extractLsb' 42 4).isLt
  omega

theorem exec_mailboxMessageReceive_local (h : s.messageWhole p w data) (hdst : flit.dst w = s.meshAddr) :
    exec (.mailboxMessageReceive p w data true) s =
      .next ((s.remoteWrite (w.extractLsb' 37 5).toNat data (w.extractLsb' 25 12)).returnBuffer (some p)) := by
  obtain ⟨hup, htype, hlen⟩ := h
  have hwhole : ¬ (!true || data.length != (w.extractLsb' 42 4).toNat + 1) = true := by simp [hlen]
  exact (if_neg (messageTaken_iff.mp ⟨hup, htype⟩)).trans ((if_neg hwhole).trans (if_pos hdst))

/-! ### Dropped (R359) -/

theorem State.remoteWrite_refused {b : Nat} (orig : BitVec 12) (h : s.mbxProd b ≠ 2) : s.remoteWrite b data orig =
    (s.bump (MBX_REM_DROP_CNT.COUNT b)).raise Src.MBX_REM_DROP (slot b ++ slot orig.toNat) :=
  if_neg fun hc => h hc.1

theorem exec_mailboxMessageReceive_dropped (h : s.messageWhole p w data) (hdst : flit.dst w = s.meshAddr)
    (hprod : s.mbxProd (w.extractLsb' 37 5).toNat ≠ 2) : ∃ t, exec (.mailboxMessageReceive p w data true) s = .next t ∧
      t.get (MBX_REM_DROP_CNT.COUNT (w.extractLsb' 37 5).toNat) =
        min (s.get (MBX_REM_DROP_CNT.COUNT (w.extractLsb' 37 5).toNat) + 1) (2 ^ 32 - 1) ∧
      t.raised = (s.raise Src.MBX_REM_DROP
    (slot (w.extractLsb' 37 5).toNat ++ slot (w.extractLsb' 25 12).toNat)).raised ∧
      s.fieldsOnly t [MBX_REM_DROP_CNT.COUNT (w.extractLsb' 37 5).toNat] ∧
      t = { s with regs := t.regs, meshPorts := t.meshPorts, raised := t.raised } := by
  have hexec := exec_mailboxMessageReceive_local h hdst
  rw [State.remoteWrite_refused _ hprod] at hexec
  have hrole : TWIN_STAT.ROLE.addr ≠ (MBX_REM_DROP_CNT.COUNT (w.extractLsb' 37 5).toNat).addr := by
    simp only [TWIN_STAT.ROLE, R.TWIN_STAT, MBX_REM_DROP_CNT.COUNT, R.MBX_REM_DROP_CNT]
    omega
  obtain ⟨hcount, hraised, -, hfields, hframe⟩ := s.countedReturned_spec
    (f := MBX_REM_DROP_CNT.COUNT (w.extractLsb' 37 5).toNat) Src.MBX_REM_DROP
    (slot (w.extractLsb' 37 5).toNat ++ slot (w.extractLsb' 25 12).toNat) p rfl rfl hrole
  exact ⟨_, hexec, hcount, hraised, hfields, hframe⟩

/-! ### Forwarded (R311, R320) -/

/-- The message of head `w`, come in on port `p`, with one hop less to go. -/
def forwardedMsg (p : Nat) (w : BitVec 64) (data : List Word) (ra : Bool) : MeshMsg :=
  { dst := flit.dst w, ttl := BitVec.ofNat 5 (flit.ttl w - 1), ra := ra, orig := w.extractLsb' 25 12, mbx := w.extractLsb' 37 5,
    words := data, origin := some p, source := none }

theorem exec_mailboxMessageReceive_forwarded {o : Fin 6} {ra : Bool} (h : s.messageWhole p w data)
    (hdst : flit.dst w ≠ s.meshAddr) (httl : 2 ≤ flit.ttl w)
    (hroute : s.meshRoute (flit.dst w) (flit.ra w) (some p) = some (o.val, ra)) :
    exec (.mailboxMessageReceive p w data true) s =
      .next (s.setMeshPort o { s.meshPort o with msgs := (s.meshPort o).msgs ++ [forwardedMsg p w data ra] }) := by
  obtain ⟨hup, htype, hlen⟩ := h
  have hexec : exec (.mailboxMessageReceive p w data true) s = execMailboxMessageReceive p w data true s := rfl
  have hwhole : ¬ (!true || data.length != (w.extractLsb' 42 4).toNat + 1) = true := by simp [hlen]
  have hleft : ¬ flit.ttl w - 1 = 0 := by omega
  rw [hexec, execMailboxMessageReceive, if_neg (messageTaken_iff.mp ⟨hup, htype⟩), if_neg hwhole]
  simp only [if_neg hdst, if_neg hleft, hroute, State.msgRoute, Option.isNone_some, State.when_false, State.modMeshPort_eq]
  rfl

theorem exec_mailboxMessageReceive_forwarded_spec {o : Fin 6} {ra : Bool} (h : s.messageWhole p w data)
    (hdst : flit.dst w ≠ s.meshAddr) (httl : 2 ≤ flit.ttl w)
    (hroute : s.meshRoute (flit.dst w) (flit.ra w) (some p) = some (o.val, ra)) :
    ∃ t x, exec (.mailboxMessageReceive p w data true) s = .next t ∧ (t.meshPort o).msgs = (s.meshPort o).msgs ++ [x] ∧
      x.dst = flit.dst w ∧ x.ttl.toNat = flit.ttl w - 1 ∧ x.ra = ra ∧ x.words = data ∧ x.origin = some p.val ∧
      x.source = none ∧ x.mbx = w.extractLsb' 37 5 ∧ x.orig = w.extractLsb' 25 12 ∧ s.othersSame t State.meshPort o ∧
      t = { s with meshPorts := t.meshPorts } := by
  have hlt : flit.ttl w < 32 := (w.extractLsb' 20 5).isLt
  have hhops : (BitVec.ofNat 5 (flit.ttl w - 1)).toNat = flit.ttl w - 1 := by
    rw [BitVec.toNat_ofNat]
    omega
  refine ⟨_, forwardedMsg p w data ra, exec_mailboxMessageReceive_forwarded h hdst httl hroute, ?_, rfl, hhops, rfl, rfl, rfl,
    rfl, rfl, rfl, State.othersSame_setMeshPort (fun _ _ => rfl) _, rfl⟩
  rw [State.meshPort_setMeshPort_same]

end

/-! ### Delivered (R354, R359) -/

section
variable {b : Nat} {words : List Word}

/-- A post over a full mailbox is a collision. -/
def State.mbxCollided (s : State) (b : Nat) : State :=
  s.when (s.bit (MBX_CTRL.FULL b)) (fun s => (s.setBit (MBX_CTRL.COLLISION b) true).bump (MBX_COLL_CNT.COUNT b))

/-- Mailbox `b` takes a message of LEN `len`; `hit` is what the post found. -/
def State.mbxMarked (s : State) (b len : Nat) (hit : Option (Bool × Nat)) : State :=
  ((s.setMbx b (some { tick := s.tick, hit := hit })).set (MBX_CTRL.LEN b) len).setBit (MBX_CTRL.FULL b) true

/-- The message is numbered and the FULL line pulses. -/
def State.mbxNumbered (s : State) (b : Nat) : State :=
  (s.wr (R.MBX_SEQ b) (s.rd (R.MBX_SEQ b) + 1)).pulse (393 + 2 * b)

/-- A post to mailbox `b`, but for its notice and its way on. -/
def State.mbxFilled (s : State) (b len : Nat) : State :=
  let hit := if s.bit (MBX_CTRL.FULL b) then some (s.bit (MBX_CTRL.COLLISION b), s.get (MBX_COLL_CNT.COUNT b)) else none
  ((s.mbxCollided b).mbxMarked b len hit).mbxNumbered b

theorem State.rd_mbxCollided_ne (s : State) {a : Nat} (hctrl : a ≠ R.MBX_CTRL b) (hcoll : a ≠ R.MBX_COLL_CNT b) :
    (s.mbxCollided b).rd a = s.rd a :=
  State.when_same _ (·.rd a) ((State.rd_set_ne _ _ _ hcoll).trans (s.rd_set_ne _ _ hctrl))

theorem State.rd_mbxMarked_ne (s : State) (len : Nat) (hit : Option (Bool × Nat)) {a : Nat} (hctrl : a ≠ R.MBX_CTRL b) :
    (s.mbxMarked b len hit).rd a = s.rd a := by
  rw [State.mbxMarked, State.setBit_eq, State.rd_set_ne _ _ _ hctrl, State.rd_set_ne _ _ _ hctrl]
  rfl

theorem State.rd_mbxNumbered_ne (s : State) {a : Nat} (hseq : a ≠ R.MBX_SEQ b) : (s.mbxNumbered b).rd a = s.rd a :=
  s.rd_wr_ne _ hseq

/-- Posting leaves every register but MBX_CTRL, MBX_SEQ and MBX_COLL_CNT. -/
theorem State.rd_mbxFilled_ne (s : State) (len : Nat) {a : Nat} (hctrl : a ≠ R.MBX_CTRL b) (hseq : a ≠ R.MBX_SEQ b)
    (hcoll : a ≠ R.MBX_COLL_CNT b) : (s.mbxFilled b len).rd a = s.rd a := by
  rw [State.mbxFilled, State.rd_mbxNumbered_ne _ hseq, State.rd_mbxMarked_ne _ _ _ hctrl, s.rd_mbxCollided_ne hctrl hcoll]

theorem mbxCtrl_ne_mbxSeq (b : Nat) : R.MBX_CTRL b ≠ R.MBX_SEQ b := by
  unfold R.MBX_CTRL R.MBX_SEQ
  omega

theorem State.bit_full_mbxFilled (s : State) (b len : Nat) : (s.mbxFilled b len).bit (MBX_CTRL.FULL b) = true := by
  rw [State.mbxFilled, State.bit_of_rd_eq (f := MBX_CTRL.FULL b) (State.rd_mbxNumbered_ne _ (mbxCtrl_ne_mbxSeq b)), State.mbxMarked]
  exact State.bit_setBit_same _ true rfl (by decide : 2 < 32)

theorem State.get_len_mbxFilled (s : State) (b : Nat) {len : Nat} (h : len < 16) :
    (s.mbxFilled b len).get (MBX_CTRL.LEN b) = len := by
  rw [State.mbxFilled, State.get_of_rd_eq (f := MBX_CTRL.LEN b) (State.rd_mbxNumbered_ne _ (mbxCtrl_ne_mbxSeq b)), State.mbxMarked,
    State.setBit_eq, State.get_set_apart _ (by decide : 8 + 4 ≤ 32) (.inr (.inl (by decide : 2 + 1 ≤ 8)))]
  exact State.get_set_of_lt _ (by decide : 8 + 4 ≤ 32) h

theorem State.rd_seq_mbxFilled (s : State) (b len : Nat) : (s.mbxFilled b len).rd (R.MBX_SEQ b) = s.rd (R.MBX_SEQ b) + 1 := by
  have hctrl : R.MBX_SEQ b ≠ R.MBX_CTRL b := (mbxCtrl_ne_mbxSeq b).symm
  have hcoll : R.MBX_SEQ b ≠ R.MBX_COLL_CNT b := by
    unfold R.MBX_SEQ R.MBX_COLL_CNT
    omega
  have hnumbered (u : State) : (u.mbxNumbered b).rd (R.MBX_SEQ b) = u.rd (R.MBX_SEQ b) + 1 := u.rd_wr_same ..
  rw [State.mbxFilled, hnumbered, State.rd_mbxMarked_ne _ _ _ hctrl, s.rd_mbxCollided_ne hctrl hcoll]

/-- The state without registers and mailbox posts. -/
def State.exceptMailboxes (s : State) : State := { s with regs := [], mbxs := [] }

theorem State.exceptMailboxes_set (s : State) (f : Rf) (v : Nat) : (s.set f v).exceptMailboxes = s.exceptMailboxes := rfl

theorem State.exceptMailboxes_mbxCollided (s : State) (b : Nat) : (s.mbxCollided b).exceptMailboxes = s.exceptMailboxes :=
  State.when_same _ State.exceptMailboxes ((State.exceptMailboxes_set ..).trans (s.exceptMailboxes_set ..))

theorem State.exceptMailboxes_mbxMarked (s : State) (b len : Nat) (hit : Option (Bool × Nat)) :
    (s.mbxMarked b len hit).exceptMailboxes = s.exceptMailboxes := by
  rw [State.mbxMarked, State.setBit_eq, State.exceptMailboxes_set, State.exceptMailboxes_set]
  rfl

/-- Outside registers and posts, a post is its pulse. -/
theorem State.exceptMailboxes_mbxFilled (s : State) (b len : Nat) :
    (s.mbxFilled b len).exceptMailboxes = s.exceptMailboxes.pulse (393 + 2 * b) := by
  have hwr (u : State) (w : Word) :
      ((u.wr (R.MBX_SEQ b) w).pulse (393 + 2 * b)).exceptMailboxes = u.exceptMailboxes.pulse (393 + 2 * b) := rfl
  rw [State.mbxFilled, State.mbxNumbered, hwr, State.exceptMailboxes_mbxMarked, State.exceptMailboxes_mbxCollided]

/-- A post to a mailbox that neither notifies nor forwards. -/
theorem State.mbxPost_plain {len : Nat} (hnotify : s.bit (MBX_CFG.NOTIFY b) = false) (hcons : s.mbxCons b ≠ 2) :
    s.mbxPost b len = s.mbxFilled b len := by
  have hcfg : (s.mbxFilled b len).rd (R.MBX_CFG b) = s.rd (R.MBX_CFG b) := s.rd_mbxFilled_ne len
    (by unfold R.MBX_CFG R.MBX_CTRL; omega) (by unfold R.MBX_CFG R.MBX_SEQ; omega) (by unfold R.MBX_CFG R.MBX_COLL_CNT; omega)
  have hnotify' : (s.mbxFilled b len).bit (MBX_CFG.NOTIFY b) = false :=
    (State.bit_of_rd_eq (f := MBX_CFG.NOTIFY b) hcfg).trans hnotify
  have hcons' : (s.mbxFilled b len).mbxCons b ≠ 2 := by
    rw [State.mbxCons, State.get_of_rd_eq (f := MBX_CFG.CONS b) hcfg]
    exact hcons
  unfold State.mbxPost
  extract_lets full hit collided noted marked filled told
  have htold : told = s.mbxFilled b len := by
    rw [show told = (s.mbxFilled b len).when ((s.mbxFilled b len).bit (MBX_CFG.NOTIFY b)) _ from rfl, hnotify', State.when_false]
  rw [htold, if_pos hcons']

/-! The words of a message, stored from MBX_DATA[0]. -/

/-- A message over a full mailbox is a collision; its words are stored. -/
def State.wordsStored (s : State) (b : Nat) (words : List Word) : State :=
  (s.when (s.bit (MBX_CTRL.FULL b)) (·.setBit (MBX_CTRL.COLLISION b) true)).each (List.range words.length)
    (fun s i => s.wr (R.MBX_DATA b i) (words.getD i 0))

theorem State.remoteWrite_accepted (words : List Word) (orig : BitVec 12) (hprod : s.mbxProd b = 2) (hdown : s.mbxDown b = false) :
    s.remoteWrite b words orig = (s.wordsStored b words).mbxPost b (words.length - 1) :=
  if_pos ⟨hprod, congrArg not hdown⟩

theorem mbxData_injective (b : Nat) : Function.Injective (R.MBX_DATA b) := fun i j h => by
  simp only [R.MBX_DATA] at h
  omega

/-- The data words of a mailbox lie below its other registers. -/
theorem mbxData_ne {i a : Nat} (hi : i < 16) (ha : R.MBX_CTRL b ≤ a) : a ≠ R.MBX_DATA b i := by
  unfold R.MBX_CTRL at ha
  unfold R.MBX_DATA
  omega

theorem State.rd_data_wordsStored (s : State) (b : Nat) (words : List Word) {i : Nat} (h : i < words.length) :
    (s.wordsStored b words).rd (R.MBX_DATA b i) = words.getD i 0 :=
  State.rd_each_wr (mbxData_injective b) (fun j => words.getD j 0) _ h

/-- Storing the words leaves the registers of the mailbox beyond MBX_CTRL. -/
theorem State.rd_wordsStored_ne (s : State) {a : Nat} (hlen : words.length ≤ 16) (ha : R.MBX_CTRL b < a) :
    (s.wordsStored b words).rd a = s.rd a :=
  (State.rd_each_wr_ne (addr := R.MBX_DATA b) (fun j => words.getD j 0) _
    fun _ hj => mbxData_ne (Nat.lt_of_lt_of_le hj hlen) (Nat.le_of_lt ha)).trans
    (State.when_same _ (·.rd a) (State.rd_set_ne _ _ _ (Nat.ne_of_gt ha)))

theorem State.exceptMailboxes_wordsStored (s : State) (b : Nat) (words : List Word) :
    (s.wordsStored b words).exceptMailboxes = s.exceptMailboxes :=
  (State.each_same _ State.exceptMailboxes fun u i => (rfl : (u.wr (R.MBX_DATA b i) (words.getD i 0)).exceptMailboxes = _)).trans
    (State.when_same _ State.exceptMailboxes (rfl : (s.setBit (MBX_CTRL.COLLISION b) true).exceptMailboxes = _))

/-- The state without what a delivered message writes. -/
def State.exceptDeliveredMsg (s : State) : State := { s with regs := [], mbxs := [], meshPorts := [], pulses := [] }

theorem State.eq_of_exceptDeliveredMsg_eq (h : t.exceptDeliveredMsg = s.exceptDeliveredMsg) :
    t = { s with regs := t.regs, mbxs := t.mbxs, meshPorts := t.meshPorts, pulses := t.pulses } :=
  congrArg (fun u : State => { u with regs := t.regs, mbxs := t.mbxs, meshPorts := t.meshPorts, pulses := t.pulses }) h

/-- A message stored and posted in a mailbox whose producer is MESH. -/
theorem State.wordsStored_mbxFilled_spec (s : State) (hpos : 0 < words.length) (hlen : words.length ≤ 16) :
    let t := (s.wordsStored b words).mbxFilled b (words.length - 1)
    (∀ i, i < words.length → t.rd (R.MBX_DATA b i) = words.getD i 0) ∧ t.bit (MBX_CTRL.FULL b) = true ∧
      t.get (MBX_CTRL.LEN b) = words.length - 1 ∧ t.rd (R.MBX_SEQ b) = s.rd (R.MBX_SEQ b) + 1 ∧
      t.exceptMailboxes = s.exceptMailboxes.pulse (393 + 2 * b) := by
  intro t
  refine ⟨fun i hi => ?_, State.bit_full_mbxFilled .., State.get_len_mbxFilled _ _ (by omega), ?_, ?_⟩
  · have hdata {a : Nat} (ha : R.MBX_CTRL b ≤ a) : R.MBX_DATA b i ≠ a := (mbxData_ne (by omega) ha).symm
    rw [State.rd_mbxFilled_ne _ _ (hdata (Nat.le_refl _)) (hdata (by unfold R.MBX_CTRL R.MBX_SEQ; omega))
      (hdata (by unfold R.MBX_CTRL R.MBX_COLL_CNT; omega)), s.rd_data_wordsStored b words hi]
  · rw [State.rd_seq_mbxFilled, s.rd_wordsStored_ne hlen (by unfold R.MBX_CTRL R.MBX_SEQ; omega)]
  · rw [State.exceptMailboxes_mbxFilled, State.exceptMailboxes_wordsStored]

end

/-- A message posted in a mailbox, and its buffer returned: its pulse, and nothing beyond registers, posts and ports. -/
theorem State.returnBuffer_posted_spec {n p : Nat} (hframe : t.exceptMailboxes = s.exceptMailboxes.pulse n) :
    let v := t.returnBuffer (some p)
    v.pulses = s.pulses ++ [(n, s.tick)] ∧ (v.meshPort p).returned = (s.meshPort p).returned + 1 ∧
      v = { s with regs := v.regs, mbxs := v.mbxs, meshPorts := v.meshPorts, pulses := v.pulses } := by
  have hpulses : t.pulses = s.pulses ++ [(n, s.tick)] := (congrArg State.pulses hframe :)
  have hports : t.meshPorts = s.meshPorts := (congrArg State.meshPorts hframe :)
  have hrest : t.exceptDeliveredMsg = s.exceptDeliveredMsg := (congrArg State.exceptDeliveredMsg hframe :)
  refine ⟨(t.pulses_returnBuffer (some p)).trans hpulses, ?_, State.eq_of_exceptDeliveredMsg_eq hrest⟩
  rw [State.meshPort_returnBuffer_same, State.meshPort_of_meshPorts_eq hports]

theorem exec_mailboxMessageReceive_delivered {p : Fin 6} {w : BitVec 64} {data : List Word} (h : s.messageWhole p w data)
    (hdst : flit.dst w = s.meshAddr) (hprod : s.mbxProd (w.extractLsb' 37 5).toNat = 2)
    (hdown : s.mbxDown (w.extractLsb' 37 5).toNat = false) (hcons : s.mbxCons (w.extractLsb' 37 5).toNat ≠ 2)
    (hnotify : s.bit (MBX_CFG.NOTIFY (w.extractLsb' 37 5).toNat) = false) :
    let b := (w.extractLsb' 37 5).toNat
    ∃ t, exec (.mailboxMessageReceive p w data true) s = .next t ∧
      (∀ i, i < data.length → t.rd (R.MBX_DATA b i) = data.getD i 0) ∧ t.bit (MBX_CTRL.FULL b) = true ∧
      t.get (MBX_CTRL.LEN b) = data.length - 1 ∧ t.rd (R.MBX_SEQ b) = s.rd (R.MBX_SEQ b) + 1 ∧
      t.pulses = s.pulses ++ [(393 + 2 * b, s.tick)] ∧ (t.meshPort p).returned = (s.meshPort p).returned + 1 ∧
      t = { s with regs := t.regs, mbxs := t.mbxs, meshPorts := t.meshPorts, pulses := t.pulses } := by
  intro b
  have hlen := h.length_le
  have hpos : 0 < data.length := by
    obtain ⟨-, -, hwords⟩ := h
    omega
  let u := s.wordsStored b data
  have hcfg : u.rd (R.MBX_CFG b) = s.rd (R.MBX_CFG b) := s.rd_wordsStored_ne hlen (by unfold R.MBX_CTRL R.MBX_CFG; omega)
  have hnotify' : u.bit (MBX_CFG.NOTIFY b) = false := (State.bit_of_rd_eq (f := MBX_CFG.NOTIFY b) hcfg).trans hnotify
  have hcons' : u.mbxCons b ≠ 2 := by
    rw [State.mbxCons, State.get_of_rd_eq (f := MBX_CFG.CONS b) hcfg]
    exact hcons
  have hexec := exec_mailboxMessageReceive_local h hdst
  rw [State.remoteWrite_accepted data _ hprod hdown, State.mbxPost_plain hnotify' hcons'] at hexec
  obtain ⟨hdata, hfull, hlast, hseq, hframe⟩ := s.wordsStored_mbxFilled_spec (b := b) hpos hlen
  obtain ⟨hpulses, hreturned, hrest⟩ := State.returnBuffer_posted_spec (p := p) hframe
  have hregs := State.regs_returnBuffer (u.mbxFilled b (data.length - 1)) (some p)
  refine ⟨_, hexec, fun i hi => ?_, ?_, ?_, ?_, hpulses, hreturned, hrest⟩
  · rw [State.rd_of_regs_eq hregs, hdata i hi]
  · rw [State.bit, State.get_of_regs_eq hregs]
    exact hfull
  · rw [State.get_of_regs_eq hregs, hlast]
  · rw [State.rd_of_regs_eq hregs, hseq]

end

/-- Settles O42: sending, credits, and each way a message may go on arrival, by its law above. -/
theorem mailboxMessagesTravel : Obligations.MailboxMessagesTravel := by
  unfold Obligations.MailboxMessagesTravel
  intro s p o n m rest w data ok ra q up b whole
  refine ⟨exec_mailboxMessageSend_spec, exec_mailboxMessageSend_idle, exec_creditFlitReceive n, exec_creditFlitReceive_down n,
    exec_mailboxMessageReceive_refused ok, fun hup htype => ?_, exec_mailboxMessageReceive_delivered,
    exec_mailboxMessageReceive_dropped, exec_mailboxMessageReceive_forwarded_spec⟩
  obtain ⟨hcount, hraised, hreturned, -, hframe⟩ :=
    s.countedReturned_spec (f := MESH_MBX_LOST_CNT.COUNT) Src.MESH_MBX_LOST [] p rfl rfl (by decide)
  exact ⟨_, exec_mailboxMessageReceive_faulty hup htype, hcount, hraised, hreturned, hframe⟩

end Sys2Proof.Machine
end

section
/-! PROOF. The time state: what a change of TIME_STAT, the loss of the parent and the way out of normal mode leave (R324 to
R332). -/

namespace Sys2Proof.Machine

section
variable {s t : State}

/-! ## TIME_STAT -/

theorem State.time_of_exceptRegs_eq (h : t.exceptRegs = s.exceptRegs) : t.time = s.time := (congrArg State.time h :)

theorem State.tick_of_exceptRegs_eq (h : t.exceptRegs = s.exceptRegs) : t.tick = s.tick := (congrArg State.tick h :)

/-- `t` is `s` but for TIME_STAT. -/
def State.sameButTimeStat (s t : State) : Prop := t.exceptRegs = s.exceptRegs ∧ ∀ a, a ≠ R.TIME_STAT → t.rd a = s.rd a

theorem State.sameButTimeStat.set {f : Rf} (h : s.sameButTimeStat t) (hf : f.addr = R.TIME_STAT) (v : Nat) :
    s.sameButTimeStat (t.set f v) :=
  ⟨h.1, fun a ha => (State.rd_set_ne _ _ _ (hf ▸ ha)).trans (h.2 a ha)⟩

theorem State.sameButTimeStat_showTime (s : State) : s.sameButTimeStat s.showTime := by
  have hself : s.sameButTimeStat s := ⟨rfl, fun _ _ => rfl⟩
  rw [State.showTime, State.setBit_eq]
  exact ((hself.set rfl _).set rfl _).set rfl _

theorem State.sameButTimeStat_showStep (s : State) : s.sameButTimeStat s.showStep :=
  State.sameButTimeStat.set ⟨rfl, fun _ _ => rfl⟩ rfl _

theorem State.sameButTimeStat.time (h : s.sameButTimeStat t) : t.time = s.time := State.time_of_exceptRegs_eq h.1

theorem State.sameButTimeStat.tick (h : s.sameButTimeStat t) : t.tick = s.tick := State.tick_of_exceptRegs_eq h.1

theorem State.sameButTimeStat.get (h : s.sameButTimeStat t) {f : Rf} (hf : f.addr ≠ R.TIME_STAT) : t.get f = s.get f :=
  State.get_of_rd_eq (h.2 _ hf)

theorem State.sameButTimeStat.bit (h : s.sameButTimeStat t) {f : Rf} (hf : f.addr ≠ R.TIME_STAT) : t.bit f = s.bit f :=
  State.bit_of_rd_eq (h.2 _ hf)

theorem State.time_showTime (s : State) : s.showTime.time = s.time := s.sameButTimeStat_showTime.time

/-- LOCKED, HOLDOVER and STEP_WAIT stand between MODE and PARENT. -/
theorem State.bit_showTime (s : State) {f : Rf} (hlo : 1 ≤ f.lo) (hhi : f.lo + f.len ≤ 4) : s.showTime.bit f = s.bit f := by
  have hw : f.lo + f.len ≤ 32 := by omega
  rw [State.showTime, State.bit_set_apart _ hw (.inr (.inr (by simp only [TIME_STAT.HOPS]; omega))),
    State.bit_set_apart _ hw (.inr (.inr (by simp only [TIME_STAT.PARENT]; omega))),
    State.bit_setBit_apart _ hw (.inr (.inl (by simp only [TIME_STAT.MODE]; omega)))]

/-! ## Modes, ports and conditions -/

theorem State.singleDevice_of_rd (h : t.rd R.MESH_CFG = s.rd R.MESH_CFG) : t.singleDevice = s.singleDevice := by
  rw [State.singleDevice, State.get_of_rd_eq (f := MESH_CFG.NXM1) h, State.get_of_rd_eq (f := MESH_CFG.NYM1) h,
    State.get_of_rd_eq (f := MESH_CFG.NZM1) h, State.singleDevice]

theorem State.timeFixed_of_rd (htime : t.rd R.TIME_CFG = s.rd R.TIME_CFG) (hmesh : t.rd R.MESH_CFG = s.rd R.MESH_CFG) :
    t.timeFixed = s.timeFixed := by
  rw [State.timeFixed, State.bit_of_rd_eq (f := TIME_CFG.MASTER) htime, State.singleDevice_of_rd hmesh, State.timeFixed]

theorem State.timeFixed_of_free (hmaster : s.bit TIME_CFG.MASTER = false) (hsingle : s.singleDevice = false) :
    s.timeFixed = false := by
  rw [State.timeFixed, hmaster, hsingle]
  rfl

theorem State.timeNormal_of_normal (h : s.time.normal = true) : s.timeNormal = true := by
  rw [State.timeNormal, h, Bool.or_true]

theorem State.normal_of_timeNormal (hfixed : s.timeFixed = false) (h : s.timeNormal = true) : s.time.normal = true := by
  rwa [State.timeNormal, hfixed, Bool.false_or] at h

theorem State.sameButTimeStat.timeNormal (h : s.sameButTimeStat t) : t.timeNormal = s.timeNormal := by
  rw [State.timeNormal, State.timeFixed_of_rd (h.2 _ (by decide)) (h.2 _ (by decide)), h.time, State.timeNormal]

theorem State.sameButTimeStat.timeNow (h : s.sameButTimeStat t) : t.timeNow = s.timeNow := by
  have hoff : t.timeOff = s.timeOff := by
    rw [State.timeOff, h.2 R.TIME_OFF_NS (by decide), h.2 R.TIME_OFF_FRAC (by decide), State.timeOff]
  rw [State.timeNow, State.timeOf, h.timeNormal, hoff, h.2 R.TIME_RATE (by decide), h.time, State.timeNow, State.timeOf]

theorem State.sameButTimeStat.timeAgreed (h : s.sameButTimeStat t) : t.timeAgreed = s.timeAgreed := by
  unfold State.timeAgreed
  rw [h.time, h.bit (f := TIME_CTRL.NORMAL) (by decide), h.bit (f := TIME_CFG.AUTO) (by decide), h.timeNormal]

/-- Whether anything runs is not in TIME_STAT. -/
theorem State.sameButTimeStat.timeQuiet (h : s.sameButTimeStat t) : t.timeQuiet = s.timeQuiet := by
  have hpilot (b : Nat) : t.pltIdle b = s.pltIdle b := by
    rw [State.pltIdle, h.get (by simp only [PLT_STAT.STATE, R.PLT_STAT, R.TIME_STAT]; omega), State.pltIdle]
  have hlock (l : Nat) : t.get (LOCK_STAT.STATE l) = s.get (LOCK_STAT.STATE l) := by
    refine h.get ?_
    simp only [LOCK_STAT.STATE, R.LOCK_STAT, lockBase, R.TIME_STAT]
    split_ifs <;> omega
  have hunit (n : Nat) : t.acqBusy n = s.acqBusy n := by
    rw [State.acqBusy, State.acqState, h.get (by simp only [ACQ_STAT.STATE, R.ACQ_STAT, R.TIME_STAT]; omega), State.acqBusy,
      State.acqState]
  simp only [State.timeQuiet, h.time, hpilot, hlock, hunit]

theorem State.timePort_of_rd {p : Nat} (hport : t.rd (R.PORT_STAT p) = s.rd (R.PORT_STAT p))
    (hmesh : t.rd R.MESH_STAT = s.rd R.MESH_STAT) : t.timePort p = s.timePort p := by
  rw [State.timePort, State.bit_of_rd_eq (f := PORT_STAT.UP p) hport, State.get_of_rd_eq (f := MESH_STAT.USE) hmesh,
    State.get_of_rd_eq (f := MESH_STAT.HOLD) hmesh, State.timePort]

/-! ## The way out of normal mode (R332), and the loss of the parent (R328) -/

/-- The state without registers, time state and faults raised. -/
def State.exceptTime (s : State) : State := { s with regs := [], time := .init, raised := [] }

theorem State.eq_of_exceptTime_eq (h : t.exceptTime = s.exceptTime) :
    t = { s with regs := t.regs, time := t.time, raised := t.raised } :=
  congrArg (fun u : State => { u with regs := t.regs, time := t.time, raised := t.raised }) h

theorem State.exceptTime_raise (s : State) (src : Nat) (slots : List Nat) : (s.raise src slots).exceptTime = s.exceptTime :=
  State.raise_keeps (P := fun u => u.exceptTime = s.exceptTime) src slots (fun _ _ h => h) rfl

theorem State.exceptTime_of_exceptRegs_eq (h : t.exceptRegs = s.exceptRegs) : t.exceptTime = s.exceptTime :=
  (congrArg State.exceptTime h :)

theorem State.exceptTime_withTime (s : State) (v : TimeSt) : ({ s with time := v } : State).exceptTime = s.exceptTime := rfl

theorem State.sameButTimeStat.exceptTime (h : s.sameButTimeStat t) : t.exceptTime = s.exceptTime :=
  State.exceptTime_of_exceptRegs_eq h.1

theorem State.rd_raise (s : State) (src : Nat) (slots : List Nat) (a : Nat) : (s.raise src slots).rd a = s.rd a :=
  State.rd_of_regs_eq (s.regs_raise src slots) a

theorem State.time_raise (s : State) (src : Nat) (slots : List Nat) : (s.raise src slots).time = s.time :=
  State.raise_keeps (P := fun u => u.time = s.time) src slots (fun _ _ h => h) rfl

/-- OFF and RATE start from zero. -/
def State.offCleared (s : State) : State := (s.setTimeOff 0).wr R.TIME_RATE 0

theorem State.exceptRegs_offCleared (s : State) : s.offCleared.exceptRegs = s.exceptRegs := by
  simp only [State.offCleared, State.setTimeOff, State.exceptRegs_wr]

theorem State.rd_offCleared_ne (s : State) {a : Nat} (hrate : a ≠ R.TIME_RATE) (hns : a ≠ R.TIME_OFF_NS)
    (hfrac : a ≠ R.TIME_OFF_FRAC) : s.offCleared.rd a = s.rd a :=
  (State.rd_wr_ne _ _ hrate).trans ((State.rd_wr_ne _ _ hfrac).trans (s.rd_wr_ne _ hns))

theorem State.off_offCleared (s : State) :
    s.offCleared.rd R.TIME_RATE = 0 ∧ s.offCleared.rd R.TIME_OFF_NS = 0 ∧ s.offCleared.rd R.TIME_OFF_FRAC = 0 := by
  refine ⟨State.rd_wr_same .., ?_, ?_⟩
  · exact (State.rd_wr_ne _ _ (by decide)).trans ((State.rd_wr_ne _ _ (by decide)).trans (State.rd_wr_same ..))
  · exact (State.rd_wr_ne _ _ (by decide)).trans (State.rd_wr_same ..)

/-- The servo of a device in free-run: nothing of normal mode is left. -/
def TimeSt.freed (v : TimeSt) : TimeSt :=
  { v with normal := false, c0 := v.c, last := none, good := 0, bad := 0, far := 0, hist := [], reload := none }

/-- A device out of normal mode, but for the fault it raises and what TIME_STAT shows of it. -/
def State.timeFreed (s : State) : State := ({ s with time := s.time.freed } : State).offCleared.setBit TIME_STAT.LOCKED false

theorem State.exceptTime_timeFreed (s : State) : s.timeFreed.exceptTime = s.exceptTime := by
  rw [← s.exceptTime_withTime s.time.freed]
  refine State.exceptTime_of_exceptRegs_eq ?_
  rw [State.timeFreed, State.setBit_eq, State.exceptRegs_set, State.exceptRegs_offCleared]

theorem State.timeUnlock_eq (hfixed : s.timeFixed = false) (hnormal : s.time.normal = true) :
    s.timeUnlock = (s.timeFreed.raise Src.TIME_UNLOCK []).showTime := by
  rw [State.timeUnlock, hfixed, hnormal]
  rfl

/-- Out of normal mode: C and the trim keep their values, OFF and RATE are zero. -/
theorem State.timeUnlock_spec (hfixed : s.timeFixed = false) (hnormal : s.time.normal = true) :
    let t := s.timeUnlock
    t.time = s.time.freed ∧ t.rd R.TIME_RATE = 0 ∧ t.rd R.TIME_OFF_NS = 0 ∧ t.rd R.TIME_OFF_FRAC = 0 ∧
      t.bit TIME_STAT.LOCKED = false ∧ t.raised = (s.raise Src.TIME_UNLOCK []).raised := by
  intro t
  have ht : t = (s.timeFreed.raise Src.TIME_UNLOCK []).showTime := State.timeUnlock_eq hfixed hnormal
  have hshown := (s.timeFreed.raise Src.TIME_UNLOCK []).sameButTimeStat_showTime
  have hrd {a : Nat} (ha : a ≠ R.TIME_STAT) : t.rd a = ({ s with time := s.time.freed } : State).offCleared.rd a := by
    rw [ht, hshown.2 a ha, State.rd_raise]
    exact State.rd_set_ne _ _ _ ha
  obtain ⟨hrate, hns, hfrac⟩ := State.off_offCleared ({ s with time := s.time.freed } : State)
  refine ⟨?_, (hrd (by decide)).trans hrate, (hrd (by decide)).trans hns, (hrd (by decide)).trans hfrac, ?_, ?_⟩
  · rw [ht, State.time_showTime, State.time_raise]
    rfl
  · rw [ht, State.bit_showTime (f := TIME_STAT.LOCKED) _ (by decide) (by decide), State.bit,
      State.get_of_regs_eq (State.regs_raise ..), ← State.bit]
    exact State.bit_setBit_same _ _ rfl (by decide)
  · have hrole : s.timeFreed.get TWIN_STAT.ROLE = s.get TWIN_STAT.ROLE := State.get_of_rd_eq
      ((State.rd_set_ne _ _ _ (by decide)).trans (State.rd_offCleared_ne _ (by decide) (by decide) (by decide)))
    rw [ht]
    exact (congrArg State.raised hshown.1 :).trans (State.raised_raise_congr _ _ hrole rfl rfl)

/-- The way out of normal mode writes TIME_STAT, OFF and RATE, and nothing beyond time. -/
theorem State.timeUnlock_cases (s : State) :
    s.timeUnlock = s ∨ (s.timeFixed = false ∧ s.time.normal = true) := by
  by_cases h : s.timeFixed = false ∧ s.time.normal = true
  · exact .inr h
  · refine .inl (if_pos ?_)
    cases hfixed : s.timeFixed <;> cases hnormal : s.time.normal <;> simp [hfixed, hnormal] at h ⊢

theorem State.rd_timeUnlock_ne (s : State) {a : Nat} (hstat : a ≠ R.TIME_STAT) (hrate : a ≠ R.TIME_RATE)
    (hns : a ≠ R.TIME_OFF_NS) (hfrac : a ≠ R.TIME_OFF_FRAC) : s.timeUnlock.rd a = s.rd a := by
  obtain h | ⟨hfixed, hnormal⟩ := s.timeUnlock_cases
  · rw [h]
  · rw [State.timeUnlock_eq hfixed hnormal, (State.sameButTimeStat_showTime _).2 a hstat, State.rd_raise]
    exact (State.rd_set_ne _ _ _ hstat).trans (State.rd_offCleared_ne _ hrate hns hfrac)

theorem State.holdover_timeUnlock (s : State) : s.timeUnlock.bit TIME_STAT.HOLDOVER = s.bit TIME_STAT.HOLDOVER := by
  obtain h | ⟨hfixed, hnormal⟩ := s.timeUnlock_cases
  · rw [h]
  · rw [State.timeUnlock_eq hfixed hnormal, State.bit_showTime (f := TIME_STAT.HOLDOVER) _ (by decide) (by decide), State.bit,
      State.get_of_regs_eq (State.regs_raise ..), ← State.bit]
    exact (State.bit_setBit_apart _ (by decide) (.inr (.inl (by decide)))).trans
      (State.bit_of_rd_eq (State.rd_offCleared_ne _ (by decide) (by decide) (by decide)))

theorem State.exceptTime_timeUnlock (s : State) : s.timeUnlock.exceptTime = s.exceptTime := by
  obtain h | ⟨hfixed, hnormal⟩ := s.timeUnlock_cases
  · rw [h]
  · rw [State.timeUnlock_eq hfixed hnormal, (State.sameButTimeStat_showTime _).exceptTime, State.exceptTime_raise]
    exact s.exceptTime_timeFreed

/-- A device with no parent, in holdover, but for the fault it raises and what TIME_STAT shows of its parent. -/
def State.parentLost (s : State) : State :=
  ({ s with time := { s.time with parent := none, waiting := none } } : State).setBit TIME_STAT.HOLDOVER true

theorem State.timeLose_eq {p : Nat} (h : s.time.parent = some p) :
    s.timeLose = (s.parentLost.raise Src.TIME_HOLDOVER []).showTime := by
  rw [State.timeLose, h]
  rfl

theorem State.timeLose_spec {p : Nat} (h : s.time.parent = some p) :
    let t := s.timeLose
    t.time = { s.time with parent := none, waiting := none } ∧ t.bit TIME_STAT.HOLDOVER = true ∧
      (∀ a, a ≠ R.TIME_STAT → t.rd a = s.rd a) ∧ t.exceptTime = s.exceptTime := by
  intro t
  have ht : t = (s.parentLost.raise Src.TIME_HOLDOVER []).showTime := State.timeLose_eq h
  have hshown := (s.parentLost.raise Src.TIME_HOLDOVER []).sameButTimeStat_showTime
  rw [ht]
  refine ⟨?_, ?_, fun a ha => ?_, ?_⟩
  · rw [State.time_showTime, State.time_raise]
    rfl
  · rw [State.bit_showTime (f := TIME_STAT.HOLDOVER) _ (by decide) (by decide), State.bit,
      State.get_of_regs_eq (State.regs_raise ..), ← State.bit]
    exact State.bit_setBit_same _ _ rfl (by decide)
  · rw [hshown.2 a ha, State.rd_raise]
    exact State.rd_set_ne _ _ _ ha
  · rw [hshown.exceptTime, State.exceptTime_raise, State.parentLost, State.setBit_eq,
      State.exceptTime_of_exceptRegs_eq (State.exceptRegs_set ..), State.exceptTime_withTime]

end

end Sys2Proof.Machine
end

section
/-! PROOF. System time: exchanges, the answer to a RESP, requests, the switch of modes, reads and the wrap (R324 to R334). -/

namespace Sys2Proof.Machine

section
variable {s : State}

/-! ## Frames of an exchange (R325) -/

/-- The bits of a TIME block below HOPS: its type and kind, and SEQ. -/
theorem State.timeBlock_bits (s : State) (kind : Bool) (seq : BitVec 8) :
    (s.timeBlock kind seq).toNat % 2 ^ 17 = 0x55 + flagNat kind * 2 ^ 8 + seq.toNat * 2 ^ 9 := by
  have hhops : s.get TIME_STAT.HOPS < 2 ^ 5 := Nat.mod_lt _ (by decide)
  have hseq := seq.isLt
  have hflag (b : Bool) : flagNat b ≤ 1 := by cases b <;> decide
  have hkind := hflag kind
  have hnormal := hflag s.timeNormal
  have hlocked := hflag (s.bit TIME_CFG.MASTER || s.bit TIME_STAT.LOCKED)
  rw [State.timeBlock, BitVec.toNat_ofNat]
  omega

theorem State.timeBlock_fields (s : State) (kind : Bool) (seq : BitVec 8) :
    (s.timeBlock kind seq).extractLsb' 0 8 = 0x55 ∧ (s.timeBlock kind seq).getLsbD 8 = kind ∧
      (s.timeBlock kind seq).extractLsb' 9 8 = seq := by
  have hbits := s.timeBlock_bits kind seq
  have hseq := seq.isLt
  have hflag : flagNat kind ≤ 1 := by cases kind <;> decide
  refine ⟨BitVec.eq_of_toNat_eq ?_, ?_, BitVec.eq_of_toNat_eq ?_⟩
  · rw [BitVec.extractLsb'_toNat, Nat.shiftRight_zero]
    change _ = 0x55
    omega
  · have hbit : (s.timeBlock kind seq).toNat / 2 ^ 8 % 2 = flagNat kind := by omega
    rw [BitVec.getLsbD, Nat.testBit_eq_decide_div_mod_eq, hbit]
    cases kind <;> rfl
  · rw [BitVec.extractLsb'_toNat, Nat.shiftRight_eq_div_pow]
    omega

/-- A RESP block's type and kind. -/
theorem State.timeBlock_resp (s : State) (seq : BitVec 8) : (s.timeBlock true seq).extractLsb' 0 9 = 0x155 := by
  have hbits := s.timeBlock_bits true seq
  have hflag : flagNat true = 1 := rfl
  refine BitVec.eq_of_toNat_eq ?_
  rw [BitVec.extractLsb'_toNat, Nat.shiftRight_zero]
  change _ = 0x155
  omega

theorem timeData_content (n : Nat) (seq : BitVec 8) (content : BitVec 56) : (timeData n seq content).extractLsb' 8 56 = content :=
  BitVec.extractLsb'_append_eq_left

/-! ## A REQ sent (R327) -/

section
variable {p : Fin 8}

/-- The device takes the parent of R328 and shows it. -/
def State.parentChosen (s : State) : State := ({ s with time := { s.time with parent := s.timeChoice } } : State).showTime

/-- The REQ that asks on port `p`, stamped `t1`. -/
def State.timeReq (s : State) (p : Nat) (t1 : BitVec 56) : TimeFrame :=
  let seq := s.time.seq + 1
  { port := p, block := s.timeBlock false seq, data1 := timeData 1 seq t1, data2 := timeData 2 seq (s.timeContent t1), data3 := 0 }

/-- An exchange is open on port `p`. -/
def State.timeAsked (s : State) (p : Nat) (t1 : BitVec 56) : State :=
  { s with time := { s.time with seq := s.time.seq + 1, waiting := some (s.time.seq + 1, p, t1), lastReq := some s.tick,
                                 sent := some (s.timeReq p t1) } }

/-- 64 µs have passed since the last REQ (R327). -/
def State.reqDue (s : State) : Prop := ∀ v, s.time.lastReq = some v → 96000 ≤ Tick.diff v s.tick

theorem exec_timeExchange {t1 : BitVec 56} (hdue : s.reqDue) (hmaster : s.bit TIME_CFG.MASTER = false)
    (hchoice : s.timeChoice = some p.val) : exec (.timeExchange p t1) s = .next (s.parentChosen.timeAsked p t1) := by
  refine (if_neg ?_ : execTimeExchange p t1 s = _)
  rw [hmaster, hchoice]
  cases hlast : s.time.lastReq with
  | none => simp
  | some v => simp [hdue v hlast]

theorem exec_timeExchange_spec {t1 : BitVec 56} (hdue : s.reqDue) (hmaster : s.bit TIME_CFG.MASTER = false)
    (hchoice : s.timeChoice = some p.val) : ∃ t f, exec (.timeExchange p t1) s = .next t ∧
      t.time.parent = some p.val ∧ t.time.seq = s.time.seq + 1 ∧ t.time.waiting = some (s.time.seq + 1, p.val, t1) ∧
      t.time.lastReq = some s.tick ∧ t.time.sent = some f ∧ f.port = p.val ∧ f.block.extractLsb' 0 8 = 0x55 ∧
      f.block.getLsbD 8 = false ∧ f.block.extractLsb' 9 8 = s.time.seq + 1 ∧ f.data1.extractLsb' 8 56 = t1 ∧
      t.time.c = s.time.c ∧ t = { s with regs := t.regs, time := t.time } := by
  let u := s.parentChosen
  have hshown : State.sameButTimeStat ({ s with time := { s.time with parent := s.timeChoice } } : State) u :=
    State.sameButTimeStat_showTime _
  have htime : u.time = { s.time with parent := s.timeChoice } := hshown.time
  have htick : u.tick = s.tick := hshown.tick
  obtain ⟨htype, hkind, hseq⟩ := u.timeBlock_fields false (u.time.seq + 1)
  have hseqEq : u.time.seq = s.time.seq := by rw [htime]
  rw [hseqEq] at hseq
  refine ⟨u.timeAsked p t1, u.timeReq p t1, exec_timeExchange hdue hmaster hchoice, ?_, ?_, ?_, ?_, rfl, rfl, htype, hkind, ?_,
    timeData_content .., ?_, ?_⟩
  · rw [State.timeAsked, htime, hchoice]
  · rw [State.timeAsked, htime]
  · rw [State.timeAsked, htime]
  · rw [State.timeAsked, htick]
  · rw [State.timeReq, hseqEq, hseq]
  · rw [State.timeAsked, htime]
  · exact congrArg (fun v : State => { v with regs := u.regs, time := (u.timeAsked p t1).time }) hshown.1

theorem exec_timeExchange_idle {t1 : BitVec 56} (h : s.bit TIME_CFG.MASTER = true ∨ ¬ s.reqDue) :
    exec (.timeExchange p t1) s = .next s := by
  refine (if_pos ?_ : execTimeExchange p t1 s = _)
  obtain h | h := h
  · rw [h, Bool.or_true]
  · obtain ⟨v, hlast, hlate⟩ : ∃ v, s.time.lastReq = some v ∧ Tick.diff v s.tick < 96000 := by
      simpa [State.reqDue] using h
    rw [hlast]
    simp [Int.not_le.mpr hlate]

/-! ## A REQ answered (R327) -/

/-- The RESP on port `p` of exchange `seq`, stamped `t3`, to a REQ that came at `t2`. -/
def State.timeResp (s : State) (p : Nat) (seq : BitVec 8) (t2 t3 : BitVec 56) : TimeFrame :=
  { port := p, block := s.timeBlock true seq, data1 := timeData 1 seq t3, data2 := timeData 2 seq (s.timeContent t3),
    data3 := timeData 3 seq t2 }

def State.timeSent (s : State) (f : TimeFrame) : State := { s with time := { s.time with sent := some f } }

theorem exec_timeReqReceive {blk : BitVec 64} {t2 t3 : BitVec 56} (hport : s.timePort p = true)
    (hblk : blk.extractLsb' 0 9 = 0x055) :
    exec (.timeReqReceive p blk t2 t3) s =
      .next ((s.timeHear p blk).timeSent ((s.timeHear p blk).timeResp p (blk.extractLsb' 9 8) t2 t3)) := by
  refine (if_neg ?_ : execTimeReqReceive p blk t2 t3 s = _)
  rw [hport, BitVec.setWidth_eq_extractLsb' (by decide), hblk]
  decide

theorem TimeSt.nb_setNb (v : TimeSt) (p : Nat) (n : TimeNb) : (v.setNb p n).nb p = n := Store.read_write_same ..

theorem State.nb_timeHear (s : State) (p : Nat) (blk : BitVec 64) : (s.timeHear p blk).time.nb p =
    ⟨blk.extractLsb' 17 5, blk.getLsbD 22, blk.getLsbD 23⟩ := TimeSt.nb_setNb ..

theorem exec_timeReqReceive_spec {blk : BitVec 64} {t2 t3 : BitVec 56} (hport : s.timePort p = true)
    (hblk : blk.extractLsb' 0 9 = 0x055) : ∃ t f, exec (.timeReqReceive p blk t2 t3) s = .next t ∧
      t.time.sent = some f ∧ f.port = p.val ∧ f.block.extractLsb' 0 9 = 0x155 ∧
      f.block.extractLsb' 9 8 = blk.extractLsb' 9 8 ∧ f.data1.extractLsb' 8 56 = t3 ∧ f.data3.extractLsb' 8 56 = t2 ∧
      (t.time.nb p).hops = blk.extractLsb' 17 5 ∧
      t = { s with time := t.time } := by
  obtain ⟨-, -, hseq⟩ := (s.timeHear p blk).timeBlock_fields true (blk.extractLsb' 9 8)
  exact ⟨_, _, exec_timeReqReceive hport hblk, rfl, rfl, State.timeBlock_resp .., hseq, timeData_content .., timeData_content ..,
    congrArg TimeNb.hops (s.nb_timeHear p blk), rfl⟩

theorem exec_timeReqReceive_refused {blk : BitVec 64} {t2 t3 : BitVec 56} (h : s.timePort p = false) :
    exec (.timeReqReceive p blk t2 t3) s = .next s := by
  refine (if_pos ?_ : execTimeReqReceive p blk t2 t3 s = _)
  rw [h]
  simp

end

/-! ## No RESP (R327, R328) -/

section
variable {p : Fin 8} {k : BitVec 8} {x : BitVec 56} {u : Tick}

/-- The exchange ends without a RESP, and is counted. -/
def State.exchangeMissed (s : State) : State :=
  ({ s with time := { s.time with waiting := none } } : State).bump TIME_EXCH_CNT.COUNT

theorem exec_exchangeTimeout (hwaiting : s.time.waiting = some (k, p.val, x)) (hlast : s.time.lastReq = some u)
    (hlate : 24000 ≤ Tick.diff u s.tick) : exec .exchangeTimeout s =
      .next (s.exchangeMissed.when (s.time.parent == some p.val && !s.timePort p) (·.timeLose)) := by
  have hexec : exec .exchangeTimeout s = execExchangeTimeout s := rfl
  have hrd (a : Nat) (ha : a ≠ R.TIME_EXCH_CNT) : s.exchangeMissed.rd a = s.rd a := State.rd_set_ne _ _ _ ha
  have hport : s.exchangeMissed.timePort p = s.timePort p :=
    State.timePort_of_rd (hrd _ (by have := p.isLt; unfold R.PORT_STAT R.TIME_EXCH_CNT; omega)) (hrd _ (by decide))
  rw [hexec, execExchangeTimeout, hwaiting, hlast]
  refine (if_neg (Int.not_lt.mpr hlate)).trans ?_
  rw [← hport]
  rfl

theorem exec_exchangeTimeout_spec (hwaiting : s.time.waiting = some (k, p.val, x)) (hlast : s.time.lastReq = some u)
    (hlate : 24000 ≤ Tick.diff u s.tick) : ∃ t, exec .exchangeTimeout s = .next t ∧ t.time.waiting = none ∧
      t.get TIME_EXCH_CNT.COUNT = min (s.get TIME_EXCH_CNT.COUNT + 1) (2 ^ 32 - 1) ∧
      (s.time.parent = some p.val → s.timePort p = false → t.time.parent = none ∧ t.bit TIME_STAT.HOLDOVER = true) ∧
      (s.timePort p = true → t.time.parent = s.time.parent) ∧
      t = { s with regs := t.regs, time := t.time, raised := t.raised } := by
  have hexec := exec_exchangeTimeout hwaiting hlast hlate
  have hmissed : s.exchangeMissed.time = { s.time with waiting := none } := rfl
  have hframe : s.exchangeMissed.exceptTime = s.exceptTime := rfl
  have hcount : s.exchangeMissed.get TIME_EXCH_CNT.COUNT = min (s.get TIME_EXCH_CNT.COUNT + 1) (2 ^ 32 - 1) :=
    State.get_bump_same _ _ _ (by decide)
  by_cases hlost : s.time.parent = some p.val ∧ s.timePort p = false
  · obtain ⟨hparent, hport⟩ := hlost
    rw [hparent, hport, beq_self_eq_true] at hexec
    obtain ⟨htime, hholdover, hrd, hlose⟩ := State.timeLose_spec (s := s.exchangeMissed) (p := p) (by rw [hmissed, hparent])
    refine ⟨_, hexec, congrArg TimeSt.waiting htime, (State.get_of_rd_eq (hrd _ (by decide))).trans hcount,
      fun _ _ => ⟨congrArg TimeSt.parent htime, hholdover⟩, fun hup => absurd (hport.symm.trans hup) Bool.false_ne_true,
      State.eq_of_exceptTime_eq (hlose.trans hframe)⟩
  · have hkept : (s.time.parent == some p.val && !s.timePort p) = false := by simpa using hlost
    rw [hkept] at hexec
    exact ⟨_, hexec, rfl, hcount, fun hparent hport => absurd ⟨hparent, hport⟩ hlost, fun _ => rfl,
      State.eq_of_exceptTime_eq hframe⟩

theorem exec_exchangeTimeout_none (h : s.time.waiting = none) : exec .exchangeTimeout s = .next s := by
  have hexec : exec .exchangeTimeout s = execExchangeTimeout s := rfl
  rw [hexec, execExchangeTimeout, h]

end

/-! ## Requests (R324, R331, R332) -/

theorem exec_timeNormalRequest_normal (h : s.timeNormal = true) : exec .timeNormalRequest s = .next s :=
  congrArg Host.Outcome.next (if_pos h)

theorem exec_timeNormalRequest (h : s.timeNormal = false) :
    exec .timeNormalRequest s = .next (s.setBit TIME_CTRL.NORMAL true).showStep :=
  congrArg Host.Outcome.next (if_neg (Bool.not_eq_true _ ▸ h))

theorem exec_timeNormalRequest_spec (h : s.timeNormal = false) : ∃ t, exec .timeNormalRequest s = .next t ∧
    t.bit TIME_CTRL.NORMAL = true ∧ s.regsOnly t [TIME_CTRL.NORMAL, TIME_STAT.STEP_WAIT] := by
  have hshown := (s.setBit TIME_CTRL.NORMAL true).sameButTimeStat_showStep
  have hfields : s.fieldsOnly s [TIME_CTRL.NORMAL, TIME_STAT.STEP_WAIT] := State.fieldsOnly_of_regs_eq rfl _
  refine ⟨_, exec_timeNormalRequest h, ?_, State.eq_of_exceptRegs_eq hshown.1,
    (hfields.set (.head _) _).set (.tail _ (.head _)) _⟩
  rw [hshown.bit (by decide)]
  exact State.bit_setBit_same _ _ rfl (by decide)

theorem exec_timeFree_spec (hmaster : s.bit TIME_CFG.MASTER = false) (hsingle : s.singleDevice = false)
    (hnormal : s.time.normal = true) : ∃ t, exec .timeFree s = .next t ∧ t.timeNormal = false ∧ t.time.c = s.time.c ∧
      t.time.c0 = s.time.c ∧ t.tick = s.tick ∧ t.rd R.TIME_RATE = 0 ∧ t.rd R.TIME_OFF_NS = 0 ∧ t.rd R.TIME_OFF_FRAC = 0 ∧
      t.get TIME_TRIM.TRIM = s.get TIME_TRIM.TRIM ∧ t.bit TIME_STAT.LOCKED = false ∧
      t.raised = (s.raise Src.TIME_UNLOCK []).raised ∧ t = { s with regs := t.regs, time := t.time, raised := t.raised } := by
  let v := s.setBit TIME_CTRL.FREE true
  have hrd {a : Nat} (ha : a ≠ R.TIME_CTRL) : v.rd a = s.rd a := State.rd_set_ne _ _ _ ha
  have hvfixed : v.timeFixed = false :=
    (State.timeFixed_of_rd (hrd (by decide)) (hrd (by decide))).trans (State.timeFixed_of_free hmaster hsingle)
  obtain ⟨htime, hrate, hns, hfrac, hlocked, hraised⟩ := State.timeUnlock_spec hvfixed hnormal
  have hframe : v.timeUnlock.exceptTime = s.exceptTime := v.exceptTime_timeUnlock
  have hkept {a : Nat} (hstat : a ≠ R.TIME_STAT) (h1 : a ≠ R.TIME_RATE) (h2 : a ≠ R.TIME_OFF_NS) (h3 : a ≠ R.TIME_OFF_FRAC)
      (hctrl : a ≠ R.TIME_CTRL) : v.timeUnlock.rd a = s.rd a := (v.rd_timeUnlock_ne hstat h1 h2 h3).trans (hrd hctrl)
  have hfixed : v.timeUnlock.timeFixed = s.timeFixed := State.timeFixed_of_rd
    (hkept (by decide) (by decide) (by decide) (by decide) (by decide))
    (hkept (by decide) (by decide) (by decide) (by decide) (by decide))
  refine ⟨v.timeUnlock, rfl, ?_, (congrArg TimeSt.c htime :), (congrArg TimeSt.c0 htime :),
    (congrArg State.tick hframe :), hrate, hns, hfrac,
    State.get_of_rd_eq (hkept (by decide) (by decide) (by decide) (by decide) (by decide)), hlocked, ?_,
    State.eq_of_exceptTime_eq hframe⟩
  · rw [State.timeNormal, hfixed, State.timeFixed_of_free hmaster hsingle, htime]
    rfl
  · exact hraised.trans (State.raised_raise_congr _ _ (State.get_of_rd_eq (hrd (by decide))) rfl rfl)

theorem exec_timeSet (h : s.bit TIME_CFG.MASTER = true) : exec .timeSet s = .next (s.setBit TIME_CTRL.SET true) :=
  congrArg Host.Outcome.next (if_pos h)

theorem exec_timeSet_refused (h : s.bit TIME_CFG.MASTER = false) : exec .timeSet s = .next s :=
  congrArg Host.Outcome.next (if_neg (Bool.not_eq_true _ ▸ h))

/-! ## The switch to normal mode (R331) -/

/-- TICK steps by D, and C takes the corrected TIME. -/
def State.timeStepped (s : State) : State :=
  { s with
    tick := s.tick + BitVec.ofInt 48 s.time.ticks,
    time := { s.time with normal := true, c := s.timeNow, good := 0, bad := 0, far := 0, hist := [], last := none, ticks := 0 } }

/-- The trim takes the remaining phase; OFF, RATE and the request are cleared. -/
def State.switchShown (s : State) : State :=
  ((s.set TIME_TRIM.TRIM (BitVec.ofInt 13 (max (-2667) (min 2667 (-s.time.phase)))).toNat).offCleared.setBit
    TIME_CTRL.NORMAL false).setBit TIME_STAT.STEP_WAIT false

theorem exec_timeNormalSwitch (hagreed : s.timeAgreed = true) (hquiet : s.timeQuiet = true) (htick : s.tick.toNat % 4096 = 0) :
    exec .timeNormalSwitch s = .next s.showStep.timeStepped.switchShown.showTime := by
  have hshown := s.sameButTimeStat_showStep
  refine (if_neg ?_ : execTimeNormalSwitch s = _)
  rw [hshown.timeAgreed, hshown.timeQuiet, hshown.tick, hagreed, hquiet, htick]
  decide

theorem State.exceptRegs_switchShown (s : State) : s.switchShown.exceptRegs = s.exceptRegs := by
  rw [State.switchShown, State.setBit_eq, State.exceptRegs_set, State.setBit_eq, State.exceptRegs_set, State.exceptRegs_offCleared,
    State.exceptRegs_set]

/-- A device that has switched: OFF, RATE and the request read zero. -/
theorem State.switchShown_showTime_spec (s : State) :
    let t := s.switchShown.showTime
    t.exceptRegs = s.exceptRegs ∧ t.rd R.TIME_RATE = 0 ∧ t.rd R.TIME_OFF_NS = 0 ∧ t.rd R.TIME_OFF_FRAC = 0 ∧
      t.bit TIME_CTRL.NORMAL = false := by
  intro t
  have hshown := s.switchShown.sameButTimeStat_showTime
  obtain ⟨hrate, hns, hfrac⟩ :=
    (s.set TIME_TRIM.TRIM (BitVec.ofInt 13 (max (-2667) (min 2667 (-s.time.phase)))).toNat).off_offCleared
  have hrd {a : Nat} (hstat : a ≠ R.TIME_STAT) (hctrl : a ≠ R.TIME_CTRL) : t.rd a =
      (s.set TIME_TRIM.TRIM (BitVec.ofInt 13 (max (-2667) (min 2667 (-s.time.phase)))).toNat).offCleared.rd a := by
    rw [hshown.2 a hstat, State.switchShown, State.setBit_eq, State.rd_set_ne _ _ _ hstat, State.setBit_eq,
      State.rd_set_ne _ _ _ hctrl]
  refine ⟨hshown.1.trans s.exceptRegs_switchShown, (hrd (by decide) (by decide)).trans hrate,
    (hrd (by decide) (by decide)).trans hns, (hrd (by decide) (by decide)).trans hfrac, ?_⟩
  rw [hshown.bit (by decide), State.switchShown, State.setBit_eq, State.bit_set_apart _ (by decide) (.inl (by decide))]
  exact State.bit_setBit_same _ _ rfl (by decide)

/-- The state without tick, registers and time state. -/
def State.exceptStep (s : State) : State := { s with tick := 0, regs := [], time := .init }

theorem State.eq_of_exceptStep_eq {t : State} (h : t.exceptStep = s.exceptStep) :
    t = { s with tick := t.tick, regs := t.regs, time := t.time } :=
  congrArg (fun u : State => { u with tick := t.tick, regs := t.regs, time := t.time }) h

theorem State.exceptStep_of_exceptRegs_eq {t : State} (h : t.exceptRegs = s.exceptRegs) : t.exceptStep = s.exceptStep :=
  (congrArg State.exceptStep h :)

theorem State.exceptStep_timeStepped (s : State) : s.timeStepped.exceptStep = s.exceptStep := rfl

theorem State.showStep_timeStepped_spec (s : State) :
    let t := s.showStep.timeStepped
    t.tick = s.tick + BitVec.ofInt 48 s.time.ticks ∧ t.time.c = s.timeNow ∧ t.time.normal = true ∧
      t.exceptStep = s.exceptStep := by
  have hshown := s.sameButTimeStat_showStep
  refine ⟨?_, hshown.timeNow, rfl,
    s.showStep.exceptStep_timeStepped.trans (State.exceptStep_of_exceptRegs_eq hshown.1)⟩
  rw [State.timeStepped, hshown.tick, hshown.time]

theorem exec_timeNormalSwitch_spec (hagreed : s.timeAgreed = true) (hquiet : s.timeQuiet = true)
    (htick : s.tick.toNat % 4096 = 0) :
    ∃ t, exec .timeNormalSwitch s = .next t ∧
      t.tick = s.tick + BitVec.ofInt 48 s.time.ticks ∧ t.time.c = s.timeNow ∧ t.timeNormal = true ∧ t.rd R.TIME_RATE = 0 ∧
      t.rd R.TIME_OFF_NS = 0 ∧ t.rd R.TIME_OFF_FRAC = 0 ∧ t.bit TIME_CTRL.NORMAL = false ∧
      t = { s with tick := t.tick, regs := t.regs, time := t.time } := by
  obtain ⟨hstep, hc, hnormal, hrest⟩ := s.showStep_timeStepped_spec
  obtain ⟨hregs, hrate, hns, hfrac, hrequest⟩ := s.showStep.timeStepped.switchShown_showTime_spec
  have htime := State.time_of_exceptRegs_eq hregs
  exact ⟨_, exec_timeNormalSwitch hagreed hquiet htick, (State.tick_of_exceptRegs_eq hregs).trans hstep, by rw [htime, hc],
    State.timeNormal_of_normal (by rw [htime, hnormal]), hrate, hns, hfrac, hrequest,
    State.eq_of_exceptStep_eq ((State.exceptStep_of_exceptRegs_eq hregs).trans hrest)⟩

theorem exec_timeNormalSwitch_waits (hagreed : s.timeAgreed = true) (hquiet : s.timeQuiet = false) :
    exec .timeNormalSwitch s = .next (s.setBit TIME_STAT.STEP_WAIT true) := by
  have hshown := s.sameButTimeStat_showStep
  have hstep : s.showStep = s.setBit TIME_STAT.STEP_WAIT true := by
    rw [State.showStep, hagreed, hquiet]
    rfl
  refine (if_pos ?_ : execTimeNormalSwitch s = _).trans (congrArg Host.Outcome.next hstep)
  rw [hshown.timeQuiet, hquiet]
  simp

/-! ## The reload (R329) -/

theorem exec_timeParentReload {d : BitVec 64} (h : s.time.reload = some d) (htick : s.tick.toNat % 4096 = 0) :
    exec .timeParentReload s = .next { s with time := { s.time with c := s.time.c + d, reload := none } } := by
  have hexec : exec .timeParentReload s = execTimeParentReload s := rfl
  rw [hexec, execTimeParentReload, h]
  exact if_neg (not_not.mpr htick)

theorem exec_timeParentReload_idle (h : s.time.reload = none ∨ s.tick.toNat % 4096 ≠ 0) :
    exec .timeParentReload s = .next s := by
  have hexec : exec .timeParentReload s = execTimeParentReload s := rfl
  rw [hexec, execTimeParentReload]
  cases hreload : s.time.reload with
  | none => rfl
  | some d => exact if_pos (h.resolve_left (hreload ▸ Option.some_ne_none d))

/-! ## Reads and the wrap (R334) -/

/-- TIME, TICK and the raw count of this tick are latched. -/
def State.timeLatched (s : State) : State :=
  (((((s.wr R.TIME_NS (s.timeNow.extractLsb' 32 32)).wr R.TIME_FRAC (s.timeNow.setWidth 32)).setPair R.TIME_TICK_LO s.tick).wr
    R.TIME_RAW_NS (s.time.c.extractLsb' 32 32)).wr R.TIME_RAW_FRAC (s.time.c.setWidth 32))

theorem exec_timeNsRead (s : State) : exec .timeNsRead s = .next (s.timeLatched.answer (s.timeNow.extractLsb' 32 32)) := rfl

theorem State.exceptRegs_timeLatched (s : State) : s.timeLatched.exceptRegs = s.exceptRegs := by
  simp only [State.timeLatched, State.setPair, State.exceptRegs_wr]

theorem State.rd_timeLatched (s : State) : s.timeLatched.rd R.TIME_NS = s.timeNow.extractLsb' 32 32 ∧
    s.timeLatched.rd R.TIME_FRAC = s.timeNow.extractLsb' 0 32 ∧ s.timeLatched.pair R.TIME_TICK_LO = s.tick ∧
    s.timeLatched.rd R.TIME_RAW_NS = s.time.c.extractLsb' 32 32 := by
  have hlow : s.timeNow.setWidth 32 = s.timeNow.extractLsb' 0 32 := BitVec.setWidth_eq_extractLsb' (by decide)
  refine ⟨?_, ?_, ?_, ?_⟩
  · simp [State.timeLatched, State.setPair, State.rd_wr, R.TIME_NS, R.TIME_FRAC, R.TIME_TICK_LO, R.TIME_RAW_NS, R.TIME_RAW_FRAC]
  · simp [State.timeLatched, State.setPair, State.rd_wr, R.TIME_FRAC, R.TIME_TICK_LO, R.TIME_RAW_NS, R.TIME_RAW_FRAC, hlow]
  · rw [State.timeLatched, State.pair, State.rd_wr_ne _ _ (by decide), State.rd_wr_ne _ _ (by decide),
      State.rd_wr_ne _ _ (by decide), State.rd_wr_ne _ _ (by decide)]
    exact State.pair_setPair ..
  · rw [State.timeLatched, State.rd_wr_ne _ _ (by decide), State.rd_wr_same]

theorem State.rd_answer (s : State) (w : Word) (a : Nat) : (s.answer w).rd a = s.rd a := rfl

theorem exec_timeNsRead_spec (s : State) : ∃ t, exec .timeNsRead s = .next t ∧
    t.answered = some (s.timeNow.extractLsb' 32 32) ∧ t.rd R.TIME_NS = s.timeNow.extractLsb' 32 32 ∧
    t.rd R.TIME_FRAC = s.timeNow.extractLsb' 0 32 ∧ t.pair R.TIME_TICK_LO = s.tick ∧
    t.rd R.TIME_RAW_NS = s.time.c.extractLsb' 32 32 ∧ t = { s with regs := t.regs, answered := t.answered } := by
  obtain ⟨hns, hfrac, htick, hraw⟩ := s.rd_timeLatched
  exact ⟨_, exec_timeNsRead s, rfl, (State.rd_answer ..).trans hns, (State.rd_answer ..).trans hfrac,
    (State.pair_answer ..).trans htick, (State.rd_answer ..).trans hraw, State.answer_of_exceptRegs_eq s.exceptRegs_timeLatched _⟩

theorem exec_timeWrap (hnormal : s.timeNormal = true) (hbefore : ((s.time.c - timeInc).extractLsb' 32 32).msb = true)
    (hnow : s.timeNs.msb = false) (hdone : s.time.wrapDone = false) :
    exec .timeWrap s = .next (({ s with time := { s.time with wrapDone := true } } : State).pulse 392) := by
  refine (if_pos ?_ : execTimeWrap s = _)
  simp only [hnormal, if_true, Bool.true_or, hbefore, hnow, hdone, Bool.not_false, Bool.and_self]

theorem exec_timeWrap_idle (h : s.timeNs.msb = true ∨ s.time.wrapDone = true) : exec .timeWrap s = .next s := by
  refine (if_neg ?_ : execTimeWrap s = _)
  obtain h | h := h <;> simp [h]

end

end Sys2Proof.Machine
end

section
/-! PROOF. A RESP of the awaited exchange: what the child measures, and what it makes of it in either mode (R327 to R331). -/

namespace Sys2Proof.Machine

section
variable {s t : State}

/-! ## What an answer leaves alone -/

/-- What outlasts the servo's work on an exchange: the registers that decide the mode, HOLDOVER, the open exchange, D, what the
neighbours advertise, the raw count, the parent, and all that is not time. -/
def State.timeKept (s : State) : Word × Word × Bool × Option (BitVec 8 × Nat × BitVec 56) × Int × Store TimeNb ×
    BitVec 64 × Option Nat × State :=
  (s.rd R.TIME_CFG, s.rd R.MESH_CFG, s.bit TIME_STAT.HOLDOVER, s.time.waiting, s.time.ticks, s.time.nbs, s.time.c, s.time.parent,
    s.exceptTime)

/-- A register that an exchange may write without a word on the mode or the parent. -/
abbrev timeShows (a : Nat) : Prop := a ≠ R.TIME_CFG ∧ a ≠ R.MESH_CFG ∧ a ≠ R.TIME_STAT

theorem State.timeKept_wr (s : State) {a : Nat} (w : Word) (h : timeShows a) : (s.wr a w).timeKept = s.timeKept := by
  obtain ⟨hcfg, hmesh, hstat⟩ := h
  rw [State.timeKept, State.rd_wr_ne _ _ hcfg.symm, State.rd_wr_ne _ _ hmesh.symm,
    State.bit_of_rd_eq (f := TIME_STAT.HOLDOVER) (s.rd_wr_ne w hstat.symm)]
  rfl

theorem State.timeKept_set (s : State) {f : Rf} (v : Nat) (h : timeShows f.addr) : (s.set f v).timeKept = s.timeKept :=
  s.timeKept_wr _ h

/-- A field of TIME_STAT beside HOLDOVER. -/
theorem State.timeKept_setStat (s : State) {f : Rf} (v : Nat) (haddr : f.addr = R.TIME_STAT)
    (h : f.lo + f.len ≤ 2 ∨ 3 ≤ f.lo) : (s.set f v).timeKept = s.timeKept := by
  have hne {a : Nat} (ha : a ≠ R.TIME_STAT) : a ≠ f.addr := haddr ▸ ha
  rw [State.timeKept, s.rd_set_ne _ _ (hne (by decide)), s.rd_set_ne _ _ (hne (by decide)),
    State.bit_set_apart (g := TIME_STAT.HOLDOVER) _ (by decide) (.inr h)]
  rfl

theorem State.timeKept_showTime (s : State) : s.showTime.timeKept = s.timeKept := by
  rw [State.showTime, State.timeKept_setStat _ _ rfl (.inr (by decide)), State.timeKept_setStat _ _ rfl (.inr (by decide)),
    State.setBit_eq, State.timeKept_setStat _ _ rfl (.inl (by decide))]

theorem State.timeKept_showStep (s : State) : s.showStep.timeKept = s.timeKept :=
  s.timeKept_setStat _ rfl (.inr (by decide))

theorem State.timeKept_timeUnlock (s : State) : s.timeUnlock.timeKept = s.timeKept := by
  have htime : s.timeUnlock.time.waiting = s.time.waiting ∧ s.timeUnlock.time.ticks = s.time.ticks ∧
      s.timeUnlock.time.nbs = s.time.nbs ∧ s.timeUnlock.time.c = s.time.c ∧ s.timeUnlock.time.parent = s.time.parent := by
    obtain h | ⟨hfixed, hnormal⟩ := s.timeUnlock_cases
    · rw [h]
      exact ⟨rfl, rfl, rfl, rfl, rfl⟩
    · obtain ⟨htime, -⟩ := State.timeUnlock_spec hfixed hnormal
      rw [htime]
      exact ⟨rfl, rfl, rfl, rfl, rfl⟩
  obtain ⟨hwaiting, hticks, hnbs, hc, hparent⟩ := htime
  rw [State.timeKept, s.rd_timeUnlock_ne (by decide) (by decide) (by decide) (by decide),
    s.rd_timeUnlock_ne (by decide) (by decide) (by decide) (by decide), s.holdover_timeUnlock, s.exceptTime_timeUnlock,
    hwaiting, hticks, hnbs, hc, hparent]
  rfl

/-- The servo in normal mode writes the trim and LOCKED, and may leave the mode. -/
theorem State.timeKept_timeServo (s : State) (e : Int) : (s.timeServo e).timeKept = s.timeKept := by
  unfold State.timeServo
  extract_lets i trim want held trimmed time counted locked unlocked
  have htrimmed : trimmed.timeKept = s.timeKept := s.timeKept_set _ (by decide)
  have hcounted : counted.timeKept = s.timeKept := htrimmed
  have hlocked : locked.timeKept = s.timeKept :=
    (State.when_same _ State.timeKept (State.timeKept_setStat _ _ rfl (.inl (by decide)))).trans hcounted
  have hunlocked : unlocked.timeKept = s.timeKept :=
    (State.when_same _ State.timeKept (State.timeKept_setStat _ _ rfl (.inl (by decide)))).trans hlocked
  exact (State.when_same _ State.timeKept (State.timeKept_timeUnlock _)).trans hunlocked

theorem State.timeKept_setTimeOff (s : State) (v : BitVec 64) : (s.setTimeOff v).timeKept = s.timeKept :=
  (State.timeKept_wr _ _ (by decide)).trans (s.timeKept_wr _ (by decide))

/-- The correction in free-run is in OFF, RATE and C₀. -/
theorem State.timeFree_spec (s : State) (parent : BitVec 64) (t4 : BitVec 56) :
    (s.timeFree parent t4).timeKept = s.timeKept ∧ (s.timeFree parent t4).time.c0 = s.time.c ∧
      (s.timeFree parent t4).time.hist = s.time.hist := by
  unfold State.timeFree
  extract_lets off step rate time noted
  have hnoted : noted.timeKept = s.timeKept := rfl
  exact ⟨(State.timeKept_wr _ _ (by decide)).trans ((noted.timeKept_setTimeOff off).trans hnoted), rfl, rfl⟩

/-! ## The measures of an exchange (R325, R327) -/

/-- The exchange is over, and the neighbour heard. -/
def State.respHeard (s : State) (p : Nat) (blk : BitVec 64) : State :=
  { s.timeHear p blk with time := { (s.timeHear p blk).time with waiting := none } }

/-- The whole ticks of the offset between the two ways. -/
def timeWhole (out back : Int) : Int := (back - out + 65536) / 131072

/-- The asymmetry of port `p` in 0.25 ps steps. -/
def State.timeAsym (s : State) (p : Nat) : Int := if p < 6 then s.getInt (MESH_PASYM.ASYM p) * 4 else 0

/-- The phase: what remains of the offset beyond whole ticks. -/
def State.respPhase (s : State) (p : Nat) (out back : Int) : Int :=
  quarterPs (back - out - timeWhole out back * 131072) + s.timeAsym p

/-- Delay and phase in their registers. -/
def State.respShown (s : State) (p : Nat) (delay e : Int) : State :=
  (s.when (decide (p < 6)) (·.set (MESH_PHOP.DLY p) (Nat.min 65535 ((delay * 2000 * 2 + 393216) / (2 * 393216)).toNat))).set
    TIME_ERR.E (BitVec.ofInt 20 (max (-524288) (min 524287 e))).toNat

/-- D, the phase and the offset of an exchange, as the servo takes them. -/
def State.respMeasured (s : State) (p : Nat) (out back : Int) : State :=
  let u := s.respShown p (out + back) (s.respPhase p out back)
  { u with time := { u.time with
    ticks := -timeWhole out back, phase := s.respPhase p out back,
    hist := ((quarterPs (back - out) + s.timeAsym p) :: u.time.hist).take 16 } }

/-- What the device makes of the measures in its mode: the servo, or out of it where a whole tick is off; the correction in
free-run. -/
def State.respCorrected (s : State) (whole e : Int) (parent : BitVec 64) (t4 : BitVec 56) : State :=
  if s.timeNormal then
    if whole ≠ 0 then s.timeUnlock
    else
      let diff := parent - s.countAt t4
      let s := s.timeServo e
      s.when (s.timeNormal && decide (2 ^ 32 < diff.toInt.natAbs)) (fun s => { s with time := { s.time with reload := some diff } })
  else s.timeFree parent t4

/-- The parent's TIME at `t4`, from its TIME at `t3` and the delay. -/
def parentTime (ns : Word) (frac : BitVec 24) (delay : Int) : BitVec 64 :=
  (ns ++ frac ++ (0 : BitVec 8)) + BitVec.ofInt 64 (delay * timeInc.toNat / 131072)

theorem State.timeKept_respCorrected (s : State) (whole e : Int) (parent : BitVec 64) (t4 : BitVec 56) :
    (s.respCorrected whole e parent t4).timeKept = s.timeKept := by
  unfold State.respCorrected
  split_ifs
  · exact s.timeKept_timeUnlock
  · have hreload (u : State) (d : BitVec 64) :
        ({ u with time := { u.time with reload := some d } } : State).timeKept = u.timeKept := rfl
    exact (State.when_same _ State.timeKept (hreload _ _)).trans (s.timeKept_timeServo e)
  · exact (s.timeFree_spec parent t4).1

/-- Showing the measures writes two registers of their own. -/
theorem State.respShown_frame (s : State) {p : Nat} (hp : p < 8) (delay e : Int) : (s.respShown p delay e).timeKept = s.timeKept ∧
    (s.respShown p delay e).exceptRegs = s.exceptRegs := by
  have hphop : timeShows (MESH_PHOP.DLY p).addr := by
    simp only [timeShows, MESH_PHOP.DLY, R.MESH_PHOP, R.TIME_CFG, R.MESH_CFG, R.TIME_STAT]
    omega
  exact ⟨(State.timeKept_set _ _ (by decide)).trans (State.when_same _ State.timeKept (State.timeKept_set _ _ hphop)),
    (State.exceptRegs_set ..).trans (State.when_same _ State.exceptRegs (State.exceptRegs_set ..))⟩

theorem State.respMeasured_spec (s : State) {p : Nat} (hp : p < 8) (out back : Int) :
    let t := s.respMeasured p out back
    t.time = { s.time with
      ticks := -timeWhole out back, phase := s.respPhase p out back,
      hist := ((quarterPs (back - out) + s.timeAsym p) :: s.time.hist).take 16 } ∧
    t.rd R.TIME_CFG = s.rd R.TIME_CFG ∧ t.rd R.MESH_CFG = s.rd R.MESH_CFG ∧
    t.bit TIME_STAT.HOLDOVER = s.bit TIME_STAT.HOLDOVER ∧ t.exceptTime = s.exceptTime := by
  obtain ⟨hkept, hregs⟩ := s.respShown_frame hp (out + back) (s.respPhase p out back)
  have htime := State.time_of_exceptRegs_eq hregs
  simp only [State.timeKept, Prod.mk.injEq] at hkept
  obtain ⟨hcfg, hmesh, hholdover, -, -, -, -, -, hrest⟩ := hkept
  exact ⟨by rw [State.respMeasured, htime], hcfg, hmesh, hholdover, hrest⟩

/-! ## The exchange (R327, R328, R331) -/

section
variable {p : Fin 8} {blk : BitVec 64} {t2 t3 t4 x : BitVec 56} {ns : Word} {frac : BitVec 24} {k : BitVec 8}

theorem exec_timeRespReceive_none (h : s.time.waiting = none) : exec (.timeRespReceive p blk t3 ns frac t2 t4) s = .next s := by
  have hexec : exec (.timeRespReceive p blk t3 ns frac t2 t4) s = execTimeRespReceive p blk t3 ns frac t2 t4 s := rfl
  rw [hexec, execTimeRespReceive, h]

theorem exec_timeRespReceive_other (hwaiting : s.time.waiting = some (k, p.val, x)) (hseq : blk.extractLsb' 9 8 ≠ k) :
    exec (.timeRespReceive p blk t3 ns frac t2 t4) s = .next s := by
  have hexec : exec (.timeRespReceive p blk t3 ns frac t2 t4) s = execTimeRespReceive p blk t3 ns frac t2 t4 s := rfl
  rw [hexec, execTimeRespReceive, hwaiting]
  exact if_pos (by simp [hseq])

/-- The child's state once the exchange is over and its parent heard. -/
def State.respAccepted (s : State) (p : Nat) (blk : BitVec 64) : State := (s.respHeard p blk).setBit TIME_STAT.HOLDOVER false

/-- What the answer to an exchange leaves, before TIME_STAT shows it. -/
def State.respServed (s : State) (p : Nat) (out back : Int) (ns : Word) (frac : BitVec 24) (t4 : BitVec 56) : State :=
  (s.respMeasured p out back).respCorrected (timeWhole out back) (s.respPhase p out back) (parentTime ns frac (out + back)) t4

/-- A RESP of the awaited exchange, from the parent. -/
theorem exec_timeRespReceive (hwaiting : s.time.waiting = some (k, p.val, x)) (hport : s.timePort p = true)
    (hblk : blk.extractLsb' 0 9 = 0x155) (hseq : blk.extractLsb' 9 8 = k) (hparent : s.time.parent = some p.val)
    (hhops : blk.extractLsb' 17 5 ≠ 31) : exec (.timeRespReceive p blk t3 ns frac t2 t4) s =
      .next ((s.respAccepted p blk).respServed p (stampDiff x t2) (stampDiff t3 t4) ns frac t4).showStep.showTime := by
  have hexec : exec (.timeRespReceive p blk t3 ns frac t2 t4) s = execTimeRespReceive p blk t3 ns frac t2 t4 s := rfl
  have hnear : ¬ (((s.respHeard p blk).time.nb p).hops == 31) = true := by
    rw [show (s.respHeard p blk).time.nb p = (s.timeHear p blk).time.nb p from rfl, s.nb_timeHear]
    simpa using hhops
  rw [hexec, execTimeRespReceive, hwaiting]
  refine (if_neg ?_).trans ((if_neg hnear).trans (if_neg (not_not.mpr hparent)))
  rw [hport, BitVec.setWidth_eq_extractLsb' (by decide), hblk, hseq]
  simp

/-- What the exchange leaves of the state it found, and where it leads in either mode. -/
theorem State.respServed_spec (s : State) {p : Nat} (hp : p < 8) (out back : Int) (ns : Word) (frac : BitVec 24) (t4 : BitVec 56) :
    let t := (s.respServed p out back ns frac t4).showStep.showTime
    t.time.waiting = s.time.waiting ∧ t.time.ticks = -timeWhole out back ∧ t.time.nbs = s.time.nbs ∧
      t.bit TIME_STAT.HOLDOVER = s.bit TIME_STAT.HOLDOVER ∧ t.time.c = s.time.c ∧ t.exceptTime = s.exceptTime ∧
      (s.timeFixed = false → s.time.normal = true → timeWhole out back ≠ 0 →
        t.timeNormal = false ∧ t.time.hist = [] ∧ t.time.c0 = s.time.c) ∧
      (s.timeNormal = false → t.time.hist.length = min 16 (s.time.hist.length + 1) ∧ t.time.c0 = s.time.c) := by
  intro t
  let u := s.respMeasured p out back
  obtain ⟨hutime, hucfg, humesh, huholdover, hurest⟩ := s.respMeasured_spec hp out back
  have htime : t.time = (s.respServed p out back ns frac t4).time :=
    (State.time_showTime _).trans (State.sameButTimeStat_showStep _).time
  have hkept : t.timeKept = u.timeKept :=
    (State.timeKept_showTime _).trans ((State.timeKept_showStep _).trans (u.timeKept_respCorrected ..))
  simp only [State.timeKept, Prod.mk.injEq] at hkept
  obtain ⟨hcfg, hmesh, hholdover, hwaiting, hticks, hnbs, hc, -, hrest⟩ := hkept
  have hufixed : u.timeFixed = s.timeFixed := State.timeFixed_of_rd hucfg humesh
  have hfixed : t.timeFixed = s.timeFixed := (State.timeFixed_of_rd hcfg hmesh).trans hufixed
  have hunormal : u.timeNormal = s.timeNormal := by rw [State.timeNormal, hufixed, hutime, State.timeNormal]
  refine ⟨by rw [hwaiting, hutime], by rw [hticks, hutime], by rw [hnbs, hutime], hholdover.trans huholdover, by rw [hc, hutime],
    hrest.trans hurest, fun hfree hnormal hwhole => ?_, fun hfree => ?_⟩
  · have hin : u.timeNormal = true := hunormal.trans (State.timeNormal_of_normal hnormal)
    obtain ⟨hout, -⟩ := State.timeUnlock_spec (hufixed.trans hfree) (by rw [hutime, hnormal])
    rw [State.respServed, State.respCorrected, if_pos hin, if_pos hwhole, hout] at htime
    rw [State.timeNormal, hfixed, hfree, htime]
    exact ⟨rfl, rfl, by rw [hutime]; rfl⟩
  · have hout : ¬ u.timeNormal = true := by rw [hunormal, hfree]; decide
    obtain ⟨-, hc0, hhist⟩ := u.timeFree_spec (parentTime ns frac (out + back)) t4
    rw [State.respServed, State.respCorrected, if_neg hout] at htime
    rw [htime, hc0, hhist, hutime]
    exact ⟨List.length_take, rfl⟩

theorem TimeSt.nb_of_nbs_eq {v w : TimeSt} (h : v.nbs = w.nbs) (p : Nat) : v.nb p = w.nb p := by rw [TimeSt.nb, h, TimeSt.nb]

/-- The exchange is over before the servo takes it up. -/
theorem State.respAccepted_spec (s : State) (p : Nat) (blk : BitVec 64) :
    let t := s.respAccepted p blk
    t.time = { (s.timeHear p blk).time with waiting := none } ∧ t.timeFixed = s.timeFixed ∧ t.timeNormal = s.timeNormal ∧
      t.bit TIME_STAT.HOLDOVER = false ∧ t.exceptTime = s.exceptTime := by
  intro t
  have hregs : t.exceptRegs = (s.respHeard p blk).exceptRegs := State.exceptRegs_set ..
  have htime : t.time = { (s.timeHear p blk).time with waiting := none } := State.time_of_exceptRegs_eq hregs
  have hheard (a : Nat) : (s.respHeard p blk).rd a = s.rd a := State.rd_of_regs_eq rfl a
  have hrd {a : Nat} (ha : a ≠ R.TIME_STAT) : t.rd a = s.rd a := ((s.respHeard p blk).rd_set_ne _ _ ha).trans (hheard a)
  have hfixed : t.timeFixed = s.timeFixed := State.timeFixed_of_rd (hrd (by decide)) (hrd (by decide))
  have hnormal : t.timeNormal = s.timeNormal := by
    rw [State.timeNormal, hfixed, htime]
    rfl
  have hheardRest : (s.respHeard p blk).exceptTime = s.exceptTime := (State.exceptTime_withTime ..).trans (s.exceptTime_withTime _)
  exact ⟨htime, hfixed, hnormal, State.bit_setBit_same _ _ rfl (by decide),
    (State.exceptTime_of_exceptRegs_eq hregs).trans hheardRest⟩

theorem State.tick_of_exceptTime_eq {t : State} (h : t.exceptTime = s.exceptTime) : t.tick = s.tick := (congrArg State.tick h :)

theorem exec_timeRespReceive_spec (hwaiting : s.time.waiting = some (k, p.val, x)) (hport : s.timePort p = true)
    (hblk : blk.extractLsb' 0 9 = 0x155) (hseq : blk.extractLsb' 9 8 = k) (hparent : s.time.parent = some p.val)
    (hhops : blk.extractLsb' 17 5 ≠ 31) : ∃ t, exec (.timeRespReceive p blk t3 ns frac t2 t4) s = .next t ∧
      t.time.waiting = none ∧ t.time.ticks = -timeWhole (stampDiff x t2) (stampDiff t3 t4) ∧
      (t.time.nb p).hops = blk.extractLsb' 17 5 ∧ t.bit TIME_STAT.HOLDOVER = false ∧ t.tick = s.tick ∧ t.time.c = s.time.c ∧
      (s.timeNormal = true → s.bit TIME_CFG.MASTER = false ∧ s.singleDevice = false →
        timeWhole (stampDiff x t2) (stampDiff t3 t4) ≠ 0 →
          t.timeNormal = false ∧ t.time.hist = [] ∧ t.time.c0 = s.time.c) ∧
      (s.timeNormal = false → t.time.hist.length = min 16 (s.time.hist.length + 1) ∧ t.time.c0 = s.time.c) ∧
      t = { s with regs := t.regs, time := t.time, raised := t.raised } := by
  have hexec := exec_timeRespReceive (t2 := t2) (t3 := t3) (t4 := t4) (ns := ns) (frac := frac)
    hwaiting hport hblk hseq hparent hhops
  obtain ⟨hvtime, hvfixed, hvnormal, hvholdover, hvrest⟩ := s.respAccepted_spec p blk
  obtain ⟨hdone, hticks, hnbs, hholdover, hc, hrest, hleft, hfree⟩ :=
    (s.respAccepted p blk).respServed_spec p.isLt (stampDiff x t2) (stampDiff t3 t4) ns frac t4
  rw [hvtime] at hdone hnbs hc hleft hfree
  have hframe := hrest.trans hvrest
  refine ⟨_, hexec, hdone, hticks, ?_, hholdover.trans hvholdover, State.tick_of_exceptTime_eq hframe, hc,
    fun hnormal hslave hwhole => ?_, fun hout => hfree (hvnormal.trans hout), State.eq_of_exceptTime_eq hframe⟩
  · rw [TimeSt.nb_of_nbs_eq hnbs]
    exact congrArg TimeNb.hops (s.nb_timeHear p blk)
  · have hfixed : s.timeFixed = false := State.timeFixed_of_free hslave.1 hslave.2
    exact hleft (hvfixed.trans hfixed) (State.normal_of_timeNormal hfixed hnormal) hwhole

end

end

/-- Settles O43: exchanges, their ends, requests, the switch, the reload, reads and the wrap, each by its law above. -/
theorem timeFollowsTheParent : Obligations.TimeFollowsTheParent := by
  unfold Obligations.TimeFollowsTheParent
  intro s p t1 t2 t3 t4 blk d ns frac k u x due free whole
  exact ⟨exec_timeExchange_spec, exec_timeExchange_idle, exec_timeReqReceive_spec, exec_timeReqReceive_refused,
    exec_timeRespReceive_none, exec_timeRespReceive_other, exec_timeRespReceive_spec, exec_exchangeTimeout_spec,
    exec_exchangeTimeout_none, exec_timeNormalRequest_normal, exec_timeNormalRequest_spec,
    fun hfree => exec_timeFree_spec hfree.1 hfree.2, exec_timeSet, exec_timeSet_refused, exec_timeNormalSwitch_spec,
    exec_timeNormalSwitch_waits, exec_timeParentReload, exec_timeParentReload_idle, exec_timeNsRead_spec s,
    fun hnormal hbefore hnow hdone => ⟨_, exec_timeWrap hnormal hbefore hnow hdone, rfl, rfl, rfl⟩, exec_timeWrap_idle⟩

end Sys2Proof.Machine
end
